-- ==== Sys2Proof/Word.lean ====
section
/-! DEFINITION. The words of the part: 32-bit registers, their 64-bit pairs, bytes, and the sparse map in canonical form
that every large store of the state is held in. -/

namespace Sys2Proof

/-- A register word. -/
abbrev W32 := BitVec 32

/-- A 64-bit register, two words with the low word at the lower address (R39). -/
abbrev W64 := BitVec 64

/-- A byte. -/
abbrev Byte := BitVec 8

/-- A store by key: keys strictly rising, and no entry equal to what an unlisted key reads as (`Machine.swf`). -/
abbrev SMap (α : Type) := List (Nat × α)

end Sys2Proof
end

