-- ==== Sys2Proof/Syntax.lean ====
section
/-! DEFINITION. The commands: one constructor of `Instr` for each row of the opcode table, with the row's operands. A
command is an operation that a requester sends over the register fabric, a frame or datagram on a link, or an event inside
or at the pins of the part. What the part itself cannot compute from its own state (a measured current, a correlator sum, a
result of the vendor firmware, the bytes of a received frame) is an operand of the event that brings it. -/

namespace Sys2Proof

/-- The requesters of the register fabric, in the order of R39 and R40. -/
inductive Requester where
  | hsl | ivy0 | ivy1 | mp
  deriving DecidableEq, Repr

/-- The clock domains, in the order of R82. -/
inductive Domain where
  | ckSys | ckLoop | ckNet | ckCan | ckEdge | ckSense | ckNav | ckAon
  deriving DecidableEq, Repr

/-- A navigation time fix: the solution's time since the GPS epoch in ns, the crystal's and the TCXO's offset against it in ppb,
and the time uncertainty in ns (R85, R97, R99, R101). -/
structure TimeFix where
  gpsNs : Nat
  xoPpb : Int
  tcxoPpb : Int
  uncNs : Nat
  deriving DecidableEq, Repr

/-- What the sense chain has of a channel over the frame that ends: the mean of its squared current in mA², CH_SENSE's two codes, and a
resistance measurement in mΩ where one ended (R298, R305, R334). -/
structure ChanSense where
  i2 : Nat := 0
  iMeas : Fin 4096 := 0
  vDrain : Fin 4096 := 0
  rMeas : Option (Fin 16777216) := none
  deriving DecidableEq, Repr

/-- What the sense chain has of a bank over the frame that ends: its mean high-side current, the mean sum of its channels, both in mA,
and the mean of its squared current in mA² (R306, R339). -/
structure BankSense where
  meanMA : Nat := 0
  sumMA : Nat := 0
  i2 : Nat := 0
  deriving DecidableEq, Repr

/-- What is measured at a turn: the supply current in 0.1 A, VBAT in mV, the die temperature in 0.1 °C, the controller's input power
and the rails' recharge power in 0.1 W, the rail voltages in 10 mV, the two sensors of a tile in 0.1 °C, the channels and banks, the
CK_SYS cycles that pose prediction takes, and whether supplies and temperatures stood in their ranges over the frame
(R15, R299, R332 to R340, R364). -/
structure TurnEnv where
  supI : Nat := 0
  vbat : Nat := 12000
  dieT : Int := 250
  ctrlP : Nat := 0
  rechargeP : Nat := 0
  railV : List Nat := []
  tiles : List (Fin 8 × Int × Int) := []
  chans : List (Fin 512 × ChanSense) := []
  banks : List (Fin 64 × BankSense) := []
  poseCycles : Nat := 0
  supplyOk : Bool := true
  vlogicOk : Bool := true
  tempOk : Bool := true
  deriving DecidableEq, Repr
/-- What an acquisition job found (R147): the largest cell P1 and P2 beside it, the code phase in half-chips and the bin of P1,
and the C/N0 estimate in 0.1 dB-Hz. -/
structure AcqOutcome where
  p1 : Nat := 0
  p2 : Nat := 1
  code : Fin 2046 := 0
  bin : Nat := 0
  cn0 : Nat := 0
  deriving DecidableEq, Repr
/-- The ten correlator sums of a dump, I and Q on the very early, early, prompt, late and very late taps (R149, R167). -/
structure Taps where
  veI : Int := 0
  veQ : Int := 0
  eI : Int := 0
  eQ : Int := 0
  pI : Int := 0
  pQ : Int := 0
  lI : Int := 0
  lQ : Int := 0
  vlI : Int := 0
  vlQ : Int := 0
  deriving DecidableEq, Repr
/-- What one millisecond of a tracking channel gives (R149, R151, R153): the correlator sums, where the loops leave the code and by how
much they advance the carrier since the last dump, the Doppler in mHz, and the estimate of C/N0 in 0.1 dB-Hz. -/
structure Dump where
  taps : Taps := {}
  code : Fin 1047552 := 0
  carr : Int := 0
  dop : Int := 0
  cn0 : Nat := 0
  deriving DecidableEq, Repr
/-- What the integer search of a baseline found at a snapshot (R170, R171): about where the best candidate and the runner-up put the
baseline, east, north and up in mm. The model forms the integers, the sums and the solution from them. -/
structure BaselineSearch where
  best : Option (Int × Int × Int) := none
  next : Option (Int × Int × Int) := none
  deriving DecidableEq, Repr

/-- A 20 Hz snapshot (R168): what the search of each baseline found. -/
structure BaselineSet where
  bl1 : BaselineSearch := {}
  bl2 : BaselineSearch := {}
  bl3 : BaselineSearch := {}
  deriving DecidableEq, Repr
/-- A 10 Hz navigation solution (R158, R184): whether it is 3D, the usable satellites, PDOP x 100, its time, its position (1e-7 degree, mm),
its accuracy in mm, the receiver's clock bias in ns and drift in ppb, the measured ratio of the two oscillators in ppb, GPS_UTC, and the
directions of the satellites with ephemeris, by PRN less one: east, north and up in 10^-9. -/
structure NavSol where
  fix3d : Bool := false
  sats : Nat := 0
  pdop : Nat := 0
  time : TimeFix := ⟨0, 0, 0, 0⟩
  lat : Int := 0
  lon : Int := 0
  h : Int := 0
  hacc : Nat := 0
  bias : Int := 0
  drift : Int := 0
  ratio : Int := 0
  gpsUtc : BitVec 32 := 0
  dirs : List (Fin 32 × Int × Int × Int) := []
  deriving DecidableEq, Repr
/-- A burst in NEAP (R159): for each satellite of the table, in its order, the residual in ns, P1 / P2 in Q8.8, and C/N0 in 0.1 dB-Hz. -/
structure BurstResult where
  sats : List (Int × Nat × Nat) := []
  deriving DecidableEq, Repr
/-- What a scrub finds (R220 to R222): a single-symbol error, a double-symbol error in an 8-cell word of a window slot, or one in a stored
tile, numbered as the directory lists them. -/
inductive ScrubError where
  | corrected
  | window (slot : Nat) (word : Fin 8192)
  | stored (index : Nat)
  deriving DecidableEq, Repr
/-- Why a rail fails (R300): not ready within its 50 ms, above its limit, or the converter itself. -/
inductive RailFailure where
  | chargeTimeout | overVoltage | converter
  deriving DecidableEq, Repr
/-- How the record store takes a write (R440, R441): it reads back, it needs a spare sector, the spare fails too, or it does not answer. -/
inductive StoreOutcome where
  | written
  | respared (sector spare : Nat)
  | spareFailed (sector : Nat)
  | noAnswer
  deriving DecidableEq, Repr
/-- A drain of the record buffer (R432): how the store takes it, and whether the bedrock store takes what is written there (R443). -/
structure DrainOutcome where
  store : StoreOutcome := .written
  bedrockOk : Bool := true
  deriving DecidableEq, Repr
/-- A wake source by its bit of WAKE_EN (R452), whether it becomes active or ends, and whether VLOGIC stands in its range (R453). -/
structure WakeSource where
  bit : Fin 8
  active : Bool := true
  vlogicOk : Bool := true
  deriving DecidableEq, Repr
/-- A frame on a CAN bus: remote, bit-rate switched, FD, identifier extended, identifier, DLC, data. -/
structure CanFrame where
  remote : Bool := false
  brs : Bool := false
  fdf : Bool := false
  ide : Bool := true
  id : Fin 536870912 := 0
  dlc : Fin 16 := 8
  data : List Byte := []
  deriving DecidableEq, Repr
/-- The end of a transaction on the host serial link: its host check word (R44), and, where the host raises HSL_CS_N while the words of
the transaction execute, how many of them have run by then (R48). -/
structure HslCheck where
  word : W32
  cut : Option Nat := none
  deriving DecidableEq, Repr
/-- The supply outputs of the module (R528). -/
inductive SupplyOutput where
  | host5v | vio3v3 | vsns5 | vsns12
  | imu5v (port : Fin 2)
  | antenna (port : Fin 4)
  deriving DecidableEq, Repr

/-- The commands, in the order of the opcode table. -/
inductive Instr where
  | frameTurn (env : TurnEnv)
  | localTurn (d : Domain)
  | gatherTimeout
  | globalGo (req : Requester)
  | sdeStage (cycles : Nat)
  | edsStage (cycles : Nat)
  | breakwaterAdmission (cycles : Nat)
  | edgeCommit (cycles : Nat) (badReadback : List (Fin 512))
  | frameOverrun
  | safeClose
  | clockLoss (d : Domain)
  | clockRecovery (d : Domain)
  | registerWrite (req : Requester) (addr : Nat) (data : W32)
  | turnArm (req : Requester) (page : Fin 256)
  | turnDisarm (req : Requester) (page : Fin 256)
  | pageLock (req : Requester) (page : Fin 256)
  | pageUnlock (req : Requester) (page : Fin 256)
  | irqSet (req : Requester) (page : Fin 256) (mask : W32)
  | irqAcknowledge (req : Requester) (page : Fin 256) (mask : W32)
  | readClear (req : Requester) (addr : Nat)
  | wideLowRead (req : Requester) (addr : Nat)
  | wideHighWrite (req : Requester) (addr : Nat) (data : W32)
  | wideLowWrite (req : Requester) (addr : Nat) (data : W32)
  | ts80NsRead (req : Requester) (addr : Nat)
  | transactionTimeout (req : Requester) (addr : Nat)
  | hslRead (cmd addr : W32) (chk : HslCheck)
  | hslWrite (cmd addr : W32) (data : List W32) (chk : HslCheck)
  | hslReadFixed (cmd addr : W32) (chk : HslCheck)
  | hslWriteFixed (cmd addr : W32) (data : List W32) (chk : HslCheck)
  | hslAbort
  | hslStall
  | ivyHello (frame : List Byte)
  | ivyConfirm (frame : List Byte)
  | ivyRequest (frame : List Byte)
  | ivyClose (frame : List Byte)
  | ivyIdleTimeout (session : Fin 2)
  | pairStore (req : Requester)
  | pairErase (req : Requester)
  | tbsRateSteer
  | incrWrite (req : Requester) (data : W64)
  | adjWrite (req : Requester) (data : W32)
  | tbnStepAdd (req : Requester)
  | tbnLoad (req : Requester)
  | tbnTimeout
  | capNow (req : Requester) (data : W32)
  | tbgLock (fix : TimeFix)
  | tbgHoldover
  | holdoverExpiry
  | tbgReturn (fix : TimeFix)
  | tbgStep
  | tbgSlewDone
  | ppsPulse
  | rtcLoad
  | stageWrite (req : Requester) (data : List W32)
  | idiEmpty (req : Requester)
  | idiVerify (req : Requester)
  | verificationComplete
  | idiStore (req : Requester)
  | idiErase (req : Requester)
  | norOpComplete
  | powerOnReset
  | poseSample (req : Requester) (tbase : Bool)
  | antShort (port : Fin 4) (milliA : Nat)
  | antBiasRetry (port : Fin 4) (milliA : Nat)
  | antOpen (port : Fin 4) (milliA : Nat)
  | agcUpdate (port : Fin 4) (ratio : Nat)
  | jobPush (req : Requester) (data : W32)
  | acqFlush (req : Requester) (data : W32)
  | acqJobEnd (res : AcqOutcome)
  | acqResultRead (req : Requester) (words : Nat)
  | tcStart (req : Requester) (ch : Fin 64)
  | tcStop (req : Requester) (ch : Fin 64)
  | trackingDump (ch : Fin 64) (dump : Dump)
  | tcPullInDone (ch : Fin 64)
  | tcBitSync (ch : Fin 64) (edge : Nat)
  | tcFrameSync (ch : Fin 64) (inverted : Bool) (start : Nat)
  | tcPreambleMiss (ch : Fin 64)
  | tcLoss (ch : Fin 64)
  | pullinTimeout (ch : Fin 64)
  | measEpoch (lagNs : Nat)
  | measRead (req : Requester) (words : Nat)
  | navWord (ch : Fin 64) (word : Nat) (bits : BitVec 30) (missing : Bool)
  | navwRead (req : Requester) (words : Nat)
  | baselineSnapshot (snap : BaselineSet)
  | navSolution (sol : NavSol)
  | integrityCheck (lagNs : Nat)
  | clkGateRelease
  | acceptClock (req : Requester)
  | clearAdvisory (req : Requester)
  | neapBurst (burst : BurstResult)
  | burstTableExpiry
  | jobOpen (req : Requester)
  | jobLoad (req : Requester)
  | jobClose (req : Requester)
  | jobDiscard (req : Requester)
  | mapPaint
  | pageInComplete (tile : Nat) (readable : Bool)
  | tileWriteBack (tile : Nat) (readsBack : Bool)
  | mapScrub (errs : List ScrubError)
  | exportFull (req : Requester)
  | exportSince (req : Requester)
  | exportAbandon (req : Requester)
  | exportPageRequest (req : Requester) (page : Nat)
  | exportPageReady
  | tileImport (req : Requester)
  | prescriptionSubmit (req : Requester)
  | timelineSelect (req : Requester) (ch : Fin 512)
  | timelineRead (req : Requester) (words : Nat)
  | actionOn (req : Requester)
  | actionOff (req : Requester)
  | actionRate (req : Requester)
  | actionRelease (req : Requester)
  | actionCancel (req : Requester) (tag : Nat)
  | positionExpiry
  | latencySignature (ch : Fin 512) (closing : Bool) (sigNs : Option Nat)
  | diagStreamRead (req : Requester) (words : Nat)
  | edgeExecute (ch : Fin 512)
  | boostEnd (ch : Fin 512) (ttpNs : Option Nat) (energy : Nat)
  | ttpHigh (ch : Fin 512)
  | peakEnd (ch : Fin 512) (ttpNs : Option Nat)
  | decayEnd (ch : Fin 512) (afterNs : Nat)
  | waitStart (ch : Fin 512)
  | waitSlackExpiry (ch : Fin 512)
  | maxOnExpiry (ch : Fin 512)
  | loadShort (ch : Fin 512) (milliA : Nat)
  | freewheelMissing (ch : Fin 512)
  | openLoadOn (ch : Fin 512) (milliA : Nat)
  | openLoadOff (ch : Fin 512)
  | stuckOn (ch : Fin 512) (milliA : Nat)
  | senseDrift (bank : Fin 64) (bankMA sumMA : Nat)
  | tempPair (tile : Fin 8) (tempA tempB : Int)
  | queueEccError (ch : Fin 512)
  | railReady (rail : Fin 4) (microF : Option Nat)
  | railNotReady (rail : Fin 4) (centiV : Nat)
  | railFault (rail : Fin 4) (why : RailFailure)
  | railClr (req : Requester) (rail : Fin 4)
  | channelFaultClear (req : Requester) (bank : Fin 64) (mask : Fin 256)
  | bankFaultClear (req : Requester) (bank : Fin 64)
  | tileClear (req : Requester) (tile : Fin 8)
  | inrushWindowEnd (ch : Fin 512)
  | inrushExcess (ch : Fin 512) (milliA : Nat)
  | overload (ch : Fin 512) (milliA : Nat)
  | bankTrip (bank : Fin 64) (bankMA : Nat) (samples : List Nat) (clamped : List (Fin 8))
  | bankReclose (bank : Fin 64)
  | sortNodeTest (bank : Fin 64) (bankMA : Nat)
  | sortStep (bank : Fin 64) (bankMA chanMA : Nat)
  | sortEnd (bank : Fin 64)
  | lossHoldExpiry (ch : Fin 512)
  | strobeLoss
  | ledgerFlush (ok : Bool)
  | ledgerSnapshot (req : Requester)
  | newSession (req : Requester)
  | flushNow (req : Requester)
  | snapshotRead (req : Requester) (words : Nat)
  | ledgerEccError (ch : Fin 512)
  | loopSample (loop : Fin 128)
  | loopEvaluation (loop : Fin 128)
  | evalMiss (loop : Fin 128)
  | loopClear (req : Requester) (data : W32)
  | soundingArm (req : Requester) (mask : Nat)
  | soundingForce (req : Requester) (mask : Nat)
  | soundingStop (req : Requester) (mask : Nat)
  | soundingSelect (req : Requester) (trace : Fin 16)
  | soundingRead (req : Requester) (words : Nat)
  | hbKick (req : Requester) (data : W32)
  | hostLost
  | continueExpiry
  | mpKick (req : Requester) (data : W32)
  | mpWatchdogExpiry
  | mpRestart (req : Requester)
  | mpRelease (req : Requester)
  | mpRestartDone
  | hostPinReset
  | softReset (req : Requester)
  | sysWatchdog
  | powerFailWarning (milliV : Nat)
  | powerFailFlushDone (inTime : Bool)
  | powerFailRecovery
  | outputArm (req : Requester)
  | outputDisarm (req : Requester)
  | recordIntake
  | suppressedSummary (code : Fin 1024)
  | bufferDrain (outcome : DrainOutcome)
  | drainNow (req : Requester)
  | recNonce (req : Requester)
  | recAuth (req : Requester)
  | authComplete
  | clearComplete (written : Bool)
  | readStart (req : Requester)
  | recordRead (req : Requester) (words : Nat)
  | keyLoad (req : Requester) (slot : Nat) (written : Bool)
  | failureLogRead (req : Requester) (words : Nat)
  | rateLimitWrite (req : Requester) (index : Fin 512) (data : W32)
  | powerEntry (req : Requester)
  | powerEntrySequence
  | wakeEvent (src : WakeSource)
  | wakeExit
  | measuredStartStage (stage : Fin 4) (image : List Byte) (valid : Bool)
  | blobOpen (req : Requester)
  | blobWrite (req : Requester) (data : List W32)
  | blobFinish (req : Requester)
  | measExtend (req : Requester) (which : Nat)
  | reportRequest (req : Requester)
  | reportReady (keyOk : Bool)
  | reportRead (req : Requester) (words : Nat)
  | attConfirm (req : Requester) (data : W32)
  | policySet (req : Requester) (data : W32)
  | canFrameReceive (port : Fin 2) (frame : CanFrame)
  | canBusOff (port : Fin 2)
  | canBusRecovery (port : Fin 2)
  | canTxPush (req : Requester) (port : Fin 2)
  | canRxRead (req : Requester) (port : Fin 2) (words : Nat)
  | cantxPeriodEnd (port : Fin 2) (slot : Fin 8)
  | ethFrameReceive (frame : List Byte) (fcsOk : Bool)
  | ethTxPush (req : Requester) (data : W32)
  | ethRxRead (req : Requester) (words : Nat)
  | linkChange (up : Bool)
  | ainScan (samples : List Nat)
  | ainShuntReconnect (input : Fin 48)
  | finEdge (input : Fin 96) (quadHigh : Bool)
  | imuTransaction (port : Fin 2) (rx : List Byte)
  | imuStale (port : Fin 2)
  | timeMark (pin : Fin 4) (rising : Bool)
  | timeMarkRead (req : Requester) (words : Nat)
  | vbatLow (milliV : Nat)
  | vbatRecovery (milliV : Nat)
  | latencyTableEccError (ch : Fin 512)
  | supplyOutputLimit (output : SupplyOutput)
  | canFrameSent (port : Fin 2)
  | powerLoss
  | ppsPulseEnd
  deriving DecidableEq, Repr

end Sys2Proof
end

