-- ==== Sys2Proof/Config.lean ====
section
/-! DEFINITION. What the spec leaves open and the model leaves free: constants with no body, so that nothing can be proved of
their values. -/

namespace Sys2Proof.Config

/-- The signal quality that the PHY measures on its n-th link (R494). -/
opaque linkQuality : Nat → BitVec 3

/-- The signature of a report's bytes under the device identity key, r and s (R466). -/
opaque reportSignature : List Byte → BitVec 512

/-- The certificates of a report (R466): 0 the device identity, 1 the device CA. -/
opaque certificate : Nat → List Byte

/-- The n-th nonce that the recorder draws (R438), and the n-th that an Ivyth session opens with (R53). -/
opaque recorderNonce : Nat → BitVec 128
opaque sessionNonce : Nat → BitVec 128

/-- The identifier that the n-th Ivyth session draws (R53). -/
opaque sessionIdent : Nat → BitVec 16

/-- The service key in slot 0 of the recorder, X then Y (R436). -/
opaque serviceKey : BitVec 512

/-- The sample of the n-th channel of a bank or analog input, at a TB-M, that the operand of its command does not give (R318, R481). -/
opaque missingSample : Nat → Nat → Nat

/-- The lock indicator, in Q1.15, of an integration whose prompt sums are both 0 (R149), and the DISTORT metric, in 10^-4, of a dump whose
prompt power is 0 (R182), for the n-th code period of a channel. -/
opaque lockOfNothing : Nat → Int
opaque distortOfNothing : Nat → Nat

/-- The firmware's prediction for a satellite at the TB-M of a NEAP entry (R159): code phase in 1/1024 chip, and Doppler in mHz. -/
opaque burstPrediction : Nat → Nat → Nat × Int

end Sys2Proof.Config
end

