-- ==== Sys2Proof/Machine/Bits.lean ====
section
/-! DEFINITION. Bit fields, sign, byte order and the sparse map: the helpers that every block uses. -/

namespace Sys2Proof.Machine

/-- Bits `hi`..`lo` of a word, as a number. -/
def field (w : W32) (hi lo : Nat) : Nat := (w.toNat >>> lo) % 2 ^ (hi + 1 - lo)

/-- Bits `hi`..`lo` of a word read as a two's complement number. -/
def fieldS (w : W32) (hi lo : Nat) : Int :=
  let n := field w hi lo
  let m := 2 ^ (hi - lo)
  if n < m then (n : Int) else (n : Int) - (2 * m : Nat)

/-- Bit `b` of a word. -/
def bitOf (w : W32) (b : Nat) : Bool := w.toNat.testBit b

/-- A word with bits `hi`..`lo` replaced by `v`. -/
def putField (w : W32) (hi lo v : Nat) : W32 :=
  let m := (2 ^ (hi + 1 - lo) - 1) <<< lo
  (w &&& ~~~(BitVec.ofNat 32 m)) ||| BitVec.ofNat 32 ((v % 2 ^ (hi + 1 - lo)) <<< lo)

/-- A word with bit `b` set to `v`. -/
def putBit (w : W32) (b : Nat) (v : Bool) : W32 := putField w b b (if v then 1 else 0)

/-- A number as a word, wrapping. -/
def w32 (n : Nat) : W32 := BitVec.ofNat 32 n

/-- A signed number as a word, wrapping. -/
def w32i (n : Int) : W32 := BitVec.ofInt 32 n

/-- A number held at its greatest value, as a saturating register is. -/
def sat32 (n : Nat) : W32 := if n ≥ 2 ^ 32 then 0xFFFFFFFF#32 else BitVec.ofNat 32 n

/-- A signed number held in the range of 32 bits. -/
def satI32 (n : Int) : W32 :=
  if n ≥ 2 ^ 31 then 0x7FFFFFFF#32 else if n < -(2 ^ 31) then 0x80000000#32 else BitVec.ofInt 32 n

/-- The low and the high word of a 64-bit value. -/
def lo32 (n : Nat) : W32 := BitVec.ofNat 32 n
def hi32 (n : Nat) : W32 := BitVec.ofNat 32 (n / 2 ^ 32)

/-- A number as 64 bits read in two's complement. -/
def signed64 (n : Nat) : Int :=
  let m : Nat := n % 2 ^ 64
  if m < 2 ^ 63 then (m : Int) else (m : Int) - 2 ^ 64

/-- A signed number as the 64 bits that hold it. -/
def unsigned64 (n : Int) : Nat := (n % (2 ^ 64 : Int)).toNat

/-- A number limited to `lo`..`hi`. -/
def clampI (lo hi x : Int) : Int := if x < lo then lo else if hi < x then hi else x

/-- Division of integers rounded to nearest, halves away from zero. -/
def divRound (a : Int) (b : Nat) : Int :=
  if b = 0 then 0 else if a ≥ 0 then (2 * a + b) / (2 * b) else -((2 * (-a) + b) / (2 * b))

/-- Division of naturals rounded up. -/
def ceilDiv (a b : Nat) : Nat := if b = 0 then 0 else (a + b - 1) / b

/-- The bytes of a word, most significant first. -/
def bytesBE (w : W32) : List Byte :=
  [BitVec.ofNat 8 (w.toNat >>> 24), BitVec.ofNat 8 (w.toNat >>> 16), BitVec.ofNat 8 (w.toNat >>> 8), BitVec.ofNat 8 w.toNat]

/-- The bytes of a word, least significant first. -/
def bytesLE (w : W32) : List Byte := (bytesBE w).reverse

/-- `n` bytes of a number, most significant first. -/
def natBE : Nat → Nat → List Byte
  | 0, _ => []
  | k + 1, n => BitVec.ofNat 8 (n >>> (8 * k)) :: natBE k n

/-- The number that bytes spell, most significant first. -/
def beNat (bs : List Byte) : Nat := bs.foldl (fun a b => a * 256 + b.toNat) 0

/-- The number that bytes spell, least significant first. -/
def leNat (bs : List Byte) : Nat := beNat bs.reverse

/-- Bytes gathered into words, most significant byte first; a short last group is padded with zero bytes. -/
def wordsBE : List Byte → List W32
  | a :: b :: c :: d :: r => BitVec.ofNat 32 (beNat [a, b, c, d]) :: wordsBE r
  | [] => []
  | [a] => [BitVec.ofNat 32 (beNat [a, 0, 0, 0])]
  | [a, b] => [BitVec.ofNat 32 (beNat [a, b, 0, 0])]
  | [a, b, c] => [BitVec.ofNat 32 (beNat [a, b, c, 0])]

/-- `n` bytes of a list from position `i`, a missing byte reading 0. -/
def slice (bs : List α) (i n : Nat) : List α := (bs.drop i).take n

/-- What a sparse map holds at a key, `d` giving the value of an unlisted key. -/
def sget {α : Type} (d : Nat → α) : SMap α → Nat → α
  | [], k => d k
  | (k', v) :: r, k => if k = k' then v else sget d r k

/-- A sparse map without a key. -/
def serase {α : Type} (m : SMap α) (k : Nat) : SMap α := m.filter (fun p => p.1 ≠ k)

/-- A sparse map with an entry put in the place of its key. -/
def sinsert {α : Type} : SMap α → Nat → α → SMap α
  | [], k, v => [(k, v)]
  | (k', v') :: r, k, v =>
    if k < k' then (k, v) :: (k', v') :: r
    else if k = k' then (k, v) :: r
    else (k', v') :: sinsert r k v

/-- A sparse map with `k` set to `v`; a value that an unlisted key reads as is not listed. -/
def sset {α : Type} [DecidableEq α] (d : Nat → α) (m : SMap α) (k : Nat) (v : α) : SMap α :=
  if v = d k then serase m k else sinsert m k v

/-- The canonical form: keys strictly rising, no entry that an unlisted key would read as. -/
def swf {α : Type} [DecidableEq α] (d : Nat → α) (m : SMap α) : Bool :=
  decide (m.Pairwise (fun p q => p.1 < q.1)) && m.all (fun p => decide (p.2 ≠ d p.1))

/-- The listed entry of a key, if any. -/
def sfind {α : Type} (m : SMap α) (k : Nat) : Option α := (m.find? (fun p => p.1 = k)).map (·.2)

/-- A list with its `i`-th element replaced. -/
def setAt (l : List α) (i : Nat) (v : α) : List α := l.set i v

/-- A list with its `i`-th element changed by `f`. -/
def modAt (l : List α) (i : Nat) (f : α → α) : List α := l.modify i f

/-- A set of numbers kept in rising order. -/
def setInsert : List Nat → Nat → List Nat
  | [], k => [k]
  | x :: r, k => if k < x then k :: x :: r else if k = x then x :: r else x :: setInsert r k

end Sys2Proof.Machine
end

