-- ==== Sys2Proof/Machine/RegAddr.lean ====
section
/-! DEFINITION. The addresses of the registers, under the names the spec gives them: `<block>_<register>`, with the
indices of repeated pages, entries and registers as arguments (R20, R21 and each chapter's map). -/

namespace Sys2Proof.Machine.Reg

/-! HDR -/
def MODE (p : Nat) : Nat := 0xC + 0x1000 * p
def CTRL (p : Nat) : Nat := 0x10 + 0x1000 * p
def STATUS (p : Nat) : Nat := 0x14 + 0x1000 * p
def FAULT (p : Nat) : Nat := 0x18 + 0x1000 * p
def FAULT_EN (p : Nat) : Nat := 0x1C + 0x1000 * p
def IRQ_RAW (p : Nat) : Nat := 0x20 + 0x1000 * p
def IRQ_EN (p : Nat) : Nat := 0x24 + 0x1000 * p
def IRQ_PEND (p : Nat) : Nat := 0x28 + 0x1000 * p
def IRQ_SET (p : Nat) : Nat := 0x2C + 0x1000 * p
def TURN_ARM (p : Nat) : Nat := 0x30 + 0x1000 * p
def TURN_SEQ (p : Nat) : Nat := 0x34 + 0x1000 * p
def LOCK (p : Nat) : Nat := 0x38 + 0x1000 * p
def SCRATCH (p : Nat) : Nat := 0x3C + 0x1000 * p
def LEN_REJ (p : Nat) : Nat := 0x40 + 0x1000 * p

/-! SYS -/
def SYS_RESET_CAUSE : Nat := 0x44
def SYS_RESET_CNT : Nat := 0x48
def SYS_LAST_RST_TBM : Nat := 0x4C
def SYS_OUT_STATE : Nat := 0x54
def SYS_CAPS_CH : Nat := 0x58
def SYS_CAPS_UNITS : Nat := 0x5C
def SYS_IRQ_SUM (i : Nat) : Nat := 0x60 + 4 * i
def SYS_DEV_SERIAL : Nat := 0x80
def SYS_RST_CMD : Nat := 0x100
def SYS_OUT_ARM : Nat := 0x104

/-! CLK -/
def CLK_CK_OK : Nat := 0x1044
def CLK_PLL_LOCK : Nat := 0x1048
def CLK_CK_LOSS_CNT : Nat := 0x104C
def CLK_XO_PPB : Nat := 0x1050
def CLK_TCXO_PPB : Nat := 0x1054

/-! FRM -/
def FRM_FRAME_SEQ : Nat := 0x2044
def FRM_FRAME_SEQX : Nat := 0x2048
def FRM_TURN_TBS : Nat := 0x2050
def FRM_PHASE : Nat := 0x2058
def FRM_OVR_COUNT : Nat := 0x205C
def FRM_OVR_RUN : Nat := 0x2060
def FRM_STAGE_LATE (i : Nat) : Nat := 0x2064 + 4 * i
def FRM_STAGE_PEAK (i : Nat) : Nat := 0x2078 + 4 * i
def FRM_TF_ORIGIN : Nat := 0x2090
def FRM_ORIGIN_SEQ : Nat := 0x2098
def FRM_TF_SEL : Nat := 0x2100
def FRM_GLOBAL_HOLD : Nat := 0x2104
def FRM_GLOBAL_GO : Nat := 0x2108
def FRM_GATHER_MAX : Nat := 0x210C
def FRM_FIT_STATUS : Nat := 0x2110
def FRM_FIT_COST (i : Nat) : Nat := 0x2114 + 4 * i
def FRM_OVR_HOLD : Nat := 0x2400

/-! PWR -/
def PWR_PWR_STATE : Nat := 0x3044
def PWR_WAKE_SRC : Nat := 0x3048
def PWR_WAKE_CNT : Nat := 0x304C
def PWR_PARK_TBM : Nat := 0x3050
def PWR_PARK_TIME : Nat := 0x3058
def PWR_PWR_REFUSE : Nat := 0x305C
def PWR_PWR_TARGET : Nat := 0x3100
def PWR_PWR_CMD : Nat := 0x3104
def PWR_WAKE_EN : Nat := 0x3108
def PWR_WAKE_AT_LO : Nat := 0x310C
def PWR_WAKE_AT_HI : Nat := 0x3110
def PWR_WAKE_FIN : Nat := 0x3114

/-! ATT -/
def ATT_MEAS_GEN : Nat := 0x4044
def ATT_REPORT_SEQ : Nat := 0x4048
def ATT_ATT_LEN : Nat := 0x404C
def ATT_ATT_RESULT : Nat := 0x4050
def ATT_EXT_CNT : Nat := 0x4054
def ATT_ARM_POLICY : Nat := 0x4058
def ATT_ARM_POLICY_NEXT : Nat := 0x405C
def ATT_MEAS (i : Nat) : Nat := 0x4100 + 4 * i
def ATT_NONCE_W (i : Nat) : Nat := 0x4200 + 4 * i
def ATT_ATT_CMD : Nat := 0x4220
def ATT_ATT_PORT : Nat := 0x4224
def ATT_ATT_CONFIRM : Nat := 0x4228
def ATT_EXT_W (i : Nat) : Nat := 0x4240 + 4 * i
def ATT_EXT_CMD : Nat := 0x4260
def ATT_BLOB_PORT : Nat := 0x4264
def ATT_BLOB_CMD : Nat := 0x4268
def ATT_BLOB_LEN_SET : Nat := 0x426C
def ATT_POLICY_SET : Nat := 0x4270

/-! HOST -/
def HOST_HSL_FRAMES : Nat := 0x5044
def HOST_HSL_CRC_ERR : Nat := 0x5048
def HOST_HSL_ABORT : Nat := 0x504C
def HOST_IVY_FRAMES : Nat := 0x5050
def HOST_IVY_AUTH_FAIL : Nat := 0x5054
def HOST_IVY_REPLAY : Nat := 0x5058
def HOST_IVY_SESS : Nat := 0x505C
def HOST_LAST_ERR : Nat := 0x5060
def HOST_LAST_ERR_ADDR : Nat := 0x5064
def HOST_HB_PERIOD : Nat := 0x5100
def HOST_HB_KICK : Nat := 0x5104
def HOST_HB_SRC : Nat := 0x5108
def HOST_HOSTLOST_POLICY : Nat := 0x510C
def HOST_CONTINUE_MAX : Nat := 0x5110
def HOST_IVY_CTRL : Nat := 0x5120
def HOST_IVY_PORT : Nat := 0x5124
def HOST_IVY_IDLE : Nat := 0x5128
def HOST_PAIR_SEL : Nat := 0x5130
def HOST_PAIR_KEY (i : Nat) : Nat := 0x5140 + 4 * i
def HOST_PAIR_CMD : Nat := 0x5160
def HOST_PAIR_STAT : Nat := 0x5164
def HOST_HSL_STALL_TO : Nat := 0x5400

/-! TIME -/
def TIME_TBM : Nat := 0x6048
def TIME_TBS : Nat := 0x6050
def TIME_TBS_PPB : Nat := 0x6058
def TIME_TBG_NS : Nat := 0x6060
def TIME_TBG_S_LO : Nat := 0x6064
def TIME_TBG_S_HI : Nat := 0x6068
def TIME_TBG_STATE : Nat := 0x606C
def TIME_PPS_STATUS : Nat := 0x6070
def TIME_PPS_UNC : Nat := 0x6074
def TIME_HOLD_ELAPSED : Nat := 0x6078
def TIME_GPS_UTC : Nat := 0x607C
def TIME_TBS_DISC : Nat := 0x6100
def TIME_PPS_CTRL : Nat := 0x6104
def TIME_HOLDOVER_MAX : Nat := 0x6108
def TIME_HOLD_RATE_PPB : Nat := 0x610C
def TIME_WALL_SEL : Nat := 0x6110
def TIME_RTC_SUB : Nat := 0x6180
def TIME_RTC_S_LO : Nat := 0x6184
def TIME_RTC_S_HI : Nat := 0x6188
def TIME_TBS_SLEW_PPB : Nat := 0x6400
def TIME_RET_SLEW_NS : Nat := 0x6404

/-! TIME1 -/
def TIME1_TBN_NS : Nat := 0x7048
def TIME1_TBN_S_LO : Nat := 0x704C
def TIME1_TBN_S_HI : Nat := 0x7050
def TIME1_LEG32 : Nat := 0x7054
def TIME1_ADJ_REM : Nat := 0x7058
def TIME1_TBN_STEP_CNT : Nat := 0x705C
def TIME1_CAP_SEQ : Nat := 0x7060
def TIME1_CAP_SRC : Nat := 0x7064
def TIME1_CAP_TBS : Nat := 0x7068
def TIME1_CAP_TBN_NS : Nat := 0x7070
def TIME1_CAP_TBN_S_LO : Nat := 0x7074
def TIME1_CAP_TBN_S_HI : Nat := 0x7078
def TIME1_CAP_STEP_CNT : Nat := 0x707C
def TIME1_INCR : Nat := 0x7100
def TIME1_ADJ : Nat := 0x7108
def TIME1_ADJ_PPM : Nat := 0x710C
def TIME1_STEP_OFS : Nat := 0x7110
def TIME1_SET_NS : Nat := 0x7118
def TIME1_SET_S_LO : Nat := 0x711C
def TIME1_SET_S_HI : Nat := 0x7120
def TIME1_STEP_CMD : Nat := 0x7124
def TIME1_TBN_TIMEOUT : Nat := 0x7128
def TIME1_CAP_NOW : Nat := 0x712C

/-! POSE -/
def POSE_POSE_ACC_CNT : Nat := 0x8044
def POSE_POSE_REF_CNT : Nat := 0x8048
def POSE_LAST_REFUSE : Nat := 0x804C
def POSE_POSE_STATE : Nat := 0x8050
def POSE_POSE_AGE : Nat := 0x8054
def POSE_LATCH_E : Nat := 0x8058
def POSE_LATCH_N : Nat := 0x805C
def POSE_LATCH_U : Nat := 0x8060
def POSE_LATCH_HDG : Nat := 0x8064
def POSE_LATCH_SPD : Nat := 0x8068
def POSE_LATCH_ACC : Nat := 0x806C
def POSE_LATCH_KAPPA : Nat := 0x8070
def POSE_DR_DIST : Nat := 0x8074
def POSE_LAST_JUMP : Nat := 0x8078
def POSE_POSE_SRC : Nat := 0x8100
def POSE_IMU_USE : Nat := 0x8104
def POSE_JOB_LAT : Nat := 0x8108
def POSE_JOB_LON : Nat := 0x810C
def POSE_JOB_H : Nat := 0x8110
def POSE_POSE_STALE : Nat := 0x8114
def POSE_DR_TIME_MAX : Nat := 0x8118
def POSE_DR_DIST_MAX : Nat := 0x811C
def POSE_POSE_QMIN : Nat := 0x8120
def POSE_REV_POLICY : Nat := 0x8124
def POSE_STOP_CLOSE : Nat := 0x8128
def POSE_POSE_JUMP : Nat := 0x812C
def POSE_CAN_FIX : Nat := 0x8130
def POSE_PIN_T_LO : Nat := 0x8180
def POSE_PIN_T_HI : Nat := 0x8184
def POSE_PIN_E : Nat := 0x8188
def POSE_PIN_N : Nat := 0x818C
def POSE_PIN_U : Nat := 0x8190
def POSE_PIN_HDG : Nat := 0x8194
def POSE_PIN_SPD : Nat := 0x8198
def POSE_PIN_YAW : Nat := 0x819C
def POSE_PIN_ACC : Nat := 0x81A0
def POSE_PIN_QUAL : Nat := 0x81A4
def POSE_PIN_COMMIT : Nat := 0x81A8
def POSE_KAPPA_MAX : Nat := 0x8400
def POSE_A_MAX : Nat := 0x8404
def POSE_CAN_LAT_US : Nat := 0x8408
def POSE_IMU_WIN_US : Nat := 0x840C

/-! IMP -/
def IMP_STAGE_LEN : Nat := 0x9044
def IMP_STAGE_STATE : Nat := 0x9048
def IMP_ACTIVE_SERIAL : Nat := 0x904C
def IMP_STAGED_SERIAL : Nat := 0x9050
def IMP_IDI_ACT_CNT : Nat := 0x9054
def IMP_STORED_SERIAL : Nat := 0x9058
def IMP_STAGE_HASH (i : Nat) : Nat := 0x9060 + 4 * i
def IMP_ACTIVE_HASH (i : Nat) : Nat := 0x9080 + 4 * i
def IMP_STAGE_PORT : Nat := 0x9100
def IMP_IDI_CMD : Nat := 0x9104
def IMP_IDI_ACTIVATE : Nat := 0x9108

/-! BSS -/
def BSS_BL_STATE (i : Nat) : Nat := 0xA060 + 0x20 * i
def BSS_BL_E (i : Nat) : Nat := 0xA064 + 0x20 * i
def BSS_BL_N (i : Nat) : Nat := 0xA068 + 0x20 * i
def BSS_BL_U (i : Nat) : Nat := 0xA06C + 0x20 * i
def BSS_BL_NSAT (i : Nat) : Nat := 0xA070 + 0x20 * i
def BSS_BL_RATIO (i : Nat) : Nat := 0xA074 + 0x20 * i
def BSS_BL_RMS (i : Nat) : Nat := 0xA078 + 0x20 * i
def BSS_BL_BIAS (i : Nat) : Nat := 0xA07C + 0x20 * i
def BSS_GEO_AGE : Nat := 0xA0C0
def BSS_FIT_RMS : Nat := 0xA0C4
def BSS_FIT_REJ : Nat := 0xA0C8
def BSS_RES_A : Nat := 0xA0CC
def BSS_GEO_HELD : Nat := 0xA0D0
def BSS_FB_CNT : Nat := 0xA0D4
def BSS_REPAIR_CNT : Nat := 0xA0D8
def BSS_GEO_SRC : Nat := 0xA0DC
def BSS_GEO_EPOCH : Nat := 0xA100
def BSS_GEO_SEQ : Nat := 0xA108
def BSS_OX (i : Nat) : Nat := 0xA120 + 0x20 * i
def BSS_OY (i : Nat) : Nat := 0xA124 + 0x20 * i
def BSS_YAW (i : Nat) : Nat := 0xA128 + 0x20 * i
def BSS_LAT (i : Nat) : Nat := 0xA12C + 0x20 * i
def BSS_UL (i : Nat) : Nat := 0xA130 + 0x20 * i
def BSS_UR (i : Nat) : Nat := 0xA134 + 0x20 * i
def BSS_GEO_HOLD_MAX : Nat := 0xA200
def BSS_GEO_FB_POLICY : Nat := 0xA204
def BSS_BL_SEARCH : Nat := 0xA400
def BSS_FIX_RATIO : Nat := 0xA404
def BSS_FIX_RMS_MAX : Nat := 0xA408
def BSS_FIX_CONFIRM : Nat := 0xA40C
def BSS_LOSS_RMS : Nat := 0xA410
def BSS_FIT_RMS_MAX : Nat := 0xA414

/-! NAV -/
def NAV_EPOCH_SEQ : Nat := 0x10044
def NAV_SMP_CNT : Nat := 0x10048
def NAV_CH_ACTIVE : Nat := 0x10050
def NAV_ANT_STAT : Nat := 0x10058
def NAV_ANT_CURR : Nat := 0x1005C
def NAV_AGC_GAIN : Nat := 0x10060
def NAV_MEAS_LEVEL : Nat := 0x10064
def NAV_MEAS_DROP : Nat := 0x10068
def NAV_NAVW_LEVEL : Nat := 0x1006C
def NAV_NAVW_DROP : Nat := 0x10070
def NAV_DUMP_PEAK : Nat := 0x10074
def NAV_SOL_STATUS : Nat := 0x10078
def NAV_SOL_LAT : Nat := 0x1007C
def NAV_SOL_LON : Nat := 0x10080
def NAV_SOL_H : Nat := 0x10084
def NAV_SOL_HACC : Nat := 0x10088
def NAV_ANT_CTRL : Nat := 0x10100
def NAV_ELEV_MASK : Nat := 0x10104
def NAV_MAX_SATS : Nat := 0x10108
def NAV_MEAS_CTRL : Nat := 0x1010C
def NAV_NAVW_CTRL : Nat := 0x10110
def NAV_MEAS_PORT : Nat := 0x10180
def NAV_NAVW_PORT : Nat := 0x10184
def NAV_LOSS_CN0 : Nat := 0x10400
def NAV_LOSS_TIME : Nat := 0x10404
def NAV_PULLIN_MAX : Nat := 0x10408

/-! ACQ -/
def ACQ_ACQ_DONE : Nat := 0x11044
def ACQ_ACQ_STALL : Nat := 0x11048
def ACQ_ACQ_STATE : Nat := 0x1104C
def ACQ_JOB_CFG : Nat := 0x11400
def ACQ_JOB_F0 : Nat := 0x11404
def ACQ_JOB_NGRP : Nat := 0x11408
def ACQ_JOB_THR : Nat := 0x1140C
def ACQ_JOB_PUSH : Nat := 0x11410
def ACQ_ACQ_RES_PORT : Nat := 0x11414
def ACQ_ACQ_FLUSH : Nat := 0x11418

/-! INTEG -/
def INTEG_INTEG_FLAGS : Nat := 0x12044
def INTEG_PRN_EXCL : Nat := 0x12048
def INTEG_SPF_R : Nat := 0x1204C
def INTEG_CLK_RESID : Nat := 0x12050
def INTEG_CLK_DRIFT_RATE : Nat := 0x12054
def INTEG_CN0_SD : Nat := 0x12058
def INTEG_INTEG_EVT : Nat := 0x1205C
def INTEG_CH_EXCL : Nat := 0x12060
def INTEG_INTEG_POLICY : Nat := 0x12100
def INTEG_INTEG_CMD : Nat := 0x12104
def INTEG_CLK_QUIET : Nat := 0x12108
def INTEG_SPF_R_THR : Nat := 0x12400
def INTEG_SPF_PERSIST : Nat := 0x12404
def INTEG_XCODE_M : Nat := 0x12408
def INTEG_DIST_THR : Nat := 0x1240C
def INTEG_CCD_THR : Nat := 0x12410
def INTEG_CN0_SD_MIN : Nat := 0x12414
def INTEG_AGC_DROP : Nat := 0x12418
def INTEG_CLK_JUMP_NS : Nat := 0x1241C
def INTEG_CLK_DRIFT_PPB : Nat := 0x12420

/-! BURST -/
def BURST_BURST_CNT : Nat := 0x13044
def BURST_BURST_FAIL_RUN : Nat := 0x13048
def BURST_BURST_LAST : Nat := 0x1304C
def BURST_TBL_LEFT : Nat := 0x13050
def BURST_BURST_CN0_MIN : Nat := 0x13100
def BURST_BURST_FAIL_MAX : Nat := 0x13104
def BURST_TBL_VALID_MAX : Nat := 0x13108

/-! TCW -/
def TC_CFG (c : Nat) : Nat := 0x14400 + 0x1000 * (c / 8) + 0x100 * (c % 8)
def TC_INIT_CODE (c : Nat) : Nat := 0x14404 + 0x1000 * (c / 8) + 0x100 * (c % 8)
def TC_INIT_DOP (c : Nat) : Nat := 0x14408 + 0x1000 * (c / 8) + 0x100 * (c % 8)
def TC_INIT_REF (c : Nat) : Nat := 0x1440C + 0x1000 * (c / 8) + 0x100 * (c % 8)
def TC_LOOP (c : Nat) : Nat := 0x14410 + 0x1000 * (c / 8) + 0x100 * (c % 8)
def TC_TAPS (c : Nat) : Nat := 0x14414 + 0x1000 * (c / 8) + 0x100 * (c % 8)
def TC_CMD (c : Nat) : Nat := 0x14418 + 0x1000 * (c / 8) + 0x100 * (c % 8)
def TC_STATE (c : Nat) : Nat := 0x1441C + 0x1000 * (c / 8) + 0x100 * (c % 8)
def TC_CN0 (c : Nat) : Nat := 0x14420 + 0x1000 * (c / 8) + 0x100 * (c % 8)
def TC_LOCK (c : Nat) : Nat := 0x14424 + 0x1000 * (c / 8) + 0x100 * (c % 8)
def TC_SLIP (c : Nat) : Nat := 0x14428 + 0x1000 * (c / 8) + 0x100 * (c % 8)
def TC_DOP (c : Nat) : Nat := 0x1442C + 0x1000 * (c / 8) + 0x100 * (c % 8)
def TC_CODE (c : Nat) : Nat := 0x14430 + 0x1000 * (c / 8) + 0x100 * (c % 8)
def TC_TXMS (c : Nat) : Nat := 0x14434 + 0x1000 * (c / 8) + 0x100 * (c % 8)
def TC_CARR (c : Nat) : Nat := 0x14438 + 0x1000 * (c / 8) + 0x100 * (c % 8)
def TAP_VE_I (c : Nat) : Nat := 0x14440 + 0x1000 * (c / 8) + 0x100 * (c % 8)
def TAP_VE_Q (c : Nat) : Nat := 0x14444 + 0x1000 * (c / 8) + 0x100 * (c % 8)
def TAP_E_I (c : Nat) : Nat := 0x14448 + 0x1000 * (c / 8) + 0x100 * (c % 8)
def TAP_E_Q (c : Nat) : Nat := 0x1444C + 0x1000 * (c / 8) + 0x100 * (c % 8)
def TAP_P_I (c : Nat) : Nat := 0x14450 + 0x1000 * (c / 8) + 0x100 * (c % 8)
def TAP_P_Q (c : Nat) : Nat := 0x14454 + 0x1000 * (c / 8) + 0x100 * (c % 8)
def TAP_L_I (c : Nat) : Nat := 0x14458 + 0x1000 * (c / 8) + 0x100 * (c % 8)
def TAP_L_Q (c : Nat) : Nat := 0x1445C + 0x1000 * (c / 8) + 0x100 * (c % 8)
def TAP_VL_I (c : Nat) : Nat := 0x14460 + 0x1000 * (c / 8) + 0x100 * (c % 8)
def TAP_VL_Q (c : Nat) : Nat := 0x14464 + 0x1000 * (c / 8) + 0x100 * (c % 8)
def TC_DUMP_SEQ (c : Nat) : Nat := 0x14468 + 0x1000 * (c / 8) + 0x100 * (c % 8)

/-! NAVX -/

/-! MAP -/
def MAP_JOB_STATE : Nat := 0x20044
def MAP_TILES_STORED : Nat := 0x20048
def MAP_HEAP_FREE : Nat := 0x2004C
def MAP_WIN_RES : Nat := 0x20050
def MAP_PAGE_IN_CNT : Nat := 0x20054
def MAP_PAGE_IN_PEAK : Nat := 0x20058
def MAP_WIN_MISS : Nat := 0x2005C
def MAP_PF_DIST_ACT : Nat := 0x20060
def MAP_UNK_TILES : Nat := 0x20064
def MAP_UNK_CELLS : Nat := 0x20068
def MAP_UNK_HITS : Nat := 0x2006C
def MAP_UNPAINTED_US : Nat := 0x20070
def MAP_RATE_SAT : Nat := 0x20078
def MAP_CORR_CNT : Nat := 0x2007C
def MAP_LAST_UNK_X : Nat := 0x20080
def MAP_LAST_UNK_Y : Nat := 0x20084
def MAP_LAST_UNK_L : Nat := 0x20088
def MAP_EXP_LEN : Nat := 0x2008C
def MAP_IMP_ACC : Nat := 0x20094
def MAP_IMP_REJ : Nat := 0x20098
def MAP_POLY_VERTS : Nat := 0x2009C
def MAP_JOB_CMD : Nat := 0x20100
def MAP_JOB_CFG : Nat := 0x20104
def MAP_JOB_ID : Nat := 0x20108
def MAP_NOM_RATE (i : Nat) : Nat := 0x2010C + 4 * i
def MAP_RX_UNIT : Nat := 0x2011C
def MAP_PF_DIST : Nat := 0x20120
def MAP_EXP_CMD : Nat := 0x20124
def MAP_EXP_SINCE : Nat := 0x20128
def MAP_EXP_PAGE : Nat := 0x2012C
def MAP_IMP_LEN : Nat := 0x20130
def MAP_IMP_CMD : Nat := 0x20134
def MAP_RX_LEN : Nat := 0x20138
def MAP_RX_CMD : Nat := 0x2013C
def MAP_WB_PERIOD : Nat := 0x20400
def MAP_ENC_FORCE : Nat := 0x20404
def MAP_LOW_SPACE : Nat := 0x20408

/-! SDE -/
def SDE_DEC_CHG : Nat := 0x21044
def SDE_SEC_ON_CNT : Nat := 0x21048
def SDE_UNK_SEC : Nat := 0x2104C
def SDE_FILL_CNT : Nat := 0x21050
def SDE_SUPPR_CNT : Nat := 0x21054
def SDE_TL_TRUNC : Nat := 0x21058
def SDE_DLY_MAX : Nat := 0x2105C
def SDE_SEC_ON (i : Nat) : Nat := 0x21060 + 4 * i
def SDE_MASTER : Nat := 0x21100
def SDE_HORIZON : Nat := 0x21104
def SDE_TL_SEL : Nat := 0x21108
def SDE_TL_COUNT : Nat := 0x2110C
def SDE_TL_PORT : Nat := 0x21110
def SDE_COV_SPACING : Nat := 0x21400
def SDE_PIVOT_SPD : Nat := 0x21404
def SDE_SPD_HYST : Nat := 0x21408

/-! EDS -/
def EDS_EDGE_CNT : Nat := 0x22044
def EDS_LATE_RUN_CNT : Nat := 0x22048
def EDS_LATE_DROP_CNT : Nat := 0x2204C
def EDS_CORR_CNT : Nat := 0x22050
def EDS_GAP_MERGE : Nat := 0x22054
def EDS_LATE_MM : Nat := 0x22058
def EDS_ACT_LEVEL : Nat := 0x22060
def EDS_ACT_REF_CNT : Nat := 0x22064
def EDS_ACT_RESULT : Nat := 0x22068
def EDS_ACT_EXPIRED : Nat := 0x2206C
def EDS_ACT_DONE_TAG : Nat := 0x22070
def EDS_INHIBIT (i : Nat) : Nat := 0x22074 + 4 * i
def EDS_DEC_LATE : Nat := 0x22100
def EDS_SLACK_CAP : Nat := 0x22104
def EDS_INTERLEAVE : Nat := 0x22108
def EDS_POS_TTL : Nat := 0x2210C
def EDS_ACT_W (i : Nat) : Nat := 0x22110 + 4 * i
def EDS_ACT_PUSH : Nat := 0x22128
def EDS_ACT_CANCEL : Nat := 0x2212C
def EDS_EDGE_GAP : Nat := 0x22400
def EDS_PHASE_ADJ : Nat := 0x22404

/-! LAT -/
def LAT_MEAS_ACC : Nat := 0x23044
def LAT_MEAS_REJ : Nat := 0x23048
def LAT_LAST_REJ : Nat := 0x2304C
def LAT_LRN_LOST (i : Nat) : Nat := 0x23050 + 4 * i
def LAT_REJ_MAX : Nat := 0x23100

/-! BWK -/
def BWK_ADM_CNT : Nat := 0x24044
def BWK_DEFER_CNT : Nat := 0x24048
def BWK_CARRY_CNT : Nat := 0x2404C
def BWK_REF_BUDGET : Nat := 0x24050
def BWK_REF_OVERLAP : Nat := 0x24054
def BWK_REF_THERMAL : Nat := 0x24058
def BWK_DEGRADED_CNT : Nat := 0x2405C
def BWK_SPENT_BUD : Nat := 0x24060
def BWK_SPENT_OVL : Nat := 0x24068
def BWK_SPENT_THM : Nat := 0x24070
def BWK_SHIFT_MM : Nat := 0x24078
def BWK_SUP_I : Nat := 0x24080
def BWK_SUP_PROJ_MAX : Nat := 0x24084
def BWK_DIE_T : Nat := 0x24088
def BWK_MOD_P : Nat := 0x2408C
def BWK_HOT (i : Nat) : Nat := 0x24090 + 4 * i
def BWK_TH_TW : Nat := 0x240D0
def BWK_TH_TC : Nat := 0x240D4
def BWK_TH_TR : Nat := 0x240D8
def BWK_TH_EST : Nat := 0x240DC
def BWK_TH_TSW : Nat := 0x240E0
def BWK_TH_HOLD : Nat := 0x240E4
def BWK_I_SUP_MAX : Nat := 0x24100
def BWK_RAMP_A : Nat := 0x24104
def BWK_RES_PCT : Nat := 0x24108
def BWK_T_AMB : Nat := 0x2410C
def BWK_TH_SEL : Nat := 0x24110
def BWK_T_DERATE : Nat := 0x24114
def BWK_T_REFUSE : Nat := 0x24118
def BWK_T_CUT : Nat := 0x2411C
def BWK_T_RESUME_K : Nat := 0x24120
def BWK_HOLD_FLOOR : Nat := 0x24124
def BWK_P_MOD_MAX : Nat := 0x24128
def BWK_E_INIT : Nat := 0x24400
def BWK_OCC_MARGIN : Nat := 0x24404
def BWK_SW_T_MAX : Nat := 0x24408
def BWK_TILE_T_THR : Nat := 0x2440C
def BWK_TILE_T_MAX : Nat := 0x24410
def BWK_DIE_T1 : Nat := 0x24414
def BWK_DIE_T2 : Nat := 0x24418
def BWK_DIE_T3 : Nat := 0x2441C
def BWK_DIE_HYST : Nat := 0x24420

/-! LDG -/
def LDG_SESS_ID : Nat := 0x25044
def LDG_SESS_STATUS : Nat := 0x25048
def LDG_LAST_FLUSH : Nat := 0x25050
def LDG_LOSS_FROM_NS : Nat := 0x25058
def LDG_LOSS_FROM_S_LO : Nat := 0x2505C
def LDG_LOSS_FROM_S_HI : Nat := 0x25060
def LDG_LOSS_TO_NS : Nat := 0x25064
def LDG_LOSS_TO_S_LO : Nat := 0x25068
def LDG_LOSS_TO_S_HI : Nat := 0x2506C
def LDG_RESET_GAP : Nat := 0x25070
def LDG_SAFE_CNT : Nat := 0x25074
def LDG_SNAP_LEVEL : Nat := 0x25078
def LDG_COVERAGE : Nat := 0x2507C
def LDG_INVALID (i : Nat) : Nat := 0x25080 + 4 * i
def LDG_LDG_SEL : Nat := 0x25100
def LDG_LDG_CMD : Nat := 0x25104
def LDG_SNAP_PORT : Nat := 0x25108
def LDG_LIVE (i : Nat) : Nat := 0x25180 + 8 * i

/-! DIAG -/
def DIAG_DIAG_LEVEL : Nat := 0x26044
def DIAG_HOST_DROP : Nat := 0x26048
def DIAG_INTAKE_PEAK : Nat := 0x2604C
def DIAG_DIAG_CTRL : Nat := 0x26100
def DIAG_DIAG_PORT : Nat := 0x26104
def DIAG_DIAG_SEL : Nat := 0x26108
def DIAG_LAST_SUM (i : Nat) : Nat := 0x26110 + 4 * i

/-! DT -/
def DT_TEMP_A (u : Nat) : Nat := 0x30044 + 0x1000 * u
def DT_TEMP_B (u : Nat) : Nat := 0x30048 + 0x1000 * u
def DT_Q_PEAK (u : Nat) : Nat := 0x3004C + 0x1000 * u
def DT_RB_ERR (u : Nat) : Nat := 0x30050 + 0x1000 * u
def DT_Q_CORR (u : Nat) : Nat := 0x30054 + 0x1000 * u
def DT_CH_ON (u : Nat) : Nat := 0x30058 + 0x1000 * u
def DT_CH_FLT (u : Nat) : Nat := 0x30060 + 0x1000 * u
def DT_TEMP_DIFF (u : Nat) : Nat := 0x30100 + 0x1000 * u
def DT_TILE_CLR (u : Nat) : Nat := 0x30104 + 0x1000 * u
def DT_SNS_SEL (u : Nat) : Nat := 0x30108 + 0x1000 * u

/-! BK -/
def BK_BK_STATE (u : Nat) : Nat := 0x38044 + 0x1000 * u
def BK_BK_I (u : Nat) : Nat := 0x38048 + 0x1000 * u
def BK_BK_I_MAX (u : Nat) : Nat := 0x3804C + 0x1000 * u
def BK_BOOST_CNT (u : Nat) : Nat := 0x38050 + 0x1000 * u
def BK_OVL_DEFER (u : Nat) : Nat := 0x38054 + 0x1000 * u
def BK_OVL_DEG (u : Nat) : Nat := 0x38058 + 0x1000 * u
def BK_OVL_DROP (u : Nat) : Nat := 0x3805C + 0x1000 * u
def BK_CLAMP_CNT (u : Nat) : Nat := 0x38060 + 0x1000 * u
def BK_CHF_STATE (u : Nat) : Nat := 0x38064 + 0x1000 * u
def BK_CHF_CAUSE (u : Nat) : Nat := 0x38068 + 0x1000 * u
def BK_OVL_OUTCOME (u : Nat) : Nat := 0x38100 + 0x1000 * u
def BK_BK_TRIP (u : Nat) : Nat := 0x38104 + 0x1000 * u
def BK_CHF_CLR (u : Nat) : Nat := 0x38108 + 0x1000 * u
def BK_DRIFT_TOL (u : Nat) : Nat := 0x38400 + 0x1000 * u
def BK_DRIFT_PCT (u : Nat) : Nat := 0x38404 + 0x1000 * u
def BK_OPEN_ON_MA (u : Nat) : Nat := 0x38408 + 0x1000 * u

/-! VB -/
def VB_RAIL_V (i : Nat) : Nat := 0x78050 + 0x10 * i
def VB_RAIL_E (i : Nat) : Nat := 0x78054 + 0x10 * i
def VB_RAIL_STATE (i : Nat) : Nat := 0x78058 + 0x10 * i
def VB_NR_CNT (i : Nat) : Nat := 0x7805C + 0x10 * i
def VB_VSET (i : Nat) : Nat := 0x78100 + 0x10 * i
def VB_RAIL_CTRL (i : Nat) : Nat := 0x78104 + 0x10 * i
def VB_RAIL_CLR (i : Nat) : Nat := 0x78108 + 0x10 * i

/-! LPE -/
def LPE_CAP_USED : Nat := 0x80044
def LPE_CAP_PEND : Nat := 0x80048
def LPE_EVAL_MISS : Nat := 0x8004C
def LPE_HOLD (i : Nat) : Nat := 0x80050 + 4 * i
def LPE_FE (i : Nat) : Nat := 0x80060 + 4 * i
def LPE_UTIL_PEAK : Nat := 0x80070
def LPE_LP_CLR : Nat := 0x80100

/-! SND -/
def SND_SND_SRC (i : Nat) : Nat := 0x81100 + 0x20 * i
def SND_SND_TRIG (i : Nat) : Nat := 0x81104 + 0x20 * i
def SND_SND_LEVEL (i : Nat) : Nat := 0x81108 + 0x20 * i
def SND_SND_STAT (i : Nat) : Nat := 0x8110C + 0x20 * i
def SND_SND_T0 (i : Nat) : Nat := 0x81110 + 0x20 * i
def SND_SND_TRIG_IDX (i : Nat) : Nat := 0x81118 + 0x20 * i
def SND_SND_CMD : Nat := 0x81300
def SND_SND_RSEL : Nat := 0x81304
def SND_SND_PORT : Nat := 0x81308

/-! REC -/
def REC_SEQ_NEXT : Nat := 0x90044
def REC_OLDEST_SEQ : Nat := 0x9004C
def REC_EPOCH : Nat := 0x90054
def REC_BUF_LEVEL : Nat := 0x90058
def REC_BUF_LOST : Nat := 0x9005C
def REC_SUPP_TOTAL : Nat := 0x90060
def REC_SPARE_LEFT : Nat := 0x90064
def REC_AUTH_RESULT : Nat := 0x90068
def REC_KEY_STAT : Nat := 0x9006C
def REC_NONCE (i : Nat) : Nat := 0x90070 + 4 * i
def REC_BR_FAIL_CNT : Nat := 0x90080
def REC_RD_LEFT : Nat := 0x90084
def REC_REC_CMD : Nat := 0x90100
def REC_RD_FROM : Nat := 0x90108
def REC_RD_CODE : Nat := 0x90110
def REC_RD_EPOCH : Nat := 0x90114
def REC_RD_COUNT : Nat := 0x90118
def REC_REC_PORT : Nat := 0x9011C
def REC_BR_SEL : Nat := 0x90120
def REC_BR_PORT : Nat := 0x90124
def REC_KEY_W (i : Nat) : Nat := 0x90140 + 4 * i
def REC_KEY_CMD : Nat := 0x90180
def REC_AUTH (i : Nat) : Nat := 0x90200 + 4 * i
def REC_RL (i : Nat) : Nat := 0x90400 + 4 * i
def REC_SUMM_PERIOD : Nat := 0x90C00
def REC_DRAIN_MS : Nat := 0x90C04

/-! NET -/
def NET_LINK : Nat := 0xA0044
def NET_RX_LEVEL : Nat := 0xA0048
def NET_RX_DROP : Nat := 0xA004C
def NET_NET_CFG : Nat := 0xA0100
def NET_MAC_LO : Nat := 0xA0104
def NET_MAC_HI : Nat := 0xA0108
def NET_IP_ADDR : Nat := 0xA010C
def NET_NETMASK : Nat := 0xA0110
def NET_GATEWAY : Nat := 0xA0114
def NET_RX_PORT : Nat := 0xA0180
def NET_TX_PORT : Nat := 0xA0184
def NET_TX_LEN : Nat := 0xA0188
def NET_TX_PUSH : Nat := 0xA018C

/-! CAN -/
def CAN_RX_LEVEL (u : Nat) : Nat := 0xA1044 + 0x1000 * u
def CAN_ERR_CNT (u : Nat) : Nat := 0xA1048 + 0x1000 * u
def CAN_BUSOFF_CNT (u : Nat) : Nat := 0xA104C + 0x1000 * u
def CAN_RX_DROP (u : Nat) : Nat := 0xA1050 + 0x1000 * u
def CAN_POSE_CNT (u : Nat) : Nat := 0xA1054 + 0x1000 * u
def CAN_CAN_CFG (u : Nat) : Nat := 0xA1100 + 0x1000 * u
def CAN_RX_PORT (u : Nat) : Nat := 0xA1180 + 0x1000 * u
def CAN_TX_PORT (u : Nat) : Nat := 0xA1184 + 0x1000 * u
def CAN_TX_PUSH (u : Nat) : Nat := 0xA1188 + 0x1000 * u
def CAN_TX_LEVEL (u : Nat) : Nat := 0xA118C + 0x1000 * u
def CAN_FILT_ID (u i : Nat) : Nat := 0xA1200 + 0x1000 * u + 0x10 * i
def CAN_FILT_MASK (u i : Nat) : Nat := 0xA1204 + 0x1000 * u + 0x10 * i
def CAN_FILT_ACT (u i : Nat) : Nat := 0xA1208 + 0x1000 * u + 0x10 * i
def CAN_FILT_HITS (u i : Nat) : Nat := 0xA120C + 0x1000 * u + 0x10 * i
def CAN_CTX_ID (u i : Nat) : Nat := 0xA1400 + 0x1000 * u + 0x10 * i
def CAN_CTX_FMT (u i : Nat) : Nat := 0xA1404 + 0x1000 * u + 0x10 * i
def CAN_CTX_SCALE (u i : Nat) : Nat := 0xA1408 + 0x1000 * u + 0x10 * i
def CAN_CTX_OFS (u i : Nat) : Nat := 0xA140C + 0x1000 * u + 0x10 * i

/-! AIN -/
def AIN_AIN_FLT (i : Nat) : Nat := 0xA3044 + 4 * i
def AIN_AIN_CFG (i : Nat) : Nat := 0xA3100 + 4 * i
def AIN_AIN_VAL (i : Nat) : Nat := 0xA3200 + 4 * i

/-! FIN -/
def FIN_FIN_FLT (i : Nat) : Nat := 0xA4044 + 4 * i
def FIN_FIN_CFG (i : Nat) : Nat := 0xA4100 + 4 * i
def FIN_FIN_FREQ (i : Nat) : Nat := 0xA4280 + 4 * i
def FIN_FIN_FRAME (i : Nat) : Nat := 0xA4400 + 4 * i
def FIN_FIN_STAT (i : Nat) : Nat := 0xA4580 + 4 * i

/-! IMU -/
def IMU_IMU_CNT (i : Nat) : Nat := 0xA5050 + 0x10 * i
def IMU_IMU_YAW (i : Nat) : Nat := 0xA5054 + 0x10 * i
def IMU_IMU_ACC (i : Nat) : Nat := 0xA5058 + 0x10 * i
def IMU_IMU_AGE (i : Nat) : Nat := 0xA505C + 0x10 * i
def IMU_IMU_CFG (i : Nat) : Nat := 0xA5100 + 0x40 * i
def IMU_IMU_TXB0 (i : Nat) : Nat := 0xA5104 + 0x40 * i
def IMU_IMU_TXB1 (i : Nat) : Nat := 0xA5108 + 0x40 * i
def IMU_IMU_TXB2 (i : Nat) : Nat := 0xA510C + 0x40 * i
def IMU_IMU_TXB3 (i : Nat) : Nat := 0xA5110 + 0x40 * i
def IMU_IMU_MAP (i : Nat) : Nat := 0xA5114 + 0x40 * i
def IMU_GYRO_SCALE (i : Nat) : Nat := 0xA5118 + 0x40 * i
def IMU_ACC_SCALE (i : Nat) : Nat := 0xA511C + 0x40 * i

/-! GPIO -/
def GPIO_TM_LEVEL : Nat := 0xA6044
def GPIO_TM_DROP : Nat := 0xA6048
def GPIO_TM_CFG : Nat := 0xA6100
def GPIO_PPS_PIN : Nat := 0xA6104
def GPIO_UART_CFG : Nat := 0xA6108
def GPIO_TM_PORT : Nat := 0xA6180

/-! WDG -/
def WDG_MP_STATE : Nat := 0xB0044
def WDG_MP_RST_CNT : Nat := 0xB0048
def WDG_MP_RST_RUN : Nat := 0xB004C
def WDG_MP_LAST_RST : Nat := 0xB0050
def WDG_SYS_WD_CNT : Nat := 0xB0058
def WDG_MP_RST_MAX : Nat := 0xB0100
def WDG_MP_RST_WIN : Nat := 0xB0104
def WDG_WDG_CMD : Nat := 0xB0108
def WDG_MP_KICK : Nat := 0xB0180

/-! CHD -/
def CH_CFG (u : Nat) : Nat := 0x1000000 + 64 * u
def CH_DELAY (u : Nat) : Nat := 0x1000004 + 64 * u
def CH_PEAK (u : Nat) : Nat := 0x1000008 + 64 * u
def CH_HOLD (u : Nat) : Nat := 0x100000C + 64 * u
def CH_TTP (u : Nat) : Nat := 0x1000010 + 64 * u
def CH_MODEPAR (u : Nat) : Nat := 0x1000014 + 64 * u
def CH_LIMITS (u : Nat) : Nat := 0x1000018 + 64 * u
def CH_RREF (u : Nat) : Nat := 0x100001C + 64 * u
def CH_TCOEF (u : Nat) : Nat := 0x1000020 + 64 * u
def CH_TH_R (u : Nat) : Nat := 0x1000024 + 64 * u
def CH_TH_C (u : Nat) : Nat := 0x1000028 + 64 * u
def CH_STAT (u : Nat) : Nat := 0x1000030 + 64 * u
def CH_SENSE (u : Nat) : Nat := 0x1000034 + 64 * u
def CH_ACT (u : Nat) : Nat := 0x1000038 + 64 * u
def CH_RMEAS (u : Nat) : Nat := 0x100003C + 64 * u

/-! LPT -/
def LP_CTRL (u : Nat) : Nat := 0x1008000 + 256 * u
def LP_CFG (u : Nat) : Nat := 0x1008004 + 256 * u
def LP_FB (u : Nat) : Nat := 0x1008008 + 256 * u
def LP_SPSRC (u : Nat) : Nat := 0x100800C + 256 * u
def LP_FF (u : Nat) : Nat := 0x1008010 + 256 * u
def LP_OUT (u : Nat) : Nat := 0x1008014 + 256 * u
def LPT_FB_SCALE (u : Nat) : Nat := 0x1008018 + 256 * u
def LPT_FB_OFS (u : Nat) : Nat := 0x100801C + 256 * u
def LPT_SP_GAIN (u : Nat) : Nat := 0x1008020 + 256 * u
def LPT_KP (u : Nat) : Nat := 0x1008024 + 256 * u
def LPT_KI (u : Nat) : Nat := 0x1008028 + 256 * u
def LPT_KD (u : Nat) : Nat := 0x100802C + 256 * u
def LPT_TF (u : Nat) : Nat := 0x1008030 + 256 * u
def LPT_KFS (u : Nat) : Nat := 0x1008034 + 256 * u
def LPT_KFR (u : Nat) : Nat := 0x1008038 + 256 * u
def LPT_KFI (u : Nat) : Nat := 0x100803C + 256 * u
def LPT_BQ1 (u i : Nat) : Nat := 0x1008040 + 256 * u + 4 * i
def LPT_BQ2 (u i : Nat) : Nat := 0x1008054 + 256 * u + 4 * i
def LPT_OUT_MIN (u : Nat) : Nat := 0x1008068 + 256 * u
def LPT_OUT_MAX (u : Nat) : Nat := 0x100806C + 256 * u
def LPT_SLEW (u : Nat) : Nat := 0x1008070 + 256 * u
def LPT_SP_RATE (u : Nat) : Nat := 0x1008074 + 256 * u
def LPT_SP_ACC (u : Nat) : Nat := 0x1008078 + 256 * u
def LPT_HOLD_VAL (u : Nat) : Nat := 0x100807C + 256 * u
def LPT_FE_LIMIT (u : Nat) : Nat := 0x1008080 + 256 * u
def LP_TIMES (u : Nat) : Nat := 0x1008084 + 256 * u
def LPT_MAN_OUT (u : Nat) : Nat := 0x10080B0 + 256 * u
def LPT_SP_HOST (u : Nat) : Nat := 0x10080B4 + 256 * u
def LPT_FB_HOST (u : Nat) : Nat := 0x10080B8 + 256 * u
def LPT_FF_HOST (u : Nat) : Nat := 0x10080BC + 256 * u
def LP_STATE (u : Nat) : Nat := 0x10080C0 + 256 * u
def LPT_RT (u : Nat) : Nat := 0x10080C4 + 256 * u
def LPT_R (u : Nat) : Nat := 0x10080C8 + 256 * u
def LPT_RDOT (u : Nat) : Nat := 0x10080CC + 256 * u
def LPT_Y (u : Nat) : Nat := 0x10080D0 + 256 * u
def LPT_E (u : Nat) : Nat := 0x10080D4 + 256 * u
def LPT_I (u : Nat) : Nat := 0x10080D8 + 256 * u
def LPT_D (u : Nat) : Nat := 0x10080DC + 256 * u
def LPT_W (u : Nat) : Nat := 0x10080E0 + 256 * u
def LPT_U (u : Nat) : Nat := 0x10080E4 + 256 * u
def LPT_EVAL_SEQ (u : Nat) : Nat := 0x10080E8 + 256 * u
def LPT_FE_RUN (u : Nat) : Nat := 0x10080EC + 256 * u

/-! LATT -/
def LAT_ON (u : Nat) : Nat := 0x1010000 + 32 * u
def LAT_OFF (u : Nat) : Nat := 0x1010004 + 32 * u
def LATT_ON_BOUNDS (u : Nat) : Nat := 0x1010008 + 32 * u
def LATT_OFF_BOUNDS (u : Nat) : Nat := 0x101000C + 32 * u
def LATT_NOM (u : Nat) : Nat := 0x1010010 + 32 * u
def LATT_SIG_OFS (u : Nat) : Nat := 0x1010014 + 32 * u
def LRN_ON (u : Nat) : Nat := 0x1010018 + 32 * u
def LRN_OFF (u : Nat) : Nat := 0x101001C + 32 * u

/-! SEC -/
def SEC_CFG (u : Nat) : Nat := 0x1014000 + 32 * u
def SEC_ALLOW (u : Nat) : Nat := 0x1014004 + 32 * u
def SEC_HYST (u : Nat) : Nat := 0x1014008 + 32 * u
def SEC_THR (u : Nat) : Nat := 0x101400C + 32 * u
def SEC_SPEED (u : Nat) : Nat := 0x1014010 + 32 * u
def SEC_RATE (u : Nat) : Nat := 0x1014014 + 32 * u
def SEC_OVERRIDE (u : Nat) : Nat := 0x1014018 + 32 * u
def SEC_STATE (u : Nat) : Nat := 0x101401C + 32 * u

end Sys2Proof.Machine.Reg
end

