-- ==== Sys2Proof/Machine/RegTable.lean ====
section
/-! DEFINITION. The register table of the part: every page and table-window entry with its registers' offsets,
access codes, reset values, field masks and ranges, as the register maps of the spec's chapters give them
(R20, R21, R22 and each chapter's own map). Rows of a repeated register carry a count and a stride. -/

namespace Sys2Proof.Machine

/-- Access codes (R3). -/
inductive Access where
  | ro | rw | rwt | w1c | wo | rc
  deriving DecidableEq, Repr

/-- A range a map states for bits `hi`..`lo` of a register: least and greatest value, signed where the map says so, without the
values in `hole`, which an enumeration leaves undefined. -/
structure RangeCheck where
  hi : Nat
  lo : Nat
  min : Int
  max : Int
  signed : Bool := false
  hole : List Int := []
  deriving DecidableEq, Repr

/-- One row of a register map. `mask` holds the bits that are defined (R2: the others read 0). -/
structure RegRow where
  off : Nat
  acc : Access
  reset : Nat := 0
  n : Nat := 1
  step : Nat := 4
  wide : Bool := false
  idi : Bool := false
  mask : Nat := 0xFFFFFFFF
  checks : List RangeCheck := []
  deriving DecidableEq, Repr


/-- Registers of the page header (R22), from MODE on; ID, VERSION and CAPS are computed. -/
def rowsHdr : List RegRow := [
  { off := 0x00C, acc := .rwt, mask := 0x1 },  -- MODE
  { off := 0x010, acc := .rw, mask := 0xFFFF0001 },  -- CTRL
  { off := 0x014, acc := .ro },  -- STATUS
  { off := 0x018, acc := .w1c },  -- FAULT
  { off := 0x01C, acc := .rw, reset := 0xFFFFFFFF },  -- FAULT_EN
  { off := 0x020, acc := .w1c },  -- IRQ_RAW
  { off := 0x024, acc := .rw },  -- IRQ_EN
  { off := 0x028, acc := .ro },  -- IRQ_PEND
  { off := 0x02C, acc := .wo },  -- IRQ_SET
  { off := 0x030, acc := .rw, mask := 0x1 },  -- TURN_ARM
  { off := 0x034, acc := .ro },  -- TURN_SEQ
  { off := 0x038, acc := .rw },  -- LOCK
  { off := 0x03C, acc := .rw },  -- SCRATCH
  { off := 0x040, acc := .ro }]  -- LEN_REJ

/-- Registers of the SYS page at page 0x000. -/
def rowsSys : List RegRow := [
  { off := 0x044, acc := .ro, reset := 1 },  -- RESET_CAUSE
  { off := 0x048, acc := .ro },  -- RESET_CNT
  { off := 0x04C, acc := .ro, wide := true },  -- LAST_RST_TBM
  { off := 0x054, acc := .ro, reset := 16 },  -- OUT_STATE
  { off := 0x058, acc := .ro, reset := 512 },  -- CAPS_CH
  { off := 0x05C, acc := .ro, reset := 0x80040440 },  -- CAPS_UNITS
  { off := 0x060, acc := .ro, n := 8 },  -- IRQ_SUM
  { off := 0x080, acc := .ro, wide := true },  -- DEV_SERIAL
  { off := 0x100, acc := .wo },  -- RST_CMD
  { off := 0x104, acc := .wo }]  -- OUT_ARM

/-- Registers of the CLK page at page 0x001. -/
def rowsClk : List RegRow := [
  { off := 0x044, acc := .ro },  -- CK_OK
  { off := 0x048, acc := .ro },  -- PLL_LOCK
  { off := 0x04C, acc := .ro },  -- CK_LOSS_CNT
  { off := 0x050, acc := .ro },  -- XO_PPB
  { off := 0x054, acc := .ro }]  -- TCXO_PPB

/-- Registers of the FRM page at page 0x002. -/
def rowsFrm : List RegRow := [
  { off := 0x044, acc := .ro },  -- FRAME_SEQ
  { off := 0x048, acc := .ro, wide := true },  -- FRAME_SEQX
  { off := 0x050, acc := .ro, wide := true },  -- TURN_TBS
  { off := 0x058, acc := .ro },  -- PHASE
  { off := 0x05C, acc := .ro },  -- OVR_COUNT
  { off := 0x060, acc := .ro },  -- OVR_RUN
  { off := 0x064, acc := .ro, n := 5 },  -- STAGE_LATE
  { off := 0x078, acc := .rc, n := 5 },  -- STAGE_PEAK
  { off := 0x090, acc := .ro, wide := true },  -- TF_ORIGIN
  { off := 0x098, acc := .ro, wide := true },  -- ORIGIN_SEQ
  { off := 0x100, acc := .rwt, reset := 1, mask := 0x3, checks := [⟨1, 0, 0, 2, false, []⟩] },  -- TF_SEL
  { off := 0x104, acc := .rw, mask := 0x1 },  -- GLOBAL_HOLD
  { off := 0x108, acc := .wo, mask := 0x1, checks := [⟨0, 0, 1, 1, false, []⟩] },  -- GLOBAL_GO
  { off := 0x10C, acc := .rw, reset := 2000, checks := [⟨31, 0, 1, 65535, false, []⟩] },  -- GATHER_MAX
  { off := 0x110, acc := .ro },  -- FIT_STATUS
  { off := 0x114, acc := .ro, n := 5 },  -- FIT_COST
  { off := 0x400, acc := .rwt, reset := 2, checks := [⟨31, 0, 0, 2, false, []⟩] }]  -- OVR_HOLD

/-- Registers of the PWR page at page 0x003. -/
def rowsPwr : List RegRow := [
  { off := 0x044, acc := .ro },  -- PWR_STATE
  { off := 0x048, acc := .ro },  -- WAKE_SRC
  { off := 0x04C, acc := .ro },  -- WAKE_CNT
  { off := 0x050, acc := .ro, wide := true },  -- PARK_TBM
  { off := 0x058, acc := .ro },  -- PARK_TIME
  { off := 0x05C, acc := .ro },  -- PWR_REFUSE
  { off := 0x100, acc := .rw, mask := 0x7 },  -- PWR_TARGET
  { off := 0x104, acc := .wo, checks := [⟨31, 0, 1, 1, false, []⟩] },  -- PWR_CMD
  { off := 0x108, acc := .rw, reset := 255, mask := 0xFF },  -- WAKE_EN
  { off := 0x10C, acc := .rw },  -- WAKE_AT_LO
  { off := 0x110, acc := .rw, mask := 0xFFFF },  -- WAKE_AT_HI
  { off := 0x114, acc := .rw, reset := 2560, mask := 0xFF7F, checks := [⟨6, 0, 0, 95, false, []⟩, ⟨15, 8, 1, 255, false, []⟩] }]  -- WAKE_FIN

/-- Registers of the ATT page at page 0x004. -/
def rowsAtt : List RegRow := [
  { off := 0x044, acc := .ro },  -- MEAS_GEN
  { off := 0x048, acc := .ro },  -- REPORT_SEQ
  { off := 0x04C, acc := .ro },  -- ATT_LEN
  { off := 0x050, acc := .ro },  -- ATT_RESULT
  { off := 0x054, acc := .ro },  -- EXT_CNT
  { off := 0x058, acc := .ro },  -- ARM_POLICY
  { off := 0x05C, acc := .ro },  -- ARM_POLICY_NEXT
  { off := 0x100, acc := .ro, n := 64 },  -- MEAS
  { off := 0x200, acc := .rw, n := 8 },  -- NONCE_W
  { off := 0x220, acc := .wo, checks := [⟨31, 0, 1, 1, false, []⟩] },  -- ATT_CMD
  { off := 0x224, acc := .rc },  -- ATT_PORT
  { off := 0x228, acc := .wo },  -- ATT_CONFIRM
  { off := 0x240, acc := .rw, n := 8 },  -- EXT_W
  { off := 0x260, acc := .wo, checks := [⟨31, 0, 6, 7, false, []⟩] },  -- EXT_CMD
  { off := 0x264, acc := .wo },  -- BLOB_PORT
  { off := 0x268, acc := .wo, checks := [⟨31, 0, 1, 2, false, []⟩] },  -- BLOB_CMD
  { off := 0x26C, acc := .rw },  -- BLOB_LEN_SET
  { off := 0x270, acc := .wo }]  -- POLICY_SET

/-- Registers of the HOST page at page 0x005. -/
def rowsHost : List RegRow := [
  { off := 0x044, acc := .ro },  -- HSL_FRAMES
  { off := 0x048, acc := .ro },  -- HSL_CRC_ERR
  { off := 0x04C, acc := .ro },  -- HSL_ABORT
  { off := 0x050, acc := .ro },  -- IVY_FRAMES
  { off := 0x054, acc := .ro },  -- IVY_AUTH_FAIL
  { off := 0x058, acc := .ro },  -- IVY_REPLAY
  { off := 0x05C, acc := .ro },  -- IVY_SESS
  { off := 0x060, acc := .ro },  -- LAST_ERR
  { off := 0x064, acc := .ro },  -- LAST_ERR_ADDR
  { off := 0x100, acc := .rw, reset := 200, checks := [⟨31, 0, 10, 10000, false, []⟩] },  -- HB_PERIOD
  { off := 0x104, acc := .wo },  -- HB_KICK
  { off := 0x108, acc := .rw, checks := [⟨31, 0, 0, 1, false, []⟩] },  -- HB_SRC
  { off := 0x10C, acc := .rwt, idi := true, checks := [⟨31, 0, 0, 2, false, []⟩] },  -- HOSTLOST_POLICY
  { off := 0x110, acc := .rwt, idi := true, checks := [⟨31, 0, 1, 60, false, []⟩] },  -- CONTINUE_MAX
  { off := 0x120, acc := .rw, mask := 0x1 },  -- IVY_CTRL
  { off := 0x124, acc := .rw, reset := 0xBC48, checks := [⟨31, 0, 0, 65535, false, []⟩] },  -- IVY_PORT
  { off := 0x128, acc := .rw, reset := 10, checks := [⟨31, 0, 1, 600, false, []⟩] },  -- IVY_IDLE
  { off := 0x130, acc := .wo, mask := 0x1 },  -- PAIR_SEL
  { off := 0x140, acc := .wo, n := 8 },  -- PAIR_KEY
  { off := 0x160, acc := .wo, checks := [⟨31, 0, 1, 2, false, []⟩] },  -- PAIR_CMD
  { off := 0x164, acc := .ro },  -- PAIR_STAT
  { off := 0x400, acc := .rw, reset := 1000, checks := [⟨31, 0, 10, 10000, false, []⟩] }]  -- HSL_STALL_TO

/-- Registers of the TIME page at page 0x006. -/
def rowsTime : List RegRow := [
  { off := 0x048, acc := .ro, wide := true },  -- TBM
  { off := 0x050, acc := .ro, wide := true },  -- TBS
  { off := 0x058, acc := .ro },  -- TBS_PPB
  { off := 0x060, acc := .ro },  -- TBG_NS
  { off := 0x064, acc := .ro },  -- TBG_S_LO
  { off := 0x068, acc := .ro },  -- TBG_S_HI
  { off := 0x06C, acc := .ro },  -- TBG_STATE
  { off := 0x070, acc := .ro },  -- PPS_STATUS
  { off := 0x074, acc := .ro },  -- PPS_UNC
  { off := 0x078, acc := .ro },  -- HOLD_ELAPSED
  { off := 0x07C, acc := .ro },  -- GPS_UTC
  { off := 0x100, acc := .rw, reset := 1, mask := 0x1 },  -- TBS_DISC
  { off := 0x104, acc := .rw, reset := 0x640001, mask := 0x1FF0003, checks := [⟨24, 16, 1, 500, false, []⟩] },  -- PPS_CTRL
  { off := 0x108, acc := .rw, reset := 3600, checks := [⟨31, 0, 60, 86400, false, []⟩] },  -- HOLDOVER_MAX
  { off := 0x10C, acc := .rw, reset := 50, checks := [⟨31, 0, 1, 1000, false, []⟩] },  -- HOLD_RATE_PPB
  { off := 0x110, acc := .rw, mask := 0x3, checks := [⟨1, 0, 0, 2, false, []⟩] },  -- WALL_SEL
  { off := 0x180, acc := .ro },  -- RTC_SUB
  { off := 0x184, acc := .ro },  -- RTC_S_LO
  { off := 0x188, acc := .ro },  -- RTC_S_HI
  { off := 0x400, acc := .rw, reset := 1000, checks := [⟨31, 0, 100, 10000, false, []⟩] },  -- TBS_SLEW_PPB
  { off := 0x404, acc := .rw, reset := 100, checks := [⟨31, 0, 1, 100, false, []⟩] }]  -- RET_SLEW_NS

/-- Registers of the TIME1 page at page 0x007. -/
def rowsTime1 : List RegRow := [
  { off := 0x048, acc := .ro },  -- TBN_NS
  { off := 0x04C, acc := .ro },  -- TBN_S_LO
  { off := 0x050, acc := .ro },  -- TBN_S_HI
  { off := 0x054, acc := .ro },  -- LEG32
  { off := 0x058, acc := .ro },  -- ADJ_REM
  { off := 0x05C, acc := .ro },  -- TBN_STEP_CNT
  { off := 0x060, acc := .ro },  -- CAP_SEQ
  { off := 0x064, acc := .ro },  -- CAP_SRC
  { off := 0x068, acc := .ro, wide := true },  -- CAP_TBS
  { off := 0x070, acc := .ro },  -- CAP_TBN_NS
  { off := 0x074, acc := .ro },  -- CAP_TBN_S_LO
  { off := 0x078, acc := .ro },  -- CAP_TBN_S_HI
  { off := 0x07C, acc := .ro },  -- CAP_STEP_CNT
  { off := 0x100, acc := .rw, reset := 0xA00000000, wide := true },  -- INCR
  { off := 0x108, acc := .rw },  -- ADJ
  { off := 0x10C, acc := .rw, reset := 500, checks := [⟨31, 0, 1, 500, false, []⟩] },  -- ADJ_PPM
  { off := 0x110, acc := .rw, wide := true },  -- STEP_OFS
  { off := 0x118, acc := .rw },  -- SET_NS
  { off := 0x11C, acc := .rw },  -- SET_S_LO
  { off := 0x120, acc := .rw, mask := 0xFFFF },  -- SET_S_HI
  { off := 0x124, acc := .wo, checks := [⟨31, 0, 1, 2, false, []⟩] },  -- STEP_CMD
  { off := 0x128, acc := .rw, reset := 0x1388, checks := [⟨31, 0, 100, 600000, false, []⟩] },  -- TBN_TIMEOUT
  { off := 0x12C, acc := .wo }]  -- CAP_NOW

/-- Registers of the POSE page at page 0x008. -/
def rowsPose0 : List RegRow := [
  { off := 0x044, acc := .ro },  -- POSE_ACC_CNT
  { off := 0x048, acc := .ro },  -- POSE_REF_CNT
  { off := 0x04C, acc := .ro },  -- LAST_REFUSE
  { off := 0x050, acc := .ro },  -- POSE_STATE
  { off := 0x054, acc := .ro },  -- POSE_AGE
  { off := 0x058, acc := .ro },  -- LATCH_E
  { off := 0x05C, acc := .ro },  -- LATCH_N
  { off := 0x060, acc := .ro },  -- LATCH_U
  { off := 0x064, acc := .ro },  -- LATCH_HDG
  { off := 0x068, acc := .ro },  -- LATCH_SPD
  { off := 0x06C, acc := .ro },  -- LATCH_ACC
  { off := 0x070, acc := .ro },  -- LATCH_KAPPA
  { off := 0x074, acc := .ro },  -- DR_DIST
  { off := 0x078, acc := .ro },  -- LAST_JUMP
  { off := 0x100, acc := .rwt, mask := 0x3, checks := [⟨1, 0, 0, 2, false, []⟩] },  -- POSE_SRC
  { off := 0x104, acc := .rwt, mask := 0x3 },  -- IMU_USE
  { off := 0x108, acc := .rwt },  -- JOB_LAT
  { off := 0x10C, acc := .rwt },  -- JOB_LON
  { off := 0x110, acc := .rwt },  -- JOB_H
  { off := 0x114, acc := .rwt, reset := 100, idi := true, checks := [⟨31, 0, 20, 100, false, []⟩] },  -- POSE_STALE
  { off := 0x118, acc := .rwt, reset := 2000, idi := true, checks := [⟨31, 0, 100, 2000, false, []⟩] },  -- DR_TIME_MAX
  { off := 0x11C, acc := .rwt, reset := 0x4E20, idi := true, checks := [⟨31, 0, 1000, 20000, false, []⟩] },  -- DR_DIST_MAX
  { off := 0x120, acc := .rwt, idi := true, mask := 0xF },  -- POSE_QMIN
  { off := 0x124, acc := .rwt, idi := true, mask := 0x1 },  -- REV_POLICY
  { off := 0x128, acc := .rwt, idi := true, checks := [⟨31, 0, 0, 60000, false, []⟩] },  -- STOP_CLOSE
  { off := 0x12C, acc := .rwt, reset := 500, checks := [⟨31, 0, 10, 5000, false, []⟩] },  -- POSE_JUMP
  { off := 0x130, acc := .rw, mask := 0xF, checks := [⟨3, 0, 0, 5, false, [3]⟩] },  -- CAN_FIX
  { off := 0x180, acc := .rw },  -- PIN_T_LO
  { off := 0x184, acc := .rw },  -- PIN_T_HI
  { off := 0x188, acc := .rw },  -- PIN_E
  { off := 0x18C, acc := .rw },  -- PIN_N
  { off := 0x190, acc := .rw },  -- PIN_U
  { off := 0x194, acc := .rw, mask := 0xFFFF },  -- PIN_HDG
  { off := 0x198, acc := .rw },  -- PIN_SPD
  { off := 0x19C, acc := .rw },  -- PIN_YAW
  { off := 0x1A0, acc := .rw },  -- PIN_ACC
  { off := 0x1A4, acc := .rw, mask := 0xFFFF3F, checks := [⟨3, 0, 0, 5, false, [3]⟩] },  -- PIN_QUAL
  { off := 0x1A8, acc := .wo, mask := 0x1 },  -- PIN_COMMIT
  { off := 0x400, acc := .rwt, reset := 0x30D40, idi := true, checks := [⟨31, 0, 1000, 500000, false, []⟩] },  -- KAPPA_MAX
  { off := 0x404, acc := .rwt, reset := 3000, checks := [⟨31, 0, 100, 10000, false, []⟩] }]  -- A_MAX

/-- Registers of the POSE page at page 0x008. -/
def rowsPose1 : List RegRow := [
  { off := 0x408, acc := .rwt, idi := true, checks := [⟨31, 0, 0, 100000, false, []⟩] },  -- CAN_LAT_US
  { off := 0x40C, acc := .rwt, reset := 0x2710, checks := [⟨31, 0, 1000, 50000, false, []⟩] }]  -- IMU_WIN_US

/-- All registers of the POSE page at page 0x008. -/
def rowsPose : List RegRow := rowsPose0 ++ rowsPose1

/-- Registers of the IMP page at page 0x009. -/
def rowsImp : List RegRow := [
  { off := 0x044, acc := .ro },  -- STAGE_LEN
  { off := 0x048, acc := .ro },  -- STAGE_STATE
  { off := 0x04C, acc := .ro },  -- ACTIVE_SERIAL
  { off := 0x050, acc := .ro },  -- STAGED_SERIAL
  { off := 0x054, acc := .ro },  -- IDI_ACT_CNT
  { off := 0x058, acc := .ro },  -- STORED_SERIAL
  { off := 0x060, acc := .ro, n := 8 },  -- STAGE_HASH
  { off := 0x080, acc := .ro, n := 8 },  -- ACTIVE_HASH
  { off := 0x100, acc := .wo },  -- STAGE_PORT
  { off := 0x104, acc := .wo, checks := [⟨31, 0, 1, 4, false, []⟩] },  -- IDI_CMD
  { off := 0x108, acc := .rwt, mask := 0x1 }]  -- IDI_ACTIVATE

/-- Registers of the BSS page at page 0x00A. -/
def rowsBss : List RegRow := [
  { off := 0x060, acc := .ro, n := 3, step := 0x20 },  -- BL_STATE
  { off := 0x064, acc := .ro, n := 3, step := 0x20 },  -- BL_E
  { off := 0x068, acc := .ro, n := 3, step := 0x20 },  -- BL_N
  { off := 0x06C, acc := .ro, n := 3, step := 0x20 },  -- BL_U
  { off := 0x070, acc := .ro, n := 3, step := 0x20 },  -- BL_NSAT
  { off := 0x074, acc := .ro, n := 3, step := 0x20 },  -- BL_RATIO
  { off := 0x078, acc := .ro, n := 3, step := 0x20 },  -- BL_RMS
  { off := 0x07C, acc := .ro, n := 3, step := 0x20 },  -- BL_BIAS
  { off := 0x0C0, acc := .ro },  -- GEO_AGE
  { off := 0x0C4, acc := .ro },  -- FIT_RMS
  { off := 0x0C8, acc := .ro },  -- FIT_REJ
  { off := 0x0CC, acc := .ro },  -- RES_A
  { off := 0x0D0, acc := .ro },  -- GEO_HELD
  { off := 0x0D4, acc := .ro },  -- FB_CNT
  { off := 0x0D8, acc := .ro },  -- REPAIR_CNT
  { off := 0x0DC, acc := .ro },  -- GEO_SRC
  { off := 0x100, acc := .rwt, wide := true },  -- GEO_EPOCH
  { off := 0x108, acc := .rwt },  -- GEO_SEQ
  { off := 0x120, acc := .rwt, n := 3, step := 0x20, idi := true },  -- OX
  { off := 0x124, acc := .rwt, n := 3, step := 0x20, idi := true },  -- OY
  { off := 0x128, acc := .rwt, n := 3, step := 0x20, idi := true, mask := 0xFFFF },  -- YAW
  { off := 0x12C, acc := .rwt, n := 3, step := 0x20 },  -- LAT
  { off := 0x130, acc := .rwt, n := 3, step := 0x20 },  -- UL
  { off := 0x134, acc := .rwt, n := 3, step := 0x20 },  -- UR
  { off := 0x200, acc := .rwt, reset := 3000, checks := [⟨31, 0, 200, 30000, false, []⟩] },  -- GEO_HOLD_MAX
  { off := 0x204, acc := .rwt, mask := 0x1 },  -- GEO_FB_POLICY
  { off := 0x400, acc := .rw, reset := 250, checks := [⟨31, 0, 50, 1000, false, []⟩] },  -- BL_SEARCH
  { off := 0x404, acc := .rw, reset := 768, checks := [⟨31, 0, 384, 2560, false, []⟩] },  -- FIX_RATIO
  { off := 0x408, acc := .rw, reset := 8, checks := [⟨31, 0, 2, 50, false, []⟩] },  -- FIX_RMS_MAX
  { off := 0x40C, acc := .rw, reset := 20, checks := [⟨31, 0, 5, 200, false, []⟩] },  -- FIX_CONFIRM
  { off := 0x410, acc := .rw, reset := 20, checks := [⟨31, 0, 5, 100, false, []⟩] },  -- LOSS_RMS
  { off := 0x414, acc := .rw, reset := 30, checks := [⟨31, 0, 5, 200, false, []⟩] }]  -- FIT_RMS_MAX

/-- Registers of the NAV page at page 0x010. -/
def rowsNav : List RegRow := [
  { off := 0x044, acc := .ro },  -- EPOCH_SEQ
  { off := 0x048, acc := .ro, wide := true },  -- SMP_CNT
  { off := 0x050, acc := .ro, wide := true },  -- CH_ACTIVE
  { off := 0x058, acc := .ro },  -- ANT_STAT
  { off := 0x05C, acc := .ro },  -- ANT_CURR
  { off := 0x060, acc := .ro },  -- AGC_GAIN
  { off := 0x064, acc := .ro },  -- MEAS_LEVEL
  { off := 0x068, acc := .ro },  -- MEAS_DROP
  { off := 0x06C, acc := .ro },  -- NAVW_LEVEL
  { off := 0x070, acc := .ro },  -- NAVW_DROP
  { off := 0x074, acc := .rc },  -- DUMP_PEAK
  { off := 0x078, acc := .ro },  -- SOL_STATUS
  { off := 0x07C, acc := .ro },  -- SOL_LAT
  { off := 0x080, acc := .ro },  -- SOL_LON
  { off := 0x084, acc := .ro },  -- SOL_H
  { off := 0x088, acc := .ro },  -- SOL_HACC
  { off := 0x100, acc := .rw, reset := 255, mask := 0xFF },  -- ANT_CTRL
  { off := 0x104, acc := .rwt, reset := 10, checks := [⟨31, 0, 0, 45, false, []⟩] },  -- ELEV_MASK
  { off := 0x108, acc := .rwt, reset := 16, checks := [⟨31, 0, 4, 16, false, []⟩] },  -- MAX_SATS
  { off := 0x10C, acc := .rw, mask := 0x1 },  -- MEAS_CTRL
  { off := 0x110, acc := .rw, reset := 0x1002, mask := 0xFF03, checks := [⟨15, 8, 1, 255, false, []⟩] },  -- NAVW_CTRL
  { off := 0x180, acc := .rc },  -- MEAS_PORT
  { off := 0x184, acc := .rc },  -- NAVW_PORT
  { off := 0x400, acc := .rw, reset := 220, checks := [⟨31, 0, 150, 350, false, []⟩] },  -- LOSS_CN0
  { off := 0x404, acc := .rw, reset := 1000, checks := [⟨31, 0, 100, 10000, false, []⟩] },  -- LOSS_TIME
  { off := 0x408, acc := .rw, reset := 2000, checks := [⟨31, 0, 500, 10000, false, []⟩] }]  -- PULLIN_MAX

/-- Registers of the ACQ page at page 0x011. -/
def rowsAcq : List RegRow := [
  { off := 0x044, acc := .ro },  -- ACQ_DONE
  { off := 0x048, acc := .ro },  -- ACQ_STALL
  { off := 0x04C, acc := .ro },  -- ACQ_STATE
  { off := 0x400, acc := .rw, reset := 0xA0000, mask := 0xFF1F0100 },  -- JOB_CFG
  { off := 0x404, acc := .rw },  -- JOB_F0
  { off := 0x408, acc := .rw, reset := 5 },  -- JOB_NGRP
  { off := 0x40C, acc := .rw, reset := 512, checks := [⟨31, 0, 320, 4096, false, []⟩] },  -- JOB_THR
  { off := 0x410, acc := .wo },  -- JOB_PUSH
  { off := 0x414, acc := .rc },  -- ACQ_RES_PORT
  { off := 0x418, acc := .wo }]  -- ACQ_FLUSH

/-- Registers of the INTEG page at page 0x012. -/
def rowsInteg : List RegRow := [
  { off := 0x044, acc := .ro },  -- INTEG_FLAGS
  { off := 0x048, acc := .ro },  -- PRN_EXCL
  { off := 0x04C, acc := .ro },  -- SPF_R
  { off := 0x050, acc := .ro },  -- CLK_RESID
  { off := 0x054, acc := .ro },  -- CLK_DRIFT_RATE
  { off := 0x058, acc := .ro },  -- CN0_SD
  { off := 0x05C, acc := .ro },  -- INTEG_EVT
  { off := 0x060, acc := .ro, wide := true },  -- CH_EXCL
  { off := 0x100, acc := .rwt, reset := 2, mask := 0x3 },  -- INTEG_POLICY
  { off := 0x104, acc := .wo, checks := [⟨31, 0, 1, 2, false, []⟩] },  -- INTEG_CMD
  { off := 0x108, acc := .rw, reset := 60, checks := [⟨31, 0, 10, 3600, false, []⟩] },  -- CLK_QUIET
  { off := 0x400, acc := .rw, reset := 90, checks := [⟨31, 0, 70, 99, false, []⟩] },  -- SPF_R_THR
  { off := 0x404, acc := .rw, reset := 10, checks := [⟨31, 0, 2, 100, false, []⟩] },  -- SPF_PERSIST
  { off := 0x408, acc := .rw, reset := 50, checks := [⟨31, 0, 10, 300, false, []⟩] },  -- XCODE_M
  { off := 0x40C, acc := .rw, reset := 25, checks := [⟨31, 0, 5, 100, false, []⟩] },  -- DIST_THR
  { off := 0x410, acc := .rw, reset := 0x1388, checks := [⟨31, 0, 1000, 50000, false, []⟩] },  -- CCD_THR
  { off := 0x414, acc := .rw, reset := 10, checks := [⟨31, 0, 5, 50, false, []⟩] },  -- CN0_SD_MIN
  { off := 0x418, acc := .rw, reset := 12, checks := [⟨31, 0, 4, 40, false, []⟩] },  -- AGC_DROP
  { off := 0x41C, acc := .rw, reset := 200, checks := [⟨31, 0, 50, 10000, false, []⟩] },  -- CLK_JUMP_NS
  { off := 0x420, acc := .rw, reset := 20, checks := [⟨31, 0, 5, 1000, false, []⟩] }]  -- CLK_DRIFT_PPB

/-- Registers of the BURST page at page 0x013. -/
def rowsBurst : List RegRow := [
  { off := 0x044, acc := .ro },  -- BURST_CNT
  { off := 0x048, acc := .ro },  -- BURST_FAIL_RUN
  { off := 0x04C, acc := .ro },  -- BURST_LAST
  { off := 0x050, acc := .ro },  -- TBL_LEFT
  { off := 0x100, acc := .rw, reset := 300, checks := [⟨31, 0, 250, 400, false, []⟩] },  -- BURST_CN0_MIN
  { off := 0x104, acc := .rw, reset := 10, checks := [⟨31, 0, 1, 60, false, []⟩] },  -- BURST_FAIL_MAX
  { off := 0x108, acc := .rw, reset := 1800, checks := [⟨31, 0, 60, 14400, false, []⟩] }]  -- TBL_VALID_MAX

/-- Registers of the TCW page at page 0x014. -/
def rowsTcw : List RegRow := [
  { off := 0x400, acc := .rw, n := 8, step := 0x100, mask := 0xFF000000, checks := [⟨29, 24, 1, 32, false, []⟩] },  -- TC_CFG
  { off := 0x404, acc := .rw, n := 8, step := 0x100, mask := 0xFFFFF },  -- TC_INIT_CODE
  { off := 0x408, acc := .rw, n := 8, step := 0x100 },  -- TC_INIT_DOP
  { off := 0x40C, acc := .rw, n := 8, step := 0x100 },  -- TC_INIT_REF
  { off := 0x410, acc := .rw, reset := 0x50A0F32, n := 8, step := 0x100, mask := 0x7FFFFFF, checks := [⟨7, 0, 5, 200, false, []⟩, ⟨15, 8, 5, 30, false, []⟩, ⟨23, 16, 2, 20, false, []⟩, ⟨26, 24, 0, 5, false, []⟩] },  -- TC_LOOP
  { off := 0x414, acc := .rw, reset := 264, n := 8, step := 0x100, mask := 0x1FF, checks := [⟨3, 0, 1, 8, false, []⟩] },  -- TC_TAPS
  { off := 0x418, acc := .wo, n := 8, step := 0x100, checks := [⟨31, 0, 1, 2, false, []⟩] },  -- TC_CMD
  { off := 0x41C, acc := .ro, n := 8, step := 0x100 },  -- TC_STATE
  { off := 0x420, acc := .ro, n := 8, step := 0x100 },  -- TC_CN0
  { off := 0x424, acc := .ro, n := 8, step := 0x100 },  -- TC_LOCK
  { off := 0x428, acc := .ro, n := 8, step := 0x100 },  -- TC_SLIP
  { off := 0x42C, acc := .ro, n := 8, step := 0x100 },  -- TC_DOP
  { off := 0x430, acc := .ro, n := 8, step := 0x100 },  -- TC_CODE
  { off := 0x434, acc := .ro, n := 8, step := 0x100 },  -- TC_TXMS
  { off := 0x438, acc := .ro, n := 8, step := 0x100, wide := true },  -- TC_CARR
  { off := 0x440, acc := .ro, n := 8, step := 0x100 },  -- TAP_VE_I
  { off := 0x444, acc := .ro, n := 8, step := 0x100 },  -- TAP_VE_Q
  { off := 0x448, acc := .ro, n := 8, step := 0x100 },  -- TAP_E_I
  { off := 0x44C, acc := .ro, n := 8, step := 0x100 },  -- TAP_E_Q
  { off := 0x450, acc := .ro, n := 8, step := 0x100 },  -- TAP_P_I
  { off := 0x454, acc := .ro, n := 8, step := 0x100 },  -- TAP_P_Q
  { off := 0x458, acc := .ro, n := 8, step := 0x100 },  -- TAP_L_I
  { off := 0x45C, acc := .ro, n := 8, step := 0x100 },  -- TAP_L_Q
  { off := 0x460, acc := .ro, n := 8, step := 0x100 },  -- TAP_VL_I
  { off := 0x464, acc := .ro, n := 8, step := 0x100 },  -- TAP_VL_Q
  { off := 0x468, acc := .ro, n := 8, step := 0x100 }]  -- TC_DUMP_SEQ

/-- Registers of the TCW page at page 0x014: the header only. -/
def rowsNavx : List RegRow := []

/-- Registers of the MAP page at page 0x020. -/
def rowsMap : List RegRow := [
  { off := 0x044, acc := .ro },  -- JOB_STATE
  { off := 0x048, acc := .ro },  -- TILES_STORED
  { off := 0x04C, acc := .ro },  -- HEAP_FREE
  { off := 0x050, acc := .ro },  -- WIN_RES
  { off := 0x054, acc := .ro },  -- PAGE_IN_CNT
  { off := 0x058, acc := .rc },  -- PAGE_IN_PEAK
  { off := 0x05C, acc := .ro },  -- WIN_MISS
  { off := 0x060, acc := .ro },  -- PF_DIST_ACT
  { off := 0x064, acc := .ro },  -- UNK_TILES
  { off := 0x068, acc := .ro },  -- UNK_CELLS
  { off := 0x06C, acc := .ro },  -- UNK_HITS
  { off := 0x070, acc := .ro, wide := true },  -- UNPAINTED_US
  { off := 0x078, acc := .ro },  -- RATE_SAT
  { off := 0x07C, acc := .ro },  -- CORR_CNT
  { off := 0x080, acc := .ro },  -- LAST_UNK_X
  { off := 0x084, acc := .ro },  -- LAST_UNK_Y
  { off := 0x088, acc := .ro },  -- LAST_UNK_L
  { off := 0x08C, acc := .ro, wide := true },  -- EXP_LEN
  { off := 0x094, acc := .ro },  -- IMP_ACC
  { off := 0x098, acc := .ro },  -- IMP_REJ
  { off := 0x09C, acc := .ro },  -- POLY_VERTS
  { off := 0x100, acc := .wo },  -- JOB_CMD
  { off := 0x104, acc := .rwt, reset := 1, mask := 0x33 },  -- JOB_CFG
  { off := 0x108, acc := .rwt },  -- JOB_ID
  { off := 0x10C, acc := .rwt, n := 4, idi := true },  -- NOM_RATE
  { off := 0x11C, acc := .rwt, idi := true, mask := 0xFF, checks := [⟨7, 0, 1, 3, false, []⟩] },  -- RX_UNIT
  { off := 0x120, acc := .rwt, reset := 0x7530, checks := [⟨31, 0, 10000, 100000, false, []⟩] },  -- PF_DIST
  { off := 0x124, acc := .wo, checks := [⟨31, 0, 1, 3, false, []⟩] },  -- EXP_CMD
  { off := 0x128, acc := .rw },  -- EXP_SINCE
  { off := 0x12C, acc := .rw, checks := [⟨31, 0, 0, 2047, false, []⟩] },  -- EXP_PAGE
  { off := 0x130, acc := .rw },  -- IMP_LEN
  { off := 0x134, acc := .wo, checks := [⟨31, 0, 1, 1, false, []⟩] },  -- IMP_CMD
  { off := 0x138, acc := .rw },  -- RX_LEN
  { off := 0x13C, acc := .wo, checks := [⟨31, 0, 1, 1, false, []⟩] },  -- RX_CMD
  { off := 0x400, acc := .rw, reset := 1000, checks := [⟨31, 0, 100, 10000, false, []⟩] },  -- WB_PERIOD
  { off := 0x404, acc := .rw, mask := 0x1 },  -- ENC_FORCE
  { off := 0x408, acc := .rw, reset := 0x10000, checks := [⟨31, 0, 1024, 524288, false, []⟩] }]  -- LOW_SPACE

/-- Registers of the SDE page at page 0x021. -/
def rowsSde : List RegRow := [
  { off := 0x044, acc := .ro },  -- DEC_CHG
  { off := 0x048, acc := .ro },  -- SEC_ON_CNT
  { off := 0x04C, acc := .ro },  -- UNK_SEC
  { off := 0x050, acc := .ro },  -- FILL_CNT
  { off := 0x054, acc := .ro },  -- SUPPR_CNT
  { off := 0x058, acc := .ro },  -- TL_TRUNC
  { off := 0x05C, acc := .ro },  -- DLY_MAX
  { off := 0x060, acc := .ro, n := 16 },  -- SEC_ON
  { off := 0x100, acc := .rw, mask := 0x1 },  -- MASTER
  { off := 0x104, acc := .rwt, reset := 2000, checks := [⟨31, 0, 250, 8000, false, []⟩] },  -- HORIZON
  { off := 0x108, acc := .rw, mask := 0x1FF },  -- TL_SEL
  { off := 0x10C, acc := .ro },  -- TL_COUNT
  { off := 0x110, acc := .rc },  -- TL_PORT
  { off := 0x400, acc := .rwt },  -- COV_SPACING
  { off := 0x404, acc := .rwt, reset := 83, checks := [⟨31, 0, 28, 556, false, []⟩] },  -- PIVOT_SPD
  { off := 0x408, acc := .rwt, reset := 2, checks := [⟨31, 0, 0, 50, false, []⟩] }]  -- SPD_HYST

/-- Registers of the EDS page at page 0x022. -/
def rowsEds : List RegRow := [
  { off := 0x044, acc := .ro },  -- EDGE_CNT
  { off := 0x048, acc := .ro },  -- LATE_RUN_CNT
  { off := 0x04C, acc := .ro },  -- LATE_DROP_CNT
  { off := 0x050, acc := .ro },  -- CORR_CNT
  { off := 0x054, acc := .ro },  -- GAP_MERGE
  { off := 0x058, acc := .ro, wide := true },  -- LATE_MM
  { off := 0x060, acc := .ro },  -- ACT_LEVEL
  { off := 0x064, acc := .ro },  -- ACT_REF_CNT
  { off := 0x068, acc := .ro },  -- ACT_RESULT
  { off := 0x06C, acc := .ro },  -- ACT_EXPIRED
  { off := 0x070, acc := .ro },  -- ACT_DONE_TAG
  { off := 0x074, acc := .ro, n := 16 },  -- INHIBIT
  { off := 0x100, acc := .rwt, idi := true, mask := 0x1 },  -- DEC_LATE
  { off := 0x104, acc := .rwt, reset := 500, checks := [⟨31, 0, 10, 2000, false, []⟩] },  -- SLACK_CAP
  { off := 0x108, acc := .rwt, reset := 1, mask := 0x1 },  -- INTERLEAVE
  { off := 0x10C, acc := .rwt, reset := 600, checks := [⟨31, 0, 1, 3600, false, []⟩] },  -- POS_TTL
  { off := 0x110, acc := .rw, n := 6 },  -- ACT_W
  { off := 0x128, acc := .wo },  -- ACT_PUSH
  { off := 0x12C, acc := .wo, mask := 0xFFFF },  -- ACT_CANCEL
  { off := 0x400, acc := .rwt, reset := 150, checks := [⟨31, 0, 150, 1000, false, []⟩] },  -- EDGE_GAP
  { off := 0x404, acc := .rwt, reset := 10, checks := [⟨31, 0, 0, 25, false, []⟩] }]  -- PHASE_ADJ

/-- Registers of the LAT page at page 0x023. -/
def rowsLat : List RegRow := [
  { off := 0x044, acc := .ro },  -- MEAS_ACC
  { off := 0x048, acc := .ro },  -- MEAS_REJ
  { off := 0x04C, acc := .ro },  -- LAST_REJ
  { off := 0x050, acc := .ro, n := 16 },  -- LRN_LOST
  { off := 0x100, acc := .rwt, reset := 8, checks := [⟨31, 0, 2, 63, false, []⟩] }]  -- REJ_MAX

/-- Registers of the BWK page at page 0x024. -/
def rowsBwk0 : List RegRow := [
  { off := 0x044, acc := .ro },  -- ADM_CNT
  { off := 0x048, acc := .ro },  -- DEFER_CNT
  { off := 0x04C, acc := .ro },  -- CARRY_CNT
  { off := 0x050, acc := .ro },  -- REF_BUDGET
  { off := 0x054, acc := .ro },  -- REF_OVERLAP
  { off := 0x058, acc := .ro },  -- REF_THERMAL
  { off := 0x05C, acc := .ro },  -- DEGRADED_CNT
  { off := 0x060, acc := .ro, wide := true },  -- SPENT_BUD
  { off := 0x068, acc := .ro, wide := true },  -- SPENT_OVL
  { off := 0x070, acc := .ro, wide := true },  -- SPENT_THM
  { off := 0x078, acc := .ro, wide := true },  -- SHIFT_MM
  { off := 0x080, acc := .ro },  -- SUP_I
  { off := 0x084, acc := .rc },  -- SUP_PROJ_MAX
  { off := 0x088, acc := .ro },  -- DIE_T
  { off := 0x08C, acc := .ro },  -- MOD_P
  { off := 0x090, acc := .ro, n := 16 },  -- HOT
  { off := 0x0D0, acc := .ro },  -- TH_TW
  { off := 0x0D4, acc := .ro },  -- TH_TC
  { off := 0x0D8, acc := .ro },  -- TH_TR
  { off := 0x0DC, acc := .ro },  -- TH_EST
  { off := 0x0E0, acc := .ro },  -- TH_TSW
  { off := 0x0E4, acc := .ro },  -- TH_HOLD
  { off := 0x100, acc := .rwt, idi := true, checks := [⟨31, 0, 20, 200, false, []⟩] },  -- I_SUP_MAX
  { off := 0x104, acc := .rwt, reset := 200, checks := [⟨31, 0, 10, 400, false, []⟩] },  -- RAMP_A
  { off := 0x108, acc := .rwt, reset := 10, checks := [⟨31, 0, 0, 50, false, []⟩] },  -- RES_PCT
  { off := 0x10C, acc := .rw, reset := 500, checks := [⟨31, 0, -400, 850, true, []⟩] },  -- T_AMB
  { off := 0x110, acc := .rw, mask := 0x1FF },  -- TH_SEL
  { off := 0x114, acc := .rwt, idi := true, checks := [⟨31, 0, 60, 200, false, []⟩] },  -- T_DERATE
  { off := 0x118, acc := .rwt, idi := true, checks := [⟨31, 0, 80, 220, false, []⟩] },  -- T_REFUSE
  { off := 0x11C, acc := .rwt, idi := true, checks := [⟨31, 0, 85, 240, false, []⟩] },  -- T_CUT
  { off := 0x120, acc := .rwt, reset := 10, checks := [⟨31, 0, 2, 40, false, []⟩] },  -- T_RESUME_K
  { off := 0x124, acc := .rwt, idi := true, checks := [⟨31, 0, 50, 100, false, []⟩] },  -- HOLD_FLOOR
  { off := 0x128, acc := .rwt, reset := 750, checks := [⟨31, 0, 100, 750, false, []⟩] },  -- P_MOD_MAX
  { off := 0x400, acc := .rwt, reset := 0x1388, checks := [⟨31, 0, 100, 60000, false, []⟩] },  -- E_INIT
  { off := 0x404, acc := .rwt, reset := 50, checks := [⟨31, 0, 0, 500, false, []⟩] },  -- OCC_MARGIN
  { off := 0x408, acc := .rwt, reset := 1500, checks := [⟨31, 0, 1000, 1650, false, []⟩] },  -- SW_T_MAX
  { off := 0x40C, acc := .rwt, reset := 1100, checks := [⟨31, 0, 800, 1250, false, []⟩] },  -- TILE_T_THR
  { off := 0x410, acc := .rwt, reset := 1250, checks := [⟨31, 0, 850, 1300, false, []⟩] },  -- TILE_T_MAX
  { off := 0x414, acc := .rwt, reset := 1000, checks := [⟨31, 0, 800, 1250, false, []⟩] },  -- DIE_T1
  { off := 0x418, acc := .rwt, reset := 1100, checks := [⟨31, 0, 850, 1250, false, []⟩] }]  -- DIE_T2

/-- Registers of the BWK page at page 0x024. -/
def rowsBwk1 : List RegRow := [
  { off := 0x41C, acc := .rwt, reset := 1200, checks := [⟨31, 0, 900, 1300, false, []⟩] },  -- DIE_T3
  { off := 0x420, acc := .rwt, reset := 50, checks := [⟨31, 0, 10, 200, false, []⟩] }]  -- DIE_HYST

/-- All registers of the BWK page at page 0x024. -/
def rowsBwk : List RegRow := rowsBwk0 ++ rowsBwk1

/-- Registers of the LDG page at page 0x025. -/
def rowsLdg : List RegRow := [
  { off := 0x044, acc := .ro },  -- SESS_ID
  { off := 0x048, acc := .ro },  -- SESS_STATUS
  { off := 0x050, acc := .ro, wide := true },  -- LAST_FLUSH
  { off := 0x058, acc := .ro },  -- LOSS_FROM_NS
  { off := 0x05C, acc := .ro },  -- LOSS_FROM_S_LO
  { off := 0x060, acc := .ro },  -- LOSS_FROM_S_HI
  { off := 0x064, acc := .ro },  -- LOSS_TO_NS
  { off := 0x068, acc := .ro },  -- LOSS_TO_S_LO
  { off := 0x06C, acc := .ro },  -- LOSS_TO_S_HI
  { off := 0x070, acc := .ro },  -- RESET_GAP
  { off := 0x074, acc := .ro },  -- SAFE_CNT
  { off := 0x078, acc := .ro },  -- SNAP_LEVEL
  { off := 0x07C, acc := .ro },  -- COVERAGE
  { off := 0x080, acc := .ro, n := 16 },  -- INVALID
  { off := 0x100, acc := .rw, mask := 0x1FF },  -- LDG_SEL
  { off := 0x104, acc := .wo, checks := [⟨31, 0, 1, 3, false, []⟩] },  -- LDG_CMD
  { off := 0x108, acc := .rc },  -- SNAP_PORT
  { off := 0x180, acc := .ro, n := 12, step := 0x8, wide := true }]  -- LIVE

/-- Registers of the DIAG page at page 0x026. -/
def rowsDiag : List RegRow := [
  { off := 0x044, acc := .ro },  -- DIAG_LEVEL
  { off := 0x048, acc := .ro },  -- HOST_DROP
  { off := 0x04C, acc := .rc },  -- INTAKE_PEAK
  { off := 0x100, acc := .rw, mask := 0x3FF00F1, checks := [⟨25, 16, 1, 1023, false, []⟩] },  -- DIAG_CTRL
  { off := 0x104, acc := .rc },  -- DIAG_PORT
  { off := 0x108, acc := .rw, mask := 0x3FF, checks := [⟨9, 0, 0, 575, false, []⟩] },  -- DIAG_SEL
  { off := 0x110, acc := .ro, n := 8 }]  -- LAST_SUM

/-- Registers of the DT page at page 0x030. -/
def rowsDt : List RegRow := [
  { off := 0x044, acc := .ro },  -- TEMP_A
  { off := 0x048, acc := .ro },  -- TEMP_B
  { off := 0x04C, acc := .rc },  -- Q_PEAK
  { off := 0x050, acc := .ro },  -- RB_ERR
  { off := 0x054, acc := .ro },  -- Q_CORR
  { off := 0x058, acc := .ro, wide := true },  -- CH_ON
  { off := 0x060, acc := .ro, wide := true },  -- CH_FLT
  { off := 0x100, acc := .rwt, reset := 100, checks := [⟨31, 0, 50, 300, false, []⟩] },  -- TEMP_DIFF
  { off := 0x104, acc := .wo, mask := 0x1, checks := [⟨0, 0, 1, 1, false, []⟩] },  -- TILE_CLR
  { off := 0x108, acc := .rw, mask := 0x81FF }]  -- SNS_SEL

/-- Registers of the BK page at page 0x038. -/
def rowsBk : List RegRow := [
  { off := 0x044, acc := .ro },  -- BK_STATE
  { off := 0x048, acc := .ro },  -- BK_I
  { off := 0x04C, acc := .rc },  -- BK_I_MAX
  { off := 0x050, acc := .ro },  -- BOOST_CNT
  { off := 0x054, acc := .ro },  -- OVL_DEFER
  { off := 0x058, acc := .ro },  -- OVL_DEG
  { off := 0x05C, acc := .ro },  -- OVL_DROP
  { off := 0x060, acc := .ro },  -- CLAMP_CNT
  { off := 0x064, acc := .ro },  -- CHF_STATE
  { off := 0x068, acc := .ro },  -- CHF_CAUSE
  { off := 0x100, acc := .rwt, idi := true, mask := 0x1 },  -- OVL_OUTCOME
  { off := 0x104, acc := .rwt, idi := true, mask := 0xFFF, checks := [⟨11, 0, 100, 3000, false, []⟩] },  -- BK_TRIP
  { off := 0x108, acc := .wo, mask := 0x1FF },  -- CHF_CLR
  { off := 0x400, acc := .rwt, reset := 200, checks := [⟨31, 0, 50, 1000, false, []⟩] },  -- DRIFT_TOL
  { off := 0x404, acc := .rwt, reset := 5, checks := [⟨31, 0, 2, 20, false, []⟩] },  -- DRIFT_PCT
  { off := 0x408, acc := .rwt, reset := 30, checks := [⟨31, 0, 10, 200, false, []⟩] }]  -- OPEN_ON_MA

/-- Registers of the VB page at page 0x078. -/
def rowsVb : List RegRow := [
  { off := 0x050, acc := .ro, n := 4, step := 0x10 },  -- RAIL_V
  { off := 0x054, acc := .ro, n := 4, step := 0x10 },  -- RAIL_E
  { off := 0x058, acc := .ro, reset := 0x125C0000, n := 4, step := 0x10 },  -- RAIL_STATE
  { off := 0x05C, acc := .ro, n := 4, step := 0x10 },  -- NR_CNT
  { off := 0x100, acc := .rwt, n := 4, step := 0x10, idi := true, mask := 0x1FF, checks := [⟨8, 0, 120, 288, false, []⟩] },  -- VSET
  { off := 0x104, acc := .rwt, n := 4, step := 0x10, idi := true, mask := 0x3 },  -- RAIL_CTRL
  { off := 0x108, acc := .wo, n := 4, step := 0x10, mask := 0x1, checks := [⟨0, 0, 1, 1, false, []⟩] }]  -- RAIL_CLR

/-- Registers of the LPE page at page 0x080. -/
def rowsLpe : List RegRow := [
  { off := 0x044, acc := .ro },  -- CAP_USED
  { off := 0x048, acc := .ro },  -- CAP_PEND
  { off := 0x04C, acc := .ro },  -- EVAL_MISS
  { off := 0x050, acc := .ro, n := 4 },  -- HOLD
  { off := 0x060, acc := .ro, n := 4 },  -- FE
  { off := 0x070, acc := .rc },  -- UTIL_PEAK
  { off := 0x100, acc := .wo, mask := 0x17F, checks := [⟨8, 8, 1, 1, false, []⟩] }]  -- LP_CLR

/-- Registers of the SND page at page 0x081. -/
def rowsSnd : List RegRow := [
  { off := 0x100, acc := .rw, reset := 0x10000, n := 16, step := 0x20, mask := 0x1FFFF7F, checks := [⟨23, 16, 1, 255, false, []⟩, ⟨11, 8, 0, 9, false, []⟩] },  -- SND_SRC
  { off := 0x104, acc := .rw, n := 16, step := 0x20, mask := 0x3FFF0007, checks := [⟨2, 0, 0, 5, false, []⟩] },  -- SND_TRIG
  { off := 0x108, acc := .rw, n := 16, step := 0x20 },  -- SND_LEVEL
  { off := 0x10C, acc := .ro, n := 16, step := 0x20 },  -- SND_STAT
  { off := 0x110, acc := .ro, n := 16, step := 0x20, wide := true },  -- SND_T0
  { off := 0x118, acc := .ro, n := 16, step := 0x20 },  -- SND_TRIG_IDX
  { off := 0x300, acc := .wo, mask := 0x3FFFF, checks := [⟨17, 16, 1, 3, false, []⟩] },  -- SND_CMD
  { off := 0x304, acc := .rw, mask := 0xF },  -- SND_RSEL
  { off := 0x308, acc := .rc }]  -- SND_PORT

/-- Registers of the REC page at page 0x090. -/
def rowsRec : List RegRow := [
  { off := 0x044, acc := .ro, wide := true },  -- SEQ_NEXT
  { off := 0x04C, acc := .ro, wide := true },  -- OLDEST_SEQ
  { off := 0x054, acc := .ro },  -- EPOCH
  { off := 0x058, acc := .ro },  -- BUF_LEVEL
  { off := 0x05C, acc := .ro },  -- BUF_LOST
  { off := 0x060, acc := .ro },  -- SUPP_TOTAL
  { off := 0x064, acc := .ro, reset := 256 },  -- SPARE_LEFT
  { off := 0x068, acc := .ro },  -- AUTH_RESULT
  { off := 0x06C, acc := .ro, reset := 1 },  -- KEY_STAT
  { off := 0x070, acc := .ro, n := 4 },  -- NONCE
  { off := 0x080, acc := .ro },  -- BR_FAIL_CNT
  { off := 0x084, acc := .ro },  -- RD_LEFT
  { off := 0x100, acc := .wo, checks := [⟨31, 0, 1, 4, false, []⟩] },  -- REC_CMD
  { off := 0x108, acc := .rw, reset := 0xFFFFFFFFFFFFFFFF, wide := true },  -- RD_FROM
  { off := 0x110, acc := .rw, reset := 0x3FF0000, mask := 0x3FF03FF },  -- RD_CODE
  { off := 0x114, acc := .rw, reset := 0xFFFF, mask := 0xFFFF },  -- RD_EPOCH
  { off := 0x118, acc := .rw, reset := 0xFFFFFFFF },  -- RD_COUNT
  { off := 0x11C, acc := .rc },  -- REC_PORT
  { off := 0x120, acc := .rw, mask := 0x3F },  -- BR_SEL
  { off := 0x124, acc := .rc },  -- BR_PORT
  { off := 0x140, acc := .wo, n := 16 },  -- KEY_W
  { off := 0x180, acc := .wo, mask := 0x3, checks := [⟨1, 0, 1, 3, false, []⟩] },  -- KEY_CMD
  { off := 0x200, acc := .wo, n := 41 },  -- AUTH
  { off := 0x400, acc := .rw, reset := 0x10021002, n := 512 },  -- RL
  { off := 0xC00, acc := .rw, reset := 10, checks := [⟨31, 0, 1, 600, false, []⟩] },  -- SUMM_PERIOD
  { off := 0xC04, acc := .rw, reset := 100, checks := [⟨31, 0, 10, 1000, false, []⟩] }]  -- DRAIN_MS

/-- Registers of the NET page at page 0x0A0. -/
def rowsNet : List RegRow := [
  { off := 0x044, acc := .ro },  -- LINK
  { off := 0x048, acc := .ro },  -- RX_LEVEL
  { off := 0x04C, acc := .ro },  -- RX_DROP
  { off := 0x100, acc := .rw, reset := 1, mask := 0x7 },  -- NET_CFG
  { off := 0x104, acc := .rw },  -- MAC_LO
  { off := 0x108, acc := .rw, mask := 0xFFFF },  -- MAC_HI
  { off := 0x10C, acc := .rw },  -- IP_ADDR
  { off := 0x110, acc := .rw },  -- NETMASK
  { off := 0x114, acc := .rw },  -- GATEWAY
  { off := 0x180, acc := .rc },  -- RX_PORT
  { off := 0x184, acc := .wo },  -- TX_PORT
  { off := 0x188, acc := .rw },  -- TX_LEN
  { off := 0x18C, acc := .wo }]  -- TX_PUSH

/-- Registers of the CAN page at page 0x0A1. -/
def rowsCan : List RegRow := [
  { off := 0x044, acc := .ro },  -- RX_LEVEL
  { off := 0x048, acc := .ro },  -- ERR_CNT
  { off := 0x04C, acc := .ro },  -- BUSOFF_CNT
  { off := 0x050, acc := .ro },  -- RX_DROP
  { off := 0x054, acc := .ro },  -- POSE_CNT
  { off := 0x100, acc := .rwt, reset := 17, mask := 0x33F },  -- CAN_CFG
  { off := 0x180, acc := .rc },  -- RX_PORT
  { off := 0x184, acc := .wo },  -- TX_PORT
  { off := 0x188, acc := .wo },  -- TX_PUSH
  { off := 0x18C, acc := .ro },  -- TX_LEVEL
  { off := 0x200, acc := .rwt, n := 32, step := 0x10, mask := 0x9FFFFFFF },  -- FILT_ID
  { off := 0x204, acc := .rwt, n := 32, step := 0x10, mask := 0x1FFFFFFF },  -- FILT_MASK
  { off := 0x208, acc := .rwt, n := 32, step := 0x10, mask := 0x7 },  -- FILT_ACT
  { off := 0x20C, acc := .ro, n := 32, step := 0x10 },  -- FILT_HITS
  { off := 0x400, acc := .rwt, n := 8, step := 0x10, idi := true, mask := 0x9FFFFFFF },  -- CTX_ID
  { off := 0x404, acc := .rwt, n := 8, step := 0x10, idi := true, mask := 0xFFFF3FFF, checks := [⟨31, 16, 0, 10000, false, []⟩] },  -- CTX_FMT
  { off := 0x408, acc := .rwt, n := 8, step := 0x10, idi := true },  -- CTX_SCALE
  { off := 0x40C, acc := .rwt, n := 8, step := 0x10, idi := true }]  -- CTX_OFS

/-- Registers of the AIN page at page 0x0A3. -/
def rowsAin : List RegRow := [
  { off := 0x044, acc := .ro, n := 2 },  -- AIN_FLT
  { off := 0x100, acc := .rwt, reset := 2, n := 48, mask := 0xFFFFFF73, checks := [⟨6, 4, 0, 6, false, []⟩] },  -- AIN_CFG
  { off := 0x200, acc := .ro, n := 48 }]  -- AIN_VAL

/-- Registers of the FIN page at page 0x0A4. -/
def rowsFin : List RegRow := [
  { off := 0x044, acc := .ro, n := 3 },  -- FIN_FLT
  { off := 0x100, acc := .rwt, reset := 0xA640001, n := 96, mask := 0xFFFF0F3F, checks := [⟨5, 4, 0, 2, false, []⟩, ⟨23, 16, 1, 250, false, []⟩, ⟨31, 24, 1, 255, false, []⟩] },  -- FIN_CFG
  { off := 0x280, acc := .ro, n := 96 },  -- FIN_FREQ
  { off := 0x400, acc := .ro, n := 96 },  -- FIN_FRAME
  { off := 0x580, acc := .ro, n := 96 }]  -- FIN_STAT

/-- Registers of the IMU page at page 0x0A5. -/
def rowsImu : List RegRow := [
  { off := 0x050, acc := .ro, n := 2, step := 0x10 },  -- IMU_CNT
  { off := 0x054, acc := .ro, n := 2, step := 0x10 },  -- IMU_YAW
  { off := 0x058, acc := .ro, n := 2, step := 0x10 },  -- IMU_ACC
  { off := 0x05C, acc := .ro, n := 2, step := 0x10 },  -- IMU_AGE
  { off := 0x100, acc := .rwt, reset := 0x8006420, n := 2, step := 0x40, mask := 0x1F03FFFF, checks := [⟨7, 4, 1, 10, false, []⟩, ⟨17, 8, 10, 1000, false, []⟩, ⟨28, 24, 2, 16, false, []⟩] },  -- IMU_CFG
  { off := 0x104, acc := .rwt, n := 2, step := 0x40 },  -- IMU_TXB0
  { off := 0x108, acc := .rwt, n := 2, step := 0x40 },  -- IMU_TXB1
  { off := 0x10C, acc := .rwt, n := 2, step := 0x40 },  -- IMU_TXB2
  { off := 0x110, acc := .rwt, n := 2, step := 0x40 },  -- IMU_TXB3
  { off := 0x114, acc := .rwt, n := 2, step := 0x40, mask := 0x6F6F },  -- IMU_MAP
  { off := 0x118, acc := .rwt, n := 2, step := 0x40 },  -- GYRO_SCALE
  { off := 0x11C, acc := .rwt, n := 2, step := 0x40 }]  -- ACC_SCALE

/-- Registers of the GPIO page at page 0x0A6. -/
def rowsGpio : List RegRow := [
  { off := 0x044, acc := .ro },  -- TM_LEVEL
  { off := 0x048, acc := .ro },  -- TM_DROP
  { off := 0x100, acc := .rw, mask := 0x7777 },  -- TM_CFG
  { off := 0x104, acc := .rw, mask := 0x1 },  -- PPS_PIN
  { off := 0x108, acc := .rw, reset := 1, mask := 0x3 },  -- UART_CFG
  { off := 0x180, acc := .rc }]  -- TM_PORT

/-- Registers of the WDG page at page 0x0B0. -/
def rowsWdg : List RegRow := [
  { off := 0x044, acc := .ro },  -- MP_STATE
  { off := 0x048, acc := .ro },  -- MP_RST_CNT
  { off := 0x04C, acc := .ro },  -- MP_RST_RUN
  { off := 0x050, acc := .ro, wide := true },  -- MP_LAST_RST
  { off := 0x058, acc := .ro },  -- SYS_WD_CNT
  { off := 0x100, acc := .rw, reset := 3, checks := [⟨31, 0, 1, 10, false, []⟩] },  -- MP_RST_MAX
  { off := 0x104, acc := .rw, reset := 10, checks := [⟨31, 0, 1, 600, false, []⟩] },  -- MP_RST_WIN
  { off := 0x108, acc := .wo, checks := [⟨31, 0, 1, 2, false, []⟩] },  -- WDG_CMD
  { off := 0x180, acc := .wo }]  -- MP_KICK

/-- Registers of an entry of the CHD table. -/
def rowsChd : List RegRow := [
  { off := 0x000, acc := .rwt, idi := true, mask := 0xFFFFF73F, checks := [⟨2, 0, 0, 4, false, []⟩] },  -- CH_CFG
  { off := 0x004, acc := .rwt, idi := true, mask := 0x1FFFF, checks := [⟨16, 0, 0, 80000, false, []⟩] },  -- CH_DELAY
  { off := 0x008, acc := .rwt, idi := true, checks := [⟨31, 18, 0, 5000, false, []⟩, ⟨17, 8, 5, 500, false, []⟩, ⟨7, 0, 20, 240, false, []⟩] },  -- CH_PEAK
  { off := 0x00C, acc := .rwt, idi := true, mask := 0xFFFFF1FF, checks := [⟨31, 16, 0, 50000, false, []⟩, ⟨15, 12, 2, 15, false, []⟩, ⟨8, 0, 10, 400, false, []⟩] },  -- CH_HOLD
  { off := 0x010, acc := .rwt, idi := true, checks := [⟨31, 16, 10, 65535, false, []⟩] },  -- CH_TTP
  { off := 0x014, acc := .rwt, idi := true },  -- CH_MODEPAR
  { off := 0x018, acc := .rwt, idi := true, checks := [⟨15, 0, 0, 36000, false, []⟩] },  -- CH_LIMITS
  { off := 0x01C, acc := .rwt, idi := true, checks := [⟨31, 24, -40, 125, true, []⟩, ⟨23, 0, 500, 1000000, false, []⟩] },  -- CH_RREF
  { off := 0x020, acc := .rwt, idi := true, mask := 0xFFFF, checks := [⟨15, 0, 1000, 6000, false, []⟩] },  -- CH_TCOEF
  { off := 0x024, acc := .rwt, idi := true },  -- CH_TH_R
  { off := 0x028, acc := .rwt, idi := true },  -- CH_TH_C
  { off := 0x030, acc := .ro },  -- CH_STAT
  { off := 0x034, acc := .ro, reset := 0xFFF0FFF },  -- CH_SENSE
  { off := 0x038, acc := .ro },  -- CH_ACT
  { off := 0x03C, acc := .ro }]  -- CH_RMEAS

/-- Registers of an entry of the LPT table. -/
def rowsLpt0 : List RegRow := [
  { off := 0x000, acc := .rwt, idi := true, mask := 0x3 },  -- LP_CTRL
  { off := 0x004, acc := .rwt, idi := true, mask := 0x1FF, checks := [⟨3, 0, -4, 6, true, []⟩] },  -- LP_CFG
  { off := 0x008, acc := .rwt, idi := true, mask := 0xF00001FF },  -- LP_FB
  { off := 0x00C, acc := .rwt, idi := true, mask := 0xF00001FF },  -- LP_SPSRC
  { off := 0x010, acc := .rwt, idi := true, mask := 0xF00001FF },  -- LP_FF
  { off := 0x014, acc := .rwt, idi := true, mask := 0xF00001FF },  -- LP_OUT
  { off := 0x018, acc := .rwt, idi := true },  -- FB_SCALE
  { off := 0x01C, acc := .rwt, idi := true },  -- FB_OFS
  { off := 0x020, acc := .rwt, idi := true },  -- SP_GAIN
  { off := 0x024, acc := .rwt, idi := true },  -- KP
  { off := 0x028, acc := .rwt, idi := true },  -- KI
  { off := 0x02C, acc := .rwt, idi := true },  -- KD
  { off := 0x030, acc := .rwt, idi := true },  -- TF
  { off := 0x034, acc := .rwt, idi := true },  -- KFS
  { off := 0x038, acc := .rwt, idi := true },  -- KFR
  { off := 0x03C, acc := .rwt, idi := true },  -- KFI
  { off := 0x040, acc := .rwt, n := 5, idi := true },  -- BQ1
  { off := 0x054, acc := .rwt, n := 5, idi := true },  -- BQ2
  { off := 0x068, acc := .rwt, idi := true },  -- OUT_MIN
  { off := 0x06C, acc := .rwt, idi := true },  -- OUT_MAX
  { off := 0x070, acc := .rwt, idi := true },  -- SLEW
  { off := 0x074, acc := .rwt, idi := true },  -- SP_RATE
  { off := 0x078, acc := .rwt, idi := true },  -- SP_ACC
  { off := 0x07C, acc := .rwt, idi := true },  -- HOLD_VAL
  { off := 0x080, acc := .rwt, idi := true },  -- FE_LIMIT
  { off := 0x084, acc := .rwt, idi := true, checks := [⟨31, 16, 1, 1000, false, []⟩] },  -- LP_TIMES
  { off := 0x0B0, acc := .rw },  -- MAN_OUT
  { off := 0x0B4, acc := .rw },  -- SP_HOST
  { off := 0x0B8, acc := .rw },  -- FB_HOST
  { off := 0x0BC, acc := .rw },  -- FF_HOST
  { off := 0x0C0, acc := .ro },  -- LP_STATE
  { off := 0x0C4, acc := .ro },  -- RT
  { off := 0x0C8, acc := .ro },  -- R
  { off := 0x0CC, acc := .ro },  -- RDOT
  { off := 0x0D0, acc := .ro },  -- Y
  { off := 0x0D4, acc := .ro },  -- E
  { off := 0x0D8, acc := .ro },  -- I
  { off := 0x0DC, acc := .ro },  -- D
  { off := 0x0E0, acc := .ro },  -- W
  { off := 0x0E4, acc := .ro }]  -- U

/-- Registers of an entry of the LPT table. -/
def rowsLpt1 : List RegRow := [
  { off := 0x0E8, acc := .ro },  -- EVAL_SEQ
  { off := 0x0EC, acc := .ro }]  -- FE_RUN

/-- All registers of an entry of the LPT table. -/
def rowsLpt : List RegRow := rowsLpt0 ++ rowsLpt1

/-- Registers of an entry of the LATT table. -/
def rowsLatt : List RegRow := [
  { off := 0x000, acc := .rwt, mask := 0xFFFFFF },  -- LAT_ON
  { off := 0x004, acc := .rwt, mask := 0xFFFFFF },  -- LAT_OFF
  { off := 0x008, acc := .rwt, idi := true },  -- ON_BOUNDS
  { off := 0x00C, acc := .rwt, idi := true },  -- OFF_BOUNDS
  { off := 0x010, acc := .rwt, idi := true },  -- NOM
  { off := 0x014, acc := .rwt, idi := true },  -- SIG_OFS
  { off := 0x018, acc := .rw, reset := 0x40000000, mask := 0x40000000 },  -- LRN_ON
  { off := 0x01C, acc := .ro }]  -- LRN_OFF

/-- Registers of an entry of the SEC table. -/
def rowsSec : List RegRow := [
  { off := 0x000, acc := .rwt, idi := true, mask := 0x1FF, checks := [⟨7, 6, 0, 1, false, []⟩, ⟨5, 4, 0, 1, false, []⟩] },  -- SEC_CFG
  { off := 0x004, acc := .rwt, idi := true, checks := [⟨15, 0, 0, 500, false, []⟩, ⟨31, 16, 0, 500, false, []⟩] },  -- SEC_ALLOW
  { off := 0x008, acc := .rwt, idi := true, checks := [⟨15, 0, 0, 2000, false, []⟩, ⟨31, 16, 0, 2000, false, []⟩] },  -- SEC_HYST
  { off := 0x00C, acc := .rwt, idi := true, checks := [⟨31, 24, 0, 50, false, []⟩, ⟨23, 16, 1, 100, false, []⟩, ⟨15, 8, 0, 100, false, []⟩, ⟨7, 0, 1, 100, false, []⟩] },  -- SEC_THR
  { off := 0x010, acc := .rwt, idi := true, checks := [⟨15, 0, 3, 600, false, []⟩, ⟨31, 16, 3, 600, false, []⟩] },  -- SEC_SPEED
  { off := 0x014, acc := .rwt, idi := true, mask := 0xFFFF },  -- SEC_RATE
  { off := 0x018, acc := .rw, reset := 0xFFFF0000, mask := 0xFFFF0003 },  -- OVERRIDE
  { off := 0x01C, acc := .ro }]  -- SEC_STATE

/-- The block that a page belongs to, by its first page, with the page count (R20). -/
def pageBlocks : List (Nat × Nat) := [
  (0x000, 1), (0x001, 1), (0x002, 1), (0x003, 1), (0x004, 1), (0x005, 1), (0x006, 1), (0x007, 1), (0x008, 1), (0x009, 1), (0x00A, 1), (0x010, 1), (0x011, 1), (0x012, 1), (0x013, 1), (0x014, 8), (0x01C, 4), (0x020, 1), (0x021, 1), (0x022, 1), (0x023, 1), (0x024, 1), (0x025, 1), (0x026, 1), (0x030, 8), (0x038, 64), (0x078, 1), (0x080, 1), (0x081, 1), (0x090, 1), (0x0A0, 1), (0x0A1, 2), (0x0A3, 1), (0x0A4, 1), (0x0A5, 1), (0x0A6, 1), (0x0B0, 1)]

/-- The map of a page, `none` where the page is not assigned (R20). -/
def pageRows (p : Nat) : Option (List RegRow) :=
  if p = 0x000 then some rowsSys else
  if p = 0x001 then some rowsClk else
  if p = 0x002 then some rowsFrm else
  if p = 0x003 then some rowsPwr else
  if p = 0x004 then some rowsAtt else
  if p = 0x005 then some rowsHost else
  if p = 0x006 then some rowsTime else
  if p = 0x007 then some rowsTime1 else
  if p = 0x008 then some rowsPose else
  if p = 0x009 then some rowsImp else
  if p = 0x00A then some rowsBss else
  if p = 0x010 then some rowsNav else
  if p = 0x011 then some rowsAcq else
  if p = 0x012 then some rowsInteg else
  if p = 0x013 then some rowsBurst else
  if 0x014 ≤ p ∧ p < 0x01C then some rowsTcw else
  if 0x01C ≤ p ∧ p < 0x020 then some rowsNavx else
  if p = 0x020 then some rowsMap else
  if p = 0x021 then some rowsSde else
  if p = 0x022 then some rowsEds else
  if p = 0x023 then some rowsLat else
  if p = 0x024 then some rowsBwk else
  if p = 0x025 then some rowsLdg else
  if p = 0x026 then some rowsDiag else
  if 0x030 ≤ p ∧ p < 0x038 then some rowsDt else
  if 0x038 ≤ p ∧ p < 0x078 then some rowsBk else
  if p = 0x078 then some rowsVb else
  if p = 0x080 then some rowsLpe else
  if p = 0x081 then some rowsSnd else
  if p = 0x090 then some rowsRec else
  if p = 0x0A0 then some rowsNet else
  if 0x0A1 ≤ p ∧ p < 0x0A3 then some rowsCan else
  if p = 0x0A3 then some rowsAin else
  if p = 0x0A4 then some rowsFin else
  if p = 0x0A5 then some rowsImu else
  if p = 0x0A6 then some rowsGpio else
  if p = 0x0B0 then some rowsWdg else
  none

/-- A table window (R21): base address, entry size in bytes, number of entries, and the map of one entry. -/
structure Window where
  base : Nat
  size : Nat
  count : Nat
  rows : List RegRow
  deriving DecidableEq, Repr

/-- The four table windows of registers. The stores of the Tidemark map are memories, not registers. -/
def windows : List Window := [
  ⟨0x01000000, 64, 512, rowsChd⟩,
  ⟨0x01008000, 256, 128, rowsLpt⟩,
  ⟨0x01010000, 32, 512, rowsLatt⟩,
  ⟨0x01014000, 32, 512, rowsSec⟩]

end Sys2Proof.Machine
end

