-- ==== Sys2Proof/Machine/State.lean ====
section
/-! DEFINITION. The state of the part as plain data: the register file, the time bases, every engine's own state, the
application ledger, the record store, and the queue of commands that wait. -/

namespace Sys2Proof.Machine

/-- What a run of the part can stop with beside a next state: nothing. Every event the spec describes has an effect, so no
meaning raises a fault; the one constructor stands for none of them and is never answered (safe). -/
inductive Fault where
  /-- Raised by no meaning. Safe: nothing is claimed of it. -/
  | none
  deriving DecidableEq, Repr

/-- The refusals. -/
inductive Refusal where
  /-- A command that has no meaning yet, by its mnemonic. Every command has one, so nothing raises it. Safe: the run stops. -/
  | notModelled (mnemonic : String)
  deriving DecidableEq, Repr

/-- Status codes of an operation (R41). -/
inductive Status where
  | ok | addr | timeout | lockw | level | len | ecc | auth | crc | busy
  deriving DecidableEq, Repr

/-- What the last operation of a requester answered: its status, the words done, and the data returned (R41, R42). -/
structure Resp where
  status : Status := .ok
  done : Nat := 0
  data : List W32 := []
  deriving DecidableEq, Repr

/-- An open Ivyth session (R53, R55, R61). -/
structure IvySession where
  slot : Nat
  ident : Nat
  key : List Byte
  confirmed : Bool
  lastSeq : Nat
  reqSeq : Nat
  reqTag : List Byte
  cached : List Byte
  lastTbm : Nat
  deriving DecidableEq, Repr

/-- An accepted commit on its way to its clock domain (R67): the page, the domain, the words that become active there,
whether it belongs to a released group (R70), and whether this part carries the page's own commit effects (R24). -/
structure Crossing where
  page : Nat
  domain : Domain
  words : List (Nat × W32)
  group : Bool
  main : Bool
  deriving DecidableEq, Repr

/-- The register fabric and the two links (R20 to R62). Shadows are keyed by requester and address (R39, R88); `bad` lists the words that
hold an uncorrected symbol error (R41). -/
structure Fabric where
  shadow : SMap W32 := []
  held : SMap W32 := []
  resp : SMap Resp := []
  hslOut : List W32 := []
  sessions : List (Option IvySession) := [none, none]
  ivyOut : List Byte := []
  nonceCnt : Nat := 0
  pairKeys : List (List Byte) := [[], []]
  bad : List Nat := []
  deriving DecidableEq, Repr

/-- The time bases (R83). TB-M in ns; TB-S and TB-G in units of 10^-9 ns, TB-N and the offset still to slew in units of
2^-32 x 10^-6 ns, so that every rate of the spec advances them exactly. `tbgErrP` is what a slew of TB-G still takes out, `burstStep` the
rate of one that a burst asks for. While CK_SYS is stopped the bases stand at `parkM` to `parkG` plus what `aon` 64ths of a ns have brought
(R84, R449). `tbnOut` says that the discipline has timed out since its last write (R94); `capAt` and `preStep` are the cycle and requester of the
last capture, and of the last step with what stood before it (R95). -/
structure TimeBases where
  tbm : Nat := 0
  tbsP : Nat := 0
  tbnU : Nat := 0
  adjU : Int := 0
  tbnWrite : Nat := 0
  tbgP : Nat := 0
  tbgErrP : Int := 0
  burstStep : Nat := 0
  stepTo : Option Int := none
  steppedAt : Option Nat := none
  steppedFrom : Nat := 0
  holdFrom : Nat := 0
  holdExpired : Bool := false
  uncLoss : Nat := 0
  ppsSince : Option Nat := none
  ppsLast : Option Nat := none
  rtcNs : Nat := 0
  rtcAt : Nat := 0
  rtcSrc : Nat := 0
  steerAt : Nat := 0
  parkM : Nat := 0
  parkS : Nat := 0
  parkN : Nat := 0
  parkG : Nat := 0
  aon : Nat := 0
  tbnOut : Bool := false
  capAt : Option (Nat × Requester) := none
  preStep : Option (Nat × Requester × Nat × W32) := none
  deriving DecidableEq, Repr

/-- A block event on its way to the recorder (R423, R424), or one of the recorder's own (R425). -/
structure Event where
  own : Bool
  code : Nat
  page : Nat
  kind : Nat
  bit : Nat
  obj : Nat
  idx : Nat
  values : List W32
  cycle : Nat
  deriving DecidableEq, Repr

/-- The suppressions of a code that no summary has taken yet, and when the next summary falls (R429). -/
structure Suppressed where
  count : Nat := 0
  first : Nat := 0
  last : Nat := 0
  due : Nat := 0
  deriving DecidableEq, Repr

/-- A token bucket (R429): tokens, the instant of the last refill, and the part of a token gained since, in ns x RATE. -/
structure Bucket where
  tokens : Nat := 0
  at_ : Nat := 0
  part : Nat := 0
  deriving DecidableEq, Repr

/-- The recorder front end (R426 to R429, R434 to R438). A bucket that is not listed is full. After a controller reset `hold` counts the
events still to be taken ahead of the RESET record. `auth` is the authorisation submitted and whether its nonce was valid; `clearing` is the
slot of the key that authorised a CLEAR. -/
structure RecFront where
  intake : List Event := []
  supp : SMap Suppressed := []
  buckets : SMap Bucket := []
  closed : Bool := false
  refused : Nat := 0
  drainReq : Bool := false
  lostDue : Option Nat := none
  nonceAt : Option Nat := none
  nonceCnt : Nat := 0
  auth : List W32 := []
  authNonce : Bool := false
  clearing : Option Nat := none
  hold : Option Nat := none
  deriving DecidableEq, Repr

/-- The frame engine's own state beside the FRM page: whether a turn has fallen since power-on, the TB-M of the last
turn, the group release and hold count (R70, R72), how far the frame's stages have come (R5, R76), and whether a safe close falls in its
window (R78); the held interval in ticks (R77), and whether a safe close was in force at any instant of the frame. -/
structure FrameEngine where
  turned : Bool := false
  turnTbm : Nat := 0
  goPending : Bool := false
  holdTurns : Nat := 0
  stage : Nat := 5
  committed : Bool := true
  closeDue : Bool := false
  lateStages : List Nat := []
  heldFrom : Nat := 0
  heldTo : Nat := 0
  wasClosed : Bool := false
  deriving DecidableEq, Repr

/-- A pose sample (R119, R121): time of validity in TB-S ns, position in mm, heading in 1/65,536 turn, speed in mm/s, and the
yaw rate and acceleration where it carries them. -/
structure Sample where
  t : Int := 0
  e : Int := 0
  n : Int := 0
  u : Int := 0
  hdg : Int := 0
  spd : Int := 0
  yaw : Option Int := none
  acc : Option Int := none
  deriving DecidableEq, Repr

/-- A predicted pose: TB-S in ns, position in micrometres, heading in 2^-32 turn, path length since the latch in micrometres. -/
structure Knot where
  t : Int := 0
  e : Int := 0
  n : Int := 0
  psi : Int := 0
  s : Int := 0
  deriving DecidableEq, Repr

/-- The motion state at a latch (R124): acceleration in mm/s², curvature in 10^-9 per mm (that is 10^-6 per m). -/
structure Motion where
  p : Sample := {}
  acc : Int := 0
  kappa : Int := 0
  deriving DecidableEq, Repr

/-- The pose block (R118 to R133): the newest accepted sample and the one before it, the latched motion, the knots of the
prediction, the path of the last 60 m, the latest CAN messages with their reception times, the headings accepted in the last
second, the pose that prediction starts from, the path with the samples of the running frame (R127), the first sample of a return (R133), the
yaw-rate bias of each IMU port (R123), and when and where dead reckoning began. -/
structure PoseEngine where
  newest : Option Sample := none
  before : Option Sample := none
  motion : Option Motion := none
  knots : List Knot := []
  path : List Knot := []
  latchT : Int := 0
  fresh : Bool := false
  originWritten : Bool := false
  frozenAt : Option Nat := none
  closedFrozen : Bool := false
  canHdg : Option (Int × Int) := none
  canCog : Option (Int × Int) := none
  canSpd : Option (Int × Int) := none
  canMss : Option (Int × Int) := none
  canFix : Option (Int × Nat) := none
  canFast : Option (Nat × Nat) := none
  lastUp : Int := 0
  hist : List (Int × Int) := []
  base : Knot := {}
  allPath : List Knot := []
  back : Option Sample := none
  bias : List Int := []
  drAt : Nat := 0
  drS : Int := 0
  deriving DecidableEq, Repr

/-- A body of the implement (R112, R540), lengths in mm, yaw in 1/65,536 turn. -/
structure Body where
  trailed : Bool := false
  ox : Int := 0
  oy : Int := 0
  oz : Int := 0
  yaw : Int := 0
  len : Int := 0
  deriving DecidableEq, Repr

/-- A channel's place in the image (R540): its body and its footprint, mm. -/
structure Footprint where
  body : Nat := 0
  cx : Int := 0
  cy : Int := 0
  w : Nat := 0
  d : Nat := 0
  deriving DecidableEq, Repr

/-- An antenna's place (R540). -/
structure Antenna where
  body : Nat := 0
  x : Int := 0
  y : Int := 0
  z : Int := 0
  deriving DecidableEq, Repr

/-- A verified image taken apart: the words it gives to registers, the objects it describes, the bodies, footprints
and antennas (R112, R540). -/
structure Image where
  serial : Nat := 0
  structHash : List Byte := []
  words : List (Nat × W32) := []
  objects : List Nat := []
  bodies : List (Nat × Body) := []
  feet : List (Nat × Footprint) := []
  ants : List (Nat × Antenna) := []
  deriving DecidableEq, Repr

/-- IMP: the staging buffer (held newest word first), the image taken from it when it was verified, the active image,
the NOR slot, what a store under way copies into it, and whether the verification under way is that of the boot load (R113 to R117). -/
structure ImpEngine where
  staged : List W32 := []
  verified : Option Image := none
  active : Option Image := none
  nor : List W32 := []
  norBusy : Option Nat := none
  norCopy : List W32 := []
  norSerial : W32 := 0
  booting : Bool := true
  deriving DecidableEq, Repr
/-- The accounts that undelivered requested time can go to (R348). -/
inductive Account where
  | late | budget | thermal | fault | overlap | host | reset
  deriving DecidableEq, Repr

/-- The power ladder (R447 to R456): an accepted target that waits for the next turn, the state being stepped down to,
the wake sources that have acted, when the park began, whether VLOGIC is out of range, the power-fail flush in hand, whether its ledger has been
booked, the controller held in reset, and the wake lines that are active. -/
structure Power where
  target : Option Nat := none
  goal : Option Nat := none
  wake : Nat := 0
  parked : Nat := 0
  supplyBad : Bool := false
  pfAt : Option Nat := none
  pfBooked : Bool := false
  pfFlushed : Bool := false
  lines : Nat := 0
  held : Bool := false
  deriving DecidableEq, Repr
/-- Where an edge comes from: the section decision, a host action, or an ON's own implied end (R255, R265, R271). -/
inductive EdgeKind where
  | sde | host | implied | pulse | safe | release
  deriving DecidableEq, Repr

/-- An edge, its time in TB-S ticks of 4 ns (R251). `slack` is the late slack admission left it, µs (R289); `dur` places the OFF
that ends an ON with DUR or a pulse; `shift` names the causes of its displacement with their ticks (R344); `degraded` starts
it in PEAK without boost; `fresh` marks a profile that waited for T_MIN_OFF (R291). -/
structure Edge where
  t : Nat
  on : Bool
  kind : EdgeKind := .sde
  ideal : Nat := 0
  slack : Nat := 0
  dur : Option Nat := none
  rho : Nat := 256
  shift : List (Account × Nat) := []
  degraded : Bool := false
  fresh : Bool := false
  late : Bool := false
  moved : Bool := false
  tag : Nat := 0
  notify : Bool := false
  energy : Nat := 0
  deriving DecidableEq, Repr

/-- What a channel's booking needs of the frame (R350, R351): the requested runs and the delivered intervals, from a tick to
a tick where they have ended; from which tick undelivered requested time goes to which account (`none` leaves it in
flight); and the settlements, each with the parts of the time in flight and the account of the rest. -/
structure Book where
  runs : List (Nat × Option Nat) := []
  dels : List (Nat × Option Nat) := []
  marks : List (Nat × Option Account) := []
  settles : List (Nat × List (Account × Nat) × Account) := []
  held : Account := .overlap
  moved : Bool := false
  deriving DecidableEq, Repr

/-- A channel's part of the frame's summary (R274): the edges executed with their ticks, boost energy in 0.01 mJ, and what happened. -/
structure ChanFrame where
  edges : List (Nat × Bool) := []
  ttp : Nat := 0
  flags : Nat := 0
  energy : Nat := 0
  waitUs : Nat := 0
  deriving DecidableEq, Repr

/-- A channel of a drive tile (R286): its phase and fault cause as in CH_STAT, its queues, the instants of its actuation in
TB-S ticks, its waiting start, the timers of chapters 11 and 12, the latencies that await a turn, and its booking. -/
structure Chan where
  phase : Nat := 0
  cause : Nat := 0
  queue : List Edge := []
  next : List Edge := []
  tOn : Nat := 0
  boost : Bool := false
  tPeak : Option Nat := none
  tHold : Option Nat := none
  tOff : Option Nat := none
  tDecayed : Option Nat := none
  waitAt : Option Nat := none
  waitEnd : Option Nat := none
  waitEdge : Option Edge := none
  expired : Bool := false
  merged : Bool := false
  degraded : Bool := false
  onTimer : Option Nat := none
  maxOnCut : Bool := false
  runEnd : Option Nat := none
  rho : Nat := 256
  duty : W32 := 0
  dutyNext : Option W32 := none
  closed : Bool := false
  winEnd : Option Nat := none
  winLim : Nat := 0
  lossEnd : Option Nat := none
  commanded : Bool := false
  sortEdge : Option Edge := none
  shortAt : Option Nat := none
  sigOnDone : Bool := true
  sigOffDone : Bool := true
  latUpd : List (Bool × Nat) := []
  latReload : Bool := false
  book : Book := {}
  fr : ChanFrame := {}
  deriving DecidableEq, Repr

/-- SORT in progress (R319): the trip, the next step, the culprits so far, the channels already judged. -/
structure SortRun where
  trip : Nat
  step : Nat
  tested : Bool
  culprits : List Nat
  deriving DecidableEq, Repr

/-- A bank (R284, R302, R318): its fault state, SORT, the pending reclosure, the end of the last SORT without a culprit, the
clears that wait for a turn, and its part of the frame's summary (R306). -/
structure Bank where
  fault : Bool := false
  sort : Option SortRun := none
  reclose : Option Nat := none
  resume : List Nat := []
  sortEnd : Option Nat := none
  clr : Nat := 0
  boosts : Nat := 0
  energy : Nat := 0
  drops : Nat := 0
  degs : Nat := 0
  waits : Nat := 0
  waitMax : Nat := 0
  peakMA : Nat := 0
  boostUs : Nat := 0
  notReady : Bool := false
  sorted : Bool := false
  deriving DecidableEq, Repr

/-- A boost rail (R299, R300): since when it is to become ready, and its voltage in 10 mV. -/
structure Rail where
  chargeFrom : Option Nat := none
  measured : Bool := false
  deriving DecidableEq, Repr

/-- A drive tile (R302, R412): its fault state, the clear that waits for a turn, and strobe loss. -/
structure Tile where
  fault : Bool := false
  clr : Bool := false
  deriving DecidableEq, Repr

/-- The output stages: channels, banks, rails and tiles, by number, the frame strobe, whether the next commit ends the LOSS holds (R326), and
the tick of the edge that executed last (R251). -/
structure Drive where
  ch : SMap Chan := []
  bank : SMap Bank := []
  rail : SMap Rail := []
  tile : SMap Tile := []
  strobeStop : Option Nat := none
  strobeLost : Bool := false
  holdsEnd : Bool := false
  vbatLow : Bool := false
  edgeT : Nat := 0
  deriving DecidableEq, Repr
/-- A frame in a transmit queue: the CANTX slot that sends it (none for the host's), words 0 and 1 of R474, and its data. -/
structure TxFrame where
  slot : Option Nat := none
  w0 : W32 := 0
  w1 : W32 := 0
  data : List Byte := []
  deriving DecidableEq, Repr

/-- A CANTX slot (R476): when it last sent, the frame it offers to the bus, the value held until its period ends. -/
structure CtxSlot where
  sentAt : Option Nat := none
  ready : Option TxFrame := none
  held : Option TxFrame := none
  deriving DecidableEq, Repr

/-- A CAN port (R472 to R476): the words of the host FIFO, the words written to TX_PORT, the host's queue, the slots, the
bus-off state, and the last frame it sent. -/
structure CanPort where
  rx : List W32 := []
  tx : List W32 := []
  queue : List TxFrame := []
  slots : SMap CtxSlot := []
  busOff : Bool := false
  sent : Option TxFrame := none
  deriving DecidableEq, Repr

/-- An analog input (R480 to R483): the last completed codes, newest first, the runs of samples outside and inside the
limits, the fault cause, and when its shunt was disconnected. -/
structure AinInput where
  codes : List Nat := []
  outRun : Nat := 0
  inRun : Nat := 0
  cause : Nat := 0
  offAt : Option Nat := none
  deriving DecidableEq, Repr

/-- A frequency input (R484 to R487): the counted edges since the last reversal, newest first, as TB-M stamps; the sense of
the last count; the frequency at the last edge; the count of the frame in progress; the fault cause and the clean counts
since a QUAD fault. -/
structure FinInput where
  edges : List Nat := []
  last : Option Nat := none
  neg : Bool := false
  lastHz : W32 := 0
  count : Int := 0
  cause : Nat := 0
  clean : Nat := 0
  deriving DecidableEq, Repr

/-- An IMU port (R488, R489): its samples of the last second, newest first (TB-S, yaw rate, acceleration), and whether it is
stale. -/
structure ImuPort where
  samples : List (Nat × Int × Int) := []
  stale : Bool := false
  deriving DecidableEq, Repr

/-- The networks and sensor inputs (chapter 20). `ainOld` holds AIN_CFG as it was when the scan in progress started, of the
inputs whose word changed since (R492); `wakePulses` the pulses that WAKE_FIN counts, input and TB-M, newest first (R452). -/
structure Net where
  can : SMap CanPort := []
  rx : List W32 := []
  tx : List W32 := []
  sent : List Byte := []
  links : Nat := 0
  ain : SMap AinInput := []
  ainDue : Option Nat := none
  ainOld : SMap W32 := []
  fin : SMap FinInput := []
  imu : SMap ImuPort := []
  wakePulses : List (Nat × Nat) := []
  marks : List W32 := []
  markSeq : Nat := 0
  deriving DecidableEq, Repr
/-- An antenna port (R140, R141): when its shorted bias is retried, since when a retry has held, since when its gain stands at an end of
its range, and when its AGC was last updated. -/
structure AntPort where
  retryAt : Option Nat := none
  heldSince : Option Nat := none
  endSince : Option Nat := none
  agcAt : Option Nat := none
  deriving DecidableEq, Repr

/-- An acquisition job (R145). -/
structure AcqJob where
  port : Nat
  prn : Nat
  nc : Nat
  dbin : Nat
  f0 : Int
  ngrp : Nat
  thr : Nat
  deriving DecidableEq, Repr

/-- A word of the navigation message that has ended (R156): its number in the subframe, its bits, the last two bits of the word before
where they are known, and the TB-S of its end. -/
structure NavWord where
  number : Nat
  bits : BitVec 30
  prev : Option (Bool × Bool)
  tbs : Nat
  deriving DecidableEq, Repr

/-- A tracking channel beside its registers (R148 to R156). PRN and port it runs on; when its last dump came and how many code periods
have passed since START; consecutive milliseconds of good lock, whether the lock indicator stands below 0.6, since when C/N0 is low, when
it entered PULL_IN and TRACK; the half-cycle and inversion flags; a slip not yet reported in a record, and not yet at a snapshot.
The integration under way (its length in ms, its prompt sums, its milliseconds so far) and the lock indicators of the last 20 ms, newest first,
with their lengths. The sign of the last prompt sum, the sign changes by millisecond position with the milliseconds counted, and the
position that passed the test of R150; the position at which a bit begins, the bit under way, the bits received, newest first, and how
many of the running word. The preambles of the last 6,000 ms by code period and sense, the first bit of the subframe they fix, the code
period of the running subframe, and expected preambles missed in succession; the words that have ended and the last two bits before.
The integrity checks: the sum of the DISTORT metric since the last check with its count, when it last was high, code less carrier range in
mm at the last epoch and at the last checks, newest first, and the exclusion of CCD. -/
structure TcChan where
  prn : Nat := 0
  port : Nat := 0
  dumpAt : Nat := 0
  ms : Nat := 0
  lockRun : Nat := 0
  below : Bool := false
  lowSince : Option Nat := none
  pullAt : Nat := 0
  trackAt : Nat := 0
  half : Bool := false
  inverted : Bool := false
  slip : Bool := false
  slipSnap : Bool := false
  len : Nat := 1
  acc : Int × Int := (0, 0)
  accN : Nat := 0
  locks : List (Nat × Int) := []
  sign : Option Bool := none
  hist : List Nat := []
  histMs : Nat := 0
  bitReady : Option Nat := none
  bitEdge : Option Nat := none
  bitAcc : Int := 0
  bitN : Nat := 0
  bits : List Bool := []
  wordBits : Nat := 0
  preambles : List (Nat × Bool) := []
  synced : Option (Nat × Bool) := none
  subAt : Nat := 0
  missed : Nat := 0
  words : List NavWord := []
  prevBits : Option (Bool × Bool) := none
  distSum : Nat := 0
  distN : Nat := 0
  distortAt : Option Nat := none
  range : Int := 0
  ranges : List Int := []
  ccd : Bool := false
  deriving DecidableEq, Repr

/-- A baseline beside its registers (R171 to R174): the reference satellite and the integers against it, by PRN; the solution in
micrometres; for how many snapshots the candidate has led, the runs that count toward a loss, and the satellites left out with the
consecutive snapshots that would have repaired them. -/
structure BaseLn where
  ref : Nat := 0
  ints : SMap Int := []
  vec : Int × Int × Int := (0, 0, 0)
  run : Nat := 0
  satRun : Nat := 0
  rmsRun : Nat := 0
  out : SMap Nat := []
  deriving DecidableEq, Repr

/-- The terms of a body (R175). -/
structure Terms where
  ox : Int := 0
  oy : Int := 0
  yaw : Int := 0
  lat : Int := 0
  ul : Int := 0
  ur : Int := 0
  deriving DecidableEq, Repr

/-- The receiver's clock as the last unflagged solution left it (R184): the TB-M of it, bias in ns and drift in ppb; and drift and
oscillator ratio of the solutions of the last second, newest first, with their TB-M. -/
structure ClockTrack where
  base : Option (Nat × Int × Int) := none
  past : List (Nat × Int × Int) := []
  deriving DecidableEq, Repr

/-- The GNSS baseband and its firmware (chapters 06 and 07): the sample count's base; the last epoch and snapshot; ports, jobs, results;
channels, the dump queue (channel, TB-M of entry), the two read queues; baselines and the direction test's runs; the integrity checks'
timers, with when they last ran, the gains and the mean C/N0 of the last 60 checks, newest first; the clock tests and the gate; the directions of the satellites
by PRN; the burst table (PRN, code phase, Doppler) with its end; the next PRN of the firmware's search; fitted terms, by the bits of
GEO_HELD, since when each is held, the number and the epoch of the last set published; and a SPOOF_DIR whose latch is to come. -/
structure Gnss where
  smpBase : Nat := 0
  smpAt : Nat := 0
  lastEpoch : Nat := 0
  lastSnap : Nat := 0
  ant : SMap AntPort := []
  jobs : List AcqJob := []
  running : Option (AcqJob × Nat) := none
  results : List W32 := []
  waiting : Option (List W32 × Nat) := none
  sweep : Option Nat := some 1
  tc : SMap TcChan := []
  dumpQ : List (Nat × Nat) := []
  epochs : List (List W32) := []
  partRead : Bool := false
  words : List W32 := []
  dirs : SMap (Int × Int × Int) := []
  bl : SMap BaseLn := []
  spfRun : Nat := 0
  spfClear : Nat := 0
  xcodeUntil : Option Nat := none
  flatSince : SMap Nat := []
  flatPass : Option Nat := none
  powerPass : Option Nat := none
  checkAt : Option Nat := none
  gains : List (List Nat) := []
  cn0s : List Nat := []
  lowSats : Option Nat := none
  clock : ClockTrack := {}
  clkFlagged : Option Nat := none
  clkQuiet : Nat := 0
  gated : Option (TimeFix × Nat) := none
  table : List (Nat × Nat × Int) := []
  tblUntil : Option Nat := none
  fitted : SMap Int := []
  heldSince : SMap Nat := []
  seqNo : Nat := 0
  setEpoch : Option Nat := none
  spoofClose : Bool := false
  deriving DecidableEq, Repr
/-- The cells of a tile in scan order (R211), as runs of equal values: neighbours differ, no run is empty. -/
abbrev Runs := List (Nat × Nat)

/-- A tile of the directory (R208): its key, PAINT_SEQ, its cells, the bytes it takes in the heap, and whether it is LOST (R210) or
UNREADABLE (R222). -/
structure StoredTile where
  layer : Nat
  x : Int
  y : Int
  seq : Nat := 0
  cells : Runs := []
  bytes : Nat := 0
  lost : Bool := false
  unreadable : Bool := false
  deriving DecidableEq, Repr

/-- A tile of the map window (R204, R207): its cells, whether it is dirty, the turn that last needed it, and the TB-M of its last
write-back or load. -/
structure WinTile where
  layer : Nat
  x : Int
  y : Int
  seq : Nat := 0
  cells : Runs := []
  dirty : Bool := false
  used : Nat := 0
  since : Nat := 0
  deriving DecidableEq, Repr

/-- A page-in under way (R205), and when it was asked for. -/
structure PageIn where
  layer : Nat
  x : Int
  y : Int
  asked : Nat
  deriving DecidableEq, Repr

/-- A delivered interval at ground time (R197, R198): its electrical start in ticks, the ground interval in ns (`none` while it runs),
and the rate ratio as a fraction; for METER the units delivered over it in 1/256. -/
structure Part where
  el : Nat
  s : Int
  e : Option Int := none
  ee : Option Nat := none
  num : Nat := 1
  den : Nat := 1
  deriving DecidableEq, Repr

/-- A stroke (R198): its intervals, oldest first, and the ground time up to which it has been painted, none before its first piece. -/
structure Stroke where
  parts : List Part := []
  done : Option Int := none
  deriving DecidableEq, Repr

/-- An export (R216): the sequence number it starts from where it is incremental, the key of the last tile exported, the tile count,
the bytes produced that no page has taken, their number so far, the CRC-32 over them, the next page, the page asked for, and whether
the trailer has been produced. -/
structure Export where
  since : Option Nat := none
  last : Option (Nat × Int × Int) := none
  count : Nat := 0
  tail : List Byte := []
  produced : Nat := 0
  crc : Nat := 0xFFFFFFFF
  next : Nat := 0
  asked : Option Nat := none
  done : Bool := false
  deriving DecidableEq, Repr

/-- A frame that has ended and whose ground may still be painted: its two turns in TB-S ns, the pose and the geometry registers that held in
it, and whether the job was OPEN (R196, R199). -/
structure FramePast where
  from_ : Int := 0
  till : Int := 0
  pose : PoseEngine := {}
  geo : List W32 := []
  isOpen : Bool := false
  deriving DecidableEq, Repr

/-- The map (R192 to R225): the directory in the order of R215, the window, the page-ins, the strokes of each channel, the polygon
stores and the two windows by word offset, the prescription tiles that act from the next turn, the export, its current page, the
JOB_STATE of the last turn, what has not been painted in ns, the frames whose ground may still be painted, FRAME_SEQ of the frame that
paints, the ground starts of running intervals that found no room in the queue (R202), the tiles lost without an entry (R210), and the record
that is being checked, with whether it is a prescription (R217). -/
structure MapEngine where
  dir : List StoredTile := []
  win : List WinTile := []
  asks : List PageIn := []
  strokes : SMap (List Stroke) := []
  polyPend : SMap W32 := []
  poly : SMap W32 := []
  rxWin : SMap W32 := []
  expWin : SMap W32 := []
  rxNext : List StoredTile := []
  exp : Option Export := none
  page : List Byte := []
  job : Nat := 0
  unpaintedNs : Nat := 0
  past : List FramePast := []
  frameSeq : Nat := 0
  unqueued : SMap Int := []
  lostKeys : List (Nat × Int × Int) := []
  check : Option (Bool × List Byte) := none
  paintDue : Bool := false
  deriving DecidableEq, Repr
/-- A transition of a channel's timeline (R239, R247): its ground time in TB-S ns, the state and ρ in Q8.8, whether it changes only the
rate, its cause and its slack in mm, the rate it carries, and whether a cell that was not resident decided it (R206). -/
structure Transition where
  t : Int := 0
  on : Bool := false
  rho : Nat := 256
  rateOnly : Bool := false
  cause : Nat := 0
  early : Nat := 0
  late : Nat := 0
  rate : Nat := 0
  miss : Bool := false
  deriving DecidableEq, Repr

/-- A change along a probe's path (R236, R237): where on the path it lies in mm from the turn, the state after it, its cause and slack in
mm, and the rate it carries. -/
structure Change where
  s : Int := 0
  on : Bool := false
  rateOnly : Bool := false
  cause : Nat := 0
  early : Nat := 0
  late : Nat := 0
  rate : Nat := 0
  miss : Bool := false
  deriving DecidableEq, Repr

/-- The standing decision of a section or, at the expert level, of a channel (R230 to R238): the state of the tests and its cause at the
last turn, the rate last entered, whether the speed test had failed, whether it stood on unknown ground, whether the run under way and
the one after it are filled or suppressed, where on the path in µm the next change was expected, and the changes that the probe has
passed and members behind it have not. -/
structure Decision where
  on : Bool := false
  cause : Nat := 0
  rate : Nat := 0
  slow : Bool := false
  unk : Bool := false
  mask : Bool := false
  maskNext : Bool := false
  nextAt : Option Int := none
  passed : List (Int × Change) := []
  deriving DecidableEq, Repr

/-- The section decisions (chapter 09): standing decisions of sections (by number) and of channels (1000 on), the timelines and the
states before them, those published, the words read of the selected one, the register words and set-points that the next turn
publishes; MASTER.ON and the OVERRIDE words as the turn sampled them (R241), a word left out being at its reset value. -/
structure SdeEngine where
  master : Bool := false
  ovr : SMap W32 := []
  dec : SMap Decision := []
  tl : SMap (List Transition) := []
  start : SMap Bool := []
  tlPub : SMap (List Transition) := []
  pos : Nat := 0
  pub : List (Nat × W32) := []
  setpoints : List (Nat × W32) := []
  deriving DecidableEq, Repr

/-- The test that forced a step of the search (R342): the bank, the tile's spacing, the rail, or the supply and its ramp. -/
inductive Forced where
  | bank | tile | rail | supply
  deriving DecidableEq, Repr

/-- What Breakwater makes of a candidate (R342, R343): placed, carried or refused; the start, the causes charged so far, the account of a
refusal, whether it starts without boost, and the test that last moved it. -/
structure PlanOut where
  verdict : Nat
  start : Nat
  charge : List (Account × Nat) := []
  why : Account := .budget
  degraded : Bool := false
  forced : Option Forced := none
  deriving DecidableEq, Repr

/-- An uncommitted edge (R249 to R258, R265): its ideal time in ticks and the one its request counts from, direction and kind, the
transition's ground time, its slack and what has been spent of it in ticks, the causes charged, the speed of the probe in mm/s, the open
time of a pulse or of an ON with DUR, and what has been judged of it: where it is booked, the instant `was` that its request is booked
from, and the test that last moved a carried start. -/
structure Plan where
  t : Nat := 0
  req : Nat := 0
  on : Bool := false
  kind : EdgeKind := .sde
  tg : Int := 0
  rho : Nat := 256
  early : Nat := 0
  late : Nat := 0
  spent : Nat := 0
  charge : List (Account × Nat) := []
  cause : Nat := 0
  vp : Nat := 0
  dur : Option Nat := none
  tag : Nat := 0
  notify : Bool := false
  drop : Bool := false
  act : Option Nat := none
  miss : Bool := false
  lateOn : Bool := false
  lateBy : Nat := 0
  dropped : Bool := false
  booked : Bool := false
  was : Nat := 0
  forced : Option Forced := none
  later : Bool := false
  corr : Bool := false
  out : Option PlanOut := none
  deriving DecidableEq, Repr

/-- A host action that is pending (R268): its words, its time in ticks where it has one, when it was pushed, and its number. -/
structure HostAct where
  w : List W32
  t : Option Nat
  pushed : Nat
  num : Nat
  deriving DecidableEq, Repr

/-- What EDS holds of a channel beside its uncommitted edges (R254, R255, R266): the time and direction of the last committed edge; the
start of the last pulse, whether a pulse train runs, and its ρ; whether its run was dropped; where a host's train ends; and whether a
train is asked for that does not run (R353). -/
structure EdsChan where
  plan : List Plan := []
  last : Option (Nat × Bool) := none
  pulse : Nat := 0
  train : Bool := false
  rho : Nat := 256
  dropped : Bool := false
  stop : Option Nat := none
  ghost : Bool := false
  deriving DecidableEq, Repr

/-- Edge scheduling (chapter 10): its channels, the pending host actions and the number of the next, the commit window in ticks and the
turn it was formed at (R8). -/
structure EdsEngine where
  ch : SMap EdsChan := []
  acts : List HostAct := []
  nextAct : Nat := 0
  winFrom : Nat := 0
  winTo : Nat := 0
  winFor : Nat := 0
  deriving DecidableEq, Repr

/-- What Breakwater holds of a channel (R330 to R338): E_EST and TTP_EST with 16 fractional bits, the winding, case and switch
temperatures and the last T_R in 10^-6 °C, the derated hold in 5 mA, and whether it is refused or derated. -/
structure ThermChan where
  eEst : Nat := 0
  ttpEst : Nat := 0
  tW : Int := 50000000
  tC : Int := 50000000
  tR : Int := 0
  dSw : Int := 0
  i2 : Nat := 0
  derated : Option Nat := none
  refused : Bool := false
  deriving DecidableEq, Repr

/-- Breakwater (chapter 13): its channels, the die stage entered and the one that acts, the dissipation of each
frame of the last second, newest first, with the frame's length in ns, and its mean, in 0.1 W with 1/65536 parts; and what was sampled at the
turn (R15), the rails that were READY and the tiles' temperatures in 0.1 °C among it. -/
structure BwkEngine where
  ch : SMap ThermChan := []
  stage : Nat := 0
  nextStage : Nat := 0
  powers : List (Nat × Nat) := []
  modP : Nat := 0
  env : TurnEnv := {}
  ready : List Nat := []
  tileAt : List Int := []
  deriving DecidableEq, Repr

/-- The diagnostic collector (R273 to R275): the summaries of the last turn that are not idle, by channel and from 512 by bank, the
host's unread summaries by frame, and how many words of the first have been read. -/
structure DiagEngine where
  sums : SMap (List W32) := []
  host : List (List (List W32)) := []
  pos : Nat := 0
  deriving DecidableEq, Repr
/-- The inputs of a loop latched at a sample instant (R378): raw feedback, set-point target and feed-forward, the TB-S of the
instant, and the state the loop is in from it on. -/
structure Latched where
  fb : W32
  tgt : W32
  ff : W32
  tbs : Nat
  state : Nat
  deriving DecidableEq, Repr

/-- A loop of the engine (R377 to R390): its state (0 OFF, 1 AUTO, 2 MANUAL, 3 HOLD), the latches and causes, the variables of
an evaluation, the sample latched and the output that waits to be published, and the preset that is due (R387: 1 coefficients,
2 from MANUAL, 3 from HOLD, 4 enable). `last` is the turn number and the sub-frame step of the last instant. -/
structure LoopSt where
  state : Nat := 0
  causes : List Nat := []
  r : W32 := 0
  rdot : W32 := 0
  i : W32 := 0
  d : W32 := 0
  xPrev : W32 := 0
  s11 : W32 := 0
  s12 : W32 := 0
  s21 : W32 := 0
  s22 : W32 := 0
  uPrev : W32 := 0
  latched : Option Latched := none
  nextOut : Option W32 := none
  preset : Nat := 0
  fe : Bool := false
  num : Bool := false
  feRunNs : Nat := 0
  shed : Bool := false
  frozen : Bool := false
  satLo : Bool := false
  satHi : Bool := false
  last : Option (Nat × Nat) := none
  fbAt : Option Nat := none
  ffAt : Option Nat := none
  sdeTgt : W32 := 0
  carry : Nat := 0
  fedUnits : Int := 0
  deriving DecidableEq, Repr

/-- A sounding trace (R392 to R396): its state (0 IDLE, 1 ARMED, 2 RUNNING, 3 DONE), the configuration taken at ARM, the stored
values newest first, and what the trigger compares against. -/
structure Trace where
  state : Nat := 0
  src : W32 := 0
  trig : W32 := 0
  level : W32 := 0
  samples : List W32 := []
  halves : Nat := 0
  t0s : List Nat := []
  skip : Nat := 0
  trigIdx : Nat := 0
  armTurn : Nat := 0
  prev : Option W32 := none
  prevState : Nat := 0
  prevFe : Bool := false
  sat : Bool := false
  period : Bool := false
  forced : Bool := false
  deriving DecidableEq, Repr

/-- The loop engine and the soundings; `readPos` counts the words read of the selected trace, `utilCnt` the evaluations of
millisecond `utilMs`. -/
structure LoopEngine where
  loop : SMap LoopSt := []
  trace : SMap Trace := []
  readPos : Nat := 0
  utilMs : Nat := 0
  utilCnt : Nat := 0
  deriving DecidableEq, Repr
/-- The counters of one channel (R348): ticks of 4 ns for VALVE and PWMNOZ, 1/256 units for METER (R349). -/
structure LedgerEntry where
  req : Nat := 0
  del : Nat := 0
  infl : Nat := 0
  late : Nat := 0
  budget : Nat := 0
  thermal : Nat := 0
  fault : Nat := 0
  overlap : Nat := 0
  host : Nat := 0
  reset : Nat := 0
  track : Int := 0
  excess : Nat := 0
  carry : Nat := 0
  deriving DecidableEq, Repr

/-- The ledger with its session identity (R358, R367): `status` is 0 NEW, 1 CONTINUOUS, 2 DISCONTINUOUS. LOSS_FROM and LOSS_TO
are register words as R358 gives them. -/
structure LedgerBook where
  entries : SMap LedgerEntry := []
  invalid : List Nat := []
  sessId : Nat := 0
  status : Nat := 0
  fromPf : Bool := false
  gapCnt : Nat := 0
  lossFrom : List W32 := [0, 0, 0]
  lossTo : List W32 := [0, 0, 0]
  deriving DecidableEq, Repr

/-- A ledger slot of the record store (R356): the flushed book, its turn, wall time words, and whether it is marked PF. -/
structure LedgerSlot where
  book : LedgerBook
  seqx : Nat
  wall : List W32
  pf : Bool
  deriving DecidableEq, Repr

/-- The ledger memory, the flush that waits to be written, its two slots in the record store and which of them was written last, the number and
wall time of the last booked turn, and the snapshot buffer (R356, R361). -/
structure Ledgers where
  book : LedgerBook := {}
  flushing : Option LedgerSlot := none
  slots : List (Option LedgerSlot) := [none, none]
  lastSlot : Nat := 0
  turnSeqx : Nat := 0
  turnWall : List W32 := [0, 0, 0xE0000]
  snap : Option LedgerBook := none
  snapHead : List W32 := []
  snapModes : List Nat := []
  snapPos : Nat := 0
  deriving DecidableEq, Repr

/-- A record (R422): its code, its number, its TB-M stamp, its three wall-time words, and its payload. -/
structure Record where
  code : Nat
  seq : Nat
  tbm : Nat
  wall : List W32
  payload : List W32
  deriving DecidableEq, Repr

/-- A sector of the record ring (R431). -/
structure Sector where
  epoch : Nat
  recs : List Record
  deriving DecidableEq, Repr

/-- An entry of the failure log (R442). -/
structure FailEntry where
  kind : Nat
  tbm : Nat
  wall : List W32
  seq : Nat
  sector : Nat
  deriving DecidableEq, Repr

/-- The power-fail area (R433): the records and the count of events refused. -/
structure PfArea where
  recs : List Record
  refused : Nat
  deriving DecidableEq, Repr

/-- The record buffer and the record store (R430 to R432, R442): undrained records oldest first, the drained records still in the
buffer, the ring oldest sector first, the PF area, the failure log, the key slots, the SEQ reservation and the read session. -/
structure RecStore where
  undrained : List Record := []
  kept : List Record := []
  ring : List Sector := []
  pf : Option PfArea := none
  failLog : SMap (Option FailEntry) := []
  keys : List (List W32) := [[], [], [], []]
  nextSeq : Nat := 0
  reserved : Nat := 0
  lostLo : Nat := 0
  lostHi : Nat := 0
  readPos : Nat := 0
  readWords : List W32 := []
  readOpen : Bool := false
  readLeft : Nat := 0
  readEpoch : Nat := 0
  readCode : Nat := 0
  brPos : Nat := 0
  deriving DecidableEq, Repr
/-- Attestation (R459 to R468): the next stage of the measured start (4 once it has ended or stopped), the open blob newest word first,
whether MEAS5 has been written, the request that runs (bytes 20 to 331 of its report and its MEAS_GEN), the last report with the
words read of it, and the reports issued since the last controller reset with their MEAS_GEN. -/
structure AttEngine where
  boot : Nat := 0
  blob : List W32 := []
  blobDone : Bool := false
  req : Option (List Byte × Nat) := none
  report : List Byte := []
  pos : Nat := 0
  issued : List (Nat × Nat) := []
  deriving DecidableEq, Repr

/-- The supervision of chapter 16 in TB-M ns: the last kick of the host, the loss with the policy active at its expiry, whether that policy is in
force, whether it closes (CLOSE, or CONTINUE run out), a kick that ends the loss at the next turn; the MP's last kick and its restarts; and,
after a controller reset, from when turns resume, whether the first booking turn is still to come, and what its RESET record carries. Then
the ledger commands that wait for a turn (R356, R359, R361), and whether a diagnostic of the output path was disabled in the frame (R364). -/
structure Supervision where
  hbAt : Nat := 0
  lost : Option (Nat × Nat) := none
  applied : Bool := false
  closes : Bool := false
  kicked : Bool := false
  mpAt : Nat := 0
  mpRuns : List Nat := []
  resumeAt : Option Nat := none
  rebook : Bool := false
  imported : Nat := 0
  refused : Nat := 0
  snapReq : Bool := false
  sessReq : Bool := false
  flushReq : Bool := false
  diagCut : Bool := false
  deriving DecidableEq, Repr

/-- The part but for its ledger memory and its record store: the register file (an unlisted register reads its reset
value), the pending copies that differ from their active ones, the commits in flight, the configured objects, and
the engines. -/
structure Dev where
  regs : SMap W32 := []
  pend : SMap W32 := []
  cross : List Crossing := []
  conf : List Nat := []
  fab : Fabric := {}
  tm : TimeBases := {}
  frm : FrameEngine := {}
  rcf : RecFront := {}
  pose : PoseEngine := {}
  imp : ImpEngine := {}
  drv : Drive := {}
  lpe : LoopEngine := {}
  net : Net := {}
  gps : Gnss := {}
  pow : Power := {}
  map : MapEngine := {}
  sde : SdeEngine := {}
  eds : EdsEngine := {}
  bwk : BwkEngine := {}
  dia : DiagEngine := {}
  att : AttEngine := {}
  sup : Supervision := {}
  deriving DecidableEq, Repr

/-- The whole state: the part, its ledger memory, its record store, and the commands that wait, first in first out. -/
structure State where
  dev : Dev := {}
  ldg : Ledgers := {}
  rcd : RecStore := {}
  pending : List Instr := []
  deriving DecidableEq, Repr

/-- The part right after a power-on reset: every register at its reset value, every engine idle, the stores empty, no command
waiting; the RESET record goes to the front of the intake at the first turn. -/
def State.reset : State := { dev := { rcf := { hold := some 0 } } }

end Sys2Proof.Machine
end

