-- ==== Sys2Proof/Machine/Ops.lean ====
section
/-! DEFINITION. The register file: finding a register in the map, reading and writing its active and pending copy, and
the small updates (a bit, a counter, a 64-bit pair) that every block makes. -/

namespace Sys2Proof.Machine

/-- Where an address falls: its map row, the word of a 64-bit register, the index in a repeated row, the start of
its page or table entry, and the page that owns it (R31). -/
structure RegHit where
  row : RegRow
  idx : Nat
  word : Nat
  base : Nat
  page : Nat
  deriving DecidableEq, Repr

/-- The index and the word at which a map row holds an offset. -/
def rowHit (r : RegRow) (o : Nat) : Option (Nat × Nat) :=
  if o < r.off then none else
  let st := if r.n = 1 then 8 else r.step
  let k := o - r.off
  if k / st < r.n ∧ (k % st = 0 ∨ (r.wide = true ∧ k % st = 4)) then some (k / st, k % st / 4) else none

/-- The first row of a map that holds an offset. -/
def findRow (rows : List RegRow) (o : Nat) (base page : Nat) : Option RegHit :=
  rows.findSome? (fun r => (rowHit r o).map (fun p => ⟨r, p.1, p.2, base, page⟩))

/-- The page that owns entry `u` of the table window at `base` (R31). -/
def windowOwner (base u : Nat) : Nat :=
  if base = 0x01000000 then 0x38 + u / 8 else if base = 0x01008000 then 0x80 else if base = 0x01010000 then 0x23 else 0x21

/-- The window entry that an address falls in (R21): the window and the entry number, also beyond the populated ones. -/
def windowAt (a : Nat) : Option (Window × Nat) :=
  (windows.find? (fun w => w.base ≤ a ∧ a < w.base + w.size * w.count)).map (fun w => (w, (a - w.base) / w.size))

/-- The register at an address. `none` where no map defines one. -/
def findReg (a : Nat) : Option RegHit :=
  if a < 0x00100000 then
    let p := a / 0x1000
    match pageRows p with
    | none => none
    | some rows =>
      let o := a % 0x1000
      if o < 0x044 then findRow rowsHdr o (p * 0x1000) p else findRow rows o (p * 0x1000) p
  else match windowAt a with
    | some (w, u) => findRow w.rows ((a - w.base) % w.size) (w.base + u * w.size) (windowOwner w.base u)
    | none => none

/-- Reset values of STATUS bits that are 1 after reset: GROUP_DONE of FRM (R81), VERIFY_BUSY of IMP (R117), MASTER_OFF of SDE (R248). -/
def statusReset (p : Nat) : Nat :=
  if p = 0x002 ∨ p = 0x009 then 0x00010000 else if p = 0x021 then 0x00020000 else 0

/-- What a register word holds while nothing has written it: its reset value. -/
def resetWord (a : Nat) : W32 :=
  match findReg a with
  | none => 0#32
  | some h =>
    if a < 0x00100000 ∧ a % 0x1000 = 0x014 then w32 (statusReset (a / 0x1000))
    else if h.word = 0 then lo32 h.row.reset else hi32 h.row.reset

/-- The active copy of a register word. -/
def Dev.rd (d : Dev) (a : Nat) : W32 := sget resetWord d.regs a

/-- The word is a CH_MODEPAR, and the bits of it that a mode uses (R305); the others read 0 and writes to them are dropped (R2). -/
def isModepar (a : Nat) : Bool := 0x01000000 ≤ a && a < 0x01008000 && a % 64 = 0x14
def modeparMask (mode : Nat) : W32 :=
  if mode = 1 then 0xFFFF0000#32 else if mode = 3 then 0x00FFFFFF#32 else if mode = 4 then 0x000000FF#32 else 0xFFFFFFFF#32

/-- Set the active copy of a register word. -/
def Dev.wr (d : Dev) (a : Nat) (v : W32) : Dev := { d with regs := sset resetWord d.regs a v }

/-- A register as a number, as a signed number, and one of its fields. -/
def Dev.rdN (d : Dev) (a : Nat) : Nat := (d.rd a).toNat
def Dev.rdI (d : Dev) (a : Nat) : Int := (d.rd a).toInt
def Dev.fld (d : Dev) (a hi lo : Nat) : Nat := field (d.rd a) hi lo
def Dev.wrN (d : Dev) (a n : Nat) : Dev := d.wr a (w32 n)
def Dev.wrI (d : Dev) (a : Nat) (n : Int) : Dev := d.wr a (w32i n)
def Dev.setFld (d : Dev) (a hi lo v : Nat) : Dev := d.wr a (putField (d.rd a) hi lo v)

/-- A bit of a register, and a register with one bit set or cleared. -/
def Dev.bit (d : Dev) (a b : Nat) : Bool := bitOf (d.rd a) b
def Dev.setBit (d : Dev) (a b : Nat) (v : Bool) : Dev := d.wr a (putBit (d.rd a) b v)

/-- A bit of a bit map spread over words of 32 from `a` on, as CH_ON or INVALID. -/
def Dev.mapBit (d : Dev) (a i : Nat) : Bool := d.bit (a + 4 * (i / 32)) (i % 32)
def Dev.setMapBit (d : Dev) (a i : Nat) (v : Bool) : Dev := d.setBit (a + 4 * (i / 32)) (i % 32) v

/-- A 64-bit register (R39), as a number. -/
def Dev.rd64 (d : Dev) (a : Nat) : Nat := (d.rd (a + 4)).toNat * 2 ^ 32 + (d.rd a).toNat
def Dev.wr64 (d : Dev) (a n : Nat) : Dev := (d.wr a (lo32 n)).wr (a + 4) (hi32 n)

/-- Counters: one more or `n` more, wrapping or held at the greatest value. DESIGN CHOICE (log entry 176): the link counters of R62, of
which no map says it, wrap. -/
def Dev.inc (d : Dev) (a : Nat) : Dev := d.wr a (d.rd a + 1#32)
def Dev.addW (d : Dev) (a n : Nat) : Dev := d.wr a (d.rd a + w32 n)
def Dev.incSat (d : Dev) (a : Nat) : Dev := d.wr a (sat32 (d.rdN a + 1))
def Dev.addSat (d : Dev) (a n : Nat) : Dev := d.wr a (sat32 (d.rdN a + n))
def Dev.add64 (d : Dev) (a n : Nat) : Dev := d.wr64 a ((d.rd64 a + n) % 2 ^ 64)

/-- A peak register raised to `n` (R3: the read clears it). -/
def Dev.peak (d : Dev) (a n : Nat) : Dev := if d.rdN a < n then d.wrN a n else d

/-- A TS80 register triple (R87) set to `ns` nanoseconds since its epoch. -/
def Dev.wrTs80 (d : Dev) (a ns : Nat) : Dev :=
  let s := ns / 1000000000
  ((d.wrN a (ns % 1000000000)).wrN (a + 4) s).wrN (a + 8) (s / 2 ^ 32 % 2 ^ 16)

/-- The three words of a TS80 value (R87). -/
def ts80Words (ns : Nat) : List W32 :=
  let s := ns / 1000000000
  [w32 (ns % 1000000000), w32 s, w32 (s / 2 ^ 32 % 2 ^ 16)]

/-- The copy that a reader takes as active: an accepted commit in flight counts from its turn on (R69). -/
def Dev.cut (d : Dev) (a : Nat) : W32 :=
  match d.cross.findSome? (fun c => (c.words.find? (fun p => p.1 = a)).map (·.2)) with
  | some v => v
  | none => d.rd a

/-- The pending copy of a register word (R3). -/
def Dev.pending (d : Dev) (a : Nat) : W32 :=
  match sfind d.pend a with
  | some v => v
  | none => d.cut a

/-- A word whose Reset reads "IDI" (R4). -/
def isIdi (a : Nat) : Bool := (findReg a).any (·.row.idi)

/-- Set the pending copy; a pending copy equal to the active one is not listed, but for a word whose Reset reads "IDI", where a write
counts even of the value 0 (R541). -/
def Dev.setPending (d : Dev) (a : Nat) (v : W32) : Dev :=
  { d with pend := if v = d.cut a ∧ isIdi a = false then serase d.pend a else sinsert d.pend a v }

/-- Write both copies of a word, as hardware does with an RWT register it owns (R116, R179). -/
def Dev.wrBoth (d : Dev) (a : Nat) (v : W32) : Dev := { d.wr a v with pend := serase d.pend a }

/-- Registers of the value that the armed commits would make active. -/
def Dev.pendN (d : Dev) (a : Nat) : Nat := (d.pending a).toNat

/-- The page that owns an address: its own page, or the page whose commits cover a table entry (R31). -/
def ownerPage (a : Nat) : Nat :=
  if a < 0x00100000 then a / 0x1000
  else match windowAt a with
    | some (w, u) => windowOwner w.base u
    | none => 0x020

/-- The pending words of a page that differ from the active copy, in address order. -/
def Dev.pendOf (d : Dev) (p : Nat) : List (Nat × W32) := d.pend.filter (fun q => ownerPage q.1 = p)

/-- An object's unconfigured fields (R541). Objects are numbered: channels from 0, sections from 1000, loops from 2000,
banks from 3000, rails from 4000, latency entries from 5000, CANTX slots from 6000 (8 x port + slot), the LIMITS fields 9000. -/
def Dev.configured (d : Dev) (o : Nat) : Bool := d.conf.contains o

def objChan (c : Nat) : Nat := c
def objSec (n : Nat) : Nat := 1000 + n
def objLoop (n : Nat) : Nat := 2000 + n
def objBank (b : Nat) : Nat := 3000 + b
def objRail (k : Nat) : Nat := 4000 + k
def objLat (c : Nat) : Nat := 5000 + c
def objCtx (k : Nat) : Nat := 6000 + k
def objTherm (c : Nat) : Nat := 7000 + c
def objLimits : Nat := 9000

/-- Sample `i` of those that a command gives; one it does not give is a free value of the instant (log entry 3). -/
def Dev.sampleOf (d : Dev) (samples : List Nat) (i : Nat) : Nat := samples.getD i (Config.missingSample d.tm.tbm i)

end Sys2Proof.Machine
end

