-- ==== Sys2Proof/Machine/Flags.lean ====
section
/-! DEFINITION. The flags of the page header (R22, R23): fault bits with their interrupt, raw interrupts and status
bits, and the records that events write (R423, R424, R426, R427). -/

namespace Sys2Proof.Machine

/-- The pages of the output path's diagnostics (R301, R362): DT, BK and VB. -/
def outputPages : List Nat := (List.range 8).map (0x030 + ·) ++ (List.range 64).map (0x038 + ·) ++ [0x078]

/-- The first code of the group a page's records fall in (R423). -/
def recordBase (p : Nat) : Nat :=
  if p = 0x000 ∨ p = 0x005 ∨ p = 0x0B0 ∨ p = 0x090 then 0x000
  else if p = 0x001 ∨ p = 0x002 ∨ p = 0x003 then 0x040
  else if p = 0x006 ∨ p = 0x007 ∨ p = 0x004 then 0x080
  else if p = 0x008 ∨ p = 0x009 then 0x0C0
  else if p = 0x012 ∨ p = 0x00A then 0x140
  else if 0x010 ≤ p ∧ p ≤ 0x01F then 0x100
  else if p = 0x020 then 0x180
  else if p = 0x021 then 0x1C0
  else if p = 0x022 ∨ p = 0x023 ∨ p = 0x026 then 0x200
  else if p = 0x024 ∨ p = 0x025 then 0x240
  else if 0x030 ≤ p ∧ p ≤ 0x037 then 0x280
  else if 0x038 ≤ p ∧ p ≤ 0x077 then 0x2C0
  else if p = 0x078 then 0x300
  else if p = 0x080 ∨ p = 0x081 then 0x340
  else 0x380

/-- The record code of an event: base + bit, base + 32 + bit, base + 63, or the recorder's own code (R423, R425). -/
def Event.codeOf (e : Event) : Nat :=
  if e.own then e.code
  else recordBase e.page + (if e.kind = 1 then e.bit else if e.kind = 2 then 32 + e.bit else 63)

/-- The payload of a record: two words that name the event, then its values (R424); the recorder's own as listed (R425). -/
def Event.payload (e : Event) : List W32 :=
  if e.own then e.values
  else w32 (e.kind * 2 ^ 28 + (if e.kind = 3 then 0xFF else e.bit) * 2 ^ 16 + e.page)
    :: w32 (e.obj * 2 ^ 12 + e.idx) :: e.values

/-- The order in which events that reach the front end in one cycle are taken (R426). -/
def Event.before (a b : Event) : Bool :=
  if a.cycle ≠ b.cycle then a.cycle < b.cycle
  else if a.own ≠ b.own then a.own
  else if a.own then a.code < b.code
  else if a.page ≠ b.page then a.page < b.page
  else a.kind < 3 && b.kind = 3 || (a.kind < 3 && a.bit < b.bit)

/-- An event put in its place in the intake queue: behind every event that is not after it. -/
def enqueueEvent : List Event → Event → List Event
  | [], e => [e]
  | x :: r, e => if e.before x then e :: x :: r else x :: enqueueEvent r e

/-- Depth of the intake queue (R426). -/
def intakeDepth : Nat := 2048

/-- Count an event of a code as suppressed (R427, R429); the first of an episode sets when its summary falls. -/
def Dev.suppress (d : Dev) (code : Nat) : Dev :=
  let z : Suppressed := sget (fun _ => {}) d.rcf.supp code
  let due := if z.count = 0 ∧ z.due ≤ d.tm.tbm then d.tm.tbm + d.rdN Reg.REC_SUMM_PERIOD * 1000000000 else z.due
  let z' : Suppressed := ⟨z.count + 1, if z.count = 0 then d.tm.tbm else z.first, d.tm.tbm, due⟩
  let d := { d with rcf := { d.rcf with supp := sset (fun _ => {}) d.rcf.supp code z' } }
  d.incSat Reg.REC_SUPP_TOTAL

/-- Hand an event to the recorder front end (R426); a full queue suppresses it (R427), and from 1 ms after a power-fail
warning on it is only counted (R433). -/
def Dev.emit (d : Dev) (e : Event) : Dev :=
  if d.rcf.closed || d.pow.pfAt.any (fun t => t + 1000000 ≤ d.tm.tbm) then { d with rcf := { d.rcf with refused := d.rcf.refused + 1 } }
  else if d.rcf.intake.length ≥ intakeDepth then d.suppress e.codeOf
  else { d with rcf := { d.rcf with intake := enqueueEvent d.rcf.intake e } }

/-- Kinds of object a record can name (R424). -/
def objNone : Nat := 0
def objIsChannel : Nat := 1
def objIsLoop : Nat := 2
def objIsTc : Nat := 3
def objIsPort : Nat := 4
def objIsSection : Nat := 5
def objIsRail : Nat := 6

/-- A record of FAULT bit `b` of a page (R424), of IRQ_RAW bit `b`, or of another event, with the object it concerns. -/
def Dev.recFault (d : Dev) (p b : Nat) (vs : List W32 := []) (obj idx : Nat := 0) : Dev :=
  d.emit ⟨false, 0, p, 1, b, obj, idx, vs, d.tm.tbm⟩
def Dev.recIrq (d : Dev) (p b : Nat) (vs : List W32 := []) (obj idx : Nat := 0) : Dev :=
  d.emit ⟨false, 0, p, 2, b, obj, idx, vs, d.tm.tbm⟩
def Dev.recOther (d : Dev) (p : Nat) (vs : List W32 := []) (obj idx : Nat := 0) : Dev :=
  d.emit ⟨false, 0, p, 3, 0, obj, idx, vs, d.tm.tbm⟩

/-- One of the recorder's own records (R425). -/
def Dev.recOwn (d : Dev) (code : Nat) (vs : List W32) : Dev :=
  d.emit ⟨true, code, 0, 0, 0, 0, 0, vs, d.tm.tbm⟩

/-- Set a raw interrupt of a page. -/
def Dev.irq (d : Dev) (p b : Nat) : Dev := d.setBit (Reg.IRQ_RAW p) b true

/-- Set a fault bit of a page; an enabled bit that rises sets IRQ_RAW.FAULT (R23). -/
def Dev.fault (d : Dev) (p b : Nat) : Dev :=
  let rises := !d.bit (Reg.FAULT p) b && d.bit (Reg.FAULT_EN p) b
  let d := d.setBit (Reg.FAULT p) b true
  if rises then d.irq p 1 else d

/-- A fault bit together with its record, where the chapter says that a record is written. -/
def Dev.faultRec (d : Dev) (p b : Nat) (vs : List W32 := []) (obj idx : Nat := 0) : Dev :=
  (d.fault p b).recFault p b vs obj idx

/-- Set or clear a status bit of a page; read it. -/
def Dev.setStat (d : Dev) (p b : Nat) (v : Bool) : Dev := d.setBit (Reg.STATUS p) b v
def Dev.stat (d : Dev) (p b : Nat) : Bool := d.bit (Reg.STATUS p) b

/-- Common bits of FAULT and STATUS (R23). -/
def fLEN : Nat := 0
def fLOCKW : Nat := 1
def fLEVEL : Nat := 2
def fECC : Nat := 3
def fCFG : Nat := 4
def sSHORT : Nat := 0
def sREJECTED : Nat := 3

/-- A page's raw interrupts that are enabled (R22). -/
def Dev.irqPend (d : Dev) (p : Nat) : W32 := d.rd (Reg.IRQ_RAW p) &&& d.rd (Reg.IRQ_EN p)

/-- The pages of the map (R20). -/
def allPages : List Nat := pageBlocks.flatMap (fun b => (List.range b.2).map (b.1 + ·))

/-- HSL_IRQ_N is asserted while any page has a pending interrupt (R50). -/
def Dev.irqPin (d : Dev) : Bool := allPages.any (fun p => d.irqPend p ≠ 0#32)

/-- A write rejected for length or range (R32, R36). -/
def Dev.lenReject (d : Dev) (p : Nat) : Dev := (d.incSat (Reg.LEN_REJ p)).fault p fLEN

end Sys2Proof.Machine
end

