-- ==== Sys2Proof/Machine/Access.lean ====
section
/-! DEFINITION. The checks and the effects of one register access over the fabric (R20, R28, R30, R31, R36, R39 to R42), and
the answer that a requester gets. What a command register does when its write is accepted is given by the block's own
chapter; `hostCmd` runs the checks and then that action. -/

namespace Sys2Proof.Machine

/-- The number of a requester (R39). -/
def reqNo : Requester → Nat
  | .hsl => 0 | .ivy0 => 1 | .ivy1 => 2 | .mp => 3

/-- The code of a status (R41). -/
def statusCode : Status → Nat
  | .ok => 0 | .addr => 1 | .timeout => 2 | .lockw => 3 | .level => 4 | .len => 5 | .ecc => 6 | .auth => 7 | .crc => 8 | .busy => 9

/-- Change the part only. -/
def onDev (f : Dev → Dev) (s : State) : State := { s with dev := f s.dev }

/-- The three memory windows of the Tidemark map (R21). -/
def inStore (a : Nat) : Bool := 0x01100000 ≤ a && a < 0x01400000

/-- Where the polygon, prescription and export stores begin (R21). -/
def polyStore : Nat := 0x01100000
def rxStore : Nat := 0x01200000
def expStore : Nat := 0x01300000

/-- Offsets of the polygon store that hold descriptors or vertices (R218). -/
def polyOffset (o : Nat) : Bool := o < 0x400 || (0x1000 ≤ o && o < 0x81000)

/-- An address that an access can reach: an assigned page, a populated entry of a window or a store (R20, R21, R41). -/
def addrExists (a : Nat) : Bool :=
  a % 4 = 0 && (if a < 0x00100000 then (pageRows (a / 0x1000)).isSome
    else (windowAt a).isSome || (inStore a && (rxStore ≤ a || polyOffset (a - polyStore))))

/-- Words from an address of a store to the end of its populated entries (R21). -/
def storeSpan (a : Nat) : Nat :=
  if rxStore ≤ a then (0x00100000 - a % 0x00100000) / 4
  else if a - polyStore < 0x400 then (0x400 - (a - polyStore)) / 4
  else (0x81000 - (a - polyStore)) / 4

/-- Registers that only the HSL may reach (R52, R408, R418, R436). -/
def hslOnly (a : Nat) : Bool :=
  a = Reg.SYS_RST_CMD || a = Reg.SYS_OUT_ARM || (0x5130 ≤ a && a ≤ 0x5167) || (0x90140 ≤ a && a ≤ 0x90180)

/-- The access a requester is not allowed over its link (R41 AUTH). -/
def authFails (req : Requester) (a : Nat) : Bool :=
  if a = Reg.WDG_MP_KICK then req ≠ .mp
  else match req with
    | .hsl => false
    | _ => hslOnly a

/-- The page whose MODE governs a page: the NAV pages follow the first of them (R143). -/
def modePage (p : Nat) : Nat := if 0x010 ≤ p ∧ p ≤ 0x01F then 0x010 else p

/-- Writes to the geometry registers that the firmware owns at the basic level of BSS (R180). -/
def Dev.geoFails (d : Dev) (req : Requester) (a : Nat) : Bool :=
  0xA100 ≤ a && a ≤ 0xA17F && req ≠ .mp && !bitOf (d.pending (Reg.MODE 0x00A)) 0

/-- A page is locked (R31). -/
def Dev.locked (d : Dev) (p : Nat) : Bool := d.rd (Reg.LOCK p) ≠ 0#32

/-- The page a write is checked and counted against. -/
def targetPage (a : Nat) : Nat := ownerPage a

/-- The loop-table words that the basic level of LPE derives from the image: all of the RWT words but LP_CTRL (R397). -/
def lptExpert (a : Nat) : Bool :=
  0x01008000 ≤ a && a < 0x01010000 && 4 ≤ a % 256 && a % 256 ≤ 0x84

/-- The learned latencies, which are presets at the expert level of LAT (R264). -/
def lattExpert (a : Nat) : Bool := 0x01010000 ≤ a && a < 0x01014000 && a % 32 < 8

/-- An offset in a page's expert range while the page's pending MODE is basic (R28, R30). On the NAV pages the firmware on the MP
owns the channels and jobs at the basic level (R144), so its own writes are not refused. -/
def Dev.levelFails (d : Dev) (req : Requester) (a : Nat) : Bool :=
  (a < 0x00100000 && 0x400 ≤ a % 0x1000 && a % 0x1000 < 0xF00 && !bitOf (d.pending (Reg.MODE (modePage (a / 0x1000)))) 0
    && !(req = .mp && modePage (a / 0x1000) = 0x010))
  || (lptExpert a && !bitOf (d.pending (Reg.MODE 0x080)) 0)
  || (lattExpert a && !bitOf (d.pending (Reg.MODE 0x023)) 0)

/-- The registers that a locked page still accepts (R31). -/
def lockExempt (a : Nat) : Bool :=
  a < 0x00100000 && (a % 0x1000 = 0x038 || a % 0x1000 = 0x018 || a % 0x1000 = 0x020)

/-- Keys of the LOCK register (R23). -/
def keyLock : W32 := 0x4C4F434B#32
def keyUnlock : W32 := 0x554E4C4B#32

/-- A stated range holds (R36). -/
def rangeOk (v : W32) (c : RangeCheck) : Bool :=
  let n : Int := if c.signed then fieldS v c.hi c.lo else (field v c.hi c.lo : Nat)
  c.min ≤ n && n ≤ c.max && !c.hole.contains n

/-- The edges of each enabled time-mark input are selected by 1 to 3 (R490); the field of a disabled one may stay at its reset value
(log entry 171). -/
def timeMarksOk (v : W32) : Bool := ([0, 1, 2, 3] : List Nat).all (fun m => !bitOf v (4 * m) || field v (4 * m + 2) (4 * m + 1) ≠ 0)

/-- TC_TAPS of a tracking window: D1 is 1 to 8, and D2 from D1 + 1 to 24 (R149). -/
def isTaps (a : Nat) : Bool := 0x14000 ≤ a && a < 0x1C000 && 0x400 ≤ a % 0x1000 && a % 0x1000 < 0xC00 && a % 0x100 = 0x14
def tapsOk (v : W32) : Bool := 1 ≤ field v 3 0 && field v 3 0 ≤ 8 && field v 3 0 < field v 8 4 && field v 8 4 ≤ 24

/-- A value that an RW or WO register accepts (R36). A range of a pending copy is checked at the turn instead (R26). -/
def valueOk (a : Nat) (v : W32) : Bool :=
  if a < 0x00100000 ∧ a % 0x1000 = 0x038 then v = keyLock || v = keyUnlock
  else if a = Reg.GPIO_TM_CFG then timeMarksOk v
  else if isTaps a then tapsOk v
  else match findReg a with
    | none => true
    | some h =>
      match h.row.acc with
      | .rw | .wo => h.row.wide || h.row.checks.all (rangeOk v)
      | _ => true

/-- PWR_STATE (R457): 0 RUN, 1 SLACK, 2 EBB, 3 NEAP, 4 COVE, 5 STRAND. -/
def Dev.powerState (d : Dev) : Nat := d.fld Reg.PWR_PWR_STATE 2 0

/-- The fabric answers (R447, R413): in RUN and SLACK, and not while the controller is held in reset. -/
def Dev.fabricUp (d : Dev) : Bool := d.powerState ≤ 1 && !d.pow.held

/-- The wake sources that a state accepts (R452). -/
def wakeAccepts (state bit : Nat) : Bool :=
  if state = 0 then false
  else match bit with
    | 0 | 2 | 3 | 6 => true
    | 1 | 7 => state ≤ 3
    | 4 => state ≤ 4
    | _ => state ≤ 2

/-- A wake source acts, where it is enabled and the state accepts it (R452). -/
def Dev.wakeBy (d : Dev) (bit : Nat) : Dev :=
  if d.bit Reg.PWR_WAKE_EN bit && wakeAccepts d.powerState bit then
    { d with pow := { d.pow with wake := d.pow.wake ||| 2 ^ bit } }
  else d

/-- What an access over the HSL does to a parked module (R452): the falling HSL_CS_N is a wake source, a register write wakes from
SLACK whatever is enabled, and in EBB and NEAP the transaction is abandoned and counted (R48). -/
def Dev.hslTouch (d : Dev) (req : Requester) (write : Bool) : Dev :=
  if req ≠ .hsl ∨ d.powerState = 0 then d
  else
    let d := d.wakeBy 1
    let d := if write ∧ d.powerState = 1 then { d with pow := { d.pow with wake := d.pow.wake ||| 2 } } else d
    if d.powerState = 2 ∨ d.powerState = 3 then d.inc Reg.HOST_HSL_ABORT else d

/-- Writes to the attestation registers that Ivyth may not make (R464). -/
def ivyWriteFails (req : Requester) (a : Nat) : Bool :=
  (req = .ivy0 || req = .ivy1) &&
    ((0x4240 ≤ a && a < 0x426C) || a = Reg.ATT_ATT_CONFIRM || a = Reg.ATT_POLICY_SET)

/-- The status that a write of one word meets before it acts (R28, R31, R36, R41). DESIGN CHOICE (log entry 172): where several
refusals apply, the first of ADDR, AUTH, LEVEL, LOCKW and LEN is the one given; the spec states no order. -/
def Dev.writeStatus (d : Dev) (req : Requester) (a : Nat) (v : W32) : Status :=
  if !d.fabricUp then .timeout
  else if !addrExists a then .addr
  else if authFails req a || ivyWriteFails req a || d.geoFails req a then .auth
  else if d.levelFails req a then .level
  else if d.locked (targetPage a) && !lockExempt a then .lockw
  else if !valueOk a v then .len
  else .ok

/-- What a refused access leaves behind (R23, R28, R31, R36). -/
def Dev.refuse (d : Dev) (a : Nat) : Status → Dev
  | .level => d.fault (targetPage a) fLEVEL
  | .lockw => d.fault (targetPage a) fLOCKW
  | .len => d.lenReject (targetPage a)
  | .ecc => d.fault (targetPage a) fECC
  | _ => d

/-- The answer to a requester (R41, R42); the last one that was not OK is kept in LAST_ERR (R62). -/
def Dev.respond (d : Dev) (req : Requester) (a : Nat) (st : Status) (done : Nat) (data : List W32) : Dev :=
  let d := { d with fab := { d.fab with resp := sset (fun _ => {}) d.fab.resp (reqNo req) ⟨st, done, data⟩ } }
  if st = .ok then d
  else (d.wrN Reg.HOST_LAST_ERR (reqNo req * 2 ^ 8 + statusCode st)).wrN Reg.HOST_LAST_ERR_ADDR a

/-- What an accepted write does: the status it ends with (a chapter can refuse for its own reason) and the state after. -/
abbrev Act := State → Status × State

/-- An action on the part that always completes. -/
def actDev (f : Dev → Dev) : Act := fun s => (.ok, onDev f s)

/-- An action that its chapter refuses with status LEN, counted as R36 says, unless `ok` holds. -/
def actIf (a : Nat) (ok : Dev → Bool) (f : Dev → Dev) : Act := fun s =>
  if ok s.dev then (.ok, onDev f s) else (.len, onDev (·.lenReject (targetPage a)) s)

/-- One write of a command register: the checks of the fabric, then the register's own action. -/
def checkedWrite (req : Requester) (a : Nat) (v : W32) (act : Act) : Act := fun s =>
  match s.dev.writeStatus req a v with
  | .ok => act s
  | st => (st, onDev (·.refuse a st) s)

/-- A command that is one write: the checks, the action, the answer. -/
def hostCmd (req : Requester) (a : Nat) (v : W32) (act : Act) (s : State) : State :=
  let r := checkedWrite req a v act (onDev (·.hslTouch req true) s)
  onDev (·.respond req a r.1 (if r.1 = .ok then 1 else 0) []) r.2

/-- What a port that takes words makes of a burst: the status, the words taken, the state after. -/
abbrev BurstAct := List W32 → State → Status × Nat × State

/-- A burst of writes to one address (R42, R45): the checks, the action, the answer with the words done. -/
def hostBurst (req : Requester) (a : Nat) (ws : List W32) (act : BurstAct) (s : State) : State :=
  let s := onDev (·.hslTouch req true) s
  match s.dev.writeStatus req a 0#32 with
  | .ok =>
    let r := act ws s
    onDev (·.respond req a r.1 r.2.1 []) r.2.2
  | st => onDev (fun d => (d.refuse a st).respond req a st 0 []) s

/-- Words taken one after the other, up to the first that is refused (R42). -/
def burstWords (act : W32 → Act) : List W32 → State → Status × Nat × State
  | [], s => (.ok, 0, s)
  | w :: r, s =>
    match act w s with
    | (.ok, s) => let t := burstWords act r s; (t.1, t.2.1 + 1, t.2.2)
    | (st, s) => (st, 0, s)

/-- The key of a requester's shadow or held word (R39). -/
def shadowKey (req : Requester) (a : Nat) : Nat := reqNo req * 2 ^ 32 + a

/-- A register's defined bits (R2: reserved bits read 0 and are not kept). -/
def maskOf (a : Nat) : W32 :=
  match findReg a with
  | none => 0#32
  | some h => w32 h.row.mask

/-- A word that is written anew holds no symbol error any more. -/
def Dev.mend (d : Dev) (a : Nat) : Dev :=
  if d.fab.bad.contains a then { d with fab := { d.fab with bad := d.fab.bad.filter (· ≠ a) } } else d

/-- Register words that store what is written: RW directly, RWT in the pending copy (R3). -/
def Dev.store (d : Dev) (a : Nat) (v : W32) : Dev :=
  let d := d.mend a
  match findReg a with
  | none => d
  | some h =>
    match h.row.acc with
    | .rwt => d.setPending a (v &&& w32 h.row.mask)
    | .rw | .wo => d.wr a ((d.rd a &&& ~~~(w32 h.row.mask)) ||| (v &&& w32 h.row.mask))
    | .ro | .rc | .w1c => d

/-- Hold the high word of a 64-bit register for its requester (R39). -/
def Dev.holdHigh (d : Dev) (req : Requester) (a : Nat) (v : W32) : Dev :=
  { d with fab := { d.fab with held := sinsert d.fab.held (shadowKey req a) v } }

/-- The high word that a write of the low word commits with it: the one the requester holds, else the register's own. -/
def Dev.heldHigh (d : Dev) (req : Requester) (a : Nat) : W32 :=
  match sfind d.fab.held (shadowKey req a) with
  | some v => v
  | none => d.pending a

/-- Drop a held high word once the low word has committed it. -/
def Dev.dropHigh (d : Dev) (req : Requester) (a : Nat) : Dev :=
  { d with fab := { d.fab with held := serase d.fab.held (shadowKey req a) } }

/-- Latch a word into a requester's shadow (R39, R88). -/
def Dev.latchShadow (d : Dev) (req : Requester) (a : Nat) (v : W32) : Dev :=
  { d with fab := { d.fab with shadow := sinsert d.fab.shadow (shadowKey req a) v } }

/-- A port's words: the reader takes up to `n` of the words that are there (R33), and the count is reported. -/
def takeWords (n : Nat) (ws : List W32) : List W32 := ws.take n

/-- What a port gives to a reader of up to `n` words. -/
abbrev PortAct := Nat → State → List W32 × State

/-- A port over the part's own state. -/
def portDev (f : Nat → Dev → List W32 × Dev) : PortAct := fun n s =>
  let r := f n s.dev
  (r.1, { s with dev := r.2 })

/-- The count that asks for all that is available (R34). -/
def readAll : Nat := 2 ^ 32 - 1

/-- A read past what is available is clamped and sets STATUS.SHORT of the page (R33), unless it asked for all (R34). -/
def Dev.shortRead (d : Dev) (a n got : Nat) : Dev :=
  if got < n ∧ n ≠ readAll then d.setStat (targetPage a) sSHORT true else d

/-- The status that a read meets (R41). A word with an uncorrected symbol error answers ECC until it is written. -/
def Dev.readStatus (d : Dev) (req : Requester) (a : Nat) : Status :=
  if !d.fabricUp then .timeout else if !addrExists a then .addr else if authFails req a then .auth
  else if d.fab.bad.contains a then .ecc else .ok

/-- A read of `n` words from a port. -/
def hostPort (req : Requester) (a n : Nat) (port : PortAct) (s : State) : State :=
  let s := onDev (·.hslTouch req false) s
  match s.dev.readStatus req a with
  | .ok =>
    let r := port n s
    onDev (fun d => (d.shortRead a n r.1.length).respond req a .ok r.1.length r.1) r.2
  | st => onDev (fun d => (d.refuse a st).respond req a st 0 []) s

end Sys2Proof.Machine
end

