-- ==== Sys2Proof/Machine/Clock.lean ====
section
/-! DEFINITION. The passage of time: how each time base advances over CK_SYS cycles (R83 to R86, R91, R92, R99, R101),
the instants that commands move the clock forward to, and wall time (R104). -/

namespace Sys2Proof.Machine

/-- The pages of the time bases. -/
def pTIME : Nat := 6
def pTIME1 : Nat := 7

/-- Units of TB-S and TB-G in one ns, and of TB-N. -/
def pU : Nat := 1000000000
def nU : Nat := 2 ^ 32 * 1000000

/-- TB-S, TB-G and TB-N in whole ns. -/
def Dev.tbs (d : Dev) : Nat := d.tm.tbsP / pU
def Dev.tbg (d : Dev) : Nat := d.tm.tbgP / pU
def Dev.tbn (d : Dev) : Nat := d.tm.tbnU / nU

/-- What a capture takes of TB-G: in the cycle of a step, the value before it (R492). -/
def Dev.tbgCaptured (d : Dev) : Nat :=
  if d.tm.steppedAt = some d.tm.tbm then d.tm.steppedFrom else d.tbg

/-- TBG_STATE (R97). -/
def Dev.tbgState (d : Dev) : Nat := d.fld Reg.TIME_TBG_STATE 1 0
def tbgNone : Nat := 0
def tbgLocked : Nat := 1
def tbgHoldoverS : Nat := 2
def tbgReturnS : Nat := 3

/-- The units TB-S gains in a CK_SYS cycle at its rate correction (R84, R85). -/
def Dev.tbsStep (d : Dev) : Nat := (10 * ((pU : Int) + d.rdI Reg.TIME_TBS_PPB)).toNat

/-- The units TB-G gains in a CK_SYS cycle: the crystal's offset against it taken out (R85, R99). -/
def Dev.tbgStep (d : Dev) : Nat := (10 * ((pU : Int) - d.rdI Reg.CLK_XO_PPB)).toNat

/-- TB-N's increment per cycle, Q8.32 (R91). -/
def Dev.incr (d : Dev) : Nat := d.rd64 Reg.TIME1_INCR % 2 ^ 40

/-- A signed amount limited in size to `m`. -/
def capMag (x : Int) (m : Nat) : Int := clampI (-(m : Int)) m x

/-- CK_SYS is stopped: EBB and below (R447, R449). -/
def Dev.sysStopped (d : Dev) : Bool := decide (2 ≤ d.powerState)

/-- A CK_AON period, 30.517578125 µs, in 64ths of a ns (R84), and the whole periods in `a` of them. -/
def aonPeriod : Nat := 1953125
def aonTicks (a : Nat) : Nat := a / aonPeriod

/-- The counts of the TCXO's 16.368 MHz, 61.1 ns each, in `a` 64ths of a ns (R449). -/
def tcxoCounts (a : Nat) : Nat := a * 1023 / 4000000

/-- What a cycle takes out of the error of TB-G: the return slew (R101), or the steering of a burst (R159). -/
def Dev.slewStep (d : Dev) : Nat := if d.tbgState = tbgReturnS then 10 * d.rdN Reg.TIME_RET_SLEW_NS else d.tm.burstStep
def Dev.slewIn (d : Dev) (n : Nat) : Int := capMag d.tm.tbgErrP (n * d.slewStep)

/-- The bases after `n` cycles of CK_SYS. -/
def Dev.counted (d : Dev) (n : Nat) : TimeBases :=
  let adj := capMag d.tm.adjU (n * d.incr * d.rdN Reg.TIME1_ADJ_PPM)
  let run := if d.tbgState = tbgNone then 0 else n * d.tbgStep
  { d.tm with
    tbm := d.tm.tbm + 10 * n
    tbsP := d.tm.tbsP + n * d.tbsStep
    tbnU := ((d.tm.tbnU : Int) + n * d.incr * 1000000 + adj).toNat
    adjU := d.tm.adjU - adj
    tbgP := ((d.tm.tbgP : Int) + run - d.slewIn n).toNat
    tbgErrP := d.tm.tbgErrP - d.slewIn n }

/-- TB-M and TB-S at CK_AON period `k` since CK_SYS stopped. -/
def Dev.carriedM (d : Dev) (k : Nat) : Nat := d.tm.parkM + k * aonPeriod / 64
def Dev.carriedS (d : Dev) (k : Nat) : Nat := d.tm.parkS + k * aonPeriod * d.tbsStep / 640

/-- TB-G at TCXO count `k` since CK_SYS stopped. -/
def Dev.carriedG (d : Dev) (k : Nat) : Nat := if d.tbgState = tbgNone then d.tm.parkG else d.tm.parkG + k * 100000 * d.tbgStep / 16368

/-- The bases after the time of `n` cycles with CK_SYS stopped: TB-M, TB-S and TB-N move at the periods of CK_AON, TB-G at the counts of
the TCXO (R84, R449). -/
def Dev.carried (d : Dev) (n : Nat) : TimeBases :=
  let a := d.tm.aon + 640 * n
  let g := ((d.tm.parkG : Int) - d.slewIn n).toNat
  { d.tm with
    aon := a
    tbm := d.carriedM (aonTicks a)
    tbsP := d.carriedS (aonTicks a)
    tbnU := d.tm.parkN + aonTicks a * aonPeriod * d.incr * 1000000 / 640
    parkG := g
    tbgP := ({ d with tm := { d.tm with parkG := g } }).carriedG (tcxoCounts a)
    tbgErrP := d.tm.tbgErrP - d.slewIn n }

/-- CK_SYS stops: the bases are carried on from here. -/
def Dev.sysStops (d : Dev) : Dev :=
  { d with tm := { d.tm with parkM := d.tm.tbm, parkS := d.tm.tbsP, parkN := d.tm.tbnU, parkG := d.tm.tbgP, aon := 0 } }

/-- Let the time of `n` CK_SYS cycles pass. -/
def Dev.advance (d : Dev) (n : Nat) : Dev := { d with tm := if d.sysStopped then d.carried n else d.counted n }

/-- The CK_SYS cycles until a counter at `now` that gains `step` each cycle reaches `due`. -/
def cyclesTo (now due step : Nat) : Nat := ceilDiv (due - now) step

/-- The cycles until CK_AON period `k` since CK_SYS stopped. -/
def Dev.cyclesToTick (d : Dev) (k : Nat) : Nat := ceilDiv (k * aonPeriod - d.tm.aon) 640

/-- The cycles until TB-M, and until TB-S, have reached an instant in ns. -/
def Dev.cyclesTbm (d : Dev) (due : Nat) : Nat :=
  if d.sysStopped then d.cyclesToTick (ceilDiv ((due - d.tm.parkM) * 64) aonPeriod) else cyclesTo d.tm.tbm due 10
def Dev.cyclesTbs (d : Dev) (due : Nat) : Nat :=
  if d.sysStopped then d.cyclesToTick (ceilDiv ((due * pU - d.tm.parkS) * 640) (aonPeriod * d.tbsStep))
  else cyclesTo d.tm.tbsP (due * pU) d.tbsStep

/-- The cycles until a counter that gains `step` a cycle, less `r` of the error `e` while any of it is left, has gained `gap`. -/
def slewedCycles (gap step r : Nat) (e : Int) : Nat :=
  if e = 0 ∨ r = 0 then ceilDiv gap step
  else
    let n := ceilDiv gap (if 0 < e then step - r else step + r)
    if n * r ≤ e.natAbs then n else max (ceilDiv ((gap : Int) + e).toNat step) (e.natAbs / r + 1)

/-- The cycles until TB-G has reached an instant in ns. -/
def Dev.cyclesTbg (d : Dev) (due : Nat) : Nat :=
  let n := slewedCycles (due * pU - d.tm.tbgP) d.tbgStep d.slewStep d.tm.tbgErrP
  if d.sysStopped ∧ n ≠ 0 then
    let g := ((d.tm.parkG : Int) - d.slewIn n).toNat
    let k := ceilDiv ((due * pU - g) * 16368) (100000 * d.tbgStep)
    ceilDiv (ceilDiv (k * 4000000) 1023 - d.tm.aon) 640
  else n

/-- Move the clock forward to the first instant at which TB-M, TB-S or TB-G has reached a value given in ns; a value that has passed
moves nothing. -/
def Dev.toTbm (d : Dev) (due : Nat) : Dev := d.advance (d.cyclesTbm due)
def Dev.toTbs (d : Dev) (due : Nat) : Dev := d.advance (d.cyclesTbs due)
def Dev.toTbg (d : Dev) (due : Nat) : Dev := d.advance (d.cyclesTbg due)

/-- The clock of a domain is lost (R79): its STATUS bit on the CLK page. -/
def Dev.clockLost (d : Dev) (dom : Nat) : Bool := d.stat 0x001 (16 + dom)

/-- The RTC in ns (R105): the loaded value carried on by the time since. -/
def Dev.rtc (d : Dev) : Nat := d.tm.rtcNs + (d.tm.tbm - d.tm.rtcAt)

/-- A wall time: its source (0 TB-G, 1 TB-N, 2 RTC, 3 none), its value in ns, and the holdover flag (R104, R422). -/
structure Wall where
  src : Nat
  ns : Nat
  hold : Bool
  deriving DecidableEq, Repr

/-- TB-N has been set since power-on (R93). -/
def Dev.tbnSet (d : Dev) : Bool := d.stat pTIME1 17
def Dev.tbnFree (d : Dev) : Bool := d.stat pTIME1 16

/-- The wall time that records carry (R104). -/
def Dev.wall (d : Dev) : Wall :=
  let g : Wall := ⟨0, d.tbg, d.tbgState = tbgHoldoverS⟩
  let n : Wall := ⟨1, d.tbn, d.tbnFree⟩
  let r : Wall := if d.tm.rtcSrc = 0 then ⟨3, 0, false⟩ else ⟨2, d.rtc, true⟩
  let none : Wall := ⟨3, 0, false⟩
  match d.rdN Reg.TIME_WALL_SEL with
  | 0 => if d.tbgState ≠ tbgNone then g else if d.tbnSet then n else r
  | 1 => if d.tbgState ≠ tbgNone then g else none
  | _ => if d.tbnSet then n else none

/-- Words 5 to 7 of a record's header (R422). -/
def wallWords (w : Wall) : List W32 :=
  if w.src = 3 then [0, 0, w32 (2 ^ 17 + 3 * 2 ^ 18)]
  else
    let s := w.ns / 1000000000
    [w32 (w.ns % 1000000000), w32 s,
      w32 (s / 2 ^ 32 % 2 ^ 16 + (if w.hold then 2 ^ 16 else 0) + w.src * 2 ^ 18)]

/-- Source and HOLD of a wall time in one word, SRC in [1:0] and HOLD in [2]. -/
def wallKey (w : Wall) : Nat := w.src + (if w.hold then 4 else 0)

/-- Make a change and write the WALL_SRC record where it changes the wall-time source or its HOLD flag (R425, R434). -/
def Dev.withWall (d : Dev) (f : Dev → Dev) : Dev :=
  let a := d.wall
  let d' := f d
  let b := d'.wall
  if wallKey a = wallKey b then d'
  else d'.recOwn 0x3C4 ([w32 (wallKey a), w32 (wallKey b)] ++ ts80Words a.ns ++ ts80Words b.ns)

/-- The writes of another requester at the same TB-M fall in the same cycle; one requester makes one access a cycle. -/
def Dev.sameCycle (d : Dev) (req : Requester) : Nat × Requester → Bool := fun x => decide (x.1 = d.tm.tbm) && decide (x.2 ≠ req)

/-- TB-N and TBN_STEP_CNT as a capture takes them: before a step that is applied in its cycle (R95). -/
def Dev.unstepped (d : Dev) (req : Requester) : Nat × W32 :=
  match d.tm.preStep with
  | some (t, r, n, k) => if d.sameCycle req (t, r) then (n, k) else (d.tbn, d.rd Reg.TIME1_TBN_STEP_CNT)
  | none => (d.tbn, d.rd Reg.TIME1_TBN_STEP_CNT)

/-- The capture that an acknowledgement or CAP_NOW takes (R95). A cycle has one: a further write in it only puts itself into CAP_SRC, where
it comes first in R40 order. -/
def Dev.capture (d : Dev) (req : Requester) (page : Nat) : Dev :=
  let src := reqNo req * 2 ^ 24 + page
  if d.tm.capAt.any (d.sameCycle req) then
    if src / 2 ^ 24 < d.fld Reg.TIME1_CAP_SRC 25 24 then d.wrN Reg.TIME1_CAP_SRC src else d
  else
    let n := d.unstepped req
    let d := { d with tm := { d.tm with capAt := some (d.tm.tbm, req) } }
    let d := d.wr64 Reg.TIME1_CAP_TBS (d.tbs % 2 ^ 64)
    let d := d.wrTs80 Reg.TIME1_CAP_TBN_NS n.1
    let d := d.wr Reg.TIME1_CAP_STEP_CNT n.2
    let d := d.wrN Reg.TIME1_CAP_SRC src
    (d.inc Reg.TIME1_CAP_SEQ).irq pTIME1 17

end Sys2Proof.Machine
end

