-- ==== Sys2Proof/Machine/Hash.lean ====
section
/-! DEFINITION. The check sums of the spec: CRC-16 of the host link and of records (R44, R422), CRC-32 of images, tiles and
stores (R111), and SHA-256 with HMAC (R51, R53, R114, R459). -/

namespace Sys2Proof.Machine

/-- One bit of CRC-16, polynomial 0x1021, most significant bit first. -/
def crc16Bit (c : Nat) (b : Bool) : Nat :=
  let c2 := (c * 2) % 65536
  if c.testBit 15 ≠ b then c2 ^^^ 0x1021 else c2

/-- One byte of CRC-16. -/
def crc16Byte (c : Nat) (x : Byte) : Nat :=
  [7, 6, 5, 4, 3, 2, 1, 0].foldl (fun c i => crc16Bit c (x.toNat.testBit i)) c

/-- CRC-16: initial value 0xFFFF, no final inversion (R44). -/
def crc16 (bs : List Byte) : Nat := bs.foldl crc16Byte 0xFFFF

/-- CRC-16 over words, most significant bit first (R44). -/
def crc16Words (ws : List W32) : Nat := crc16 (ws.flatMap bytesBE)

/-- One byte of CRC-32, reflected. -/
def crc32Byte (c : Nat) (x : Byte) : Nat :=
  (List.range 8).foldl (fun c _ => if c % 2 = 1 then (c / 2) ^^^ 0xEDB88320 else c / 2) (c ^^^ x.toNat)

/-- CRC-32, IEEE 802.3, reflected, initial and final 0xFFFFFFFF (R111). -/
def crc32 (bs : List Byte) : Nat := (bs.foldl crc32Byte 0xFFFFFFFF) ^^^ 0xFFFFFFFF

/-- The round constants of SHA-256. -/
def shaK : List W32 := [
  0x428a2f98#32, 0x71374491#32, 0xb5c0fbcf#32, 0xe9b5dba5#32, 0x3956c25b#32, 0x59f111f1#32, 0x923f82a4#32, 0xab1c5ed5#32,
  0xd807aa98#32, 0x12835b01#32, 0x243185be#32, 0x550c7dc3#32, 0x72be5d74#32, 0x80deb1fe#32, 0x9bdc06a7#32, 0xc19bf174#32,
  0xe49b69c1#32, 0xefbe4786#32, 0x0fc19dc6#32, 0x240ca1cc#32, 0x2de92c6f#32, 0x4a7484aa#32, 0x5cb0a9dc#32, 0x76f988da#32,
  0x983e5152#32, 0xa831c66d#32, 0xb00327c8#32, 0xbf597fc7#32, 0xc6e00bf3#32, 0xd5a79147#32, 0x06ca6351#32, 0x14292967#32,
  0x27b70a85#32, 0x2e1b2138#32, 0x4d2c6dfc#32, 0x53380d13#32, 0x650a7354#32, 0x766a0abb#32, 0x81c2c92e#32, 0x92722c85#32,
  0xa2bfe8a1#32, 0xa81a664b#32, 0xc24b8b70#32, 0xc76c51a3#32, 0xd192e819#32, 0xd6990624#32, 0xf40e3585#32, 0x106aa070#32,
  0x19a4c116#32, 0x1e376c08#32, 0x2748774c#32, 0x34b0bcb5#32, 0x391c0cb3#32, 0x4ed8aa4a#32, 0x5b9cca4f#32, 0x682e6ff3#32,
  0x748f82ee#32, 0x78a5636f#32, 0x84c87814#32, 0x8cc70208#32, 0x90befffa#32, 0xa4506ceb#32, 0xbef9a3f7#32, 0xc67178f2#32]

/-- The initial hash value of SHA-256. -/
def shaInit : List W32 := [
  0x6a09e667#32, 0xbb67ae85#32, 0x3c6ef372#32, 0xa54ff53a#32, 0x510e527f#32, 0x9b05688c#32, 0x1f83d9ab#32, 0x5be0cd19#32]

/-- The message schedule of a block: the words so far, newest first, carried on by `n` words. -/
def shaSchedule : Nat → List W32 → List W32
  | 0, ws => ws
  | n + 1, ws =>
    let g (i : Nat) : W32 := ws.getD i 0
    let s0 := (g 14).rotateRight 7 ^^^ (g 14).rotateRight 18 ^^^ (g 14 >>> 3)
    let s1 := (g 1).rotateRight 17 ^^^ (g 1).rotateRight 19 ^^^ (g 1 >>> 10)
    shaSchedule n ((g 15 + s0 + g 6 + s1) :: ws)

/-- One round of SHA-256 on the working variables `a` to `h`. -/
def shaRound (v : List W32) (kw : W32 × W32) : List W32 :=
  match v with
  | [a, b, c, d, e, f, g, h] =>
    let s1 := e.rotateRight 6 ^^^ e.rotateRight 11 ^^^ e.rotateRight 25
    let ch := (e &&& f) ^^^ (~~~e &&& g)
    let t1 := h + s1 + ch + kw.1 + kw.2
    let s0 := a.rotateRight 2 ^^^ a.rotateRight 13 ^^^ a.rotateRight 22
    let mj := (a &&& b) ^^^ (a &&& c) ^^^ (b &&& c)
    [t1 + s0 + mj, a, b, c, d + t1, e, f, g]
  | v => v

/-- One block of SHA-256, given as sixteen words. -/
def shaBlock (h : List W32) (block : List W32) : List W32 :=
  let ws := (shaSchedule 48 block.reverse).reverse
  let v := (shaK.zip ws).foldl shaRound h
  List.zipWith (· + ·) h v

/-- Blocks of sixteen words, one after another; `n` bounds their number. -/
def shaBlocks : Nat → List W32 → List W32 → List W32
  | 0, h, _ => h
  | n + 1, h, ws => if ws.isEmpty then h else shaBlocks n (shaBlock h (ws.take 16)) (ws.drop 16)

/-- A message padded to whole blocks. -/
def shaPad (bs : List Byte) : List Byte :=
  let l := bs.length
  bs ++ [0x80#8] ++ List.replicate ((119 - l % 64) % 64) 0#8 ++ natBE 8 (8 * l)

/-- SHA-256 as eight words. -/
def sha256 (bs : List Byte) : List W32 :=
  let ws := wordsBE (shaPad bs)
  shaBlocks (ws.length / 16 + 1) shaInit ws

/-- SHA-256 as 32 bytes. -/
def sha256Bytes (bs : List Byte) : List Byte := (sha256 bs).flatMap bytesBE

/-- HMAC-SHA-256 (R51). -/
def hmacSha256 (key msg : List Byte) : List Byte :=
  let k := if key.length > 64 then sha256Bytes key else key
  let k := k ++ List.replicate (64 - k.length) 0#8
  sha256Bytes (k.map (· ^^^ 0x5C#8) ++ sha256Bytes (k.map (· ^^^ 0x36#8) ++ msg))

end Sys2Proof.Machine
end

