-- ==== Sys2Proof/Machine/Attest.lean ====
section
/-! DEFINITION. Measured start and attestation (chapter 19): the measurement registers, the blob and the extensions, the signed report,
its confirmation and the ARM policy. -/

namespace Sys2Proof.Machine

def pATT : Nat := 0x004
def pWDG : Nat := 0x0B0

/-! Measurements (R459, R464) -/

/-- A measurement register. -/
def Dev.meas (d : Dev) (k : Nat) : List W32 := (List.range 8).map (fun i => d.rd (Reg.ATT_MEAS (8 * k + i)))

/-- Write a measurement register. A change counts in MEAS_GEN and ends the confirmation (R464, R468). -/
def Dev.setMeas (d : Dev) (k : Nat) (h : List W32) : Dev :=
  if d.meas k = h then d
  else
    let d := (h.take 8).zipIdx.foldl (fun d (p : W32 × Nat) => d.wr (Reg.ATT_MEAS (8 * k + p.2)) p.1) d
    (d.inc Reg.ATT_MEAS_GEN).setStat pATT 16 false

/-- MP_STATE (R420). -/
def mpRUN : Nat := 0
def mpRESTARTING : Nat := 1
def mpHALTED : Nat := 2
def Dev.mpState (d : Dev) : Nat := d.fld Reg.WDG_MP_STATE 1 0

/-- MEASURED_START_STAGE (R459, R460): a stage's image is measured before it runs; one that cannot be run ends the chain. -/
def execMeasuredStartStage (stage : Fin 4) (image : List Byte) (valid : Bool) (s : State) : Host.Outcome State Fault Refusal :=
  .next (onDev (fun d =>
    if stage.val = d.att.boot then
      let d := d.setMeas stage.val (sha256 image)
      if valid ∨ stage.val = 0 then
        { d with att := { d.att with boot := d.att.boot + 1 }, sup := { d.sup with mpAt := d.tm.tbm } }
      else ({ d.wrN Reg.WDG_MP_STATE mpHALTED with att := { d.att with boot := 4 } }).faultRec pATT 16
    else d) s)

/-! The OEM blob and the extensions (R462, R463) -/

def Dev.blobOpen (d : Dev) : Bool := d.stat pATT 18
def Dev.setBlob (d : Dev) (isOpen : Bool) (ws : List W32) : Dev :=
  { d.setStat pATT 18 isOpen with att := { d.att with blob := ws } }

/-- The bytes of a blob of `n` words that BLOB_LEN_SET keeps: the last word's bytes beyond it are ignored. -/
def blobBytes (len : Nat) (ws : List W32) : List Byte :=
  let n := ws.length
  (ws.flatMap bytesBE).take (if 4 * (n - 1) < len then len else 4 * (n - 1))

/-- BLOB_CMD: 1 opens, 2 finishes and measures. -/
def actBlobCmd (v : W32) : Act := fun s =>
  let d := s.dev
  if v = 1#32 then
    actIf Reg.ATT_BLOB_CMD (fun d => !d.blobOpen && !d.att.blobDone) (·.setBlob true []) s
  else if d.blobOpen then
    (.ok, onDev (fun d =>
      let h := sha256 (blobBytes (d.rdN Reg.ATT_BLOB_LEN_SET) d.att.blob.reverse)
      let d := (d.setBlob false []).setMeas 5 h
      { d with att := { d.att with blobDone := true } }) s)
  else (.len, onDev (·.lenReject pATT) s)

/-- BLOB_PORT: a word of the open blob; one that would carry it beyond 2^32 - 1 bytes, those beyond BLOB_LEN_SET not counted, discards the blob. -/
def actBlobPort (v : W32) : Act := fun s =>
  if !s.dev.blobOpen then (.len, onDev (·.lenReject pATT) s)
  else if 4 * s.dev.att.blob.length > 2 ^ 32 - 1 then (.len, onDev (fun d => (d.setBlob false []).lenReject pATT) s)
  else (.ok, onDev (fun d => d.setBlob true (v :: d.att.blob)) s)

def execBlobOpen (req : Requester) (s : State) : Host.Outcome State Fault Refusal :=
  .next (hostCmd req Reg.ATT_BLOB_CMD 1#32 (actBlobCmd 1#32) s)
def execBlobWrite (req : Requester) (data : List W32) (s : State) : Host.Outcome State Fault Refusal :=
  .next (hostBurst req Reg.ATT_BLOB_PORT data (burstWords actBlobPort) s)
def execBlobFinish (req : Requester) (s : State) : Host.Outcome State Fault Refusal :=
  .next (hostCmd req Reg.ATT_BLOB_CMD 2#32 (actBlobCmd 2#32) s)

/-- EXT_CMD: MEASk becomes the SHA-256 of itself and the extension words (R463). -/
def actExtend (v : W32) : Act := actDev (fun d =>
  let k := v.toNat
  let ext := (List.range 8).map (fun i => d.rd (Reg.ATT_EXT_W i))
  let lo := if k = 6 then 0 else 16
  let n := d.fld Reg.ATT_EXT_CNT (lo + 15) lo
  (d.setMeas k (sha256 ((d.meas k ++ ext).flatMap bytesBE))).setFld Reg.ATT_EXT_CNT (lo + 15) lo (min (n + 1) 0xFFFF))

def execMeasExtend (req : Requester) (which : Nat) (s : State) : Host.Outcome State Fault Refusal :=
  .next (hostCmd req Reg.ATT_EXT_CMD (w32 which) (actExtend (w32 which)) s)

/-! Reports (R465, R466) -/

/-- The fields of a report that are taken at its request: bytes 20 to 331. -/
def Dev.reportBody (d : Dev) : List Byte :=
  natBE 8 d.tm.tbm
  ++ [BitVec.ofNat 8 (d.fld Reg.SYS_RESET_CAUSE 3 0), BitVec.ofNat 8 (d.rdN Reg.ATT_ARM_POLICY), BitVec.ofNat 8 (d.rdN Reg.SYS_OUT_STATE), 0]
  ++ bytesBE (d.rd Reg.ATT_MEAS_GEN) ++ bytesBE (d.rd Reg.ATT_EXT_CNT) ++ bytesBE (d.rd Reg.IMP_ACTIVE_SERIAL)
  ++ (List.range 8).flatMap (fun i => bytesBE (d.rd (Reg.ATT_NONCE_W i)))
  ++ (List.range 64).flatMap (fun i => bytesBE (d.rd (Reg.ATT_MEAS i)))

/-- A whole report: header, the fields of its request, the signature, and the two certificates with their lengths. -/
def reportBytes (serial seq : Nat) (body : List Byte) : List Byte :=
  let signed := [0x41, 0x54, 0x54, 0x31, 0x00, 0x01, 0x00, 0x00] ++ natBE 8 serial ++ natBE 4 seq ++ body
  let cert (k : Nat) : List Byte := natBE 2 (Config.certificate k).length ++ Config.certificate k
  signed ++ natBE 64 (Config.reportSignature signed).toNat ++ natBE 2 2 ++ cert 0 ++ cert 1

/-- ATT_RESULT, and the interrupt that reports it. -/
def Dev.attResult (d : Dev) (code : Nat) : Dev := ((d.wrN Reg.ATT_ATT_RESULT code).setStat pATT 17 false).irq pATT 16

/-- ATT_CMD: request a report. Without a running MP it ends at once. -/
def actAttCmd : Act := actIf Reg.ATT_ATT_CMD (fun d => !d.stat pATT 17) (fun d =>
  if d.mpState ≠ mpRUN then d.attResult 1
  else
    let r := (d.reportBody, d.rdN Reg.ATT_MEAS_GEN)
    { d.setStat pATT 17 true with att := { d.att with req := some r } })

def execReportRequest (req : Requester) (s : State) : Host.Outcome State Fault Refusal :=
  .next (hostCmd req Reg.ATT_ATT_CMD 1#32 actAttCmd s)

/-- The request that runs ends in a report, or without the identity key in result KEY. -/
def Dev.reportDone (d : Dev) (keyOk : Bool) : Dev :=
  match d.att.req with
  | none => d
  | some (body, gen) =>
    let d := { d with att := { d.att with req := none } }
    if keyOk then
      let d := d.inc Reg.ATT_REPORT_SEQ
      let seq := d.rdN Reg.ATT_REPORT_SEQ
      let bytes := reportBytes (d.rd64 Reg.SYS_DEV_SERIAL) seq body
      let d := { d with att := { d.att with report := bytes, pos := 0, issued := d.att.issued ++ [(seq, gen)] } }
      (d.wrN Reg.ATT_ATT_LEN bytes.length).attResult 0
    else d.attResult 2

def execReportReady (keyOk : Bool) (s : State) : Host.Outcome State Fault Refusal := .next (onDev (·.reportDone keyOk) s)

/-- An MP restart ends a request that runs (R465). -/
def Dev.reportAbandoned (d : Dev) : Dev :=
  if d.att.req.isSome then ({ d with att := { d.att with req := none } }).attResult 1 else d

/-- ATT_PORT. -/
def portAtt : PortAct := portDev (fun n d =>
  let ws := takeWords n ((wordsBE d.att.report).drop d.att.pos)
  (ws, { d with att := { d.att with pos := d.att.pos + ws.length } }))

def execReportRead (req : Requester) (words : Nat) (s : State) : Host.Outcome State Fault Refusal :=
  .next (hostPort req Reg.ATT_ATT_PORT words portAtt s)

/-! Confirmation and policy (R467, R468) -/

/-- ATT_CONFIRM: the report was issued since the reset and its MEAS_GEN is current. -/
def actAttConfirm (v : W32) : Act := actIf Reg.ATT_ATT_CONFIRM
  (fun d => d.att.issued.any (fun (p : Nat × Nat) => p.1 = v.toNat && p.2 = d.rdN Reg.ATT_MEAS_GEN))
  (·.setStat pATT 16 true)

def execAttConfirm (req : Requester) (data : W32) (s : State) : Host.Outcome State Fault Refusal :=
  .next (hostCmd req Reg.ATT_ATT_CONFIRM data (actAttConfirm data) s)

/-- POLICY_SET: with its key it stores the policy of the next controller reset. -/
def actPolicySet (v : W32) : Act := actDev (fun d =>
  if field v 31 16 = 0x504C then (d.wrN Reg.ATT_ARM_POLICY_NEXT (field v 0 0)).recOther pATT else d)

def execPolicySet (req : Requester) (data : W32) (s : State) : Host.Outcome State Fault Refusal :=
  .next (hostCmd req Reg.ATT_POLICY_SET data (actPolicySet data) s)

end Sys2Proof.Machine
end

