-- ==== Sys2Proof/Machine/DriveOps.lean ====
section
/-! DEFINITION. The shared operations of the output stages (chapters 11 and 12): channels, banks, rails and tiles, their fault
states, starting and ending an actuation, and what each of these tells the booking of chapter 14. -/

namespace Sys2Proof.Machine

/-- TB-S in ticks of 4 ns (R251). -/
def Dev.tick (d : Dev) : Nat :=
  let t := d.tm.tbsP / (4 * pU)
  if d.drv.edgeT ≤ t ∧ t ≤ d.drv.edgeT + 2 then d.drv.edgeT else t

/-- Move the clock to a tick of TB-S that lies ahead. -/
def Dev.toTick (d : Dev) (t : Nat) : Dev := d.toTbs (4 * t)

/-- Ticks in a microsecond. -/
def tUs : Nat := 250

/-! Access -/

def Dev.chan (d : Dev) (c : Nat) : Chan := sget (fun _ => {}) d.drv.ch c
def Dev.setChan (d : Dev) (c : Nat) (x : Chan) : Dev := { d with drv := { d.drv with ch := sset (fun _ => {}) d.drv.ch c x } }
def Dev.modChan (d : Dev) (c : Nat) (f : Chan → Chan) : Dev := d.setChan c (f (d.chan c))
def Dev.bank (d : Dev) (b : Nat) : Bank := sget (fun _ => {}) d.drv.bank b
def Dev.modBank (d : Dev) (b : Nat) (f : Bank → Bank) : Dev :=
  { d with drv := { d.drv with bank := sset (fun _ => {}) d.drv.bank b (f (d.bank b)) } }
def Dev.rail (d : Dev) (k : Nat) : Rail := sget (fun _ => {}) d.drv.rail k
def Dev.modRail (d : Dev) (k : Nat) (f : Rail → Rail) : Dev :=
  { d with drv := { d.drv with rail := sset (fun _ => {}) d.drv.rail k (f (d.rail k)) } }
def Dev.tile (d : Dev) (t : Nat) : Tile := sget (fun _ => {}) d.drv.tile t
def Dev.modTile (d : Dev) (t : Nat) (f : Tile → Tile) : Dev :=
  { d with drv := { d.drv with tile := sset (fun _ => {}) d.drv.tile t (f (d.tile t)) } }

/-- A bank current seen: the peak registers of R306 and R309. -/
def Dev.bankPeak (d : Dev) (b mA : Nat) : Dev := (d.peak (Reg.BK_BK_I_MAX b) mA).modBank b (fun x => { x with peakMA := max x.peakMA mA })

/-- Pages of the output stages. -/
def pDT (t : Nat) : Nat := 0x030 + t
def pBK (b : Nat) : Nat := 0x038 + b
def pVB : Nat := 0x078

/-- The channels of a bank and of a tile. -/
def bankChans (b : Nat) : List Nat := (List.range 8).map (8 * b + ·)
def tileChans (t : Nat) : List Nat := (List.range 64).map (64 * t + ·)

/-- Modes of a channel (R305). -/
def mOFF : Nat := 0
def mVALVE : Nat := 1
def mPWMNOZ : Nat := 2
def mSWITCH : Nat := 3
def mMETER : Nat := 4
def Dev.mode (d : Dev) (c : Nat) : Nat := d.fld (Reg.CH_CFG c) 2 0
def Dev.profiled (d : Dev) (c : Nat) : Bool := d.mode c = mVALVE || d.mode c = mPWMNOZ
def Dev.metered (d : Dev) (c : Nat) : Bool := d.profiled c || d.mode c = mMETER

/-- Phases of a channel (CH_STAT, R305). -/
def phOFF : Nat := 0
def phWAIT : Nat := 1
def phBOOST : Nat := 2
def phPEAK : Nat := 3
def phHOLD : Nat := 4
def phDECAY : Nat := 5
def phSWITCHED : Nat := 6
def phFAULT : Nat := 7

/-- The low side is closed. -/
def phaseOn (p : Nat) : Bool := p = phBOOST || p = phPEAK || p = phHOLD || p = phSWITCHED
def Dev.isOn (d : Dev) (c : Nat) : Bool := phaseOn (d.chan c).phase

/-- Fields of the descriptor (R305), in ticks where they are times. -/
def Dev.boostEn (d : Dev) (c : Nat) : Bool := d.bit (Reg.CH_CFG c) 3
def Dev.tPeakT (d : Dev) (c : Nat) : Nat := d.fld (Reg.CH_PEAK c) 31 18 * 10 * tUs
def Dev.tBoostMaxT (d : Dev) (c : Nat) : Nat := min (d.fld (Reg.CH_PEAK c) 17 8 * 4) 2000 * tUs
def Dev.tMinOffT (d : Dev) (c : Nat) : Nat := d.fld (Reg.CH_HOLD c) 31 16 * tUs
def Dev.ttpMaxT (d : Dev) (c : Nat) : Nat := d.fld (Reg.CH_TTP c) 31 16 * tUs
def Dev.ttpMinT (d : Dev) (c : Nat) : Nat := d.fld (Reg.CH_TTP c) 15 0 * tUs
def Dev.maxOnT (d : Dev) (c : Nat) : Nat := d.fld (Reg.CH_LIMITS c) 15 0 * 100000 * tUs
def Dev.inrushT (d : Dev) (c : Nat) : Nat := d.fld (Reg.CH_MODEPAR c) 15 8 * 1000 * tUs
def Dev.inrushLim (d : Dev) (c : Nat) : Nat := d.fld (Reg.CH_MODEPAR c) 7 0 * 50
def Dev.lossHoldT (d : Dev) (c : Nat) : Nat := d.fld (Reg.CH_MODEPAR c) 23 16 * 10000 * tUs

/-! Booking -/

/-- A delivered interval begins, or ends. -/
def Book.openAt (b : Book) (t : Nat) : Book :=
  if b.dels.any (·.2.isNone) then b else { b with dels := b.dels ++ [(t, none)] }
def Book.closeAt (b : Book) (t : Nat) : Book :=
  { b with dels := b.dels.map (fun p => if p.2.isNone then (p.1, some (max t p.1)) else p) }

/-- From a tick on, undelivered requested time goes to an account, or stays in flight. -/
def Book.mark (b : Book) (t : Nat) (a : Option Account) : Book := { b with marks := b.marks ++ [(t, a)] }

/-- The account of undelivered requested time at a tick: that of the latest mark. -/
def Book.accountAt (b : Book) (t : Nat) : Option Account :=
  ((b.marks.foldl (fun (best : Nat × Option Account) m => if m.1 ≤ t ∧ best.1 ≤ m.1 then m else best) (0, none))).2

/-- The time in flight is settled: the named parts first, the rest to one account (R351). -/
def Book.settle (b : Book) (t : Nat) (parts : List (Account × Nat)) (rest : Account) : Book :=
  { b with settles := b.settles ++ [(t, parts, rest)] }

/-- A request begins, or every open request ends (R350). -/
def Book.request (b : Book) (t : Nat) : Book :=
  if b.runs.any (·.2.isNone) then b else { b with runs := b.runs ++ [(t, none)] }
def Book.release (b : Book) (t : Nat) : Book :=
  { b with runs := b.runs.filterMap (fun p => match p.2 with
      | some e => some (p.1, some (min e t)) | none => if t ≤ p.1 then none else some (p.1, some t)) }

/-- A fault state or other outage begins (R353): what was in flight goes to the cause that held it back, and what was to hold later
no longer does. -/
def Book.outage (b : Book) (t : Nat) (a : Account) : Book :=
  let b := (b.closeAt t).settle t [] b.held
  { b with marks := b.marks.filter (fun m => m.1 ≤ t) ++ [(t, some a)] }

/-- Delivery begins: what was in flight is settled, but for a pulse moved whole (R344), and nothing is held back any more. -/
def Book.start (b : Book) (t : Nat) (parts : List (Account × Nat)) : Book :=
  (((if b.moved then b else b.settle t parts b.held)).mark t none).openAt t

/-! Fault states (R302) -/

/-- The value of a fault record: which cause. -/
def causeWord (cause : Nat) : List W32 := [w32 cause]

/-- Set the CHF fault bit of a channel, its interrupt and its record (R310). -/
def Dev.chfEvent (d : Dev) (c cause : Nat) : Dev :=
  ((d.fault (pBK (c / 8)) (16 + c % 8)).irq (pBK (c / 8)) 16).recFault (pBK (c / 8)) (16 + c % 8) (causeWord cause) objIsChannel c

/-- A channel's diagnostics are enabled (R301). -/
def Dev.diagOn (d : Dev) (c : Nat) : Bool := d.bit (Reg.FAULT_EN (pBK (c / 8))) (16 + c % 8)

/-- The channel's own part of entering its fault state: low side open, waiting and timers dropped. -/
def Chan.toFault (x : Chan) (t cause : Nat) : Chan :=
  { x with phase := phFAULT, cause := cause, waitAt := none, waitEnd := none, waitEdge := none, onTimer := none,
           winEnd := none, lossEnd := none, commanded := false, sortEdge := none, merged := true, closed := true,
           tOff := if phaseOn x.phase then some t else x.tOff,
           fr := { x.fr with flags := x.fr.flags ||| 8 }, book := x.book.outage t .fault }

/-- A channel enters its fault state (R302). -/
def Dev.chanFault (d : Dev) (c cause : Nat) : Dev :=
  if (d.chan c).phase = phFAULT then d
  else (d.modChan c (·.toFault d.tick cause)).chfEvent c cause

/-- Cause codes (R310, R316). -/
def cSHORT : Nat := 1
def cFREEWHEEL : Nat := 2
def cTTPLOW : Nat := 3
def cTTPHIGH : Nat := 4
def cOPENON : Nat := 5
def cOPENOFF : Nat := 6
def cREADBACK : Nat := 7
def cQUEUE : Nat := 8
def cBANK : Nat := 9
def cTILE : Nat := 10
def cINRUSH : Nat := 11
def cOVERLOAD : Nat := 12
def cSORT : Nat := 13

/-- A channel held in its fault state by its bank or tile: the cause replaces its own. -/
def Dev.chanHeldBy (d : Dev) (c cause : Nat) : Dev :=
  let was := (d.chan c).phase = phFAULT
  let d := d.modChan c (·.toFault d.tick cause)
  if was then d else (d.fault (pBK (c / 8)) (16 + c % 8)).irq (pBK (c / 8)) 16

/-- A bank enters its fault state: both high-side switches open, all eight channels held with cause BANK (R302). -/
def Dev.bankFault (d : Dev) (b : Nat) : Dev :=
  let d := d.modBank b (fun x => { x with fault := true, sort := none, reclose := none, resume := [] })
  let d := (d.setStat (pBK b) 16 true).setStat (pBK b) 17 false
  (bankChans b).foldl (fun d c => d.chanHeldBy c cBANK) d

/-- A tile enters its fault state: all 64 channels off (R302). -/
def Dev.tileFault (d : Dev) (t : Nat) : Dev :=
  let d := (d.modTile t (fun x => { x with fault := true })).setStat (pDT t) 16 true
  (tileChans t).foldl (fun d c => d.chanHeldBy c cTILE) d

/-- A fault state ends: the channel is off until its next ON (R302). -/
def Chan.cleared (x : Chan) : Chan := { x with phase := phOFF, cause := 0 }

/-- CHF_CLR bits act at the turn: own causes one by one, bit 8 the bank with every channel it holds (R302). -/
def Dev.applyBankClear (d : Dev) (b : Nat) : Dev :=
  let m := (d.bank b).clr
  if m = 0 then d else
  let d := (bankChans b).foldl (fun d c =>
    let x := d.chan c
    if x.phase = phFAULT ∧ m.testBit (c % 8) = true ∧ x.cause ≠ cBANK ∧ x.cause ≠ cTILE then d.modChan c Chan.cleared
    else if x.phase = phFAULT ∧ m.testBit 8 = true ∧ x.cause = cBANK then
      d.modChan c (if (d.tile (c / 64)).fault then fun x => { x with cause := cTILE } else Chan.cleared)
    else d) d
  let d := if m.testBit 8 then (d.modBank b (fun x => { x with fault := false })).setStat (pBK b) 16 false else d
  d.modBank b (fun x => { x with clr := 0 })

/-- TILE_CLR acts at the turn (R302); a channel whose bank stands in its fault state stays held by the bank. -/
def Dev.applyTileClear (d : Dev) (t : Nat) : Dev :=
  if (d.tile t).clr then
    let d := (d.modTile t (fun x => { x with fault := false, clr := false })).setStat (pDT t) 16 false
    (tileChans t).foldl (fun d c => 
      if (d.chan c).cause = cTILE then
        d.modChan c (if (d.bank (c / 8)).fault then fun x => { x with cause := cBANK } else Chan.cleared)
      else d) d
  else d

/-! Starting and ending an actuation -/

/-- Rail of a channel, and whether it is READY (R300). -/
def railOf (c : Nat) : Nat := c / 128
def Dev.railState (d : Dev) (k : Nat) : Nat := d.fld (Reg.VB_RAIL_STATE k) 2 0
def Dev.railReadyNow (d : Dev) (k : Nat) : Bool := d.railState k = 2

/-- A start is forbidden while the bank is occupied (R289). -/
def Dev.startForbidden (d : Dev) (c : Nat) (boost : Bool) : Bool :=
  (bankChans (c / 8)).any (fun o => o ≠ c && ((d.chan o).phase = phBOOST || (boost && (d.chan o).phase = phPEAK)))

/-- A MAX_ON timer that runs from `t` where the channel has a limit (R295). -/
def Dev.maxOnFrom (d : Dev) (c t : Nat) : Option Nat := if d.maxOnT c = 0 then none else some t

/-- The profile starts now: BOOST or PEAK (R286), with delivery from this tick on. -/
def Dev.startProfile (d : Dev) (c : Nat) (e : Edge) (boost degraded : Bool) : Dev :=
  let t := d.tick
  let timer := d.maxOnFrom c t
  let d := d.modChan c (fun x => { x with
    phase := if boost then phBOOST else phPEAK, boost := boost, tOn := t, tPeak := none, tHold := none, tDecayed := none,
    waitAt := none, waitEnd := none, waitEdge := none, expired := false, merged := false, degraded := degraded,
    onTimer := timer, rho := e.rho, sigOnDone := false, sigOffDone := true,
    fr := { x.fr with flags := if degraded then x.fr.flags ||| 16 else x.fr.flags },
    book := x.book.start t e.shift })
  if boost then (d.inc (Reg.BK_BOOST_CNT (c / 8))).modBank (c / 8) (fun x => { x with boosts := x.boosts + 1 }) else d

/-- An actuation that never executes; its requested time goes to an account until it is asked for again (R353). -/
def Dev.dropStart (d : Dev) (c : Nat) (a : Account) : Dev :=
  let t := d.tick
  d.modChan c (fun x => { x with phase := phOFF, waitAt := none, waitEnd := none, waitEdge := none, expired := false,
                                 book := (x.book.settle t [] a).mark t (some a) })

/-- A start that R289 allows: without boost, or with it where the rail is READY; otherwise NR_POLICY (R300). -/
def Dev.beginStart (d : Dev) (c : Nat) (e : Edge) (boost degraded : Bool) : Dev :=
  if boost && !d.railReadyNow (railOf c) then
    let d := d.modBank (c / 8) (fun x => { x with notReady := true })
    if d.bit (Reg.VB_RAIL_CTRL (railOf c)) 1 then
      (d.dropStart c .budget).recOther (pBK (c / 8)) [] objIsChannel c
    else (d.startProfile c e false true).recOther (pBK (c / 8)) [] objIsChannel c
  else d.startProfile c e boost degraded

/-- A forbidden start waits, with the late slack its edge carries, at most 65,535 µs (R289). -/
def Dev.enterWait (d : Dev) (c : Nat) (e : Edge) : Dev :=
  let t := d.tick
  let d := d.modChan c (fun x => { x with
    phase := phWAIT, waitAt := some e.t, waitEnd := some (t + min e.slack 65535 * tUs), waitEdge := some e, expired := false,
    rho := e.rho, book := { (x.book.mark t none) with held := .overlap } })
  ((d.inc (Reg.BK_OVL_DEFER (c / 8))).modBank (c / 8) (fun x => { x with waits := x.waits + 1 })).recOther (pBK (c / 8)) [] objIsChannel c

/-- A waiter of the bank may start at this instant (R289, R290): it starts before any later edge. -/
def Dev.waiterDue (d : Dev) (c : Nat) : Bool :=
  (bankChans (c / 8)).any (fun o => o ≠ c && (match (d.chan o).waitEdge with
    | some e => (d.chan o).phase = phWAIT
        && !d.startForbidden o (d.boostEn o && !e.degraded && !(d.chan o).expired && (d.bank (c / 8)).sort.isNone)
    | none => false))

/-- A start of a VALVE or PWMNOZ channel (R286, R289). In a bank whose battery switch is open no boost starts. -/
def Dev.tryStart (d : Dev) (c : Nat) (e : Edge) : Dev :=
  let bk := d.bank (c / 8)
  let boost := d.boostEn c && !e.degraded && bk.sort.isNone && bk.reclose.isNone
  if d.startForbidden c boost || d.waiterDue c then d.enterWait c e
  else d.beginStart c e boost (e.degraded || (d.boostEn c && !boost))

/-- The low side opens: an actuation goes to DECAY, a switched channel to OFF, a waiting one to nothing. In BOOST the low side
opens 1 µs after the boost switch (R288). -/
def Dev.lowSideOff (d : Dev) (c : Nat) : Dev :=
  let t := d.tick
  d.modChan c (fun x =>
    let stop := if x.phase = phBOOST then t + tUs else t
    if x.phase = phWAIT then
      { x with phase := phOFF, waitAt := none, waitEnd := none, waitEdge := none, expired := false,
               book := x.book.settle t [] .overlap }
    else if x.phase = phBOOST ∨ x.phase = phPEAK ∨ x.phase = phHOLD then
      { x with phase := phDECAY, tOff := some t, onTimer := none, runEnd := none, lossEnd := none,
               sigOffDone := x.phase ≠ phHOLD && x.merged, book := x.book.closeAt stop }
    else if x.phase = phSWITCHED then
      { x with phase := phOFF, tOff := some t, onTimer := none, winEnd := none, lossEnd := none, runEnd := none,
               book := x.book.closeAt t }
    else x)

/-- A SWITCH or METER channel closes (R313, R294); the inrush window starts on a SWITCH channel that has one (R314). -/
def Dev.switchOn (d : Dev) (c : Nat) : Dev :=
  let t := d.tick
  let timer := d.maxOnFrom c t
  let win := if d.mode c = mSWITCH ∧ d.inrushT c ≠ 0 then some (t + d.inrushT c) else none
  let lim := d.inrushLim c
  let switched := d.mode c = mSWITCH
  d.modChan c (fun x => { x with phase := phSWITCHED, tOn := t, onTimer := timer, winEnd := win, winLim := lim, closed := false
                                 book := if switched then x.book.openAt t else x.book })

/-- Put an edge in its place in a queue: after every edge that is not later. -/
def insertEdge : List Edge → Edge → List Edge
  | [], e => [e]
  | x :: r, e => if e.t < x.t then e :: x :: r else x :: insertEdge r e

/-- Place an edge in a channel's queue, with the deepest level the tile has seen (Q_PEAK). -/
def Dev.queueEdge (d : Dev) (c : Nat) (e : Edge) : Dev :=
  let d := d.modChan c (fun x => { x with queue := insertEdge x.queue e })
  d.peak (Reg.DT_Q_PEAK (c / 64)) (d.chan c).queue.length

/-- A channel's INHIBIT bit (R270). -/
def Dev.inhibited (d : Dev) (c : Nat) : Bool := d.mapBit (Reg.EDS_INHIBIT 0) c

/-- Turn a metered channel off with no new boost and discard its edges (R78, R129, R412): undelivered requested time goes to an
account from now on. A METER channel, which no edge reopens, is off for as long as the cause stands (`Dev.meterShut`). -/
def Dev.closeMetered (d : Dev) (c : Nat) (a : Account) : Dev :=
  let d := d.lowSideOff c
  let t := d.tick
  let shut := d.mode c ≠ mMETER
  d.modChan c (fun x => { x with
    queue := [], next := [], commanded := false, closed := x.closed || shut, sortEdge := none, book := x.book.outage t a })

/-- The loss policy of a SWITCH channel (R325): open now, or hold its state for LOSS_HOLD. While its bank sorts, it applies when SORT has
completed (R327). -/
def Dev.lossPolicy (d : Dev) (c : Nat) : Dev :=
  if (d.chan c).phase = phSWITCHED ∧ (d.bank (c / 8)).sort = none then
    if d.bit (Reg.CH_CFG c) 4 then
      let t := d.tick + d.lossHoldT c
      d.modChan c (fun x => { x with lossEnd := some t })
    else d.lowSideOff c
  else d

/-- All channels, banks, rails and tiles. -/
def allChans : List Nat := List.range 512
def allBanks : List Nat := List.range 64

/-- Channels that an output-wide action has anything to do on: those with a mode and those whose state is not idle. -/
def Dev.busyChans (d : Dev) : List Nat := d.drv.ch.map (·.1)

/-- Channels whose mode is not OFF, in channel order. -/
def Dev.activeChans (d : Dev) : List Nat :=
  ((d.regs.filter (fun p => 0x01000000 ≤ p.1 && p.1 < 0x01008000 && p.1 % 64 = 0)).map (fun p => (p.1 - 0x01000000) / 64)).filter (fun c => d.mode c ≠ mOFF)

/-- A safe close (R78): metered channels off, SWITCH channels by their LOSS policy; what is lost is DEF_FAULT. -/
def Dev.closeAll (d : Dev) (a : Account) : Dev :=
  d.busyChans.foldl (fun d c =>
    if d.mode c = mSWITCH then d.lossPolicy c else if (d.chan c).phase = phFAULT then d else d.closeMetered c a) d

/-- A safe-state action on a metered channel (R129, R257): off at once, requests ended, queued edges cancelled, one count
and one record where it cancels something (R353). -/
def Dev.safeChan (d : Dev) (c : Nat) : Dev :=
  let x := d.chan c
  if d.metered c && (phaseOn x.phase || x.phase = phWAIT || !x.queue.isEmpty || !x.next.isEmpty) then
    let d := d.lowSideOff c
    let t := d.tick
    let d := d.modChan c (fun x => { x with queue := [], next := [], closed := true, book := (x.book.settle t [] x.book.held).release t })
    (d.inc Reg.LDG_SAFE_CNT).recOther 0x025 [] objIsChannel c
  else if d.profiled c then
    let t := d.tick
    d.modChan c (fun x => { x with closed := true, book := x.book.release t })
  else if d.mode c = mMETER then d.modChan c (fun x => { x with closed := true })
  else d

/-- The METER channels. -/
def Dev.meterChans (d : Dev) : List Nat := d.activeChans.filter (fun c => d.mode c = mMETER)

/-- A safe-state action on every metered channel. -/
def Dev.safeState (d : Dev) : Dev := ((d.busyChans ++ d.meterChans).foldl setInsert []).foldl (fun d c => d.safeChan c) d

/-! Rails (R299, R300) -/

/-- Set a rail's state; a change of READY moves STATUS and IRQ_RAW (R312). -/
def Dev.setRail (d : Dev) (k st : Nat) : Dev :=
  let was := d.railReadyNow k
  let d := d.setFld (Reg.VB_RAIL_STATE k) 2 0 st
  if was = d.railReadyNow k then d else (d.setStat pVB (16 + k) (st = 2)).irq pVB (16 + k)

/-- A rail is enabled while the output path is armed (R415) and its RAIL_EN is 1. -/
def Dev.railWanted (d : Dev) (k : Nat) : Bool := d.bit Reg.SYS_OUT_STATE 0 && d.bit (Reg.VB_RAIL_CTRL k) 0 && !d.drv.vbatLow && !d.clockLost 4

/-- Bring each rail's OFF or CHARGING in line with whether it is wanted (R300, R415). -/
def Dev.railUpdate (d : Dev) : Dev :=
  [0, 1, 2, 3].foldl (fun d k =>
    if d.railWanted k && d.railState k = 0 then
      (d.setRail k 1).modRail k (fun r => { r with chargeFrom := some d.tm.tbm })
    else if !d.railWanted k && d.railState k ≠ 0 && d.railState k ≠ 4 then d.setRail k 0
    else d) d

end Sys2Proof.Machine
end

