-- ==== Sys2Proof/Machine/Float.lean ====
section
/-! DEFINITION. IEEE 754 binary32 arithmetic on register words (R377): every operation exact and then rounded once to nearest, ties
to even; subnormals kept; no fused operation. -/

namespace Sys2Proof.Machine

/-- The words of 0, 1, 1/2, 2, infinity and the NaN that an invalid operation gives. -/
def f0 : W32 := 0#32
def f1 : W32 := 0x3F800000#32
def fHalf : W32 := 0x3F000000#32
def f2 : W32 := 0x40000000#32
def fInf : W32 := 0x7F800000#32
def fNaN : W32 := 0x7FC00000#32

/-- Sign, exponent field and fraction of a word. -/
def fSign (a : W32) : Bool := bitOf a 31
def fExp (a : W32) : Nat := field a 30 23
def fFrac (a : W32) : Nat := field a 22 0

/-- Kinds of value. -/
def fIsNaN (a : W32) : Bool := fExp a = 255 && fFrac a ≠ 0
def fIsInf (a : W32) : Bool := fExp a = 255 && fFrac a = 0
def fFinite (a : W32) : Bool := fExp a ≠ 255
def fIsZero (a : W32) : Bool := fExp a = 0 && fFrac a = 0

/-- A finite value is ± mantissa x 2^(scale - 149). -/
def fMant (a : W32) : Nat := if fExp a = 0 then fFrac a else fFrac a + 2 ^ 23
def fScale (a : W32) : Nat := if fExp a = 0 then 0 else fExp a - 1

/-- The value with the sign set. -/
def fWithSign (neg : Bool) (mag : Nat) : W32 := w32 (mag + (if neg then 2 ^ 31 else 0))

/-- Round ± m x 2^(e - 149) to the nearest binary32, ties to even; `sticky` says that a part below the last bit of `m` is lost. -/
def fRound (neg : Bool) (m : Nat) (e : Int) (sticky : Bool) : W32 :=
  if m = 0 then fWithSign neg 0 else
  let bits : Int := (Nat.log2 m : Int) + 1
  let sh : Int := max (bits - 24) (-e)
  let q : Nat :=
    if sh ≤ 0 then m <<< (-sh).toNat
    else
      let s := sh.toNat
      let q := m >>> s
      let rem := m % 2 ^ s
      let half := 2 ^ (s - 1)
      if rem > half ∨ (rem = half ∧ (sticky = true ∨ q % 2 = 1)) then q + 1 else q
  let e' : Int := e + sh
  let q' := if q ≥ 2 ^ 24 then q / 2 else q
  let e'' := if q ≥ 2 ^ 24 then e' + 1 else e'
  if q' < 2 ^ 23 then fWithSign neg q'
  else if e'' ≥ 254 then fWithSign neg 0x7F800000
  else fWithSign neg ((e''.toNat + 1) * 2 ^ 23 + (q' - 2 ^ 23))

/-- A finite value as an integer multiple of 2^-149. -/
def fFixed (a : W32) : Int :=
  let n : Int := (fMant a * 2 ^ fScale a : Nat)
  if fSign a then -n else n

/-- Sign changed, sign cleared. -/
def fNeg (a : W32) : W32 := a ^^^ 0x80000000#32
def fAbs (a : W32) : W32 := a &&& 0x7FFFFFFF#32

/-- Addition. -/
def fAdd (a b : W32) : W32 :=
  if fIsNaN a || fIsNaN b then fNaN
  else if fIsInf a then (if fIsInf b && fSign a ≠ fSign b then fNaN else a)
  else if fIsInf b then b
  else
    let s := fFixed a + fFixed b
    if s = 0 then fWithSign (fSign a && fSign b) 0
    else fRound (s < 0) s.natAbs 0 false

/-- Subtraction. -/
def fSub (a b : W32) : W32 := if fIsNaN b then fNaN else fAdd a (fNeg b)

/-- Multiplication. -/
def fMul (a b : W32) : W32 :=
  let neg := fSign a ≠ fSign b
  if fIsNaN a || fIsNaN b then fNaN
  else if fIsInf a || fIsInf b then (if fIsZero a || fIsZero b then fNaN else fWithSign neg 0x7F800000)
  else fRound neg (fMant a * fMant b) ((fScale a : Int) + fScale b - 149) false

/-- Division. -/
def fDiv (a b : W32) : W32 :=
  let neg := fSign a ≠ fSign b
  if fIsNaN a || fIsNaN b then fNaN
  else if fIsInf a then (if fIsInf b then fNaN else fWithSign neg 0x7F800000)
  else if fIsInf b then fWithSign neg 0
  else if fIsZero b then (if fIsZero a then fNaN else fWithSign neg 0x7F800000)
  else if fIsZero a then fWithSign neg 0
  else
    let n := fMant a <<< 50
    let q := n / fMant b
    fRound neg (2 * q + (if n % fMant b = 0 then 0 else 1)) ((fScale a : Int) - fScale b + 149 - 51) false

/-- The greatest n with n² ≤ x, by `k` bits from the top. -/
def isqrtBits : Nat → Nat → Nat → Nat
  | 0, _, r => r
  | k + 1, x, r => let c := r + 2 ^ k; isqrtBits k x (if c * c ≤ x then c else r)

/-- The integer square root of a number below 2^192. -/
def isqrt (x : Nat) : Nat := isqrtBits 96 x 0

/-- Square root. -/
def fSqrt (a : W32) : W32 :=
  if fIsNaN a then fNaN
  else if fIsZero a then a
  else if fSign a then fNaN
  else if fIsInf a then a
  else
    let e : Int := (fScale a : Int) - 149
    let odd := e % 2 ≠ 0
    let m := (if odd then 2 * fMant a else fMant a) <<< 60
    let e2 := (if odd then e - 1 else e) - 60
    let r := isqrt m
    fRound false (2 * r + (if r * r = m then 0 else 1)) (e2 / 2 - 1 + 149) false

/-- The order of values that are not NaN. -/
def fKey (a : W32) : Int := if fSign a then -((fAbs a).toNat : Int) else ((fAbs a).toNat : Int)
def fLt (a b : W32) : Bool := !fIsNaN a && !fIsNaN b && fKey a < fKey b
def fLe (a b : W32) : Bool := !fIsNaN a && !fIsNaN b && fKey a ≤ fKey b
def fEq (a b : W32) : Bool := !fIsNaN a && !fIsNaN b && fKey a = fKey b
def fGt (a b : W32) : Bool := fLt b a
def fGe (a b : W32) : Bool := fLe b a

/-- min and max; with one NaN, the other operand (R377). -/
def fMin (a b : W32) : W32 := if fIsNaN a then b else if fIsNaN b then a else if fLt b a then b else a
def fMax (a b : W32) : W32 := if fIsNaN a then b else if fIsNaN b then a else if fLt a b then b else a

/-- The binary32 nearest to a quotient of integers. -/
def fOfRat (n : Int) (den : Nat) : W32 :=
  if den = 0 then fNaN
  else
    let k := 80 + Nat.log2 den
    let m := n.natAbs <<< k
    let q := m / den
    fRound (n < 0) (2 * q + (if m % den = 0 then 0 else 1)) (149 - (k : Int) - 1) false

/-- The binary32 nearest to an integer. -/
def fOfInt (n : Int) : W32 := fOfRat n 1

/-- A finite value times `num / den`, to the nearest integer, ties to even. -/
def fToFixed (a : W32) (num den : Nat) : Int :=
  let x : Int := fFixed a * num
  let d : Nat := den * 2 ^ 149
  let q := x.natAbs / d
  let r := x.natAbs % d
  let q := if 2 * r > d ∨ (2 * r = d ∧ q % 2 = 1) then q + 1 else q
  if x < 0 then -(q : Int) else q

end Sys2Proof.Machine
end

