-- ==== Sys2Proof/Machine/Geo.lean ====
section
/-! DEFINITION. Plane and earth geometry in integers: sine and cosine in units of 2^-60, angles as fractions of a turn or in
radians, and the WGS84 conversion of R121. The spec states these as real-valued formulas; the scale and the rounding of each step are
the model's (assumption "rounding of geometry"). -/

namespace Sys2Proof.Machine

/-- 1 and 2π in units of 2^-60. -/
def one60 : Int := 2 ^ 60
def tau60 : Int := 7244019458077122842

/-- A product of two numbers in units of 2^-60. -/
def mul60 (a b : Int) : Int := divRound (a * b) (2 ^ 60)

/-- Terms of the series of sine (from x) or cosine (from 1): each is the last times -x²/((n+1)(n+2)). -/
def trigSeries : Nat → Nat → Int → Int → Int
  | 0, _, _, _ => 0
  | k + 1, n, x2, term => term + trigSeries k (n + 2) x2 (-(divRound (mul60 term x2) ((n + 1) * (n + 2))))

/-- Sine and cosine of 0 ≤ x ≤ π/2, in units of 2^-60. -/
def sin60 (x : Int) : Int := trigSeries 14 1 (mul60 x x) x
def cos60 (x : Int) : Int := trigSeries 14 0 (mul60 x x) one60

/-- Sine of `n / den` of a turn, exact at quarter turns. -/
def sinTurn (n : Int) (den : Nat) : Int :=
  let m := (n % (den : Int)).toNat
  let q := 4 * m / den
  let r := 4 * m - q * den
  let x := divRound (tau60 * r) (4 * den)
  if q = 0 then sin60 x else if q = 1 then cos60 x else if q = 2 then -(sin60 x) else -(cos60 x)

/-- Cosine of `n / den` of a turn. -/
def cosTurn (n : Int) (den : Nat) : Int := sinTurn (4 * n + den) (4 * den)

/-- Sine and cosine of an angle in radians, units of 2^-60. -/
def sinRad (x : Int) : Int := sinTurn x tau60.toNat
def cosRad (x : Int) : Int := cosTurn x tau60.toNat

/-- Sine and cosine of a heading in units of 2^-32 turn (R110). -/
def sinPsi (psi : Int) : Int := sinTurn psi (2 ^ 32)
def cosPsi (psi : Int) : Int := cosTurn psi (2 ^ 32)

/-- A length times a factor in units of 2^-60. -/
def scale60 (len f : Int) : Int := divRound (len * f) (2 ^ 60)

/-- The length of a vector. -/
def hypot (x y : Int) : Nat := isqrt ((x * x + y * y).toNat)

/-- A heading difference in units of 1/65,536 turn, in the half-open range of half a turn either way. -/
def wrapHdg (x : Int) : Int := (x + 32768) % 65536 - 32768

/-- A point on the WGS84 ellipsoid, latitude and longitude in 1e-7 degree, height in mm, as earth-centred coordinates in
micrometres. -/
def ecef (lat lon h : Int) : Int × Int × Int :=
  let den : Nat := 3600000000
  let sp := sinTurn lat den
  let cp := cosTurn lat den
  -- the semi-major axis in um, and e² in units of 2^-60
  let a : Int := 6378137000000
  let e2 : Int := 7718094650643697
  let w2 := one60 - mul60 e2 (mul60 sp sp)
  let w : Int := (isqrt (w2.toNat * 2 ^ 60) : Nat)
  let n := divRound (a * one60) w.toNat
  let r := scale60 (n + h * 1000) cp
  (scale60 r (cosTurn lon den), scale60 r (sinTurn lon den),
    scale60 (scale60 n (one60 - e2) + h * 1000) sp)

/-- East and north in the tangent plane at an origin (R110, R121), in mm. -/
def toJob (lat0 lon0 h0 lat lon h : Int) : Int × Int :=
  let den : Nat := 3600000000
  let o := ecef lat0 lon0 h0
  let p := ecef lat lon h
  let dx := p.1 - o.1
  let dy := p.2.1 - o.2.1
  let dz := p.2.2 - o.2.2
  let sl := sinTurn lon0 den
  let cl := cosTurn lon0 den
  let sp := sinTurn lat0 den
  let cp := cosTurn lat0 den
  let e := scale60 dy cl - scale60 dx sl
  let n := scale60 dz cp - scale60 (scale60 dx cl + scale60 dy sl) sp
  (divRound e 1000, divRound n 1000)

end Sys2Proof.Machine
end

