-- ==== Sys2Proof/Machine/PoseOps.lean ====
section
/-! DEFINITION. POSE (R118 to R133): the tests of a sample, the messages of the CAN route, the latch at a turn with its motion state, the
forward prediction, and the ground position of body points. Positions are in micrometres and headings in 2^-32 turn while they
are computed. -/

namespace Sys2Proof.Machine

def pPOSE : Nat := 8
def pIMP : Nat := 9
def pBSS : Nat := 0x00A

/-! Samples -/

/-- POSE_STATE and MOTION (R134). -/
def Dev.poseState (d : Dev) : Nat := d.fld Reg.POSE_POSE_STATE 1 0
def Dev.poseMotion (d : Dev) : Nat := d.fld Reg.POSE_POSE_STATE 5 4
def psNONE : Nat := 0
def psLIVE : Nat := 1
def psDEAD : Nat := 2
def psLOST : Nat := 3
def moFROZEN : Nat := 0
def moFORWARD : Nat := 1
def moREVERSE : Nat := 2

/-- What a sample of the CAN route lacks, and its fix type, beside the sample (R120). -/
structure SampleInfo where
  src : Nat
  noBase : Bool
  fix : Nat
  incomplete : Bool
  deriving DecidableEq, Repr

/-- The first failing test of R120, 0 where all pass. -/
def Dev.sampleCode (d : Dev) (x : Sample) (i : SampleInfo) : Nat :=
  let now : Int := (d.tbs : Nat)
  if i.src ≠ d.rdN Reg.POSE_POSE_SRC then 1
  else if i.noBase then 2
  else if (match d.pose.newest with | some y => decide (x.t ≤ y.t) | none => false) then 3
  else if x.t > now + 5000000 then 4
  else if now - x.t > (d.rdN Reg.POSE_POSE_STALE * 1000000 : Nat) then 5
  else if !d.stat pPOSE 16 || x.e.natAbs > 32000000 || x.n.natAbs > 32000000 then 6
  else if x.spd.natAbs > 16667 then 7
  else if i.fix < d.rdN Reg.POSE_POSE_QMIN then 8
  else if i.incomplete then 9
  else 0

/-- A sample as a knot at path length `s`. -/
def Sample.knot (x : Sample) (s : Int) : Knot := { t := x.t, e := x.e * 1000, n := x.n * 1000, psi := x.hdg * 65536, s := s }

/-- The path of the last 60 m with a new point; going back over it removes what has been gone back over. -/
def pathAdd (path : List Knot) (x : Sample) : List Knot :=
  match path with
  | [] => [x.knot 0]
  | h :: _ =>
    let c : Int := (hypot (x.e * 1000 - h.e) (x.n * 1000 - h.n) : Nat)
    let s := if x.spd < 0 then h.s - c else h.s + c
    x.knot s :: path.filter (fun k => k.s < s && s - k.s ≤ 60000000)

/-- Submit a sample: accepted, or refused with its code (R119, R120). -/
def Dev.submit (d : Dev) (x : Sample) (i : SampleInfo) : Dev :=
  let code := d.sampleCode x i
  if code = 0 then
    let recent := d.pose.hist.filter (fun p => x.t - p.1 ≤ 1000000000)
    ({ d with pose := { d.pose with
        newest := some x, before := d.pose.newest, fresh := true, allPath := pathAdd d.pose.allPath x
        back := if (d.poseState = psDEAD ∨ d.poseState = psLOST) ∧ d.pose.back = none then some x else d.pose.back
        hist := (x.t, x.hdg) :: recent
        lastUp := if i.src = 0 then x.u else d.pose.lastUp } }).inc Reg.POSE_POSE_ACC_CNT
  else ((d.inc Reg.POSE_POSE_REF_CNT).wrN Reg.POSE_LAST_REFUSE (i.src * 2 ^ 8 + code)).irq pPOSE 17

/-- The sample in the PIN words (R119, R136); a TB-G time is carried to TB-S by the formula of R102. -/
def Dev.pinSample (d : Dev) (tbase : Bool) : Sample :=
  let raw : Int := d.rdN Reg.POSE_PIN_T_HI * 2 ^ 32 + d.rdN Reg.POSE_PIN_T_LO
  { t := if tbase then raw - d.tbg + d.tbs else raw
    e := d.rdI Reg.POSE_PIN_E, n := d.rdI Reg.POSE_PIN_N, u := d.rdI Reg.POSE_PIN_U
    hdg := d.fld Reg.POSE_PIN_HDG 15 0, spd := d.rdI Reg.POSE_PIN_SPD
    yaw := if d.bit Reg.POSE_PIN_QUAL 4 then some (d.rdI Reg.POSE_PIN_YAW) else none
    acc := if d.bit Reg.POSE_PIN_QUAL 5 then some (d.rdI Reg.POSE_PIN_ACC) else none }

/-- PIN_COMMIT (R119). -/
def actPinCommit (tbase : Bool) : Act := actDev (fun d =>
  d.submit (d.pinSample tbase) ⟨0, tbase && d.tbgState = tbgNone, d.fld Reg.POSE_PIN_QUAL 3 0, false⟩)

/-- POSE_SAMPLE: the write of PIN_COMMIT. -/
def execPoseSample (req : Requester) (tbase : Bool) (s : State) : Host.Outcome State Fault Refusal :=
  .next (hostCmd req Reg.POSE_PIN_COMMIT (if tbase then 1#32 else 0#32) (actPinCommit tbase) s)

/-! The CAN route (R121) -/

/-- The parameter group of a 29-bit identifier. -/
def pgnOf (id : Nat) : Nat :=
  let pf := id / 2 ^ 16 % 256
  (id / 2 ^ 24 % 4) * 2 ^ 16 + pf * 2 ^ 8 + (if pf < 240 then 0 else id / 2 ^ 8 % 256)

/-- A little-endian field of a message, unsigned and signed. -/
def leField (bs : List Byte) (i n : Nat) : Nat := leNat (slice bs i n)
def leFieldS (bs : List Byte) (i n : Nat) : Int :=
  let v := leField bs i n
  if v < 2 ^ (8 * n - 1) then (v : Int) else (v : Int) - 2 ^ (8 * n)

/-- A heading in 1e-4 rad as 1/65,536 turn. -/
def hdgOfRad (r : Nat) : Int := divRound (r * 104303783504705 / 100 : Nat) 1000000000000 % 65536

/-- The fix type that the method field of PGN 129029 maps to (R121). -/
def fixOfMethod (m : Nat) : Nat := if m = 1 then 1 else if m = 2 ∨ m = 3 then 2 else if m = 4 then 5 else if m = 5 then 4 else 0

/-- A message received within `ns` before now. -/
def within (now : Int) (ns : Int) (v : Option (Int × α)) : Option α :=
  match v with
  | some (t, x) => if now - t ≤ ns then some x else none
  | none => none

/-- The speed that the route has: the later of machine selected speed and speed over ground, the sign from the direction
bits of the former. -/
def Dev.canSpeed (d : Dev) : Option Int :=
  let now : Int := (d.tbs : Nat)
  match within now 100000000 d.pose.canMss, within now 100000000 d.pose.canSpd with
  | some m, some s =>
    let newer : Bool := match d.pose.canMss, d.pose.canSpd with
      | some (tm, _), some (ts, _) => decide (ts > tm)
      | _, _ => false
    some (if newer then (if m < 0 then -s else s) else m)
  | some m, none => some m
  | none, some s => some s
  | none, none => none

/-- The heading that the route has: true heading, or course over ground while the speed is at least 1 km/h. -/
def Dev.canHeading (d : Dev) : Option Int :=
  let now : Int := (d.tbs : Nat)
  match within now 100000000 d.pose.canHdg with
  | some h => some h
  | none =>
    match within now 100000000 d.pose.canCog, d.canSpeed with
    | some c, some v => if v * 36 ≥ 10000 then some c else none
    | _, _ => none

/-- The fix type of a CAN sample. -/
def Dev.canFixType (d : Dev) : Nat :=
  match within ((d.tbs : Nat) : Int) 2000000000 d.pose.canFix with
  | some f => f
  | none => d.fld Reg.POSE_CAN_FIX 3 0

/-- A position message of route `src` (1 CAN0, 2 CAN1) forms a sample. -/
def Dev.canPosition (d : Dev) (src : Nat) (lat lon : Int) : Dev :=
  let h := d.rdI Reg.POSE_JOB_H
  let p := toJob (d.rdI Reg.POSE_JOB_LAT) (d.rdI Reg.POSE_JOB_LON) h lat lon (h + d.pose.lastUp)
  let x : Sample :=
    { t := (d.tbs : Int) - d.rdN Reg.POSE_CAN_LAT_US * 1000, e := p.1, n := p.2, u := d.pose.lastUp
      hdg := d.canHeading.getD 0, spd := d.canSpeed.getD 0 }
  d.submit x ⟨src, false, d.canFixType, d.canHeading.isNone || d.canSpeed.isNone⟩

/-- A frame of PGN 129029, a fast packet whose byte 31 lies in its fifth frame: the method field is kept once the frames before
it have come in order. -/
def Dev.canFixFrame (d : Dev) (bs : List Byte) : Dev :=
  let c := (bs.getD 0 0).toNat
  let sq := c / 32
  let k := c % 32
  if k = 0 then { d with pose := { d.pose with canFast := some (sq, 1) } }
  else match d.pose.canFast with
    | none => d
    | some (s0, next) =>
      if sq = s0 ∧ k = next then
        if k = 4 then
          { d with pose := { d.pose with canFast := none, canFix := some ((d.tbs : Nat), fixOfMethod ((bs.getD 5 0).toNat / 16)) } }
        else { d with pose := { d.pose with canFast := some (sq, k + 1) } }
      else { d with pose := { d.pose with canFast := none } }

/-- Decode a frame that the filters route to POSE. Values that a message marks as not available are not taken. -/
def Dev.canPose (d : Dev) (src : Nat) (f : CanFrame) : Dev :=
  let now : Int := (d.tbs : Nat)
  let bs := f.data
  if !f.ide then d else
  let pgn := pgnOf f.id
  if pgn = 129025 then
    if leField bs 0 4 = 0x7FFFFFFF ∨ leField bs 4 4 = 0x7FFFFFFF then d
    else d.canPosition src (leFieldS bs 0 4) (leFieldS bs 4 4)
  else if pgn = 127250 then
    if leField bs 1 2 ≥ 0xFFFD ∨ leField bs 7 1 % 4 ≠ 0 then d
    else { d with pose := { d.pose with canHdg := some (now, hdgOfRad (leField bs 1 2)) } }
  else if pgn = 129026 then
    let d := if leField bs 2 2 ≥ 0xFFFD ∨ leField bs 1 1 % 4 ≠ 0 then d
      else { d with pose := { d.pose with canCog := some (now, hdgOfRad (leField bs 2 2)) } }
    if leField bs 4 2 ≥ 0xFFFD then d
    else { d with pose := { d.pose with canSpd := some (now, leField bs 4 2 * 10) } }
  else if pgn = 61474 then
    let v : Int := leField bs 0 2
    if leField bs 0 2 ≥ 0xFB00 ∨ leField bs 7 1 % 4 ≥ 2 then d
    else { d with pose := { d.pose with canMss := some (now, if leField bs 7 1 % 4 = 0 then -v else v) } }
  else if pgn = 129029 then d.canFixFrame bs
  else d

/-! Yaw rate and acceleration (R123) -/

/-- An IMU port. -/
def Dev.imu (d : Dev) (p : Nat) : ImuPort := sget (fun _ => {}) d.net.imu p
def Dev.modImu (d : Dev) (p : Nat) (f : ImuPort → ImuPort) : Dev :=
  { d with net := { d.net with imu := sset (fun _ => {}) d.net.imu p (f (d.imu p)) } }

/-- The mean of a list of numbers. -/
def meanI (l : List Int) : Int := divRound l.sum l.length

/-- The part of an IMU's mean yaw rate that the heading of the pose samples of the last second does not show, over the time that those
samples span; the last value stands where they show nothing (R123). -/
def Dev.yawBias (d : Dev) (port : Nat) : Int :=
  let was := d.pose.bias.getD port 0
  match d.pose.hist.head?, d.pose.hist.getLast? with
  | some (t1, h1), some (t0, h0) =>
    let im := ((d.imu port).samples.filter (fun x => decide (t0 ≤ (x.1 : Int)) && decide ((x.1 : Int) ≤ t1))).map (·.2.1)
    if t1 = t0 ∨ im = [] then was
    else meanI im - divRound (wrapHdg (h1 - h0) * 1000000000) (t1 - t0).toNat
  | _, _ => was

/-- The biases follow the samples that a latch finds fresh. -/
def Dev.takeBias (d : Dev) : Dev :=
  if d.pose.fresh then { d with pose := { d.pose with bias := [d.yawBias 0, d.yawBias 1] } } else d

/-- Yaw rate and acceleration that one IMU gives at a latch; none while it is disabled, stale or has no sample. -/
def Dev.imuMotion (d : Dev) (port : Nat) (t : Int) : Option (Int × Int) :=
  let win : Int := d.rdN Reg.POSE_IMU_WIN_US * 1000
  let all := (d.imu port).samples
  let xs := all.filter (fun x => t - x.1 ≤ win)
  let xs := if xs = [] then all.take 1 else xs
  if !d.bit Reg.POSE_IMU_USE port || (d.imu port).stale || xs = [] then none
  else some (meanI (xs.map (·.2.1)) - d.pose.bias.getD port 0, meanI (xs.map (·.2.2)))

/-- Yaw rate (1/65,536 turn per s), acceleration (mm/s²), and whether an IMU gave them. -/
def Dev.yawAcc (d : Dev) (x : Sample) (t : Int) : Int × Int × Bool :=
  match d.imuMotion 0 t, d.imuMotion 1 t with
  | some a, some b => (meanI [a.1, b.1], meanI [a.2, b.2], true)
  | some a, none => (a.1, a.2, true)
  | none, some b => (b.1, b.2, true)
  | none, none =>
    let diff (f : Sample → Int) (wrap : Int → Int) : Int :=
      match d.pose.before with
      | some y => if x.t > y.t then divRound (wrap (f x - f y) * 1000000000) (x.t - y.t).toNat else 0
      | none => 0
    ((match x.yaw with | some w => w | none => diff (·.hdg) wrapHdg), (match x.acc with | some a => a | none => diff (·.spd) id), false)

/-! Prediction (R124, R125) -/

/-- Curvature in 10^-9 per mm from a yaw rate and a speed (R124). -/
def curvature (w v : Int) (limit : Nat) : Int :=
  if v.natAbs < 83 then 0
  else
    let k := divRound (w.natAbs * 9587379924285257 : Nat) (v.natAbs * 100000000000)
    let k := min k.toNat limit
    if (w < 0) ≠ (v < 0) then -(k : Int) else k

/-- The motion state formed at a latch (R124). -/
def Dev.motionOf (d : Dev) (x : Sample) (t : Int) : Motion :=
  let wa := d.yawAcc x t
  { p := x, acc := capMag wa.2.1 (d.rdN Reg.POSE_A_MAX), kappa := curvature wa.1 x.spd (d.rdN Reg.POSE_KAPPA_MAX) }

/-- Path length in micrometres after `dt` ns from speed `v` with acceleration `a` (R125): held once the speed reaches 0 or its limit. -/
def pathLen (v a dt : Int) : Int :=
  if v = 0 then 0 else
  let free (t : Int) : Int := divRound (v * t) 1000000 + divRound (a * t * t) 2000000000000000
  if a = 0 then free dt
  else
    let toZero := decide ((v < 0) ≠ (a < 0))
    let room : Int := if toZero then v.natAbs else max 0 (16667 - (v.natAbs : Int))
    let tc : Int := room * 1000000000 / (a.natAbs : Int)
    if dt ≤ tc then free dt
    else free tc + (if toZero then 0 else divRound ((if v < 0 then -16667 else 16667) * (dt - tc)) 1000000)

/-- The pose a path length `s` (micrometres) on from a knot, on an arc of curvature `k` (R125). -/
def alongArc (b : Knot) (k s t : Int) : Knot :=
  if k = 0 then { t := t, e := b.e + scale60 s (sinPsi b.psi), n := b.n + scale60 s (cosPsi b.psi), psi := b.psi, s := b.s + s }
  else
    let th := divRound (k * s * 2 ^ 60) 1000000000000
    let sn := sinRad th
    let vers := one60 - cosRad th
    let sp := sinPsi b.psi
    let cp := cosPsi b.psi
    let r := 1000000000000
    let div (x : Int) : Int := if k < 0 then -(divRound (x * r) (k.natAbs * 2 ^ 60)) else divRound (x * r) (k.natAbs * 2 ^ 60)
    { t := t, e := b.e + div (mul60 cp vers + mul60 sp sn), n := b.n + div (mul60 cp sn - mul60 sp vers)
      psi := (b.psi + divRound (k * s * 6835652755764316) 10000000000000000000) % 2 ^ 32, s := b.s + s }

/-- The pose predicted for a time (R125) from the pose that prediction starts at. -/
def predictFrom (m : Motion) (b : Knot) (t : Int) : Knot :=
  alongArc b m.kappa (pathLen m.p.spd m.acc (t - m.p.t) - pathLen m.p.spd m.acc (b.t - m.p.t)) t

/-- Knots of a frame (R126): the turn and every 125 ms up to the horizon. -/
def Dev.knotCount (d : Dev) : Nat := ceilDiv (d.rdN Reg.SDE_HORIZON) 125
def makeKnots (m : Motion) (b : Knot) (t : Int) (n : Nat) : List Knot :=
  (List.range (n + 1)).map (fun (j : Nat) => predictFrom m b (t + (j : Int) * 125000000))

/-! The latch (R122 to R133) -/

/-- Set POSE_STATE or MOTION; a change sets IRQ_RAW.STATE (R136). -/
def Dev.setPoseState (d : Dev) (st : Nat) : Dev :=
  if d.poseState = st then d else (d.setFld Reg.POSE_POSE_STATE 1 0 st).irq pPOSE 16
def Dev.setMotion (d : Dev) (mo : Nat) : Dev :=
  if d.poseMotion = mo then d
  else ((d.setFld Reg.POSE_POSE_STATE 5 4 mo).irq pPOSE 16).recIrq pPOSE 16

/-- MOTION after a latch with speed `v` (R128). -/
def nextMotion (cur : Nat) (v : Int) : Nat :=
  if cur = moFORWARD then (if v ≤ -111 then moREVERSE else if v < 83 then moFROZEN else moFORWARD)
  else if cur = moREVERSE then (if v ≥ 111 then moFORWARD else if v > -83 then moFROZEN else moREVERSE)
  else (if v ≥ 111 then moFORWARD else if v ≤ -111 then moREVERSE else moFROZEN)

/-- MOTION at a latch, with the safe-state actions of R129 and R130. -/
def Dev.latchMotion (d : Dev) (v : Int) (t : Nat) : Dev :=
  let was := d.poseMotion
  let mo := nextMotion was v
  let d := d.setMotion mo
  let d := if mo = moFROZEN ∧ was ≠ moFROZEN then { d with pose := { d.pose with frozenAt := some t, closedFrozen := false } }
    else if mo ≠ moFROZEN then { d with pose := { d.pose with frozenAt := none, closedFrozen := false } } else d
  let stop := d.rdN Reg.POSE_STOP_CLOSE
  let d := match d.pose.frozenAt with
    | some t0 =>
      if stop ≠ 0 ∧ t > t0 ∧ t - t0 ≥ stop * 1000000 ∧ d.pose.closedFrozen = false then
        ({ d with pose := { d.pose with closedFrozen := true } }).safeState
      else d
    | none => d
  if mo = moREVERSE ∧ was ≠ moREVERSE ∧ d.bit Reg.POSE_REV_POLICY 0 = false then d.safeState else d

/-- The return from dead reckoning (R133): how far the first sample accepted since lies from the pose predicted for its time. -/
def Dev.latchReturn (d : Dev) (x : Sample) : Dev :=
  if d.pose.fresh ∧ (d.poseState = psDEAD ∨ d.poseState = psLOST) then
    let x := d.pose.back.getD x
    let d := ({ d with pose := { d.pose with back := none } }).setPoseState psLIVE
    match d.pose.motion with
    | none => d
    | some m =>
      let k := predictFrom m d.pose.base x.t
      let jump := hypot (x.e * 1000 - k.e) (x.n * 1000 - k.n) / 1000
      let d := d.wr Reg.POSE_LAST_JUMP (sat32 jump)
      if jump > d.rdN Reg.POSE_POSE_JUMP then d.faultRec pPOSE 18 else d
  else if d.poseState = psNONE then d.setPoseState psLIVE
  else d

/-- Staleness at a latch (R131): LIVE to DEAD_RECKON by age, DEAD_RECKON to LOST by time or by path length. -/
def Dev.latchStale (d : Dev) (age : Int) (t : Nat) (s : Int) : Dev :=
  if d.poseState = psLIVE then
    if age > (d.rdN Reg.POSE_POSE_STALE * 1000000 : Nat) then
      let d := { d with pose := { d.pose with drAt := t, drS := s } }
      ((d.setPoseState psDEAD).wr Reg.POSE_DR_DIST 0).faultRec pPOSE 16
    else d
  else if d.poseState = psDEAD then
    let dist := (s - d.pose.drS).natAbs / 1000
    let d := d.wr Reg.POSE_DR_DIST (sat32 dist)
    if t - d.pose.drAt ≥ d.rdN Reg.POSE_DR_TIME_MAX * 1000000 ∨ dist ≥ d.rdN Reg.POSE_DR_DIST_MAX then
      ((d.setPoseState psLOST).faultRec pPOSE 17).safeState
    else d
  else d

/-- The latched sample and the motion state, as the page shows them (R134). -/
def Dev.showLatch (d : Dev) (x : Sample) (m : Motion) (age : Int) : Dev :=
  let d := ((d.wrI Reg.POSE_LATCH_E x.e).wrI Reg.POSE_LATCH_N x.n).wrI Reg.POSE_LATCH_U x.u
  let d := ((d.wrI Reg.POSE_LATCH_HDG x.hdg).wrI Reg.POSE_LATCH_SPD x.spd).wrI Reg.POSE_LATCH_ACC m.acc
  (d.wrI Reg.POSE_LATCH_KAPPA m.kappa).wr Reg.POSE_POSE_AGE (sat32 (age.toNat / 1000))

/-- POSE at the CK_SYS turn at TB-S `t` (R122). In dead reckoning with an IMU in use the heading is integrated from its yaw rate
(R131): the pose that prediction starts at moves on by a frame at a time. -/
def Dev.latchPose (d : Dev) (t : Nat) : Dev :=
  match d.pose.newest with
  | none => d
  | some x =>
    let age : Int := (t : Int) - x.t
    let d := (d.latchReturn x).takeBias
    let m := d.motionOf x t
    let byImu := (d.yawAcc x t).2.2
    let old := d.pose.motion
    let d := if d.pose.fresh then
        let path := d.pose.allPath
        { d with pose := { d.pose with path := path, base := path.headD {}, fresh := false } }
      else if (d.poseState = psDEAD ∨ d.poseState = psLOST) ∧ byImu then
        match old with
        | some m0 => { d with pose := { d.pose with base := predictFrom m0 d.pose.base d.pose.latchT } }
        | none => d
      else d
    let here := predictFrom m d.pose.base t
    let d := d.latchStale age t here.s
    let d := d.showLatch x m age
    let d := { d with pose := { d.pose with
      motion := some m, latchT := t, knots := makeKnots m d.pose.base t d.knotCount } }
    d.latchMotion x.spd t

/-! Body points (R127) -/

/-- The point of the way at path length `s`: on the predicted arc ahead of the newest point, on the straight joins of the path
behind it, straight on behind its end. -/
def pathAt (m : Motion) (base : Knot) (path : List Knot) (s : Int) : Knot :=
  if s ≥ base.s then alongArc base m.kappa (s - base.s) base.t
  else
    let rec go (hi : Knot) : List Knot → Knot
      | [] => alongArc hi 0 (s - hi.s) hi.t
      | lo :: r =>
        if lo.s ≤ s ∧ lo.s < hi.s then
          let den := (hi.s - lo.s).toNat
          let f (a b : Int) : Int := a + divRound ((b - a) * (s - lo.s)) den
          let dpsi := (hi.psi - lo.psi + 2 ^ 31) % 2 ^ 32 - 2 ^ 31
          { t := lo.t, e := f lo.e hi.e, n := f lo.n hi.n, psi := (lo.psi + divRound (dpsi * (s - lo.s)) den) % 2 ^ 32, s := s }
        else go lo r
    go base path

/-- The body of an image. -/
def Dev.body (d : Dev) (b : Nat) : Body :=
  match d.imp.active with
  | some im => (sfind im.bodies b).getD {}
  | none => {}

/-- Origin and heading of a body for a pose of the vehicle (R127). Bodies 1 to 3 take their offsets from the active geometry
registers (R12), TRAILED ones the lateral offset LAT. -/
def Dev.bodyFrame (d : Dev) (b : Nat) (k : Knot) : Knot :=
  if b = 0 then k
  else
    let i := b - 1
    let bo := d.body b
    if bo.trailed then
      match d.pose.motion with
      | none => k
      | some m =>
        let q := pathAt m d.pose.base d.pose.path (k.s - bo.len * 1000)
        let lat := d.rdI (Reg.BSS_LAT i) * 1000
        { q with e := q.e - scale60 lat (cosPsi q.psi), n := q.n + scale60 lat (sinPsi q.psi) }
    else
      let ox := d.rdI (Reg.BSS_OX i) * 1000
      let oy := d.rdI (Reg.BSS_OY i) * 1000
      let sp := sinPsi k.psi
      let cp := cosPsi k.psi
      { k with e := k.e + scale60 ox sp - scale60 oy cp, n := k.n + scale60 ox cp + scale60 oy sp
               psi := (k.psi - fieldS (d.rd (Reg.BSS_YAW i)) 15 0 * 65536) % 2 ^ 32 }

/-- The ground position of a body point, given the body's frame; lengths in micrometres (R127). -/
def bodyPoint (f : Knot) (x y : Int) : Int × Int :=
  let sp := sinPsi f.psi
  let cp := cosPsi f.psi
  (f.e + scale60 x sp - scale60 y cp, f.n + scale60 x cp + scale60 y sp)

end Sys2Proof.Machine
end

