-- ==== Sys2Proof/Machine/GnssOps.lean ====
section
/-! DEFINITION. The GNSS baseband (chapter 06): the sample count, the antenna ports, acquisition, tracking channels, the two
read queues, and the words of a measurement epoch. -/

namespace Sys2Proof.Machine

def pNAV : Nat := 0x010
def pACQ : Nat := 0x011
def pINTEG : Nat := 0x012
def pBURST : Nat := 0x013
def pTC (c : Nat) : Nat := 0x014 + c / 8

/-! The sample count (R142) -/

/-- TB-M with the part of the CK_AON period that runs while CK_SYS is stopped. -/
def Dev.fineNs (d : Dev) : Nat := d.tm.tbm + (if d.sysStopped then (d.tm.aon - aonTicks d.tm.aon * aonPeriod) / 64 else 0)

/-- SMP_CNT: 16.368 samples a microsecond since it last resumed; held while CK_NAV is lost and below NEAP (R142, R449). -/
def Dev.smpRuns (d : Dev) : Bool := !d.clockLost 6 && d.powerState ≤ 3
def Dev.smp (d : Dev) : Nat := if d.smpRuns then d.gps.smpBase + (d.fineNs - d.gps.smpAt) * 16368 / 1000000 else d.gps.smpBase

/-- Hold the count, or let it go on from its held value, as `f` changes what it runs on. -/
def Dev.withSmp (d : Dev) (f : Dev → Dev) : Dev :=
  let n := d.smp
  let d := f d
  { d with gps := { d.gps with smpBase := n, smpAt := d.fineNs } }

/-- The TB-M at which the count reaches `n`. -/
def Dev.smpTbm (d : Dev) (n : Nat) : Nat := d.gps.smpAt + ceilDiv ((n - d.gps.smpBase) * 1000000) 16368

/-! Antenna ports (R140, R141) -/

def Dev.ant (d : Dev) (p : Nat) : AntPort := sget (fun _ => {}) d.gps.ant p
def Dev.modAnt (d : Dev) (p : Nat) (f : AntPort → AntPort) : Dev :=
  { d with gps := { d.gps with ant := sset (fun _ => {}) d.gps.ant p (f (d.ant p)) } }

/-- Bits of ANT_STAT (R164). -/
def abBIAS : Nat := 0
def abOPEN : Nat := 1
def abSHORT : Nat := 2
def abAGC : Nat := 3
def Dev.antBit (d : Dev) (p b : Nat) : Bool := d.bit Reg.NAV_ANT_STAT (4 * p + b)
def Dev.setAnt (d : Dev) (p b : Nat) (v : Bool) : Dev := d.setBit Reg.NAV_ANT_STAT (4 * p + b) v
def Dev.portEn (d : Dev) (p : Nat) : Bool := d.bit Reg.NAV_ANT_CTRL p
def Dev.biasEn (d : Dev) (p : Nat) : Bool := d.bit Reg.NAV_ANT_CTRL (4 + p)
def Dev.antCurrent (d : Dev) (p mA : Nat) : Dev := d.setFld Reg.NAV_ANT_CURR (8 * p + 7) (8 * p) (min mA 255)

/-- A short: bias off, flagged, recorded, and retried in 1.0 s (R140). -/
def Dev.antShorted (d : Dev) (p : Nat) : Dev :=
  let t := d.tm.tbm + 1000000000
  let d := (d.setAnt p abBIAS false).setAnt p abSHORT true
  let d := d.modAnt p (fun x => { x with retryAt := some t, heldSince := none })
  d.faultRec pNAV 16 [] objIsPort p

/-- Bias follows BIAS_EN where no short holds it off; a short that stands is retried 1.0 s after BIAS_EN is 1 again (R140). -/
def Dev.antRefresh (d : Dev) : Dev :=
  [0, 1, 2, 3].foldl (fun d p =>
    let on := d.biasEn p && d.powerState ≤ 1
    let d := d.setAnt p abBIAS (on && (!d.antBit p abSHORT || d.antBit p abBIAS))
    let retry := d.tm.tbm + 1000000000
    if on then
      if d.antBit p abSHORT ∧ (d.ant p).retryAt = none then d.modAnt p (fun x => { x with retryAt := some retry }) else d
    else d.modAnt p (fun x => { x with retryAt := none, heldSince := none })) d

/-! Tracking channels (R148 to R151) -/

def Dev.tc (d : Dev) (c : Nat) : TcChan := sget (fun _ => {}) d.gps.tc c
def Dev.modTc (d : Dev) (c : Nat) (f : TcChan → TcChan) : Dev :=
  { d with gps := { d.gps with tc := sset (fun _ => {}) d.gps.tc c (f (d.tc c)) } }

/-- States and loss reasons of a channel (R150, R167). -/
def tsIDLE : Nat := 0
def tsPULL : Nat := 1
def tsTRACK : Nat := 2
def tsBIT : Nat := 3
def tsFRAME : Nat := 4
def tsLOST : Nat := 5
def tlCN0 : Nat := 1
def tlANT : Nat := 2
def tlPULLIN : Nat := 3
def tlCLOCK : Nat := 4
def Dev.tcState (d : Dev) (c : Nat) : Nat := d.fld (Reg.TC_STATE c) 2 0
def Dev.tcActive (d : Dev) (c : Nat) : Bool := tsPULL ≤ d.tcState c && d.tcState c ≤ tsFRAME
def Dev.tcTracks (d : Dev) (c : Nat) : Bool := tsTRACK ≤ d.tcState c && d.tcState c ≤ tsFRAME

/-- A change of a channel's state: the channel's interrupt, CH_ACTIVE, and what leaving FRAME_SYNC or BIT_SYNC ends (R150, R155). -/
def Dev.setTc (d : Dev) (c st : Nat) : Dev :=
  let was := d.tcState c
  if was = st then d
  else
    let d := (d.setFld (Reg.TC_STATE c) 2 0 st).irq (pTC c) (16 + c % 8)
    let d := d.setMapBit Reg.NAV_CH_ACTIVE c (tsPULL ≤ st ∧ st ≤ tsFRAME)
    let d := if st ≠ tsBIT ∧ st ≠ tsFRAME then d.modTc c (fun x => { x with
        bitEdge := none, bitReady := none, hist := [], histMs := 0, sign := none, bits := [], bitAcc := 0, bitN := 0, preambles := [] })
      else d
    if was = tsFRAME then
      (d.modTc c (fun x => { x with half := false, inverted := false, prevBits := none, synced := none, missed := 0, wordBits := 0 })).wr
        (Reg.TC_TXMS c) 0
    else d

/-- A channel is LOST for a reason (R150). -/
def Dev.tcLose (d : Dev) (c why : Nat) : Dev :=
  if d.tcActive c then (d.setTc c tsLOST).setFld (Reg.TC_STATE c) 7 4 why else d

/-- Channels on a port are lost (R140). -/
def Dev.portLost (d : Dev) (p : Nat) : Dev :=
  (List.range 64).foldl (fun d c => if (d.tc c).port = p then d.tcLose c tlANT else d) d

/-! Code and carrier (R148, R153) -/

/-- Units of 1/1024 chip in a code period, and mHz of L1. -/
def codePeriod : Nat := 1047552
def l1mHz : Int := 1575420000000

/-- How far the code moves in `num / den` ms at a Doppler in mHz, in 1/1024 chip. -/
def codeMoves (num den : Nat) (dop : Int) : Int := Int.fdiv (num * codePeriod * (l1mHz + dop)) (l1mHz * den)

/-- The code of a channel's replica now, from its last dump on: whole code periods since, and CODE_PH. -/
def Dev.codeNow (d : Dev) (c : Nat) : Nat × Nat :=
  let n := ((d.rdN (Reg.TC_CODE c) : Nat) + codeMoves (d.tm.tbm - (d.tc c).dumpAt) 1000000 (d.rdI (Reg.TC_DOP c))).toNat
  (n / codePeriod, n % codePeriod)

/-- CARR_PH of a channel now, in 1/1024 cycle, signed. -/
def Dev.carrNow (d : Dev) (c : Nat) : Int :=
  signed64 (d.rd64 (Reg.TC_CARR c)) + Int.fdiv ((d.tm.tbm - (d.tc c).dumpAt : Nat) * d.rdI (Reg.TC_DOP c) * 1024) 1000000000000

/-- The lock indicator in Q1.15 (TC_LOCK), and whether it is at least 0.8. -/
def Dev.lockNow (d : Dev) (c : Nat) : Int := fieldS (d.rd (Reg.TC_LOCK c)) 15 0
def Dev.phValid (d : Dev) (c : Nat) : Bool := d.lockNow c * 10 ≥ 8 * 32768

/-- The integration length that TC_LOOP.TINT names, in ms (R167). -/
def tintMs (w : W32) : Nat := [1, 2, 4, 5, 10, 20].getD (field w 26 24) 20

/-- TC_INIT_REF lies within the last second of samples, modulo 2^32 (R148). -/
def Dev.tcRefOk (d : Dev) (c : Nat) : Bool := (w32 d.smp - d.rd (Reg.TC_INIT_REF c)).toNat ≤ 16368000

/-- A channel starts from its registers (R148, R161): the code phase is carried from TC_INIT_REF to now. A DISTORT exclusion stands until
its test clears it (R182). -/
def Dev.tcBegin (d : Dev) (c : Nat) : Dev :=
  let again := d.tcActive c
  let now := d.tm.tbm
  let cfg := d.rd (Reg.TC_CFG c)
  let dop := d.rdI (Reg.TC_INIT_DOP c) * 1000
  let gone := (w32 d.smp - d.rd (Reg.TC_INIT_REF c)).toNat
  let code := ((d.fld (Reg.TC_INIT_CODE c) 19 0 : Nat) + codeMoves gone 16368 dop) % codePeriod
  let d := d.modTc c (fun x => {
    prn := field cfg 29 24, port := field cfg 31 30, pullAt := now, dumpAt := now, slip := again, slipSnap := true, distortAt := x.distortAt })
  let d := if d.tcState c = tsPULL then d.irq (pTC c) (16 + c % 8) else d.setTc c tsPULL
  let d := ((d.wr (Reg.TC_SLIP c) 0).wr (Reg.TC_DUMP_SEQ c) 0).wr64 (Reg.TC_CARR c) 0
  let d := (d.wrI (Reg.TC_DOP c) dop).wrN (Reg.TC_CODE c) code.toNat
  d.setMapBit Reg.INTEG_CH_EXCL c (d.tc c).distortAt.isSome

/-- TC_CMD = START (R148). -/
def actTcStart (c : Nat) : Act := actDev (fun d =>
  if d.tcRefOk c then d.tcBegin c else d.fault (pTC c) (16 + c % 8))

/-- TC_CMD = STOP (R150): a dump of the channel that is queued is discarded (R161). -/
def actTcStop (c : Nat) : Act := actDev (fun d =>
  ({ d with gps := { d.gps with dumpQ := d.gps.dumpQ.filter (fun (q : Nat × Nat) => q.1 ≠ c) } }).setTc c tsIDLE)

/-! Acquisition (R145 to R147) -/

/-- ACQ_STATE and the IDLE interrupt (R165). -/
def Dev.acqShow (d : Dev) : Dev :=
  d.wrN Reg.ACQ_ACQ_STATE ((if d.gps.running.isSome || d.gps.waiting.isSome then 1 else 0) + d.gps.jobs.length * 2 ^ 8
    + ceilDiv d.gps.results.length 4 * 2 ^ 16)

/-- The next job starts where none runs and the bank is clocked (R146, R161). -/
def Dev.acqNext (d : Dev) : Dev :=
  let d := match d.gps.running, d.gps.waiting, d.gps.jobs with
    | none, none, j :: r =>
      if d.clockLost 6 || d.powerState > 1 then d
      else
        let d := { d with gps := { d.gps with running := some (j, d.smp), jobs := r } }
        if r = [] then d.irq pACQ 17 else d
    | _, _, _ => d
  d.acqShow

/-- The job that the registers describe, and whether its fields are in range (R146, R165). -/
def Dev.acqJob (d : Dev) : AcqJob :=
  let cfg := d.rd Reg.ACQ_JOB_CFG
  { port := field cfg 31 30, prn := field cfg 29 24, nc := field cfg 20 16, dbin := if bitOf cfg 8 then 250 else 500
    f0 := d.rdI Reg.ACQ_JOB_F0, ngrp := d.rdN Reg.ACQ_JOB_NGRP, thr := d.rdN Reg.ACQ_JOB_THR }
def AcqJob.ok (j : AcqJob) : Bool :=
  1 ≤ j.prn && j.prn ≤ 32 && 1 ≤ j.nc && j.nc ≤ 20 && -20000 ≤ j.f0 && j.f0 ≤ 20000 && 1 ≤ j.ngrp && j.ngrp ≤ 40

/-- The write of JOB_PUSH. -/
def actJobPush : Act :=
  actIf Reg.ACQ_JOB_PUSH (fun d => d.acqJob.ok && d.gps.jobs.length < 16)
    (fun d => ({ d with gps := { d.gps with jobs := d.gps.jobs ++ [d.acqJob] } }).acqNext)

/-- ACQ_FLUSH (R146): the running job ends without a result; one that has ended and waits for room is not dropped. -/
def Dev.acqFlush (d : Dev) : Dev :=
  let had := d.gps.jobs ≠ []
  let d := ({ d with gps := { d.gps with jobs := [], running := none } }).acqShow
  if had then d.irq pACQ 17 else d
def actAcqFlush : Act := actDev Dev.acqFlush

/-- A result enters the FIFO and the job is done. -/
def Dev.acqResult (d : Dev) (ws : List W32) : Dev :=
  let d := { d with gps := { d.gps with results := d.gps.results ++ ws, running := none, waiting := none } }
  ((d.inc Reg.ACQ_ACQ_DONE).irq pACQ 16).acqNext

/-- CK_NAV is lost (R161): every channel is LOST, the running job ends without a result, the queues keep their contents. -/
def Dev.navLost (d : Dev) : Dev :=
  let d := (List.range 64).foldl (fun d c => d.tcLose c tlCLOCK) d
  ({ d with gps := { d.gps with running := none } }).acqShow

/-- ACQ_STALL (R146): the milliseconds counted, those of the wait under way among them. -/
def Dev.stallWord (d : Dev) : W32 :=
  let now := match d.gps.waiting with | some (_, t) => (d.tm.tbm - t) / 1000000 | none => 0
  sat32 (d.rdN Reg.ACQ_ACQ_STALL + now)

/-- The words of a result (R147, R165). A job on a disabled or shorted port does not detect (R161). -/
def Dev.acqWords (d : Dev) (j : AcqJob) (start : Nat) (r : AcqOutcome) : List W32 :=
  let usable := d.portEn j.port && !d.antBit j.port abSHORT
  let det := usable && r.p1 * 256 ≥ j.thr * r.p2
  let bin := min r.bin (4 * j.ngrp - 1)
  [w32 (j.port * 2 ^ 30 + j.prn * 2 ^ 24 + (if det then 2 ^ 16 else 0) + r.code.val),
   w32i (j.f0 + bin * j.dbin),
   w32 (min (if r.p2 = 0 then 65535 else r.p1 * 256 / r.p2) 65535 * 2 ^ 16 + min r.cn0 65535),
   w32 (start + bin / 4 * j.nc * 16368)]

/-- Words of the result FIFO; a result that waited for room enters it once there is (R146). -/
def portAcqRes : PortAct := portDev (fun n d =>
  let ws := d.gps.results
  let d := { d with gps := { d.gps with results := ws.drop n } }
  let d := match d.gps.waiting with
    | some (r, t) =>
      if ceilDiv d.gps.results.length 4 < 16 then (d.addSat Reg.ACQ_ACQ_STALL ((d.tm.tbm - t) / 1000000)).acqResult r else d
    | none => d
  (ws.take n, d.acqShow))

/-! The measurement queue (R152 to R154) -/

/-- MEAS_LEVEL and MEAS_AVAIL. -/
def Dev.measShow (d : Dev) : Dev :=
  let whole := if d.gps.partRead then d.gps.epochs.drop 1 else d.gps.epochs
  (d.wrN Reg.NAV_MEAS_LEVEL d.gps.epochs.flatten.length).setStat pNAV 17 (!whole.isEmpty)

/-- Discard the oldest unread whole epochs until `need` words fit, with the number discarded; the one partly read stays. -/
def makeRoom (need : Nat) : Nat → Bool → List (List W32) → List (List W32) × Nat
  | 0, _, es => (es, 0)
  | k + 1, part, es =>
    if es.flatten.length + need ≤ 4096 then (es, 0)
    else match part, es with
      | true, h :: _ :: r => let q := makeRoom need k true (h :: r); (q.1, q.2 + 1)
      | false, _ :: r => let q := makeRoom need k false r; (q.1, q.2 + 1)
      | _, _ => (es, 0)

/-- An epoch enters the queue whole (R154). -/
def Dev.measPush (d : Dev) (ws : List W32) : Dev :=
  let q := makeRoom ws.length d.gps.epochs.length d.gps.partRead d.gps.epochs
  let d := if q.2 = 0 then d else (d.addSat Reg.NAV_MEAS_DROP q.2).fault pNAV 19
  (({ d with gps := { d.gps with epochs := q.1 ++ [ws] } }).irq pNAV 16).measShow

/-- Drop words from the front of a queue of epochs; the second part says whether the first one left is partly read. -/
def dropWords (n : Nat) : List (List W32) → Bool → List (List W32) × Bool
  | [], _ => ([], false)
  | e :: r, part =>
    if n = 0 then (e :: r, part)
    else if n < e.length then (e.drop n :: r, true)
    else dropWords (n - e.length) r false

/-- Words of the measurement queue. -/
def portMeas : PortAct := portDev (fun n d =>
  let ws := d.gps.epochs.flatten.take n
  let q := dropWords ws.length d.gps.epochs d.gps.partRead
  (ws, ({ d with gps := { d.gps with epochs := q.1, partRead := q.2 } }).measShow))

/-- The record of a tracking channel at the epoch edge (R153, R154). -/
def Dev.measRecord (d : Dev) (c : Nat) : List W32 :=
  let x := d.tc c
  let tx := d.rd (Reg.TC_TXMS c)
  let code := d.codeNow c
  let carr := unsigned64 (d.carrNow c)
  let lockT := min ((d.tm.tbm - x.trackAt) / 10000000) 65535
  let ms := if bitOf tx 31 then (field tx 12 0 + code.1) % 6000 else 0
  [w32 (x.port * 2 ^ 30 + c * 2 ^ 24 + x.prn * 2 ^ 18 + d.tcState c * 2 ^ 15 + (if x.half then 2 ^ 14 else 0) + (if x.slip then 2 ^ 13 else 0)
      + (if bitOf tx 31 then 2 ^ 12 else 0) + (if d.phValid c then 2 ^ 11 else 0)),
   w32 code.2, w32 (min (d.rdN (Reg.TC_CN0 c)) 65535 * 2 ^ 16 + ms), lo32 carr, hi32 carr, d.rd (Reg.TC_DOP c),
   w32 (lockT * 2 ^ 16 + d.fld (Reg.TC_SLIP c) 15 0), 0]

/-- The header of an epoch whose edge is sample `edge` (R154). -/
def Dev.measHeader (d : Dev) (edge n : Nat) : List W32 :=
  let g := if d.tbgState = tbgNone then [0, 0, 0] else ts80Words d.tbg
  [w32 (0xE5 * 2 ^ 24 + n * 2 ^ 16 + d.fld Reg.NAV_EPOCH_SEQ 15 0), lo32 edge, hi32 edge, lo32 d.tbs, hi32 d.tbs,
   g.getD 0 0, g.getD 1 0, g.getD 2 0 ||| w32 (d.tbgState * 2 ^ 16)]

/-! The word queue (R156, R157) -/

/-- NAVW_LEVEL and NAVW_AVAIL. -/
def Dev.navwShow (d : Dev) : Dev :=
  let n := entriesOf d.gps.words
  (d.wrN Reg.NAV_NAVW_LEVEL n).setStat pNAV 16 (n ≠ 0)
where
  entriesOf (ws : List W32) : Nat := ceilDiv ws.length 4

/-- Words of the word queue. -/
def portNavw : PortAct := portDev (fun n d =>
  let ws := d.gps.words
  (ws.take n, ({ d with gps := { d.gps with words := ws.drop n } }).navwShow))

/-- An entry enters the queue; the oldest one makes room (R157). -/
def Dev.navwPush (d : Dev) (ws : List W32) : Dev :=
  let old := d.gps.words
  let full := ceilDiv old.length 4 ≥ 256
  let kept := if full then old.drop (if old.length % 4 = 0 then 4 else old.length % 4) else old
  let d := if full then (d.incSat Reg.NAV_NAVW_DROP).fault pNAV 20 else d
  let thr := d.fld Reg.NAV_NAVW_CTRL 15 8
  let before := ceilDiv kept.length 4
  let d := ({ d with gps := { d.gps with words := kept ++ ws } }).navwShow
  if before < thr ∧ before + 1 ≥ thr then d.irq pNAV 17 else d

/-- Bit `d_i` of the 30 bits of a word, the first being bit 29. -/
def navBit (w : BitVec 30) (i : Nat) : Bool := w.toNat.testBit (30 - i)

/-- The data bits that each parity bit takes, D25 to D30, and whether it takes D29* or D30* (IS-GPS-200). -/
def parityTaps : List (Bool × List Nat) :=
  [(true, [1, 2, 3, 5, 6, 10, 11, 12, 13, 14, 17, 18, 20, 23]),
   (false, [2, 3, 4, 6, 7, 11, 12, 13, 14, 15, 18, 19, 21, 24]),
   (true, [1, 3, 4, 5, 7, 8, 12, 13, 14, 15, 16, 19, 20, 22]),
   (false, [2, 4, 5, 6, 8, 9, 13, 14, 15, 16, 17, 20, 21, 23]),
   (false, [1, 3, 5, 6, 7, 9, 10, 14, 15, 16, 17, 18, 21, 22, 24]),
   (true, [3, 5, 6, 8, 9, 10, 11, 13, 15, 19, 22, 23, 24])]

/-- The data bits of a received word, corrected with D30* of the word before (R156). -/
def navData (w : BitVec 30) (d30 : Bool) (i : Nat) : Bool := Bool.xor (navBit w i) d30

/-- The parity of a word against the last two bits of the word before. -/
def parityOk (w : BitVec 30) (prev : Bool × Bool) : Bool :=
  (List.range 6).all (fun j =>
    match parityTaps[j]? with
    | some (useD29, taps) =>
      navBit w (25 + j) = taps.foldl (fun a i => Bool.xor a (navData w prev.2 i)) (if useD29 then prev.1 else prev.2)
    | none => false)

/-- Words 0 to 3 of an entry (R157). -/
def Dev.navwEntry (d : Dev) (c : Nat) (w : NavWord) : List W32 :=
  let x := d.tc c
  let par := match w.prev with
    | none => 2
    | some p => if parityOk w.bits p then 1 else 0
  let d30 := match w.prev with | some p => p.2 | none => false
  let data := (List.range 24).foldl (fun a i => a * 2 + (if navData w.bits d30 (i + 1) then 1 else 0)) 0
  [w32 (x.port * 2 ^ 30 + c * 2 ^ 24 + x.prn * 2 ^ 18 + w.number * 2 ^ 12 + par * 2 ^ 10 + (if x.inverted then 2 ^ 9 else 0)),
   w32 (data * 2 ^ 6 + w.bits.toNat % 64), lo32 w.tbs, hi32 w.tbs]

/-- The channel whose words of a satellite enter while DEDUP is 1: in FRAME_SYNC, on the lowest port, the lowest of them. -/
def Dev.dedupChannel (d : Dev) (prn : Nat) : Option Nat :=
  let cs := (List.range 64).filter (fun c => d.tcState c = tsFRAME && (d.tc c).prn = prn)
  [0, 1, 2, 3].findSome? (fun p => cs.find? (fun c => (d.tc c).port = p))

/-! One millisecond of a channel (R149 to R156). `k` counts the code periods since START that had passed when it began. -/

/-- The lock indicator of an integration in Q1.15 (R149). -/
def lockOf (k : Nat) (i q : Int) : Int :=
  if i * i + q * q = 0 then Config.lockOfNothing k else min 32767 (Int.fdiv ((i * i - q * q) * 32768) (i * i + q * q))

/-- The newest indicators that 20 ms take in, and their mean by length. -/
def last20 : Nat → List (Nat × Int) → List (Nat × Int)
  | _, [] => []
  | n, x :: r => if 20 ≤ n then [] else x :: last20 (n + x.1) r
def meanLock (l : List (Nat × Int)) : Int :=
  divRound ((l.map (fun (x : Nat × Int) => x.1 * x.2)).sum) (max 1 ((l.map (fun (x : Nat × Int) => x.1)).sum))

/-- The integration: it begins with the length in force, from BIT_SYNC on aligned to bit edges, and gives one lock indicator (R149). -/
def TcChan.integrate (x : TcChan) (k want : Nat) (t : Taps) : TcChan :=
  let len := if x.accN = 0 then (if x.bitEdge.isSome then want else 1) else x.len
  let acc := (x.acc.1 + t.pI, x.acc.2 + t.pQ)
  let n := x.accN + 1
  let e := x.bitEdge.getD 0
  if (k + 1) % len = e % len then
    { x with len := len, acc := (0, 0), accN := 0, locks := if n = len then last20 0 ((len, lockOf k acc.1 acc.2) :: x.locks) else x.locks }
  else { x with len := len, acc := acc, accN := n }

/-- The sign changes by millisecond position, judged over each 100 bits (R150): the position with at least 60 % and 10 of them. -/
def TcChan.findEdge (x : TcChan) (k : Nat) (i : Int) : TcChan :=
  let s := decide (0 ≤ i)
  let h := if x.hist = [] then List.replicate 20 0 else x.hist
  let h := match x.sign with | some b => if b = s then h else modAt h (k % 20) (· + 1) | none => h
  let x := { x with sign := some s, hist := h, histMs := x.histMs + 1 }
  if x.bitReady.isSome ∨ x.histMs < 2000 then x
  else
    let best := (List.range 20).find? (fun p => decide (h.getD p 0 * 10 ≥ h.sum * 6) && decide (10 ≤ h.getD p 0))
    { x with bitReady := best, hist := [], histMs := 0 }

/-- The preamble at the head of a word, upright or inverted (R155). -/
def preambleOf (bits : List Bool) : Option Bool :=
  let p := [true, false, false, false, true, false, true, true]
  if bits = p then some false else if bits = p.map (!·) then some true else none

/-- The last 30 bits as a word, from a list with the newest first. -/
def word30 (bits : List Bool) : BitVec 30 := BitVec.ofNat 30 ((bits.take 30).reverse.foldl (fun a b => a * 2 + (if b then 1 else 0)) 0)

/-- A bit has been received whole (R155): a word that begins with a preamble and passes parity is noted, with the code period of its
first bit; two of one sense 6,000 ms apart give frame sync. -/
def TcChan.takeBit (x : TcChan) (k : Nat) (b : Bool) : TcChan :=
  let bits := (b :: x.bits).take 62
  let x := { x with bits := bits, wordBits := x.wordBits + 1 }
  match preambleOf ((bits.take 30).drop 22).reverse, bits[30]?, bits[31]? with
  | some inv, some d30, some d29 =>
    if parityOk (word30 bits) (d29, d30) then
      let s := k + 1 - 600
      let l := x.preambles.filter (fun (p : Nat × Bool) => s ≤ p.1 + 6000)
      { x with synced := if l.any (fun (p : Nat × Bool) => p = (s - 6000, inv) && decide (6000 ≤ s)) then some (s, inv) else x.synced
               preambles := l ++ [(s, inv)] }
    else x
  | _, _, _ => x

/-- The bits (R150): the prompt sums of the 20 periods from a bit edge on; a bit with a period missing is none. -/
def TcChan.bitStep (x : TcChan) (k : Nat) (i : Int) : TcChan :=
  match x.bitEdge with
  | none => x
  | some e =>
    let x := { x with bitAcc := x.bitAcc + i, bitN := x.bitN + 1 }
    if (k + 1) % 20 = e then
      let whole := decide (x.bitN = 20)
      let b := decide (0 ≤ x.bitAcc)
      let x := { x with bitAcc := 0, bitN := 0 }
      if whole then x.takeBit k b else { x with bits := [] }
    else x

/-- In FRAME_SYNC, the ends of words and the preambles expected (R150, R156). A word with a missing bit is not reported, and the word
after it is unchecked. -/
def TcChan.frameStep (x : TcChan) (k tbs : Nat) : TcChan :=
  let at_ := k + 1 - x.subAt
  let x := if at_ % 6000 = 160 then
      { x with missed := if preambleOf (x.bits.take 8).reverse = some x.inverted then 0 else x.missed + 1 } else x
  if at_ % 600 = 0 then
    let last := match x.bits with | d30 :: d29 :: _ => some (d29, d30) | _ => none
    let whole := decide (x.wordBits = 30)
    { x with
      words := if whole then x.words ++ [⟨(at_ / 600 - 1) % 10 + 1, word30 x.bits, x.prevBits, tbs⟩] else x.words
      prevBits := if whole then last else none
      wordBits := 0 }
  else x

/-- The DISTORT metric of a dump in 10^-4 (R182). -/
def distortOf (k : Nat) (t : Taps) : Nat :=
  let p := (t.pI * t.pI + t.pQ * t.pQ).toNat
  let v : Int := t.veI * t.veI + t.veQ * t.veQ - (t.vlI * t.vlI + t.vlQ * t.vlQ)
  if p = 0 then Config.distortOfNothing k else v.natAbs * 10000 / p

/-- A millisecond in state `st`. -/
def TcChan.step (x : TcChan) (st k want now tbs : Nat) (t : Taps) : TcChan :=
  let x := x.integrate k want t
  let x := if st = tsTRACK then x.findEdge k t.pI else x
  let x := x.bitStep k t.pI
  let x := if st = tsFRAME then x.frameStep k tbs else x
  { x with ms := k + 1, dumpAt := now, distSum := x.distSum + distortOf k t, distN := x.distN + 1 }

end Sys2Proof.Machine
end

