-- ==== Sys2Proof/Machine/Time.lean ====
section
/-! DEFINITION. The commands of the time bases (chapter 04): TB-S steering, the TB-N discipline, captures, TB-G with its holdover
and return, PPS and the RTC. -/

namespace Sys2Proof.Machine

/-! TB-S -/

/-- The rate correction one adjustment sets (R85, R86): toward minus the crystal's offset, by at most the slew that the time
since the last adjustment allows, held at 200 ppm; at the limit with more asked for, TBS_AT_LIMIT stands. -/
def Dev.steerTbs (d : Dev) : Dev :=
  if d.bit Reg.TIME_TBS_DISC 0 && decide (d.tbgState = tbgLocked) && !d.sysStopped then
    let cur := d.rdI Reg.TIME_TBS_PPB
    let slew := d.rdN Reg.TIME_TBS_SLEW_PPB * (d.tm.tbm - d.tm.steerAt) / 1000000000
    let want := -(d.rdI Reg.CLK_XO_PPB)
    let next := capMag (cur + capMag (want - cur) slew) 200000
    let d := if slew = 0 then d else { d with tm := { d.tm with steerAt := d.tm.tbm } }
    let d := (d.wrI Reg.TIME_TBS_PPB next).setStat pTIME 16 true
    if want ≠ capMag want 200000 ∧ next = capMag want 200000 then
      (if d.stat pTIME 17 then d else (d.setStat pTIME 17 true).faultRec pTIME 17)
    else d.setStat pTIME 17 false
  else ({ d with tm := { d.tm with steerAt := d.tm.tbm } }).setStat pTIME 16 false

/-- TBS_RATE_STEER. -/
def execTbsRateSteer (s : State) : Host.Outcome State Fault Refusal := .next (onDev Dev.steerTbs s)

/-! TB-N -/

/-- A discipline write restarts the timeout and ends free-running (R94). -/
def Dev.disciplined (d : Dev) : Dev :=
  ({ d with tm := { d.tm with tbnWrite := d.tm.tbm, tbnOut := false } }).withWall (·.setStat pTIME1 16 false)

/-- The values INCR accepts (R91). -/
def incrOk (v : Nat) : Bool := 0x9FEB851EC ≤ v && v ≤ 0xA0147AE14

/-- A value INCR, or SET_NS, does not accept: status LEN and FAULT.RANGE, nothing else (R91, R93). -/
def tbnRange (s : State) : Status × State := (.len, onDev (·.fault pTIME1 16) s)

/-- The write of INCR (R91). -/
def actIncr (v : Nat) : Act := fun s =>
  if incrOk v then (.ok, onDev (fun d => (d.wr64 Reg.TIME1_INCR v).disciplined) s) else tbnRange s

/-- INCR_WRITE: both words, high then low. -/
def execIncrWrite (req : Requester) (v : W64) (s : State) : Host.Outcome State Fault Refusal :=
  .next (hostCmd req Reg.TIME1_INCR (lo32 v.toNat) (actIncr v.toNat) s)

/-- The write of ADJ (R92). -/
def actAdj (v : W32) : Act := actDev (fun d =>
  ({ (d.wr Reg.TIME1_ADJ v) with tm := { d.tm with adjU := v.toInt * nU } }).disciplined)

/-- ADJ_WRITE. -/
def execAdjWrite (req : Requester) (v : W32) (s : State) : Host.Outcome State Fault Refusal :=
  .next (hostCmd req Reg.TIME1_ADJ v (actAdj v) s)

/-- A step of TB-N to `u` (R93): the record stands before any WALL_SRC record of the cycle (R426). -/
def Dev.stepTbn (d : Dev) (req : Requester) (u : Nat) : Dev :=
  let before := d.tbn
  let was := match d.tm.preStep with
    | some p => if p.1 = d.tm.tbm then p else (d.tm.tbm, req, before, d.rd Reg.TIME1_TBN_STEP_CNT)
    | none => (d.tm.tbm, req, before, d.rd Reg.TIME1_TBN_STEP_CNT)
  let d := ({ d with tm := { d.tm with tbnWrite := d.tm.tbm, tbnOut := false, preStep := some was } }).withWall (fun d =>
    let d := { d with tm := { d.tm with tbnU := u, adjU := 0 } }
    let d := ((d.inc Reg.TIME1_TBN_STEP_CNT).setStat pTIME1 17 true).setStat pTIME1 16 false
    d)
  d.recOwn 0x3C3 ([1#32, lo32 d.tm.tbm, hi32 d.tm.tbm] ++ ts80Words before ++ ts80Words d.tbn)

/-- The 80 bits of TB-N in its units: values wrap at 2^48 seconds. -/
def tbnWrap (u : Int) : Nat := (u % ((2 ^ 48 * 1000000000 * nU : Nat) : Int)).toNat

/-- STEP_CMD = 1 (R93). -/
def actStepAdd (req : Requester) : Act := actDev (fun d =>
  d.stepTbn req (tbnWrap ((d.tm.tbnU : Int) + signed64 (d.rd64 Reg.TIME1_STEP_OFS) * nU)))

/-- TBN_STEP_ADD. -/
def execTbnStepAdd (req : Requester) (s : State) : Host.Outcome State Fault Refusal :=
  .next (hostCmd req Reg.TIME1_STEP_CMD 1#32 (actStepAdd req) s)

/-- The time the SET registers hold, ns. -/
def Dev.setTime (d : Dev) : Nat :=
  (d.rdN Reg.TIME1_SET_S_LO + d.rdN Reg.TIME1_SET_S_HI * 2 ^ 32) * 1000000000 + d.rdN Reg.TIME1_SET_NS

/-- The write of SET_NS (R93). -/
def actSetNs (v : W32) : Act := fun s => if v.toNat > 999999999 then tbnRange s else (.ok, onDev (·.store Reg.TIME1_SET_NS v) s)

/-- STEP_CMD = 2 (R93); a SET_NS of a second or more is refused under R91. -/
def actLoad (req : Requester) : Act := fun s =>
  if s.dev.rdN Reg.TIME1_SET_NS > 999999999 then tbnRange s
  else (.ok, onDev (fun d => d.stepTbn req (d.setTime * nU)) s)

/-- TBN_LOAD. -/
def execTbnLoad (req : Requester) (s : State) : Host.Outcome State Fault Refusal :=
  .next (hostCmd req Reg.TIME1_STEP_CMD 2#32 (actLoad req) s)

/-- The instant at which the discipline times out (R94). -/
def Dev.tbnDue (d : Dev) : Nat := d.tm.tbnWrite + d.rdN Reg.TIME1_TBN_TIMEOUT * 1000000

/-- TBN_TIMEOUT (R94): once after each discipline write; TB-N may run free already, from EBB on (R449). -/
def execTbnTimeout (s : State) : Host.Outcome State Fault Refusal :=
  .next (onDev (fun d =>
    if d.tm.tbnOut then d else
    let d := d.toTbm d.tbnDue
    let d := { d with tm := { d.tm with adjU := 0, tbnOut := true } }
    ((d.withWall (·.setStat pTIME1 16 true)).irq pTIME1 16).recIrq pTIME1 16) s)

/-- CAP_NOW (R95). -/
def actCapNow (req : Requester) : Act := actDev (·.capture req 0xFFFF)
def execCapNow (req : Requester) (v : W32) (s : State) : Host.Outcome State Fault Refusal :=
  .next (hostCmd req Reg.TIME1_CAP_NOW v (actCapNow req) s)

/-! TB-G -/

/-- A change of TBG_STATE: the interrupt and the record (R97). -/
def Dev.setTbg (d : Dev) (st : Nat) : Dev :=
  if d.tbgState = st then d
  else ((d.withWall (·.wrN Reg.TIME_TBG_STATE st)).irq pTIME 17).recIrq pTIME 17

/-- The rates and the uncertainty that a solution brings (R85, R99). -/
def Dev.takeFix (d : Dev) (f : TimeFix) : Dev :=
  ((d.wrI Reg.CLK_XO_PPB f.xoPpb).wrI Reg.CLK_TCXO_PPB f.tcxoPpb).wr Reg.TIME_PPS_UNC (sat32 f.uncNs)

/-- The first lock of TB-G (R97). -/
def Dev.lockTbg (d : Dev) (f : TimeFix) : Dev :=
  if d.tbgState = tbgNone then
    let d := d.takeFix f
    let d := d.withWall (fun d => { (d.wrN Reg.TIME_TBG_STATE tbgLocked) with tm := { d.tm with
      tbgP := f.gpsNs * pU, tbgErrP := 0, burstStep := 0, stepTo := none, steerAt := d.tm.tbm } })
    ((d.setBit Reg.TIME_PPS_STATUS 2 false).irq pTIME 17).recIrq pTIME 17
  else d

/-- Holdover begins (R99): the uncertainty at loss is kept, a step or slew in hand ends. -/
def Dev.toHoldover (d : Dev) : Dev :=
  if d.tbgState = tbgLocked ∨ d.tbgState = tbgReturnS then
    let d := { d with tm := { d.tm with
      holdFrom := d.tm.tbm, holdExpired := false, uncLoss := d.rdN Reg.TIME_PPS_UNC, tbgErrP := 0, burstStep := 0, stepTo := none } }
    d.setTbg tbgHoldoverS
  else d

/-- TBG_HOLDOVER: the navigation solution is lost. -/
def execTbgHoldover (s : State) : Host.Outcome State Fault Refusal := .next (onDev Dev.toHoldover s)

/-- PPS_UNC in holdover (R99): UNC_LOSS + HOLD_RATE_PPB x elapsed seconds. -/
def Dev.holdUnc (d : Dev) : Nat :=
  d.tm.uncLoss + d.rdN Reg.TIME_HOLD_RATE_PPB * ((d.tm.tbm - d.tm.holdFrom) / 1000000000)

/-- HOLDOVER_EXPIRY (R100). -/
def execHoldoverExpiry (s : State) : Host.Outcome State Fault Refusal :=
  .next (onDev (fun d =>
    if d.tbgState = tbgHoldoverS ∧ d.tm.holdExpired = false then
      let d := d.toTbm (d.tm.holdFrom + d.rdN Reg.TIME_HOLDOVER_MAX * 1000000000)
      let d := ({ d with tm := { d.tm with holdExpired := true } }).faultRec pTIME 16
      if d.bit Reg.TIME_PPS_CTRL 1 then d else d.setBit Reg.TIME_PPS_STATUS 2 true
    else d) s)

/-- The solution returns (R101): a small error is slewed out, a large one is stepped at the next whole second. The error is
TB-G minus the solution's time. A solution that comes while a step is announced only corrects the step. -/
def Dev.returnTbg (d : Dev) (f : TimeFix) : Dev :=
  if d.tbgState = tbgHoldoverS then
    let err : Int := (d.tm.tbgP : Int) - (f.gpsNs * pU : Nat)
    let d := (d.takeFix f).setBit Reg.TIME_PPS_STATUS 2 false
    if d.tm.stepTo.isSome then { d with tm := { d.tm with stepTo := some (-err) } }
    else if err.natAbs ≤ 1000 * pU then
      ({ d with tm := { d.tm with tbgErrP := err } }).setTbg tbgReturnS
    else ({ d with tm := { d.tm with stepTo := some (-err) } }).irq pTIME 18
  else d

/-- The next whole second of TB-G after now, in seconds. -/
def Dev.nextSecond (d : Dev) : Nat := d.tbg / 1000000000 + 1

/-- TBG_STEP (R101): at the next whole second after an announcement. -/
def execTbgStep (s : State) : Host.Outcome State Fault Refusal :=
  .next (onDev (fun d =>
    match d.tm.stepTo with
    | none => d
    | some delta =>
      let d := d.toTbg (d.nextSecond * 1000000000)
      let before := d.tbg
      let d := d.withWall (fun d =>
        { (d.wrN Reg.TIME_TBG_STATE tbgLocked) with tm := { d.tm with
            tbgP := ((d.tm.tbgP : Int) + delta).toNat, parkG := ((d.tm.parkG : Int) + delta).toNat, stepTo := none, steppedAt := some d.tm.tbm, steppedFrom := before } })
      let d := d.recOwn 0x3C3 ([0#32, lo32 d.tm.tbm, hi32 d.tm.tbm] ++ ts80Words before ++ ts80Words d.tbg)
      (d.irq pTIME 17).recIrq pTIME 17) s)

/-- TBG_SLEW_DONE (R101): the error reaches zero at the return slew. -/
def execTbgSlewDone (s : State) : Host.Outcome State Fault Refusal :=
  .next (onDev (fun d =>
    if d.tbgState = tbgReturnS then
      let d := d.advance (ceilDiv d.tm.tbgErrP.natAbs (10 * d.rdN Reg.TIME_RET_SLEW_NS))
      d.setTbg tbgLocked
    else d) s)

/-! PPS and the RTC -/

/-- PPS is being emitted (R98, R100, R449). -/
def Dev.ppsOn (d : Dev) : Bool :=
  d.bit Reg.TIME_PPS_CTRL 0 && decide (d.tbgState ≠ tbgNone) && !d.bit Reg.TIME_PPS_STATUS 2 && !d.sysStopped

/-- The second of TB-G whose pulse comes next: the one just reached while its pulse is still out, else the next. -/
def Dev.ppsSecond (d : Dev) : Nat :=
  let k := d.tbg / 1000000000
  if d.tbg % 1000000000 < 20 ∧ d.tm.ppsLast ≠ some k then k else k + 1

/-- PPS_PULSE (R98): at the whole second of TB-G; the pulse of an announced step's second is not emitted (R101). -/
def execPpsPulse (s : State) : Host.Outcome State Fault Refusal :=
  .next (onDev (fun d =>
    if d.ppsOn ∧ d.tm.stepTo = none then
      let k := d.ppsSecond
      let d := d.toTbg (k * 1000000000)
      ({ d with tm := { d.tm with ppsLast := some k, ppsSince := some d.tm.tbm } }).irq pTIME 16
    else d) s)

/-- PPS_PULSE_END (R98): WIDTH ms after the pulse began. -/
def execPpsPulseEnd (s : State) : Host.Outcome State Fault Refusal :=
  .next (onDev (fun d =>
    match d.tm.ppsSince with
    | none => d
    | some t =>
      let d := d.toTbm (t + d.fld Reg.TIME_PPS_CTRL 24 16 * 1000000)
      { d with tm := { d.tm with ppsSince := none } }) s)

/-- The PPS output is at its active level (R98). -/
def Dev.ppsActive (d : Dev) : Bool := d.tm.ppsSince.isSome

/-- PPS_STATUS (R109). -/
def Dev.ppsStatus (d : Dev) : W32 :=
  let stepped := match d.tm.steppedAt with
    | some t => decide (d.tm.tbm < t + 1000000000)
    | none => false
  let w := (d.rd Reg.TIME_PPS_STATUS) &&& 0x4#32
  let w := putBit w 6 (d.tbgState = tbgHoldoverS && d.clockLost 6)
  let w := putBit w 5 (d.tbgState = tbgReturnS)
  let w := putBit w 4 stepped
  let w := putBit w 3 d.tm.stepTo.isSome
  let w := putBit w 1 (d.tbgState = tbgHoldoverS)
  putBit w 0 (d.ppsOn && d.tm.stepTo.isNone)

/-- RTC_LOAD (R105): the selected source's value and name, while it is valid. -/
def execRtcLoad (s : State) : Host.Outcome State Fault Refusal :=
  .next (onDev (fun d =>
    let w := d.wall
    if w.src ≤ 1 then { d with tm := { d.tm with rtcNs := w.ns, rtcAt := d.tm.tbm, rtcSrc := w.src + 1 } } else d) s)

end Sys2Proof.Machine
end

