-- ==== Sys2Proof/Machine/GeoOps.lean ====
section
/-! DEFINITION. Antenna consistency and boom geometry (chapter 07): the integrity flags, the gate on the return of the clock, the bending
model's shape, the states of the baselines, and what the firmware does with the channels. -/

namespace Sys2Proof.Machine

/-- The firmware runs on the MP (R409, R410). -/
def Dev.mpRuns (d : Dev) : Bool := d.rdN Reg.WDG_MP_STATE = 0 && d.powerState ≤ 1

/-! Integrity flags (R182, R191) -/

def ifSPOOF : Nat := 0
def ifJUMP : Nat := 1
def ifDRIFT : Nat := 2
def ifJAM : Nat := 3
def ifPOWER : Nat := 4
def ifFLAT : Nat := 5
def ifDISTORT : Nat := 6
def ifCCD : Nat := 7
def ifXCODE : Nat := 8
def ifGATED : Nat := 9
def Dev.integ (d : Dev) (b : Nat) : Bool := d.bit Reg.INTEG_INTEG_FLAGS b

/-- Set or clear a flag: a change is counted, raises the interrupt, is recorded, and moves STATUS. -/
def Dev.setInteg (d : Dev) (b : Nat) (v : Bool) : Dev :=
  if d.integ b = v then d
  else
    let d := (d.setBit Reg.INTEG_INTEG_FLAGS b v).inc Reg.INTEG_INTEG_EVT
    let d := d.setStat pINTEG 16 (d.integ ifSPOOF)
    let d := d.setStat pINTEG 17 (d.integ ifJUMP || d.integ ifDRIFT || d.integ ifPOWER || d.integ ifFLAT)
    (d.irq pINTEG 16).recIrq pINTEG 16

/-- No clock flag stands (R184). -/
def Dev.clkSound (d : Dev) : Bool := !d.integ ifJUMP && !d.integ ifDRIFT

/-! The gate on a return of the clock (R185) -/

/-- A solution returns (R101): at once, or, while CLK_GATE is 1, after the gate is released; the newest solution waits. One that comes
while a step is announced only corrects the step. -/
def Dev.gateReturn (d : Dev) (f : TimeFix) : Dev :=
  if d.tbgState ≠ tbgHoldoverS then d
  else if d.bit Reg.INTEG_INTEG_POLICY 1 && d.tm.stepTo.isNone then
    let quiet := if d.gps.gated.isSome then d.gps.clkQuiet else d.tm.tbm
    ({ d with gps := { d.gps with gated := some (f, d.tbg), clkQuiet := quiet } }).setInteg ifGATED true
  else d.returnTbg f

/-- A waiting return ends, and no return waits. -/
def Dev.dropGate (d : Dev) : Dev := ({ d with gps := { d.gps with gated := none } }).setInteg ifGATED false

/-- The waiting return proceeds: CLK_QUIET has passed, ACCEPT_CLOCK is written, or CLK_GATE is 0. Its fix is carried on by the time since
it came. -/
def Dev.gateOpen (d : Dev) : Dev :=
  match d.gps.gated with
  | none => d
  | some (f, at_) => d.dropGate.returnTbg { f with gpsNs := f.gpsNs + d.tbg - at_ }

/-! Nominal geometry (R170, R176) -/

/-- Antennas of the image. -/
def Dev.antenna (d : Dev) (a : Nat) : Antenna :=
  match d.imp.active with
  | some im => (sfind im.ants a).getD {}
  | none => {}

/-- Tip coordinates of a body (R175): the outermost antenna at y ≥ 2,000 mm and at y ≤ -2,000 mm, 0 where there is none. -/
def Dev.tipLeft (d : Dev) (b : Nat) : Int :=
  [0, 1, 2, 3].foldl (fun m a => let x := d.antenna a; if x.body = b ∧ x.y ≥ 2000 ∧ x.y > m then x.y else m) 0
def Dev.tipRight (d : Dev) (b : Nat) : Int :=
  [0, 1, 2, 3].foldl (fun m a => let x := d.antenna a; if x.body = b ∧ x.y ≤ -2000 ∧ x.y < m then x.y else m) 0

/-- The cantilever's shape at η = n / m, times u (R176): u η²(3 − η)/2 up to the tip, u (1 + 1.5(η − 1)) beyond it. -/
def shape (u n m : Int) : Int :=
  if m = 0 then 0
  else
    let n : Int := n.natAbs
    let m : Int := m.natAbs
    if n ≤ m then divRound (u * (n * n * (3 * m - n))) (2 * m * m * m).toNat
    else divRound (u * (2 * m + 3 * (n - m))) (2 * m).toNat

/-- A tip deflection of u mm at y, in micrometres. -/
def bend (u n m : Int) : Int := shape (u * 1000) n m

/-- Δx(y) of body `b` in micrometres, from the active set (R176). -/
def Dev.deflect (d : Dev) (b : Nat) (y : Int) : Int :=
  if b = 0 then 0
  else if y ≥ 0 then bend (d.rdI (Reg.BSS_UL (b - 1))) y (d.tipLeft b)
  else bend (d.rdI (Reg.BSS_UR (b - 1))) y (d.tipRight b)

/-- Where an antenna stands for a pose of the vehicle: east, north and up in micrometres. -/
def Dev.antPos (d : Dev) (a : Nat) (k : Knot) : Int × Int × Int :=
  let x := d.antenna a
  let p := bodyPoint (d.bodyFrame x.body k) (x.x * 1000 + d.deflect x.body x.y) (x.y * 1000)
  (p.1, p.2, (x.z + (d.body x.body).oz) * 1000)

/-- The vehicle's pose as predicted for now (R125), else its newest point. -/
def Dev.poseNow (d : Dev) : Knot :=
  match d.pose.motion with
  | some m => predictFrom m d.pose.base d.tbs
  | none => d.pose.base

/-- The nominal baseline from A0 to Ak (R170): east, north and up in micrometres. -/
def Dev.nominalVec (d : Dev) (k : Nat) : Int × Int × Int :=
  let p := d.antPos 0 d.poseNow
  let q := d.antPos k d.poseNow
  (q.1 - p.1, q.2.1 - p.2.1, q.2.2 - p.2.2)

/-- Its length in mm. -/
def Dev.nominalLen (d : Dev) (k : Nat) : Nat :=
  let v := d.nominalVec k
  isqrt ((v.1 * v.1 + v.2.1 * v.2.1 + v.2.2 * v.2.2).toNat) / 1000

/-! Baselines (R168 to R174) -/

def Dev.bl (d : Dev) (k : Nat) : BaseLn := sget (fun _ => {}) d.gps.bl k
def Dev.modBl (d : Dev) (k : Nat) (f : BaseLn → BaseLn) : Dev :=
  { d with gps := { d.gps with bl := sset (fun _ => {}) d.gps.bl k (f (d.bl k)) } }
def bsNONE : Nat := 0
def bsSEARCH : Nat := 1
def bsFIXED : Nat := 2
def Dev.blState (d : Dev) (k : Nat) : Nat := d.fld (Reg.BSS_BL_STATE (k - 1)) 1 0

/-- A change of a baseline's state (R189). -/
def Dev.setBl (d : Dev) (k st : Nat) : Dev :=
  if d.blState k = st then d else (d.setFld (Reg.BSS_BL_STATE (k - 1)) 1 0 st).irq pBSS 17

/-- A FIXED baseline is lost (R174). -/
def Dev.blLose (d : Dev) (k code st : Nat) : Dev :=
  if d.blState k = bsFIXED then
    let d := ((d.setFld (Reg.BSS_BL_STATE (k - 1)) 7 4 code).setBl k st).modBl k (fun _ => {})
    d.recIrq pBSS 17
  else (d.modBl k (fun _ => {})).setBl k st

/-- Every baseline returns to SEARCH (R174, R186). -/
def Dev.blLoseAll (d : Dev) (code : Nat) : Dev :=
  [1, 2, 3].foldl (fun d k => if d.blState k = bsNONE then d else d.blLose k code bsSEARCH) d

/-- ANT_CTRL has been written (R140, R168, R174): ports that are off lose their channels, and their baselines are in NONE. -/
def Dev.antCtrlWritten (d : Dev) : Dev :=
  let d := d.antRefresh
  let d := [0, 1, 2, 3].foldl (fun d p => if d.portEn p then d else d.portLost p) d
  [1, 2, 3].foldl (fun d k => if d.portEn 0 && d.portEn k then d else d.blLose k 4 bsNONE) d

/-! The geometry set (R177, R178) -/

/-- Terms of body `b` in the register's words, as the active copy, and the nominal ones (R177). -/
def Dev.nominalTerms (d : Dev) (b : Nat) : Terms :=
  let bo := d.body b
  { ox := bo.ox, oy := bo.oy, yaw := bo.yaw }

/-- A term of a body by its number (R189). -/
def termOf (t : Terms) (j : Nat) : Int :=
  match j with
  | 0 => t.ox | 1 => t.oy | 2 => t.yaw | 3 => t.lat | 4 => t.ul | _ => t.ur

/-- The address of term `j` of body `b`. -/
def termAddr (b j : Nat) : Nat := Reg.BSS_OX (b - 1) + 4 * j

/-- The word that holds a term: YAW has 16 bits. -/
def termWord (j : Nat) (v : Int) : W32 := if j = 2 then w32i v &&& 0xFFFF#32 else w32i v

/-! XCODE (R182) -/

/-- The difference of two code positions in mm of range. -/
def codeDiffMm (a b : Nat) : Nat :=
  let x : Int := ((a : Int) - b + 523776) % 1047552 - 523776
  x.natAbs * 299792458 / 1047552

/-- The lowest channel that tracks a satellite on a port. -/
def Dev.portChan (d : Dev) (prn port : Nat) : Option Nat :=
  (List.range 64).find? (fun c => d.tcTracks c && decide ((d.tc c).prn = prn) && decide ((d.tc c).port = port))

/-- The channels of a satellite that disagree, each with one that does not (R182): with two ports the weaker, else those not of the
majority; of two equal halves, the one without A0 (DESIGN CHOICE, log entry 185). -/
def Dev.xcodeBad (d : Dev) (prn : Nat) : List (Nat × Nat) :=
  match d.portChan prn 0 with
  | none => []
  | some c0 =>
    let others := [1, 2, 3].filterMap (fun k => (d.portChan prn k).map (fun c =>
      (c, decide (codeDiffMm (d.codeNow c).2 (d.codeNow c0).2 > d.nominalLen k + d.rdN Reg.INTEG_XCODE_M * 1000))))
    let bad := (others.filter (fun (p : Nat × Bool) => p.2)).map (fun (p : Nat × Bool) => p.1)
    match bad, others with
    | [], _ => []
    | c :: _, [_] => if d.rdN (Reg.TC_CN0 c) < d.rdN (Reg.TC_CN0 c0) then [(c, c0)] else [(c0, c)]
    | c :: _, _ => if bad.length > others.length - bad.length + 1 then [(c0, c)] else bad.map (fun b => (b, c0))

/-- A channel starts from another's code and Doppler. -/
def Dev.startFrom (d : Dev) (c from_ : Nat) : Dev :=
  let d := (d.wrN (Reg.TC_INIT_CODE c) (d.codeNow from_).2).wr (Reg.TC_INIT_REF c) (w32 d.smp)
  (d.wrI (Reg.TC_INIT_DOP c) (divRound (d.rdI (Reg.TC_DOP from_)) 1000)).tcBegin c

/-- The check of one epoch: each disagreeing channel restarts from another port's code, and the flag is held for 1 s. -/
def Dev.xcodeCheck (d : Dev) : Dev :=
  let found := (List.range 32).flatMap (fun i => d.xcodeBad (i + 1))
  let d := found.foldl (fun d (p : Nat × Nat) => d.startFrom p.1 p.2) d
  let hold := if found = [] then d.gps.xcodeUntil else some (d.tm.tbm + 1000000000)
  let on : Bool := match hold with | some t => decide (d.tm.tbm < t) | none => false
  ({ d with gps := { d.gps with xcodeUntil := if on then hold else none } }).setInteg ifXCODE on

/-! The navigation firmware at the basic level (R144) -/

/-- The firmware owns acquisition and channels: basic level, its part running, CK_NAV there. -/
def Dev.fwOwns (d : Dev) : Bool := !d.bit (Reg.MODE pNAV) 0 && d.mpRuns && d.att.boot = 4 && !d.clockLost 6

/-- The channels of a slot, whether it is in use, and its satellite. -/
def slotChans (s : Nat) : List Nat := (List.range 4).map (4 * s + ·)
def Dev.slotUsed (d : Dev) (s : Nat) : Bool := (slotChans s).any d.tcActive
def Dev.slotPrn (d : Dev) (s : Nat) : Option Nat := ((slotChans s).find? d.tcActive).map (fun c => (d.tc c).prn)

/-- A satellite is known to stand below ELEV_MASK. -/
def Dev.lowSat (d : Dev) (prn : Nat) : Bool :=
  match sfind d.gps.dirs prn with
  | some (_, _, u) => decide (u * one60 < sinTurn (d.rdN Reg.NAV_ELEV_MASK) 360 * 1000000000)
  | none => false

/-- The slots in use and the first that is free, of MAX_SATS. -/
def Dev.usedSlots (d : Dev) : List Nat := (List.range 16).filter d.slotUsed
def Dev.freeSlot (d : Dev) : Option Nat := if d.usedSlots.length < d.rdN Reg.NAV_MAX_SATS then (List.range 16).find? (fun s => !d.slotUsed s) else none

/-- The channels of a slot are set up by the firmware and started on the enabled ports. -/
def Dev.fwStart (d : Dev) (s prn code : Nat) (dop : Int) (ref : W32) : Dev :=
  [0, 1, 2, 3].foldl (fun d p =>
    let c := 4 * s + p
    if d.portEn p then
      let d := ((d.wrN (Reg.TC_CFG c) (p * 2 ^ 30 + prn * 2 ^ 24)).wr (Reg.TC_LOOP c) (resetWord (Reg.TC_LOOP c))).wr (Reg.TC_TAPS c) (resetWord (Reg.TC_TAPS c))
      (((d.wrN (Reg.TC_INIT_CODE c) code).wrI (Reg.TC_INIT_DOP c) dop).wr (Reg.TC_INIT_REF c) ref).tcBegin c
    else d) d

/-- The firmware reads the results: a satellite detected that has no slot and does not stand too low takes a free one (R148). -/
def Dev.fwResult (d : Dev) (w0 w1 w3 : W32) : Dev :=
  let prn := field w0 29 24
  if bitOf w0 16 && !d.lowSat prn && !d.usedSlots.any (fun s => d.slotPrn s = some prn) then
    match d.freeSlot with
    | some s => d.fwStart s prn (field w0 10 0 * 512) w1.toInt w3
    | none => d
  else d
def Dev.fwResults : Nat → Dev → Dev
  | 0, d => d
  | n + 1, d =>
    match d.gps.results with
    | w0 :: w1 :: _ :: w3 :: r => Dev.fwResults n (({ d with gps := { d.gps with results := r } }).fwResult w0 w1 w3)
    | _ => d

/-- The search without an almanac: PRN 1 to 32 on A0, as far as the queue takes jobs, with the bins of chapter 06's worked example. -/
def Dev.fwPush : Nat → Dev → Dev
  | 0, d => d
  | n + 1, d =>
    match d.gps.sweep with
    | some prn =>
      if d.gps.jobs.length + (if d.gps.running.isSome then 1 else 0) < 16 then
        let j : AcqJob := { port := 0, prn := prn, nc := 10, dbin := 500, f0 := -4750, ngrp := 5, thr := 512 }
        Dev.fwPush n (({ d with gps := { d.gps with jobs := d.gps.jobs ++ [j], sweep := if prn < 32 then some (prn + 1) else none } }).acqNext)
      else d
    | none => d

/-- The firmware's turn at acquisition: it reads what results there are and pushes what jobs the queue takes. -/
def Dev.fwSearch (d : Dev) : Dev :=
  if d.fwOwns then ((Dev.fwPush 16 (Dev.fwResults 16 d))).acqShow else d

/-- Slots that the firmware gives up: satellites below ELEV_MASK, then slots beyond MAX_SATS, the highest first. -/
def Dev.fwTrim (d : Dev) : Dev :=
  if d.fwOwns then
    let drop (d : Dev) (l : List Nat) : Dev := (l.flatMap slotChans).foldl (fun d c => d.setTc c tsIDLE) d
    let d := drop d (d.usedSlots.filter (fun s => (d.slotPrn s).any d.lowSat))
    drop d (d.usedSlots.drop (d.rdN Reg.NAV_MAX_SATS))
  else d

/-- The level becomes basic (R144): jobs queued are flushed; channels that fit the slot plan are adopted, the others go to IDLE and, where
their slot has a satellite, start anew on their own port with its code; then the firmware searches. -/
def Dev.fwAdopt (d : Dev) : Dev :=
  let d := d.acqFlush
  let fits (d : Dev) (c : Nat) : Bool := (d.tc c).port = c % 4 && d.slotPrn (c / 4) = some (d.tc c).prn
  let odd := (List.range 64).filter (fun c => d.tcActive c && !fits d c)
  let d := odd.foldl (fun d c => d.setTc c tsIDLE) d
  let d := odd.foldl (fun d c =>
    match (slotChans (c / 4)).find? d.tcActive with
    | some o => if d.portEn (c % 4) then (d.wrN (Reg.TC_CFG c) ((c % 4) * 2 ^ 30 + (d.tc o).prn * 2 ^ 24)).startFrom c o else d
    | none => d) d
  ({ d with gps := { d.gps with sweep := some 1 } }).fwTrim.fwSearch

end Sys2Proof.Machine
end

