-- ==== Sys2Proof/Machine/NetOps.lean ====
section
/-! DEFINITION. The networks and sensor inputs (chapter 20): CAN filters, queues and CANTX slots, the Ethernet queue, analog inputs and
their limits, frequency inputs, and what a loop reads of them. -/

namespace Sys2Proof.Machine

def pNET : Nat := 0x0A0
def pCAN (p : Nat) : Nat := 0x0A1 + p
def pAIN : Nat := 0x0A3
def pFIN : Nat := 0x0A4
def pIMU : Nat := 0x0A5
def pGPIO : Nat := 0x0A6

/-! CAN -/

/-- A CAN port; change it. -/
def Dev.can (d : Dev) (p : Nat) : CanPort := sget (fun _ => {}) d.net.can p
def Dev.modCan (d : Dev) (p : Nat) (f : CanPort → CanPort) : Dev :=
  { d with net := { d.net with can := sset (fun _ => {}) d.net.can p (f (d.can p)) } }

/-- The controller of a port runs: enabled, and in RUN or SLACK (R447, R493). -/
def Dev.canOn (d : Dev) (p : Nat) : Bool := d.bit (Reg.CAN_CAN_CFG p) 0 && d.powerState ≤ 1 && !d.clockLost 3

/-- Data bytes of a DLC (ISO 11898-1). -/
def dlcBytes (dlc : Nat) : Nat :=
  if dlc ≤ 8 then dlc
  else match dlc with
    | 9 => 12 | 10 => 16 | 11 => 20 | 12 => 24 | 13 => 32 | 14 => 48 | _ => 64

/-- Data bytes of a frame: a classical frame has at most 8, whatever its DLC (ISO 11898-1). -/
def frameBytes (fdf : Bool) (dlc : Nat) : Nat := if fdf then dlcBytes dlc else min dlc 8

/-- A data field of exactly `n` bytes. -/
def padBytes (n : Nat) (bs : List Byte) : List Byte := (List.range n).map (fun i => bs.getD i 0#8)

/-- The lowest-numbered filter that a frame matches (R473). -/
def Dev.canFilter (d : Dev) (p : Nat) (f : CanFrame) : Option Nat :=
  (List.range 32).find? (fun i =>
    let fid := d.rd (Reg.CAN_FILT_ID p i)
    let mask := d.rd (Reg.CAN_FILT_MASK p i)
    bitOf fid 31 = f.ide && (w32 f.id.val ^^^ (fid &&& 0x1FFFFFFF#32)) &&& mask = 0#32)

/-- Words 0 and 1 of a frame (R474). -/
def frameW0 (brs fdf ide : Bool) (id : Nat) : W32 :=
  w32 (id % 2 ^ 29 + (if ide then 2 ^ 29 else 0) + (if fdf then 2 ^ 30 else 0) + (if brs then 2 ^ 31 else 0))

/-- A host FIFO entry (R474). -/
def rxEntry (f : CanFrame) (filt stamp : Nat) : List W32 :=
  [frameW0 f.brs f.fdf f.ide f.id.val, w32 (filt * 16 + f.dlc.val), lo32 stamp, hi32 stamp]
    ++ wordsBE (padBytes 64 (padBytes (frameBytes f.fdf f.dlc.val) f.data))

/-- Frames that a flat FIFO of entries of `k` words holds. -/
def entriesIn (k : Nat) (ws : List W32) : Nat := ceilDiv ws.length k

/-- HOST: the frame enters the port's FIFO of 64 frames, or is discarded (R473). -/
def Dev.canToHost (d : Dev) (p : Nat) (f : CanFrame) (filt : Nat) : Dev :=
  if entriesIn 20 (d.can p).rx ≥ 64 then (d.incSat (Reg.CAN_RX_DROP p)).fault (pCAN p) 17
  else
    let stamp := d.tbs
    let d := d.modCan p (fun c => { c with rx := c.rx ++ rxEntry f filt stamp })
    (d.wrN (Reg.CAN_RX_LEVEL p) (entriesIn 20 (d.can p).rx)).irq (pCAN p) 16

/-- A received frame takes the actions of its filter (R473). -/
def Dev.canReceive (d : Dev) (p : Nat) (f : CanFrame) : Dev :=
  if f.remote || (f.fdf && !d.bit (Reg.CAN_CAN_CFG p) 1) then d
  else match d.canFilter p f with
    | none => d
    | some i =>
      let act := d.rd (Reg.CAN_FILT_ACT p i)
      let d := d.inc (Reg.CAN_FILT_HITS p i)
      let d := if bitOf act 0 then d.canToHost p f i else d
      let d := if bitOf act 1 && d.rdN Reg.POSE_POSE_SRC = p + 1 then (d.inc (Reg.CAN_POSE_CNT p)).canPose (p + 1) f else d
      if bitOf act 2 && d.powerState = 1 then d.wakeBy (3 + p) else d

/-- The TX_PUSH of a frame (R475): the words written make a frame whose count matches its DLC, and there is room. -/
def Dev.canPushOk (d : Dev) (p : Nat) : Bool :=
  let ws := (d.can p).tx
  let n := frameBytes (bitOf (ws.getD 0 0) 30) (field (ws.getD 1 0) 3 0)
  ws.length = 2 + ceilDiv n 4 && 2 ≤ ws.length && (d.can p).queue.length < 16

/-- Queue the frame, or empty the port (R475, R32). -/
def Dev.canPush (d : Dev) (p : Nat) : Dev :=
  let ws := (d.can p).tx
  let n := frameBytes (bitOf (ws.getD 0 0) 30) (field (ws.getD 1 0) 3 0)
  let fr : TxFrame := { w0 := ws.getD 0 0, w1 := ws.getD 1 0, data := ((ws.drop 2).flatMap bytesBE).take n }
  let d := d.modCan p (fun c => { c with tx := [], queue := c.queue ++ [fr] })
  d.wrN (Reg.CAN_TX_LEVEL p) (d.can p).queue.length

/-- The write of TX_PUSH. -/
def actCanPush (p : Nat) : Act := fun s =>
  if s.dev.canPushOk p then (.ok, onDev (·.canPush p) s)
  else (.len, onDev (fun d => (d.modCan p (fun c => { c with tx := [] })).lenReject (pCAN p)) s)

/-- A word written to TX_PORT. -/
def actCanTxWord (p : Nat) (v : W32) : Act := actDev (fun d => d.modCan p (fun c => { c with tx := c.tx ++ [v] }))

/-- Words of the host FIFO (R474). -/
def portCanRx (p : Nat) : PortAct := portDev (fun n d =>
  let ws := (d.can p).rx
  let d := d.modCan p (fun c => { c with rx := c.rx.drop n })
  (ws.take n, d.wrN (Reg.CAN_RX_LEVEL p) (entriesIn 20 (d.can p).rx)))

/-! CANTX slots (R476) -/

/-- The value that a slot sends: rounded to the nearest integer and held in the range of its width. -/
def ctxValue (u scale ofs : W32) (bytes : Nat) (sgn : Bool) : Int :=
  let v := fToFixed (fAdd (fMul u scale) ofs) 1 1
  if sgn then clampI (-(2 ^ (8 * bytes - 1) : Nat)) ((2 ^ (8 * bytes - 1) : Nat) - 1) v
  else clampI 0 ((2 ^ (8 * bytes) : Nat) - 1) v

/-- The frame of slot `j` of port `p` for an output `u`. -/
def Dev.ctxFrame (d : Dev) (p j : Nat) (u : W32) : TxFrame :=
  let id := d.rd (Reg.CAN_CTX_ID p j)
  let fmt := d.rd (Reg.CAN_CTX_FMT p j)
  let bytes := 2 ^ field fmt 7 6
  let v := ctxValue u (d.rd (Reg.CAN_CTX_SCALE p j)) (d.rd (Reg.CAN_CTX_OFS p j)) bytes (bitOf fmt 8)
  let be := natBE bytes (v % (2 ^ (8 * bytes) : Nat)).toNat
  let vs := if bitOf fmt 9 then be else be.reverse
  let ofs := field fmt 5 0
  let fd := d.bit (Reg.CAN_CAN_CFG p) 1
  let n := frameBytes fd (field fmt 13 10)
  { slot := some j, w0 := frameW0 (fd && d.bit (Reg.CAN_CAN_CFG p) 2) fd (bitOf id 31) (field id 28 0), w1 := w32 (field fmt 13 10)
    data := (List.range n).map (fun i => if ofs ≤ i ∧ i < ofs + bytes then vs.getD (i - ofs) 0 else 0xFF#8) }

/-- Change a slot. -/
def CanPort.slot (c : CanPort) (j : Nat) : CtxSlot := sget (fun _ => {}) c.slots j
def CanPort.modSlot (c : CanPort) (j : Nat) (f : CtxSlot → CtxSlot) : CanPort :=
  { c with slots := sset (fun _ => {}) c.slots j (f (c.slot j)) }

/-- MIN_PERIOD of a slot, ns. -/
def Dev.ctxPeriod (d : Dev) (p j : Nat) : Nat := d.fld (Reg.CAN_CTX_FMT p j) 31 16 * 1000000

/-- A publication to CANTX slot `s` (R476): sent at once, held until the period ends, or kept as the latest value while the
port is bus-off. -/
def Dev.cantxPublish (d : Dev) (s : Nat) (u : W32) : Dev :=
  let p := s / 8
  let j := s % 8
  let fr := d.ctxFrame p j u
  let x := (d.can p).slot j
  let now := d.tm.tbm
  let inPeriod : Bool := match x.sentAt with | some t => decide (now < t + d.ctxPeriod p j) | none => false
  if !d.bit (Reg.CAN_CAN_CFG p) 0 || d.pow.pfAt.isSome then d
  else if (d.can p).busOff then d.modCan p (·.modSlot j (fun x => { x with ready := some fr, held := none }))
  else if inPeriod then d.modCan p (·.modSlot j (fun x => { x with held := some fr }))
  else d.modCan p (·.modSlot j (fun _ => { sentAt := some now, ready := some fr, held := none }))

/-- The frame that goes on the bus next: a slot's, lowest slot first, else the host's oldest (R476). -/
def CanPort.nextOut (c : CanPort) : Option TxFrame :=
  match c.slots.findSome? (fun p => p.2.ready) with
  | some f => some f
  | none => c.queue.head?

/-! Ethernet (R478, R479) -/

/-- Bytes in the host queue. -/
def Dev.ethRxBytes (d : Dev) : Nat := 4 * d.net.rx.length

/-- A frame enters the host queue of 16 KiB as a length word and the frame, padded to words. -/
def Dev.ethToHost (d : Dev) (fr : List Byte) : Dev :=
  let ws := w32 (fr.length % 2048) :: wordsBE fr
  if d.ethRxBytes + 4 * ws.length > 16384 then (d.incSat Reg.NET_RX_DROP).fault pNET 16
  else
    let d := { d with net := { d.net with rx := d.net.rx ++ ws } }
    (d.wrN Reg.NET_RX_LEVEL d.ethRxBytes).irq pNET 16

/-- The station's own addresses as bytes. -/
def Dev.macBytes (d : Dev) : List Byte := natBE 2 (d.rdN Reg.NET_MAC_HI) ++ natBE 4 (d.rdN Reg.NET_MAC_LO)
def Dev.ipBytes (d : Dev) : List Byte := bytesBE (d.rd Reg.NET_IP_ADDR)

/-- An ARP request for IP_ADDR, an ICMP echo request to it, and an Ivyth datagram: what the MP serves (R478). -/
def Dev.isArp (d : Dev) (fr : List Byte) : Bool :=
  slice fr 12 10 = natBE 10 0x08060001080006040001 && slice fr 38 4 = d.ipBytes
def Dev.isEcho (d : Dev) (fr : List Byte) : Bool :=
  slice fr 12 3 = natBE 3 0x080045 && slice fr 23 1 = [1#8] && slice fr 30 4 = d.ipBytes && slice fr 34 1 = [8#8]
def Dev.isIvyth (d : Dev) (fr : List Byte) : Bool :=
  slice fr 12 3 = natBE 3 0x080045 && slice fr 23 1 = [17#8] && slice fr 30 4 = d.ipBytes
    && beNat (slice fr 36 2) = d.rdN Reg.HOST_IVY_PORT

/-- The answer to an ARP request. -/
def Dev.arpReply (d : Dev) (fr : List Byte) : List Byte :=
  slice fr 6 6 ++ d.macBytes ++ natBE 10 0x08060001080006040002 ++ d.macBytes ++ d.ipBytes ++ slice fr 22 10

/-- The answer to an ICMP echo request: addresses exchanged, type 0, the checksum moved by the type's change. -/
def Dev.echoReply (d : Dev) (fr : List Byte) : List Byte :=
  let ck := beNat (slice fr 36 2) + 0x0800
  let ck := if ck > 0xFFFF then ck - 0xFFFF else ck
  slice fr 6 6 ++ d.macBytes ++ slice fr 12 14 ++ d.ipBytes ++ slice fr 26 4 ++ [0#8] ++ slice fr 35 1 ++ natBE 2 ck ++ fr.drop 38

/-- The port runs: enabled and up, in RUN or SLACK, with its clock (R79, R447). -/
def Dev.ethOn (d : Dev) : Bool := d.bit Reg.NET_NET_CFG 0 && d.bit Reg.NET_LINK 0 && d.powerState ≤ 1 && !d.clockLost 2

/-- A frame leaves the port; while the port does not run it is lost (R79). -/
def Dev.ethSend (d : Dev) (fr : List Byte) : Dev := if d.ethOn then { d with net := { d.net with sent := fr } } else d

/-- A TX_PUSH that R479 accepts. -/
def Dev.ethPushOk (d : Dev) : Bool :=
  let n := d.rdN Reg.NET_TX_LEN
  14 ≤ n && n ≤ 1514 && d.net.tx.length = ceilDiv n 4

/-- The write of TX_PUSH. -/
def actEthPush : Act := fun s =>
  if s.dev.ethPushOk then
    (.ok, onDev (fun d =>
      let fr := (d.net.tx.flatMap bytesBE).take (d.rdN Reg.NET_TX_LEN)
      ({ d with net := { d.net with tx := [] } }).ethSend fr) s)
  else (.len, onDev (fun d => ({ d with net := { d.net with tx := [] } }).lenReject pNET) s)

/-- A word written to TX_PORT. -/
def actEthTxWord (v : W32) : Act := actDev (fun d => { d with net := { d.net with tx := d.net.tx ++ [v] } })

/-- Words of the host queue. -/
def portEthRx : PortAct := portDev (fun n d =>
  let ws := d.net.rx
  let d := { d with net := { d.net with rx := ws.drop n } }
  (ws.take n, d.wrN Reg.NET_RX_LEVEL d.ethRxBytes))

/-! Analog inputs (R480 to R483) -/

/-- An analog input; change it. -/
def Dev.ain (d : Dev) (i : Nat) : AinInput := sget (fun _ => {}) d.net.ain i
def Dev.modAin (d : Dev) (i : Nat) (f : AinInput → AinInput) : Dev :=
  { d with net := { d.net with ain := sset (fun _ => {}) d.net.ain i (f (d.ain i)) } }

/-- The limits in use (R482). -/
def ainLimits (cfg : W32) : Nat × Nat :=
  let lo := field cfg 19 8
  let hi := field cfg 31 20
  if lo = 0 ∧ hi = 0 then (if bitOf cfg 0 then (614, 3583) else (0, 4095)) else (lo, hi)

/-- The mean of the last 2^AVG codes, to the nearest code. -/
def ainMean (avg : Nat) (codes : List Nat) : Nat :=
  let xs := codes.take (2 ^ avg)
  if xs = [] then 0 else (2 * xs.sum + xs.length) / (2 * xs.length)

/-- The published word of an input (R495). -/
def ainWord (code : Nat) (x : AinInput) : W32 :=
  w32 (code + (if x.cause = 0 then 2 ^ 12 else 2 ^ 13) + x.cause * 2 ^ 14)

/-- An entry into fault (R483). -/
def Dev.ainFaults (d : Dev) (i : Nat) : Dev :=
  (((d.setMapBit (Reg.AIN_AIN_FLT 0) i true).irq pAIN 16).faultRec pAIN 16)

/-- The configuration of an input for the scan in progress (R492). -/
def Dev.ainCfg (d : Dev) (i : Nat) : W32 := sget (fun i => d.rd (Reg.AIN_AIN_CFG i)) d.net.ainOld i

/-- AIN_CFG words change: a scan that started before now keeps the old ones. -/
def Dev.ainCommitted (d : Dev) (olds : List (Nat × W32)) : Dev :=
  match d.net.ainDue with
  | none => d
  | some due =>
    if d.tm.tbm + 50000 ≤ due then d
    else
      let moved := (List.range 48).filterMap (fun i =>
        (olds.find? (fun (p : Nat × W32) => decide (p.1 = Reg.AIN_AIN_CFG i))).map (fun p => (i, sget (fun _ => p.2) d.net.ainOld i)))
      { d with net := { d.net with ainOld := moved.foldl (fun m (p : Nat × W32) => sinsert m p.1 p.2) d.net.ainOld } }

/-- One sample of an input at the end of its scan. A current above 25 mA, a code above 4,265, disconnects the shunt (R480). -/
def Dev.ainSample (d : Dev) (i code : Nat) : Dev :=
  let cfg := d.ainCfg i
  let x := d.ain i
  if !bitOf cfg 1 then (d.modAin i (fun _ => {})).wr (Reg.AIN_AIN_VAL i) 0
  else if x.offAt.isSome then d
  else if bitOf cfg 0 && 4265 < code then
    let t := d.tm.tbm
    let was := x.cause
    let d := d.modAin i (fun x => { x with offAt := some t, cause := 3, outRun := 0, inRun := 0 })
    let d := d.wr (Reg.AIN_AIN_VAL i) (ainWord (field (d.rd (Reg.AIN_AIN_VAL i)) 11 0) (d.ain i))
    if was = 0 then d.ainFaults i else d
  else
    let c := min code 4095
    let lim := ainLimits cfg
    let bad := c < lim.1 || lim.2 < c
    let out := if bad then x.outRun + 1 else 0
    let inn := if bad then 0 else x.inRun + 1
    let cause := if bad ∧ out ≥ 2 then (if c < lim.1 then 1 else 2) else if x.cause ≠ 0 ∧ inn ≥ 20 then 0 else x.cause
    let codes := (c :: x.codes).take 64
    let was := x.cause
    let d := d.modAin i (fun x => { x with codes := codes, outRun := out, inRun := inn, cause := cause })
    let code := if cause ≠ 0 then field (d.rd (Reg.AIN_AIN_VAL i)) 11 0 else ainMean (field cfg 6 4) codes
    let d := d.wr (Reg.AIN_AIN_VAL i) (ainWord code (d.ain i))
    if was = 0 ∧ cause ≠ 0 then d.ainFaults i
    else if cause = 0 then d.setMapBit (Reg.AIN_AIN_FLT 0) i false else d

/-- The engineering value of an input (R480): V, or mA. -/
def Dev.ainValue (d : Dev) (i : Nat) : W32 :=
  let code := d.fld (Reg.AIN_AIN_VAL i) 11 0
  if d.bit (Reg.AIN_AIN_CFG i) 0 then fOfRat (code * 24) 4095 else fOfRat (code * 5) 4095
def Dev.ainValid (d : Dev) (i : Nat) : Bool := d.bit (Reg.AIN_AIN_VAL i) 12

/-! Frequency inputs (R484 to R487) -/

/-- A frequency input; change it. -/
def Dev.fin (d : Dev) (i : Nat) : FinInput := sget (fun _ => {}) d.net.fin i
def Dev.modFin (d : Dev) (i : Nat) (f : FinInput → FinInput) : Dev :=
  { d with net := { d.net with fin := sset (fun _ => {}) d.net.fin i (f (d.fin i)) } }

/-- Input `i` belongs to a quadrature pair as its second input. -/
def Dev.finSecond (d : Dev) (i : Nat) : Bool := i % 2 = 1 && d.bit (Reg.FIN_FIN_CFG (i - 1)) 1

/-- The magnitude of the frequency that the edges within the window give, if there are two. -/
def Dev.finWindowHz (d : Dev) (i t : Nat) : Option W32 :=
  let es := (d.fin i).edges.filter (fun e => t - e ≤ d.fld (Reg.FIN_FIN_CFG i) 23 16 * 1000000)
  match es.head?, es.getLast? with
  | some a, some b => if a = b then none else some (fOfRat (((es.length : Int) - 1) * 1000000000) (a - b))
  | _, _ => none

/-- FIN_FREQ at TB-M `t` (R485). -/
def Dev.finFreq (d : Dev) (i t : Nat) : W32 :=
  let x := d.fin i
  let sign (v : W32) : W32 := if x.neg then fNeg v else v
  match x.last with
  | none => f0
  | some l =>
    let idle := t - l
    if idle ≥ d.fld (Reg.FIN_FIN_CFG i) 31 24 * 10000000 then f0
    else
      let decayed := if idle = 0 then x.lastHz else fMin x.lastHz (fOfRat 1000000000 idle)
      match d.finWindowHz i t, x.edges with
      | some hz, a :: b :: _ => sign (if idle > a - b then fMin decayed hz else hz)
      | _, _ => sign decayed

/-- The fault state of an input shown in FIN_STAT and FIN_FLT (R486, R495). -/
def Dev.finShow (d : Dev) (i : Nat) : Dev :=
  let c := (d.fin i).cause
  let on := d.bit (Reg.FIN_FIN_CFG i) 0 && !d.finSecond i
  let d := d.wrN (Reg.FIN_FIN_STAT i) ((if on && c = 0 then 1 else 0) + (if c = 0 then 0 else 2) + c * 4)
  d.setMapBit (Reg.FIN_FIN_FLT 0) i (c ≠ 0)

/-- A frequency input enters or leaves fault. -/
def Dev.finCause (d : Dev) (i cause : Nat) : Dev :=
  let was := (d.fin i).cause
  let d := (d.modFin i (fun x => { x with cause := cause })).finShow i
  if was = 0 ∧ cause ≠ 0 then (d.irq pFIN 16).faultRec pFIN 16 else d

/-- OVERRANGE while the frequency exceeds 55 kHz (R486). -/
def Dev.finRange (d : Dev) (i : Nat) : Dev :=
  let ranged := fGt (fAbs (d.finFreq i d.tm.tbm)) (fOfInt 55000)
  let c := (d.fin i).cause
  if ranged ∧ c = 0 then d.finCause i 1 else if !ranged ∧ c = 1 then d.finCause i 0 else d.finShow i

/-- One counted edge (R484, R485); a reversal starts the window again. -/
def Dev.finCount (d : Dev) (i : Nat) (neg : Bool) : Dev :=
  let t := d.tm.tbm
  let x := d.fin i
  let turned := x.edges ≠ [] && x.neg ≠ neg
  let win := d.fld (Reg.FIN_FIN_CFG i) 23 16 * 1000000
  let edges := t :: (if turned then [] else x.edges.filter (fun e => t - e ≤ win || some e = x.edges.head?))
  let d := d.modFin i (fun x => { x with
    edges := edges, last := some t, neg := neg, count := if neg then x.count - 1 else x.count + 1 })
  let hz := (d.finWindowHz i t).getD (match edges with | a :: b :: _ => fOfRat 1000000000 (a - b) | _ => f0)
  d.modFin i (fun x => { x with lastHz := hz })

/-- An edge of an input, the second input of its pair being high or not; a pair whose two inputs change in one cycle is in fault
until 10 clean counts follow (R486). -/
def Dev.finEdgeAt (d : Dev) (i : Nat) (high : Bool) : Dev :=
  let t := d.tm.tbm
  if d.finSecond i then
    let d := d.modFin i (fun x => { x with last := some t })
    if (d.fin (i - 1)).last = some t then (d.modFin (i - 1) (fun x => { x with clean := 0 })).finCause (i - 1) 2 else d
  else if !d.bit (Reg.FIN_FIN_CFG i) 0 then d
  else if d.bit (Reg.FIN_FIN_CFG i) 1 ∧ i % 2 = 0 then
    let both := decide ((d.fin (i + 1)).last = some t)
    let d := d.finCount i high
    if both then (d.modFin i (fun x => { x with clean := 0 })).finCause i 2
    else
      let n := (d.fin i).clean + 1
      let d := d.modFin i (fun x => { x with clean := n })
      if (d.fin i).cause = 2 then (if n ≥ 10 then d.finCause i 0 else d) else d.finRange i
  else (d.finCount i false).finRange i

/-- A turn publishes the count of the frame just ended (R487). -/
def Dev.finTurn (d : Dev) : Dev :=
  (d.net.fin.map (·.1)).foldl (fun d i =>
    let n := (d.fin i).count
    let d := (d.wrI (Reg.FIN_FIN_FRAME i) n).modFin i (fun x => { x with count := 0 })
    if (d.fin i).cause = 1 then d.finRange i else d.finShow i) d

/-- A commit that changes QUAD restarts the pair (R492). -/
def Dev.finRestart (d : Dev) (i : Nat) : Dev := (d.modFin i (fun _ => {})).wr (Reg.FIN_FIN_FRAME i) 0

def Dev.finValid (d : Dev) (i : Nat) : Bool := d.bit (Reg.FIN_FIN_CFG i) 0 && (d.fin i).cause = 0 && !d.finSecond i

end Sys2Proof.Machine
end

