-- ==== Sys2Proof/Machine/LoopOps.lean ====
section
/-! DEFINITION. The loop engine (chapter 15): instants, inputs, the evaluation in its stated order of binary32 operations, presets, the
set-point ramp, HOLD and its causes, and the soundings. -/

namespace Sys2Proof.Machine

def pLPE : Nat := 0x080
def pSND : Nat := 0x081

/-! Access -/

def Dev.loop (d : Dev) (l : Nat) : LoopSt := sget (fun _ => {}) d.lpe.loop l
def Dev.modLoop (d : Dev) (l : Nat) (f : LoopSt → LoopSt) : Dev :=
  { d with lpe := { d.lpe with loop := sset (fun _ => {}) d.lpe.loop l (f (d.loop l)) } }
def Dev.trace (d : Dev) (c : Nat) : Trace := sget (fun _ => {}) d.lpe.trace c
def Dev.modTrace (d : Dev) (c : Nat) (f : Trace → Trace) : Dev :=
  { d with lpe := { d.lpe with trace := sset (fun _ => {}) d.lpe.trace c (f (d.trace c)) } }

/-- States of a loop (R385) and HOLD causes (R388). -/
def lsOFF : Nat := 0
def lsAUTO : Nat := 1
def lsMANUAL : Nat := 2
def lsHOLD : Nat := 3
def hcSTALE : Nat := 1
def hcFE : Nat := 2
def hcNUM : Nat := 3
def hcCHANNEL : Nat := 4
def hcCLOCK : Nat := 5

/-- Fields of the entry (R398). -/
def Dev.lpEn (d : Dev) (l : Nat) : Bool := d.bit (Reg.LP_CTRL l) 0
def Dev.lpMan (d : Dev) (l : Nat) : Bool := d.bit (Reg.LP_CTRL l) 1
def Dev.periodK (d : Dev) (l : Nat) : Int := fieldS (d.rd (Reg.LP_CFG l)) 3 0
def Dev.lpShedOk (d : Dev) (l : Nat) : Bool := d.bit (Reg.LP_CFG l) 6
def bindKind (w : W32) : Nat := field w 31 28
def bindIndex (w : W32) : Nat := field w 8 0

/-- Frame period, ns (R74), of a TF_SEL value. -/
def frameNs (sel : Nat) : Nat := if sel = 0 then 250000 else if sel = 1 then 500000 else 1000000
def Dev.tf (d : Dev) : Nat := frameNs (d.rdN Reg.FRM_TF_SEL)

/-- T_F x 2^k, ns (R369). -/
def periodNs (tf : Nat) (k : Int) : Nat := if k ≥ 0 then tf * 2 ^ k.toNat else tf / 2 ^ (-k).toNat

/-- T_s of a loop as it runs, shedding counted in (R372). -/
def Dev.loopK (d : Dev) (l : Nat) : Int := d.periodK l + (if (d.loop l).shed then 1 else 0)
def Dev.loopNs (d : Dev) (l : Nat) : Nat := periodNs d.tf (d.loopK l)

/-- The nearest binary32 to T_s in seconds (R377). -/
def Dev.loopT (d : Dev) (l : Nat) : W32 :=
  let k := d.loopK l
  if k ≥ 0 then fOfRat (d.tf * 2 ^ k.toNat : Nat) 1000000000 else fOfRat d.tf (1000000000 * 2 ^ (-k).toNat)

/-! Instants (R369, R372) -/

/-- Shedding is in force (R400). -/
def Dev.shedding (d : Dev) : Bool := d.stat pLPE 16

/-- The exponent of the grid whose next instant counts: shedding keeps the old grid until an instant of the new one. -/
def Dev.gridK (d : Dev) (l : Nat) : Int :=
  if (d.loop l).shed ∧ d.shedding = true then d.periodK l + 1 else d.periodK l

/-- The current turn number (R66). -/
def Dev.turnNo (d : Dev) : Nat := d.rd64 Reg.FRM_FRAME_SEQX

/-- The next instant of a loop within the current frame, as (turn, step in the frame, TB-M), if there is one. -/
def Dev.nextInstant (d : Dev) (l : Nat) : Option (Nat × Nat × Nat) :=
  let n := d.turnNo
  let k := d.gridK l
  let sub := periodNs d.tf k
  let atTurn : Option (Nat × Nat × Nat) :=
    if k < 0 ∨ n % 2 ^ k.toNat = 0 then some (n, 0, d.frm.turnTbm) else none
  if !d.frm.turned then none
  else match (d.loop l).last with
    | some (m, j) =>
      if m ≠ n then atTurn
      else if k < 0 ∧ j + 1 < 2 ^ (-k).toNat then some (n, j + 1, d.frm.turnTbm + (j + 1) * sub)
      else none
    | none => atTurn

/-- The engine runs: CK_LOOP present and in RUN (R447, R451). -/
def Dev.lpeOn (d : Dev) : Bool := !d.clockLost 1 && d.powerState = 0

/-! State words -/

/-- LP_STATE, HOLD and FE bits of a loop, and STATUS.ANY_HOLD (R398, R399). -/
def Dev.showLoop (d : Dev) (l : Nat) : Dev :=
  let x := d.loop l
  let cause := if x.state = lsHOLD then (x.causes.foldl min 15) else 0
  let w := x.state + cause * 2 ^ 4 + (if x.satHi then 2 ^ 9 else 0) + (if x.satLo then 2 ^ 10 else 0)
    + (if x.frozen then 2 ^ 11 else 0) + (if x.shed then 2 ^ 12 else 0) + (if x.fe then 2 ^ 13 else 0)
  let d := d.wrN (Reg.LP_STATE l) w
  let d := (d.setMapBit (Reg.LPE_HOLD 0) l (x.state = lsHOLD)).setMapBit (Reg.LPE_FE 0) l x.fe
  d.setStat pLPE 17 ([0, 1, 2, 3].any (fun i => d.rd (Reg.LPE_HOLD i) ≠ 0#32))

/-! Publication (R374) -/

/-- A held interval runs (R77). -/
def Dev.heldNow (d : Dev) : Bool := decide (d.frm.heldFrom ≤ d.tick) && decide (d.tick < d.frm.heldTo)

/-- A new on-fraction of a METER channel: in a held interval it waits until the interval has ended (R77). -/
def Chan.setDuty (x : Chan) (held : Bool) (u : W32) : Chan :=
  if held then { x with dutyNext := some u } else { x with duty := u, dutyNext := none }

/-- The on-fraction that a METER channel runs at. -/
def Dev.meterDuty (d : Dev) (c : Nat) : W32 := if d.heldNow then (d.chan c).duty else (d.chan c).dutyNext.getD (d.chan c).duty

/-- A METER channel is kept off (R79, R129, R302, R319, R388, R412, R415): its fault state, a safe close, a safe-state action, the loss of a clock it needs,
strobe loss, the output path disarmed, an open bank, or a step of SORT that has not come. -/
def Dev.meterShut (d : Dev) (c : Nat) : Bool :=
  (d.chan c).phase = phFAULT || (d.chan c).closed || d.stat 0x002 17 || d.clockLost 1 || d.clockLost 4 || d.clockLost 5
    || d.drv.strobeLost || !d.bit Reg.SYS_OUT_STATE 0
    || (d.bank (c / 8)).reclose.isSome
    || (match (d.bank (c / 8)).sort with | some r => decide (r.step ≤ c % 8) | none => false)

/-- A METER channel drives its load (R294). -/
def Dev.meterDrives (d : Dev) (c : Nat) : Bool := !d.meterShut c && fGt (d.meterDuty c) f0

/-- A channel is on: its low side, or the duty that drives a METER channel. -/
def Dev.driven (d : Dev) (c : Nat) : Bool := d.isOn c || (d.mode c = mMETER && d.meterDrives c)

/-- Whether a channel's modelled winding stands at T_CUT or above (R337). -/
def Dev.coilHot (d : Dev) (c : Nat) : Bool :=
  d.fld (Reg.CH_TH_C c) 15 0 ≠ 0 && d.configured objLimits
    && decide ((sget (fun _ => ({} : ThermChan)) d.bwk.ch c).tW ≥ d.rdN Reg.BWK_T_CUT * 1000000)

/-- Publish an output: U, and the bound channel's on-fraction or the CANTX slot. -/
def Dev.publish (d : Dev) (l : Nat) (u : W32) : Dev :=
  let d := d.wr (Reg.LPT_U l) u
  let b := d.rd (Reg.LP_OUT l)
  if bindKind b = 1 then d.modChan (bindIndex b) (·.setDuty d.heldNow (fMin (fMax u f0) f1))
  else if bindKind b = 2 then d.cantxPublish (bindIndex b % 16) u
  else d

/-- A loop enters HOLD (R385, R388): HOLD_VAL at once, the interrupt and the record. -/
def Dev.enterHold (d : Dev) (l : Nat) (causes : List Nat) : Dev :=
  let d := d.modLoop l (fun x => { x with state := lsHOLD, causes := causes, nextOut := none, uPrev := d.rd (Reg.LPT_HOLD_VAL l) })
  let d := d.publish l (d.rd (Reg.LPT_HOLD_VAL l))
  let cause := causes.foldl min 15
  let d := if cause = hcSTALE then d.fault pLPE 17 else d
  ((d.irq pLPE 16).recIrq pLPE 16 [] objIsLoop l).showLoop l

/-! Inputs (R373, R375) -/

/-- A loop is due at the instant `t` of TB-M: its output counts as published. -/
def Dev.dueAt (d : Dev) (l t : Nat) : Bool :=
  match d.nextInstant l with
  | some (_, _, t') => t' = t
  | none => false

/-- The output of a loop as published at or before now, whatever the loop numbers (R378). -/
def Dev.loopOut (d : Dev) (m : Nat) : W32 :=
  match d.dueAt m d.tm.tbm, (d.loop m).nextOut with
  | true, some u => u
  | _, _ => d.rd (Reg.LPT_U m)

/-- The raw value of a binding and whether it is valid; `host` is the host's register and when it was last written, `none` where
it never goes stale. -/
def Dev.rawInput (d : Dev) (l : Nat) (b : W32) (hostReg : Nat) (hostAt : Option (Option Nat)) : W32 × Bool :=
  let i := bindIndex b
  match bindKind b with
  | 1 => (d.ainValue i, d.ainValid i)
  | 2 => (d.finFreq i d.tm.tbm, d.finValid i)
  | 3 => (d.loopOut i, (d.loop i).state ≠ lsOFF && (d.loop i).state ≠ lsHOLD)
  | 4 =>
    let fresh : Bool := match hostAt with
      | none => true
      | some none => false
      | some (some t) => decide (d.tm.tbm ≤ t + d.fld (Reg.LP_TIMES l) 31 16 * 1000000)
    (d.rd hostReg, fresh)
  | 5 => ((d.loop l).sdeTgt, true)
  | _ => (f0, true)

def Dev.rawFb (d : Dev) (l : Nat) : W32 × Bool := d.rawInput l (d.rd (Reg.LP_FB l)) (Reg.LPT_FB_HOST l) (some (d.loop l).fbAt)
def Dev.rawSp (d : Dev) (l : Nat) : W32 × Bool := d.rawInput l (d.rd (Reg.LP_SPSRC l)) (Reg.LPT_SP_HOST l) none
def Dev.rawFf (d : Dev) (l : Nat) : W32 × Bool := d.rawInput l (d.rd (Reg.LP_FF l)) (Reg.LPT_FF_HOST l) (some (d.loop l).ffAt)

/-- The bound METER channel is in a fault state, closed by a safe close or a safe-state action, or inhibited; a loop that it holds is held
until the channel is driven again (R388). -/
def Dev.channelHeld (d : Dev) (l : Nat) : Bool :=
  let b := d.rd (Reg.LP_OUT l)
  let c := bindIndex b
  bindKind b = 1 && ((d.chan c).phase = phFAULT || (d.chan c).closed || d.stat 0x002 17 || d.inhibited c
    || ((d.loop l).state = lsHOLD && (d.loop l).causes.contains hcCHANNEL && d.meterShut c))

/-- The causes that hold a loop at an instant (R388). -/
def Dev.holdCauses (d : Dev) (l : Nat) : List Nat :=
  let valid := (d.rawFb l).2 && (d.rawSp l).2 && (d.rawFf l).2
  (if valid then [] else [hcSTALE])
    ++ (if (d.loop l).fe && d.bit (Reg.LP_CFG l) 7 then [hcFE] else [])
    ++ (if (d.loop l).num then [hcNUM] else [])
    ++ (if d.channelHeld l then [hcCHANNEL] else [])
    ++ (if d.clockLost 1 then [hcCLOCK] else [])

/-! One evaluation (R377 to R379) -/

/-- The preset that becomes due: an enable preset stands until it is applied (R387). -/
def newPreset (old kind : Nat) : Nat := if old = 4 then 4 else if old = 2 ∨ old = 3 then (if kind = 1 then old else kind) else kind

/-- The derived coefficients (R377). -/
structure Derived where
  t : W32
  ci : W32
  beta : W32
  cd : W32
  cslew : W32
  at_ : W32
  qt : W32
  g1 : W32
  g2 : W32
  deriving DecidableEq, Repr

/-- DC gain of a biquad stage. -/
def dcGain (b0 b1 b2 a1 a2 : W32) : W32 := fDiv (fAdd (fAdd b0 b1) b2) (fAdd (fAdd f1 a1) a2)

def Dev.derived (d : Dev) (l : Nat) : Derived :=
  let t := d.loopT l
  let tft := fAdd (d.rd (Reg.LPT_TF l)) t
  let slew := d.rd (Reg.LPT_SLEW l)
  let a := fMul (d.rd (Reg.LPT_SP_ACC l)) t
  let b1 i := d.rd (Reg.LPT_BQ1 l i)
  let b2 i := d.rd (Reg.LPT_BQ2 l i)
  { t := t, ci := fMul (d.rd (Reg.LPT_KI l)) t, beta := fDiv (d.rd (Reg.LPT_TF l)) tft, cd := fDiv (d.rd (Reg.LPT_KD l)) tft
    cslew := if fIsZero slew then fInf else fMul slew t, at_ := a, qt := fMul a t
    g1 := dcGain (b1 0) (b1 1) (b1 2) (b1 3) (b1 4), g2 := dcGain (b2 0) (b2 1) (b2 2) (b2 3) (b2 4) }

/-- A number limited: min(max(x, lo), hi). -/
def fClamp (x lo hi : W32) : W32 := fMin (fMax x lo) hi

/-- The set-point ramp (R383): r and r_dot after one evaluation. A zero limit is off. -/
def ramp (rt r rdot spRate spAcc : W32) (k : Derived) : W32 × W32 :=
  let noRate := fIsZero spRate
  let noAcc := fIsZero spAcc
  if noRate && noAcc then (rt, f0)
  else
    let dist := fSub rt r
    if fIsZero dist && fIsZero rdot then (r, rdot)
    else
      let up := if fIsZero dist then fLt rdot f0 else fLt f0 dist
      let dir := if up then f1 else fNeg f1
      let away := fLt (fMul rdot dir) f0
      let rdot1 :=
        if away then (if noAcc then f0 else fAdd rdot (fMul dir (fMin k.at_ (fAbs rdot))))
        else if noAcc then fMul dir (fMin spRate (fDiv (fAbs dist) k.t))
        else
          let m := fSub (fSqrt (fAdd (fMul f2 (fDiv (fAbs dist) k.qt)) 0x3E800000#32)) fHalf
          let want := if noRate then fMul (fMul dir k.at_) m else fMul dir (fMin spRate (fMul k.at_ m))
          fAdd rdot (fClamp (fSub want rdot) (fNeg k.at_) k.at_)
      let rn := fAdd r (fMul rdot1 k.t)
      if fGe (fMul rdot1 dir) f0 && fLe (fMul (fSub rt rn) dir) f0 then (rt, f0) else (rn, rdot1)

/-- What every evaluation of a running state computes first: target, feedback, ramped set-point and its rate. -/
def Dev.front (d : Dev) (l : Nat) (x : Latched) (k : Derived) : W32 × W32 × W32 × W32 :=
  let st := d.loop l
  let y := fAdd (fMul (d.rd (Reg.LPT_FB_SCALE l)) x.fb) (d.rd (Reg.LPT_FB_OFS l))
  let rt := if bindKind (d.rd (Reg.LP_SPSRC l)) = 5 then x.tgt else fMul (d.rd (Reg.LPT_SP_GAIN l)) x.tgt
  let rr :=
    if x.state = lsAUTO ∧ st.preset = 4 then (y, f0)
    else if x.state ≠ lsAUTO ∧ d.bit (Reg.LP_CFG l) 5 then (y, f0)
    else if d.bit (Reg.LP_CFG l) 8 && fIsZero rt then (f0, f0)
    else ramp rt st.r st.rdot (d.rd (Reg.LPT_SP_RATE l)) (d.rd (Reg.LPT_SP_ACC l)) k
  (rt, y, rr.1, rr.2)

/-- An AUTO evaluation under R379: the new state, w, u, and the values that must be finite (R381). -/
def Dev.autoEval (d : Dev) (l : Nat) (x : Latched) (k : Derived) (y r rdot : W32) : LoopSt × W32 × W32 × List W32 :=
  let st := d.loop l
  let g (a : Nat → Nat) := d.rd (a l)
  let b1 i := d.rd (Reg.LPT_BQ1 l i)
  let b2 i := d.rd (Reg.LPT_BQ2 l i)
  let e := fSub r y
  let xx := if d.bit (Reg.LP_CFG l) 4 then fNeg y else e
  let dd := fAdd (fMul k.beta st.d) (fMul k.cd (fSub xx st.xPrev))
  let ff := fAdd (fAdd (fMul (g Reg.LPT_KFS) r) (fMul (g Reg.LPT_KFR) rdot)) (fMul (g Reg.LPT_KFI) x.ff)
  let v := fAdd (fAdd (fAdd (fMul (g Reg.LPT_KP) e) st.i) dd) ff
  let w1 := fAdd (fMul (b1 0) v) st.s11
  let s11 := fAdd (fSub (fMul (b1 1) v) (fMul (b1 3) w1)) st.s12
  let s12 := fSub (fMul (b1 2) v) (fMul (b1 4) w1)
  let w := fAdd (fMul (b2 0) w1) st.s21
  let s21 := fAdd (fSub (fMul (b2 1) w1) (fMul (b2 3) w)) st.s22
  let s22 := fSub (fMul (b2 2) w1) (fMul (b2 4) w)
  let uc := fClamp w (g Reg.LPT_OUT_MIN) (g Reg.LPT_OUT_MAX)
  let u := fMin (fMax uc (fSub st.uPrev k.cslew)) (fAdd st.uPrev k.cslew)
  let ce := fMul k.ci e
  let frozen := (fLt u w && fLt f0 ce) || (fLt w u && fLt ce f0)
  let i := if frozen then st.i else fAdd st.i ce
  ({ st with
      r := r, rdot := rdot, i := i, d := dd, xPrev := xx, s11 := s11, s12 := s12, s21 := s21, s22 := s22, uPrev := u
      frozen := frozen, satHi := fLt u w, satLo := fLt w u, nextOut := some u },
    w, u, [y, r, rdot, e, dd, v, w, u])

/-- The target output of a preset (R387). -/
def Dev.presetTarget (d : Dev) (l : Nat) (k : Derived) : W32 :=
  let last := d.rd (Reg.LPT_U l)
  let lo := d.rd (Reg.LPT_OUT_MIN l)
  let hi := d.rd (Reg.LPT_OUT_MAX l)
  match (d.loop l).preset with
  | 1 =>
    if fLe lo last && fLe last hi then last
    else fMin (fMax (fClamp last lo hi) (fSub last k.cslew)) (fAdd last k.cslew)
  | 2 => last
  | _ => d.rd (Reg.LPT_HOLD_VAL l)

/-- A preset evaluation (R386). -/
def Dev.presetEval (d : Dev) (l : Nat) (x : Latched) (k : Derived) (y r rdot : W32) : LoopSt × W32 × W32 × List W32 :=
  let st := d.loop l
  let g (a : Nat → Nat) := d.rd (a l)
  let b1 i := d.rd (Reg.LPT_BQ1 l i)
  let b2 i := d.rd (Reg.LPT_BQ2 l i)
  let us := d.presetTarget l k
  let e := fSub r y
  let xx := if d.bit (Reg.LP_CFG l) 4 then fNeg y else e
  let ff := fAdd (fAdd (fMul (g Reg.LPT_KFS) r) (fMul (g Reg.LPT_KFR) rdot)) (fMul (g Reg.LPT_KFI) x.ff)
  let x0 := fDiv (fDiv us k.g1) k.g2
  let x1 := fMul k.g1 x0
  let i := fSub (fSub x0 ff) (fMul (g Reg.LPT_KP) e)
  ({ st with
      r := r, rdot := rdot, d := f0, xPrev := xx, i := i, uPrev := us, preset := 0
      s11 := fMul (fSub k.g1 (b1 0)) x0, s12 := fMul (fSub (b1 2) (fMul (b1 4) k.g1)) x0
      s21 := fMul (fSub k.g2 (b2 0)) x1, s22 := fMul (fSub (b2 2) (fMul (b2 4) k.g2)) x1
      frozen := false, satHi := false, satLo := false, nextOut := some us },
    us, us, [y, r, rdot, e, us])

/-- The output of MANUAL (R385). -/
def Dev.manualOut (d : Dev) (l : Nat) (k : Derived) : W32 :=
  let p := (d.loop l).uPrev
  let c := fClamp (d.rd (Reg.LPT_MAN_OUT l)) (d.rd (Reg.LPT_OUT_MIN l)) (d.rd (Reg.LPT_OUT_MAX l))
  fMin (fMax c (fSub p k.cslew)) (fAdd p k.cslew)

/-- The values of the entry after an evaluation (R397). -/
def Dev.showEval (d : Dev) (l : Nat) (rt y e w : W32) : Dev :=
  let x := d.loop l
  let d := ((d.wr (Reg.LPT_RT l) rt).wr (Reg.LPT_R l) x.r).wr (Reg.LPT_RDOT l) x.rdot
  let d := ((d.wr (Reg.LPT_Y l) y).wr (Reg.LPT_E l) e).wr (Reg.LPT_I l) x.i
  let d := ((d.wr (Reg.LPT_D l) x.d).wr (Reg.LPT_W l) w).inc (Reg.LPT_EVAL_SEQ l)
  (d.wr (Reg.LPT_FE_RUN l) (sat32 (x.feRunNs / 1000000))).showLoop l

/-- Engine time at 390 ns for each evaluation, the highest of any TB-M millisecond, in 0.1 % (R371, R399). -/
def Dev.countEval (d : Dev) : Dev :=
  let ms := d.tm.tbm / 1000000
  let n := if d.lpe.utilMs = ms then d.lpe.utilCnt + 1 else 1
  ({ d with lpe := { d.lpe with utilMs := ms, utilCnt := n } }).peak Reg.LPE_UTIL_PEAK (n * 39 / 100)

/-! The supervisor (R390) -/

/-- The following-error supervisor after an AUTO evaluation. -/
def Dev.supervise (d : Dev) (l : Nat) (e y u : W32) : Dev :=
  let lim := d.rd (Reg.LPT_FE_LIMIT l)
  if fIsZero lim then d
  else if fLt lim (fAbs e) then
    let run := (d.loop l).feRunNs + d.loopNs l
    let d := d.modLoop l (fun x => { x with feRunNs := run })
    if run / 1000000 ≥ d.fld (Reg.LP_TIMES l) 15 0 ∧ (d.loop l).fe = false then
      let d := ((d.modLoop l (fun x => { x with fe := true })).fault pLPE 16).irq pLPE 17
      let d := d.recFault pLPE 16 [(d.loop l).r, y, u] objIsLoop l
      if d.bit (Reg.LP_CFG l) 7 then d.enterHold l [hcFE] else d
    else d
  else d.modLoop l (fun x => { x with feRunNs := 0 })

/-! Soundings (R392 to R396) -/

/-- A signal of a loop at the end of an evaluation (R402). -/
def Dev.signal (d : Dev) (l sig : Nat) (raw : W32) : W32 :=
  if sig = 9 then raw else d.rd (Reg.LPT_RT l + 4 * sig)

/-- Q16.16 of x / 2^SHIFT, and whether it was saturated (R394). -/
def quantise (x : W32) (shift : Nat) : W32 × Bool :=
  if fIsNaN x then (0x80000000#32, false)
  else if fIsInf x then (if fSign x then 0x80000000#32 else 0x7FFFFFFF#32, true)
  else
    let q := fToFixed x 65536 (2 ^ shift)
    (satI32 q, decide (q ≥ 2 ^ 31 ∨ q < -(2 ^ 31)))

/-- Halfwords that a packed sample takes after another (R395). -/
def packedDelta (prev q : W32) : Int := (q - prev).toInt
def packedSize (prev : Option W32) (q : W32) : Nat :=
  match prev with
  | none => 2
  | some p => if (packedDelta p q).natAbs ≤ 32767 then 1 else 3

/-- The halfwords of a packed trace, oldest sample first. -/
def packHalves : Option W32 → List W32 → List Nat
  | _, [] => []
  | prev, q :: r =>
    let full := [q.toNat / 2 ^ 16, q.toNat % 2 ^ 16]
    let hs := match prev with
      | none => full
      | some p => if packedSize (some p) q = 1 then [(packedDelta p q % 65536).toNat] else 0x8000 :: full
    hs ++ packHalves (some q) r

/-- Two halfwords a word, the earlier one in the high half (R396). -/
def halfWords : List Nat → List W32
  | a :: b :: r => w32 (a * 2 ^ 16 + b) :: halfWords r
  | [a] => [w32 (a * 2 ^ 16)]
  | [] => []

/-- The words that a trace reads out. -/
def Trace.words (t : Trace) : List W32 :=
  if bitOf t.src 24 then halfWords (packHalves none t.samples.reverse) else t.samples.reverse

/-- SND_STAT, SND_T0 and SND_TRIG_IDX of a trace. -/
def Dev.showTrace (d : Dev) (c : Nat) : Dev :=
  let t := d.trace c
  let d := d.wrN (Reg.SND_SND_STAT c) (t.state + (if t.sat then 8 else 0) + (if t.period then 16 else 0) + t.samples.length * 2 ^ 16)
  (d.wr64 (Reg.SND_SND_T0 c) (t.t0s.getLastD 0)).wrN (Reg.SND_SND_TRIG_IDX c) t.trigIdx

/-- A trace ends (R393). -/
def Dev.endTrace (d : Dev) (c : Nat) (period : Bool) : Dev :=
  ((d.modTrace c (fun t => { t with state := 3, period := period })).irq pSND 16).showTrace c

/-- A trace is triggered: the next sample is its trigger sample. -/
def Dev.trigger (d : Dev) (c : Nat) : Dev :=
  (d.modTrace c (fun t => { t with state := 2, trigIdx := t.samples.length })).showTrace c

/-- Whether the trigger of an armed trace falls at this evaluation (R402). -/
def Dev.triggers (d : Dev) (t : Trace) (l : Nat) (v : W32) : Bool :=
  let lvl := t.level
  match field t.trig 2 0, t.prev with
  | 0, _ => true
  | 1, _ => d.turnNo ≠ t.armTurn
  | 2, some p => fLt p lvl && fLe lvl v
  | 3, some p => fLt lvl p && fLe v lvl
  | 4, _ => (d.loop l).fe && !t.prevFe
  | 5, _ => (d.loop l).state ≠ t.prevState
  | _, _ => false

/-- Store a sample, into the ring before the trigger, into the buffer after it. -/
def Dev.storeSample (d : Dev) (c : Nat) (v : W32) (tbs : Nat) : Dev :=
  let t := d.trace c
  let q := quantise v (field t.src 15 12)
  if t.state = 1 then
    let pre := field t.trig 29 16
    (d.modTrace c (fun t => { t with
      samples := (q.1 :: t.samples).take pre, t0s := (tbs :: t.t0s).take pre, sat := t.sat || q.2 })).showTrace c
  else
    let pack := bitOf t.src 24
    let size := packedSize t.samples.head? q.1
    if pack ∧ t.halves + size > 32768 then d.endTrace c false
    else
      let d := d.modTrace c (fun t => { t with
        samples := q.1 :: t.samples, halves := t.halves + size, sat := t.sat || q.2
        t0s := if t.samples.length < t.t0s.length ∨ t.samples = [] then tbs :: t.t0s else t.t0s })
      if !pack ∧ (d.trace c).samples.length ≥ 16384 then d.endTrace c false else d.showTrace c

/-- The traces of a loop take the evaluation just ended. -/
def Dev.soundLoop (d : Dev) (l : Nat) (raw : W32) (tbs : Nat) : Dev :=
  (d.lpe.trace.map (·.1)).foldl (fun d c =>
    let t := d.trace c
    if field t.src 6 0 ≠ l ∨ (t.state ≠ 1 ∧ t.state ≠ 2) then d
    else
      let v := d.signal l (field t.src 11 8) raw
      let d := if t.state = 1 ∧ d.triggers t l v = true then d.trigger c else d
      let d := d.modTrace c (fun t => { t with prev := some v, prevState := (d.loop l).state, prevFe := (d.loop l).fe })
      let dec := max 1 (field t.src 23 16)
      if t.skip = 0 then (d.modTrace c (fun t => { t with skip := dec - 1 })).storeSample c v tbs
      else d.modTrace c (fun t => { t with skip := t.skip - 1 })) d

/-- A change of a loop's period ends its captures (R392). -/
def Dev.periodChanged (d : Dev) (l : Nat) : Dev :=
  (d.lpe.trace.map (·.1)).foldl (fun d c =>
    let t := d.trace c
    if field t.src 6 0 = l ∧ (t.state = 1 ∨ t.state = 2) then d.endTrace c true else d) d

/-- A change of T_F changes the period of every loop (R74, R387, R392). -/
def Dev.periodsChanged (d : Dev) : Dev :=
  (d.lpe.loop.map (·.1)).foldl (fun d l =>
    let d := d.periodChanged l
    if (d.loop l).state = lsAUTO then d.modLoop l (fun x => { x with preset := newPreset x.preset 1 }) else d) d

/-- A turn starts the traces that wait for one (R402 mode 1). -/
def Dev.soundTurn (d : Dev) : Dev :=
  (d.lpe.trace.map (·.1)).foldl (fun d c =>
    let t := d.trace c
    if t.state = 1 ∧ field t.trig 2 0 = 1 then d.trigger c else d) d

/-! Commits and clock loss -/

/-- A loop that does not run: what lies outside the evaluation stays. -/
def LoopSt.idle (x : LoopSt) : LoopSt :=
  { sdeTgt := x.sdeTgt, fbAt := x.fbAt, ffAt := x.ffAt, last := x.last, fe := x.fe, num := x.num, carry := x.carry, fedUnits := x.fedUnits }

/-- A loop is switched off (R385): HOLD_VAL is published once. -/
def Dev.loopOff (d : Dev) (l : Nat) : Dev :=
  if (d.loop l).state = lsOFF then d
  else ((d.modLoop l LoopSt.idle).publish l (d.rd (Reg.LPT_HOLD_VAL l))).showLoop l

/-- Entry words whose change is a coefficient change of an AUTO loop (R387): scales, gains, biquads, limits and SLEW, 0x18 to 0x70. -/
def isCoefficient (ofs : Nat) : Bool := 0x18 ≤ ofs && ofs ≤ 0x70

/-- Words of an LPE commit have become active: `changed` holds each with its old value. -/
def Dev.lpeCommitted (d : Dev) (changed : List (Nat × W32)) : Dev :=
  changed.foldl (fun d p =>
    let a := p.1
    if a < 0x01008000 ∨ a ≥ 0x01010000 then d
    else
      let l := (a - 0x01008000) / 256
      let o := (a - 0x01008000) % 256
      if o = 0 then (if d.lpEn l then d else d.loopOff l)
      else
        let period := o = 4 ∧ field p.2 3 0 ≠ d.fld a 3 0
        let d := if period then d.periodChanged l else d
        if (d.loop l).state = lsAUTO ∧ (isCoefficient o = true ∨ period) then
          d.modLoop l (fun x => { x with preset := newPreset x.preset 1 })
        else d) d

/-- A host input of an entry is written (R375). -/
def Dev.noteHostInput (d : Dev) (a : Nat) : Dev :=
  if a < 0x01008000 ∨ a ≥ 0x01010000 then d
  else
    let l := (a - 0x01008000) / 256
    let o := (a - 0x01008000) % 256
    let now := d.tm.tbm
    if o = 0xB8 then d.modLoop l (fun x => { x with fbAt := some now })
    else if o = 0xBC then d.modLoop l (fun x => { x with ffAt := some now })
    else d

/-- CK_LOOP is lost (R79, R388): every loop that runs enters HOLD with cause CLOCK. -/
def Dev.loopsClockLost (d : Dev) : Dev :=
  (d.lpe.loop.map (·.1)).foldl (fun d l =>
    let st := (d.loop l).state
    if st = lsAUTO ∨ st = lsMANUAL then d.enterHold l [hcCLOCK]
    else if st = lsHOLD then (d.modLoop l (fun x => { x with causes := x.causes ++ [hcCLOCK] })).showLoop l
    else d) d

/-- The loop engine stops at a power entry (R451, R454): each loop restarts with an enable preset. -/
def Dev.loopsStop (d : Dev) : Dev :=
  (d.lpe.loop.map (·.1)).foldl (fun d l => (d.modLoop l LoopSt.idle).showLoop l) d

end Sys2Proof.Machine
end

