-- ==== Sys2Proof/Machine/MapOps.lean ====
section
/-! DEFINITION. The Tidemark map's operations (chapter 08): the rate code, runs of cells, the stored tile format, the directory and the
window, footprints and pieces of ground, and painting. -/

namespace Sys2Proof.Machine

def pMAP : Nat := 0x020

/-! The rate code (R192, R193) -/

/-- UNKNOWN, and the values that are read as it (R192). -/
def cellUnknown : Nat := 0x3F
def cellBad (v : Nat) : Bool := 1 ≤ v && v ≤ 0x3E

/-- A product of two positive numbers of 64 binary places, rounded to nearest. -/
def mul64 (a b : Nat) : Nat := (a * b + 2 ^ 63) / 2 ^ 64

/-- 2^(1/24) with 64 binary places. -/
def root24 : Nat := 18987274933859323061

/-- `root24` to the power `n`. -/
def root24Pow : Nat → Nat
  | 0 => 2 ^ 64
  | n + 1 => mul64 (root24Pow n) root24

/-- The rate of code `k` with 64 binary places, 2^((k - 40) / 12), and 0 for code 0 (R193). -/
def codeRate (k : Nat) : Nat := if k = 0 then 0 else root24Pow (2 * k + 16) / 2 ^ 4

/-- The lower edge of code `k` with 64 binary places, 2^((k - 40.5) / 12): halves round up (R193). -/
def codeEdge (k : Nat) : Nat := root24Pow (2 * k + 15) / 2 ^ 4

/-- The code of a rate ratio with 64 binary places, and whether it exceeds the range (R193). -/
def rateCode (r : Nat) : Nat × Bool :=
  if r ≥ codeEdge 64 then (63, true)
  else (((List.range 64).filter (fun k => k ≠ 0 && codeEdge k ≤ r)).length, false)

/-! Runs -/

/-- Cells of a tile. -/
def tileCells : Nat := 65536

/-- A run in front of others, joined with the first where the values agree; an empty run is dropped. -/
def consRun (v n : Nat) : Runs → Runs
  | [] => if n = 0 then [] else [(v, n)]
  | (w, m) :: r => if n = 0 then (w, m) :: r else if v = w then (v, n + m) :: r else (v, n) :: (w, m) :: r

/-- Runs brought to their one form: neighbours differ, none is empty. -/
def normRuns : Runs → Runs
  | [] => []
  | (v, n) :: r => consRun v n (normRuns r)

/-- How many cells runs cover. -/
def runsLen : Runs → Nat
  | [] => 0
  | (_, n) :: r => n + runsLen r

/-- A tile with one value throughout. -/
def uniformRuns (v : Nat) : Runs := [(v, tileCells)]

/-- The cell at a place. -/
def cellAt : Runs → Nat → Nat
  | [], _ => 0
  | (v, n) :: r, i => if i < n then v else cellAt r (i - n)

/-- The cell at a place set to a value. -/
def setCell : Runs → Nat → Nat → Runs
  | [], _, _ => []
  | (v, n) :: r, i, x =>
    if i < n then consRun v i (consRun x 1 (consRun v (n - i - 1) r)) else consRun v n (setCell r (i - n) x)

/-- Runs in the one form over a whole tile with every value below `m`. -/
def runsOk (m : Nat) (r : Runs) : Bool := normRuns r = r && runsLen r = tileCells && r.all (fun p => p.1 < m)

/-! The stored tile format (R211 to R214) -/

/-- Bytes of a cell value: one for coverage, two for prescription (R211). -/
def cellWidth (layer : Nat) : Nat := if layer = 8 then 2 else 1

/-- A number as 4 bytes, most significant first. -/
def be4 (n : Nat) : List Byte := natBE 4 n
def be4i (n : Int) : List Byte := bytesBE (w32i n)

/-- A run cut at 4,096 cells, as pairs (R212, R213); `fuel` bounds the pairs of a tile. -/
def runPairs (width : Nat) : Nat → Nat → Nat → List Byte
  | 0, _, _ => []
  | fuel + 1, v, n =>
    if n = 0 then []
    else natBE width v ++ natBE 2 (min n 4096 - 1) ++ runPairs width fuel v (n - min n 4096)

/-- The run-length payload (R212). -/
def rlePayload (width : Nat) (r : Runs) : List Byte := r.flatMap (fun p => runPairs width 17 p.1 p.2)

/-- The raw payload (R212). -/
def rawPayload (width : Nat) (r : Runs) : List Byte := r.flatMap (fun p => (List.replicate p.2 (natBE width p.1)).flatten)

/-- The encoding that R213 chooses, and its payload. -/
def tilePayload (layer : Nat) (force : Bool) (r : Runs) : Nat × List Byte :=
  let w := cellWidth layer
  match force, r with
  | false, [(v, _)] => (2, natBE w v ++ List.replicate (4 - w) 0#8)
  | false, r =>
    let p := rlePayload w r
    if p.length < tileCells * w then (1, p) else (0, rawPayload w r)
  | true, r => (0, rawPayload w r)

/-- Zero bytes to a multiple of 4. -/
def padTo4 (bs : List Byte) : List Byte := bs ++ List.replicate ((4 - bs.length % 4) % 4) 0#8

/-- A stored tile (R211). -/
def encodeTile (cell job : Nat) (force : Bool) (t : StoredTile) : List Byte :=
  let p := tilePayload t.layer force t.cells
  [0x54#8, 0x44#8, BitVec.ofNat 8 t.layer, BitVec.ofNat 8 p.1] ++ be4i t.x ++ be4i t.y
    ++ [BitVec.ofNat 8 (if t.layer = 8 then 4 else cell), 0, 0, 0]
    ++ be4 p.2.length ++ be4 (crc32 p.2) ++ be4 job ++ be4 t.seq ++ padTo4 p.2

/-- The pairs of a run-length payload; none where they are not whole or the four high bits are not 0. -/
def parsePairs (width : Nat) : Nat → List Byte → Option Runs
  | _, [] => some []
  | 0, _ => none
  | fuel + 1, bs =>
    if bs.length < width + 2 then none
    else
      let v := beNat (bs.take width)
      let n := beNat ((bs.drop width).take 2)
      if n ≥ 4096 then none
      else (parsePairs width fuel (bs.drop (width + 2))).map (fun r => (v, n + 1) :: r)

/-- The cells of a raw payload. -/
def parseRaw (width : Nat) : Nat → List Byte → Runs
  | 0, _ => []
  | fuel + 1, bs => if bs.length < width then [] else (beNat (bs.take width), 1) :: parseRaw width fuel (bs.drop width)

/-- The cells of a payload, where its length fits the encoding and it covers the tile exactly (R212, R214). -/
def parsePayload (layer enc : Nat) (p : List Byte) : Option Runs :=
  let w := cellWidth layer
  if enc = 2 then
    if p.length = 4 ∧ (p.drop w).all (· = 0#8) = true then some (uniformRuns (beNat (p.take w))) else none
  else if enc = 1 then
    match parsePairs w tileCells p with
    | some r => if runsLen r = tileCells then some (normRuns r) else none
    | none => none
  else if enc = 0 ∧ p.length = tileCells * w then some (normRuns (parseRaw w tileCells p))
  else none

/-- A stored tile's header and cells. -/
structure Decoded where
  layer : Nat
  x : Int
  y : Int
  cell : Nat
  job : Nat
  seq : Nat
  cells : Runs
  deriving DecidableEq, Repr

/-- The four bytes at a place as a signed number. -/
def beInt (bs : List Byte) (i : Nat) : Int := (w32 (beNat (slice bs i 4))).toInt

/-- A decoder (R214): MAGIC, ENC and CELL valid, LENGTH fitting ENC, the CRC matching, the cells covered exactly. -/
def decodeTile (bs : List Byte) : Option Decoded :=
  let n (i k : Nat) : Nat := beNat (slice bs i k)
  let len := n 16 4
  let p := slice bs 32 len
  let layer := n 2 1
  let cell := n 12 1
  if bs.length < 32 ∨ n 0 2 ≠ 0x5444 ∨ n 13 3 ≠ 0 ∨ cell > 4 ∨ (layer > 3 ∧ layer ≠ 8) ∨ (layer = 8 ∧ cell ≠ 4) ∨ (layer ≠ 8 ∧ cell = 4)
    ∨ p.length ≠ len ∨ crc32 p ≠ n 20 4 then none
  else (parsePayload layer (n 3 1) p).map (fun r => ⟨layer, beInt bs 4, beInt bs 8, cell, n 24 4, n 28 4, r⟩)

/-! Directory and window (R204 to R210) -/

/-- JOB_STATE (R195). -/
def joNONE : Nat := 0
def joLOADING : Nat := 1
def joOPEN : Nat := 2
def joCLOSED : Nat := 3
def Dev.jobState (d : Dev) : Nat := d.fld Reg.MAP_JOB_STATE 1 0

/-- The cell size in micrometres (R192, R224). -/
def Dev.cellUm (d : Dev) : Int := ([25000, 50000, 100000, 200000] : List Int).getD (d.fld Reg.MAP_JOB_CFG 1 0) 25000
def Dev.mapLayers (d : Dev) : Nat := d.fld Reg.MAP_JOB_CFG 5 4 + 1

/-- The order of the export stream (R215). -/
def tileBefore (a b : Nat × Int × Int) : Bool :=
  a.1 < b.1 || (a.1 = b.1 && (a.2.2 < b.2.2 || (a.2.2 = b.2.2 && a.2.1 < b.2.1)))
def StoredTile.key (t : StoredTile) : Nat × Int × Int := (t.layer, t.x, t.y)
def WinTile.key (t : WinTile) : Nat × Int × Int := (t.layer, t.x, t.y)

/-- A tile put in its place in the directory. -/
def dirInsert : List StoredTile → StoredTile → List StoredTile
  | [], t => [t]
  | x :: r, t => if tileBefore t.key x.key then t :: x :: r else if t.key = x.key then t :: r else x :: dirInsert r t

def Dev.dirFind (d : Dev) (k : Nat × Int × Int) : Option StoredTile := d.map.dir.find? (fun t => decide (t.key = k))
def Dev.winFind (d : Dev) (k : Nat × Int × Int) : Option WinTile := d.map.win.find? (fun t => decide (t.key = k))
def Dev.modWin (d : Dev) (k : Nat × Int × Int) (f : WinTile → WinTile) : Dev :=
  { d with map := { d.map with win := d.map.win.map (fun t => if t.key = k then f t else t) } }

/-- The heap in bytes (R208), what is taken of it, and the directory's limit. -/
def heapBytes : Nat := 1920 * 1048576
def dirLimit : Nat := 262144
def dirBytes (dir : List StoredTile) : Nat := (dir.map (·.bytes)).sum
def Dev.bytesOf (d : Dev) (k : Nat × Int × Int) : Nat := (d.dirFind k).elim 0 (·.bytes)

/-- TILES_STORED, HEAP_FREE, WIN_RES and NEAR_FULL (R210, R224). -/
def Dev.mapShow (d : Dev) : Dev :=
  let free := (heapBytes - dirBytes d.map.dir) / 1024
  let d := (d.wrN Reg.MAP_TILES_STORED d.map.dir.length).wrN Reg.MAP_HEAP_FREE free
  let dirty := (d.map.win.filter (·.dirty)).length
  (d.wrN Reg.MAP_WIN_RES (min d.map.win.length 255 + dirty % 256 * 2 ^ 8)).setStat pMAP 17 (free < d.rdN Reg.MAP_LOW_SPACE)

/-- Values that name a tile in a record. -/
def tileWords (k : Nat × Int × Int) : List W32 := [w32 k.1, w32i k.2.1, w32i k.2.2]

/-- Store a tile in the directory, or mark it LOST where heap or directory is full (R207, R210); a tile that the directory has no entry for
is kept as lost beside it. The new copy is written to the spare's write-back reserve, so that a rewrite counts its own size only (R208,
R209). Prescription tiles lie in a region of their own, 511 at most (R208). -/
def Dev.storeTile (d : Dev) (t : StoredTile) : Dev :=
  let rx := t.layer = 8
  let size := if rx then 0 else (encodeTile (d.fld Reg.MAP_JOB_CFG 1 0) (d.rdN Reg.MAP_JOB_ID) (d.bit Reg.MAP_ENC_FORCE 0) t).length
  let had : Bool := (d.dirFind t.key).isSome
  let full := (!had && d.map.dir.length ≥ dirLimit) || dirBytes d.map.dir - d.bytesOf t.key + size > heapBytes
    || (rx && !had && (d.map.dir.filter (·.layer = 8)).length ≥ 511)
  if full then
    let d := if rx then d
      else if had || decide (d.map.dir.length < dirLimit) then
        { d with map := { d.map with dir := dirInsert d.map.dir { t with cells := uniformRuns cellUnknown, bytes := 0, lost := true } } }
      else { d with map := { d.map with lostKeys := t.key :: d.map.lostKeys } }
    (d.faultRec pMAP 17 (tileWords t.key)).mapShow
  else ({ d with map := { d.map with
    dir := dirInsert d.map.dir { t with bytes := size, lost := false, unreadable := false }
    lostKeys := d.map.lostKeys.filter (· ≠ t.key) } }).mapShow

/-- A window tile as a stored one. -/
def WinTile.stored (t : WinTile) : StoredTile := { layer := t.layer, x := t.x, y := t.y, seq := t.seq, cells := t.cells }

/-- Write a dirty slot back (R207). -/
def Dev.writeBack (d : Dev) (t : WinTile) : Dev :=
  let d := d.storeTile t.stored
  (d.modWin t.key (fun x => { x with dirty := false, since := d.tm.tbm })).mapShow

/-- Window slots (R204). -/
def winSlots : Nat := 128

/-- The slot that was least recently used among those this turn does not need; among all where it needs every one. -/
def evictee (now : Nat) (win : List WinTile) : Option WinTile :=
  let pick (l : List WinTile) : Option WinTile :=
    l.foldl (fun m t => match m with | none => some t | some x => if t.used < x.used then some t else some x) none
  match pick (win.filter (fun t => t.used < now)) with
  | some t => some t
  | none => pick win

/-- A slot for a tile: the least recently used one is written back where it is dirty, and leaves (R204, R207). -/
def Dev.makeSlot (d : Dev) : Dev :=
  if d.map.win.length < winSlots then d
  else match evictee d.turnNo d.map.win with
    | none => d
    | some t =>
      let d := if t.dirty then d.writeBack t else d
      { d with map := { d.map with win := d.map.win.filter (fun x => x.key ≠ t.key) } }

/-- What a tile enters the window as: the stored cells, 0x3F where it is LOST or UNREADABLE, 0 without an entry (R205, R210, R222). -/
def entryCells : Option StoredTile → Runs
  | none => uniformRuns 0
  | some t => if t.lost || t.unreadable then uniformRuns cellUnknown else t.cells

/-- A tile enters the window (R205). -/
def Dev.enterWindow (d : Dev) (k : Nat × Int × Int) : Dev :=
  if (d.winFind k).isSome then d
  else
    let d := d.makeSlot
    let e := d.dirFind k
    let t : WinTile := { layer := k.1, x := k.2.1, y := k.2.2, seq := e.elim 0 (·.seq)
                         cells := if d.map.lostKeys.contains k then uniformRuns cellUnknown else entryCells e
                         dirty := e.elim false (·.unreadable), used := d.turnNo, since := d.tm.tbm }
    ({ d with map := { d.map with win := d.map.win ++ [t], asks := d.map.asks.filter (fun a => (a.layer, a.x, a.y) ≠ k) } }).mapShow

/-- A stored tile is found unreadable: a clean resident copy is written back; otherwise it is marked and its cells are lost, while a dirty
resident copy stays in its slot (R222). -/
def Dev.unreadable (d : Dev) (k : Nat × Int × Int) : Dev :=
  match d.dirFind k with
  | none => d
  | some e =>
    match (d.winFind k).filter (fun t => !t.dirty) with
    | some t => d.writeBack t
    | none =>
      let d := { d with map := { d.map with dir := dirInsert d.map.dir { e with unreadable := true, cells := uniformRuns cellUnknown } } }
      let d := (((d.incSat Reg.MAP_UNK_TILES).wrI Reg.MAP_LAST_UNK_X k.2.1).wrI Reg.MAP_LAST_UNK_Y k.2.2).wrN Reg.MAP_LAST_UNK_L k.1
      (d.irq pMAP 18).faultRec pMAP 16 (tileWords k)

/-! Ground (R192, R199, R200) -/

/-- A point of the ground in micrometres. -/
abbrev Pt := Int × Int

/-- The tile of a cell and the cell's place in it (R211). -/
def tileOf (layer : Nat) (i j : Int) : (Nat × Int × Int) × Nat :=
  ((layer, Int.fdiv i 256, Int.fdiv j 256), (Int.fmod j 256 * 256 + Int.fmod i 256).toNat)

/-- The cell that contains a point; a point on an edge lies in the cell to its east or north (R229). -/
def cellOf (c : Int) (p : Pt) : Int × Int := (Int.fdiv p.1 c, Int.fdiv p.2 c)

/-- A channel's place in the image. -/
def Dev.foot (d : Dev) (c : Nat) : Footprint :=
  match d.imp.active with
  | some im => (sfind im.feet c).getD {}
  | none => {}

/-- The frame of a channel's body at a pose, and a point of the footprint's body on the ground; the whole footprint is shifted along x
by the deflection at its centre (R127, R181). Lengths in micrometres. -/
def Dev.footPoint (d : Dev) (f : Footprint) (fr : Knot) (x y : Int) : Pt := bodyPoint fr (x + d.deflect f.body f.cy) y

/-- The corners of a footprint at a pose of the vehicle, in order round it (R127). -/
def Dev.corners (d : Dev) (c : Nat) (k : Knot) : List Pt :=
  let f := d.foot c
  let fr := d.bodyFrame f.body k
  let x0 := f.cx * 1000 - (f.d : Int) * 500
  let x1 := f.cx * 1000 + (f.d : Int) * 500
  let y0 := f.cy * 1000 - (f.w : Int) * 500
  let y1 := f.cy * 1000 + (f.w : Int) * 500
  [d.footPoint f fr x0 y0, d.footPoint f fr x1 y0, d.footPoint f fr x1 y1, d.footPoint f fr x0 y1]

/-- The pose predicted for a time, where there is one. -/
def Dev.poseAt (d : Dev) (t : Int) : Option Knot :=
  match d.pose.motion with
  | some m => some (predictFrom m d.pose.base t)
  | none => none

/-- Twice the signed area of a triangle: positive where the third point lies to the left. -/
def cross2 (a b p : Pt) : Int := (b.1 - a.1) * (p.2 - a.2) - (b.2 - a.2) * (p.1 - a.1)

/-- Points in order of east, then north. -/
def ptInsert (p : Pt) : List Pt → List Pt
  | [] => [p]
  | q :: r => if p.1 < q.1 ∨ (p.1 = q.1 ∧ p.2 ≤ q.2) then p :: q :: r else q :: ptInsert p r

/-- A point laid on a chain that turns left only. -/
def hullPush (p : Pt) : List Pt → List Pt
  | b :: a :: r => if cross2 a b p ≤ 0 then hullPush p (a :: r) else p :: b :: a :: r
  | l => p :: l

/-- The convex hull of points, anticlockwise. -/
def hull (ps : List Pt) : List Pt :=
  let s := ps.foldl (fun l p => ptInsert p l) []
  let low := s.foldl (fun l p => hullPush p l) []
  let up := s.reverse.foldl (fun l p => hullPush p l) []
  (low.drop 1).reverse ++ (up.drop 1).reverse

/-- Twice the area of a polygon. -/
def area2 (ps : List Pt) : Nat :=
  match ps with
  | [] => 0
  | a :: _ => ((ps.zip (ps.drop 1 ++ [a])).foldl (fun (s : Int) (e : Pt × Pt) => s + (e.1.1 * e.2.2 - e.1.2 * e.2.1)) 0).natAbs

/-- A point lies in a convex anticlockwise polygon (R200): strictly inside, or on an edge whose outward normal has a negative east
component, or none and a negative north component. -/
def inHull (ps : List Pt) (p : Pt) : Bool :=
  match ps with
  | [] => false
  | a :: _ => (ps.zip (ps.drop 1 ++ [a])).all (fun (e : Pt × Pt) =>
      let s := cross2 e.1 e.2 p
      let ne := e.2.2 - e.1.2
      let nn := e.1.1 - e.2.1
      decide (s > 0) || (decide (s = 0) && (decide (ne < 0) || (decide (ne = 0) && decide (nn < 0)))))

/-- The whole numbers from `a` to `b`. -/
def intRange (a b : Int) : List Int := if b < a then [] else (List.range (b - a + 1).toNat).map (fun (n : Nat) => a + (n : Int))

/-- The cells of side `c` whose centres lie in a polygon (R192, R200). -/
def hullCells (c : Int) (ps : List Pt) : List (Int × Int) :=
  match ps with
  | [] => []
  | p :: _ =>
    let es := ps.map (fun (q : Pt) => q.1)
    let ns := ps.map (fun (q : Pt) => q.2)
    let i0 := Int.fdiv (es.foldl min p.1) c - 1
    let i1 := Int.fdiv (es.foldl max p.1) c + 1
    let j0 := Int.fdiv (ns.foldl min p.2) c - 1
    let j1 := Int.fdiv (ns.foldl max p.2) c + 1
    let twice : List Pt := ps.map (fun (q : Pt) => (2 * q.1, 2 * q.2))
    (intRange j0 j1).flatMap (fun j => (intRange i0 i1).filterMap (fun i =>
      if inHull twice ((2 * i + 1) * c, (2 * j + 1) * c) then some (i, j) else none))

/-! Painting (R197 to R203) -/

/-- The layer that a channel paints, none where it paints nothing (R194). -/
def Dev.layerOf (d : Dev) (c : Nat) : Option Nat :=
  let l := d.fld (Reg.CH_CFG c) 10 8
  if !d.metered c then none
  else if l < d.mapLayers ∧ l ≤ 3 ∧ d.configured objLimits = true then some l
  else none

/-- The learned on- and off-latency in ns, rounded to 1 µs with halves up (R249); a METER channel has none (R250). -/
def latNs (w : W32) : Int := ((field w 23 0 + 8) / 16 * 1000 : Nat)
def Dev.latOn (d : Dev) (c : Nat) : Int :=
  if d.mode c = mSWITCH then (d.fld (Reg.LATT_NOM c) 15 0 * 10000 : Nat)
  else if d.profiled c then latNs (d.rd (Reg.LAT_ON c)) else 0
def Dev.latOff (d : Dev) (c : Nat) : Int :=
  if d.mode c = mSWITCH then (d.fld (Reg.LATT_NOM c) 31 16 * 10000 : Nat)
  else if d.profiled c then latNs (d.rd (Reg.LAT_OFF c)) else 0

/-- The static delay in ns (R249). -/
def Dev.delayNs (d : Dev) (c : Nat) : Int := (d.fld (Reg.CH_DELAY c) 16 0 * 100000 : Nat)

/-- A pulse period in ticks, to the nearest (R265). -/
def Dev.pulseTicks (d : Dev) (c : Nat) : Nat :=
  let f := max 1 (d.fld (Reg.CH_MODEPAR c) 7 0)
  (500000000 + f) / (2 * f)

/-- Ground time not painted (R197). -/
def Dev.unpainted (d : Dev) (ns : Int) : Dev :=
  let n := d.map.unpaintedNs + ns.toNat
  ({ d with map := { d.map with unpaintedNs := n } }).wr64 Reg.MAP_UNPAINTED_US (n / 1000 % 2 ^ 64)

def Dev.strokesOf (d : Dev) (c : Nat) : List Stroke := sget (fun _ => []) d.map.strokes c
def Dev.setStrokes (d : Dev) (c : Nat) (l : List Stroke) : Dev :=
  { d with map := { d.map with strokes := sset (fun _ => []) d.map.strokes c l } }

/-- The rate ratio of a delivered interval of a VALVE or PWMNOZ channel (R198): the factor of the descriptor, or the pulse's duty over
the nominal duty; `len` is the delivered or, while it runs, the planned open time in ticks. -/
def Dev.rhoOf (d : Dev) (c : Nat) (len : Nat) : Nat × Nat :=
  if d.mode c = mVALVE then
    let f := d.fld (Reg.CH_MODEPAR c) 31 16
    (if f = 0 then 256 else f, 256)
  else
    let p := d.pulseTicks c
    if len ≥ p then (65536, max 1 (d.fld (Reg.CH_MODEPAR c) 31 16))
    else (len * 65536, p * max 1 (d.fld (Reg.CH_MODEPAR c) 31 16))

/-- A delivered interval that the tiles report, into the painter's queue of 64 strokes; one that finds no room is counted as unpainted,
once its end is known (R198, R202). -/
def Dev.paintPart (d : Dev) (c : Nat) (p : Part) (joins : Bool) : Dev :=
  let q := d.strokesOf c
  match joins, q.getLast? with
  | true, some st => d.setStrokes c (q.dropLast ++ [{ st with parts := st.parts ++ [p] }])
  | _, _ =>
    if q.length ≥ 64 then
      let d := match p.e with
        | some e => d.unpainted (e - p.s)
        | none => { d with map := { d.map with unqueued := sinsert d.map.unqueued c p.s } }
      d.fault pMAP 19
    else d.setStrokes c (q ++ [{ parts := [p] }])

/-- The electrical interval `[a, b)` in ticks, open where it still runs, of a VALVE or PWMNOZ channel reported at a turn; one that was
open at the turn before is carried on (R197). -/
def Dev.paintDel (d : Dev) (c frameTick : Nat) (iv : Nat × Option Nat) : Dev :=
  let q := d.strokesOf c
  let gs := (4 * iv.1 : Nat) + d.latOn c + d.delayNs c
  let ge : Option Int := iv.2.map (fun b => (4 * b : Nat) + d.latOff c + d.delayNs c)
  let open? : Option (Stroke × Part) := match q.getLast? with
    | some st => (match st.parts.getLast? with | some p => if p.e.isNone then some (st, p) else none | none => none)
    | none => none
  match open?, sfind d.map.unqueued c, decide (iv.1 = frameTick) with
  | _, some s, true =>
    match ge with
    | none => d
    | some g => ({ d with map := { d.map with unqueued := serase d.map.unqueued c } }).unpainted (g - s)
  | some (st, p), none, true =>
    match ge with
    | none => d
    | some g =>
      let b := iv.2.getD 0
      let r := d.rhoOf c (b - p.el)
      d.setStrokes c (q.dropLast ++ [{ st with parts := st.parts.dropLast ++ [{ p with e := some (max p.s g), ee := iv.2, num := r.1, den := r.2 }] }])
  | _, _, _ =>
    let len := match iv.2 with | some b => b - iv.1 | none => (match (d.chan c).runEnd with | some e => e - iv.1 | none => d.pulseTicks c)
    let r := d.rhoOf c len
    let joins : Bool := match q.getLast? with
      | some st => (match st.parts.getLast? with
        | some p => d.mode c = mPWMNOZ && decide (iv.1 - p.ee.getD iv.1 ≤ d.pulseTicks c)
        | none => false)
      | none => false
    d.paintPart c { el := iv.1, s := gs, e := ge.map (max gs), ee := iv.2, num := r.1, den := r.2 } joins

/-- A METER channel's frame: `units` delivered in 1/256 while the duty that drives it is above 0 (R17, R198). -/
def Dev.paintMeter (d : Dev) (c t0 t1 units : Nat) : Dev :=
  if (0 < units ∨ d.meterDrives c = true) ∧ t1 > t0 then
    let q := d.strokesOf c
    let gs := (4 * t0 : Nat) + d.delayNs c
    let joins : Bool := match q.getLast? with
      | some st => (match st.parts.getLast? with | some p => decide (p.e = some gs) | none => false)
      | none => false
    d.paintPart c { el := t0, s := gs, e := some ((4 * t1 : Nat) + d.delayNs c), ee := some t1, num := units, den := t1 - t0 } joins
  else d

/-- Paint one cell (R201). -/
def Dev.paintCell (d : Dev) (layer : Nat) (rho : Nat) (ij : Int × Int) : Dev :=
  let k := tileOf layer ij.1 ij.2
  let d := if (d.winFind k.1).isSome then d else (d.enterWindow k.1).inc Reg.MAP_PAGE_IN_CNT
  match d.winFind k.1 with
  | none => d
  | some t =>
    let v := cellAt t.cells k.2
    let put (d : Dev) (count : Nat) (rate : Nat) : Dev :=
      let rc := rateCode rate
      let d := if rc.2 then d.incSat Reg.MAP_RATE_SAT else d
      let seq := d.map.frameSeq
      d.modWin k.1 (fun x => { x with cells := setCell x.cells k.2 (count * 64 + rc.1), dirty := true, seq := seq, used := d.turnNo })
    if v = 0 then put d 1 rho
    else if v < 0x40 then d.incSat Reg.MAP_UNK_HITS
    else put d (min (v / 64 + 1) 3) (codeRate (v % 64) + rho)

/-- The enabled loop that drives a METER channel (R294). -/
def Dev.meterLoop (d : Dev) (c : Nat) : Option Nat :=
  (List.range 128).find? (fun l => d.lpEn l && bindKind (d.rd (Reg.LP_OUT l)) = 1 && bindIndex (d.rd (Reg.LP_OUT l)) = c)

/-- The geometry registers of the active set, and a part with the pose and geometry of a frame that has ended (R199). -/
def geoAddrs : List Nat := [1, 2, 3].flatMap (fun b => (List.range 6).map (termAddr b))
def Dev.geoWords (d : Dev) : List W32 := geoAddrs.map d.rd
def Dev.asIn (d : Dev) (f : FramePast) : Dev :=
  (geoAddrs.zip f.geo).foldl (fun d p => d.wr p.1 p.2) { d with pose := f.pose }

/-- The rate ratio of a piece with 64 binary places (R198): of the pulse that delivers it, or the metered units over what the nominal rate
calls for on the piece's ground, `um2` square micrometres. -/
def Dev.pieceRho (d : Dev) (c layer : Nat) (ns : Int) (um2 : Nat) (p : Part) : Nat :=
  if d.mode c = mMETER then
    let gain := (fToFixed (d.rd (Reg.LPT_SP_GAIN ((d.meterLoop c).getD 0))) 65536 1).toNat
    let nom := gain * d.rdN (Reg.MAP_NOM_RATE layer) * um2
    if nom = 0 then 0 else p.num * (ns.toNat / 4) * 2 ^ 72 * 10000 * 1000000000000 / (p.den * nom)
  else p.num * 2 ^ 64 / p.den

/-- The piece of a stroke of channel `c` from ground time `a` to `b`, both in the frame `f` (R199). -/
def Dev.paintPiece (d : Dev) (c layer : Nat) (a b : Int) (first : Bool) (p : Part) (f : FramePast) : Dev :=
  let e := d.asIn f
  match e.poseAt a, e.poseAt b with
  | some ka, some kb =>
    let fa := e.corners c ka
    let h := hull (fa ++ e.corners c kb)
    let ha := hull fa
    let cells := (hullCells d.cellUm h).filter (fun ij =>
      first || !inHull (ha.map (fun (q : Pt) => (2 * q.1, 2 * q.2))) ((2 * ij.1 + 1) * d.cellUm, (2 * ij.2 + 1) * d.cellUm))
    let rho := d.pieceRho c layer (b - a) ((area2 h - (if first then 0 else area2 ha)) / 2) p
    cells.foldl (fun d ij => d.paintCell layer rho ij) d
  | _, _ => d

/-- A whole number put in its place in a rising list, once. -/
def intInsert (x : Int) : List Int → List Int
  | [] => [x]
  | y :: r => if x < y then x :: y :: r else if x = y then y :: r else y :: intInsert x r

/-- The spans into which the ground time from `a` to `b` falls: cut at every turn and where another pulse or frame of the stroke begins to
deliver (R198, R199). -/
def groundSpans (past : List FramePast) (parts : List Part) (a b : Int) : List (Int × Int) :=
  let cuts := ((past.map (·.till) ++ parts.map (·.s)).filter (fun x => decide (a < x) && decide (x < b))).foldl (fun l x => intInsert x l) []
  (a :: cuts).zip (cuts ++ [b])

/-- The frame in which a ground time falls, among those kept. -/
def frameAt (past : List FramePast) (t : Int) : FramePast :=
  (past.find? (fun f => decide (t < f.till))).getD (past.getLast?.getD {})

/-- Paint one span of a stroke, or count it as unpainted (R197). -/
def Dev.paintSpan (d : Dev) (c : Nat) (layer : Option Nat) (st : Stroke) (first : Bool) (ab : Int × Int) : Dev :=
  let f := frameAt d.map.past ab.1
  let p := (st.parts.filter (fun x => decide (x.s ≤ ab.1))).getLast?.getD (st.parts.headD { el := 0, s := 0 })
  match f.isOpen, layer with
  | true, some l => d.paintPiece c l ab.1 ab.2 first p f
  | _, _ => d.unpainted (ab.2 - ab.1)

/-- A stroke whose last interval has ended goes on no more: a PWMNOZ channel's once no pulse can follow within a period, a METER channel's
where the next frame delivers nothing (R198); `t1` is the instant up to which intervals have been reported. -/
def Dev.strokeOver (d : Dev) (c : Nat) (t1 : Int) (last : Bool) (p : Part) : Bool :=
  !last || (if d.mode c = mPWMNOZ then decide ((4 * (p.ee.getD 0 + d.pulseTicks c) : Nat) < t1)
    else if d.mode c = mMETER then decide ((4 * p.ee.getD 0 : Nat) < t1) else true)

/-- The ground of one stroke up to `t1` is painted, and the stroke as it goes on; `none` once it is painted to its end (R197, R199). The gap
after a pulse is painted once the pulse that follows has been delivered, with the pose and geometry of each frame that it crosses. -/
def Dev.paintStroke (d : Dev) (c : Nat) (layer : Option Nat) (t1 : Int) (last : Bool) (st : Stroke) : Dev × Option Stroke :=
  match st.parts.head?, st.parts.getLast? with
  | some p0, some pl =>
    let a := st.done.getD p0.s
    let lim : Int := match pl.e with | some e => min e t1 | none => t1
    let spans := if a < lim then groundSpans d.map.past st.parts a lim else []
    let d := spans.foldl (fun d ab => d.paintSpan c layer st (st.done.isNone && decide (ab.1 = a)) ab) d
    let done : Option Int := if a < lim then some lim else st.done
    if pl.e.any (fun e => decide (e ≤ t1)) && d.strokeOver c t1 last pl then (d, none)
    else
      let g := done.getD p0.s
      let old := st.parts.filter (fun x => decide (x.s ≤ g))
      (d, some { parts := old.drop (old.length - 1) ++ st.parts.filter (fun x => decide (g < x.s)), done := done })
  | _, _ => (d, none)

end Sys2Proof.Machine
end

