-- ==== Sys2Proof/Machine/Map.lean ====
section
/-! DEFINITION. The commands of the Tidemark map (chapter 08): the job, painting, paging, write-back, scrub, export, import and the
prescription, and the map's part of a turn. -/

namespace Sys2Proof.Machine

/-! The job (R195, R223) -/

/-- A command that the state does not allow: status LEN and FAULT.CMD (R195, R223). -/
def mapRefuse (s : State) : Status × State := (.len, onDev (·.fault pMAP 20) s)

/-- Set JOB_STATE; a change sets IRQ_RAW.JOB (R225). -/
def Dev.setJob (d : Dev) (st : Nat) : Dev := (d.wrN Reg.MAP_JOB_STATE st).irq pMAP 19

/-- Everything that a job holds is freed (R195). -/
def Dev.freeMap (d : Dev) : Dev :=
  ((({ d with map := { d.map with dir := [], win := [], asks := [], rxNext := [], exp := none, page := [], lostKeys := [], check := none } }).setStat
    pMAP 18 false).setStat pMAP 19 false).mapShow

/-- Every dirty slot is written back (R195). -/
def Dev.writeAll (d : Dev) : Dev := (d.map.win.filter (·.dirty)).foldl (fun d t => d.writeBack t) d

/-- JOB_CMD (R195). -/
def actJobCmd (v : W32) : Act := fun s =>
  let d := s.dev
  let st := d.jobState
  let valid := d.stat pPOSE 16
  match v.toNat with
  | 1 =>
    if (st = joNONE ∨ st = joLOADING) ∧ valid = true then
      (.ok, onDev (fun d => (if st = joNONE then d.freeMap else d).setJob joOPEN) s)
    else mapRefuse s
  | 2 => if st = joNONE ∧ valid = true then (.ok, onDev (fun d => d.freeMap.setJob joLOADING) s) else mapRefuse s
  | 3 => if st = joOPEN then (.ok, onDev (fun d => d.writeAll.setJob joCLOSED) s) else mapRefuse s
  | 4 => if st = joLOADING ∨ st = joCLOSED then (.ok, onDev (fun d => d.freeMap.setJob joNONE) s) else mapRefuse s
  | _ => mapRefuse s

/-- JOB_OPEN (R195). -/
def execJobOpen (req : Requester) (s : State) : Host.Outcome State Fault Refusal :=
  .next (hostCmd req Reg.MAP_JOB_CMD 1#32 (actJobCmd 1#32) s)
/-- JOB_LOAD (R195). -/
def execJobLoad (req : Requester) (s : State) : Host.Outcome State Fault Refusal :=
  .next (hostCmd req Reg.MAP_JOB_CMD 2#32 (actJobCmd 2#32) s)
/-- JOB_CLOSE (R195). -/
def execJobClose (req : Requester) (s : State) : Host.Outcome State Fault Refusal :=
  .next (hostCmd req Reg.MAP_JOB_CMD 3#32 (actJobCmd 3#32) s)
/-- JOB_DISCARD (R195). -/
def execJobDiscard (req : Requester) (s : State) : Host.Outcome State Fault Refusal :=
  .next (hostCmd req Reg.MAP_JOB_CMD 4#32 (actJobCmd 4#32) s)

/-! Painting (R197 to R203) -/

/-- Paint a channel's ground up to the last turn, stroke by stroke. -/
def Dev.paintChannel (d : Dev) (c : Nat) : Dev :=
  let layer := d.layerOf c
  let t1 := (d.map.past.getLast?.getD {}).till
  let n := (d.strokesOf c).length
  let r := (d.strokesOf c).foldl (fun (a : (Dev × List Stroke) × Nat) st =>
    let p := a.1.1.paintStroke c layer t1 (a.2 + 1 = n) st
    ((p.1, a.1.2 ++ p.2.toList), a.2 + 1)) ((d, []), 0)
  r.1.1.setStrokes c r.1.2

/-- Only the frames whose ground may still be painted are kept. -/
def Dev.dropPast (d : Dev) : Dev :=
  let waits : List Int := d.map.strokes.flatMap (fun p => p.2.filterMap (fun st => st.done.orElse (fun _ => st.parts.head?.map (·.s))))
  { d with map := { d.map with past := d.map.past.filter (fun f => waits.any (fun t => decide (t < f.till))) } }

/-- The painter's work of a frame, in channel-number order (R201). -/
def Dev.paintFrame (d : Dev) : Dev :=
  if d.map.paintDue then
    let d := (d.map.strokes.map (·.1)).foldl (fun d c => d.paintChannel c) d
    (({ d with map := { d.map with paintDue := false } }).dropPast).mapShow
  else d

/-- MAP_PAINT (R203): 200 µs after the turn, 100 µs at T_F = 250 µs, and after the SDE stage of the frame. -/
def execMapPaint (s : State) : Host.Outcome State Fault Refusal :=
  .next (onDev (fun d =>
    if d.map.paintDue = true ∧ d.frm.stage ≠ 0 then (d.toTbm (d.frm.turnTbm + (if d.tf = 250000 then 100000 else 200000))).paintFrame else d) s)

/-! The window (R204 to R207) -/

/-- PAGE_IN_COMPLETE (R205, R222): the `tile`-th of the page-ins asked for. -/
def execPageInComplete (tile : Nat) (readable : Bool) (s : State) : Host.Outcome State Fault Refusal :=
  .next (onDev (fun d =>
    match d.map.asks[tile]? with
    | none => d
    | some a =>
      let k := (a.layer, a.x, a.y)
      let d := if readable then d else d.unreadable k
      let d := (d.inc Reg.MAP_PAGE_IN_CNT).peak Reg.MAP_PAGE_IN_PEAK ((d.tm.tbm - a.asked) / 1000)
      d.enterWindow k) s)

/-- TILE_WRITE_BACK (R207): the slot's WB_PERIOD has run; a copy that does not read back leaves the old one and the slot dirty. -/
def execTileWriteBack (tile : Nat) (readsBack : Bool) (s : State) : Host.Outcome State Fault Refusal :=
  .next (onDev (fun d =>
    match d.map.win[tile]? with
    | none => d
    | some t =>
      if t.dirty then
        let d := d.toTbm (t.since + d.rdN Reg.MAP_WB_PERIOD * 1000000)
        if readsBack then d.writeBack t else d
      else d) s)

/-- Eight cells from a place on lose their coverage (R221). -/
def loseWord (r : Runs) (word : Nat) : Runs := (List.range 8).foldl (fun r i => setCell r (8 * word + i) cellUnknown) r

/-- One finding of a scrub (R220 to R222). -/
def Dev.scrubOne (d : Dev) (e : ScrubError) : Dev :=
  match e with
  | .corrected => d.incSat Reg.MAP_CORR_CNT
  | .window slot word =>
    match d.map.win[slot]? with
    | none => d
    | some t =>
      let k := t.key
      let d := if t.dirty then (d.modWin k (fun x => { x with cells := loseWord x.cells word })).addSat Reg.MAP_UNK_CELLS 8
        else d.modWin k (fun x => { x with cells := entryCells (d.dirFind k) })
      (d.irq pMAP 18).recIrq pMAP 18 (tileWords k ++ [w32 (8 * word)])
  | .stored index =>
    match d.map.dir[index]? with
    | none => d
    | some t => d.unreadable t.key

/-- MAP_SCRUB (R220). -/
def execMapScrub (errs : List ScrubError) (s : State) : Host.Outcome State Fault Refusal :=
  .next (onDev (fun d => (errs.foldl (fun d e => d.scrubOne e) d).mapShow) s)

/-! Export (R215, R216) -/

/-- The job header of the stream (R215). -/
def Dev.exportHeader (d : Dev) (since : Option Nat) : List Byte :=
  [0x54#8, 0x44#8, 0x4A#8, 0x31#8, 0#8, 1#8, BitVec.ofNat 8 (d.fld Reg.MAP_JOB_CFG 1 0), BitVec.ofNat 8 d.mapLayers]
    ++ bytesBE (d.rd Reg.MAP_JOB_ID)
    ++ bytesBE (d.rd Reg.POSE_JOB_LAT) ++ bytesBE (d.rd Reg.POSE_JOB_LON) ++ bytesBE (d.rd Reg.POSE_JOB_H)
    ++ [0, 1, 2, 3].flatMap (fun l => bytesBE (d.rd (Reg.MAP_NOM_RATE l)))
    ++ bytesBE (d.rd Reg.MAP_RX_UNIT) ++ be4 (since.getD 0) ++ bytesBE (d.rd Reg.FRM_FRAME_SEQ) ++ List.replicate 12 0#8

/-- Append bytes to an export: they are produced, and covered by its CRC. -/
def Export.add (x : Export) (bs : List Byte) : Export :=
  { x with tail := x.tail ++ bs, produced := x.produced + bs.length, crc := bs.foldl crc32Byte x.crc }

/-- The trailer (R215). -/
def Dev.exportTrailer (d : Dev) (x : Export) : Export :=
  let x := x.add ([0x54#8, 0x44#8, 0x45#8, 0x31#8] ++ be4 x.count ++ bytesBE (d.rd Reg.FRM_FRAME_SEQ) ++ natBE 8 (x.produced + 32))
  { x.add (be4 (x.crc ^^^ 0xFFFFFFFF) ++ List.replicate 8 0#8) with done := true }

/-- What an export takes of a tile: the window copy where it is dirty, else the stored one, unknown where it is unreadable or lost. -/
def Dev.exportTile (d : Dev) (k : Nat × Int × Int) : Option StoredTile :=
  match d.winFind k with
  | some t => if t.dirty then some t.stored else (d.dirFind k).map (fun e => { e with cells := entryCells (some e) })
  | none => (d.dirFind k).map (fun e => { e with cells := entryCells (some e) })

/-- A tile belongs to an export (R216). -/
def Export.wants (x : Export) (t : StoredTile) : Bool :=
  match x.since with
  | none => true
  | some n => t.layer ≠ 8 && (let diff := (w32 t.seq - w32 n).toNat; 1 ≤ diff && diff < 2 ^ 31)

/-- The keys that an export has still to reach, in stream order (R215). -/
def Dev.exportKeys (d : Dev) (x : Export) : List (Nat × Int × Int) :=
  let all := (d.map.win.filter (·.dirty)).foldl (fun l t => dirInsert l t.stored) d.map.dir
  (all.map (·.key)).filter (fun k => match x.last with | none => true | some l => tileBefore l k)

/-- A stream page (R216). -/
def pageBytes : Nat := 1048576

/-- Produce tiles until a page is full or none is left; the trailer follows the last. -/
def Dev.exportFill (d : Dev) (x : Export) : List (Nat × Int × Int) → Export
  | [] => if x.done then x else d.exportTrailer x
  | k :: r =>
    if x.tail.length ≥ pageBytes then x
    else
      let x := { x with last := some k }
      match d.exportTile k with
      | none => d.exportFill x r
      | some t =>
        if x.wants t then
          let bs := encodeTile (d.fld Reg.MAP_JOB_CFG 1 0) (d.rdN Reg.MAP_JOB_ID) (d.bit Reg.MAP_ENC_FORCE 0) t
          d.exportFill { x.add bs with count := x.count + 1 } r
        else d.exportFill x r

/-- EXP_CMD (R216). -/
def actExpCmd (v : W32) : Act := fun s =>
  let st := s.dev.jobState
  if v.toNat = 3 then (.ok, onDev (fun d => ({ d with map := { d.map with exp := none } }).setStat pMAP 18 false) s)
  else if st = joNONE ∨ st = joLOADING then (.len, onDev (·.lenReject pMAP) s)
  else (.ok, onDev (fun d =>
    let since := if v.toNat = 2 then some (d.rdN Reg.MAP_EXP_SINCE) else none
    let x := ({ since := since } : Export).add (d.exportHeader since)
    (({ d with map := { d.map with exp := some x, page := [] } }).setStat pMAP 18 true).wr64 Reg.MAP_EXP_LEN x.produced) s)

/-- EXPORT_FULL (R216). -/
def execExportFull (req : Requester) (s : State) : Host.Outcome State Fault Refusal :=
  .next (hostCmd req Reg.MAP_EXP_CMD 1#32 (actExpCmd 1#32) s)
/-- EXPORT_SINCE (R216). -/
def execExportSince (req : Requester) (s : State) : Host.Outcome State Fault Refusal :=
  .next (hostCmd req Reg.MAP_EXP_CMD 2#32 (actExpCmd 2#32) s)
/-- EXPORT_ABANDON (R216). -/
def execExportAbandon (req : Requester) (s : State) : Host.Outcome State Fault Refusal :=
  .next (hostCmd req Reg.MAP_EXP_CMD 3#32 (actExpCmd 3#32) s)

/-- EXP_PAGE (R216): pages in ascending order. -/
def actExpPage (v : W32) : Act := fun s =>
  match s.dev.map.exp with
  | some x =>
    if x.next = v.toNat ∧ x.asked = none then
      (.ok, onDev (fun d => ({ d with map := { d.map with exp := some { x with asked := some v.toNat } } }).wr Reg.MAP_EXP_PAGE v) s)
    else (.len, onDev (·.lenReject pMAP) s)
  | none => (.len, onDev (·.lenReject pMAP) s)

/-- EXPORT_PAGE_REQUEST (R216). -/
def execExportPageRequest (req : Requester) (page : Nat) (s : State) : Host.Outcome State Fault Refusal :=
  .next (hostCmd req Reg.MAP_EXP_PAGE (w32 page) (actExpPage (w32 page)) s)

/-- EXPORT_PAGE_READY (R216): the page asked for is filled. -/
def execExportPageReady (s : State) : Host.Outcome State Fault Refusal :=
  .next (onDev (fun d =>
    match d.map.exp with
    | none => d
    | some x =>
      match x.asked with
      | none => d
      | some k =>
        let was := x.done
        let x := d.exportFill x (d.exportKeys x)
        let page := x.tail.take pageBytes
        let d := { d with map := { d.map with page := page, exp := some { x with tail := x.tail.drop pageBytes, next := k + 1, asked := none } } }
        let d := (d.wr64 Reg.MAP_EXP_LEN x.produced).irq pMAP 16
        if x.done && !was then (d.irq pMAP 17).setStat pMAP 18 false else d) s)

/-! Import (R217, R219) -/

/-- Bytes of a window from its start (word offsets). -/
def winBytes (m : SMap W32) (n : Nat) : List Byte :=
  ((List.range ((n + 3) / 4)).flatMap (fun i => bytesBE (sget (fun _ => 0#32) m i))).take n

/-- The length of a record agrees with its header (R217). -/
def recordFits (m : SMap W32) (len : Nat) : Bool :=
  let l := (sget (fun _ => 0#32) m 4).toNat
  len ≤ pageBytes && len = 32 + (l + 3) / 4 * 4

/-- The other checks of an imported tile, and the tile to store (R217); `rx` where it comes as a prescription (R219). -/
def Dev.importTile (d : Dev) (rx : Bool) (bs : List Byte) : Option StoredTile :=
  match decodeTile bs with
  | none => none
  | some t =>
    let job := d.rdN Reg.MAP_JOB_ID
    let layerOk := t.layer = 8 ∨ (t.layer < d.mapLayers ∧ rx = false)
    let cellOk := t.layer = 8 ∨ t.cell = d.fld Reg.MAP_JOB_CFG 1 0
    let jobOk := t.job = job ∨ (t.layer = 8 ∧ t.job = 0)
    let cellsOk := t.layer = 8 || t.cells.all (fun p => !cellBad p.1)
    if layerOk ∧ cellOk ∧ jobOk ∧ cellsOk = true then
      some { layer := t.layer, x := t.x, y := t.y, seq := t.seq, cells := t.cells }
    else none

/-- An imported tile replaces any stored one; a window slot of it is dropped (R217). -/
def Dev.acceptTile (d : Dev) (t : StoredTile) : Dev :=
  ({ d with map := { d.map with win := d.map.win.filter (fun x => x.key ≠ t.key) } }).storeTile t

/-- A record is checked and stored, or rejected (R217). -/
def Dev.takeTile (d : Dev) (rx : Bool) (bs : List Byte) : Dev :=
  match d.importTile rx bs with
  | none => (d.inc Reg.MAP_IMP_REJ).fault pMAP 18
  | some t =>
    let d := d.inc Reg.MAP_IMP_ACC
    if t.layer = 8 then { d with map := { d.map with rxNext := d.map.rxNext ++ [t] } } else d.acceptTile t

/-- A record is given to the check; STATUS.IMP_BUSY stands until it ends, at the next turn (DESIGN CHOICE, log entry 63). -/
def Dev.startCheck (d : Dev) (rx : Bool) (bs : List Byte) : Dev :=
  ({ d with map := { d.map with check := some (rx, bs) } }).setStat pMAP 19 true

/-- The check of a record ends. -/
def Dev.endCheck (d : Dev) : Dev :=
  match d.map.check with
  | some (rx, bs) => (({ d with map := { d.map with check := none } }).setStat pMAP 19 false).takeTile rx bs
  | none => d

/-- IMP_CMD (R217, R223). -/
def actImpCmd : Act := fun s =>
  let d := s.dev
  let len := d.rdN Reg.MAP_IMP_LEN
  if d.jobState ≠ joLOADING ∨ d.map.check.isSome = true then mapRefuse s
  else if !recordFits d.map.expWin len then (.len, onDev (·.lenReject pMAP) s)
  else (.ok, onDev (fun d => d.startCheck false (winBytes d.map.expWin len)) s)

/-- TILE_IMPORT (R217). -/
def execTileImport (req : Requester) (s : State) : Host.Outcome State Fault Refusal :=
  .next (hostCmd req Reg.MAP_IMP_CMD 1#32 actImpCmd s)

/-- RX_CMD (R219): accepted in LOADING and OPEN. -/
def actRxCmd : Act := fun s =>
  let d := s.dev
  let len := d.rdN Reg.MAP_RX_LEN
  if (d.jobState ≠ joLOADING ∧ d.jobState ≠ joOPEN) ∨ d.map.check.isSome = true then mapRefuse s
  else if !recordFits d.map.rxWin len then (.len, onDev (·.lenReject pMAP) s)
  else (.ok, onDev (fun d => d.startCheck true (winBytes d.map.rxWin len)) s)

/-- PRESCRIPTION_SUBMIT (R219). -/
def execPrescriptionSubmit (req : Requester) (s : State) : Host.Outcome State Fault Refusal :=
  .next (hostCmd req Reg.MAP_RX_CMD 1#32 actRxCmd s)

/-- The prescribed rate at a point in micrometres, 0xFFFF where there is none (R219). -/
def Dev.prescribed (d : Dev) (p : Pt) : Nat :=
  let ij := cellOf 1000000 p
  let k := tileOf 8 ij.1 ij.2
  match d.dirFind k.1 with
  | some t => if t.unreadable then 0xFFFF else cellAt t.cells k.2
  | none => 0xFFFF

/-! The map's part of a turn -/

/-- What a turn takes from the frame that has ended, before anything of the new one acts: the pose and geometry that held in it, the
delivered intervals of the channels, and the units of the meters (R197, R199, R203). `t0` and `t1` are the two turns in ticks. -/
def Dev.mapReport (d : Dev) (t0 t1 : Nat) (units : List (Nat × Nat)) : Dev :=
  let d := d.paintFrame
  let f : FramePast := { from_ := (4 * t0 : Nat), till := (4 * t1 : Nat), pose := d.pose, geo := d.geoWords, isOpen := decide (d.map.job = joOPEN) }
  let seq := d.rdN Reg.FRM_FRAME_SEQ
  let d := { d with map := { d.map with past := d.map.past ++ [f], frameSeq := seq, paintDue := true } }
  let d := d.drv.ch.foldl (fun d p =>
    if d.profiled p.1 || d.mode p.1 = mSWITCH then p.2.book.dels.foldl (fun d iv => d.paintDel p.1 t0 iv) d else d) d
  units.foldl (fun d u => d.paintMeter u.1 t0 t1 u.2) d

/-- The job's state that the new frame decides and paints under, the prescription tiles accepted before the turn, and the end of the check of
an import (R196, R217, R219). -/
def Dev.mapTurn (d : Dev) : Dev :=
  let st := d.jobState
  let d := { d with map := { d.map with job := st } }
  let new := d.map.rxNext
  (new.foldl (fun (d : Dev) t => d.acceptTile t) { d with map := { d.map with rxNext := [] } }).endCheck

/-- Put a key with its distance behind every one that is not further (R204). -/
def needInsert (l : List ((Nat × Int × Int) × Nat)) (k : Nat × Int × Int) (s : Nat) : List ((Nat × Int × Int) × Nat) :=
  if l.any (fun p => decide (p.1 = k)) then l else l ++ [(k, s)]

/-- A square from a corner, of side `s`, and a convex polygon have a point in common: no side of the polygon has the square beyond it; the
caller asks only for squares that the polygon's bounds touch. -/
def hullTouches (ps : List Pt) (e n s : Int) : Bool :=
  let sq : List Pt := [(e, n), (e + s, n), (e + s, n + s), (e, n + s)]
  match ps with
  | [] => false
  | a :: _ => (ps.zip (ps.drop 1 ++ [a])).all (fun (g : Pt × Pt) => ps.length < 3 || sq.any (fun q => decide (0 ≤ cross2 g.1 g.2 q)))

/-- The tiles that the hull of points touches, in every layer in use. -/
def Dev.hullTiles (d : Dev) (ps : List Pt) : List (Nat × Int × Int) :=
  match ps with
  | [] => []
  | p :: _ =>
    let side := 256 * d.cellUm
    let h := hull ps
    let es := ps.map (fun (q : Pt) => q.1)
    let ns := ps.map (fun (q : Pt) => q.2)
    (List.range d.mapLayers).flatMap (fun l =>
      (intRange (Int.fdiv (ns.foldl min p.2) side) (Int.fdiv (ns.foldl max p.2) side)).flatMap (fun y =>
        (intRange (Int.fdiv (es.foldl min p.1) side) (Int.fdiv (es.foldl max p.1) side)).filterMap (fun x =>
          if hullTouches h (x * side) (y * side) side then some (l, x, y) else none)))

/-- The pose a path distance ahead in the direction of travel, in micrometres. -/
def Dev.poseAhead (d : Dev) (s : Int) : Option Knot :=
  match d.pose.motion with
  | some m =>
    let k0 := predictFrom m d.pose.base d.pose.latchT
    some (alongArc k0 m.kappa (if m.p.spd < 0 then -s else s) d.pose.latchT)
  | none => none

/-- The largest on-latency plus static delay of channels, in ns. -/
def Dev.delayMax (d : Dev) (cs : List Nat) : Nat := (cs.map (fun c => (d.latOn c + d.delayNs c).toNat)).foldl max 0

/-- The tiles needed, nearest path distance first (R204): those that the footprints reach from where they are to `dist` mm along the
predicted path, taken in steps of 1 m. -/
def Dev.neededTiles (d : Dev) (cs : List Nat) (dist : Nat) : List ((Nat × Int × Int) × Nat) :=
  (List.range (max 1 (ceilDiv dist 1000))).foldl (fun l (i : Nat) =>
    match d.poseAhead ((i : Int) * 1000000), d.poseAhead ((min (1000 * i + 1000) dist : Nat) * 1000) with
    | some k, some k' => cs.foldl (fun l c =>
        (d.hullTiles (d.corners c k ++ d.corners c k')).foldl (fun l t => needInsert l t (i * 1000)) l) l
    | _, _ => l) []

/-- The window at a turn (R204, R205): needed tiles that have no entry enter at once, the others are asked for. -/
def Dev.mapPrefetch (d : Dev) : Dev :=
  let cs := d.activeChans.filter (fun c => (d.layerOf c).isSome)
  let v := match d.pose.motion with | some m => m.p.spd.natAbs | none => 0
  let dist := d.rdN Reg.MAP_PF_DIST + v * (d.delayMax cs / 1000) / 1000000
  let all := d.neededTiles cs dist
  let need := all.take winSlots
  let short := decide (all.length > winSlots)
  let act := if short then ((all.drop winSlots).head?.map (·.2)).getD dist else dist
  let d := (d.setStat pMAP 16 short).wr Reg.MAP_PF_DIST_ACT (sat32 act)
  let now := d.turnNo
  let d := { d with map := { d.map with
    win := d.map.win.map (fun t => if need.any (fun p => decide (p.1 = t.key)) then { t with used := now } else t)
    asks := d.map.asks.filter (fun a => need.any (fun p => decide (p.1 = (a.layer, a.x, a.y)))) } }
  need.foldl (fun d p =>
    if (d.winFind p.1).isSome then d
    else if (d.dirFind p.1).isNone then d.enterWindow p.1
    else if d.map.asks.any (fun a => decide ((a.layer, a.x, a.y) = p.1)) then d
    else { d with map := { d.map with asks := d.map.asks ++ [{ layer := p.1.1, x := p.1.2.1, y := p.1.2.2, asked := d.tm.tbm }] } }) d

end Sys2Proof.Machine
end

