-- ==== Sys2Proof/Machine/SdeOps.lean ====
section
/-! DEFINITION. Section decisions (chapter 09): probes, the boundary, coverage and other tests, the sweep along the predicted path, and
distance hysteresis. Lengths are in micrometres in the body and on the ground, path positions in mm. -/

namespace Sys2Proof.Machine

def pSDE : Nat := 0x021

/-! Polygons (R218, R231) -/

/-- An active polygon: whether it is an exclusion, and its vertices in mm. -/
structure Polygon where
  excl : Bool
  pts : List Pt
  deriving DecidableEq, Repr

/-- A word of a polygon store. -/
def polyWord (m : SMap W32) (o : Nat) : W32 := sget (fun _ => 0#32) m (o / 4)

/-- The polygons that a store describes (R218). -/
def polygonsOf (m : SMap W32) : List Polygon :=
  (List.range 64).filterMap (fun p =>
    let kind := field (polyWord m (16 * p)) 31 24
    if kind = 1 ∨ kind = 2 then
      let first := (polyWord m (16 * p + 4)).toNat
      let count := min (polyWord m (16 * p + 8)).toNat 65536
      some { excl := kind = 2, pts := (List.range count).map (fun v =>
        ((polyWord m (0x1000 + 8 * (first + v))).toInt, (polyWord m (0x1000 + 8 * (first + v) + 4)).toInt)) }
    else none)

/-- The edges of a polygon, from each vertex to the next and from the last to the first. -/
def edgesOf (ps : List Pt) : List (Pt × Pt) :=
  match ps with
  | [] => []
  | a :: _ => ps.zip (ps.drop 1 ++ [a])

/-- The even-odd rule (R218), for a point and vertices scaled by the same factor `m`. -/
def insidePoly (m : Int) (ps : List Pt) (p : Pt) : Bool :=
  ((edgesOf ps).filter (fun (e : Pt × Pt) =>
    let a : Pt := (m * e.1.1, m * e.1.2)
    let b : Pt := (m * e.2.1, m * e.2.2)
    (decide (a.2 > p.2) != decide (b.2 > p.2)) &&
      (if b.2 > a.2 then decide ((p.1 - a.1) * (b.2 - a.2) < (b.1 - a.1) * (p.2 - a.2))
        else decide ((p.1 - a.1) * (b.2 - a.2) > (b.1 - a.1) * (p.2 - a.2))))).length % 2 = 1

/-- A point in mm times `m` lies in the field: inside some boundary where there is one, and outside every exclusion (R231). -/
def inField (polys : List Polygon) (m : Int) (p : Pt) : Bool :=
  let bs := polys.filter (fun q => !q.excl)
  (bs.isEmpty || bs.any (fun q => insidePoly m q.pts p)) && !polys.any (fun q => q.excl && insidePoly m q.pts p)

/-- Parts of 2^40 along a segment. -/
def segOne : Int := 2 ^ 40

/-- Where a polygon edge crosses the line of a segment, in 2^-40 of the segment. -/
def crossAt (a b : Pt) (e : Pt × Pt) : Option Int :=
  let dx := b.1 - a.1
  let dy := b.2 - a.2
  let ex := e.2.1 - e.1.1
  let ey := e.2.2 - e.1.2
  let den := dx * ey - dy * ex
  if den = 0 then none
  else
    let t := (e.1.1 - a.1) * ey - (e.1.2 - a.2) * ex
    let u := (e.1.1 - a.1) * dy - (e.1.2 - a.2) * dx
    let (t, u, den) := if den < 0 then (-t, -u, -den) else (t, u, den)
    if 0 < t ∧ t < den ∧ 0 ≤ u ∧ u ≤ den then some (t * segOne / den) else none

/-- A width in micrometres, and a place in 2^-40 of it, in whole mm to the nearest. -/
def mmWidth (um : Int) : Int := divRound um 1000
def mmAt (um t : Int) : Int := divRound (mmWidth um * t) (2 ^ 40)

/-- The lengths in whole mm of a segment `um` micrometres wide that lie out of the field, and of those the ones inside an exclusion (R231):
the segment is cut at the polygon edges. The ends are in micrometres. -/
def segOut (polys : List Polygon) (um : Int) (a b : Pt) : Int × Int :=
  let thousand (e : Pt × Pt) : Pt × Pt := ((e.1.1 * 1000, e.1.2 * 1000), (e.2.1 * 1000, e.2.2 * 1000))
  let cuts := polys.flatMap (fun q => (edgesOf q.pts).filterMap (fun e => crossAt a b (thousand e)))
  let ts := intInsert 0 (intInsert segOne (cuts.foldl (fun l x => intInsert x l) []))
  (ts.zip (ts.drop 1)).foldl (fun (acc : Int × Int) (iv : Int × Int) =>
    let mid := iv.1 + iv.2
    let p : Pt := (a.1 * (2 * segOne) + (b.1 - a.1) * mid, a.2 * (2 * segOne) + (b.2 - a.2) * mid)
    let out := !inField polys (2000 * segOne) p
    let ex := polys.any (fun q => q.excl && insidePoly (2000 * segOne) q.pts p)
    let n := mmAt um iv.2 - mmAt um iv.1
    (acc.1 + (if out then n else 0), acc.2 + (if ex then n else 0))) (0, 0)

/-! Probes (R227, R228) -/

/-- A probe: its body, the body x of its line with the deflection counted in, and its lateral segments. -/
structure Probe where
  body : Nat
  x : Int
  segs : List (Int × Int)
  centre : Int
  deriving DecidableEq, Repr

/-- Body x of a channel's front edge without deflection (R227). -/
def Dev.frontX (d : Dev) (c : Nat) : Int := (d.foot c).cx * 1000 + ((d.foot c).d : Int) * 500

/-- The span of a channel's probe. -/
def Dev.spanOf (d : Dev) (c : Nat) : Int × Int :=
  ((d.foot c).cy * 1000 - ((d.foot c).w : Int) * 500, (d.foot c).cy * 1000 + ((d.foot c).w : Int) * 500)

/-- Spans in order of their lower ends, and their union. -/
def spanInsert (x : Int × Int) : List (Int × Int) → List (Int × Int)
  | [] => [x]
  | y :: r => if x.1 ≤ y.1 then x :: y :: r else y :: spanInsert x r
def joinFrom (a : Int × Int) : List (Int × Int) → List (Int × Int)
  | [] => [a]
  | b :: r => if b.1 ≤ a.2 then joinFrom (a.1, max a.2 b.2) r else a :: joinFrom b r
def joinSpans : List (Int × Int) → List (Int × Int)
  | [] => []
  | a :: r => joinFrom a r

/-- The reference channel of a section: the largest front edge, the lowest number among equals (R227). -/
def Dev.refChannel (d : Dev) (cs : List Nat) : Option Nat :=
  cs.foldl (fun m c => match m with
    | none => some c
    | some r => if d.frontX c > d.frontX r then some c else some r) none

/-- Members that a section's probe uses: the non-SWITCH ones, all where there are none (R227). -/
def Dev.usedMembers (d : Dev) (cs : List Nat) : List Nat :=
  let xs := cs.filter (fun c => d.mode c ≠ mSWITCH)
  if xs.isEmpty then cs else xs

/-- The probe of one channel, and that of a section. -/
def Dev.probeOf (d : Dev) (ref : Nat) (cs : List Nat) : Probe :=
  let f := d.foot ref
  { body := f.body, x := d.frontX ref + d.deflect f.body f.cy
    segs := joinSpans (cs.foldl (fun l c => spanInsert (d.spanOf c) l) []), centre := f.cy * 1000 }

/-- The total width in mm. -/
def Probe.width (p : Probe) : Int := p.segs.foldl (fun s x => s + mmWidth (x.2 - x.1)) 0

/-- Lateral places of the sample points of a segment (R228). -/
def samplesOf (spacing : Int) (sg : Int × Int) : List Int :=
  let w := sg.2 - sg.1
  let n := 2 * ceilDiv w.toNat (2 * spacing).toNat + 1
  (List.range n).map (fun (q : Nat) => sg.1 + Int.fdiv ((2 * (q : Int) + 1) * w) (2 * (n : Int)))

/-- The sample spacing in micrometres (R228). -/
def Dev.spacing (d : Dev) : Int :=
  let s := d.rdN Reg.SDE_COV_SPACING
  if s = 0 then d.cellUm else (s : Int) * 1000

/-- The ground speed of a body point in micrometres per ms, that is mm/s: along the body's heading, and its size (R230, R252). -/
def Dev.pointSpeed (d : Dev) (body : Nat) (x y : Int) (k k1 : Knot) : Int × Nat :=
  let f0 := d.bodyFrame body k
  let a := bodyPoint f0 x y
  let b := bodyPoint (d.bodyFrame body k1) x y
  let de := b.1 - a.1
  let dn := b.2 - a.2
  (scale60 de (sinPsi f0.psi) + scale60 dn (cosPsi f0.psi), hypot de dn)

/-! The tests (R230 to R235) -/

/-- Whose settings decide a probe: the section, a second one for FORCE_OFF, the layer whose coverage is read (none for NONE), and the
probe. -/
structure Decider where
  sec : Nat
  sec2 : Option Nat
  layer : Option Nat
  probe : Probe
  deriving DecidableEq, Repr

/-- Causes (R230, R245). -/
def caOPEN : Nat := 0
def caHOLD : Nat := 5
def caBOUNDARY : Nat := 7
def caEXCLUSION : Nat := 8
def caRXZERO : Nat := 9
def caFORCEON : Nat := 10
def caNOJOB : Nat := 11
def caCOVERED : Nat := 12
def caSUPPRESSED : Nat := 13

/-- What the tests give at a place of the path: the state, none where it is held; its cause; the rate; whether the speed test failed;
whether an unknown or a non-resident cell counted. -/
structure Verdict where
  on : Option Bool
  cause : Nat
  rate : Nat
  slow : Bool
  unk : Bool := false
  miss : Bool := false
  deriving DecidableEq, Repr

/-- Section fields (R245). -/
def Dev.secEn (d : Dev) (n : Nat) : Bool := d.bit (Reg.SEC_CFG n) 0
/-- OVERRIDE of a section as the turn sampled it (R241). -/
def Dev.ovrWord (d : Dev) (n : Nat) : W32 := sget (fun _ => 0xFFFF0000#32) d.sde.ovr (Reg.SEC_OVERRIDE n)
def Dev.ovr (d : Dev) (n : Nat) : Nat := field (d.ovrWord n) 1 0
def Dev.covLayer (d : Dev) (n : Nat) : Option Nat := let l := d.fld (Reg.SEC_CFG n) 3 1; if l ≤ 3 then some l else none

/-- The rate at a point (R234). -/
def Dev.rateAt (d : Dev) (sec : Nat) (p : Option Pt) : Nat :=
  let o := field (d.ovrWord sec) 31 16
  if o ≠ 0xFFFF then o
  else match p with
    | some q => let r := d.prescribed q; if r ≠ 0xFFFF then r else d.fld (Reg.SEC_RATE sec) 15 0
    | none => d.fld (Reg.SEC_RATE sec) 15 0

/-- What a cell reads in the coverage test: `none` where its tile is not resident (R196, R206, R233). -/
def Dev.coverage (d : Dev) (layer : Nat) (p : Pt) : Option Nat :=
  if d.map.job ≠ joOPEN ∧ d.map.job ≠ joCLOSED then some 0
  else if layer ≥ d.mapLayers then some 0
  else
    let ij := cellOf d.cellUm p
    let k := tileOf layer ij.1 ij.2
    match d.winFind k.1 with
    | some t => some (cellAt t.cells k.2)
    | none => none

/-- The coverage test (R232): state, and whether unknown and non-resident cells counted. -/
def Dev.coverTest (d : Dev) (x : Decider) (polys : List Polygon) (fr : Knot) (prev : Bool) : Bool × Bool × Bool :=
  match x.layer with
  | none => (true, false, false)
  | some l =>
    let pts := x.probe.segs.flatMap (fun sg => (samplesOf d.spacing sg).map (fun y => bodyPoint fr x.probe.x y))
    let inside := pts.filter (fun p => inField polys 1000 p)
    let use := if inside.isEmpty then pts else inside
    let cells := use.map (d.coverage l)
    let unknown (v : Option Nat) : Bool := match v with | none => true | some n => 1 ≤ n && n ≤ 0x3F
    let holdOff := d.fld (Reg.SEC_CFG x.sec) 5 4 = 1
    let cov := (cells.filter (fun v => if unknown v then holdOff else (match v with | some n => 0x40 ≤ n | none => false))).length
    let n := cells.length
    let off := d.fld (Reg.SEC_THR x.sec) 7 0
    let on := d.fld (Reg.SEC_THR x.sec) 15 8
    let st := if prev then !decide (cov * 100 ≥ off * n) else decide (cov * 100 < on * n)
    (st, cells.any unknown, cells.any (·.isNone))

/-- What a lost host makes of the decisions (R406): CLOSE takes MASTER.ON as 0, FREEZE holds every state. -/
def Dev.hostCloses (d : Dev) : Bool := d.sup.applied && d.sup.closes
def Dev.hostFreezes (d : Dev) : Bool := d.sup.applied && d.sup.lost.any (fun (p : Nat × Nat) => p.1 = 2)

/-- The tests in their order at a pose `k` of the vehicle (R230); `kk` are the poses at its ground time and 1 ms later, from which the speed
is taken, `prev` is the state held so far and `slow` whether the speed test had failed. -/
def Dev.judge (d : Dev) (x : Decider) (polys : List Polygon) (prev slow : Bool) (k : Option Knot) (kk : Option (Knot × Knot)) : Verdict :=
  let fr : Option Knot := k.map (fun k => d.bodyFrame x.probe.body k)
  let rate := d.rateAt x.sec (fr.map (fun fr => bodyPoint fr x.probe.x x.probe.centre))
  let off (c : Nat) : Verdict := ⟨some false, c, rate, slow, false, false⟩
  if !d.secEn x.sec then off 1
  else if !d.sde.master || d.hostCloses then off 2
  else if d.ovr x.sec = 1 || x.sec2.any (fun n => d.ovr n = 1) then off 3
  else if d.poseState = psLOST || (d.poseMotion = moREVERSE && !d.bit Reg.POSE_REV_POLICY 0) then off 4
  else match kk, fr with
    | some kk, some fr =>
      let v := d.pointSpeed x.probe.body x.probe.x x.probe.centre kk.1 kk.2
      let along := if d.poseMotion = moREVERSE then -v.1 else v.1
      if d.poseMotion = moFROZEN || d.hostFreezes || decide (along < (d.rdN Reg.SDE_PIVOT_SPD : Nat)) then ⟨none, caHOLD, rate, slow, false, false⟩
      else
        let lo := d.fld (Reg.SEC_SPEED x.sec) 15 0 * 1000
        let hi := d.fld (Reg.SEC_SPEED x.sec) 31 16 * 1000
        let h := if slow then d.rdN Reg.SDE_SPD_HYST * 1000 else 0
        let sp := v.2 * 36
        if sp < lo + h ∨ sp + h > hi then { off 6 with slow := true }
        else
          let off (c : Nat) : Verdict := ⟨some false, c, rate, false, false, false⟩
          let outs := x.probe.segs.map (fun sg =>
            segOut polys (sg.2 - sg.1) (bodyPoint fr x.probe.x sg.1) (bodyPoint fr x.probe.x sg.2))
          let out := outs.foldl (fun (s : Int) (p : Int × Int) => s + p.1) 0
          let ex := outs.foldl (fun (s : Int) (p : Int × Int) => s + p.2) 0
          let bad := decide (out * 100 ≥ (d.fld (Reg.SEC_THR x.sec) 23 16 : Nat) * x.probe.width) && decide (out > 0)
          if bad || (d.bit (Reg.SEC_CFG x.sec) 8 && decide (ex > 0)) then off (if ex > 0 then caEXCLUSION else caBOUNDARY)
          else if rate = 0 then off caRXZERO
          else if d.ovr x.sec = 2 then ⟨some true, caFORCEON, rate, false, false, false⟩
          else if d.map.job ≠ joOPEN ∧ d.map.job ≠ joCLOSED ∧ d.fld (Reg.SEC_CFG x.sec) 7 6 = 1 then off caNOJOB
          else
            let r := d.coverTest x polys fr prev
            ⟨some r.1, if r.1 then caOPEN else caCOVERED, rate, false, r.2.1, r.2.2⟩
    | _, _ => ⟨none, caHOLD, rate, slow, false, false⟩

/-! The sweep (R236) -/

/-- A run of states along the path: where it begins, its state, the cause it begins with and the last one in it, whether all causes in
it can be filled, and whether a non-resident cell decided its beginning. -/
structure Run where
  s : Int
  on : Bool
  cause : Nat
  last : Nat
  fill : Bool
  miss : Bool
  deriving DecidableEq, Repr

/-- Causes of an OFF run that a gap fill can close (R237). -/
def fillable (c : Nat) : Bool := c = caCOVERED || c = caRXZERO || c = caNOJOB

/-- The sweep under way: the runs, newest first; the rates entered, newest first; the rate last entered; the speed test. -/
structure Sweep where
  runs : List Run
  rates : List (Int × Nat)
  rate : Nat
  slow : Bool
  deriving DecidableEq, Repr

/-- A new rate differs enough from the one last entered (R234). -/
def rateMoves (db last new : Nat) : Bool := ((new : Int) - last).natAbs * 100 > db * last

/-- One place of the sweep. -/
def Sweep.at (w : Sweep) (db : Nat) (s : Int) (v : Verdict) : Sweep :=
  let w := { w with slow := v.slow }
  let w := if v.cause ≠ caHOLD && rateMoves db w.rate v.rate then { w with rates := (s, v.rate) :: w.rates, rate := v.rate } else w
  match v.on, w.runs with
  | none, _ => w
  | some on, [] => { w with runs := [⟨s, on, v.cause, v.cause, fillable v.cause, v.miss⟩] }
  | some on, r :: rest =>
    if r.on = on then { w with runs := { r with last := v.cause, fill := r.fill && fillable v.cause } :: rest }
    else { w with runs := ⟨s, on, v.cause, v.cause, fillable v.cause, v.miss⟩ :: r :: rest }

/-- Ground time at a path position in micrometres, by interpolation between the knots to 1 µs (R236). -/
def timeOnPath : List Knot → Int → Int
  | a :: b :: r, s =>
    if (a.s ≤ b.s ∧ s ≤ b.s) ∨ (b.s ≤ a.s ∧ b.s ≤ s ∧ b.s ≠ a.s) ∨ r = [] then
      let len := b.s - a.s
      if len = 0 then a.t
      else
        let num := (s - a.s) * (b.t - a.t) * (if len < 0 then -1 else 1)
        divRound (a.t * 1 + divRound num len.natAbs) 1000 * 1000
    else timeOnPath (b :: r) s
  | [a], _ => a.t
  | [], _ => 0

/-- Places of the sweep in mm: from the turn to the end of the horizon. -/
def Dev.sweepLength (d : Dev) : Nat :=
  match d.pose.knots.head?, d.pose.knots.getLast? with
  | some a, some b => (b.s - a.s).natAbs / 1000
  | _, _ => 0

/-- The pose at a path position in micrometres: E, N and ψ interpolated linearly between the neighbouring knots (R126). -/
def knotOnPath : List Knot → Int → Option Knot
  | a :: b :: r, s =>
    if (a.s ≤ b.s ∧ s ≤ b.s) ∨ (b.s ≤ a.s ∧ b.s ≤ s ∧ b.s ≠ a.s) ∨ r = [] then
      let len := b.s - a.s
      if len = 0 then some a
      else
        let part (x : Int) : Int := divRound (x * (s - a.s) * (if len < 0 then -1 else 1)) len.natAbs
        let turn := (b.psi - a.psi + 2 ^ 31) % 2 ^ 32 - 2 ^ 31
        some { t := a.t + part (b.t - a.t), e := a.e + part (b.e - a.e), n := a.n + part (b.n - a.n)
               psi := (a.psi + part turn) % 2 ^ 32, s := s }
    else knotOnPath (b :: r) s
  | [a], _ => some a
  | [], _ => none

/-- The pose at a place `s` mm along the way travelled, and the poses of R125 at its ground time and 1 ms later, from which speeds are
taken: the interpolation between knots gives positions only. -/
def Dev.poseOnPath (d : Dev) (s : Int) : Option Knot × Option (Knot × Knot) :=
  match d.pose.motion, d.pose.knots.head? with
  | some m, some k0 =>
    let at_ := k0.s + (if m.p.spd < 0 then -(s * 1000) else s * 1000)
    let t := timeOnPath d.pose.knots at_
    (knotOnPath d.pose.knots at_, some (predictFrom m d.pose.base t, predictFrom m d.pose.base (t + 1000000)))
  | _, _ => (none, none)

/-- Sweep a probe over `n` mm from `s` on. -/
def Dev.sweep (d : Dev) (x : Decider) (polys : List Polygon) : Nat → Int → Sweep → Sweep
  | 0, _, w => w
  | n + 1, s, w =>
    let k := d.poseOnPath s
    let prev := w.runs.head?.elim false (·.on)
    d.sweep x polys n (s + 1) (w.at (d.fld (Reg.SEC_THR x.sec) 31 24) s (d.judge x polys prev w.slow k.1 k.2))

/-! Hysteresis (R237) -/

/-- Short runs filled or removed, in path order: the runs left, and where the removed ones began (`true` for a filled OFF run). The
first run is under way, the last one ends beyond the horizon. -/
def smooth (minOn minOff : Int) (cur : Run) : List Run → List Run × List (Int × Bool)
  | [] => ([cur], [])
  | [c] => ([cur, c], [])
  | c :: n :: r =>
    let len := n.s - c.s
    if (!c.on && c.fill && decide (len < minOff)) || (c.on && decide (len < minOn)) then
      let q := smooth minOn minOff { cur with last := if c.on then n.last else cur.last, fill := cur.fill && n.fill } r
      (q.1, (c.s, !c.on) :: q.2)
    else
      let q := smooth minOn minOff c (n :: r)
      (cur :: q.1, q.2)

/-- Slack in mm of a change to `on` with cause `cause` after a run whose last cause was `before`: early and late (R240). -/
def Dev.slackOf (d : Dev) (sec : Nat) (on : Bool) (cause before : Nat) : Nat × Nat :=
  let overlap := d.fld (Reg.SEC_ALLOW sec) 15 0
  let skip := d.fld (Reg.SEC_ALLOW sec) 31 16
  if on then
    if (before = caCOVERED ∧ cause = caOPEN) ∨ before = caRXZERO then (overlap, skip)
    else if before = caBOUNDARY ∨ before = caEXCLUSION then (0, skip)
    else (0, 0)
  else if cause = caCOVERED ∨ cause = caRXZERO then (skip, overlap)
  else if cause = caBOUNDARY ∨ cause = caEXCLUSION then (skip, 0)
  else (0, 0)

/-- The changes along the path from the runs left and the rates entered: state changes with their slack, and rate changes while the
state is ON, in path order (R239, R240). -/
def Dev.changesOf (d : Dev) (sec : Nat) (runs : List Run) (rates : List (Int × Nat)) (rate0 : Nat) : List Change :=
  let rateAt (s : Int) : Nat := ((rates.filter (fun p => decide (p.1 ≤ s))).getLast?.map (·.2)).getD rate0
  let states := (runs.zip (runs.drop 1)).map (fun (p : Run × Run) =>
    let sl := d.slackOf sec p.2.on p.2.cause p.1.last
    ({ s := p.2.s, on := p.2.on, cause := p.2.cause, early := sl.1, late := sl.2, rate := rateAt p.2.s, miss := p.2.miss } : Change))
  let onAt (s : Int) : Bool := ((runs.filter (fun r => decide (r.s ≤ s))).getLast?.map (·.on)).getD false
  let moves := (rates.filter (fun p => decide (p.1 > 0) && onAt p.1 && !states.any (fun c => decide (c.s = p.1)))).map
    (fun p => ({ s := p.1, on := true, rateOnly := true, rate := p.2 } : Change))
  moves.foldl (fun l c => (l.takeWhile (fun y => decide (y.s ≤ c.s))) ++ c :: l.dropWhile (fun y => decide (y.s ≤ c.s))) states

end Sys2Proof.Machine
end

