-- ==== Sys2Proof/Machine/Sde.lean ====
section
/-! DEFINITION. The commands of the section decisions (chapter 09): the stage of a frame, with the members' timelines and the loops'
set-points, and the timeline read-out. -/

namespace Sys2Proof.Machine

/-! Deciding -/

/-- The state that a decision stands for, fills and suppressions counted in (R237). -/
def Decision.state (x : Decision) : Bool := if x.mask then !x.on else x.on

/-- What a probe's decision of a frame gives: the standing decision, the changes ahead, and the runs removed. -/
structure Decided where
  dec : Decision
  changes : List Change
  removed : List (Int × Bool)
  rate : Nat
  unk : Bool
  held : Bool := false
  deriving DecidableEq, Repr

/-- Path position of the turn, in micrometres. -/
def Dev.pathNow (d : Dev) : Int := d.pose.knots.head?.elim 0 (·.s)

/-- Path position of a place `s` mm ahead in the direction of travel. -/
def Dev.pathPos (d : Dev) (s : Int) : Int :=
  match d.pose.motion with
  | some m => if m.p.spd < 0 then d.pathNow - s * 1000 else d.pathNow + s * 1000
  | none => d.pathNow

/-- Decide a probe for a frame (R230 to R237); `keep` is how far behind, in micrometres, members follow. -/
def Dev.decideProbe (d : Dev) (x : Decider) (polys : List Polygon) (dec : Decision) (keep : Int) : Decided :=
  let k := d.poseOnPath 0
  let v0 := d.judge x polys dec.on dec.slow k.1 k.2
  match v0.on with
  | none =>
    { dec := { dec with cause := v0.cause, slow := v0.slow, unk := false, nextAt := none }
      changes := [], removed := [], rate := v0.rate, unk := false, held := true }
  | some on0 =>
    let db := d.fld (Reg.SEC_THR x.sec) 31 24
    let rate0 := if rateMoves db dec.rate v0.rate then v0.rate else dec.rate
    let mask := (if on0 = dec.on then dec.mask else dec.maskNext) && (on0 || fillable v0.cause)
    let w := d.sweep x polys d.sweepLength 1
      { runs := [⟨0, on0, v0.cause, v0.cause, fillable v0.cause, v0.miss⟩], rates := [], rate := rate0, slow := v0.slow }
    let raws := w.runs.reverse
    let r0 : Run := (raws.head?).getD ⟨0, on0, v0.cause, v0.cause, fillable v0.cause, false⟩
    let next := raws.drop 1
    let start : Run := if mask then
        { r0 with on := !on0, cause := (if on0 then caSUPPRESSED else caOPEN), last := (next.head?.map (·.last)).getD v0.cause }
      else r0
    let q := smooth (d.fld (Reg.SEC_HYST x.sec) 15 0) (d.fld (Reg.SEC_HYST x.sec) 31 16) start (if mask then next.drop 1 else next)
    let changes := d.changesOf x.sec q.1 w.rates.reverse rate0
    let maskNext := !mask && next.head?.elim false (fun r => q.2.any (fun p => decide (p.1 = r.s)))
    let here := dec.nextAt.getD d.pathNow
    let sl := d.slackOf x.sec start.on start.cause dec.cause
    let new : List (Int × Change) :=
      if start.on ≠ dec.state then [(here, { on := start.on, cause := start.cause, early := sl.1, late := sl.2, rate := rate0, miss := v0.miss })]
      else if rate0 ≠ dec.rate ∧ start.on = true then [(here, { on := true, rateOnly := true, rate := rate0 })]
      else []
    let passed := (dec.passed ++ new).filter (fun p => decide ((d.pathNow - p.1).natAbs ≤ keep.toNat))
    { dec := { on := on0, cause := start.cause, rate := rate0, slow := v0.slow, unk := v0.unk, mask := mask, maskNext := maskNext
               nextAt := changes.head?.map (fun c => d.pathPos c.s), passed := passed }
      changes := changes, removed := q.2, rate := v0.rate, unk := v0.unk }

/-! Timelines (R234, R238, R239) -/

/-- ρ of a rate on a channel in Q8.8 (R234). -/
def Dev.rhoFor (d : Dev) (c sec rate : Nat) : Nat :=
  let base := match d.layerOf c with
    | some l => d.rdN (Reg.MAP_NOM_RATE l)
    | none => d.fld (Reg.SEC_RATE sec) 15 0
  if base = 0 then 256 else min 65535 ((rate * 512 + base) / (2 * base))

/-- The ground time at which a member `delta` micrometres of body x behind takes a change at path position `s` (R238), none where its probe
does not move. -/
def Dev.memberTime (d : Dev) (c : Nat) (delta s : Int) : Option Int :=
  let t := timeOnPath d.pose.knots s
  if delta = 0 then some t
  else match d.poseAt t, d.poseAt (t + 1000000) with
    | some k, some k1 =>
      let f := d.foot c
      let v := (d.pointSpeed f.body (d.frontX c + d.deflect f.body f.cy) (f.cy * 1000) k k1).1
      if v = 0 then none
      else some (divRound (t + (if v < 0 then -(divRound (delta * 1000000) v.natAbs) else divRound (delta * 1000000) v.natAbs)) 1000 * 1000)
    | _, _ => none

/-- A change as a member's transition. -/
def Dev.asTransition (d : Dev) (c sec : Nat) (t : Int) (x : Change) : Transition :=
  { t := t, on := x.on, rho := if d.mode c = mSWITCH then 256 else d.rhoFor c sec x.rate, rateOnly := x.rateOnly, cause := x.cause, early := x.early, late := x.late
    rate := x.rate, miss := x.miss }

/-- The state that a channel's timeline of the frame before had come to at this turn. -/
def Dev.heldState (d : Dev) (c : Nat) : Bool :=
  (((sget (fun _ => []) d.sde.tl c).filter (fun (x : Transition) => !x.rateOnly && decide (x.t ≤ d.pose.latchT))).getLast?.map (·.on)).getD
    (sget (fun _ => false) d.sde.start c)

/-- A transition in ground-time order among others. -/
def insertTransition (x : Transition) : List Transition → List Transition
  | [] => [x]
  | y :: r => if x.t < y.t then x :: y :: r else y :: insertTransition x r

/-- A channel's transitions from the turn to the end of the horizon, its state before the first, and how many were left out (R239). While
MOTION is FROZEN, or a lost host freezes the decisions, it keeps its state and has none (R129, R406); where test 5 holds its probe, nothing is
planned, and a member still takes what the probe had passed (R230, R238; log entry 196). A SWITCH channel has no rates (R226). -/
def Dev.timelineOf (d : Dev) (c sec : Nat) (delta : Int) (r : Decided) : List Transition × Bool × Nat :=
  if r.held && (d.poseMotion = moFROZEN || d.hostFreezes) then ([], d.heldState c, 0) else
  let last := d.pose.latchT + (d.rdN Reg.SDE_HORIZON * 1000000 : Nat)
  let all := ((r.dec.passed ++ r.changes.map (fun x => (d.pathPos x.s, x))).filterMap (fun (p : Int × Change) =>
    match d.memberTime c delta p.1 with
    | some t => if t > d.pose.latchT ∧ t ≤ last ∧ (p.2.rateOnly && decide (d.mode c = mSWITCH)) = false then some (d.asTransition c sec t p.2) else none
    | none => none)).foldl (fun l x => insertTransition x l) []
  let start := match all.find? (fun x => !x.rateOnly) with
    | some x => !x.on
    | none => match r.changes.find? (fun x => !x.rateOnly) with
      | some x => !x.on
      | none => if r.held then d.heldState c else r.dec.state
  (all.take 8, start, all.length - 8)

/-! The stage -/

/-- The section of a decided channel, none for one that is only driven by the host (R226). -/
def Dev.secOf (d : Dev) (c : Nat) : Option Nat :=
  let n := d.fld (Reg.CH_CFG c) 21 12
  if n ≤ 511 ∧ d.mode c ≠ mOFF then some n else none
def Dev.sec2Of (d : Dev) (c : Nat) : Option Nat := let n := d.fld (Reg.CH_CFG c) 31 22; if n ≤ 511 then some n else none

/-- A standing decision. -/
def Dev.decision (d : Dev) (i : Nat) : Decision := sget (fun _ => {}) d.sde.dec i

/-- The decision that stood before this frame; where none did, as after a change of level or of section, the run under way on the channel
`c` that is decided now goes on (R243). -/
def Dev.decisionBefore (d : Dev) (i c : Nat) : Decision := (sfind d.sde.dec i).getD { on := d.heldState c }

/-- What the stage gathers: decisions, timelines, states before them, and the counts. -/
structure Gather where
  dec : SMap Decision := []
  tl : SMap (List Transition) := []
  start : SMap Bool := []
  pub : List (Nat × W32) := []
  given : Nat := 0
  cut : Nat := 0
  unks : List Nat := []
  removed : List (Nat × Int × Bool) := []
  deriving DecidableEq, Repr

/-- SEC_STATE of a decision (R245). -/
def stateWord (on : Bool) (cause rate : Nat) : W32 := w32 (rate % 65536 * 2 ^ 16 + cause * 2 ^ 4 + (if on then 1 else 0))

/-- Note a member's timeline. -/
def Gather.member (g : Gather) (c : Nat) (x : List Transition × Bool × Nat) : Gather :=
  { g with tl := if x.1.isEmpty then g.tl else sinsert g.tl c x.1, start := if x.2.1 then sinsert g.start c true else g.start
           given := g.given + x.1.length, cut := g.cut + x.2.2 }

/-- Decide one section and hand its members their timelines (R226, R227, R238). -/
def Dev.decideSection (d : Dev) (polys : List Polygon) (g : Gather) (n : Nat) (cs : List Nat) : Gather :=
  match d.refChannel (d.usedMembers cs) with
  | none => g
  | some ref =>
    let x : Decider := ⟨n, none, d.covLayer n, d.probeOf ref (d.usedMembers cs)⟩
    let back := cs.map (fun c => d.frontX ref - d.frontX c)
    let was := d.decisionBefore n ref
    let r := d.decideProbe x polys was (back.foldl max 0 + 100000)
    let g := { g with dec := sinsert g.dec n r.dec, pub := g.pub ++ [(Reg.SEC_STATE n, stateWord r.dec.state r.dec.cause r.rate)]
                      unks := if r.unk && !was.unk then g.unks ++ [n] else g.unks
                      removed := g.removed ++ r.removed.map (fun (p : Int × Bool) => (ref, p.1, p.2)) }
    cs.foldl (fun g c => g.member c (d.timelineOf c n (d.frontX ref - d.frontX c) r)) g

/-- Decide one channel at the expert level (R226); its section shows it where it is the reference channel. -/
def Dev.decideChannel (d : Dev) (polys : List Polygon) (g : Gather) (n ref c : Nat) : Gather :=
  let x : Decider := ⟨n, d.sec2Of c, (match d.layerOf c with | some l => some l | none => d.covLayer n), d.probeOf c [c]⟩
  let was := d.decisionBefore (1000 + c) c
  let r := d.decideProbe x polys was 100000
  let g := { g with dec := sinsert g.dec (1000 + c) r.dec
                    pub := if c = ref then g.pub ++ [(Reg.SEC_STATE n, stateWord r.dec.state r.dec.cause r.rate)] else g.pub
                    unks := if r.unk && !was.unk then g.unks ++ [n] else g.unks
                    removed := g.removed ++ r.removed.map (fun (p : Int × Bool) => (c, p.1, p.2)) }
  g.member c (d.timelineOf c n 0 r)

/-- The decided channels and the sections that have members, each with its members in channel order. -/
def Dev.decidedChans (d : Dev) : List Nat := d.activeChans.filter (fun c => (d.secOf c).isSome)
def Dev.sections (d : Dev) : List (Nat × List Nat) :=
  d.decidedChans.foldl (fun (l : List (Nat × List Nat)) c =>
    match d.secOf c with
    | some n => if l.any (fun (p : Nat × List Nat) => p.1 = n) then l.map (fun (p : Nat × List Nat) => if p.1 = n then (p.1, p.2 ++ [c]) else p) else l ++ [(n, [c])]
    | none => l) []

/-- The set-point of a metered channel's loop for ground time `t` (R242), in binary32. -/
def Dev.setpointOf (d : Dev) (g : Gather) (c l : Nat) (t : Int) : W32 :=
  let tl := sget (fun _ => []) g.tl c
  let n := (d.secOf c).getD 0
  let before := tl.filter (fun x => decide (x.t ≤ t))
  let on := ((before.filter (fun x => !x.rateOnly)).getLast?.map (·.on)).getD (sget (fun _ => false) g.start c)
  let rate := (before.getLast?.map (·.rate)).getD (sget (fun _ => ({} : Decision)) g.dec (if d.bit (Reg.MODE pSDE) 0 then 1000 + c else n)).rate
  match on, d.poseAt t, d.poseAt (t + 1000000) with
  | true, some k, some k1 =>
    let f := d.foot c
    let v := (d.pointSpeed f.body (f.cx * 1000 + d.deflect f.body f.cy) (f.cy * 1000) k k1).2
    fMul (d.rd (Reg.LPT_SP_GAIN l)) (fOfRat ((rate * f.w * v : Nat) : Int) 10000000000)
  | _, _, _ => f0

/-- The SDE of a frame (R226 to R242, R246, R248). -/
def Dev.sdeStage (d : Dev) : Dev :=
  let polys := polygonsOf d.map.poly
  let secs := d.sections
  let expert := d.bit (Reg.MODE pSDE) 0
  let g : Gather := secs.foldl (fun g p =>
    if expert then
      let ref := (d.refChannel (d.usedMembers p.2)).getD 0
      p.2.foldl (fun g c => d.decideChannel polys g p.1 ref c) g
    else d.decideSection polys g p.1 p.2) {}
  let next : Int := d.pose.latchT + d.tf
  let sps := d.decidedChans.filterMap (fun c =>
    if d.mode c = mMETER ∧ d.hostFreezes = false then (d.meterLoop c).map (fun l => (l, d.setpointOf g c l (next + d.delayNs c))) else none)
  let dly := d.delayMax d.decidedChans
  let gone := ((d.regs.filter (fun (q : Nat × W32) => 0x01014000 ≤ q.1 && q.1 < 0x01018000 && q.1 % 32 = 0x1C)).map (·.1)).filter
    (fun a => !g.pub.any (fun q => q.1 = a))
  let on := (secs.map (·.1)).filter (fun n => (g.pub.find? (fun (q : Nat × W32) => q.1 = Reg.SEC_STATE n)).elim false (fun q => bitOf q.2 0))
  let words := (List.range 16).map (fun i => (Reg.SDE_SEC_ON i, w32 ((on.filter (fun n => n / 32 = i)).foldl (fun (a n : Nat) => a + 2 ^ (n % 32)) 0)))
  let late (r : Nat × Int × Bool) : Bool :=
    let te := timeOnPath d.pose.knots (d.pathPos r.2.1) - (if r.2.2 then d.latOff r.1 else d.latOn r.1) - d.delayNs r.1
    decide ((4 * d.eds.winFrom : Nat) ≤ te) && decide (te < (4 * d.eds.winTo : Nat))
  let counted := g.removed.filter late
  let d := (d.addW Reg.SDE_FILL_CNT (counted.filter (·.2.2)).length).addW Reg.SDE_SUPPR_CNT (counted.filter (fun r => !r.2.2)).length
  let d := d.addW Reg.SDE_DEC_CHG g.given
  let d := if g.cut > 0 then (d.addSat Reg.SDE_TL_TRUNC g.cut).fault pSDE 16 else d
  let d := g.unks.foldl (fun d n => ((d.incSat Reg.SDE_UNK_SEC).irq pSDE 17).recIrq pSDE 17 [] objIsSection n) d
  { d with sde := { d.sde with
    dec := g.dec, tl := g.tl, start := g.start, setpoints := sps
    pub := g.pub ++ gone.map (fun a => (a, 0#32)) ++ words ++ [(Reg.SDE_SEC_ON_CNT, w32 on.length), (Reg.SDE_DLY_MAX, w32 (dly / 1000))] } }

/-- The MAX_ON timer restarts on channels whose own state is ON by FORCE_ON, by coverage, or over a filled gap (R295). -/
def Dev.renewMaxOn (d : Dev) : Dev :=
  let expert := d.bit (Reg.MODE pSDE) 0
  let turn := d.rd64 Reg.FRM_TURN_TBS / 4
  d.decidedChans.foldl (fun d c =>
    let dec := d.decision (if expert then 1000 + c else (d.secOf c).getD 0)
    let on := sget (fun _ => false) d.sde.start c
    if on && !d.hostFreezes && (dec.cause = caOPEN || dec.cause = caFORCEON) && phaseOn (d.chan c).phase && d.maxOnT c ≠ 0 then
      d.modChan c (fun x => { x with onTimer := some turn })
    else d) d

/-- MASTER and the OVERRIDE words as the turn samples them (R241), and the bits of STATUS that follow (R248). -/
def Dev.sdeSample (d : Dev) : Dev :=
  let on := d.bit Reg.SDE_MASTER 0
  let ovr := d.regs.filter (fun (q : Nat × W32) => 0x01014000 ≤ q.1 && q.1 < 0x01018000 && q.1 % 32 = 0x18)
  let d := (d.setStat pSDE 17 (!on)).setStat pSDE 16 (d.rdN Reg.SDE_HORIZON * 1000 < d.rdN Reg.SDE_DLY_MAX + 250000)
  { d with sde := { d.sde with master := on, ovr := ovr } }

/-- What the stage of the frame before decided is published at the turn (R69, R242, R246). -/
def Dev.sdePublish (d : Dev) : Dev :=
  let old := (List.range 16).map (fun i => d.rd (Reg.SDE_SEC_ON i))
  let d := d.sde.pub.foldl (fun d p => d.wr p.1 p.2) d
  let d := if (List.range 16).map (fun i => d.rd (Reg.SDE_SEC_ON i)) ≠ old then d.irq pSDE 16 else d
  let d := d.sde.setpoints.foldl (fun d p => d.modLoop p.1 (fun x => { x with sdeTgt := p.2 })) d
  let tl := d.sde.tl
  let d := { d with sde := { d.sde with tlPub := tl, pub := [], setpoints := [] } }
  d.wrN Reg.SDE_TL_COUNT (sget (fun _ => []) tl (d.rdN Reg.SDE_TL_SEL)).length

/-- A METER channel that a safe-state action has closed is driven again from the first turn whose set-points come from normal decisions
(R129, R130, R179, R242, R407), and one that the thermal cut has closed once its winding is below T_CUT (R337, log entry 200). -/
def Dev.meterReopen (d : Dev) : Dev :=
  if d.pose.closedFrozen || d.poseState = psLOST || (d.poseMotion = moREVERSE && !d.bit Reg.POSE_REV_POLICY 0) || d.sup.closes then d
  else d.meterChans.foldl (fun d c => if (d.chan c).closed && !d.coilHot c then d.modChan c (fun x => { x with closed := false }) else d) d

/-! Stage timing (R5, R76) -/

/-- A stage's late bound in CK_SYS cycles from the turn (R5): pose, SDE, EDS, Breakwater, commit. -/
def stageBound (tf i : Nat) : Nat :=
  let b := [6000, 20000, 30000, 35000, 40000].getD i 40000
  if tf = 250000 then b / 2 else b

/-- A stage that completes `cycles` after the turn: the clock moves there, the peak is kept, and a late one is counted (R76, R80). -/
def Dev.stageEnds (d : Dev) (i cycles : Nat) : Dev :=
  let d := (d.toTbm (d.frm.turnTbm + 10 * cycles)).peak (Reg.FRM_STAGE_PEAK i) cycles
  { d with frm := { d.frm with stage := i, lateStages := if cycles > stageBound d.tf i then d.frm.lateStages ++ [i] else d.frm.lateStages } }

/-- SDE_STAGE (R236): `cycles` from the turn to its completion. -/
def execSdeStage (cycles : Nat) (s : State) : Host.Outcome State Fault Refusal :=
  .next (onDev (fun d => if d.frm.turned && d.frm.stage = 0 then (d.sdeStage.renewMaxOn).stageEnds 1 cycles else d) s)

/-! Read-out (R247) -/

/-- TL_SEL: the channel, and the read-out from its start. -/
def actTlSel (v : W32) : Act := actDev (fun d =>
  let c := v.toNat % 512
  (({ d with sde := { d.sde with pos := 0 } }).wrN Reg.SDE_TL_SEL c).wrN Reg.SDE_TL_COUNT (sget (fun _ => []) d.sde.tlPub c).length)

/-- TIMELINE_SELECT (R247). -/
def execTimelineSelect (req : Requester) (ch : Fin 512) (s : State) : Host.Outcome State Fault Refusal :=
  .next (hostCmd req Reg.SDE_TL_SEL (w32 ch) (actTlSel (w32 ch)) s)

/-- A transition's four words. -/
def transitionWords (x : Transition) : List W32 :=
  let t := unsigned64 x.t
  [w32 (x.rho * 2 ^ 16 + x.cause * 2 ^ 4 + (if x.rateOnly then 2 else 0) + (if x.on then 1 else 0)), lo32 t, hi32 t,
    w32 (min x.late 65535 * 2 ^ 16 + min x.early 65535)]

/-- TL_PORT. -/
def portTl : PortAct := portDev (fun n d =>
  let ws := ((sget (fun _ => []) d.sde.tlPub (d.rdN Reg.SDE_TL_SEL)).flatMap transitionWords).drop d.sde.pos
  let got := takeWords n ws
  (got, { d with sde := { d.sde with pos := d.sde.pos + got.length } }))

/-- TIMELINE_READ (R247). -/
def execTimelineRead (req : Requester) (words : Nat) (s : State) : Host.Outcome State Fault Refusal :=
  .next (hostPort req Reg.SDE_TL_PORT words portTl s)

end Sys2Proof.Machine
end

