-- ==== Sys2Proof/Machine/EdsOps.lean ====
section
/-! DEFINITION. Edge scheduling (chapter 10): from transitions and host actions to the uncommitted edges of a frame, with their slack, the
gaps between them, pulse trains, corrective edges and the late rules. Times are TB-S ticks of 4 ns. -/

namespace Sys2Proof.Machine

def pEDS : Nat := 0x022
def pLAT : Nat := 0x023

/-! Access -/

def Dev.edsChan (d : Dev) (c : Nat) : EdsChan := sget (fun _ => {}) d.eds.ch c
def Dev.setEdsChan (d : Dev) (c : Nat) (x : EdsChan) : Dev := { d with eds := { d.eds with ch := sset (fun _ => {}) d.eds.ch c x } }
def Dev.modEdsChan (d : Dev) (c : Nat) (f : EdsChan → EdsChan) : Dev := d.setEdsChan c (f (d.edsChan c))

/-- The gap between consecutive edges, and that between an OFF and the following ON (R254, R292). -/
def Dev.gapT (d : Dev) : Nat := d.rdN Reg.EDS_EDGE_GAP * tUs
def Dev.offGapT (d : Dev) (c : Nat) : Nat := if d.profiled c then max d.gapT (d.tMinOffT c) else d.gapT
def Dev.gapBetween (d : Dev) (c : Nat) (wasOn on : Bool) : Nat := if !wasOn && on then d.offGapT c else d.gapT

/-- Channels that EDS gives edges to (R250). -/
def Dev.edgeChans (d : Dev) : List Nat := d.activeChans.filter (fun c => d.mode c ≠ mMETER)

/-- ns to ticks, halves up (R251); an instant before TB-S 0 is 0. -/
def tickOf (ns : Int) : Nat := ((ns + 2) / 4).toNat

/-- mm that a speed in mm/s covers in ticks, to the nearest, times `unit`. -/
def groundOf (ticks v unit : Nat) : Nat := (ticks * v * 4 * unit + 500000000) / 1000000000

/-! The state of a channel as EDS sees it -/

/-- The edges of a channel in their order, from the one it executed last: the time, the direction, and whether it is the end of a
pulse or of a run with an end, which an earlier OFF takes the place of (R267, R271). -/
def Chan.edges (x : Chan) : List (Nat × Bool × Bool) :=
  (if phaseOn x.phase then [(x.tOn, true, false)] else (x.tOff.map (fun t => (t, false, false))).toList)
    ++ (x.queue ++ x.next).flatMap (fun e =>
      (e.t, e.on, !e.on && (e.kind = .implied || e.kind = .pulse)) ::
        (if e.on then (e.dur.map (fun n => (e.t + n, false, true))).toList else []))

/-- The last committed edge (R254), as the gap to a planned edge counts it: an OFF, or a pulse within a run, that falls ahead of a placed
end counts from the edge before that end. -/
def Chan.lastEdge (x : Chan) (first : Option Plan) : Option (Nat × Bool) :=
  let es := match first with
    | some p => if p.on = false ∨ p.kind = EdgeKind.pulse then x.edges.filter (fun (e : Nat × Bool × Bool) => !e.2.2 || decide (e.1 ≤ p.t)) else x.edges
    | none => x.edges
  es.getLast?.map (fun (e : Nat × Bool × Bool) => (e.1, e.2.1))

/-- The state that a channel will have after its last committed edge (R255). -/
def Dev.stateAfter (d : Dev) (c : Nat) : Bool :=
  let x := d.chan c
  let e := d.edsChan c
  if d.mode c = mPWMNOZ then e.train && !x.closed
  else match (x.queue ++ x.next).getLast? with
    | some q => q.on && q.dur.isNone
    | none => !x.closed && (x.maxOnCut || x.phase = phWAIT || phaseOn x.phase)

/-! Ideal edges (R249 to R252) -/

/-- The speed of a channel's probe centre along its body's heading at a ground time, mm/s (R252). -/
def Dev.probeSpeed (d : Dev) (c : Nat) (t : Int) : Nat :=
  match d.poseAt t, d.poseAt (t + 1000000) with
  | some k, some k1 =>
    let f := d.foot c
    (d.pointSpeed f.body (d.frontX c + d.deflect f.body f.cy) (f.cy * 1000) k k1).1.natAbs
  | _, _ => 0

/-- Slack in ticks from mm (R252). -/
def Dev.slackTicks (d : Dev) (mm v : Nat) : Nat :=
  let cap := d.rdN Reg.EDS_SLACK_CAP * 1000
  (if v = 0 then cap else min cap (mm * 1000000 / v)) * tUs

/-- The ideal edge time of a ground time (R249). -/
def Dev.idealOf (d : Dev) (c : Nat) (on : Bool) (tg : Int) : Nat :=
  tickOf (tg - (if on then d.latOn c else d.latOff c) - d.delayNs c)

/-- The edge of a transition. -/
def Dev.planOf (d : Dev) (c : Nat) (x : Transition) : Plan :=
  let t := d.idealOf c x.on x.t
  let v := d.probeSpeed c x.t
  { t := t, req := t, on := x.on, tg := x.t, rho := x.rho, early := d.slackTicks x.early v, late := d.slackTicks x.late v, vp := v
    cause := x.cause, drop := d.bit Reg.EDS_DEC_LATE 0, miss := x.miss }

/-- Those of a timeline's edges that are not committed: the ones after the last committed edge of the timeline, which itself may now
lie later. -/
def uncommitted (last : Option (Nat × Bool)) (l : List Plan) : List Plan :=
  match last with
  | none => l
  | some (t, on) =>
    match l.filter (fun p => t < p.t) with
    | p :: r => if p.on = on then r else p :: r
    | [] => []

/-- What an edge keeps of the previous frame's edge of the same direction and rank (R253): its slack spent and what has been judged and
booked of it; its ideal time is this frame's (R9). -/
def Plan.keeps (p q : Plan) : Plan :=
  { p with
    was := q.was, forced := q.forced
    spent := q.spent, charge := q.charge, lateOn := q.lateOn, lateBy := q.lateBy, dropped := q.dropped, booked := q.booked }

/-- Match edges by direction and rank (R253). -/
def matchPlans : List Plan → List Plan → List Plan → List Plan
  | [], _, _ => []
  | p :: r, ons, offs =>
    if p.on then
      match ons with
      | q :: qs => p.keeps q :: matchPlans r qs offs
      | [] => p :: matchPlans r [] offs
    else
      match offs with
      | q :: qs => p.keeps q :: matchPlans r ons qs
      | [] => p :: matchPlans r ons []

/-- Remove pairs that stand closer than their gap (R254), with the ideal times of the first of each. -/
def Dev.mergePairs (d : Dev) (c : Nat) : List Plan → List Plan × List Nat
  | [] => ([], [])
  | p :: r =>
    let q := d.mergePairs c r
    match q.1 with
    | n :: rest =>
      if p.on ≠ n.on ∧ n.t < p.t + d.gapBetween c p.on n.on ∧ p.booked = false then (rest, p.t :: q.2) else (p :: n :: rest, q.2)
    | [] => ([p], q.2)

/-! Host actions (R268, R271) -/

def HostAct.word (a : HostAct) (i : Nat) : W32 := a.w.getD i 0#32
def HostAct.kind (a : HostAct) : Nat := field (a.word 0) 31 28
def HostAct.ref (a : HostAct) : Nat := field (a.word 0) 27 24
def HostAct.chan (a : HostAct) : Nat := field (a.word 0) 8 0
def HostAct.tag (a : HostAct) : Nat := field (a.word 1) 15 0
def HostAct.notify (a : HostAct) : Bool := bitOf (a.word 0) 22
def HostAct.rho (a : HostAct) : Nat := field (a.word 1) 31 16
def HostAct.dur (a : HostAct) : Option Nat := let n := (a.word 4).toNat; if a.kind = 1 ∧ n > 0 then some (n * tUs) else none
def haON : Nat := 1
def haOFF : Nat := 2
def haRATE : Nat := 3
def haRELEASE : Nat := 4
def refNOW : Nat := 0
def refPOSITION : Nat := 4

/-- Signed distance in µm of a channel's probe centre past an entry's line, in the direction THETA. -/
def Dev.pastLine (d : Dev) (a : HostAct) (c : Nat) (k : Knot) : Int :=
  let f := d.foot c
  let p := bodyPoint (d.bodyFrame f.body k) (d.frontX c + d.deflect f.body f.cy) (f.cy * 1000)
  let th := field (a.word 5) 15 0
  scale60 (p.1 - (a.word 2).toInt * 1000) (sinTurn th 65536) + scale60 (p.2 - (a.word 3).toInt * 1000) (cosTurn th 65536)

/-- The first whole mm of the path, from `s` on, at which the probe centre has crossed the line in the direction THETA; `short` says that
it lies or has lain short of the line. -/
def Dev.crossing (d : Dev) (a : HostAct) (c : Nat) : Nat → Bool → Int → Option Int
  | 0, _, _ => none
  | n + 1, short, s =>
    match (d.poseOnPath s).1 with
    | some k =>
      if d.pastLine a c k < 0 then d.crossing a c n true (s + 1)
      else if short then some s else d.crossing a c n false (s + 1)
    | none => none

/-- POSITION entries are evaluated (R271). -/
def Dev.positionsRun (d : Dev) : Bool := d.poseMotion = moFORWARD && d.poseState ≠ psLOST

/-- Ground and ideal time of a POSITION entry in a frame whose commit window begins at `w0` (R256, R268). -/
def Dev.positionTime (d : Dev) (a : HostAct) (w0 : Nat) : Option (Int × Nat) :=
  if !d.positionsRun then none
  else
    let c := a.chan
    match d.poseOnPath 0 with
    | (some _, some (k0, k1)) =>
      let s0 := d.pastLine a c k0
      if s0 > 0 ∧ d.pastLine a c k1 > s0 then
        let v := d.probeSpeed c d.pose.latchT
        some (d.pose.latchT, if v = 0 then 0 else w0 - tickOf (divRound (s0 * 1000000) v))
      else match d.crossing a c (d.sweepLength + 1) (decide (s0 ≤ 0)) 0 with
        | none => none
        | some s =>
          let tg := timeOnPath d.pose.knots (d.pathPos s)
          if a.kind = haRELEASE then some (tg, tickOf tg) else some (tg, d.idealOf c (a.kind ≠ haOFF) tg)
    | _ => none

/-- The edge of a host action, none while it is not planned. -/
def Dev.actPlan (d : Dev) (a : HostAct) (prev : List Plan) : Option Plan :=
  let w0 := d.eds.winFrom
  let was := prev.find? (fun p => p.act = some a.num)
  let tt : Option (Int × Nat) :=
    match was with
    | some p => if a.ref = refNOW then (if p.spent = 0 ∧ p.booked = false then some ((4 * w0 : Nat), w0) else some (p.tg, p.req))
                else if a.ref = refPOSITION then d.positionTime a w0 else a.t.map (fun t => ((4 * t : Nat), t))
    | none => if a.ref = refNOW then some ((4 * w0 : Nat), w0)
              else if a.ref = refPOSITION then d.positionTime a w0 else a.t.map (fun t => ((4 * t : Nat), t))
  tt.map (fun (x : Int × Nat) =>
    let v := d.probeSpeed a.chan x.1
    let slk := field (a.word 5) 31 16
    let p : Plan := {
      t := x.2, req := x.2, on := a.kind = haON || a.kind = haRATE, kind := if a.kind = haRELEASE then .release else .host, tg := x.1
      rho := a.rho, late := if a.ref = refPOSITION then d.slackTicks slk v else slk * 100 * tUs, vp := v, dur := a.dur, tag := a.tag
      notify := a.notify, drop := bitOf (a.word 0) 23, act := some a.num }
    match was with | some q => p.keeps q | none => p)

/-! Pulse trains (R265 to R267, R293) -/

/-- The length of a pulse at a ratio: in µs, whether PULSE_MIN raised it, and none where the channel runs continuously. -/
def Dev.pulseLength (d : Dev) (c rho : Nat) : Option (Nat × Bool) :=
  let duty := rho * d.fld (Reg.CH_MODEPAR c) 31 16        -- in 2^-24
  let f := max 1 (d.fld (Reg.CH_MODEPAR c) 7 0)
  let len := (duty * 1000000 * 2 + f * 2 ^ 24) / (2 * f * 2 ^ 24)
  let min := d.fld (Reg.CH_LIMITS c) 31 16
  let clamp := decide (len < min)
  let l := if clamp then min else len
  if l * tUs + d.offGapT c > d.pulseTicks c ∨ duty * 100 ≥ d.fld (Reg.CH_MODEPAR c) 15 8 * 2 ^ 24 then none else some (l, clamp)

/-- How far the nearest instant of a channel's grid lies from a tick, in ticks to the nearest (R266): the grid has the exact period 1 / f
from TB-S = 0 on. -/
def Dev.gridAhead (d : Dev) (c : Nat) (t : Int) : Int :=
  let b := c / 8
  let f := d.fld (Reg.CH_MODEPAR c) 7 0
  let same := (bankChans b).filter (fun o => d.mode o = mPWMNOZ && d.fld (Reg.CH_MODEPAR o) 7 0 = f)
  let k := max 1 same.length
  let s := (same.filter (fun o => o < c)).length
  let one : Int := (8 * k * 1000000000 : Nat)
  let r := (t * 4 * (8 * k * f : Nat) - ((8 * s + b % 8) * 1000000000 : Nat)) % one
  let unit := max 1 (32 * k * f)
  if 2 * r ≤ one then -(divRound r unit) else divRound (one - r) unit

/-- The start after `t`: one period on, drawn toward the grid by at most PHASE_ADJ of it (R266). -/
def Dev.nextPulse (d : Dev) (c t : Nat) : Nat :=
  let p := d.pulseTicks c
  let n : Int := t + p
  if d.bit Reg.EDS_INTERLEAVE 0 then
    let m : Int := (p * d.rdN Reg.EDS_PHASE_ADJ / 100 : Nat)
    (n + clampI (-m) m (d.gridAhead c n)).toNat
  else n.toNat

/-- Skip periods that lie wholly before a tick, in at most `n` steps of any number of periods. -/
def skipTo (p w0 t : Nat) : Nat := if t + p ≤ w0 then t + (w0 - t) / p * p else t

/-- The ratio in force at a tick: the last of the given changes that is not later, else `rho0`. -/
def rhoAt (rho0 : Nat) (chg : List (Nat × Nat)) (t : Nat) : Nat :=
  (chg.foldl (fun (a : Nat × Nat) (x : Nat × Nat) => if x.1 ≤ t ∧ a.1 ≤ x.1 then x else a) (0, rho0)).2

/-- The pulse after the first that a running train places in a frame (R265, R267): `off` is where the run ends as far as is known. -/
def Dev.pulsePlan (d : Dev) (c : Nat) (e : EdsChan) (chg : List (Nat × Nat)) (off : Option Nat) : Option Plan :=
  let t := skipTo (d.pulseTicks c) d.eds.winFrom (d.nextPulse c e.pulse)
  let fits : Bool := match off with | some o => t + d.gapT ≤ o | none => true
  if t < d.eds.winTo ∧ fits then
    let rho := rhoAt e.rho chg t
    let slack := d.pulseTicks c / 10
    some { t := t, req := t, on := true, kind := .pulse, tg := (4 * t : Nat), rho := rho, early := slack, late := slack
           vp := d.probeSpeed c ((4 * t : Nat) + d.latOn c + d.delayNs c)
           dur := (d.pulseLength c rho).map (fun q => q.1 * tUs), later := true }
  else none

/-! One channel's edges in a frame -/

/-- Put an edge in the order of ideal times, behind those at the same time. -/
def planInsert (p : Plan) : List Plan → List Plan
  | [] => [p]
  | q :: r => if p.t < q.t then p :: q :: r else q :: planInsert p r

/-- An edge still to be committed. -/
def Plan.live (p : Plan) : Bool := !p.dropped

/-- Keep the gap to the last committed edge and between edges (R254); the request keeps its own time. -/
def Dev.spaceOut (d : Dev) (c w0 : Nat) : Option (Nat × Bool) → List Plan → List Plan
  | _, [] => []
  | last, p :: r =>
    if p.dropped ∨ p.kind = .release ∨ p.spent > 0 then
      p :: d.spaceOut c w0 (if p.dropped || p.kind = .release then last else some (p.t + p.spent, p.on)) r
    else
      let p := match last with
        | some (t, on) => if p.t < t + d.gapBetween c on p.on then { p with t := t + d.gapBetween c on p.on } else p
        | none => p
      p :: d.spaceOut c w0 (some (max p.t w0, p.on)) r

/-- Whether a late ON runs (R258). -/
def Plan.runsLate (p : Plan) (w0 : Nat) : Bool := !p.drop && decide (w0 - p.t ≤ p.late)

/-- An edge is late and not yet judged (R256). -/
def Plan.isLate (p : Plan) (w0 : Nat) : Bool := p.live && p.kind ≠ .release && p.spent = 0 && decide (p.t < w0)

/-- Judge an edge (R257, R258): a late OFF runs at the window's start, a late ON by its policy. -/
def Plan.judge (p : Plan) (w0 : Nat) : Plan :=
  if p.isLate w0 then
    if !p.on then { p with lateBy := w0 - p.t }
    else if p.runsLate w0 then { p with spent := w0 - p.t, lateBy := w0 - p.t, lateOn := true }
    else { p with dropped := true, lateOn := true, lateBy := w0 - p.t }
  else p

/-- Note a late ON judged for the first time (R258). -/
def Dev.noteLate (d : Dev) (c w0 : Nat) (p : Plan) : Dev :=
  if p.isLate w0 && p.on && !p.lateOn then
    let vs := [w32 ((w0 - p.t) / tUs), w32 (if p.drop then 1 else 0)]
    if p.runsLate w0 then ((d.inc Reg.EDS_LATE_RUN_CNT).irq pEDS 18).recIrq pEDS 18 vs objIsChannel c
    else (((d.inc Reg.EDS_LATE_DROP_CNT).irq pEDS 18).faultRec pEDS 16 vs objIsChannel c).modEdsChan c (fun e =>
      { e with dropped := e.dropped || p.kind ≠ .host })
  else d

/-- The state that a channel's timeline gives for a tick (R255). -/
def Dev.targetAt (d : Dev) (c t : Nat) (raws : List Plan) : Bool :=
  ((raws.filter (fun p => p.t ≤ t)).getLast?.map (·.on)).getD (sget (fun _ => false) d.sde.start c)

/-- The corrective edge of a frame, if one is due (R255). -/
def Dev.corrective (d : Dev) (c w0 : Nat) (raws plans : List Plan) : Option Plan :=
  let want := d.targetAt c w0 raws
  if (d.secOf c).isNone || d.stateAfter c = want || (want && d.poseMotion = moFROZEN && d.pose.closedFrozen) || d.inhibited c || (want && (d.edsChan c).dropped)
    || plans.any (fun p => p.live && p.on = want && p.t ≤ w0) then none
  else
    some { t := w0, req := w0, on := want, tg := (4 * w0 : Nat), rho := (d.edsChan c).rho, corr := true
           vp := d.probeSpeed c ((4 * w0 : Nat) + d.latOn c + d.delayNs c), drop := d.bit Reg.EDS_DEC_LATE 0
           miss := ((raws.filter (fun p => p.t ≤ w0)).getLast?.map (·.miss)).getD false }

/-- Give the first pulse of a run its length (R265, R293), for a run that begins with `p`. -/
def Dev.firstPulse (d : Dev) (c : Nat) (chg : List (Nat × Nat)) (p : Plan) : Plan :=
  if d.mode c = mPWMNOZ ∧ p.on = true ∧ p.later = false then
    let rho := rhoAt p.rho (chg.filter (fun x => p.t ≤ x.1)) p.t
    { p with rho := rho, dur := (d.pulseLength c rho).map (fun q => q.1 * tUs) }
  else p

/-- The request of a carried ON whose transition is gone, with the timeline off, ends (R253, R350); what is in flight goes to the cause
that held it back. -/
def Dev.requestGone (d : Dev) (c w0 : Nat) (raws prev mine : List Plan) : Dev :=
  if prev.any (fun p => p.on && p.booked) && !mine.any (fun p => p.on && p.booked) && !d.targetAt c w0 raws && !d.stateAfter c then
    let t := d.rd64 Reg.FRM_TURN_TBS / 4
    d.modChan c (fun x => { x with book := (x.book.settle t [] x.book.held).release t })
  else d

/-- EDS for one channel (R249 to R258, R265 to R271): its uncommitted edges of the frame. The 200 µs of R11 hold at every T_F, as R11
writes them: the bounds of R5 are halved at 250 µs, this instant is not (DESIGN CHOICE, log entry 181). -/
def Dev.edsChannel (d : Dev) (c : Nat) : Dev :=
  let w0 := d.eds.winFrom
  let w1 := d.eds.winTo
  let e := d.edsChan c
  let tl := if (d.secOf c).isSome then sget (fun _ => []) d.sde.tl c else []
  let raws := (tl.filter (fun x => !x.rateOnly)).map (d.planOf c)
  let prev := e.plan.filter (fun p => p.kind = .sde && !p.corr)
  let mine := matchPlans (uncommitted e.last raws) (prev.filter (·.on)) (prev.filter (fun p => !p.on))
  let d := d.requestGone c w0 raws prev mine
  let merged := d.mergePairs c mine
  let d := d.addW Reg.EDS_GAP_MERGE (merged.2.filter (fun t => w0 ≤ t && t < w1)).length
  let acts := d.eds.acts.filter (fun a => a.chan = c && a.pushed < d.frm.turnTbm + 200000)
  let hosts := acts.filterMap (fun a => d.actPlan a e.plan)
  let rates := (hosts.filter (fun p => acts.any (fun a => a.kind = haRATE && p.act = some a.num)))
  let chg := (tl.filter (·.rateOnly)).map (fun x => (d.idealOf c true x.t, x.rho)) ++ rates.map (fun p => (p.t, p.rho))
  let edges := hosts.filter (fun p => !rates.any (fun q => q.act = p.act))
  let d := d.modEdsChan c (fun e => { e with dropped := e.dropped && d.targetAt c w0 raws })
  let corr := d.corrective c w0 raws (merged.1 ++ edges)
  let d := if corr.isSome then d.inc Reg.EDS_CORR_CNT else d
  let all := edges.foldl (fun l p => planInsert p l) (merged.1.foldl (fun l p => planInsert p l) corr.toList)
  let first := all.map (fun p => if acts.any (fun a => a.kind = haON && p.act = some a.num) || p.kind = .sde then d.firstPulse c chg p else p)
  let offT := ((first.filter (fun p => p.live && !p.on && p.kind ≠ .release)).head?.map (·.t))
  let stop := match offT, e.stop with | some a, some b => some (min a b) | some a, none => some a | none, o => o
  let held := e.plan.filter (fun p => p.live && p.kind = .pulse && p.spent > 0 && (match stop with | some o => decide (p.t + p.spent + d.gapT ≤ o) | none => true))
  let pulse := if d.mode c = mPWMNOZ ∧ e.train ∧ !(d.chan c).closed ∧ held.isEmpty then (d.pulsePlan c e chg stop).toList else held
  let ghost := if d.mode c = mPWMNOZ ∧ e.ghost ∧ !e.train ∧ !(d.chan c).closed then
      (d.pulsePlan c e chg stop).map (fun (p : Plan) => { p with dropped := true }) else none
  let ins := (ghost.toList ++ pulse).foldl (fun l p => planInsert p l) first
  let head := ins.find? (fun p => p.live && p.kind ≠ .release && p.spent = 0)
  let spaced := d.spaceOut c w0 ((d.chan c).lastEdge head) ins
  let d := spaced.foldl (fun d p => d.noteLate c w0 p) d
  let rho := if d.mode c = mPWMNOZ then rhoAt e.rho (chg.filter (fun x => x.1 < w1)) w1 else e.rho
  d.modEdsChan c (fun e => { e with plan := spaced.map (fun p => ({ p with out := none } : Plan).judge w0) ++ rates, rho := rho })

/-- EDS of a frame. While the output path is disarmed it plans nothing (R415). -/
def Dev.edsRun (d : Dev) : Dev :=
  if d.bit Reg.SYS_OUT_STATE 0 then d.edgeChans.foldl (fun d c => d.edsChannel c) d
  else { d with eds := { d.eds with ch := [] } }

end Sys2Proof.Machine
end

