-- ==== Sys2Proof/Machine/BwkOps.lean ====
section
/-! DEFINITION. The budget governor (chapter 13): thermal models and the refusals they cause, and the projections of banks, rails and
supply against which an ON edge is placed. Energies are in 0.01 mJ times 65,536, temperatures in 10^-6 °C, currents in mA. -/

namespace Sys2Proof.Machine

def pBWK : Nat := 0x024

def Dev.therm (d : Dev) (c : Nat) : ThermChan := sget (fun _ => {}) d.bwk.ch c
def Dev.modTherm (d : Dev) (c : Nat) (f : ThermChan → ThermChan) : Dev :=
  { d with bwk := { d.bwk with ch := sset (fun _ => {}) d.bwk.ch c (f (d.therm c)) } }

/-- The greater of a tile's two sensors, 0.1 °C, now and as sampled at the turn (R15). -/
def Dev.tileAt (d : Dev) (t : Nat) : Int := d.bwk.tileAt.getD t 0
def Dev.tileT (d : Dev) (t : Nat) : Int := max (d.rdI (Reg.DT_TEMP_A t)) (d.rdI (Reg.DT_TEMP_B t))

/-! What is measured at a turn -/

/-- RAIL_E in 0.01 mJ at a voltage in 10 mV (R299). -/
def Dev.railEnergy (d : Dev) (k centiV : Nat) : Int :=
  let vs := d.fld (Reg.VB_VSET k) 8 0
  let cap : Nat := d.fld (Reg.VB_RAIL_STATE k) 31 16
  Int.fdiv (cap * (16 * centiV * centiV - 9409 * vs * vs : Int)) 3200000

/-- E_FULL: RAIL_E at V = VSET (R332), in 0.01 mJ. -/
def Dev.railFull (d : Dev) (k : Nat) : Int := d.railEnergy k (d.fld (Reg.VB_VSET k) 8 0 * 25)

/-- The figures taken at a turn (R15): rails, supply current, die and tile temperatures. -/
def Dev.sampleEnv (d : Dev) (env : TurnEnv) : Dev :=
  let d := [0, 1, 2, 3].foldl (fun d k =>
    match env.railV[k]? with
    | some v => (d.wrN (Reg.VB_RAIL_V k) v).wrI (Reg.VB_RAIL_E k) (Int.fdiv (d.railEnergy k v) 10)
    | none => d) d
  let d := (d.wrN Reg.BWK_SUP_I env.supI).wrI Reg.BWK_DIE_T env.dieT
  let d := env.tiles.foldl (fun d (x : Fin 8 × Int × Int) => (d.wrI (Reg.DT_TEMP_A x.1) x.2.1).wrI (Reg.DT_TEMP_B x.1) x.2.2) d
  { d with bwk := { d.bwk with
      env := { env with chans := [], banks := [] }, ready := [0, 1, 2, 3].filter d.railReadyNow, tileAt := (List.range 8).map d.tileT } }

/-! Thermal models (R334 to R338) -/

/-- The thermal constants of a channel: RTH_WC and RTH_CA in 1/256 K/W, CTH_W and CTH_C in 0.01 J/K. -/
def Dev.rthWC (d : Dev) (c : Nat) : Nat := d.fld (Reg.CH_TH_R c) 15 0
def Dev.rthCA (d : Dev) (c : Nat) : Nat := d.fld (Reg.CH_TH_R c) 31 16
def Dev.cthW (d : Dev) (c : Nat) : Nat := d.fld (Reg.CH_TH_C c) 15 0
def Dev.cthC (d : Dev) (c : Nat) : Nat := d.fld (Reg.CH_TH_C c) 31 16

/-- R_REF in mΩ, T_REF in °C, ALPHA in 10^-6 per K. -/
def Dev.rRef (d : Dev) (c : Nat) : Nat := d.fld (Reg.CH_RREF c) 23 0
def Dev.tRef (d : Dev) (c : Nat) : Int := fieldS (d.rd (Reg.CH_RREF c)) 31 24
def Dev.alpha (d : Dev) (c : Nat) : Nat := d.fld (Reg.CH_TCOEF c) 15 0

/-- One step of the two nodes over a frame of `tf` ns with the mean squared current `i2` in mA² (R334). -/
def Dev.thermStep (d : Dev) (c i2 tf : Nat) (x : ThermChan) : ThermChan :=
  if d.cthW c = 0 then x
  else
    -- winding resistance in 10^-12 mΩ, power in 10^-6 W
    let rw : Int := d.rRef c * (1000000000000 + d.alpha c * (x.tW - d.tRef c * 1000000))
    let p := divRound (i2 * rw) 1000000000000000
    let qWC := if d.rthWC c = 0 then 0 else divRound ((x.tW - x.tC) * 256) (d.rthWC c)
    let qCA := if d.rthCA c = 0 then 0 else divRound ((x.tC - d.rdI Reg.BWK_T_AMB * 100000) * 256) (d.rthCA c)
    let tW := x.tW + divRound (tf * (p - qWC) * 100) (d.cthW c * 1000000000)
    let tC := if d.cthC c = 0 then x.tC else x.tC + divRound (tf * (qWC - qCA) * 100) (d.cthC c * 1000000000)
    { x with tW := tW, tC := tC }

/-- The correction by a resistance in mΩ (R335). -/
def Dev.thermCorrect (d : Dev) (c r : Nat) (x : ThermChan) : ThermChan :=
  if d.cthW c = 0 ∨ d.rRef c = 0 ∨ d.alpha c = 0 then x
  else
    let tR := d.tRef c * 1000000 + divRound (((r : Int) - d.rRef c) * 1000000000000) (d.rRef c * d.alpha c)
    let e := tR - x.tW
    { x with tR := tR, tW := x.tW + divRound e 4, tC := x.tC + divRound e 16 }

/-- The switch's rise over its tile (R338), in 10^-6 K. -/
def switchStep (i2 tf : Nat) (dSw : Int) : Int := dSw + divRound (tf * ((i2 * 48 / 100 : Nat) - dSw)) 10000000

/-- Switch junction temperature, 10^-6 °C. -/
def Dev.tSwitch (d : Dev) (c : Nat) : Int := d.tileAt (c / 64) * 100000 + (d.therm c).dSw

/-- The hold factor of R336 in 2^-16, none while the channel is not derated. -/
def Dev.holdFactor (d : Dev) (c : Nat) : Option Nat :=
  let t := (d.therm c).tW
  let lo : Int := d.rdN Reg.BWK_T_DERATE * 1000000
  let hi : Int := d.rdN Reg.BWK_T_REFUSE * 1000000
  let floor := d.rdN Reg.BWK_HOLD_FLOOR
  if d.cthW c = 0 ∨ !d.profiled c ∨ d.configured objLimits = false ∨ t < lo ∨ hi ≤ lo then none
  else some (max (floor * 65536 / 100) (65536 - (divRound ((100 - floor : Nat) * 65536 * (min t hi - lo)) ((hi - lo).toNat * 100)).toNat))

/-- Enter or leave derating (R336): a record at each entry. -/
def Dev.derate (d : Dev) (c : Nat) : Dev :=
  let was := (d.therm c).derated.isSome
  let f := d.holdFactor c
  let hold := d.fld (Reg.CH_HOLD c) 8 0
  let d := d.modTherm c (fun x => { x with derated := f.map (fun g => (hold * g + 32768) / 65536) })
  if !was && f.isSome then d.recOther pBWK [] objIsChannel c else d

/-- Refusal by the winding temperature (R337), with its hysteresis. -/
def Dev.coilRefuse (d : Dev) (c : Nat) : Dev :=
  let t := (d.therm c).tW
  let hi : Int := d.rdN Reg.BWK_T_REFUSE * 1000000
  let back : Int := hi - d.rdN Reg.BWK_T_RESUME_K * 1000000
  let modelled := d.cthW c ≠ 0 && d.configured objLimits
  d.modTherm c (fun x => { x with refused := modelled && (decide (t ≥ hi) || (x.refused && decide (t ≥ back))) })

/-- The thermal cut (R337): an OFF at once, what is requested from then on lost to heat. -/
def Dev.cutOff (d : Dev) (c : Nat) : Dev :=
  if d.coilHot c && d.driven c then
    let now := d.tick
    let d := d.modChan c (fun x => { x with fr := { x.fr with edges := x.fr.edges ++ [(now, false)] } })
    let d := d.lowSideOff c
    let d := d.modChan c (fun x => { x with closed := true, book := x.book.mark now (some .thermal) })
    d.faultRec pBWK 17 [] objIsChannel c
  else d

/-- E_EST and TTP_EST after an actuation (R330); the operands in 0.01 mJ and µs. -/
def ThermChan.learn (x : ThermChan) (energy ttp : Nat) : ThermChan :=
  { x with eEst := (x.eEst + divRound ((energy * 65536 : Nat) - (x.eEst : Int)) 16).toNat
           ttpEst := (x.ttpEst + divRound ((ttp * 65536 : Nat) - (x.ttpEst : Int)) 16).toNat }

/-- A channel's part of the governor at a turn: what was measured over the frame, the models, and what they ask for. -/
def Dev.thermChan (d : Dev) (c i2 : Nat) (rmeas : Option Nat) : Dev :=
  let d := d.modTherm c (fun x => { d.thermStep c i2 d.tf x with dSw := switchStep i2 d.tf x.dSw, i2 := i2 })
  let d := match rmeas with | some r => d.modTherm c (d.thermCorrect c r) | none => d
  ((d.coilRefuse c).derate c).cutOff c

/-! The module and the die (R339, R340) -/

/-- The dissipation of a frame (R339): the four terms, in 0.1 W with 16 more bits. -/
def modulePower (env : TurnEnv) : Nat :=
  let sw := (env.chans.map (fun x => x.2.i2)).sum           -- mA² of all switches
  let hs := (env.banks.map (fun x => x.2.i2)).sum
  -- 0.12 Ω and 0.025 Ω on mA², in 0.1 W
  env.ctrlP * 65536 + (sw * 120 + hs * 25) * 65536 / 100000000 + env.rechargeP * 8 * 65536 / 100

/-- The frames that the last `ns` nanoseconds take in, newest first. -/
def lastFrames : Nat → List (Nat × Nat) → List (Nat × Nat)
  | _, [] => []
  | ns, f :: r => if ns < f.1 then [] else f :: lastFrames (ns - f.1) r

/-- MOD_P (R339): the mean over the frames of the last second. -/
def Dev.modulePMean (d : Dev) (env : TurnEnv) : Dev :=
  let fs := lastFrames 1000000000 ((d.tf, modulePower env) :: d.bwk.powers)
  let ns := (fs.map (fun (f : Nat × Nat) => f.1)).sum
  { d with bwk := { d.bwk with powers := fs, modP := (fs.map (fun (f : Nat × Nat) => f.1 * f.2)).sum / max 1 ns } }

/-- The die stage that a temperature enters, from the one acting now (R340). -/
def Dev.dieStageFor (d : Dev) (cur : Nat) (t : Int) : Nat :=
  let th : List Int := [d.rdI Reg.BWK_DIE_T1, d.rdI Reg.BWK_DIE_T2, d.rdI Reg.BWK_DIE_T3]
  let up := (th.filter (fun x => decide (t ≥ x))).length
  if up ≥ cur then up
  else if t < th.getD (cur - 1) 0 - d.rdI Reg.BWK_DIE_HYST then up else cur

/-- The stage that acts from this turn, and the one that its sample enters (R340). -/
def Dev.dieTurn (d : Dev) (t : Int) : Dev :=
  let st := d.bwk.nextStage
  let d :=
    if st = d.bwk.stage then d
    else
      let d := (d.setFld (Reg.STATUS pBWK) 20 19 st).irq pBWK 18
      if st = 3 then d.faultRec pBWK 19 else d.recIrq pBWK 18
  let d := { d with bwk := { d.bwk with stage := st, nextStage := d.dieStageFor st t } }
  d

/-- Every ON edge of a channel is refused for heat (R337 to R340). -/
def Dev.thermalRefused (d : Dev) (c : Nat) : Bool :=
  (d.therm c).refused || decide (d.tSwitch c ≥ d.rdI Reg.BWK_SW_T_MAX * 100000) || decide (d.tileAt (c / 64) ≥ d.rdI Reg.BWK_TILE_T_MAX)
    || decide (d.bwk.modP > d.rdN Reg.BWK_P_MOD_MAX * 65536) || d.bwk.stage = 3

/-- Show the governor's registers at a turn: MOD_P, HOT, TH_*, and the status. -/
def Dev.bwkShow (d : Dev) : Dev :=
  let d := d.wrN Reg.BWK_MOD_P (d.bwk.modP / 65536)
  let d := if d.bwk.modP > d.rdN Reg.BWK_P_MOD_MAX * 65536 ∧ !d.bit (Reg.FAULT pBWK) 18 then d.faultRec pBWK 18 else d
  let hot := d.edgeChans.filter d.thermalRefused
  let rises := hot.any (fun c => !d.mapBit (Reg.BWK_HOT 0) c)
  let d := (List.range 16).foldl (fun d i =>
    d.wr (Reg.BWK_HOT i) (w32 ((hot.filter (fun c => c / 32 = i)).foldl (fun (a c : Nat) => a + 2 ^ (c % 32)) 0))) d
  let d := if rises then d.irq pBWK 17 else d
  let d := d.setStat pBWK 18 (d.bwk.ch.any (fun p => p.2.derated.isSome))
  let c := d.fld Reg.BWK_TH_SEL 8 0
  let x := d.therm c
  let deci (t : Int) : Int := divRound t 100000
  let d := ((d.wrI Reg.BWK_TH_TW (deci x.tW)).wrI Reg.BWK_TH_TC (deci x.tC)).wrI Reg.BWK_TH_TR (deci x.tR)
  let d := d.wrN Reg.BWK_TH_EST (min 65535 ((x.ttpEst + 32768) / 65536) * 2 ^ 16 + min 65535 ((x.eEst + 32768) / 65536))
  let d := d.wrI Reg.BWK_TH_TSW (deci (d.tSwitch c))
  d.wrN Reg.BWK_TH_HOLD (x.derated.getD (d.fld (Reg.CH_HOLD c) 8 0))

/-! Starts and their loads (R331 to R333) -/

/-- A start that is committed or admitted: its channel, instant, whether it boosts, and the OFF that ends it where it is known. -/
structure Start where
  c : Nat
  t : Nat
  boost : Bool
  off : Option Nat
  deriving DecidableEq, Repr

/-- An admission under way: every start that counts, and the OFFs of channels that are on. -/
structure Admission where
  starts : List Start
  offs : List (Nat × Nat)
  deriving DecidableEq, Repr

/-- TTP_EST, the margin and T_PEAK in ticks. -/
def Dev.ttpT (d : Dev) (c : Nat) : Nat := ceilDiv ((d.therm c).ttpEst * tUs) 65536
def Dev.occT (d : Dev) : Nat := d.rdN Reg.BWK_OCC_MARGIN * tUs

/-- Two intervals overlap. -/
def overlaps (a b x y : Nat) : Bool := a < y && x < b

/-- Where a start `s` of the bank keeps a start of channel `c` at `t` out (R331): until when. -/
def Dev.bankBlock (d : Dev) (c t : Nat) (boost : Bool) (s : Start) : Option Nat :=
  if s.c = c ∨ s.c / 8 ≠ c / 8 ∨ !d.profiled s.c then none
  else
    let m := d.occT
    let mine := t + d.ttpT c
    let mineEnd := mine + m + d.tPeakT c
    let its := s.t + d.ttpT s.c
    let itsEnd := its + m + d.tPeakT s.c
    match boost, s.boost with
    | true, true => if overlaps t mineEnd s.t itsEnd then some itsEnd else none
    | true, false => let e := s.t + d.tPeakT s.c + m; if overlaps t mine s.t e then some e else none
    | false, true => if overlaps t (t + d.tPeakT c + m) s.t its then some its else none
    | false, false => none

/-- The first instant from `t` on that the bank leaves free. -/
def Dev.bankClear (d : Dev) (a : Admission) (c : Nat) (boost : Bool) : Nat → Nat → Nat
  | 0, t => t
  | n + 1, t =>
    match (a.starts.filterMap (d.bankBlock c t boost)).foldl max 0 with
    | 0 => t
    | u => if u ≤ t then t else d.bankClear a c boost n u

/-- The first instant from `t` on that keeps 1,000 µs to every boosting start of a hot tile (R339). -/
def Dev.tileClear (d : Dev) (a : Admission) (c : Nat) (boost : Bool) : Nat → Nat → Nat
  | 0, t => t
  | n + 1, t =>
    if !boost ∨ d.tileAt (c / 64) ≤ d.rdI Reg.BWK_TILE_T_THR then t
    else
      let near := a.starts.filter (fun s => s.boost && s.c / 64 = c / 64 && overlaps t (t + 1000 * tUs) s.t (s.t + 1000 * tUs))
      match near.head? with
      | none => t
      | some s => d.tileClear a c boost n (s.t + 1000 * tUs)

/-- Boosts drawn from a rail after the turn, in order of time: instant and energy. -/
def Dev.railDraws (d : Dev) (k turn : Nat) (ss : List Start) : List (Nat × Nat) :=
  (ss.filter (fun s => s.boost && railOf s.c = k && turn < s.t)).foldl (fun l s =>
    (l.takeWhile (fun (p : Nat × Nat) => p.1 ≤ s.t)) ++ (s.t, (d.therm s.c).eEst) :: l.dropWhile (fun (p : Nat × Nat) => p.1 ≤ s.t)) []

/-- The projection of a rail right after each draw (R332): the instant and what is left. -/
def railAfter (full : Int) : Nat → Int → List (Nat × Nat) → List (Nat × Int)
  | _, _, [] => []
  | t0, e0, (t, draw) :: r =>
    let e := if e0 < full then min full (e0 + ((t - t0) / tUs * 40 * 65536 : Nat)) else e0
    (t, e - draw) :: railAfter full t (e - draw) r

/-- The projection of rail `k` (R332). -/
def Dev.railProjection (d : Dev) (k turn : Nat) (ss : List Start) : List (Nat × Int) :=
  railAfter (d.railFull k * 65536) turn (d.rdI (Reg.VB_RAIL_E k) * 10 * 65536) (d.railDraws k turn ss)

/-- The rail test of a boost at `t` (R332). -/
def Dev.railPasses (d : Dev) (a : Admission) (turn : Nat) (s : Start) : Bool :=
  if !s.boost then true
  else
    let k := railOf s.c
    let res := d.railFull k * 65536 * d.rdN Reg.BWK_RES_PCT
    d.bwk.ready.contains k && (d.railProjection k turn (a.starts ++ [s])).all (fun p => decide (p.1 < s.t) || decide (p.2 * 100 ≥ res))

/-- A load: from a tick to a tick, or on. -/
structure Load where
  from_ : Nat
  till : Option Nat
  mA : Int
  deriving DecidableEq, Repr

/-- Cut a load short at an OFF. -/
def Load.upTo (l : Load) (off : Option Nat) : Load :=
  match off with
  | none => l
  | some o => { l with till := some (match l.till with | some t => min t o | none => o) }

/-- I_PEAK and I_HOLD in mA. -/
def Dev.iPeak (d : Dev) (c : Nat) : Nat := d.fld (Reg.CH_PEAK c) 7 0 * 25
def Dev.iHold (d : Dev) (c : Nat) : Nat := d.fld (Reg.CH_HOLD c) 8 0 * 5

/-- The loads of a start (R333) beside its rail's converter. -/
def Dev.loadsOf (d : Dev) (s : Start) : List Load :=
  let c := s.c
  let ls : List Load :=
    if d.mode c = mSWITCH then
      [⟨s.t, some (s.t + d.inrushT c), d.inrushLim c⟩, ⟨s.t + d.inrushT c, none, 2750⟩]
    else
      let a := if s.boost then s.t + d.ttpT c else s.t
      let b := a + d.occT + d.tPeakT c
      [⟨a, some b, d.iPeak c⟩, ⟨b, none, d.iHold c⟩]
  (ls.map (·.upTo s.off)).filter (fun l => match l.till with | some t => l.from_ < t | none => true)

/-- The converter loads of the rails after the turn (R333). -/
def Dev.converterLoads (d : Dev) (turn : Nat) (ss : List Start) : List Load :=
  let mA : Int := if d.bwk.env.vbat = 0 then 0 else (400000000 / d.bwk.env.vbat : Nat)
  [0, 1, 2, 3].flatMap (fun k =>
    let full := d.railFull k * 65536
    let pr := d.railProjection k turn ss
    let nexts : List (Option Nat) := (pr.drop 1).map (fun p => some p.1) ++ [none]
    (pr.zip nexts).filterMap (fun (x : (Nat × Int) × Option Nat) =>
      if x.1.2 < full then
        let fill := x.1.1 + ceilDiv (full - x.1.2).toNat (40 * 65536) * tUs
        some ⟨x.1.1, some (match x.2 with | some n => min n fill | none => fill), mA⟩
      else none))

/-- What an OFF takes away from a channel that was on at the turn (R333). -/
def Dev.offLoad (d : Dev) (c t : Nat) : Load :=
  let sense := d.fld (Reg.CH_SENSE c) 11 0
  ⟨t, none, if d.profiled c then -(d.iHold c : Int) else if sense = 0xFFF then 0 else -((sense * 4 : Nat) : Int)⟩

/-- All loads of an admission. -/
def Dev.allLoads (d : Dev) (turn : Nat) (a : Admission) : List Load :=
  let ss := a.starts.filter (fun s => turn < s.t)
  ss.flatMap d.loadsOf ++ d.converterLoads turn ss ++ a.offs.map (fun p => d.offLoad p.1 p.2)

/-- The slot of 25 µs that holds a tick, and the projected current in a slot (R333). -/
def slotOf (turn t : Nat) : Nat := (t - turn) / (25 * tUs)
def Dev.slotMA (d : Dev) (turn : Nat) (ls : List Load) (i : Nat) : Int :=
  let a := turn + i * 25 * tUs
  let b := a + 25 * tUs
  ls.foldl (fun (s : Int) l =>
    let ends := match l.till with | some t => decide (a < t) | none => true
    if l.from_ < b ∧ ends = true then s + l.mA else s) (d.rdN Reg.BWK_SUP_I * 100 : Nat)

/-- The lowest of the 40 slots before one; before the turn the current was what it was at the turn. -/
def Dev.lowest (d : Dev) (turn : Nat) (ls : List Load) (i : Nat) : Int :=
  let base : Int := (d.rdN Reg.BWK_SUP_I * 100 : Nat)
  let from_ := i - 40
  let vs := (List.range (min i 40)).map (fun j => d.slotMA turn ls (from_ + j))
  let vs := if i < 40 then base :: vs else vs
  vs.foldl min (vs.headD base)

/-- The supply and the ramp test of a placement (R333): judged on the slots it raises. A projection rises only in slots in which a load
begins. -/
def Dev.supplyPasses (d : Dev) (a : Admission) (turn : Nat) (s : Start) : Bool :=
  let before := d.allLoads turn a
  let after := d.allLoads turn { a with starts := a.starts ++ [s] }
  let slots := (after.map (fun l => slotOf turn l.from_)).foldl setInsert []
  slots.all (fun i =>
    let v := d.slotMA turn after i
    decide (v ≤ d.slotMA turn before i) ||
      (decide (v ≤ d.rdN Reg.BWK_I_SUP_MAX * 1000) && decide (v - d.lowest turn after i ≤ d.rdN Reg.BWK_RAMP_A * 1000)))

/-! Placing an ON (R341 to R343) -/

/-- The first instant in 1 µs steps, from `t` on, at which a test passes, in at most `n` steps. -/
def firstPass (ok : Nat → Bool) : Nat → Nat → Nat
  | 0, t => t
  | n + 1, t => if ok t then t else firstPass ok n (t + tUs)

/-- The account of a test. -/
def Forced.account : Forced → Account
  | .bank => .overlap | .tile => .thermal | .rail => .budget | .supply => .budget

/-- Add ticks to an account's part. -/
def addPart (l : List (Account × Nat)) (a : Account) (n : Nat) : List (Account × Nat) :=
  if n = 0 then l
  else if l.any (fun p => p.1 = a) then l.map (fun p => if p.1 = a then (p.1, p.2 + n) else p) else l ++ [(a, n)]

/-- The search of R342: from `t`, no further than `limit`; where it ended, the parts charged, and the test that last moved it. -/
def Dev.search (d : Dev) (a : Admission) (turn : Nat) (mk : Nat → Start) (limit : Nat) :
    Nat → Nat → List (Account × Nat) → Option Forced → Nat × List (Account × Nat) × Option Forced
  | 0, t, parts, why => (t, parts, why)
  | n + 1, t, parts, why =>
    if t > limit then (t, parts, why)
    else
      let steps := (limit - t) / tUs + 1
      let s := mk t
      let b := if d.profiled s.c then d.bankClear a s.c s.boost (a.starts.length + 1) t else t
      let h := if d.profiled s.c then d.tileClear a s.c s.boost (a.starts.length + 1) t else t
      let r := firstPass (fun u => d.railPasses a turn (mk u)) steps t
      let p := firstPass (fun u => d.supplyPasses a turn (mk u)) steps t
      let u := max (max b h) (max r p)
      if u = t then (t, parts, why)
      else
        let f : Forced := if b = u then .bank else if h = u then .tile else if r = u then .rail else .supply
        d.search a turn mk limit n u (addPart parts f.account (min u (limit) - t)) (some f)

/-- The outcome of an ON: verdict 0 placed, 1 carried, 2 refused (R342, R343). `off` is where its run ends, as far as is known. -/
def Dev.place (d : Dev) (a : Admission) (turn : Nat) (c : Nat) (p : Plan) (off : Option Nat) : PlanOut × Option Forced :=
  let t0 := p.t + p.spent
  let boost := d.profiled c && d.boostEn c
  let mk (t : Nat) : Start := ⟨c, t, boost, match p.dur with | some n => some (t + n) | none => off⟩
  let limit := match off with
    | some o => if p.later then p.t + p.late else max p.t (min (p.t + p.late) (o - d.gapT))
    | none => p.t + p.late
  if d.thermalRefused c then (⟨2, t0, p.charge, .thermal, false, none⟩, none)
  else
    let r := d.search a turn mk limit (limit - p.t + 2) t0 p.charge p.forced
    if r.1 ≤ limit then
      ({ verdict := if r.1 < d.eds.winTo then 0 else 1, start := r.1, charge := r.2.1, forced := r.2.2 }, r.2.2)
    else
      let dry (t : Nat) : Start := { mk t with boost := false }
      match r.2.2 with
      | some .bank =>
        if d.bit (Reg.BK_OVL_OUTCOME (c / 8)) 0 then (⟨2, t0, p.charge, .overlap, false, none⟩, r.2.2)
        else if limit < d.eds.winTo then
          (if d.supplyPasses a turn (dry limit) then (⟨0, limit, r.2.1, .overlap, true, none⟩, r.2.2) else (⟨2, t0, p.charge, .budget, false, none⟩, r.2.2))
        else (⟨1, limit, r.2.1, .overlap, false, r.2.2⟩, r.2.2)
      | some .rail =>
        if d.bit (Reg.VB_RAIL_CTRL (railOf c)) 1 then (⟨2, t0, p.charge, .budget, false, none⟩, r.2.2)
        else if d.supplyPasses a turn (dry t0) then (⟨0, t0, p.charge, .budget, true, none⟩, r.2.2) else (⟨2, t0, p.charge, .budget, false, none⟩, r.2.2)
      | some .tile => (⟨2, t0, p.charge, .thermal, false, none⟩, r.2.2)
      | _ => (⟨2, t0, p.charge, .budget, false, none⟩, r.2.2)

end Sys2Proof.Machine
end

