-- ==== Sys2Proof/Machine/Cross.lean ====
section
/-! DEFINITION. The way of a commit into its clock domains (R63 to R69): the domain of a page, the words that become active at a local turn,
and accesses that arrive in a domain behind a turn strobe that is on its way there. -/

namespace Sys2Proof.Machine

def pFRM : Nat := 0x002

/-- The clock domain of a page (R63), and its bit of R82. -/
def pageDomain (p : Nat) : Domain :=
  if 0x030 ≤ p ∧ p ≤ 0x077 then .ckEdge
  else if p = 0x080 ∨ p = 0x081 then .ckLoop
  else if p = 0x0A0 then .ckNet
  else if p = 0x0A1 ∨ p = 0x0A2 then .ckCan
  else if 0x010 ≤ p ∧ p ≤ 0x01F then .ckNav
  else if p = 0x003 then .ckAon
  else .ckSys
def domainNo : Domain → Nat
  | .ckSys => 0 | .ckLoop => 1 | .ckNet => 2 | .ckCan => 3 | .ckEdge => 4 | .ckSense => 5 | .ckNav => 6 | .ckAon => 7

/-- Drive tile and bank pages live in two domains (R63). -/
def twoDomains (p : Nat) : Bool := 0x030 ≤ p && p ≤ 0x077

/-! Effects of words that become active -/

/-- `olds` holds each word of the commit with the value it had. -/
def Dev.committed (d : Dev) (olds : List (Nat × W32)) : Dev :=
  let d := d.lpeCommitted (olds.filter (fun (p : Nat × W32) => d.rd p.1 ≠ p.2))
  let quads := ((List.range 48).map (2 * ·)).filter (fun i => olds.any (fun (p : Nat × W32) =>
    p.1 = Reg.FIN_FIN_CFG i && bitOf p.2 1 ≠ d.bit p.1 1))
  let d := quads.foldl (fun d i => (d.finRestart i).finRestart (i + 1)) d
  let d := d.ainCommitted (olds.filter (fun (p : Nat × W32) => d.rd p.1 ≠ p.2))
  if olds.any (fun (p : Nat × W32) => decide (p.1 / 0x1000 = pVB)) then d.railUpdate else d

/-- Words become active. -/
def Dev.putWords (d : Dev) (ws : List (Nat × W32)) : Dev :=
  let olds := ws.map (fun (p : Nat × W32) => (p.1, d.rd p.1))
  (ws.foldl (fun d (p : Nat × W32) => d.wr p.1 p.2) d).committed olds

/-- GROUP_DONE and its interrupt, once no part of the group is on its way (R73). -/
def Dev.groupShow (d : Dev) : Dev :=
  if d.cross.any (·.group) then d.setStat pFRM 16 false else (d.setStat pFRM 16 true).irq pFRM 16

/-- The local turn of a crossing (R67). -/
def Dev.cross1 (d : Dev) (x : Crossing) : Dev :=
  let d := ({ d with cross := d.cross.filter (fun y => y ≠ x) }).putWords x.words
  let d := if x.main then d.irq x.page 0 else d
  if x.group then d.groupShow else d

/-- Every crossing into a domain. -/
def Dev.crossDomain (d : Dev) (dom : Domain) : Dev := (d.cross.filter (fun x => x.domain = dom)).foldl (fun d x => d.cross1 x) d

/-- Every crossing still under way; all end long before the next turn (R64). -/
def Dev.crossAll (d : Dev) : Dev := d.cross.foldl (fun d x => d.cross1 x) d

/-! Accesses behind a strobe (R64, R68) -/

/-- The strobe and the accesses to a domain travel in order: one that follows a turn finds the commits of that turn active. -/
def Dev.strobed (d : Dev) (a : Nat) : Dev :=
  if !d.fabricUp then d
  else
    let d := d.crossDomain (pageDomain (ownerPage a))
    if twoDomains (ownerPage a) then d.crossDomain .ckSense else d

/-- A command, and a read of a port, in another clock domain. -/
def farCmd (req : Requester) (a : Nat) (v : W32) (act : Act) (s : State) : State := hostCmd req a v act (onDev (·.strobed a) s)
def farPort (req : Requester) (a n : Nat) (port : PortAct) (s : State) : State := hostPort req a n port (onDev (·.strobed a) s)

end Sys2Proof.Machine
end

