-- ==== Sys2Proof/Machine/Drive.lean ====
section
/-! DEFINITION. The commands of the drive tiles (chapter 11): edges, phases, waiting, the diagnostics, the rails and the clears. -/

namespace Sys2Proof.Machine

/-! Edges -/

/-- Note an executed host action that asked for it (R268, R279, R280). -/
def Dev.edgeDone (d : Dev) (e : Edge) : Dev :=
  if e.notify then (d.wrN Reg.EDS_ACT_DONE_TAG e.tag).irq 0x022 16 else d

/-- Place the OFF that ends an ON with DUR or a pulse (R271, R265). -/
def Dev.placeEnd (d : Dev) (c : Nat) (e : Edge) : Dev :=
  match e.dur with
  | none => d
  | some n =>
    let off : Edge := { t := e.t + n, on := false, kind := (if e.kind = .host then .implied else e.kind), ideal := e.ideal + n, tag := e.tag }
    let d := d.modChan c (fun x => { x with runEnd := some (e.t + n) })
    d.queueEdge c off

/-- A host ON restarts the MAX_ON timer (R295); any ON ends a cut by MAX_ON. -/
def Dev.onTransition (d : Dev) (c : Nat) (e : Edge) : Dev :=
  let t := d.maxOnFrom c d.tick
  d.modChan c (fun x => { x with
    maxOnCut := false, commanded := true
    onTimer := if e.kind = .host ∧ phaseOn x.phase = true then t else x.onTimer })

/-- An ON reaches a VALVE or PWMNOZ channel (R291). -/
def Dev.profileOn (d : Dev) (c : Nat) (e : Edge) : Dev :=
  let x := d.chan c
  if phaseOn x.phase then (d.modChan c (fun x => { x with merged := true, rho := e.rho })).placeEnd c e
  else if x.phase = phWAIT then d.placeEnd c e
  else
    let earliest := match x.tOff with | some t => t + d.tMinOffT c | none => 0
    if e.t < earliest then
      let d := d.modChan c (fun x => { x with book := x.book.mark e.t (some .late) })
      (d.queueEdge c { e with t := earliest, fresh := true, dur := e.dur.map (· - (earliest - e.t)) }).recOther (pBK (c / 8)) [] objIsChannel c
    else (d.tryStart c e).placeEnd c e

/-- The clock that a channel needs is lost (R79): CK_EDGE for every channel, CK_SENSE for a metered one. -/
def Dev.driveClockLost (d : Dev) (c : Nat) : Bool := d.clockLost 4 || (d.clockLost 5 && d.metered c)

/-- An ON reaches a channel (R286, R302, R313, R320). -/
def Dev.execOn (d : Dev) (c : Nat) (e : Edge) : Dev :=
  let x := d.chan c
  if d.inhibited c then d.modChan c (fun x => { x with book := x.book.mark e.t (some .host) })
  else if x.phase = phFAULT ∨ d.driveClockLost c = true then d.modChan c (fun x => { x with book := x.book.mark e.t (some .fault) })
  else
    let d := (d.onTransition c e).edgeDone e
    match (d.bank (c / 8)).sort with
    | some s =>
      if s.step ≤ c % 8 then
        (d.modChan c (fun x => { x with sortEdge := some e, book := (x.book.settle e.t [] x.book.held).mark e.t (some .fault) })).placeEnd c e
      else if d.profiled c then d.profileOn c { e with degraded := true }
      else if (d.chan c).phase = phSWITCHED then d.placeEnd c e else (d.switchOn c).placeEnd c e
    | none =>
      if d.profiled c then d.profileOn c e
      else if d.mode c = mOFF then d
      else if (d.chan c).phase = phSWITCHED then d.placeEnd c e
      else (d.switchOn c).placeEnd c e

/-- An OFF reaches a channel (R286, R288, R290, R320); one of the SDE or the host ends the run with the ends that the tile had placed
(R267, R271). -/
def Dev.execOff (d : Dev) (c : Nat) (e : Edge) : Dev :=
  let d := d.edgeDone e
  let own := e.kind = .implied || e.kind = .pulse
  let d := d.modChan c (fun x => { x with
    commanded := false, sortEdge := none, runEnd := none
    queue := if own then x.queue else x.queue.filter (fun q => q.on || (q.kind ≠ .implied && q.kind ≠ .pulse))
    book := if !own && x.book.moved then x.book.settle d.tick [] x.book.held else x.book })
  d.lowSideOff c

/-- A host OFF that executes on a channel of a section sets its INHIBIT (R270). -/
def Dev.hostOffInhibits (d : Dev) (c : Nat) : Dev :=
  if d.fld (Reg.CH_CFG c) 21 12 ≤ 511 then d.setMapBit (Reg.EDS_INHIBIT 0) c true else d

/-- EDGE_EXECUTE: the channel's next committed edge, at its time (R251). A HOLD under a LOSS policy ends with it (R326). -/
def execEdgeExecute (c : Fin 512) (s : State) : Host.Outcome State Fault Refusal :=
  .next (onDev (fun d =>
    match (d.chan c).queue with
    | [] => d
    | e :: rest =>
      let d := d.toTick e.t
      let d := { d with drv := { d.drv with edgeT := e.t } }
      let now := d.tick
      let d := d.modChan c (fun x => { x with queue := rest, lossEnd := none })
      if e.kind = .release then (d.edgeDone e).setMapBit (Reg.EDS_INHIBIT 0) c false
      else
        let d := d.modChan c (fun x => { x with fr := { x.fr with
          edges := x.fr.edges ++ [(now, e.on)], flags := if e.on && e.late then x.fr.flags ||| 32 else x.fr.flags } })
        let d := if e.kind = .host ∧ e.on = false then d.hostOffInhibits c else d
        if e.on then d.execOn c e else d.execOff c e) s)

/-! Phases -/

/-- The current reaches I_PEAK: the time to peak is known and judged against TTP_MIN (R286, R301). -/
def Dev.peakReached (d : Dev) (c t : Nat) : Dev :=
  let x := d.chan c
  let ttp := t - x.tOn
  let d := d.modChan c (fun x => { x with tPeak := some t, fr := { x.fr with ttp := ttp / tUs } })
  let d := d.wr (Reg.CH_ACT c) (putField (d.rd (Reg.CH_ACT c)) 15 0 (min (ttp / tUs) 65535))
  let d := if x.boost then d else d.setFld (Reg.CH_ACT c) 31 16 0
  if ttp < d.ttpMinT c ∧ x.degraded = false ∧ d.diagOn c = true then
    let d := d.modChan c (fun x => { x with fr := { x.fr with flags := x.fr.flags ||| 4 } })
    if d.bit (Reg.CH_CFG c) 5 then d.recFault (pBK (c / 8)) (16 + c % 8) (causeWord cTTPLOW) objIsChannel c
    else d.chanFault c cTTPLOW
  else d

/-- BOOST_END (R286): at I_PEAK, `ttpNs` after the ON, or at the time limit where that comes first. -/
def execBoostEnd (c : Fin 512) (ttpNs : Option Nat) (energy : Nat) (s : State) : Host.Outcome State Fault Refusal :=
  .next (onDev (fun d =>
    let x := d.chan c
    if x.phase = phBOOST then
      let limit := x.tOn + d.tBoostMaxT c
      let reach := match ttpNs with | some n => x.tOn + n / 4 | none => limit
      let byCurrent := ttpNs.isSome && reach ≤ limit
      let d := d.toTick (min reach limit)
      let d := d.modChan c (fun x => { x with phase := phPEAK, fr := { x.fr with energy := x.fr.energy + energy } })
      let d := d.modBank (c / 8) (fun b => { b with energy := b.energy + energy, boostUs := b.boostUs + (d.tick - x.tOn) / tUs })
      let d := d.wr (Reg.CH_ACT c) (putField (d.rd (Reg.CH_ACT c)) 31 16 (min energy 65535))
      if byCurrent then d.peakReached c d.tick else d
    else d) s)

/-- TTP_HIGH (R301): I_PEAK is not reached by TTP_MAX after the ON. -/
def execTtpHigh (c : Fin 512) (s : State) : Host.Outcome State Fault Refusal :=
  .next (onDev (fun d =>
    let x := d.chan c
    if (x.phase = phBOOST ∨ x.phase = phPEAK) ∧ x.tPeak = none ∧ x.degraded = false ∧ d.diagOn c = true then
      let d := d.toTick (x.tOn + d.ttpMaxT c)
      let d := d.modChan c (fun x => { x with fr := { x.fr with flags := x.fr.flags ||| 4 } })
      if d.bit (Reg.CH_CFG c) 5 then d.recFault (pBK (c / 8)) (16 + c % 8) (causeWord cTTPHIGH) objIsChannel c
      else d.chanFault c cTTPHIGH
    else d) s)

/-- PEAK_END (R286): T_PEAK after I_PEAK was first reached, which in a PEAK without a boost ended by current is `ttpNs`
after the ON. -/
def execPeakEnd (c : Fin 512) (ttpNs : Option Nat) (s : State) : Host.Outcome State Fault Refusal :=
  .next (onDev (fun d =>
    if (d.chan c).phase = phPEAK then
      let d := match (d.chan c).tPeak, ttpNs with
        | none, some n => (d.toTick ((d.chan c).tOn + n / 4)).peakReached c ((d.chan c).tOn + n / 4)
        | _, _ => d
      match (d.chan c).tPeak with
      | some t =>
        if (d.chan c).phase = phPEAK then
          let d := d.toTick (t + d.tPeakT c)
          d.modChan c (fun x => { x with phase := phHOLD, tHold := some d.tick })
        else d
      | none => d
    else d) s)

/-- DECAY_END (R286): the current falls below 50 mA. -/
def execDecayEnd (c : Fin 512) (afterNs : Nat) (s : State) : Host.Outcome State Fault Refusal :=
  .next (onDev (fun d =>
    match decide ((d.chan c).phase = phDECAY), (d.chan c).tOff with
    | true, some t =>
      let d := d.toTick (t + afterNs / 4)
      d.modChan c (fun x => { x with phase := phOFF, tDecayed := some d.tick })
    | _, _ => d) s)

/-! Sharing a bank -/

/-- Every waiter of the bank that came before this one, by edge time and channel number, has left WAIT (R289). -/
def Dev.firstInLine (d : Dev) (c : Nat) : Bool :=
  let mine := ((d.chan c).waitAt).getD 0
  (bankChans (c / 8)).all (fun o =>
    match (d.chan o).waitAt with
    | some t => o = c || !(t < mine || (t = mine && o < c))
    | none => true)

/-- WAIT_START (R289): the bank allows the start, and the waiter is first in line or its slack has expired (R290). -/
def execWaitStart (c : Fin 512) (s : State) : Host.Outcome State Fault Refusal :=
  .next (onDev (fun d =>
    let x := d.chan c
    match decide (x.phase = phWAIT), x.waitEdge, x.waitAt with
    | true, some e, some since =>
      let boost := d.boostEn c && !e.degraded && !x.expired && (d.bank (c / 8)).sort.isNone
      if !d.startForbidden c boost && (x.expired || d.firstInLine c) then
        let us := (d.tick - since) / tUs
        let d := d.modChan c (fun x => { x with fr := { x.fr with waitUs := max x.fr.waitUs us } })
        let d := d.modBank (c / 8) (fun b => { b with waitMax := max b.waitMax us })
        d.beginStart c e boost (e.degraded || x.expired || (d.boostEn c && !boost))
      else d
    | _, _, _ => d) s)

/-- WAIT_SLACK_EXPIRY (R290): DEGRADED_PEAK, at once or when the running BOOST ends, or DROP. -/
def execWaitSlackExpiry (c : Fin 512) (s : State) : Host.Outcome State Fault Refusal :=
  .next (onDev (fun d =>
    let x := d.chan c
    match x.phase = phWAIT && !x.expired, x.waitEnd, x.waitEdge with
    | true, some due, some e =>
      let b := c.val / 8
      let d := d.toTick due
      if d.bit (Reg.BK_OVL_OUTCOME b) 0 then
        let d := (d.dropStart c .overlap).inc (Reg.BK_OVL_DROP b)
        (d.modBank b (fun k => { k with drops := k.drops + 1 })).faultRec (pBK b) 27 [] objIsChannel c
      else
        let d := ((d.inc (Reg.BK_OVL_DEG b)).modBank b (fun k => { k with degs := k.degs + 1 })).recOther (pBK b) [] objIsChannel c
        if d.startForbidden c false then d.modChan c (fun x => { x with expired := true })
        else d.startProfile c e false true
    | _, _, _ => d) s)

/-- The queue of a channel holds an OFF that executes by a tick. -/
def Dev.offDue (d : Dev) (c t : Nat) : Bool := (d.chan c).queue.any (fun e => !e.on && e.kind ≠ .release && decide (e.t ≤ t))

/-- MAX_ON_EXPIRY (R295): through DECAY to OFF, without FAULT. An OFF edge that is due by then executes instead (R303). -/
def execMaxOnExpiry (c : Fin 512) (s : State) : Host.Outcome State Fault Refusal :=
  .next (onDev (fun d =>
    match phaseOn (d.chan c).phase, (d.chan c).onTimer with
    | true, some t =>
      if d.offDue c (t + d.maxOnT c) then d
      else
        let d := (d.toTick (t + d.maxOnT c)).lowSideOff c
        let now := d.tick
        let d := d.modChan c (fun x => { x with maxOnCut := true, onTimer := none, lossEnd := none, book := x.book.mark now (some .fault) })
        d.faultRec (pBK (c / 8)) 26 [] objIsChannel c
    | _, _ => d) s)

/-! Diagnostics (R301) -/

/-- LOAD_SHORT: above 16 A the comparator trips the channel. -/
def execLoadShort (c : Fin 512) (milliA : Nat) (s : State) : Host.Outcome State Fault Refusal :=
  .next (onDev (fun d =>
    if d.driven c = true ∧ milliA > 16000 then
      let d := d.modChan c (fun x => { x with shortAt := some d.tick })
      if d.diagOn c then d.chanFault c cSHORT else d
    else d) s)

/-- FREEWHEEL_MISSING (R297): within the opening of an actuation, or of a switched channel. -/
def execFreewheelMissing (c : Fin 512) (s : State) : Host.Outcome State Fault Refusal :=
  .next (onDev (fun d =>
    let p := (d.chan c).phase
    let opened := p = phPEAK ∨ p = phHOLD ∨ p = phDECAY ∨ (p = phOFF ∧ (d.chan c).tOff.isSome)
    if opened ∧ d.diagOn c = true then
      let d := d.modChan c (fun x => { x with fr := { x.fr with flags := x.fr.flags ||| 1 } })
      d.chanFault c cFREEWHEEL
    else d) s)

/-- OPEN_LOAD_ON (R301, R315): 1,000 µs below OPEN_ON_MA, from the ON or from the end of an inrush window. -/
def execOpenLoadOn (c : Fin 512) (milliA : Nat) (s : State) : Host.Outcome State Fault Refusal :=
  .next (onDev (fun d =>
    let x := d.chan c
    if d.driven c = true ∧ d.drv.vbatLow = false ∧ milliA < d.rdN (Reg.BK_OPEN_ON_MA (c / 8)) ∧ d.diagOn c = true then
      let d := d.toTick (max x.tOn (x.winEnd.getD 0) + 1000 * tUs)
      let d := d.modChan c (fun x => { x with fr := { x.fr with flags := x.fr.flags ||| 2 } })
      d.chanFault c cOPENON
    else d) s)

/-- OPEN_LOAD_OFF (R301): the low side off for 500 µs, then two tests of 250 µs. -/
def execOpenLoadOff (c : Fin 512) (s : State) : Host.Outcome State Fault Refusal :=
  .next (onDev (fun d =>
    let x := d.chan c
    if x.phase = phOFF ∧ d.driven c = false ∧ d.mode c ≠ mOFF ∧ d.drv.vbatLow = false ∧ d.diagOn c = true then
      let d := d.toTick (x.tOff.getD 0 + 1000 * tUs)
      let d := d.modChan c (fun x => { x with fr := { x.fr with flags := x.fr.flags ||| 2 } })
      d.chanFault c cOPENOFF
    else d) s)

/-- STUCK_ON (R301): current above 150 mA with the low side off faults the bank. -/
def execStuckOn (c : Fin 512) (milliA : Nat) (s : State) : Host.Outcome State Fault Refusal :=
  .next (onDev (fun d =>
    let b := c.val / 8
    if d.driven c = false ∧ milliA > 150 ∧ d.bit (Reg.FAULT_EN (pBK b)) 24 = true ∧ (d.bank b).fault = false then
      let d := d.toTick ((d.chan c).tOff.getD 0 + 1000 * tUs)
      (d.faultRec (pBK b) 24 [] objIsChannel c).bankFault b
    else d) s)

/-- SENSE_DRIFT (R301): the bank current against the sum of its channels, beyond DRIFT_TOL and DRIFT_PCT of the sum. -/
def execSenseDrift (b : Fin 64) (bankMA sumMA : Nat) (s : State) : Host.Outcome State Fault Refusal :=
  .next (onDev (fun d =>
    let diff := ((bankMA : Int) - sumMA).natAbs
    let tol := max (d.rdN (Reg.BK_DRIFT_TOL b)) (d.rdN (Reg.BK_DRIFT_PCT b) * sumMA / 100)
    let d := (d.wr (Reg.BK_BK_I b) (w32 (min sumMA 65535 * 2 ^ 16 + min bankMA 65535))).bankPeak b bankMA
    if diff > tol ∧ d.drv.vbatLow = false ∧ d.bit (Reg.FAULT_EN (pBK b)) 25 = true ∧ (d.bank b).fault = false then
      (d.faultRec (pBK b) 25).bankFault b
    else d) s)

/-- TEMP_PAIR (R301): the two sensors of a tile, signed 0.1 °C. -/
def execTempPair (t : Fin 8) (tempA tempB : Int) (s : State) : Host.Outcome State Fault Refusal :=
  .next (onDev (fun d =>
    let d := (d.wrI (Reg.DT_TEMP_A t) tempA).wrI (Reg.DT_TEMP_B t) tempB
    if (tempA - tempB).natAbs > d.rdN (Reg.DT_TEMP_DIFF t) ∧ d.bit (Reg.FAULT_EN (pDT t)) 16 = true ∧ (d.tile t).fault = false then
      (d.faultRec (pDT t) 16).tileFault t
    else d) s)

/-- QUEUE_ECC_ERROR (R301). -/
def execQueueEccError (c : Fin 512) (s : State) : Host.Outcome State Fault Refusal :=
  .next (onDev (fun d =>
    let t := c.val / 64
    let d := d.faultRec (pDT t) 18 [] objIsChannel c
    if d.bit (Reg.FAULT_EN (pDT t)) 18 then d.chanFault c cQUEUE else d) s)

/-! Rails (R299, R300) -/

/-- RAIL_READY (R300): within the window; a charge from below it measures the capacitance (R299). -/
def execRailReady (k : Fin 4) (microF : Option Nat) (s : State) : Host.Outcome State Fault Refusal :=
  .next (onDev (fun d =>
    if d.railState k = 1 ∨ d.railState k = 3 then
      let d := match microF with
        | some f => d.setFld (Reg.VB_RAIL_STATE k) 31 16 f
        | none => d
      d.setRail k 2
    else d) s)

/-- RAIL_NOT_READY (R300): the 20th consecutive sample outside the window. -/
def execRailNotReady (k : Fin 4) (centiV : Nat) (s : State) : Host.Outcome State Fault Refusal :=
  .next (onDev (fun d =>
    if d.railState k = 2 then
      (((d.wrN (Reg.VB_RAIL_V k) centiV).setRail k 3).inc (Reg.VB_NR_CNT k)).faultRec pVB (16 + k) [] objIsRail k
    else d) s)

/-- RAIL_FAULT (R300): the 50 ms run out, the rail is above its limit, or the converter fails. -/
def execRailFault (k : Fin 4) (why : RailFailure) (s : State) : Host.Outcome State Fault Refusal :=
  .next (onDev (fun d =>
    let st := d.railState k
    let go (d : Dev) : Dev := (d.setRail k 4).faultRec pVB (20 + k) [] objIsRail k
    match why with
    | .chargeTimeout =>
      match decide (st = 1), (d.rail k).chargeFrom with
      | true, some t => go (d.toTbm (t + 50000000))
      | _, _ => d
    | .overVoltage => if st = 1 ∨ st = 2 ∨ st = 3 then go d else d
    | .converter => if st = 1 ∨ st = 2 ∨ st = 3 then go d else d) s)

/-- RAIL_CLR (R300): FAULT ends; the 50 ms run from the rail's return to VBAT, 20 ms on. -/
def actRailClr (k : Nat) (v : W32) : Act := actDev (fun d =>
  if bitOf v 0 ∧ d.railState k = 4 then
    if d.railWanted k then (d.setRail k 1).modRail k (fun r => { r with chargeFrom := some (d.tm.tbm + 20000000) })
    else d.setRail k 0
  else d)
def execRailClr (req : Requester) (k : Fin 4) (s : State) : Host.Outcome State Fault Refusal :=
  .next (farCmd req (Reg.VB_RAIL_CLR k) 1#32 (actRailClr k 1#32) s)

/-! Clears (R302) -/

/-- CHF_CLR: remembered until the next turn. -/
def actChfClr (b : Nat) (v : W32) : Act := actDev (·.modBank b (fun x => { x with clr := x.clr ||| (v.toNat % 512) }))
def execChannelFaultClear (req : Requester) (b : Fin 64) (mask : Fin 256) (s : State) : Host.Outcome State Fault Refusal :=
  .next (farCmd req (Reg.BK_CHF_CLR b) (w32 mask) (actChfClr b (w32 mask)) s)
def execBankFaultClear (req : Requester) (b : Fin 64) (s : State) : Host.Outcome State Fault Refusal :=
  .next (farCmd req (Reg.BK_CHF_CLR b) 0x100#32 (actChfClr b 0x100#32) s)

/-- TILE_CLR: remembered until the next turn. -/
def actTileClr (t : Nat) (v : W32) : Act := actDev (fun d =>
  if bitOf v 0 then d.modTile t (fun x => { x with clr := true }) else d)
def execTileClear (req : Requester) (t : Fin 8) (s : State) : Host.Outcome State Fault Refusal :=
  .next (farCmd req (Reg.DT_TILE_CLR t) 1#32 (actTileClr t 1#32) s)

end Sys2Proof.Machine
end

