-- ==== Sys2Proof/Machine/Eds.lean ====
section
/-! DEFINITION. The commands of edge scheduling (chapter 10): the stage of a frame, the host's actions, and the end of a pending position
entry. -/

namespace Sys2Proof.Machine

/-- EDS_STAGE (R5, R249): `cycles` from the turn to its completion. -/
def execEdsStage (cycles : Nat) (s : State) : Host.Outcome State Fault Refusal :=
  .next (onDev (fun d => if d.frm.turned && d.frm.stage = 1 then d.edsRun.stageEnds 2 cycles else d) s)

/-! Pending entries -/

/-- Show how many entries are pending (R279, R280). -/
def Dev.actsShow (d : Dev) : Dev :=
  let n := d.eds.acts.length
  let p := (d.eds.acts.filter (fun a => a.ref = refPOSITION)).length
  (d.wrN Reg.EDS_ACT_LEVEL (p * 2 ^ 16 + n)).setStat pEDS 16 (n ≥ 1024)

/-- Keep only some of the pending entries. -/
def Dev.keepActs (d : Dev) (f : HostAct → Bool) : Dev :=
  ({ d with eds := { d.eds with acts := d.eds.acts.filter f } }).actsShow

/-- The staged entry as it would be pushed now. -/
def Dev.stagedAct (d : Dev) : HostAct :=
  { w := (List.range 6).map (fun i => d.rd (Reg.EDS_ACT_W i)), t := none, pushed := d.tm.tbm, num := d.eds.nextAct }

/-- TIME of an entry converted to TB-S (R102), in ticks. -/
def Dev.actTime (d : Dev) (a : HostAct) : Option Nat :=
  let x : Int := ((a.word 3).toNat * 2 ^ 32 + (a.word 2).toNat : Nat)
  match a.ref with
  | 1 => some (tickOf x)
  | 2 => some (tickOf (x - d.tbg + d.tbs))
  | 3 => some (tickOf (x - d.tbn + d.tbs))
  | _ => none

/-- The refusal code of an entry (R269), 0 where it is accepted. -/
def Dev.actCode (d : Dev) (a : HostAct) : Nat :=
  let positions := (d.eds.acts.filter (fun b => b.ref = refPOSITION)).length
  let gap := d.rdN Reg.EDS_EDGE_GAP
  let dur := (a.word 4).toNat
  let m := d.mode a.chan
  if d.eds.acts.length ≥ 1024 ∨ (a.ref = refPOSITION ∧ positions ≥ 128) then 1
  else if a.kind = 0 ∨ a.kind > 4 ∨ a.ref > 4 ∨ field (a.word 0) 21 9 ≠ 0 ∨ (a.kind = haON ∧ 0 < dur ∧ dur < gap) then 2
  else if (a.ref = 2 ∧ d.tbgState = tbgNone) ∨ (a.ref = 3 ∧ !d.tbnSet) then 3
  else if m = mOFF ∨ m = mMETER ∨ (a.kind = haRATE ∧ m ≠ mPWMNOZ) then 4
  else if (a.kind = haON ∨ a.kind = haRATE) ∧ d.fld (Reg.CH_CFG a.chan) 21 12 ≠ 0x3FF then 5
  else if a.ref = refPOSITION ∧ !d.stat pPOSE 16 then 6
  else 0

/-- A host action that is executed (R268). -/
def Dev.actDone (d : Dev) (tag : Nat) (notify : Bool) : Dev :=
  if notify then (d.wrN Reg.EDS_ACT_DONE_TAG tag).irq pEDS 16 else d

/-- A host OFF that goes directly to the tile (R10, R257, R270): the channel opens, what is committed or held back is cancelled, and a
section's channel is shut out of it; the requests of its section stay, those of the host end. -/
def Dev.hostOffNow (d : Dev) (a : HostAct) : Dev :=
  let c := a.chan
  let now := d.tick
  let decided := (d.secOf c).isSome
  let held := (d.edsChan c).plan.filterMap (fun p => if p.booked then p.act else none)
  let d := d.modChan c (fun x => { x with fr := { x.fr with edges := x.fr.edges ++ [(now, false)] } })
  let d := d.lowSideOff c
  let d := d.modChan c (fun x =>
    let b := x.book.settle now [] x.book.held
    let runs := b.runs.filterMap (fun p =>
      if p.1 > now then (if decided then some p else none)
      else match p.2 with | some e => some (p.1, some (min e now)) | none => some (p.1, some now))
    let marks := b.marks.filter (fun m => m.1 ≤ now)
    { x with
      queue := [], next := [], commanded := false, sortEdge := none, runEnd := none, lossEnd := none
      book := { b with runs := runs, marks := if decided then marks ++ [(now, some .host)] else marks ++ [(now, none)] } })
  let d := d.modEdsChan c (fun e => { e with train := false, stop := none })
  let d := d.keepActs (fun b => !(b.chan = c && held.contains b.num))
  let d := match d.actTime a with
    | some t =>
      if t < now then
        let v := d.probeSpeed c d.pose.latchT
        d.add64 Reg.EDS_LATE_MM (groundOf (now - t) v 1)
      else d
    | none => d
  ((d.hostOffInhibits c).recOther pEDS [w32 a.tag] objIsChannel c).actDone a.tag a.notify

/-- A RELEASE that acts at once (R270, R271). -/
def Dev.releaseNow (d : Dev) (a : HostAct) : Dev := (d.setMapBit (Reg.EDS_INHIBIT 0) a.chan false).actDone a.tag a.notify

/-- An OFF or RELEASE that does not wait for a frame (R271): REF NOW, or a time within the minimum lead. -/
def Dev.actsNow (d : Dev) (a : HostAct) : Bool :=
  (a.kind = haOFF || a.kind = haRELEASE) &&
    (a.ref = refNOW || (match d.actTime a with | some t => t < d.tick + d.tf / 4 + 100 * tUs | none => false))

/-- Take the staged entry (R269, R271). -/
def Dev.pushAct (d : Dev) : Dev :=
  let a := d.stagedAct
  let d := d.wrN Reg.EDS_ACT_RESULT (a.tag * 2 ^ 16)
  if d.actsNow a then (if a.kind = haOFF then d.hostOffNow a else d.releaseNow a)
  else
    let a := { a with t := d.actTime a }
    ({ d with eds := { d.eds with acts := d.eds.acts ++ [a], nextAct := d.eds.nextAct + 1 } }).actsShow

/-- Refuse the staged entry with a code (R269). -/
def Dev.refuseAct (d : Dev) (code : Nat) : Dev :=
  ((d.inc Reg.EDS_ACT_REF_CNT).wrN Reg.EDS_ACT_RESULT (d.stagedAct.tag * 2 ^ 16 + code)).irq pEDS 17

/-- ACT_PUSH (R269). -/
def actPush : Act := fun s =>
  match s.dev.actCode s.dev.stagedAct with
  | 0 => (.ok, onDev Dev.pushAct s)
  | 1 => (.len, onDev (fun d => (d.refuseAct 1).lenReject pEDS) s)
  | n => (.ok, onDev (·.refuseAct n) s)

/-- The staged entry is of a kind. -/
def Dev.stagedKind (d : Dev) : Nat := d.stagedAct.kind

/-- The four kinds of an action (R268): the write of ACT_PUSH with an entry of that kind staged. -/
def execActionOn (req : Requester) (s : State) : Host.Outcome State Fault Refusal :=
  .next (if s.dev.stagedKind = haON then hostCmd req Reg.EDS_ACT_PUSH 1#32 actPush s else s)
def execActionOff (req : Requester) (s : State) : Host.Outcome State Fault Refusal :=
  .next (if s.dev.stagedKind = haOFF then hostCmd req Reg.EDS_ACT_PUSH 1#32 actPush s else s)
def execActionRate (req : Requester) (s : State) : Host.Outcome State Fault Refusal :=
  .next (if s.dev.stagedKind = haRATE then hostCmd req Reg.EDS_ACT_PUSH 1#32 actPush s else s)
def execActionRelease (req : Requester) (s : State) : Host.Outcome State Fault Refusal :=
  .next (if s.dev.stagedKind = haRELEASE then hostCmd req Reg.EDS_ACT_PUSH 1#32 actPush s else s)

/-- ACT_CANCEL (R272). -/
def actActCancel (v : W32) : Act := actDev (·.keepActs (fun a => a.tag ≠ v.toNat % 65536))
def execActionCancel (req : Requester) (tag : Nat) (s : State) : Host.Outcome State Fault Refusal :=
  .next (hostCmd req Reg.EDS_ACT_CANCEL (w32 tag) (actActCancel (w32 tag)) s)

/-- POSITION_EXPIRY (R271): the oldest pending POSITION entry, POS_TTL after its push. -/
def execPositionExpiry (s : State) : Host.Outcome State Fault Refusal :=
  .next (onDev (fun d =>
    match d.eds.acts.find? (fun a => a.ref = refPOSITION) with
    | none => d
    | some a =>
      let d := d.toTbm (a.pushed + d.rdN Reg.EDS_POS_TTL * 1000000000)
      ((d.keepActs (fun b => b.num ≠ a.num)).inc Reg.EDS_ACT_EXPIRED).recOther pEDS [w32 a.tag] objIsChannel a.chan) s)

end Sys2Proof.Machine
end

