-- ==== Sys2Proof/Machine/Bwk.lean ====
section
/-! DEFINITION. The admission stage of a frame (chapter 13) and the commit of its edges to the tiles (R5, R8, R301). -/

namespace Sys2Proof.Machine

/-! Admission -/

/-- The turn of the frame in ticks. -/
def Dev.turnTick (d : Dev) : Nat := d.rd64 Reg.FRM_TURN_TBS / 4

/-- Starts that a channel has committed, has made since the turn or has running, and the OFF of one that was on at the turn (R15). -/
def Dev.standing (d : Dev) (c : Nat) (x : Chan) : List Start × List (Nat × Nat) :=
  let q := x.queue ++ x.next
  let turn := d.turnTick
  let done := x.fr.edges.filter (fun (p : Nat × Bool) => turn < p.1)
  let offs := (done.filter (fun (p : Nat × Bool) => !p.2)).map (fun (p : Nat × Bool) => p.1) ++ (q.filter (fun e => !e.on && e.kind ≠ .release)).map (·.t)
  let firstOff (t : Nat) : Option Nat := offs.find? (fun o => t < o)
  let past := ((done.filter (fun (p : Nat × Bool) => p.2)).filter (fun p => p.1 ≠ x.tOn || !phaseOn x.phase)).map (fun p =>
    (⟨c, p.1, d.profiled c && d.boostEn c, firstOff p.1⟩ : Start))
  let ss := (q.filter (·.on)).map (fun e =>
    (⟨c, e.t, d.profiled c && d.boostEn c && !e.degraded, match e.dur with | some n => some (e.t + n) | none => firstOff e.t⟩ : Start))
  let run : List Start := if phaseOn x.phase then [⟨c, x.tOn, x.boost, if turn < x.tOn then firstOff x.tOn else none⟩] else []
  let wasOn := match done with | (_, on) :: _ => !on | [] => phaseOn x.phase
  (past ++ run ++ ss, if wasOn then ((offs.head?.map (fun t => (c, t))).toList) else [])

/-- The admission's starting point (R15, R341): what is committed, and the OFFs of the window. -/
def Dev.admission0 (d : Dev) : Admission :=
  d.edgeChans.foldl (fun (a : Admission) c =>
    let x := d.chan c
    let st := d.standing c x
    let offs := if phaseOn x.phase ∧ st.2 = [] then
        (((d.edsChan c).plan.filter (fun p => p.live && !p.on && p.kind ≠ .release && p.t < d.eds.winTo)).head?.map
          (fun p => (c, max p.t d.eds.winFrom))).toList
      else st.2
    { starts := a.starts ++ st.1, offs := a.offs ++ offs }) { starts := [], offs := [] }

/-- An ON that Breakwater judges in this frame (R341): its start lies before the end of the window. -/
def Dev.isCandidate (d : Dev) (c : Nat) (p : Plan) : Bool :=
  p.live && p.on && p.kind ≠ .release && p.t + p.spent < d.eds.winTo && !(d.inhibited c && p.kind ≠ .host) &&
    !d.eds.acts.any (fun a => a.kind = haRATE && p.act = some a.num)

/-- Candidates in the order of R341: deadline, ideal time, channel. -/
def before (a b : Nat × Nat × Plan) : Bool :=
  let x := a.2.2.t + a.2.2.late
  let y := b.2.2.t + b.2.2.late
  x < y || (x = y && (a.2.2.t < b.2.2.t || (a.2.2.t = b.2.2.t && a.1 < b.1)))
def candInsert (x : Nat × Nat × Plan) : List (Nat × Nat × Plan) → List (Nat × Nat × Plan)
  | [] => [x]
  | y :: r => if before x y then x :: y :: r else y :: candInsert x r
def Dev.candidates (d : Dev) : List (Nat × Nat × Plan) :=
  (d.edgeChans.flatMap (fun c => ((d.edsChan c).plan.zipIdx.filter (fun q => d.isCandidate c q.1)).map (fun q => (c, q.2, q.1)))).foldl
    (fun l x => candInsert x l) []

/-- Where the run of an edge ends, as far as its channel's list knows. -/
def offAfter (l : List Plan) (i : Nat) : Option Nat :=
  ((l.drop (i + 1)).find? (fun p => p.live && !p.on && p.kind ≠ .release)).map (·.t)

/-- Judge one candidate and, where it is placed, let the admission hold it. -/
def Dev.admitOne (d : Dev) (turn : Nat) (a : Admission) (x : Nat × Nat × Plan) : Dev × Admission :=
  let c := x.1
  let p := x.2.2
  let e := d.edsChan c
  let off := offAfter e.plan x.2.1
  let runsOn := if p.later then (p.dur.isNone && phaseOn (d.chan c).phase && (d.chan c).queue.isEmpty) else d.stateAfter c
  let r : PlanOut × Option Forced :=
    if d.thermalRefused c then (⟨2, p.t + p.spent, p.charge, .thermal, false, none⟩, none)
    else if runsOn then (⟨0, p.t + p.spent, p.charge, .budget, false, none⟩, none)
    else d.place a turn c p off
  let d := d.setEdsChan c { e with plan := modAt e.plan x.2.1 (fun p => { p with out := some r.1 }) }
  let d := match r.2 with
    | some .rail => d.setStat pBWK 16 true
    | some .supply => d.setStat pBWK 17 true
    | _ => d
  if r.1.verdict = 0 ∧ !runsOn then
    let boost := d.profiled c && d.boostEn c && !r.1.degraded
    (d, { a with starts := a.starts ++ [⟨c, r.1.start, boost, match p.dur with | some n => some (r.1.start + n) | none => off⟩] })
  else (d, a)

/-- Breakwater's admission of a frame (R341). -/
def Dev.admitFrame (d : Dev) : Dev :=
  let turn := d.turnTick
  let d := (d.setStat pBWK 16 false).setStat pBWK 17 false
  let r := d.candidates.foldl (fun (q : Dev × Admission) x => q.1.admitOne turn q.2 x) (d, d.admission0)
  let d := r.1
  let ls := d.allLoads turn r.2
  let slots := (ls.map (fun l => slotOf turn l.from_)).foldl setInsert [0]
  d.peak Reg.BWK_SUP_PROJ_MAX ((slots.map (fun i => d.slotMA turn ls i)).foldl max 0 / 100).toNat

/-- BREAKWATER_ADMISSION (R5, R341): `cycles` from the turn to its completion. -/
def execBreakwaterAdmission (cycles : Nat) (s : State) : Host.Outcome State Fault Refusal :=
  .next (onDev (fun d => if d.frm.turned && d.frm.stage = 2 then d.admitFrame.stageEnds 3 cycles else d) s)

/-! Commit -/

/-- The run's own end for a host ON with DUR (R268). -/
def Dev.actOf (d : Dev) (p : Plan) : Option HostAct := p.act.bind (fun n => d.eds.acts.find? (fun a => a.num = n))

/-- Take a committed or settled entry out of the queue of pending ones. -/
def Dev.takeAct (d : Dev) (p : Plan) : Dev :=
  match p.act with
  | some n => d.keepActs (fun a => a.num ≠ n)
  | none => d

/-- The request of an ON begins at its own ideal time, or at this turn where that has passed (R350, R351). A pulse requests its length, in
a continuous run the run's whole time; a run without an end goes on until its OFF; a host's run ends with its DUR, and so do its pulses. -/
def Dev.bookRequest (d : Dev) (c : Nat) (p : Plan) : Dev :=
  if p.booked || !d.profiled c then d
  else
    let from_ := max p.req d.turnTick
    let cap (t : Nat) : Nat := match (d.edsChan c).stop with | some s => if p.later then min t s else t | none => t
    let stop := match decide (d.mode c = mPWMNOZ), p.dur, (d.actOf p).bind (·.dur) with
      | true, some n, _ => some (cap (p.req + n))
      | _, _, some n => some (p.req + n)
      | _, _, none => if p.later then (d.edsChan c).stop else none
    d.modChan c (fun x =>
      if p.later && p.dur.isNone && x.book.runs.any (fun (r : Nat × Option Nat) => r.1 ≤ from_ && r.2.any (from_ < ·)) then x
      else
        let b := x.book.request from_
        { x with book := match stop with | some t => b.release t | none => b })

/-- The request of an edge that is booked follows its ideal time (R9): from this turn on it counts from there, with the account that held
at its beginning. -/
def Book.moveRequest (b : Book) (old new : Nat) (dur : Option Nat) : Book :=
  let runs := b.runs.map (fun (r : Nat × Option Nat) =>
    if r.1 = old then (new, match dur, r.2 with | some _, some e => some (e + new - old) | _, e => e) else r)
  { b with runs := runs, marks := b.marks ++ [(new, b.accountAt old)] }

/-- An edge of the list whose ideal time has moved since its request was booked. -/
def Dev.rebook (d : Dev) (c : Nat) (p : Plan) : Dev :=
  let turn := d.turnTick
  if p.booked && p.was ≠ p.req && p.kind ≠ .pulse then
    d.modChan c (fun x => { x with book := x.book.moveRequest (max p.was turn) (max p.req turn) p.dur })
  else d

/-- Put an edge into the set that the next turn swaps in (R24, R251). -/
def Dev.commitEdge (d : Dev) (c : Nat) (e : Edge) : Dev :=
  let d := d.modChan c (fun x => { x with next := insertEdge x.next e })
  if e.kind = .release then d else d.inc Reg.EDS_EDGE_CNT

/-- Count a transition that a non-resident cell decided (R206). -/
def Dev.countMiss (d : Dev) (p : Plan) : Dev := if p.miss then d.incSat Reg.MAP_WIN_MISS else d

/-- An OFF of the window (R254, R257, R271): at its ideal time, a late one at the window's start; the request ended at its own. -/
def Dev.commitOff (d : Dev) (c : Nat) (p : Plan) : Dev :=
  let t := max p.t d.eds.winFrom
  let d := d.commitEdge c { t := t, on := false, kind := (if p.kind = .host then .host else .sde), ideal := p.req, tag := p.tag, notify := p.notify }
  let d := if d.profiled c then d.modChan c (fun x => { x with book := x.book.release p.req }) else d
  let d := if p.lateBy > 0 then d.add64 Reg.EDS_LATE_MM (groundOf p.lateBy p.vp 1) else d
  let d := d.modEdsChan c (fun e => { e with
    train := false, ghost := false, stop := none, last := if p.kind = .host then e.last else some (t, false) })
  (d.countMiss p).takeAct p

/-- The causes of a deferral in millimetres (R344). -/
def Dev.bookGround (d : Dev) (p : Plan) (parts : List (Account × Nat)) : Dev :=
  parts.foldl (fun d (x : Account × Nat) =>
    let n := groundOf x.2 p.vp 100
    match x.1 with
    | .budget => d.add64 Reg.BWK_SPENT_BUD n
    | .overlap => d.add64 Reg.BWK_SPENT_OVL n
    | .thermal => d.add64 Reg.BWK_SPENT_THM n
    | _ => d) d

/-- An ON that Breakwater placed (R342, R344). What the gap or lateness took is lost to lateness; each part of the deferral to its cause. -/
def Dev.commitOn (d : Dev) (c : Nat) (p : Plan) (o : PlanOut) : Dev :=
  let w0 := d.eds.winFrom
  let turn := d.turnTick
  let d := d.bookRequest c p
  let lost := if p.lateBy > 0 then p.t + p.lateBy else p.t
  let d := if d.profiled c then d.modChan c (fun x =>
      let b := if lost > p.req then (x.book.mark (max p.req turn) (some .late)).mark lost none else if p.booked then x.book else x.book.mark (max p.req turn) none
      { x with book := { b with moved := b.moved || (p.later && o.start > p.t) } })
    else d
  let parts := if p.later then [] else o.charge
  let shiftT : Nat := (o.charge.map (fun (q : Account × Nat) => q.2)).sum
  let run := (d.actOf p).bind (·.dur)
  let pwm := decide (d.mode c = mPWMNOZ)
  let e : Edge := {
    t := max o.start w0, on := true, kind := (if p.later then .pulse else if p.kind = .host then .host else .sde), ideal := p.req
    slack := (p.t + p.late - o.start) / tUs, rho := p.rho, shift := parts, degraded := o.degraded, late := p.lateBy > 0, tag := p.tag
    notify := p.notify, dur := if pwm then p.dur else run }
  let d := d.commitEdge c e
  let d := match pwm, run with
    | true, some n => d.commitEdge c { t := e.t + n, on := false, kind := .implied, ideal := p.req + n, tag := p.tag }
    | _, _ => d
  let clamped := pwm && (match d.pulseLength c p.rho with | some q => q.2 | none => false)
  let d := if clamped then d.inc (Reg.BK_CLAMP_CNT (c / 8)) else d
  let d := d.modChan c (fun x => { x with closed := false })
  let d := d.modEdsChan c (fun q => { q with
    last := if p.later || p.kind = .host then q.last else some (e.t, true)
    train := pwm || q.train, pulse := if pwm then (if p.lateBy > 0 then o.start else p.t) else q.pulse
    rho := if p.later then q.rho else p.rho, stop := if p.later then q.stop else (if pwm then run.map (e.t + ·) else none)
    dropped := false, ghost := false })
  let d := d.inc Reg.BWK_ADM_CNT
  let d := if shiftT > 0 ∧ !p.later then d.inc Reg.BWK_DEFER_CNT else d
  let d := if p.later then d.add64 Reg.BWK_SHIFT_MM (groundOf shiftT p.vp 100) else d.bookGround p parts
  let d := if o.degraded then d.inc Reg.BWK_DEGRADED_CNT else d
  (d.countMiss p).takeAct p

/-- The request of an ON that never executes. A pulse train that does not run stays asked for, pulse by pulse, until its OFF (R350, R353). -/
def Dev.requestLost (d : Dev) (c : Nat) (p : Plan) : Dev :=
  let e := d.edsChan c
  if d.mode c ≠ mPWMNOZ ∨ p.booked = true then d.bookRequest c p
  else if p.later then
    let d := d.bookRequest c p
    d.modEdsChan c (fun e => { e with pulse := p.t })
  else if p.corr && e.ghost then d
  else
    let run := (d.actOf p).bind (·.dur)
    let d := d.bookRequest c p
    let d := d.modChan c (fun x => { x with closed := false })
    d.modEdsChan c (fun e => { e with train := false, ghost := true, pulse := p.t, rho := p.rho, stop := run.map (p.req + ·) })

/-- An ON that Breakwater refused (R343, R344): its requested time goes to the cause as it elapses. -/
def Dev.commitRefused (d : Dev) (c : Nat) (p : Plan) (o : PlanOut) : Dev :=
  let d := d.requestLost c p
  let now := d.tick
  let d := if d.profiled c then d.modChan c (fun x => { x with book := (x.book.settle now o.charge o.why).mark (max p.req now) (some o.why) }) else d
  let d := match o.why with
    | .thermal => d.inc Reg.BWK_REF_THERMAL
    | .overlap => d.inc Reg.BWK_REF_OVERLAP
    | _ => d.inc Reg.BWK_REF_BUDGET
  ((d.irq pBWK 16).faultRec pBWK 16 [] objIsChannel c).takeAct p

/-- An ON that never executes: dropped for lateness, or its channel shut out (R258, R270). -/
def Dev.commitLost (d : Dev) (c : Nat) (p : Plan) (a : Account) : Dev :=
  let d := d.requestLost c p
  let at_ := max p.req d.turnTick
  let d := if d.profiled c ∧ p.booked = false then d.modChan c (fun x => { x with book := x.book.mark at_ (some a) }) else d
  d.takeAct p

/-- An ON that stays for a later window: where the gap moved it there from this one, its request begins and goes to lateness (R254, R350). -/
def Dev.commitMoved (d : Dev) (c : Nat) (p : Plan) : Dev × Option Plan :=
  if p.on && !p.booked && decide (p.req < d.eds.winTo) && decide (p.req < p.t) then
    let d := d.bookRequest c p
    let at_ := max p.req d.turnTick
    let d := if d.profiled c then d.modChan c (fun x => { x with book := x.book.mark at_ (some .late) }) else d
    (d, some { p with booked := true })
  else (d, some p)

/-- One edge of a channel's list at the commit, and what stays of it for the next frame. -/
def Dev.commitPlan (d : Dev) (c : Nat) (p : Plan) : Dev × Option Plan :=
  let w1 := d.eds.winTo
  let mine := p.act.isNone || (d.actOf p).isSome
  if !mine then (d, none)
  else if (d.actOf p).any (fun a => a.kind = haRATE) then
    if p.t < w1 then ((d.actDone p.tag p.notify).takeAct p, none) else (d, none)
  else if p.kind = .release then
    if p.t < w1 then
      ((d.commitEdge c { t := max p.t d.eds.winFrom, on := false, kind := .release, ideal := p.t, tag := p.tag, notify := p.notify }).takeAct p, none)
    else (d, none)
  else if p.dropped && p.later then (d.requestLost c p, none)
  else if p.dropped then
    if p.req < w1 ∧ p.booked = false then (d.commitLost c p .late, some { p with booked := true }) else (d, some p)
  else if !p.on then
    if p.t < w1 then (d.commitOff c p, none) else (d, some p)
  else if p.t < w1 ∧ d.inhibited c = true ∧ p.kind ≠ .host then
    (d.commitLost c p .host, some { p with booked := true, dropped := true })
  else match p.out with
    | none => d.commitMoved c p
    | some o =>
      if o.verdict = 0 then (d.commitOn c p o, none)
      else if o.verdict = 2 then (d.commitRefused c p o, some { p with booked := true, dropped := true })
      else
        let d := d.bookRequest c p
        let why := (o.charge.getLast?.map (·.1)).getD .budget
        let turn := d.turnTick
        let d := if d.profiled c then d.modChan c (fun x =>
            let from_ := p.t + p.lateBy
            let b := if !p.charge.isEmpty then x.book
              else if from_ > p.req then (x.book.mark (max p.req turn) (some .late)).mark from_ none
              else x.book.mark (max from_ turn) none
            { x with book := { b with held := why } }) else d
        let d := d.inc Reg.BWK_CARRY_CNT
        (d, some { p with booked := true, spent := o.start - p.t, charge := o.charge, forced := o.forced })

/-- What stays in a channel's list between frames: not its correctives, not what the host has had settled. -/
def Plan.stays (p : Plan) : Bool := !(p.corr && p.dropped) && !(p.kind = .host && p.dropped)

/-- The commit of one channel. -/
def Dev.commitChannel (d : Dev) (c : Nat) : Dev :=
  let l := (d.edsChan c).plan
  let r := l.foldl (fun (q : Dev × List Plan) p =>
    let x := (q.1.rebook c p).commitPlan c { p with was := p.req }
    (x.1, q.2 ++ x.2.toList)) (d, [])
  r.1.modEdsChan c (fun e => { e with plan := r.2.filter Plan.stays })

/-- A channel whose committed edges do not read back (R301): nothing of its commit stands. -/
def Dev.badReadback (d : Dev) (c : Nat) : Dev :=
  let t := c / 64
  if d.bit (Reg.FAULT_EN (pDT t)) 17 then
    let d := d.modChan c (fun x => { x with next := [] })
    ((d.inc (Reg.DT_RB_ERR t)).faultRec (pDT t) 17 [] objIsChannel c).chanFault c cREADBACK
  else d.inc (Reg.DT_RB_ERR t)

/-- Count the stages that were late (R80). -/
def Dev.countLate (d : Dev) : Dev :=
  let d := d.frm.lateStages.foldl (fun d i => d.inc (Reg.FRM_STAGE_LATE i)) d
  { d with frm := { d.frm with lateStages := [] } }

/-- The first commit that reaches the tiles after the strobe has returned ends the holds of the LOSS policy: a channel without an edge stays as
it was held (R326). -/
def Dev.holdsOver (d : Dev) : Dev :=
  if d.drv.holdsEnd then
    let d := d.busyChans.foldl (fun d c => d.modChan c (fun x => { x with lossEnd := none })) d
    { d with drv := { d.drv with holdsEnd := false } }
  else d

/-- EDGE_COMMIT (R5, R8): the frame's edges go to the tiles; a commit that is not complete by its bound is a frame overrun, of which
nothing stands (R76, R345). -/
def execEdgeCommit (cycles : Nat) (badReadback : List (Fin 512)) (s : State) : Host.Outcome State Fault Refusal :=
  .next (onDev (fun d =>
    if d.frm.turned && d.frm.stage = 3 then
      if cycles > stageBound d.tf 4 then d.stageEnds 4 cycles
      else
        let d := d.edgeChans.foldl (fun d c => d.commitChannel c) d
        let d := (badReadback.foldl (fun d c => d.badReadback c) d).holdsOver
        let d := (d.wr Reg.FRM_OVR_RUN 0#32).setStat 0x002 17 false
        let d := (d.stageEnds 4 cycles).countLate
        { d with frm := { d.frm with committed := true } }
    else d) s)

end Sys2Proof.Machine
end

