-- ==== Sys2Proof/Machine/Lat.lean ====
section
/-! DEFINITION. Latency learning (chapter 10): the measurement of an actuation, its acceptance, and the update at the turn. -/

namespace Sys2Proof.Machine

/-- The words of a direction: learned value, bounds in µs, nominal value in µs, signature offset in µs, and the LRN word. -/
def latAddr (off : Bool) (c : Nat) : Nat := if off then Reg.LAT_OFF c else Reg.LAT_ON c
def lrnAddr (off : Bool) (c : Nat) : Nat := if off then Reg.LRN_OFF c else Reg.LRN_ON c
def Dev.latBounds (d : Dev) (off : Bool) (c : Nat) : Nat × Nat :=
  let a := if off then Reg.LATT_OFF_BOUNDS c else Reg.LATT_ON_BOUNDS c
  (d.fld a 15 0 * 10, d.fld a 31 16 * 10)
def Dev.latNom (d : Dev) (off : Bool) (c : Nat) : Nat := (if off then d.fld (Reg.LATT_NOM c) 31 16 else d.fld (Reg.LATT_NOM c) 15 0) * 10
def Dev.sigOfs (d : Dev) (off : Bool) (c : Nat) : Int :=
  if off then fieldS (d.rd (Reg.LATT_SIG_OFS c)) 31 16 else fieldS (d.rd (Reg.LATT_SIG_OFS c)) 15 0

/-- Measurements of a channel are used (R260). -/
def Dev.learns (d : Dev) (c : Nat) : Bool := d.bit (Reg.LRN_ON c) 30 && !d.bit (Reg.CTRL pLAT) 16

/-- Reasons of LAST_REJ (R281). -/
def rjNONE : Nat := 0
def rjBOUNDS : Nat := 1
def rjDEGRADED : Nat := 2
def rjMERGED : Nat := 3
def rjSHORT : Nat := 4

/-- Judge a measurement of `m` µs, none where no signature was found (R260): its rejection, if any. -/
def Dev.rejects (d : Dev) (c : Nat) (off : Bool) (m : Option Int) : Option Nat :=
  let x := d.chan c
  let b := d.latBounds off c
  let short : Bool := off && (match x.tOff with | some t => decide (((t - x.tOn) * 4 : Nat) < latNs (d.rd (Reg.LAT_ON c))) | none => false)
  if x.degraded then some rjDEGRADED
  else if x.merged then some rjMERGED
  else if short then some rjSHORT
  else match m with
    | none => some rjNONE
    | some v => if v < b.1 ∨ (b.2 : Int) < v then some rjBOUNDS else none

/-- The bit of LRN_LOST (R262). -/
def Dev.setLost (d : Dev) (c : Nat) (v : Bool) : Dev :=
  let was := d.mapBit (Reg.LAT_LRN_LOST 0) c
  let d := d.setMapBit (Reg.LAT_LRN_LOST 0) c v
  if v && !was then d.irq pLAT 16 else d

/-- A rejected measurement (R260, R262). -/
def Dev.rejectMeas (d : Dev) (c : Nat) (off : Bool) (m : Option Int) (why : Nat) : Dev :=
  let a := lrnAddr off c
  let was := d.fld a 29 24
  let run := min 63 (was + 1)
  let most := d.rdN Reg.LAT_REJ_MAX
  let d := (d.setBit a 31 false).setFld a 29 24 run
  let d := match m with | some v => d.setFld a 19 0 (clampI 0 1048575 v).toNat | none => d
  let d := (d.inc Reg.LAT_MEAS_REJ).wrN Reg.LAT_LAST_REJ (why * 2 ^ 13 + (if off then 2 ^ 12 else 0) + c)
  if most ≤ run ∧ (was < most ∨ d.mapBit (Reg.LAT_LRN_LOST 0) c = false) then (d.setLost c true).faultRec pLAT 16 [] objIsChannel c else d

/-- An accepted measurement (R261, R262); it waits for the turn (R14). -/
def Dev.acceptMeas (d : Dev) (c : Nat) (off : Bool) (m : Nat) : Dev :=
  let a := lrnAddr off c
  let d := ((d.setBit a 31 true).setFld a 29 24 0).setFld a 19 0 m
  let other := d.fld (lrnAddr (!off) c) 29 24
  let lost := decide (other ≥ d.rdN Reg.LAT_REJ_MAX)
  let d := if lost then d else d.setLost c false
  (d.inc Reg.LAT_MEAS_ACC).modChan c (fun x => { x with latUpd := x.latUpd ++ [(off, m)] })

/-- LATENCY_SIGNATURE (R259): the signature's time after the executed edge, none where the window held none. -/
def execLatencySignature (c : Fin 512) (closing : Bool) (sigNs : Option Nat) (s : State) : Host.Outcome State Fault Refusal :=
  .next (onDev (fun d =>
    let x := d.chan c
    let due := if closing then !x.sigOffDone && x.tOff.isSome else !x.sigOnDone
    if d.profiled c && due then
      let tx := if closing then x.tOff.getD 0 else x.tOn
      let d := match sigNs with | some n => d.toTick (tx + n / 4) | none => d
      let m : Option Int := sigNs.map (fun n => ((n + 500) / 1000 : Nat) + d.sigOfs closing c)
      let d := d.modChan c (fun x => if closing then { x with sigOffDone := true } else { x with sigOnDone := true })
      if d.learns c then
        match d.rejects c closing m, m with
        | none, some v => d.acceptMeas c closing v.toNat
        | some w, _ => d.rejectMeas c closing m w
        | none, none => d
      else d
    else d) s)

/-- LATENCY_TABLE_ECC_ERROR (R362): the entry is reloaded at the next turn. -/
def execLatencyTableEccError (c : Fin 512) (s : State) : Host.Outcome State Fault Refusal :=
  .next (onDev (fun d =>
    ((d.modChan c (fun x => { x with latReload := true })).setLost c true).faultRec pLAT fECC [] objIsChannel c) s)

/-! The turn (R14, R261, R264) -/

/-- A learned value in 1/16 µs moved by one measurement in µs. -/
def latStep (l m : Nat) : Nat := (l * 16 + m * 16 - l + 8) / 16

/-- A learned value set to the nearer bound where it lies outside (R261). -/
def Dev.latClamp (d : Dev) (off : Bool) (c : Nat) : Dev :=
  let b := d.latBounds off c
  let l := d.fld (latAddr off c) 23 0
  let v := max (b.1 * 16) (min (b.2 * 16) l)
  if v = l then d else (d.wrBoth (latAddr off c) (w32 v)).recOther pLAT [w32 l, w32 v] objIsChannel c

/-- What a turn writes into one entry: the reload from NOM, or the accepted measurements of a direction that no commit of this turn
preset. -/
def Dev.latTurnChan (d : Dev) (c : Nat) (preset : Nat → Bool) : Dev :=
  let x := d.chan c
  if x.latUpd.isEmpty && !x.latReload then d
  else
    let d := d.modChan c (fun x => { x with latUpd := [], latReload := false })
    if x.latReload then
      (d.wrBoth (Reg.LAT_ON c) (w32 (d.latNom false c * 16))).wrBoth (Reg.LAT_OFF c) (w32 (d.latNom true c * 16))
    else
      x.latUpd.foldl (fun d (u : Bool × Nat) =>
        let a := latAddr u.1 c
        if preset a then d else d.wrBoth a (w32 (latStep (d.fld a 23 0) u.2))) d

/-- The turn of the table: `words` are the addresses that commits of this turn made active. -/
def Dev.latTurn (d : Dev) (words : List Nat) : Dev :=
  let preset (a : Nat) : Bool := words.contains a
  let d := d.busyChans.foldl (fun d c => d.latTurnChan c preset) d
  let touched := ((words.filter (fun a => 0x01010000 ≤ a && a < 0x01014000)).map (fun a => (a - 0x01010000) / 32)).foldl setInsert []
  touched.foldl (fun d c => (d.latClamp false c).latClamp true c) d

end Sys2Proof.Machine
end

