-- ==== Sys2Proof/Machine/Diag.lean ====
section
/-! DEFINITION. The diagnostic collector (chapter 10, R306): the summaries of a frame and the host's stream of them. -/

namespace Sys2Proof.Machine

def pDIAG : Nat := 0x026

/-- The state of a channel in its summary (R274). -/
def sumState (phase : Nat) : Nat :=
  if phase = phBOOST then 1 else if phase = phPEAK then 2 else if phase = phHOLD then 3 else if phase = phSWITCHED then 4
  else if phase = phFAULT then 5 else 0

/-- Ticks of an interval, open where it still runs, that lie between two ticks. -/
def clipLen (t0 t1 : Nat) (iv : Nat × Option Nat) : Nat :=
  let a := max iv.1 t0
  let b := min (iv.2.getD t1) t1
  b - a

/-- Ticks delivered between two ticks (R351). -/
def Book.delivered (b : Book) (t0 t1 : Nat) : Nat := (b.dels.map (clipLen t0 t1)).sum

/-- The edges of a summary's words 2 to 5. -/
def edgeHalf (t0 : Nat) (e : Nat × Bool) : Nat := (if e.2 then 2 ^ 15 else 0) + min 32767 ((e.1 - t0) * 8 / 125)
def edgeWord (t0 : Nat) (es : List (Nat × Bool)) (i : Nat) : W32 :=
  let h (k : Nat) : Nat := match es[k]? with | some e => edgeHalf t0 e | none => 0
  w32 (h (2 * i + 1) * 2 ^ 16 + h (2 * i))

/-- The summary of a channel for the frame from tick `t0` to `t1` (R274). -/
def chanSummary (c : Nat) (x : Chan) (t0 t1 : Nat) : List W32 :=
  let acc (off : Bool) : Option Nat := (x.latUpd.filter (fun u => u.1 = off)).getLast?.map (·.2)
  let flag (b : Bool) (n : Nat) : Nat := if b then n else 0
  [w32 (c * 2 ^ 16 + min 7 x.fr.edges.length * 2 ^ 8 + flag (acc false).isSome 128 + flag (acc true).isSome 64 + flag (x.phase = phFAULT) 32
      + flag (x.fr.flags.testBit 4) 16 + flag (x.fr.flags.testBit 5) 8 + sumState x.phase),
   w32 (x.book.delivered t0 t1 * 128 / 125)]
  ++ (List.range 4).map (edgeWord t0 x.fr.edges)
  ++ [w32 ((acc false).getD 0), w32 ((acc true).getD 0)]

/-- A bitmap of a flag over a bank's channels. -/
def Dev.flagMap (d : Dev) (b bit : Nat) : Nat :=
  (List.range 8).foldl (fun a i => if (d.chan (8 * b + i)).fr.flags.testBit bit then a + 2 ^ i else a) 0

/-- The summary of a bank (R306). -/
def Dev.bankSummary (d : Dev) (b : Nat) (q : BankSense) : List W32 :=
  let x := d.bank b
  let flag (v : Bool) (n : Nat) : Nat := if v then n else 0
  [w32 (2 ^ 30 + b * 2 ^ 16 + min 255 x.boosts * 2 ^ 8 + flag x.fault 128 + flag x.notReady 64 + flag x.sorted 32),
   w32 x.energy,
   w32 (min 65535 q.sumMA * 2 ^ 16 + min 65535 q.meanMA),
   w32 (min 65535 x.waitMax * 2 ^ 16 + min 65535 (max x.peakMA q.meanMA)),
   w32 (min 255 x.drops * 2 ^ 16 + min 255 x.degs * 2 ^ 8 + min 255 x.waits),
   w32 (d.flagMap b 0 * 2 ^ 24 + d.flagMap b 1 * 2 ^ 16 + d.flagMap b 2 * 2 ^ 8 + d.flagMap b 3),
   w32 (min 65535 x.boostUs), 0]

/-- What a summary that is not listed reads: the channel's, or from 512 on the bank's, with nothing in it. -/
def idleSummary (i : Nat) : List W32 := w32 (if i < 512 then i * 2 ^ 16 else 2 ^ 30 + (i - 512) * 2 ^ 16) :: List.replicate 7 0#32

/-- The summaries of a frame by number: channels, and from 512 on banks. -/
def Dev.summaries (d : Dev) (t0 t1 : Nat) (qs : List (Fin 64 × BankSense)) : SMap (List W32) :=
  let m := d.drv.ch.foldl (fun m p => sset idleSummary m p.1 (chanSummary p.1 p.2 t0 t1)) []
  allBanks.foldl (fun m b =>
    let q := ((qs.find? (fun (x : Fin 64 × BankSense) => x.1.val = b)).map (·.2)).getD {}
    sset idleSummary m (512 + b) (d.bankSummary b q)) m

/-- FILTER takes a summary (R283): bits any, fault, measurement, late ON. -/
def filterTakes (f i : Nat) (ws : List W32) : Bool :=
  let w := ws.headD 0#32
  f.testBit 0 || (f.testBit 1 && (if i < 512 then bitOf w 5 else bitOf w 7))
    || (i < 512 && ((f.testBit 2 && (bitOf w 7 || bitOf w 6)) || (f.testBit 3 && bitOf w 3)))

/-- Summaries that the host has not read. -/
def Dev.diagLevel (d : Dev) : Nat := (d.dia.host.map List.length).sum - d.dia.pos / 8

/-- Skip whole frames of the host's stream until `n` more summaries fit (R275): what is left, the words read of its first frame, and how
many were skipped. -/
def skipFrames (n pos skipped : Nat) : List (List (List W32)) → List (List (List W32)) × Nat × Nat
  | [] => ([], 0, skipped)
  | f :: r =>
    if f.length - pos / 8 + (r.map List.length).sum + n > 1024 then skipFrames n 0 (skipped + (f.length - pos / 8)) r
    else (f :: r, pos, skipped)

/-- Show the level; AVAIL is set as it reaches THR (R282). -/
def Dev.diagShow (d : Dev) : Dev :=
  let was := d.rdN Reg.DIAG_DIAG_LEVEL
  let thr := d.fld Reg.DIAG_DIAG_CTRL 25 16
  let now := d.diagLevel
  let d := d.wrN Reg.DIAG_DIAG_LEVEL now
  if was < thr ∧ thr ≤ now then d.irq pDIAG 16 else d

/-- LAST_SUM of DIAG_SEL (R282). -/
def Dev.showLastSum (d : Dev) : Dev :=
  let i := d.fld Reg.DIAG_DIAG_SEL 9 0
  let ws := if i < 576 then sget idleSummary d.dia.sums i else []
  (List.range 8).foldl (fun d k => d.wr (Reg.DIAG_LAST_SUM k) (ws.getD k 0#32)) d

/-- The intake of a turn (R273, R275): one summary a cycle, and the host's copy of those it wants. -/
def Dev.diagTurn (d : Dev) (t0 t1 : Nat) (qs : List (Fin 64 × BankSense)) : Dev :=
  let m := d.summaries t0 t1 qs
  let d := { d with dia := { d.dia with sums := m } }
  let d := d.peak Reg.DIAG_INTAKE_PEAK 5760
  let d :=
    if d.bit Reg.DIAG_DIAG_CTRL 0 then
      let f := d.fld Reg.DIAG_DIAG_CTRL 7 4
      let new := (List.range 576).filterMap (fun i => let ws := sget idleSummary m i; if filterTakes f i ws then some ws else none)
      let r := skipFrames new.length d.dia.pos 0 d.dia.host
      let d := { d with dia := { d.dia with host := if new.isEmpty then r.1 else r.1 ++ [new], pos := r.2.1 } }
      if r.2.2 > 0 then (d.addSat Reg.DIAG_HOST_DROP r.2.2).fault pDIAG 16 else d
    else d
  d.diagShow.showLastSum

/-- Words of the stream taken off its front. -/
def takeStream : Nat → Nat → List (List (List W32)) → List (List (List W32)) × Nat
  | n, pos, f :: r => if n + pos ≥ 8 * f.length then takeStream (n + pos - 8 * f.length) 0 r else (f :: r, n + pos)
  | _, _, [] => ([], 0)

/-- DIAG_PORT (R275). -/
def portDiag : PortAct := portDev (fun n d =>
  if d.bit Reg.DIAG_DIAG_CTRL 0 then
    let ws := ((d.dia.host.flatMap (fun f => f.flatMap id)).drop d.dia.pos)
    let got := takeWords n ws
    let r := takeStream got.length d.dia.pos d.dia.host
    (got, ({ d with dia := { d.dia with host := r.1, pos := r.2 } }).diagShow)
  else ([], d))

/-- DIAG_STREAM_READ (R275). -/
def execDiagStreamRead (req : Requester) (words : Nat) (s : State) : Host.Outcome State Fault Refusal :=
  .next (hostPort req Reg.DIAG_DIAG_PORT words portDiag s)

end Sys2Proof.Machine
end

