-- ==== Sys2Proof/Machine/Checks.lean ====
section
/-! DEFINITION. The checks that a commit passes at its turn (R26): ranges, the cross-field checks of each page and table entry, the
objects that are configured whole or not at all (R541), the fit check (R75) and the capacity check of the loop engine (R370). The
verification of an image applies the same checks to its fields (R114). -/

namespace Sys2Proof.Machine

/-- What a commit would make: the active copies and the configured objects after it, and the words its page writes; the words of all
the commits that take effect with it, and the objects configured but for those words. -/
structure Cand where
  get : Nat → W32
  conf : Nat → Bool
  words : List Nat
  all : List Nat := []
  had : Nat → Bool := fun _ => true

def Cand.num (c : Cand) (a : Nat) : Nat := (c.get a).toNat
def Cand.fld (c : Cand) (a hi lo : Nat) : Nat := field (c.get a) hi lo
def Cand.mode (c : Cand) (ch : Nat) : Nat := c.fld (Reg.CH_CFG ch) 2 0

/-! Objects (R541) -/

/-- The object that a word whose Reset reads "IDI" belongs to. A channel's thermal words, which an image may leave out for a channel of
mode OFF (R540), are counted apart from its others. The POSE fields have values before an image (R135) and belong to none. -/
def objOf (a : Nat) : Option Nat :=
  if 0x01000000 ≤ a ∧ a < 0x01008000 then
    (if a % 64 < 0x1C then some (objChan ((a - 0x01000000) / 64))
     else if a % 64 ≤ 0x28 then some (objTherm ((a - 0x01000000) / 64)) else none)
  else if 0x01008000 ≤ a ∧ a < 0x01010000 then (if a % 256 ≤ 0x84 then some (objLoop ((a - 0x01008000) / 256)) else none)
  else if 0x01010000 ≤ a ∧ a < 0x01014000 then
    (if 0x08 ≤ a % 32 ∧ a % 32 ≤ 0x14 then some (objLat ((a - 0x01010000) / 32)) else none)
  else if 0x01014000 ≤ a ∧ a < 0x01018000 then (if a % 32 ≤ 0x14 then some (objSec ((a - 0x01014000) / 32)) else none)
  else if 0x38000 ≤ a ∧ a < 0x78000 then (if a % 0x1000 = 0x100 ∨ a % 0x1000 = 0x104 then some (objBank (a / 0x1000 - 0x38)) else none)
  else if 0x78100 ≤ a ∧ a < 0x78140 then (if a % 16 = 0 ∨ a % 16 = 4 then some (objRail ((a - 0x78100) / 16)) else none)
  else if a / 0x1000 = 0xA1 ∨ a / 0x1000 = 0xA2 then
    (if 0x400 ≤ a % 0x1000 ∧ a % 0x1000 < 0x480 then some (objCtx (8 * (a / 0x1000 - 0xA1) + (a % 0x1000 - 0x400) / 16)) else none)
  else if [Reg.HOST_HOSTLOST_POLICY, Reg.HOST_CONTINUE_MAX, Reg.EDS_DEC_LATE, Reg.BWK_I_SUP_MAX, Reg.BWK_T_DERATE, Reg.BWK_T_REFUSE,
      Reg.BWK_T_CUT, Reg.BWK_HOLD_FLOOR, Reg.MAP_RX_UNIT, Reg.MAP_NOM_RATE 0, Reg.MAP_NOM_RATE 1, Reg.MAP_NOM_RATE 2,
      Reg.MAP_NOM_RATE 3].contains a then some objLimits
  else none

/-- The words of an object whose Reset reads "IDI". -/
def objWords (o : Nat) : List Nat :=
  if o < 1000 then (List.range 7).map (fun i => Reg.CH_CFG o + 4 * i)
  else if o < 2000 then (List.range 6).map (fun i => 0x01014000 + 32 * (o - 1000) + 4 * i)
  else if o < 3000 then (List.range 34).map (fun i => Reg.LP_CTRL (o - 2000) + 4 * i)
  else if o < 4000 then [Reg.BK_OVL_OUTCOME (o - 3000), Reg.BK_BK_TRIP (o - 3000)]
  else if o < 5000 then [Reg.VB_VSET (o - 4000), Reg.VB_RAIL_CTRL (o - 4000)]
  else if o < 6000 then (List.range 4).map (fun i => 0x01010008 + 32 * (o - 5000) + 4 * i)
  else if o < 7000 then (List.range 4).map (fun i => 0xA1400 + 0x1000 * ((o - 6000) / 8) + 16 * ((o - 6000) % 8) + 4 * i)
  else if o < 9000 then (List.range 4).map (fun i => Reg.CH_RREF (o - 7000) + 4 * i)
  else [Reg.HOST_HOSTLOST_POLICY, Reg.HOST_CONTINUE_MAX, Reg.EDS_DEC_LATE, Reg.BWK_I_SUP_MAX, Reg.BWK_T_DERATE, Reg.BWK_T_REFUSE,
    Reg.BWK_T_CUT, Reg.BWK_HOLD_FLOOR, Reg.MAP_RX_UNIT, Reg.MAP_NOM_RATE 0, Reg.MAP_NOM_RATE 1, Reg.MAP_NOM_RATE 2, Reg.MAP_NOM_RATE 3]

/-- The two halves of a channel are one object of R541. -/
def objHalf (o : Nat) : Option Nat :=
  if o < 1000 then some (objTherm o) else if 7000 ≤ o ∧ o < 9000 then some (o - 7000) else none

/-- A commit that gives a value to an unconfigured object gives all of its unconfigured words their values (R541). -/
def Cand.whole (c : Cand) (o : Nat) : Bool :=
  let given (o : Nat) : Bool := c.had o || (objWords o).all c.all.contains
  c.had o || (given o && (objHalf o).all given)

/-- The objects that words give values to, each once, in rising order. -/
def objsOf (ws : List Nat) : List Nat := (ws.filterMap objOf).foldl setInsert []

/-! Ranges -/

/-- A word lies in its ranges (R26, R36); an unconfigured field is exempt (R541). -/
def Cand.rangeOk (c : Cand) (a : Nat) : Bool :=
  let exempt := match objOf a with
    | some o => !c.conf o
    | none => false
  exempt || (match findReg a with
    | none => true
    | some h => h.row.wide || h.row.checks.all (Machine.rangeOk (c.get a)))

/-! Channels and banks (R285, R304, R305, R324, R334) -/

/-- T_F of the configuration in ns (R74). -/
def Cand.tf (c : Cand) : Nat := frameNs (c.num Reg.FRM_TF_SEL)

/-- The fields of a channel descriptor that its own mode gives a range (R305, R324). -/
def Cand.modeparOk (c : Cand) (ch : Nat) : Bool :=
  let a := Reg.CH_MODEPAR ch
  let m := c.mode ch
  let pm := c.fld (Reg.CH_LIMITS ch) 31 16
  let mo := c.fld (Reg.CH_LIMITS ch) 15 0
  let within (x lo hi : Nat) : Bool := decide (lo ≤ x) && decide (x ≤ hi)
  (if m = mPWMNOZ then within (c.fld a 15 8) 50 100 && within (c.fld a 7 0) 5 100 && within pm 200 20000 else pm = 0)
  && (m ≠ mMETER || within (c.fld a 7 0) 10 200)
  && (m ≠ mSWITCH || (c.fld a 23 16 ≤ 25 && c.fld a 15 8 ≤ 50 && within (c.fld a 7 0) 1 240))
  && (mo ≠ 0 || !(m = mVALVE || m = mPWMNOZ))

/-- A section number, or NONE; a layer, or NONE (R226, R194). -/
def secOk (n : Nat) : Bool := n ≤ 511 || n = 0x3FF
def layerOk (n : Nat) : Bool := n ≤ 3 || n = 7

/-- The thermal time constants of a modelled channel are at least 20 frames (R334): K/W in 1/256 times 0.01 J/K. -/
def Cand.thermOk (c : Cand) (ch : Nat) : Bool :=
  let r := Reg.CH_TH_R ch
  let q := Reg.CH_TH_C ch
  let slow (rth cth : Nat) : Bool := decide (rth * cth * 1000000000 ≥ 20 * c.tf * 25600)
  c.fld q 15 0 = 0 || (slow (c.fld r 15 0) (c.fld q 15 0) && slow (c.fld r 31 16) (c.fld q 31 16))

/-- The fields of a configured channel lie in their ranges (R305). -/
def Cand.chanRangeOk (c : Cand) (ch : Nat) : Bool :=
  let g := Reg.CH_CFG ch
  !c.conf (objChan ch) ||
  (secOk (c.fld g 31 22) && secOk (c.fld g 21 12) && layerOk (c.fld g 10 8)
    && (!bitOf (c.get g) 3 || c.mode ch = mVALVE || c.mode ch = mPWMNOZ) && c.modeparOk ch)

/-- A configured channel passes its cross-field checks: the TTP window, the loss policy, the thermal constants, and a configured bank
and LIMITS for a mode other than OFF (R304, R324, R334, R541). -/
def Cand.chanOk (c : Cand) (ch : Nat) : Bool :=
  let g := Reg.CH_CFG ch
  !c.conf (objChan ch) ||
  (c.fld (Reg.CH_TTP ch) 15 0 ≤ c.fld (Reg.CH_TTP ch) 31 16
    && (!bitOf (c.get g) 4 || (c.mode ch = mSWITCH && c.fld (Reg.CH_MODEPAR ch) 23 16 ≠ 0))
    && (!c.conf (objTherm ch) || c.thermOk ch)
    && (c.mode ch = mOFF || (c.conf (objBank (ch / 8)) && c.conf objLimits)))

/-- No boosted channel stands in a bank with a SWITCH or METER channel (R285). -/
def Cand.bankMixOk (c : Cand) (b : Nat) : Bool :=
  !((bankChans b).any (fun ch => bitOf (c.get (Reg.CH_CFG ch)) 3 && c.conf (objChan ch))
    && (bankChans b).any (fun ch => c.mode ch = mSWITCH || c.mode ch = mMETER))

/-- A channel that is on, a metering one whose duty drives it among them (R374), or whose queue holds an edge. -/
def Dev.engaged (d : Dev) (ch : Nat) : Bool :=
  let x := d.chan ch
  phaseOn x.phase || x.phase = phWAIT || !x.queue.isEmpty || !x.next.isEmpty || (d.mode ch = mMETER && d.meterDrives ch)

/-- A loop that is enabled and drives a channel. -/
def Cand.loopOn (c : Cand) (l : Nat) : Bool := c.conf (objLoop l) && bitOf (c.get (Reg.LP_CTRL l)) 0
def Cand.loopDrives (c : Cand) (l ch : Nat) : Bool :=
  c.loopOn l && bindKind (c.get (Reg.LP_OUT l)) = 1 && bindIndex (c.get (Reg.LP_OUT l)) = ch

def loopNos : List Nat := List.range 128

/-- A change of mode is refused while the channel is on or queued (R303), and while an enabled loop binds it (R376). -/
def Dev.modeChangeOk (d : Dev) (c : Cand) (ch : Nat) : Bool :=
  c.mode ch = d.mode ch || (!d.engaged ch && !loopNos.any (fun l => c.loopDrives l ch))

/-- The page of a bank with its channels. -/
def Dev.bankOk (d : Dev) (c : Cand) (b : Nat) : Bool :=
  c.bankMixOk b && (bankChans b).all (fun ch => c.chanRangeOk ch && c.chanOk ch && d.modeChangeOk c ch)

/-! Sections and latencies (R245, R264, R277) -/

def Cand.secEntryOk (c : Cand) (n : Nat) : Bool :=
  let a (o : Nat) : Nat := 0x01014000 + 32 * n + o
  !c.conf (objSec n) ||
  (c.fld (a 0x0C) 15 8 ≤ c.fld (a 0x0C) 7 0 && c.fld (a 0x10) 15 0 ≤ c.fld (a 0x10) 31 16 && layerOk (c.fld (a 0) 3 1))

/-- A learned latency in 1/16 µs lies in bounds of 10 µs. -/
def inBounds (lat : Nat) (b : W32) : Bool := field b 15 0 * 160 ≤ lat && lat ≤ field b 31 16 * 160

/-- A latency entry: bounds in order, nominal values and presets inside them. -/
def Cand.latEntryOk (c : Cand) (n : Nat) : Bool :=
  let on := c.get (Reg.LATT_ON_BOUNDS n)
  let off := c.get (Reg.LATT_OFF_BOUNDS n)
  let nom := c.get (Reg.LATT_NOM n)
  let preset (a : Nat) (b : W32) : Bool := !c.words.contains a || inBounds (c.fld a 23 0) b
  !c.conf (objLat n) ||
  (field on 15 0 ≤ field on 31 16 && field off 15 0 ≤ field off 31 16
    && inBounds (field nom 15 0 * 160) on && inBounds (field nom 31 16 * 160) off
    && preset (Reg.LAT_ON n) on && preset (Reg.LAT_OFF n) off)

/-! Breakwater (R346) -/

def Cand.bwkOk (c : Cand) : Bool :=
  let n (a : Nat) : Nat := c.num a
  (!c.conf objLimits || (n Reg.BWK_T_DERATE < n Reg.BWK_T_REFUSE && n Reg.BWK_T_REFUSE < n Reg.BWK_T_CUT))
  && n Reg.BWK_TILE_T_THR < n Reg.BWK_TILE_T_MAX && n Reg.BWK_DIE_T1 < n Reg.BWK_DIE_T2 && n Reg.BWK_DIE_T2 < n Reg.BWK_DIE_T3

/-! Loops (R369 to R376, R382) and CAN transmit slots (R477) -/

/-- 1.0 in the units of `fFixed`. -/
def fOne : Int := fFixed f1

/-- A biquad stage is stable and its DC gain lies between 0.01 and 100 (R382). -/
def biquadOk (b0 b1 b2 a1 a2 : W32) : Bool :=
  let A1 := fFixed a1
  let A2 := fFixed a2
  let s := fOne + A1 + A2
  let n := fFixed b0 + fFixed b1 + fFixed b2
  -- g = n / s, compared without division
  let num : Int := if s < 0 then -n else n
  let den : Int := if s < 0 then -s else s
  decide (-fOne < A2) && decide (A2 < fOne) && decide ((if A1 < 0 then -A1 else A1) < fOne + A2)
    && decide (den * 1000000 ≥ fOne) && decide (num * 100 ≥ den) && decide (num ≤ 100 * den)

/-- A stage that passes its input. -/
def biquadIdentity (b0 b1 b2 a1 a2 : W32) : Bool := b0 = f1 && [b1, b2, a1, a2].all fIsZero

/-- A binding to a source or a target that exists (R373, R374). -/
def sourceOk (kinds : List Nat) (w : W32) : Bool :=
  let k := bindKind w
  let i := bindIndex w
  kinds.contains k && (if k = 1 then i < 48 else if k = 2 then i < 96 else if k = 3 then i < 128 else true)
def targetOk (w : W32) : Bool :=
  let k := bindKind w
  k = 0 || k = 1 || (k = 2 && bindIndex w < 16)

/-- The slot of a CANTX number, and the data length of a DLC (ISO 11898-1). -/
def ctxAddr (s : Nat) : Nat := 0xA1400 + 0x1000 * (s / 8) + 16 * (s % 8)
def ctxBytes (dlc : Nat) : Nat := ([0, 1, 2, 3, 4, 5, 6, 7, 8, 12, 16, 20, 24, 32, 48, 64] : List Nat).getD dlc 0

/-- The fields of a bound CAN transmit slot (R477). -/
def Cand.ctxOk (c : Cand) (s : Nat) : Bool :=
  let id := c.get (ctxAddr s)
  let fmt := c.get (ctxAddr s + 4)
  let width := field fmt 7 6
  let dlc := field fmt 13 10
  width ≠ 3 && field fmt 5 0 + 2 ^ width ≤ ctxBytes dlc
    && (dlc ≤ 8 || bitOf (c.get (Reg.CAN_CAN_CFG (s / 8))) 1)
    && field fmt 31 16 ≠ 0 && fFinite (c.get (ctxAddr s + 8)) && fFinite (c.get (ctxAddr s + 12))
    && (bitOf id 31 || field id 28 0 ≤ 0x7FF)

/-- The enabled loop that binds a slot. -/
def Cand.loopSends (c : Cand) (l s : Nat) : Bool :=
  c.loopOn l && bindKind (c.get (Reg.LP_OUT l)) = 2 && bindIndex (c.get (Reg.LP_OUT l)) % 16 = s

/-- A binary32 that is negative: below zero, so that the negative zero is not. -/
def fNegative (w : W32) : Bool := fSign w && !fIsZero w

/-- Every coefficient, limit and hold value of a loop is finite. -/
def Cand.loopFinite (c : Cand) (l : Nat) : Bool := (List.range 27).all (fun i => fFinite (c.get (Reg.LP_CTRL l + 0x18 + 4 * i)))

/-- A configured loop passes the checks on its own entry (R376). -/
def Cand.loopEntryOk (c : Cand) (l : Nat) : Bool :=
  let g (o : Nat) : W32 := c.get (Reg.LP_CTRL l + o)
  let stage (p : W32 → W32 → W32 → W32 → W32 → Bool) (o : Nat) : Bool :=
    p (g o) (g (o + 4)) (g (o + 8)) (g (o + 12)) (g (o + 16))
  let lo := g 0x68
  let hi := g 0x6C
  let out := g 0x14
  !c.conf (objLoop l) ||
  (c.loopFinite l
    && sourceOk [0, 1, 2, 3, 4] (g 0x08) && sourceOk [0, 1, 2, 3, 4, 5] (g 0x0C) && sourceOk [0, 1, 2, 3, 4] (g 0x10) && targetOk out
    && (bindKind (g 0x0C) ≠ 5 || bindKind out = 1)
    && (bindKind out ≠ 1 || (bindKind (g 0x08) = 2 && fIsZero (g 0x1C)))
    && fLe lo hi && fLe lo (g 0x7C) && fLe (g 0x7C) hi
    && !([g 0x30, g 0x70, g 0x74, g 0x78, g 0x80].any fNegative)
    && stage biquadOk 0x40 && stage biquadOk 0x54
    && (!bitOf (g 0x04) 6 || (stage biquadIdentity 0x40 && stage biquadIdentity 0x54)))

/-- A loop's target: a METER channel, and, of an enabled loop, a slot that passes R477, bound by no other enabled loop (R376). -/
def Cand.loopBindOk (c : Cand) (l : Nat) : Bool :=
  let out := c.get (Reg.LP_OUT l)
  let i := bindIndex out
  (!c.conf (objLoop l) || bindKind out ≠ 1 || c.mode i = mMETER) &&
  (!c.loopOn l ||
   if bindKind out = 1 then !loopNos.any (fun m => m ≠ l && c.loopDrives m i)
   else if bindKind out = 2 then c.ctxOk (i % 16) && !loopNos.any (fun m => m ≠ l && c.loopSends m (i % 16))
   else true)

/-- Evaluations per second, summed over the enabled loops with 1/64 parts, each at its configured period (R370). -/
def Cand.evalRate64 (c : Cand) : Nat :=
  let perS := 64 * (1000000000 / c.tf)
  (loopNos.map (fun (l : Nat) =>
    if c.loopOn l then
      let k := fieldS (c.get (Reg.LP_CFG l)) 3 0
      if k < 0 then perS * 2 ^ (-k).toNat else perS / 2 ^ k.toNat
    else 0)).sum
def Cand.capacityOk (c : Cand) : Bool := c.evalRate64 ≤ 64 * 2560000

/-- The first slot of a CAN page that a loop binds and that fails its checks (R477). -/
def Cand.badSlot (c : Cand) (port : Nat) : Option Nat :=
  ((List.range 8).map (8 * port + ·)).find? (fun s => !c.ctxOk s && loopNos.any (fun l => c.loopSends l s))

/-! Analog inputs (R482) and the map (R195, R218, R224) -/

def Cand.ainOk (c : Cand) : Bool :=
  (List.range 48).all (fun i => c.fld (Reg.AIN_AIN_CFG i) 19 8 ≤ c.fld (Reg.AIN_AIN_CFG i) 31 20)

/-- A nominal rate for every layer of the job, unless unconfigured (R224). -/
def Cand.ratesOk (c : Cand) : Bool :=
  !c.conf objLimits ||
  ([0, 1, 2, 3] : List Nat).all (fun k => c.fld Reg.MAP_JOB_CFG 5 4 + 1 ≤ k || c.num (Reg.MAP_NOM_RATE k) ≠ 0)

/-- Vertex `v` of a polygon store by word offset (R218). -/
def polyVertex (m : SMap W32) (v : Nat) : W32 × W32 :=
  (sget (fun _ => 0#32) m (0x400 + 2 * v), sget (fun _ => 0#32) m (0x401 + 2 * v))

/-- The used polygons of a store: kind, first vertex, vertices. -/
def polysOf (m : SMap W32) : List (Nat × Nat × Nat) :=
  (List.range 64).filterMap (fun p =>
    let w (i : Nat) : Nat := (sget (fun _ => 0#32) m (4 * p + i)).toNat
    if w 0 / 2 ^ 24 = 0 then none else some (w 0 / 2 ^ 24, w 1, w 2))

/-- Two consecutive vertices are equal, the last and the first among them. -/
def repeatsVertex (vs : List (W32 × W32)) : Bool :=
  (vs.zip (vs.drop 1 ++ vs.take 1)).any (fun (p : (W32 × W32) × (W32 × W32)) => decide (p.1 = p.2))

/-- The pending polygons pass the checks of R218. -/
def polysOk (m : SMap W32) : Bool :=
  let ps := polysOf m
  let marks := (List.range 64).all (fun p =>
    let w (i : Nat) : W32 := sget (fun _ => 0#32) m (4 * p + i)
    field (w 0) 23 0 = 0 && w 3 = 0#32 && decide (field (w 0) 31 24 ≤ 2))
  let apart := (List.range ps.length).all (fun i => (List.range i).all (fun j =>
    match ps[i]?, ps[j]? with
    | some p, some q => decide (p.2.1 + p.2.2 ≤ q.2.1) || decide (q.2.1 + q.2.2 ≤ p.2.1)
    | _, _ => true))
  marks && ps.all (fun (p : Nat × Nat × Nat) => decide (3 ≤ p.2.2) && decide (p.2.1 + p.2.2 ≤ 65536)) && apart
    && ps.all (fun (p : Nat × Nat × Nat) => !repeatsVertex ((List.range p.2.2).map (fun i => polyVertex m (p.2.1 + i))))

/-- Words of a job that do not change while a job stands (R195), and of its origin (R134). -/
def Dev.jobKeeps (d : Dev) (c : Cand) (as : List Nat) : Bool :=
  d.jobState = joNONE || as.all (fun a => c.get a = d.rd a)

def nomRates : List Nat := (List.range 4).map Reg.MAP_NOM_RATE
def Dev.mapOk (d : Dev) (c : Cand) : Bool :=
  d.jobKeeps c (Reg.MAP_JOB_CFG :: Reg.MAP_JOB_ID :: nomRates)
    && c.ratesOk && polysOk d.map.polyPend

/-! The geometry set (R178) -/

/-- The words whose change publishes a set: GEO_EPOCH, GEO_SEQ and the terms of bodies 1 to 3. -/
def geoSetWords : List Nat :=
  [Reg.BSS_GEO_EPOCH, Reg.BSS_GEO_EPOCH + 4, Reg.BSS_GEO_SEQ]
    ++ ([1, 2, 3] : List Nat).flatMap (fun b => (List.range 6).map (fun j => termAddr b j))

def Dev.publishesSet (d : Dev) (c : Cand) : Bool := geoSetWords.any (fun a => c.get a ≠ d.rd a)

/-- A signed size within a limit. -/
def magLe (n : Int) (m : Nat) : Bool := decide (-(m : Int) ≤ n) && decide (n ≤ (m : Int))

def Dev.geoOk (d : Dev) (c : Cand) (turnTbs : Nat) : Bool :=
  let epoch := (c.get (Reg.BSS_GEO_EPOCH + 4)).toNat * 2 ^ 32 + (c.get Reg.BSS_GEO_EPOCH).toNat
  let body (b : Nat) : Bool :=
    let nom := d.nominalTerms b
    let t (j : Nat) : Int := (c.get (termAddr b j)).toInt
    magLe (t 0 - nom.ox) 5000 && magLe (t 1 - nom.oy) 5000 && magLe (fieldS (c.get (termAddr b 2)) 15 0) 8192
      && magLe (t 3) 2000 && magLe (t 4) 2000 && magLe (t 5) 2000
  !d.publishesSet c ||
  (decide (epoch > d.rd64 Reg.BSS_GEO_EPOCH) && decide (turnTbs ≤ epoch + c.num Reg.BSS_GEO_HOLD_MAX * 1000000)
    && body 1 && body 2 && body 3)

/-! A page's own checks -/

/-- Channels, or entries of 32 or 256 bytes, that a list of words touches. -/
def touched (ws : List Nat) (base size count : Nat) : List Nat :=
  (ws.filterMap (fun a => if base ≤ a ∧ a < base + size * count then some ((a - base) / size) else none)).foldl setInsert []

/-- No channel is on and no queue holds an edge (R74, R115). -/
def Dev.quiet (d : Dev) : Bool := !(d.drv.ch.any (fun (p : Nat × Chan) => d.engaged p.1))

/-- A page's commit passes its own checks (R26): the ranges of the words it writes, the objects made whole, the page's cross-field checks. -/
def Dev.pageOk (d : Dev) (c : Cand) (turnTbs page : Nat) : Bool :=
  c.words.all c.rangeOk
  && (objsOf c.words).all c.whole
  && (match page with
    | 0x002 => c.num Reg.FRM_TF_SEL = d.rdN Reg.FRM_TF_SEL || d.quiet
    | 0x008 => d.jobKeeps c [Reg.POSE_JOB_LAT, Reg.POSE_JOB_LON, Reg.POSE_JOB_H]
    | 0x009 => d.jobKeeps c nomRates
    | 0x00A => d.geoOk c turnTbs
    | 0x020 => d.mapOk c
    | 0x021 =>
      (c.num Reg.SDE_COV_SPACING = 0 || (10 ≤ c.num Reg.SDE_COV_SPACING && c.num Reg.SDE_COV_SPACING ≤ 200))
        && (touched c.words 0x01014000 32 512).all c.secEntryOk
    | 0x023 => (touched c.words 0x01010000 32 512).all c.latEntryOk
    | 0x024 => c.bwkOk
    | 0x080 => loopNos.all (fun l => c.loopEntryOk l && c.loopBindOk l)
    | 0x0A1 => (c.badSlot 0).isNone
    | 0x0A2 => (c.badSlot 1).isNone
    | 0x0A3 => c.ainOk
    | p => if 0x038 ≤ p ∧ p ≤ 0x077 then d.bankOk c (p - 0x038) else true)

/-! The fit check (R75) -/

/-- Channels whose mode is not OFF. -/
def Cand.modeCount (c : Cand) : Nat := ((List.range 512).filter (fun ch => c.mode ch ≠ mOFF)).length

/-- The worst-case cost of each stage in CK_SYS cycles. -/
def Cand.costs (c : Cand) : List Nat :=
  let n := c.modeCount
  let s := ceilDiv (c.num Reg.SDE_HORIZON) 125
  let i := c.fld Reg.POSE_IMU_USE 0 0 + c.fld Reg.POSE_IMU_USE 1 1
  [800 + 400 * i + 20 * s, 400 + ceilDiv n 16 * (40 + 5 * s), 1200 + 7 * n, 300 + 4 * n, 200 + 6 * n]

/-- Each stage's budget, halved at 250 µs. -/
def Cand.budgets (c : Cand) : List Nat :=
  if c.num Reg.FRM_TF_SEL = 0 then [3000, 7000, 5000, 2500, 2500] else [6000, 14000, 10000, 5000, 5000]

/-- The stages over budget, a bit each. -/
def Cand.overBudget (c : Cand) : Nat :=
  ((c.costs.zip c.budgets).zipIdx.map (fun (p : (Nat × Nat) × Nat) => if p.1.1 > p.1.2 then 2 ^ p.2 else 0)).sum

/-- A page's commit changes what the fit check judges: T_F, H, a channel mode, an IMU enable or the loop set. -/
def Dev.changesFit (d : Dev) (c : Cand) : Bool :=
  c.words.any (fun a =>
    (a = Reg.FRM_TF_SEL || a = Reg.SDE_HORIZON || a = Reg.POSE_IMU_USE) && c.get a ≠ d.rd a
    || (0x01000000 ≤ a && a < 0x01008000 && a % 64 = 0 && field (c.get a) 2 0 ≠ d.fld a 2 0)
    || (0x01008000 ≤ a && a < 0x01010000 && (a % 256 = 0 || a % 256 = 4) && c.get a ≠ d.rd a))

end Sys2Proof.Machine
end

