-- ==== Sys2Proof/Machine/GeoFit.lean ====
section
/-! DEFINITION. The baselines, the direction test and the fit of the bending model (chapter 07): what the firmware forms from the carrier
phases of a snapshot. Vectors are in micrometres, directions in 10^-9, phases in 1/1024 cycle. -/

namespace Sys2Proof.Machine

/-! Least squares, in integers -/

/-- The determinant of `n` rows, along the first column. -/
def det : Nat → List (List Int) → Int
  | 0, _ => 1
  | n + 1, rows => (rows.zipIdx.map (fun (r : List Int × Nat) =>
      (if r.2 % 2 = 0 then 1 else -1) * r.1.headD 0 * det n ((rows.eraseIdx r.2).map List.tail))).sum

/-- The least-squares solution of `n` unknowns for rows of coefficients, each with its right-hand side times `unit`; none where it is not unique. -/
def leastSquares (n : Nat) (unit : Int) (eqs : List (List Int × Int)) : Option (List Int) :=
  let ix := List.range n
  let m := ix.map (fun i => ix.map (fun j => (eqs.map (fun (e : List Int × Int) => e.1.getD i 0 * e.1.getD j 0)).sum))
  let y := ix.map (fun i => unit * (eqs.map (fun (e : List Int × Int) => e.1.getD i 0 * e.2)).sum)
  let dt := det n m
  if dt = 0 then none
  else some (ix.map (fun j =>
    let dj := det n ((m.zip y).map (fun (r : List Int × Int) => r.1.set j r.2))
    divRound (if dt < 0 then -dj else dj) dt.natAbs))

/-! Satellites of a baseline (R169) -/

/-- A satellite common to a baseline: its PRN, the two channels, the single difference, its direction where the ephemeris gives one, and
whether it slipped or restarted since the last snapshot. -/
structure SatObs where
  prn : Nat
  c0 : Nat
  ck : Nat
  sd : Int
  dir : Option (Int × Int × Int)
  slip : Bool

/-- The channel that gives a satellite on a port: phase valid, half cycle resolved, not excluded. -/
def Dev.phaseChan (d : Dev) (prn port : Nat) : Option Nat :=
  (List.range 64).find? (fun c =>
    d.tcTracks c && (d.tc c).port = port && (d.tc c).prn = prn && (d.tc c).half && d.phValid c && !d.mapBit Reg.INTEG_CH_EXCL c)

/-- The satellites common to a baseline (R169). -/
def Dev.common (d : Dev) (k : Nat) : List SatObs :=
  (List.range 32).filterMap (fun i =>
    if d.bit Reg.INTEG_PRN_EXCL i then none
    else match d.phaseChan (i + 1) 0, d.phaseChan (i + 1) k with
      | some a, some b =>
        some ⟨i + 1, a, b, d.carrNow b - d.carrNow a, sfind d.gps.dirs (i + 1), (d.tc a).slipSnap || (d.tc b).slipSnap⟩
      | _, _ => none)

/-- The reference: the highest satellite. -/
def reference (l : List SatObs) : Option SatObs :=
  l.foldl (fun (m : Option SatObs) s =>
    match m, s.dir with
    | none, some _ => some s
    | some r, some e => if (match r.dir with | some q => decide (q.2.2 < e.2.2) | none => true) then some s else m
    | _, none => m) none

/-- λ, 190.29 mm, as micrometres times 10^9 in 1/1024 cycle. -/
def lambda9 : Int := 185830078125

def dot (a b : Int × Int × Int) : Int := a.1 * b.1 + a.2.1 * b.2.1 + a.2.2 * b.2.2
def minus (a b : Int × Int × Int) : Int × Int × Int := (a.1 - b.1, a.2.1 - b.2.1, a.2.2 - b.2.2)

/-- The double difference that a baseline predicts between two directions (R169), in 1/1024 cycle. -/
def ddOf (v e r : Int × Int × Int) : Int := divRound (dot v (minus e r)) lambda9.toNat

/-- The double differences against a reference: PRN, direction, phase. -/
def doubles (l : List SatObs) (ref : SatObs) : List (Nat × (Int × Int × Int) × Int) :=
  l.filterMap (fun s => if s.prn = ref.prn then none else s.dir.map (fun e => (s.prn, e, s.sd - ref.sd)))

/-- What integers make of the double differences: the baseline, and the sum of squared residuals with their count. -/
def solveWith (r : Int × Int × Int) (ds : List (Nat × (Int × Int × Int) × Int)) (ints : SMap Int) : Option ((Int × Int × Int) × Nat × Nat) :=
  let used := ds.filterMap (fun (x : Nat × (Int × Int × Int) × Int) => (sfind ints x.1).map (fun n => (x.2.1, x.2.2 - 1024 * n)))
  let eqs := used.map (fun (x : (Int × Int × Int) × Int) => let u := minus x.1 r; ([u.1, u.2.1, u.2.2], x.2))
  match leastSquares 3 lambda9 eqs with
  | some [e, n, u] =>
    let v := (e, n, u)
    some (v, ((used.map (fun (x : (Int × Int × Int) × Int) => (x.2 - ddOf v x.1 r) * (x.2 - ddOf v x.1 r))).sum).toNat, used.length)
  | _ => none

/-- The integers nearest to what a baseline predicts. -/
def nearestInts (r v : Int × Int × Int) (ds : List (Nat × (Int × Int × Int) × Int)) : SMap Int :=
  ds.foldl (fun (m : SMap Int) x => sinsert m x.1 (divRound (x.2.2 - ddOf v x.2.1 r) 1024)) []

/-- A sum of squares over `n` residuals as an rms in mm. -/
def rmsMm (s n : Nat) : Nat := isqrt (s * 19029 * 19029 / max 1 n) / 102400

/-- Two sets of integers name one candidate: they differ by the same number for every satellite of both. -/
def sameCandidate (a b : SMap Int) : Bool :=
  let ds := a.filterMap (fun (p : Nat × Int) => (sfind b p.1).map (fun n => n - p.2))
  match ds with
  | [] => false
  | x :: r => r.all (· = x)

/-! A baseline at a snapshot (R170 to R174) -/

/-- What a snapshot shows of a baseline, beside its state: the vector in mm, satellites, ratio, rms, reference, and the line bias as the
reference satellite has it. -/
def Dev.showBl (d : Dev) (k : Nat) (v : Int × Int × Int) (n ratio rms : Nat) (ref : SatObs) : Dev :=
  let i := k - 1
  let d := ((d.wrI (Reg.BSS_BL_E i) (divRound v.1 1000)).wrI (Reg.BSS_BL_N i) (divRound v.2.1 1000)).wrI (Reg.BSS_BL_U i) (divRound v.2.2 1000)
  let d := ((d.wrN (Reg.BSS_BL_NSAT i) (min n 63)).wrN (Reg.BSS_BL_RATIO i) (min ratio 65535)).wr (Reg.BSS_BL_RMS i) (sat32 rms)
  let bias := match ref.dir with | some e => ref.sd - divRound (dot v e) lambda9.toNat | none => ref.sd
  (d.wr (Reg.BSS_BL_BIAS i) (w32i ((bias + 512) % 1024 - 512) &&& 0xFFFF#32)).setFld (Reg.BSS_BL_STATE i) 13 8 ref.prn

/-- A candidate lies in the search window around the nominal baseline (R170). -/
def Dev.inSearch (d : Dev) (k : Nat) (v : Int × Int × Int) : Bool :=
  let w : Int := d.rdN Reg.BSS_BL_SEARCH * 1000
  let q := minus v (d.nominalVec k)
  decide (-w ≤ q.1) && decide (q.1 ≤ w) && decide (-w ≤ q.2.1) && decide (q.2.1 ≤ w) && decide (-w ≤ q.2.2) && decide (q.2.2 ≤ w)

/-- The candidate that a vector of the search names, where it is inside the window: integers, baseline, sum of squares and count. -/
def Dev.candidate (d : Dev) (k : Nat) (r : Int × Int × Int) (ds : List (Nat × (Int × Int × Int) × Int)) (v : Option (Int × Int × Int)) :
    Option (SMap Int × (Int × Int × Int) × Nat × Nat) :=
  match v with
  | none => none
  | some v =>
    let ints := nearestInts r (v.1 * 1000, v.2.1 * 1000, v.2.2 * 1000) ds
    match solveWith r ds ints with
    | some (q, s, n) => if d.inSearch k q then some (ints, q, s, n) else none
    | none => none

/-- A baseline in SEARCH (R171). While SPOOF_DIR is set none fixes (R186). -/
def Dev.searchStep (d : Dev) (k : Nat) (sats : List SatObs) (ref : SatObs) (r : Int × Int × Int) (b : BaselineSearch) : Dev :=
  let ds := doubles sats ref
  let found := ([d.candidate k r ds b.best, d.candidate k r ds b.next] : List _).filterMap id
  match found with
  | [] => d.modBl k (fun _ => {})
  | x :: rest =>
    let y := rest.find? (fun y => !sameCandidate x.1 y.1)
    let lead := match y with | some z => if z.2.2.1 < x.2.2.1 then z else x | none => x
    let other := match y with | some z => if z.2.2.1 < x.2.2.1 then some x else some z | none => none
    let ratio := match other with | some z => if lead.2.2.1 = 0 then 65535 else z.2.2.1 * 256 / lead.2.2.1 | none => 65535
    let rms := rmsMm lead.2.2.1 lead.2.2.2
    let d := d.showBl k lead.2.1 sats.length ratio rms ref
    let good := decide (ratio ≥ d.rdN Reg.BSS_FIX_RATIO) && decide (rms ≤ d.rdN Reg.BSS_FIX_RMS_MAX) && decide (sats.length ≥ 6) && !d.integ ifSPOOF
    let run := if good then (if (d.bl k).run ≠ 0 ∧ sameCandidate (d.bl k).ints lead.1 = true then (d.bl k).run + 1 else 1) else 0
    let d := d.modBl k (fun _ => { ref := ref.prn, ints := lead.1, vec := lead.2.1, run := run })
    if run ≥ d.rdN Reg.BSS_FIX_CONFIRM then (d.setBl k bsFIXED).modBl k (fun x => { x with run := 0 }) else d

/-- The integers against another reference satellite. -/
def BaseLn.rebase (b : BaseLn) (ref : Nat) : BaseLn :=
  if b.ref = ref then b
  else match sfind b.ints ref with
    | some n => { b with ref := ref, ints := ((sinsert b.ints b.ref 0).map (fun (p : Nat × Int) => (p.1, p.2 - n))).filter (fun p => p.1 ≠ ref) }
    | none => b

/-- Repair of one satellite's integer (R173): by the fixed baseline, the nearest integer within 0.15 cycle; one that fails is left out until
20 snapshots in succession repair it. The second part counts a repair. -/
def BaseLn.repair (b : BaseLn) (r : Int × Int × Int) (x : Nat × (Int × Int × Int) × Int) : BaseLn × Nat :=
  let off := x.2.2 - ddOf b.vec x.2.1 r
  let n := divRound off 1024
  let ok := decide ((off - 1024 * n).natAbs * 100 ≤ 15 * 1024)
  match sfind b.out x.1 with
  | none => if ok then ({ b with ints := sinsert b.ints x.1 n }, 1) else ({ b with ints := serase b.ints x.1, out := sinsert b.out x.1 0 }, 0)
  | some m =>
    if !ok then ({ b with out := sinsert b.out x.1 0 }, 0)
    else if m + 1 ≥ 20 then ({ b with ints := sinsert b.ints x.1 n, out := serase b.out x.1 }, 1)
    else ({ b with out := sinsert b.out x.1 (m + 1) }, 0)

/-- The runs that end a fix (R174). -/
def Dev.countLoss (d : Dev) (k n rms : Nat) : Dev :=
  let sr := if n < 5 then (d.bl k).satRun + 1 else 0
  let rr := if rms > d.rdN Reg.BSS_LOSS_RMS then (d.bl k).rmsRun + 1 else 0
  let d := d.modBl k (fun x => { x with satRun := sr, rmsRun := rr })
  if sr ≥ 10 then d.blLose k 1 bsSEARCH else if rr ≥ 5 then d.blLose k 2 bsSEARCH else d

/-- A FIXED baseline (R172 to R174). Satellites that slipped, restarted or came new are repaired while at least five others remain. -/
def Dev.fixedStep (d : Dev) (k : Nat) (sats : List SatObs) : Dev :=
  let b := d.bl k
  let sound (s : SatObs) : Bool := !s.slip && ((sfind b.ints s.prn).isSome || s.prn = b.ref)
  let keep := sats.filter sound
  match reference keep with
  | some top =>
    let b := b.rebase top.prn
    match top.dir with
    | none => d
    | some r =>
      let ds := doubles sats top
      let todo := if keep.length ≥ 5 then ds.filter (fun x => !keep.any (fun s => s.prn = x.1)) else []
      let b := { b with ints := b.ints.filter (fun (p : Nat × Int) => keep.any (fun s => s.prn = p.1)) }
      let q := todo.foldl (fun (q : BaseLn × Nat) x => let y := q.1.repair r x; (y.1, q.2 + y.2)) (b, 0)
      let b := { q.1 with out := q.1.out.filter (fun (p : Nat × Nat) => sats.any (fun s => s.prn = p.1)) }
      let n := b.ints.length + 1
      let sol := solveWith r ds b.ints
      let b := { b with vec := match sol with | some x => x.1 | none => b.vec }
      let rms := match sol with | some x => rmsMm x.2.1 x.2.2 | none => d.rdN (Reg.BSS_BL_RMS (k - 1))
      let d := (d.modBl k (fun _ => b)).addW Reg.BSS_REPAIR_CNT q.2
      let d := d.showBl k b.vec n (d.rdN (Reg.BSS_BL_RATIO (k - 1))) rms top
      d.countLoss k n rms
  | none => d.countLoss k 0 (d.rdN (Reg.BSS_BL_RMS (k - 1)))

/-- A baseline at a snapshot: NONE while a port is off, else SEARCH or FIXED. -/
def Dev.blStep (d : Dev) (k : Nat) (b : BaselineSearch) : Dev :=
  if !d.portEn 0 || !d.portEn k then d.blLose k 4 bsNONE
  else
    let d := if d.blState k = bsNONE then d.setBl k bsSEARCH else d
    let sats := d.common k
    let d := d.wrN (Reg.BSS_BL_NSAT (k - 1)) (min sats.length 63)
    if d.blState k = bsFIXED then d.fixedStep k sats
    else match reference sats with
      | some ref => (match ref.dir with | some r => d.searchStep k sats ref r b | none => d)
      | none => d.modBl k (fun _ => {})

/-! The direction test (R183, R186) -/

/-- R_k in units of 10^-4: the length of the mean of the unit vectors at the fractional single differences. -/
def Dev.rOf (d : Dev) (k : Nat) : Nat :=
  let l := d.common k
  let s := (l.map (fun x => sinTurn (x.sd % 1024) 1024)).sum
  let c := (l.map (fun x => cosTurn (x.sd % 1024) 1024)).sum
  isqrt ((s * s + c * c).toNat) * 10000 / (max 1 l.length * 2 ^ 60)

/-- One snapshot of the direction test. -/
def Dev.directionTest (d : Dev) : Dev :=
  let ks := [1, 2, 3]
  let ev := ks.filter (fun k => d.blState k ≠ bsNONE && d.nominalLen k ≥ 1000 && (d.common k).length ≥ 5)
  let rs := ks.map (fun k => (k, d.rOf k))
  let r (k : Nat) : Nat := (sfind rs k).getD 0
  let d := d.wrN Reg.INTEG_SPF_R (rs.foldl (fun a (p : Nat × Nat) => a + min (p.2 * 255 / 10000) 255 * 2 ^ (8 * (p.1 - 1))) 0)
  let thr := d.rdN Reg.INTEG_SPF_R_THR * 100
  let fixedWell := ks.any (fun k => d.blState k = bsFIXED && decide (d.rdN (Reg.BSS_BL_RMS (k - 1)) ≤ d.rdN Reg.BSS_FIX_RMS_MAX))
  let hit := ev.length ≥ 2 && ev.all (fun k => decide (r k ≥ thr)) && !fixedWell
  let low := ev.any (fun k => decide (r k < thr))
  let run : Nat := if hit then d.gps.spfRun + 1 else 0
  let clr : Nat := if low then d.gps.spfClear + 1 else 0
  let d : Dev := { d with gps := { d.gps with spfRun := run, spfClear := clr } }
  if d.integ ifSPOOF = false ∧ run ≥ d.rdN Reg.INTEG_SPF_PERSIST then
    let d := ((d.setInteg ifSPOOF true).fault pINTEG 16).blLoseAll 3
    { d with gps := { d.gps with spoofClose := true } }
  else if d.integ ifSPOOF = true ∧ 40 ≤ clr then d.setInteg ifSPOOF false
  else d

/-! The fit (R175, R176) -/

/-- The terms of a body while they are fitted: micrometres, and YAW in 2^-32 turn. -/
structure FitTerms where
  ox : Int := 0
  oy : Int := 0
  yaw : Int := 0
  lat : Int := 0
  ul : Int := 0
  ur : Int := 0

def Terms.fine (t : Terms) : FitTerms := ⟨t.ox * 1000, t.oy * 1000, t.yaw * 65536, t.lat * 1000, t.ul * 1000, t.ur * 1000⟩
def FitTerms.term (t : FitTerms) (j : Nat) : Int :=
  match j with
  | 0 => divRound t.ox 1000 | 1 => divRound t.oy 1000 | 2 => divRound t.yaw 65536
  | 3 => divRound t.lat 1000 | 4 => divRound t.ul 1000 | _ => divRound t.ur 1000
def FitTerms.add (t : FitTerms) (j : Nat) (v : Int) : FitTerms :=
  match j with
  | 0 => { t with ox := t.ox + v } | 1 => { t with oy := t.oy + v } | 2 => { t with yaw := t.yaw + v }
  | 3 => { t with lat := t.lat + v } | 4 => { t with ul := t.ul + v } | _ => { t with ur := t.ur + v }

/-- Antennas of a body other than A0, and those of them whose baseline is FIXED. -/
def Dev.bodyAnts (d : Dev) (b : Nat) : List Nat := [1, 2, 3].filter (fun a => (d.antenna a).body = b)
def Dev.fixedAnts (d : Dev) (b : Nat) : List Nat := (d.bodyAnts b).filter (fun a => d.blState a = bsFIXED)

/-- The terms fitted from given antennas of a body (R175): RIGID or TRAILED ones and the bent sides whose tip is among them, UR and then UL
dropped until they are no more than twice the antennas. Where A0 is not on body 0, only UL and UR. -/
def Dev.fitTerms (d : Dev) (b : Nat) (ants : List Nat) : List Nat :=
  let main := if (d.antenna 0).body ≠ 0 ∨ ants = [] then [] else if (d.body b).trailed then [3] else if ants.length ≥ 2 then [0, 1, 2] else [0, 1]
  let tip (y : Int) : Bool := y ≠ 0 && ants.any (fun a => (d.antenna a).y = y)
  let l := if tip (d.tipLeft b) then [4] else []
  let r := if tip (d.tipRight b) then [5] else []
  let room := 2 * ants.length
  if (main ++ l ++ r).length ≤ room then main ++ l ++ r else if (main ++ l).length ≤ room then main ++ l else main

/-- Δx of a point of a body for given terms, and its share of one side's tip in 2^-60. -/
def Dev.sideOf (d : Dev) (b : Nat) (y : Int) (j : Nat) : Int :=
  if j = 4 ∧ y ≥ 0 then shape one60 y (d.tipLeft b) else if j = 5 ∧ y < 0 then shape one60 y (d.tipRight b) else 0
def Dev.bendOf (d : Dev) (b : Nat) (y : Int) (t : FitTerms) : Int := scale60 t.ul (d.sideOf b y 4) + scale60 t.ur (d.sideOf b y 5)

/-- What an antenna of a body misses by (R176), for given terms: along and across the vehicle on a RIGID body, along f and l of the body on a
TRAILED one; and how each term moves the point, in 2^-60. `v` is its baseline. -/
def Dev.antResidual (d : Dev) (b a : Nat) (v : Int × Int × Int) (t : FitTerms) : Int × Int :=
  let k := d.poseNow
  let p0 := d.antPos 0 k
  let x := d.antenna a
  let p := (p0.1 + v.1, p0.2.1 + v.2.1)
  if (d.body b).trailed then
    let f := d.bodyFrame b k
    let q := bodyPoint f (x.x * 1000) (x.y * 1000)
    let dx := (p.1 - q.1, p.2 - q.2)
    (scale60 dx.1 (sinPsi f.psi) + scale60 dx.2 (cosPsi f.psi) - d.bendOf b x.y t,
      -(scale60 dx.1 (cosPsi f.psi)) + scale60 dx.2 (sinPsi f.psi) + d.rdI (Reg.BSS_LAT (b - 1)) * 1000 - t.lat)
  else
    let dx := (p.1 - k.e, p.2 - k.n)
    let m := (scale60 dx.1 (sinPsi k.psi) + scale60 dx.2 (cosPsi k.psi), -(scale60 dx.1 (cosPsi k.psi)) + scale60 dx.2 (sinPsi k.psi))
    let px := x.x * 1000 + d.bendOf b x.y t
    let py := x.y * 1000
    (m.1 - (t.ox + scale60 px (cosPsi t.yaw) - scale60 py (sinPsi t.yaw)), m.2 - (t.oy + scale60 px (sinPsi t.yaw) + scale60 py (cosPsi t.yaw)))

def Dev.antSlope (d : Dev) (b a : Nat) (t : FitTerms) (j : Nat) : Int × Int :=
  let x := d.antenna a
  let own := if (d.antenna 0).body = b then d.sideOf b (d.antenna 0).y j else 0
  let px := x.x * 1000 + d.bendOf b x.y t
  let py := x.y * 1000
  match j with
  | 0 => (one60, 0)
  | 1 => (0, one60)
  | 2 => (divRound ((-(scale60 px (sinPsi t.yaw)) - scale60 py (cosPsi t.yaw)) * tau60) (2 ^ 32),
          divRound ((scale60 px (cosPsi t.yaw) - scale60 py (sinPsi t.yaw)) * tau60) (2 ^ 32))
  | 3 => (0, one60)
  | _ =>
    let s := d.sideOf b x.y j - own
    if (d.body b).trailed then (s, 0) else (mul60 s (cosPsi t.yaw), mul60 s (sinPsi t.yaw))

/-- One step of the fit of some terms toward the least sum of squares, where that is unique. -/
def Dev.fitStepOf (d : Dev) (b : Nat) (js : List Nat) (obs : List (Nat × Int × Int × Int)) (t : FitTerms) : Option FitTerms :=
  let eqs := obs.flatMap (fun (o : Nat × Int × Int × Int) =>
    let r := d.antResidual b o.1 o.2 t
    let g := js.map (d.antSlope b o.1 t)
    [(g.map (fun (q : Int × Int) => q.1), r.1), (g.map (fun (q : Int × Int) => q.2), r.2)])
  (leastSquares js.length one60 eqs).map (fun xs => (js.zip xs).foldl (fun t (p : Nat × Int) => t.add p.1 p.2) t)

/-- A step of all terms; where the straight boom leaves YAW open, of the others first. -/
def Dev.fitStep (d : Dev) (b : Nat) (js : List Nat) (obs : List (Nat × Int × Int × Int)) (t : FitTerms) : FitTerms :=
  ((d.fitStepOf b js obs t).orElse (fun _ => d.fitStepOf b (js.filter (· ≠ 2)) obs t)).getD t

/-- The fit of a body: the terms fitted with their values, and the residual of each antenna in micrometres. -/
def Dev.fitBody (d : Dev) (b : Nat) : List (Nat × Int) × List (Nat × Nat) :=
  let ants := d.fixedAnts b
  let js := d.fitTerms b ants
  let obs := ants.map (fun a => (a, (d.bl a).vec))
  let nom := d.nominalTerms b
  let start := { nom with yaw := if js.contains 2 ∨ (d.antenna 0).body ≠ 0 then nom.yaw else fieldS (d.rd (Reg.BSS_YAW (b - 1))) 15 0 }.fine
  let t := ([1, 2, 3, 4, 5, 6] : List Nat).foldl (fun t _ => d.fitStep b js obs t) start
  (js.map (fun j => (j, t.term j)), obs.map (fun (o : Nat × Int × Int × Int) => (o.1, let r := d.antResidual b o.1 o.2 t; hypot r.1 r.2)))

/-! Publishing (R177, R178) -/

/-- A term as the firmware publishes it (R177): fitted, else as last fitted while held no longer than GEO_HOLD_MAX, else nominal. The YAW of
a RIGID body with one antenna stays as it is (R175). -/
def Dev.publishedTerm (d : Dev) (fit : List (Nat × Int)) (b j : Nat) : Int :=
  let key := 6 * (b - 1) + j
  let nom := termOf (d.nominalTerms b) j
  match fit.find? (fun (p : Nat × Int) => p.1 = j), sfind d.gps.fitted key with
  | some p, _ => p.2
  | none, some v =>
    let since := (sfind d.gps.heldSince key).getD d.tm.tbm
    if d.tm.tbm ≤ since + d.rdN Reg.BSS_GEO_HOLD_MAX * 1000000 then v else nom
  | none, none => if j = 2 ∧ (d.bodyAnts b).length = 1 then fieldS (d.rd (Reg.BSS_YAW (b - 1))) 15 0 else nom

/-- Publish an accepted fit: the pending GEO registers are written and BSS armed (R178). Terms that the bodies have and that were not fitted
are held. -/
def Dev.publishGeo (d : Dev) (fits : List (Nat × List (Nat × Int))) : Dev :=
  let of (b : Nat) : List (Nat × Int) := (sfind fits b).getD []
  let terms : List (Nat × Nat × Int) := [1, 2, 3].flatMap (fun b => (List.range 6).map (fun j => (b, j, d.publishedTerm (of b) b j)))
  let held := [1, 2, 3].flatMap (fun b => ((d.fitTerms b (d.bodyAnts b)).filter (fun j => !(of b).any (fun (p : Nat × Int) => p.1 = j))).map (fun j => 6 * (b - 1) + j))
  let d := d.wrN Reg.BSS_GEO_HELD (held.foldl (fun a p => a + 2 ^ p) 0)
  let since := held.map (fun key => (key, (sfind d.gps.heldSince key).getD d.tm.tbm))
  let fitted := fits.flatMap (fun (f : Nat × List (Nat × Int)) => f.2.map (fun (p : Nat × Int) => (6 * (f.1 - 1) + p.1, p.2)))
  let t := d.tbs
  let d := { d with gps := { d.gps with
    heldSince := since.foldl (fun (m : SMap Nat) (p : Nat × Nat) => sinsert m p.1 p.2) []
    fitted := fitted.foldl (fun (m : SMap Int) (p : Nat × Int) => sinsert m p.1 p.2) d.gps.fitted
    seqNo := d.gps.seqNo + 1, setEpoch := some t } }
  let d := terms.foldl (fun d p => d.setPending (termAddr p.1 p.2.1) (termWord p.2.1 p.2.2)) d
  let d := ((d.setPending Reg.BSS_GEO_EPOCH (lo32 t)).setPending (Reg.BSS_GEO_EPOCH + 4) (hi32 t)).setPending Reg.BSS_GEO_SEQ (w32 d.gps.seqNo)
  d.wrN (Reg.TURN_ARM pBSS) 1

/-- The fit at a snapshot: reported, and published where it is accepted, the level is basic, no spoofing is flagged and no group is held.
Without a FIXED baseline there is none. -/
def Dev.geoFit (d : Dev) : Dev :=
  let fits := [1, 2, 3].map (fun b => (b, d.fitBody b))
  let res := fits.flatMap (fun (f : Nat × List (Nat × Int) × List (Nat × Nat)) => f.2.2)
  let may := !d.bit (Reg.MODE pBSS) 0 && !d.integ ifSPOOF && !d.bit Reg.FRM_GLOBAL_HOLD 0
  if res = [] then d.setStat pBSS 18 false
  else
    let terms := (fits.map (fun (f : Nat × List (Nat × Int) × List (Nat × Nat)) => f.2.1.length)).sum
    let spare := decide (terms < 2 * res.length)
    let rms := isqrt ((res.map (fun (p : Nat × Nat) => p.2 * p.2)).sum / res.length) / 1000
    let d := (d.wrN Reg.BSS_FIT_RMS (if spare then min rms (2 ^ 32 - 1) else 0)).setStat pBSS 17 (!spare)
    let d := d.wrN Reg.BSS_RES_A (res.foldl (fun a (p : Nat × Nat) => a + min (p.2 / 1000) 255 * 2 ^ (8 * p.1)) 0)
    if spare ∧ rms > d.rdN Reg.BSS_FIT_RMS_MAX then (d.inc Reg.BSS_FIT_REJ).setStat pBSS 18 may
    else if may then (d.publishGeo (fits.map (fun (f : Nat × List (Nat × Int) × List (Nat × Nat)) => (f.1, f.2.1)))).setStat pBSS 18 true
    else d.setStat pBSS 18 false

end Sys2Proof.Machine
end

