-- ==== Sys2Proof/Machine/Gnss.lean ====
section
/-! DEFINITION. The commands of the GNSS baseband (chapter 06). -/

namespace Sys2Proof.Machine

/-! Antenna ports -/

/-- ANT_SHORT (R140): above 55 mA. -/
def execAntShort (port : Fin 4) (milliA : Nat) (s : State) : Host.Outcome State Fault Refusal :=
  .next (onDev (fun d =>
    if d.antBit port abBIAS ∧ milliA > 55 then (d.antCurrent port milliA).antShorted port else d) s)

/-- ANT_BIAS_RETRY (R140): every 1.0 s while BIAS_EN is 1; SHORT clears once a retry has held at 50 mA or less for 1 s. -/
def execAntBiasRetry (port : Fin 4) (milliA : Nat) (s : State) : Host.Outcome State Fault Refusal :=
  .next (onDev (fun d =>
    let p := port.val
    match (d.ant p).retryAt, d.biasEn p with
    | some t, true =>
      let d := (d.toTbm t).antCurrent p milliA
      let d := d.setAnt p abBIAS true
      if milliA > 55 then d.antShorted p
      else
        let held := milliA ≤ 50
        let done : Bool := match (d.ant p).heldSince with | some t0 => held && decide (d.tm.tbm ≥ t0 + 1000000000) | none => false
        let now := d.tm.tbm
        if done then (d.setAnt p abSHORT false).modAnt p (fun x => { x with retryAt := none, heldSince := none })
        else d.modAnt p (fun x => { x with
          retryAt := some (now + 1000000000), heldSince := if held then some (x.heldSince.getD now) else none })
    | _, _ => d) s)

/-- ANT_OPEN (R140): below 3 mA for 100 ms with the bias on; a current that has come back clears OPEN. -/
def execAntOpen (port : Fin 4) (milliA : Nat) (s : State) : Host.Outcome State Fault Refusal :=
  .next (onDev (fun d =>
    let p := port.val
    let d := d.antCurrent p milliA
    if !d.antBit p abBIAS then d
    else if milliA < 3 then
      if d.antBit p abOPEN then d else (d.setAnt p abOPEN true).faultRec pNAV 17 [] objIsPort p
    else d.setAnt p abOPEN false) s)

/-- AGC_UPDATE (R141): every 1 ms; `ratio` is the share of samples whose magnitude bit is 1, in 0.1 %. -/
def execAgcUpdate (port : Fin 4) (ratio : Nat) (s : State) : Host.Outcome State Fault Refusal :=
  .next (onDev (fun d =>
    let p := port.val
    if !d.portEn p || d.clockLost 6 || d.powerState > 1 then d
    else
      let d := match (d.ant p).agcAt with | some t => d.toTbm (t + 1000000) | none => d
      let g := d.fld Reg.NAV_AGC_GAIN (8 * p + 7) (8 * p)
      let g := if ratio > 360 then g - 1 else if ratio < 300 then min (g + 1) 126 else g
      let d := d.setFld Reg.NAV_AGC_GAIN (8 * p + 7) (8 * p) g
      let now := d.tm.tbm
      let atEnd := g = 0 || g = 126
      let d := d.modAnt p (fun x => { x with agcAt := some now, endSince := if atEnd then some (x.endSince.getD now) else none })
      let limit : Bool := match (d.ant p).endSince with | some t => decide (now ≥ t + 100000000) | none => false
      if limit ∧ d.antBit p abAGC = false then (d.setAnt p abAGC true).fault pNAV 18
      else d.setAnt p abAGC limit) s)

/-! Acquisition -/

/-- JOB_PUSH (R146). -/
def execJobPush (req : Requester) (v : W32) (s : State) : Host.Outcome State Fault Refusal :=
  .next (farCmd req Reg.ACQ_JOB_PUSH v actJobPush s)

/-- ACQ_FLUSH (R146). -/
def execAcqFlush (req : Requester) (v : W32) (s : State) : Host.Outcome State Fault Refusal :=
  .next (farCmd req Reg.ACQ_ACQ_FLUSH v actAcqFlush s)

/-- ACQ_JOB_END (R145 to R147): NGRP x NC ms after the job began; with the FIFO full the result waits for room. At the basic
level the firmware reads it (R144). -/
def execAcqJobEnd (res : AcqOutcome) (s : State) : Host.Outcome State Fault Refusal :=
  .next (onDev (fun d =>
    match d.gps.running with
    | none => d
    | some (j, start) =>
      let d := d.toTbm (d.smpTbm (start + j.ngrp * j.nc * 16368))
      let ws := d.acqWords j start res
      let d := if ceilDiv d.gps.results.length 4 < 16 then d.acqResult ws
        else ({ d with gps := { d.gps with running := none, waiting := some (ws, d.tm.tbm) } }).acqShow
      d.fwSearch) s)

/-- ACQ_RESULT_READ (R165). -/
def execAcqResultRead (req : Requester) (words : Nat) (s : State) : Host.Outcome State Fault Refusal :=
  .next (farPort req Reg.ACQ_ACQ_RES_PORT words portAcqRes s)

/-! Tracking channels -/

/-- TC_START (R148). -/
def execTcStart (req : Requester) (ch : Fin 64) (s : State) : Host.Outcome State Fault Refusal :=
  .next (farCmd req (Reg.TC_CMD ch) 1#32 (actTcStart ch) s)

/-- TC_STOP (R150). -/
def execTcStop (req : Requester) (ch : Fin 64) (s : State) : Host.Outcome State Fault Refusal :=
  .next (farCmd req (Reg.TC_CMD ch) 2#32 (actTcStop ch) s)

/-- The dump queue takes an entry: each one drains 20 µs after it came (R151). -/
def Dev.queueDump (d : Dev) (c : Nat) : Dev :=
  let q := d.gps.dumpQ.filter (fun (e : Nat × Nat) => decide (d.tm.tbm < e.2 + 20000) && e.1 ≠ c) ++ [(c, d.tm.tbm)]
  ({ d with gps := { d.gps with dumpQ := q } }).peak Reg.NAV_DUMP_PEAK q.length

/-- The registers of a dump (R167). -/
def Dev.showDump (d : Dev) (c : Nat) (p : Dump) : Dev :=
  let t := p.taps
  let d := [t.veI, t.veQ, t.eI, t.eQ, t.pI, t.pQ, t.lI, t.lQ, t.vlI, t.vlQ].zipIdx.foldl (fun d (x : Int × Nat) => d.wrI (Reg.TAP_VE_I c + 4 * x.2) x.1) d
  let d := (d.wrN (Reg.TC_CODE c) p.code.val).wr64 (Reg.TC_CARR c) ((d.rd64 (Reg.TC_CARR c) + unsigned64 p.carr) % 2 ^ 64)
  ((d.wrI (Reg.TC_DOP c) p.dop).wr (Reg.TC_CN0 c) (sat32 p.cn0)).inc (Reg.TC_DUMP_SEQ c)

/-- What a dump says of the lock and of C/N0 (R149, R150). -/
def Dev.judgeDump (d : Dev) (c cn0 : Nat) : Dev :=
  let lock := meanLock (d.tc c).locks
  let d := d.wr (Reg.TC_LOCK c) (w32i lock &&& 0xFFFF#32)
  let now := d.tm.tbm
  let below := decide (lock * 10 < 6 * 32768)
  let weak := d.tcTracks c && decide (cn0 < d.rdN Reg.NAV_LOSS_CN0)
  let slip := below && !(d.tc c).below
  let good := d.phValid c
  let d := if slip then d.inc (Reg.TC_SLIP c) else d
  d.modTc c (fun x => { x with
    lockRun := if good then x.lockRun + 1 else 0, below := below, slip := x.slip || slip, slipSnap := x.slipSnap || slip
    lowSince := if weak then some (x.lowSince.getD now) else none })

/-- TRACKING_DUMP (R149 to R151): 1 ms after the channel's last one. TC_CFG and TC_LOOP act from the integration that begins (R161). -/
def execTrackingDump (ch : Fin 64) (dump : Dump) (s : State) : Host.Outcome State Fault Refusal :=
  .next (onDev (fun d =>
    let c := ch.val
    if !d.tcActive c || d.clockLost 6 || d.powerState > 1 then d
    else
      let was := (d.tc c).dumpAt
      let d := d.toTbm (was + 1000000)
      let now := d.tm.tbm
      let lost := (now - was) / 1000000 - 1
      let cfg := d.rd (Reg.TC_CFG c)
      let want := tintMs (d.rd (Reg.TC_LOOP c))
      let st := d.tcState c
      let tbs := d.tbs
      let d := (d.showDump c dump).modTc c (fun x =>
        let x := if x.accN = 0 then { x with prn := field cfg 29 24, port := field cfg 31 30 } else x
        x.step st (x.ms + lost) want now tbs dump.taps)
      let x := d.tc c
      let d := if st = tsFRAME then d.wr (Reg.TC_TXMS c) (w32 (2 ^ 31 + (x.ms - x.subAt) % 6000)) else d
      let d := (d.queueDump c).judgeDump c dump.cn0
      if d.portEn x.port then d else d.tcLose c tlANT) s)

/-- TC_PULL_IN_DONE (R150): lock of at least 0.8 for 100 consecutive ms. -/
def execTcPullInDone (ch : Fin 64) (s : State) : Host.Outcome State Fault Refusal :=
  .next (onDev (fun d =>
    if d.tcState ch = tsPULL ∧ (d.tc ch).lockRun ≥ 100 then
      let now := d.tm.tbm
      (d.modTc ch (fun x => { x with trackAt := now })).setTc ch tsTRACK
    else d) s)

/-- TC_BIT_SYNC (R150): the millisecond position `edge` has passed the test over 100 bits. -/
def execTcBitSync (ch : Fin 64) (edge : Nat) (s : State) : Host.Outcome State Fault Refusal :=
  .next (onDev (fun d =>
    if d.tcState ch = tsTRACK ∧ (d.tc ch).bitReady = some edge then
      (d.modTc ch (fun x => { x with bitEdge := some edge, bitReady := none, bits := [], bitAcc := 0, bitN := 0, acc := (0, 0), accN := 0 })).setTc ch tsBIT
    else d) s)

/-- TC_FRAME_SYNC (R155): two preambles 6,000 ms apart, the later one from millisecond `start` of the channel, inverted or not. HALF_CYC is set, inverted preambles move CARR_PH by half a cycle, and TX_MS counts from
the first bit of the subframe. -/
def execTcFrameSync (ch : Fin 64) (inverted : Bool) (start : Nat) (s : State) : Host.Outcome State Fault Refusal :=
  .next (onDev (fun d =>
    let c := ch.val
    if d.tcState c = tsBIT ∧ (d.tc c).synced = some (start, inverted) then
      let d := (d.setTc c tsFRAME).modTc c (fun x => { x with
        half := true, inverted := inverted, subAt := start, missed := 0, wordBits := 0, words := [], prevBits := none, synced := none })
      let d := if inverted then d.wr64 (Reg.TC_CARR c) ((d.rd64 (Reg.TC_CARR c) + 512) % 2 ^ 64) else d
      d.wr (Reg.TC_TXMS c) (w32 (2 ^ 31 + ((d.tc c).ms - start) % 6000))
    else d) s)

/-- TC_PREAMBLE_MISS (R150): two expected preambles in succession are missing. -/
def execTcPreambleMiss (ch : Fin 64) (s : State) : Host.Outcome State Fault Refusal :=
  .next (onDev (fun d => if d.tcState ch = tsFRAME ∧ (d.tc ch).missed ≥ 2 then d.setTc ch tsBIT else d) s)

/-- TC_LOSS (R150): C/N0 below LOSS_CN0 for LOSS_TIME. -/
def execTcLoss (ch : Fin 64) (s : State) : Host.Outcome State Fault Refusal :=
  .next (onDev (fun d =>
    match (d.tc ch).lowSince, d.tcTracks ch with
    | some t, true => (d.toTbm (t + d.rdN Reg.NAV_LOSS_TIME * 1000000)).tcLose ch tlCN0
    | _, _ => d) s)

/-- PULLIN_TIMEOUT (R150). -/
def execPullinTimeout (ch : Fin 64) (s : State) : Host.Outcome State Fault Refusal :=
  .next (onDev (fun d =>
    if d.tcState ch = tsPULL then
      (d.toTbm ((d.tc ch).pullAt + d.rdN Reg.NAV_PULLIN_MAX * 1000000)).tcLose ch tlPULLIN
    else d) s)

/-! Measurements and words -/

/-- Code less carrier range of a channel in mm, up to whole code periods (R153, R182): both phases grow as the range shrinks. -/
def Dev.codeLessCarrier (d : Dev) (c : Nat) : Int :=
  Int.fdiv (d.carrNow c * 19029) 102400 - ((d.codeNow c).2 * 299792458 / codePeriod : Nat)

/-- MEAS_EPOCH (R152 to R154): at the next multiple of 1,636,800 samples. Channels from TRACK on appear in it, by number; the
code ranges of a satellite on several ports are compared (R182). The module then goes on for `lagNs` (log entry 3). -/
def execMeasEpoch (lagNs : Nat) (s : State) : Host.Outcome State Fault Refusal :=
  .next (onDev (fun d =>
    if d.clockLost 6 || d.powerState > 1 then d
    else
      let edge := max (d.gps.lastEpoch + 1636800) (d.smp / 1636800 * 1636800)
      let d := d.toTbm (d.smpTbm edge)
      let d := ({ d with gps := { d.gps with lastEpoch := edge } }).inc Reg.NAV_EPOCH_SEQ
      let cs := (List.range 64).filter d.tcTracks
      let d := if d.bit Reg.NAV_MEAS_CTRL 0 then d.measPush (d.measHeader edge cs.length ++ cs.flatMap d.measRecord) else d
      let d := cs.foldl (fun d c => let v := d.codeLessCarrier c; d.modTc c (fun x => { x with slip := false, range := v })) d
      (if d.mpRuns then d.xcodeCheck else d).advance (lagNs / 10)) s)

/-- MEAS_READ (R154). -/
def execMeasRead (req : Requester) (words : Nat) (s : State) : Host.Outcome State Fault Refusal :=
  .next (farPort req Reg.NAV_MEAS_PORT words portMeas s)

/-- NAV_WORD (R156, R157): the oldest word of the channel that has ended: its number, its bits, and whether the word before it is missing. -/
def execNavWord (ch : Fin 64) (word : Nat) (bits : BitVec 30) (missing : Bool) (s : State) : Host.Outcome State Fault Refusal :=
  .next (onDev (fun d =>
    let c := ch.val
    match (d.tc c).words with
    | w :: r =>
      if d.tcState c ≠ tsFRAME ∨ w.number ≠ word ∨ w.bits ≠ bits ∨ w.prev.isNone ≠ missing then d else
      let entry := d.navwEntry c w
      let d := d.modTc c (fun x => { x with words := r })
      let ctl := d.rd Reg.NAV_NAVW_CTRL
      if bitOf ctl 0 && (!bitOf ctl 1 || d.dedupChannel (d.tc c).prn = some c) then d.navwPush entry else d
    | [] => d) s)

/-- NAVW_READ (R157). -/
def execNavwRead (req : Requester) (words : Nat) (s : State) : Host.Outcome State Fault Refusal :=
  .next (farPort req Reg.NAV_NAVW_PORT words portNavw s)

/-! TB-G and the solution -/

/-- TBG_LOCK (R97, R158): a valid solution, of a time uncertainty of 100 ns or less. -/
def execTbgLock (fix : TimeFix) (s : State) : Host.Outcome State Fault Refusal :=
  .next (onDev (fun d => if fix.uncNs ≤ 100 ∧ d.integ ifSPOOF = false ∧ d.clkSound = true ∧ d.clockLost 6 = false then d.lockTbg fix else d) s)

/-- TBG_RETURN (R101, R185). -/
def execTbgReturn (fix : TimeFix) (s : State) : Host.Outcome State Fault Refusal :=
  .next (onDev (fun d => if d.integ ifSPOOF || !d.clkSound || d.clockLost 6 then d else d.gateReturn fix) s)

/-- SOL_STATUS and the position (R163). -/
def Dev.showSol (d : Dev) (x : NavSol) : Dev :=
  let d := d.wrN Reg.NAV_SOL_STATUS ((if x.fix3d then 2 else 0) + min x.sats 63 * 2 ^ 8 + min x.pdop 65535 * 2 ^ 16)
  if x.fix3d then
    let d := ((d.wrI Reg.NAV_SOL_LAT x.lat).wrI Reg.NAV_SOL_LON x.lon).wrI Reg.NAV_SOL_H x.h
    (d.wr Reg.NAV_SOL_HACC (sat32 x.hacc)).wr Reg.TIME_GPS_UTC x.gpsUtc
  else d

/-- The clock tests of a solution (R184), against the clock as the last unflagged solution left it: they set a flag only while TB-G is
LOCKED, and clear one in every state. -/
def Dev.clkCheck (d : Dev) (x : NavSol) : Dev :=
  let now := d.tm.tbm
  let k := d.gps.clock
  let resid : Int := match k.base with
    | some (t, b, r) => x.bias - (b + divRound (r * (now - t : Nat)) 1000000000)
    | none => 0
  let old := k.past.getLast?.getD (now, x.drift, x.ratio)
  let dDrift := x.drift - old.2.1
  let dRatio := x.ratio - old.2.2
  let d := (d.wrI Reg.INTEG_CLK_RESID resid).wrI Reg.INTEG_CLK_DRIFT_RATE dDrift
  let may := decide (d.tbgState = tbgLocked)
  let jump := decide (resid.natAbs > d.rdN Reg.INTEG_CLK_JUMP_NS) && (may || d.integ ifJUMP)
  let drift := decide (dDrift.natAbs > d.rdN Reg.INTEG_CLK_DRIFT_PPB) && decide (4 * dRatio.natAbs < dDrift.natAbs) && (may || d.integ ifDRIFT)
  let d := if jump || drift then d.fault pINTEG 18 else d
  let clock : ClockTrack := if jump || drift then k else
    { base := some (now, x.bias, x.drift), past := (now, x.drift, x.ratio) :: k.past.filter (fun p => decide (now ≤ p.1 + 1000000000)) }
  let d := { d with gps := { d.gps with
    clock := clock
    clkFlagged := if jump || drift then some (d.gps.clkFlagged.getD now) else none
    clkQuiet := if jump || drift then now else d.gps.clkQuiet } }
  (d.setInteg ifJUMP jump).setInteg ifDRIFT drift

/-- A time since which a condition has stood has reached 10 s (R158, R184). -/
def Dev.tenSeconds (d : Dev) (t : Option Nat) : Bool :=
  match t with
  | some t => decide (d.tm.tbm ≥ t + 10000000000)
  | none => false

/-- NAV_SOLUTION (R158, R184, R186): outputs, the directions of the satellites, the clock tests, and the steering of TB-G. -/
def execNavSolution (sol : NavSol) (s : State) : Host.Outcome State Fault Refusal :=
  .next (onDev (fun d =>
    if !d.mpRuns || d.clockLost 6 then d
    else
      let x := if d.integ ifSPOOF then { sol with fix3d := false, sats := 0 } else sol
      let d := d.showSol x
      let dirs := sol.dirs.foldl (fun (m : SMap (Int × Int × Int)) p => sinsert m (p.1.val + 1) p.2) d.gps.dirs
      let now := d.tm.tbm
      let low := if x.sats < 4 then some (d.gps.lowSats.getD now) else none
      let d := ({ d with gps := { d.gps with dirs := dirs, lowSats := low } }).fwTrim
      let d := if x.fix3d then d.clkCheck x else d
      let good := x.fix3d && decide (x.sats ≥ 4) && d.clkSound
      let enter := good && x.pdop ≤ 600 && x.time.uncNs ≤ 100
      if d.tbgState = tbgLocked ∨ d.tbgState = tbgReturnS then
        if d.tenSeconds d.gps.lowSats || d.tenSeconds d.gps.clkFlagged then d.toHoldover
        else if good then d.takeFix x.time else d
      else if enter then
        if d.tbgState = tbgNone then d.lockTbg x.time else d.gateReturn x.time
      else d) s)

/-! Bursts (R159, R160) -/

/-- The median of a list of numbers, the mean of the middle two where their count is even. -/
def medianI (l : List Int) : Int :=
  let xs := l.mergeSort (fun a b => decide (a ≤ b))
  let n := xs.length
  if n % 2 = 1 then xs.getD (n / 2) 0 else divRound (xs.getD (n / 2 - 1) 0 + xs.getD (n / 2) 0) 2

/-- The detections of a burst that count (R159): satellites of the table, within 2 chips of the prediction, that pass JOB_THR = 2.0 and
BURST_CN0_MIN. -/
def Dev.burstKept (d : Dev) (b : BurstResult) : List (Int × Nat × Nat) :=
  (b.sats.take d.gps.table.length).filter (fun p => p.1.natAbs ≤ 1955 && p.2.1 ≥ 512 && p.2.2 ≥ d.rdN Reg.BURST_BURST_CN0_MIN)

/-- NEAP_BURST (R159, R160): at the next whole second of TB-G. A wake that has come abandons it (R456). -/
def execNeapBurst (burst : BurstResult) (s : State) : Host.Outcome State Fault Refusal :=
  .next (onDev (fun d =>
    if d.powerState ≠ 3 || d.pow.wake ≠ 0 || d.gps.tblUntil.isNone || d.tbgState = tbgNone then d
    else
      let d := d.toTbg (d.nextSecond * 1000000000)
      let kept := d.burstKept burst
      let d := d.inc Reg.BURST_BURST_CNT
      if kept.length ≥ 2 then
        let c := medianI (kept.map (·.1))
        let d := (d.wr Reg.BURST_BURST_FAIL_RUN 0).wrN Reg.BURST_BURST_LAST (kept.length + (c % 65536).toNat * 2 ^ 16)
        if d.tbgState = tbgHoldoverS then
          d.gateReturn ⟨((d.tbg : Int) + c).toNat, d.rdI Reg.CLK_XO_PPB, d.rdI Reg.CLK_TCXO_PPB, d.rdN Reg.TIME_PPS_UNC⟩
        else { d with tm := { d.tm with tbgErrP := -c * pU, burstStep := ceilDiv (c * pU).natAbs 100000000 } }
      else
        let d := (d.inc Reg.BURST_BURST_FAIL_RUN).wrN Reg.BURST_BURST_LAST kept.length
        if d.rdN Reg.BURST_BURST_FAIL_RUN = d.rdN Reg.BURST_BURST_FAIL_MAX then
          ((d.fault pBURST 16).irq pBURST 16).toHoldover
        else d) s)

/-- BURST_TABLE_EXPIRY (R160). -/
def execBurstTableExpiry (s : State) : Host.Outcome State Fault Refusal :=
  .next (onDev (fun d =>
    match d.gps.tblUntil with
    | none => d
    | some t =>
      let d := d.toTbm t
      (({ d with gps := { d.gps with tblUntil := none, table := [] } }).irq pBURST 17).toHoldover) s)

end Sys2Proof.Machine
end

