-- ==== Sys2Proof/Machine/Implement.lean ====
section
/-! DEFINITION. The implement description image (chapter 05): staging, the checks of its verification, what an activation writes, and its
slot in the NOR. -/

namespace Sys2Proof.Machine

/-! The image taken apart (R111, R112, R540) -/

/-- Failure codes of STATUS.FAIL (R138). -/
def vfMAGIC : Nat := 1
def vfFORMAT : Nat := 2
def vfLENGTH : Nat := 3
def vfCRC : Nat := 4
def vfCOUNTS : Nat := 5
def vfRECORD : Nat := 6
def vfMISSING : Nat := 7
def vfCHECK : Nat := 8

/-- The counts of the header. -/
structure ImageCounts where
  ch : Nat
  sec : Nat
  loop : Nat
  body : Nat
  deriving DecidableEq, Repr

/-- A record: its type, its object and its words. -/
abbrev ImageRecord := Nat × Nat × List W32

/-- The size of a record's payload in bytes, and the bits of word 0 that name its object. -/
def recordLen : Nat → Option (Nat × Nat)
  | 1 => some (84, 0)
  | 2 => some (24, 2)
  | 3 => some (16, 2)
  | 4 => some (48, 9)
  | 5 => some (28, 9)
  | 6 => some (20, 9)
  | 7 => some (20, 9)
  | 8 => some (156, 7)
  | 9 => some (12, 6)
  | 10 => some (12, 2)
  | _ => none

/-- The records of an image after its header, none where one is not well formed; `fuel` bounds their number. -/
def parseRecords : Nat → List Byte → Option (List ImageRecord)
  | _, [] => some []
  | 0, _ => none
  | fuel + 1, bs =>
    let ty := beNat (slice bs 0 2)
    let len := beNat (slice bs 2 2)
    match recordLen ty with
    | none => none
    | some (n, bits) =>
      if len ≠ n ∨ bs.length < 4 + n then none
      else
        let ws := wordsBE (slice bs 4 n)
        let obj := if bits = 0 then 0 else field (ws.getD 0 0) (bits - 1) 0
        (parseRecords fuel (bs.drop (4 + n))).map ((ty, obj, ws) :: ·)

/-- The header's fields. -/
def imageCounts (bs : List Byte) : ImageCounts :=
  ⟨beNat (slice bs 56 2), beNat (slice bs 58 2), beNat (slice bs 60 1), beNat (slice bs 61 1)⟩

/-- The registers of the LIMITS record in its order. -/
def limitsRegs : List Nat :=
  [Reg.POSE_POSE_STALE, Reg.POSE_DR_TIME_MAX, Reg.POSE_DR_DIST_MAX, Reg.POSE_POSE_QMIN, Reg.POSE_REV_POLICY, Reg.POSE_STOP_CLOSE,
    Reg.POSE_KAPPA_MAX, Reg.POSE_CAN_LAT_US, Reg.HOST_HOSTLOST_POLICY, Reg.HOST_CONTINUE_MAX, Reg.EDS_DEC_LATE, Reg.BWK_I_SUP_MAX,
    Reg.BWK_T_DERATE, Reg.BWK_T_REFUSE, Reg.BWK_T_CUT, Reg.BWK_HOLD_FLOOR, Reg.MAP_RX_UNIT, Reg.MAP_NOM_RATE 0, Reg.MAP_NOM_RATE 1,
    Reg.MAP_NOM_RATE 2, Reg.MAP_NOM_RATE 3]

/-- The register words that a record gives. -/
def recordWords (r : ImageRecord) : List (Nat × W32) :=
  let o := r.2.1
  let ws := r.2.2
  let from_ (k : Nat) (as : List Nat) : List (Nat × W32) := as.zip (ws.drop k)
  match r.1 with
  | 1 => from_ 0 limitsRegs
  | 4 => from_ 5 ((List.range 7).map (fun i => Reg.CH_CFG o + 4 * i))
  | 5 => from_ 1 (objWords (objSec o))
  | 6 => from_ 1 (objWords (objLat o))
  | 7 => from_ 1 ((List.range 4).map (fun i => Reg.CH_RREF o + 4 * i))
  | 8 =>
    let out := ws.getD 6 0
    from_ 1 (objWords (objLoop o)) ++ (if bindKind out = 2 then from_ 35 (objWords (objCtx (bindIndex out % 16))) else [])
  | 9 => from_ 1 (objWords (objBank o))
  | 10 => from_ 1 (objWords (objRail o))
  | _ => []

/-- The objects that a record configures. -/
def recordObjects (r : ImageRecord) : List Nat := objsOf ((recordWords r).map (·.1))

/-- A number of bits of a word as millimetres. -/
def mmWord (ws : List W32) (i : Nat) : Int := (ws.getD i 0).toInt

/-- The image that records describe. -/
def imageOf (bs : List Byte) (rs : List ImageRecord) : Image :=
  { serial := beNat (slice bs 12 4)
    structHash := slice bs 20 32
    words := rs.flatMap recordWords
    objects := (rs.flatMap recordObjects).foldl setInsert []
    bodies := (rs.filter (fun r => r.1 = 2)).map (fun r =>
      (r.2.1, { trailed := bitOf (r.2.2.getD 0 0) 8, ox := mmWord r.2.2 1, oy := mmWord r.2.2 2, oz := mmWord r.2.2 3,
                yaw := fieldS (r.2.2.getD 4 0) 15 0, len := mmWord r.2.2 5 }))
    feet := (rs.filter (fun r => r.1 = 4)).map (fun r =>
      (r.2.1, { body := field (r.2.2.getD 0 0) 17 16, cx := mmWord r.2.2 1, cy := mmWord r.2.2 2,
                w := (r.2.2.getD 3 0).toNat, d := (r.2.2.getD 4 0).toNat }))
    ants := (rs.filter (fun r => r.1 = 3)).map (fun r =>
      (r.2.1, { body := field (r.2.2.getD 0 0) 9 8, x := mmWord r.2.2 1, y := mmWord r.2.2 2, z := mmWord r.2.2 3 })) }

/-! Verification (R114) -/

/-- The bits of word 0 that a record type defines. -/
def headMask : Nat → W32
  | 2 => 0x103#32
  | 3 => 0x303#32
  | 4 => 0x301FF#32
  | 8 => 0x7F#32
  | 9 => 0x3F#32
  | 10 => 0x3#32
  | 1 => 0xFFFFFFFF#32
  | _ => 0x1FF#32

/-- Fields marked "—" are 0: outside the masks of word 0 and of the registers, and of CH_MODEPAR by mode. -/
def reservedZero (r : ImageRecord) : Bool :=
  let ws := r.2.2
  let mp := ws.getD 10 0
  let mode := field (ws.getD 5 0) 2 0
  (ws.getD 0 0 &&& ~~~(headMask r.1) = 0#32)
  && (recordWords r).all (fun (p : Nat × W32) => match findReg p.1 with
      | some h => p.2 &&& ~~~(w32 h.row.mask) = 0#32
      | none => false)
  && (r.1 ≠ 2 || field (ws.getD 4 0) 31 16 = 0)
  && (r.1 ≠ 4 || ((mode ≠ mVALVE || field mp 15 0 = 0) && (mode ≠ mMETER || field mp 31 8 = 0)))
  && (r.1 ≠ 8 || bindKind (ws.getD 6 0) = 2 || (ws.drop 35).all (fun w => decide (w = 0#32)))

/-- An object lies inside the counts, and a body that is named exists. -/
def indexOk (n : ImageCounts) (r : ImageRecord) : Bool :=
  let w := r.2.2.getD 0 0
  match r.1 with
  | 2 => r.2.1 < n.body && (bitOf w 8 || mmWord r.2.2 5 = 0)
  | 3 => field w 9 8 < n.body
  | 4 => field w 17 16 < n.body
  | _ => true

/-- No two records of one type name one object. -/
def noRepeats (rs : List ImageRecord) : Bool :=
  decide ((rs.map (fun (r : ImageRecord) => (r.1, r.2.1))).Pairwise (· ≠ ·))

/-- The objects of one record type. -/
def objectsOf (rs : List ImageRecord) (ty : Nat) : List Nat := (rs.filter (fun r => r.1 = ty)).map (fun r => r.2.1)

/-- What an image would make of the registers it writes, on a part as it stands. -/
def Dev.imageCand (d : Dev) (im : Image) : Cand :=
  { get := fun a => match im.words.find? (fun (p : Nat × W32) => p.1 = a) with
      | some p => p.2
      | none => if isIdi a then 0#32 else d.rd a
    conf := im.objects.contains
    words := im.words.map (·.1) }

/-- Check 6: every record is well formed and every field in range. -/
def Dev.imageRecordsOk (d : Dev) (n : ImageCounts) (rs : List ImageRecord) (im : Image) : Bool :=
  let c := d.imageCand im
  rs.all (fun r => indexOk n r && reservedZero r) && noRepeats rs
  && ((objectsOf rs 6) ++ (objectsOf rs 7)).all (objectsOf rs 4).contains
  && c.words.all c.rangeOk && (objectsOf rs 4).all c.chanRangeOk
  && (objectsOf rs 5).all (fun k => layerOk (c.fld (0x01014000 + 32 * k) 3 1))

/-- Check 7: the required records are there (R540). -/
def Dev.imageComplete (d : Dev) (n : ImageCounts) (rs : List ImageRecord) (im : Image) : Bool :=
  let c := d.imageCand im
  let chans := objectsOf rs 4
  let live := chans.filter (fun k => c.mode k ≠ mOFF)
  let boosted := chans.filter (fun k => bitOf (c.get (Reg.CH_CFG k)) 3)
  (objectsOf rs 1).length = 1
  && (List.range n.body).all (objectsOf rs 2).contains && ([0, 1, 2, 3] : List Nat).all (objectsOf rs 3).contains
  && chans.length = n.ch && (objectsOf rs 5).length = n.sec && (objectsOf rs 8).length = n.loop
  && live.all (fun k => (objectsOf rs 6).contains k && (objectsOf rs 7).contains k && (objectsOf rs 9).contains (k / 8))
  && boosted.all (fun k => (objectsOf rs 10).contains (railOf k))

/-- Check 8: the cross-field checks of the pages and entries that the fields land in. -/
def Dev.imageChecks (d : Dev) (rs : List ImageRecord) (im : Image) : Bool :=
  let c := d.imageCand im
  let chans := objectsOf rs 4
  let paints (k layer : Nat) : Bool := c.fld (Reg.CH_CFG k) 10 8 = layer && c.mode k ≠ mOFF && c.mode k ≠ mSWITCH
  (chans.map (· / 8)).all c.bankMixOk && chans.all c.chanOk && (objectsOf rs 6).all c.latEntryOk && (objectsOf rs 5).all c.secEntryOk
  && c.bwkOk && (objectsOf rs 8).all (fun l => c.loopEntryOk l && c.loopBindOk l)
  && ([0, 1, 2, 3] : List Nat).all (fun k => !chans.any (paints · k) || c.num (Reg.MAP_NOM_RATE k) ≠ 0)

/-- The verdict on a staged image: the first check that fails, or the image. -/
def Dev.verdict (d : Dev) (bs : List Byte) : Nat ⊕ Image :=
  let len := beNat (slice bs 8 4)
  let n := imageCounts bs
  if slice bs 0 4 ≠ [0x49, 0x44, 0x49, 0x31] then .inl vfMAGIC
  else if beNat (slice bs 4 2) ≠ 1 then .inl vfFORMAT
  else if len ≠ bs.length ∨ len < 64 then .inl vfLENGTH
  else if beNat (slice bs 16 4) ≠ crc32 (bs.drop 64) then .inl vfCRC
  else if n.ch > 512 ∨ n.sec > 512 ∨ n.loop > 128 ∨ n.body = 0 ∨ n.body > 4 then .inl vfCOUNTS
  else match parseRecords bs.length (bs.drop 64) with
    | none => .inl vfRECORD
    | some rs =>
      let im := imageOf bs rs
      if !d.imageRecordsOk n rs im then .inl vfRECORD
      else if !d.imageComplete n rs im then .inl vfMISSING
      else if !d.imageChecks rs im then .inl vfCHECK
      else .inr im

/-! Staging (R113, R114, R117) -/

def ssEMPTY : Nat := 0
def ssSTAGED : Nat := 1
def ssVERIFIED : Nat := 2
def ssFAILED : Nat := 3
def Dev.stageState (d : Dev) : Nat := d.fld Reg.IMP_STAGE_STATE 1 0

/-- The bytes of the staging buffer. -/
def Dev.stagedBytes (d : Dev) : List Byte := d.imp.staged.reverse.flatMap bytesBE

/-- Fill the staging buffer with words, newest first, in a state of it; a verification of it is gone. -/
def Dev.setStaged (d : Dev) (ws : List W32) (st : Nat) : Dev :=
  let d := { d with imp := { d.imp with staged := ws, verified := none } }
  (d.wrN Reg.IMP_STAGE_LEN (4 * ws.length)).wrN Reg.IMP_STAGE_STATE st

/-- No verification and no NOR operation is in progress (R138). -/
def Dev.impFree (d : Dev) : Bool := !d.stat pIMP 16 && !d.stat pIMP 17

/-- STAGE_PORT: a burst is taken whole or not at all. -/
def actStage : BurstAct := fun ws s =>
  let d := s.dev
  if d.stat pIMP 16 || 4 * (d.imp.staged.length + ws.length) > 4194304 then (.len, 0, onDev (·.lenReject pIMP) s)
  else (.ok, ws.length, onDev (fun d => d.setStaged (ws.reverse ++ d.imp.staged) ssSTAGED) s)

def execStageWrite (req : Requester) (data : List W32) (s : State) : Host.Outcome State Fault Refusal :=
  .next (hostBurst req Reg.IMP_STAGE_PORT data actStage s)

/-- IDI_CMD: 1 empties, 2 verifies, 3 stores, 4 erases. -/
def actIdiCmd (v : W32) : Act :=
  match v.toNat with
  | 1 => actIf Reg.IMP_IDI_CMD Dev.impFree (·.setStaged [] ssEMPTY)
  | 2 => actIf Reg.IMP_IDI_CMD Dev.impFree (·.setStat pIMP 16 true)
  | 3 => actIf Reg.IMP_IDI_CMD (fun d => d.impFree && d.stageState = ssVERIFIED)
      (fun d => { d.setStat pIMP 17 true with
        imp := { d.imp with norBusy := some 3, norCopy := d.imp.staged.reverse, norSerial := d.rd Reg.IMP_STAGED_SERIAL } })
  | _ => actIf Reg.IMP_IDI_CMD Dev.impFree
      (fun d => { d.setStat pIMP 17 true with imp := { d.imp with norBusy := some 4 } })

def execIdiEmpty (req : Requester) (s : State) : Host.Outcome State Fault Refusal := .next (hostCmd req Reg.IMP_IDI_CMD 1#32 (actIdiCmd 1#32) s)
def execIdiVerify (req : Requester) (s : State) : Host.Outcome State Fault Refusal := .next (hostCmd req Reg.IMP_IDI_CMD 2#32 (actIdiCmd 2#32) s)
def execIdiStore (req : Requester) (s : State) : Host.Outcome State Fault Refusal := .next (hostCmd req Reg.IMP_IDI_CMD 3#32 (actIdiCmd 3#32) s)
def execIdiErase (req : Requester) (s : State) : Host.Outcome State Fault Refusal := .next (hostCmd req Reg.IMP_IDI_CMD 4#32 (actIdiCmd 4#32) s)

/-- A verification ends (R114): the state and code, the hash of the whole image, the serial, and the interrupt. -/
def Dev.verifyEnds (d : Dev) : Dev :=
  let bs := d.stagedBytes
  let d := (sha256 bs).zipIdx.foldl (fun d (p : W32 × Nat) => d.wr (Reg.IMP_STAGE_HASH p.2) p.1) d
  let d := d.wrN Reg.IMP_STAGED_SERIAL (beNat (slice bs 12 4))
  let d := match d.verdict bs with
    | .inl code => (d.setFld (Reg.STATUS pIMP) 23 20 code).wrN Reg.IMP_STAGE_STATE ssFAILED
    | .inr im => { (d.setFld (Reg.STATUS pIMP) 23 20 0).wrN Reg.IMP_STAGE_STATE ssVERIFIED with imp := { d.imp with verified := some im } }
  (d.setStat pIMP 16 false).irq pIMP 16

/-- VERIFICATION_COMPLETE (R114, R117): after a power-on or WAKE reset the stored image is staged first; an empty slot leaves the buffer
empty and raises nothing. -/
def execVerificationComplete (s : State) : Host.Outcome State Fault Refusal :=
  .next (onDev (fun d =>
    let boot := d.imp.booting
    let d := { d with imp := { d.imp with booting := false } }
    if !d.stat pIMP 16 then d
    else if !boot then d.verifyEnds
    else if d.imp.nor = [] then d.setStat pIMP 16 false
    else (d.setStaged d.imp.nor.reverse ssSTAGED).verifyEnds) s)

/-- NOR_OP_COMPLETE (R117). -/
def execNorOpComplete (s : State) : Host.Outcome State Fault Refusal :=
  .next (onDev (fun d =>
    match d.imp.norBusy with
    | none => d
    | some k =>
      let ws := if k = 3 then d.imp.norCopy else []
      let serial := if k = 3 then d.imp.norSerial else 0#32
      let d := { d with imp := { d.imp with nor := ws, norBusy := none, norCopy := [] } }
      ((d.wr Reg.IMP_STORED_SERIAL serial).setStat pIMP 17 false).irq pIMP 17) s)

/-! Activation (R115, R116) -/

/-- Why an activation is refused: not verified, or another structure while a metered channel is on or an edge is queued. -/
def Dev.activationCause (d : Dev) : Nat :=
  if d.stageState ≠ ssVERIFIED then 1
  else match d.imp.verified, d.imp.active with
    | some new, some old => if new.structHash = old.structHash then 0 else busy
    | _, _ => busy
where
  /-- Outputs are active. -/
  busy : Nat :=
    if d.drv.ch.any (fun (p : Nat × Chan) => (d.metered p.1 && phaseOn p.2.phase) || !p.2.queue.isEmpty || !p.2.next.isEmpty) then 2 else 0

/-- The body terms of BSS take the image's nominal values (R116, R187). -/
def Dev.nominalGeometry (d : Dev) (im : Image) : Dev :=
  let d := ([1, 2, 3] : List Nat).foldl (fun d b =>
    let x : Body := ((im.bodies.find? (fun (p : Nat × Body) => p.1 = b)).map (·.2)).getD {}
    [x.ox, x.oy, x.yaw, 0, 0, 0].zipIdx.foldl (fun d (t : Int × Nat) => d.wrBoth (termAddr b t.2) (termWord t.2 t.1)) d) d
  d.wrN Reg.BSS_GEO_SRC 0

/-- The learned latency of a channel starts from its nominal value where its mode or that value changed, or where it was 0 (R263);
`old` is the part before the image. -/
def Dev.startLatency (old d : Dev) (c : Nat) : Dev :=
  let nom := d.rd (Reg.LATT_NOM c)
  let was := old.rd (Reg.LATT_NOM c)
  let changed := field (d.cut (Reg.CH_CFG c)) 2 0 ≠ old.mode c
  let put (d : Dev) (a hi lo : Nat) : Dev :=
    if changed ∨ field nom hi lo ≠ field was hi lo ∨ d.fld a 23 0 = 0 then d.wrBoth a (w32 (field nom hi lo * 160)) else d
  put (put d (Reg.LAT_ON c) 15 0) (Reg.LAT_OFF c) 31 16

/-- A channel whose mode the image changes starts its energy and time to peak afresh (R330). -/
def Dev.startThermal (old d : Dev) (c : Nat) : Dev :=
  if field (d.cut (Reg.CH_CFG c)) 2 0 = old.mode c then d
  else
    let e := d.rdN Reg.BWK_E_INIT * 65536
    let t := field (d.cut (Reg.CH_TTP c)) 31 16 * 65536
    let x := sget (fun _ => ({} : ThermChan)) d.bwk.ch c
    { d with bwk := { d.bwk with ch := sset (fun _ => {}) d.bwk.ch c { x with eEst := e, ttpEst := t } } }

/-- Two images have the same records of a kind, in whatever order they stand (R540). -/
def sameRecords [DecidableEq α] (a b : List α) : Bool := a.all (fun x => b.any (fun y => decide (x = y))) && b.all (fun x => a.any (fun y => decide (x = y)))

/-- What an activating turn does beside the image's register words, which cross to their domains with the commits (R116): `old` is the part
before them, and `d` the part with them. -/
def Dev.activate (old d : Dev) (im : Image) : Dev :=
  let before := d.imp.active
  let chans := im.feet.map (·.1)
  let d := chans.foldl (fun d c => (old.startLatency d c |> fun d => old.startThermal d c)) d
  let geo := match before with
    | none => true
    | some b => !sameRecords b.bodies im.bodies || !sameRecords b.ants im.ants
  let d := if geo then d.nominalGeometry im else d
  let d := if geo then { d with gps := { d.gps with fitted := [], heldSince := [] } } else d
  let d := if geo && before.isSome then d.blLoseAll 6 else d
  let hash := (List.range 8).map (fun i => d.rd (Reg.IMP_STAGE_HASH i))
  let d := hash.zipIdx.foldl (fun d (p : W32 × Nat) => d.wr (Reg.IMP_ACTIVE_HASH p.2) p.1) d
  let d := d.setMeas 4 hash
  let d := (d.wrBoth Reg.IMP_IDI_ACTIVATE 0#32).inc Reg.IMP_IDI_ACT_CNT
  let was := d.rd Reg.IMP_ACTIVE_SERIAL
  let d := d.wrN Reg.IMP_ACTIVE_SERIAL im.serial
  let d := { d with imp := { d.imp with active := some im }, conf := im.objects.foldl setInsert [] }
  (d.setFld (Reg.STATUS pIMP) 27 24 0).recOther pIMP [was, w32 im.serial]

end Sys2Proof.Machine
end

