-- ==== Sys2Proof/Machine/Commit.lean ====
section
/-! DEFINITION. The swap of pending copies to active ones (chapters 02 and 03): which words a page commits, the fit check, the acceptance or
refusal of independent pages and of a released group, the crossing into each clock domain, and what a commit does besides. -/

namespace Sys2Proof.Machine

/-! What a page commits -/

/-- An offset of a page's expert range (R28), with the loop entries of LPE (R397). -/
def expertOf (p a : Nat) : Bool :=
  (a < 0x00100000 && 0x400 ≤ a % 0x1000 && a % 0x1000 < 0xF00
    && (a / 0x1000 = p || (p = 0x010 && 0x010 ≤ a / 0x1000 && a / 0x1000 ≤ 0x013)))
  || (p = 0x080 && lptExpert a)

/-- A register that holds a setting. -/
def isSetting (a : Nat) : Bool :=
  match findReg a with
  | some h => decide (h.row.acc = .rw ∨ h.row.acc = .rwt)
  | none => false

/-- What an expert word is at the basic level (R29): the value of the active image, else its reset value. -/
def Dev.derivedWord (d : Dev) (a : Nat) : W32 :=
  match d.imp.active.bind (fun im => im.words.find? (fun (p : Nat × W32) => p.1 = a)) with
  | some p => p.2
  | none => resetWord a

/-- The words that a page's commit makes active: its pending ones, and at the turn at which MODE becomes 0 the derived value of every
expert word (R29). -/
def Dev.commitWords (d : Dev) (p : Nat) : List (Nat × W32) :=
  let own := (d.pendOf p).map (fun (q : Nat × W32) =>
    (q.1, if isModepar q.1 then q.2 &&& modeparMask (field (d.pending (q.1 - 0x14)) 2 0) else q.2))
  let toBasic := bitOf (d.cut (Reg.MODE p)) 0 && !bitOf (d.pending (Reg.MODE p)) 0
  if toBasic then
    let image : List Nat := match d.imp.active with
      | some im => im.words.map (fun (q : Nat × W32) => q.1)
      | none => []
    let held := ((d.regs.map (fun (q : Nat × W32) => q.1)) ++ image).filter (fun a => expertOf p a && isSetting a)
    let back := (held.foldl setInsert []).map (fun a => (a, d.derivedWord a))
    own.filter (fun (q : Nat × W32) => !expertOf p q.1) ++ back.filter (fun (q : Nat × W32) => d.cut q.1 ≠ q.2)
  else own

/-- A commit to be checked: its page and words, with the image where the page is IMP and activates one. -/
structure Commit where
  page : Nat
  words : List (Nat × W32)
  image : Option Image := none

/-- Image words, and zero for every field of an object that the image does not describe (R541). -/
def Dev.imageWords (d : Dev) (im : Image) : List (Nat × W32) :=
  let gone := d.regs.filter (fun (q : Nat × W32) => (objOf q.1).any (fun o => !im.objects.contains o))
  im.words ++ gone.map (fun (q : Nat × W32) => (q.1, 0#32))

/-- The commit of an armed page as it stands. -/
def Dev.commitOf (d : Dev) (p : Nat) : Commit :=
  if p = pIMP ∧ bitOf (d.pending Reg.IMP_IDI_ACTIVATE) 0 = true then
    ⟨p, (d.commitWords p).filter (fun (q : Nat × W32) => q.1 ≠ Reg.IMP_IDI_ACTIVATE), d.imp.verified⟩
  else ⟨p, d.commitWords p, none⟩

/-- Activation is asked for. -/
def Dev.activates (d : Dev) (p : Nat) : Bool := p = pIMP && bitOf (d.pending Reg.IMP_IDI_ACTIVATE) 0

/-- Every word of a commit with its image. A page's own word stands against the image only where the image gives none (R116). -/
def Dev.allWords (d : Dev) (c : Commit) : List (Nat × W32) :=
  match c.image with
  | none => c.words
  | some im => d.imageWords im ++ c.words

/-- What commits together would make; the image's objects replace the configured ones, and each commit adds what it gives values to. -/
def Dev.candOf (d : Dev) (cs : List Commit) (words : List Nat) : Cand :=
  let all := cs.flatMap d.allWords
  let im := cs.findSome? (·.image)
  let added := objsOf ((cs.flatMap (·.words)).map (fun (p : Nat × W32) => p.1))
  let had (o : Nat) : Bool := match im with | some i => i.objects.contains o | none => d.conf.contains o
  { get := fun a => match all.find? (fun (p : Nat × W32) => p.1 = a) with
      | some p => p.2
      | none => d.cut a
    conf := fun o => added.contains o || had o
    words := words
    all := cs.flatMap (fun c => c.words.map (fun (p : Nat × W32) => p.1))
    had := had }

def wordAddrs (ws : List (Nat × W32)) : List Nat := ws.map (fun (p : Nat × W32) => p.1)

/-! The fit check (R75) -/

/-- The fit check of a turn's commits: FIT_STATUS and FIT_COST, and whether it passed. -/
def Dev.fitCheck (d : Dev) (cs : List Commit) : Dev × Bool :=
  let c := d.candOf cs []
  let st := c.overBudget + (if c.capacityOk then 0 else 32)
  let d := c.costs.zipIdx.foldl (fun d (p : Nat × Nat) => d.wrN (Reg.FRM_FIT_COST p.2) p.1) d
  (d.wrN Reg.FRM_FIT_STATUS st, st = 0)

/-- A failed fit check refuses a page whose commit changes what it judges. -/
def Dev.fitRefuses (d : Dev) (cs : List Commit) (c : Commit) : Bool := d.changesFit (d.candOf cs (wordAddrs (d.allWords c)))

/-! Acceptance and refusal -/

/-- A refused commit (R26). -/
def Dev.refusePage (d : Dev) (p : Nat) : Dev :=
  (((d.wrN (Reg.TURN_ARM p) 0).setStat p sREJECTED true).fault p fCFG).irq p 0

/-- An accepted commit leaves for its domains (R24, R67, R69): the pending copies equal the active ones, TURN_SEQ and TURN_ARM follow the
cut. -/
def Dev.send (d : Dev) (p : Nat) (ws : List (Nat × W32)) (group : Bool) : Dev :=
  let here := ws.filter (fun (q : Nat × W32) => pageDomain (ownerPage q.1) = .ckSys)
  let away := ws.filter (fun (q : Nat × W32) => pageDomain (ownerPage q.1) ≠ .ckSys)
  let dom := pageDomain p
  let cut := fun (k : Domain) => away.filter (fun (q : Nat × W32) => pageDomain (ownerPage q.1) = k)
  let part (k : Domain) : List Crossing :=
    if k = dom then [⟨p, k, cut k, group, true⟩]
    else if k = .ckSense ∧ twoDomains p = true then [⟨p, k, [], group, false⟩]
    else if (cut k).isEmpty then [] else [⟨p, k, cut k, group, false⟩]
  let xs := ([.ckLoop, .ckNet, .ckCan, .ckEdge, .ckSense, .ckNav, .ckAon] : List Domain).flatMap part
  let d := { d with cross := d.cross ++ xs }.putWords here
  if dom = .ckSys then d.irq p 0 else d

/-- The effects that come with the commit of some pages: the grid of a new T_F with the periods of the loops (R74, R387), the job origin (R134), the geometry set (R178) and
the polygons (R218). `old` is the part before the commit, `k` the number of the turn. -/
def Dev.pageHooks (old d : Dev) (p : Nat) (ws : List (Nat × W32)) (k : Nat) : Dev :=
  match p with
  | 0x002 =>
    if d.rd Reg.FRM_TF_SEL ≠ old.rd Reg.FRM_TF_SEL then
      ((d.wr64 Reg.FRM_TF_ORIGIN (d.rd64 Reg.FRM_TURN_TBS)).wr64 Reg.FRM_ORIGIN_SEQ k).periodsChanged
    else d
  | 0x008 =>
    if old.pose.originWritten then { d.setStat pPOSE 16 true with pose := { d.pose with originWritten := false } } else d
  | 0x00A =>
    if old.publishesSet (old.candOf [⟨p, ws, none⟩] []) then
      let own := d.gps.setEpoch = some (d.rd64 Reg.BSS_GEO_EPOCH)
      ((d.wrN Reg.BSS_GEO_SRC (if own then 1 else 2)).irq pBSS 18).setStat pBSS 16 false
    else d
  | 0x010 => if old.bit (Reg.MODE 0x010) 0 ∧ ws.any (fun (q : Nat × W32) => q.1 = Reg.MODE 0x010 && !bitOf q.2 0) then d.fwAdopt else d.fwTrim
  | 0x012 => if ws.any (fun (q : Nat × W32) => q.1 = Reg.INTEG_INTEG_POLICY && !bitOf q.2 1) then d.gateOpen else d
  | 0x020 => { d with map := { d.map with poly := d.map.polyPend } }
  | _ => d

/-- A page's commit is accepted at turn `k`. -/
def Dev.acceptPage (d : Dev) (c : Commit) (group : Bool) (k : Nat) : Dev :=
  let old := d
  let ws := d.allWords c
  let clears (a : Nat) : Bool := ownerPage a = c.page || (c.image.isSome && isIdi a && a / 0x1000 ≠ pBSS)
  let d := { d with
    pend := d.pend.filter (fun (q : Nat × W32) => !clears q.1)
    conf := (objsOf (wordAddrs c.words)).foldl setInsert d.conf }
  let d := (d.wrN (Reg.TURN_ARM c.page) 0).wr (Reg.TURN_SEQ c.page) (lo32 k)
  let d := d.send c.page ws group
  let d := Dev.pageHooks old d c.page c.words k
  match c.image with
  | some im => Dev.activate old d im
  | none => d

/-- A commit passes its page's own checks among the commits it takes effect with (R26). -/
def Dev.commitOk (d : Dev) (cs : List Commit) (c : Commit) : Bool :=
  d.pageOk (d.candOf cs (wordAddrs c.words)) (d.rd64 Reg.FRM_TURN_TBS) c.page

/-- Why an activation is refused (R115): its own causes, then the fit check; 0 where it is not. -/
def Dev.actCause (d : Dev) (fitFails : Bool) : Nat := if d.activationCause ≠ 0 then d.activationCause else if fitFails then 3 else 0

/-- One armed page on its own. -/
def Dev.commitOne (d : Dev) (cs : List Commit) (fit : Bool) (p k : Nat) : Dev :=
  let c := d.commitOf p
  let fails := !fit && d.fitRefuses cs c
  if d.activates p ∧ d.actCause fails ≠ 0 then (d.setFld (Reg.STATUS pIMP) 27 24 (d.actCause fails)).refusePage p
  else if fails || !d.commitOk [c] c then d.refusePage p
  else d.acceptPage c false k

/-- IMP goes first where it activates, so that the image's words stand before the other pages' own (R116). -/
def Dev.armedPages (d : Dev) : List Nat :=
  let ps := allPages.filter (fun p => d.bit (Reg.TURN_ARM p) 0)
  ps.filter (fun p => d.activates p) ++ ps.filter (fun p => !d.activates p)

/-- Every armed page on its own (R24, R26). -/
def Dev.commitEach (d : Dev) (k : Nat) : Dev :=
  let ps := d.armedPages
  if ps.isEmpty then d
  else
    let cs := ps.map d.commitOf
    let r := d.fitCheck cs
    ps.foldl (fun d p => d.commitOne cs r.2 p k) r.1

/-- The page that refuses a group, if any (R71), and the cause where it is an activation. -/
def Dev.groupRefuser (d : Dev) (cs : List Commit) (fit : Bool) : Option (Nat × Nat) :=
  cs.findSome? (fun c =>
    let fails := !fit && d.fitRefuses cs c
    if d.activates c.page ∧ d.actCause fails ≠ 0 then some (c.page, d.actCause fails)
    else if fails || !d.commitOk cs c then some (c.page, 0) else none)

/-- A refused group (R71). -/
def Dev.refuseGroup (d : Dev) (ps : List Nat) (by_ : Nat × Nat) : Dev :=
  let d := ps.foldl (fun d p => d.refusePage p) d
  let d := if by_.2 ≠ 0 then d.setFld (Reg.STATUS pIMP) 27 24 by_.2 else d
  ((((d.setStat pFRM sREJECTED true).fault pFRM fCFG).irq pFRM 0).irq pFRM 16).recOther pFRM [w32 by_.1]

/-- The pages of a released group commit together or not at all (R70, R71, R73). -/
def Dev.commitGroup (d : Dev) (k : Nat) : Dev :=
  let d := { d.wrN Reg.FRM_GLOBAL_HOLD 0 with frm := { d.frm with goPending := false, holdTurns := 0 } }
  let ps := d.armedPages
  if ps.isEmpty then d.irq pFRM 16
  else
    let cs := ps.map d.commitOf
    let r := d.fitCheck cs
    match r.1.groupRefuser cs r.2 with
    | some why => r.1.refuseGroup ps why
    | none => (cs.foldl (fun d c => d.acceptPage (if c.image.isSome then c else d.commitOf c.page) true k) r.1).groupShow

/-- A gathering has lasted GATHER_MAX turns (R72). -/
def Dev.gatherExpired (d : Dev) : Bool := d.bit Reg.FRM_GLOBAL_HOLD 0 && !d.frm.goPending && decide (d.frm.holdTurns ≥ d.rdN Reg.FRM_GATHER_MAX)

/-- It ends: hold and arms are cleared, the pending copies stay. -/
def Dev.gatherEnds (d : Dev) : Dev :=
  let d := (d.armedPages).foldl (fun d p => d.wrN (Reg.TURN_ARM p) 0) d
  let d := { d.wrN Reg.FRM_GLOBAL_HOLD 0 with frm := { d.frm with holdTurns := 0 } }
  d.faultRec pFRM 18

/-- The commits of turn `k`. -/
def Dev.commits (d : Dev) (k : Nat) : Dev :=
  let d := if d.gatherExpired then d.gatherEnds else d
  if d.frm.goPending then d.commitGroup k
  else if d.bit Reg.FRM_GLOBAL_HOLD 0 then { d with frm := { d.frm with holdTurns := d.frm.holdTurns + 1 } }
  else d.commitEach k

end Sys2Proof.Machine
end

