-- ==== Sys2Proof/Machine/Geometry.lean ====
section
/-! DEFINITION. The commands of antenna consistency and boom geometry (chapter 07). -/

namespace Sys2Proof.Machine

/-- BASELINE_SNAPSHOT (R152, R168 to R178, R183): at the next multiple of 818,400 samples, the baselines, the direction test, and the fit of
the bending model. -/
def execBaselineSnapshot (snap : BaselineSet) (s : State) : Host.Outcome State Fault Refusal :=
  .next (onDev (fun d =>
    if !d.mpRuns || d.clockLost 6 then d
    else
      let edge := max (d.gps.lastSnap + 818400) (d.smp / 818400 * 818400)
      let d := d.toTbm (d.smpTbm edge)
      let d := [(1, snap.bl1), (2, snap.bl2), (3, snap.bl3)].foldl (fun d (p : Nat × BaselineSearch) => d.blStep p.1 p.2) d
      let d := d.directionTest.geoFit
      let tc := d.gps.tc.map (fun (p : Nat × TcChan) => (p.1, { p.2 with slipSnap := false }))
      { d with gps := { d.gps with lastSnap := edge, tc := tc.filter (fun p => p.2 ≠ {}) } }) s)

/-- One channel's DISTORT metric in 10^-4 (R182), the mean since the last check: excluded, and cleared after 5 s below the threshold. -/
def Dev.distortCheck (d : Dev) (c : Nat) : Dev :=
  let now := d.tm.tbm
  let x := d.tc c
  let d := d.modTc c (fun x => { x with distSum := 0, distN := 0 })
  if x.distN ≠ 0 ∧ x.distSum / x.distN > d.rdN Reg.INTEG_DIST_THR * 100 then
    (d.modTc c (fun x => { x with distortAt := some now })).setMapBit Reg.INTEG_CH_EXCL c true
  else match x.distortAt with
    | some t =>
      if now ≥ t + 5000000000 then
        (d.modTc c (fun x => { x with distortAt := none })).setMapBit Reg.INTEG_CH_EXCL c x.ccd
      else d
    | none => d

/-- One channel's CCD change over 10 s (R182), from the ranges of its epochs at the checks: excluded until its next START. -/
def Dev.ccdCheck (d : Dev) (c : Nat) : Dev :=
  let x := d.tc c
  let ranges := x.range :: x.ranges.take 10
  let d := d.modTc c (fun x => { x with ranges := ranges })
  match ranges[10]? with
  | some old =>
    let change := (x.range - old + 149896229) % 299792458 - 149896229
    if change.natAbs > d.rdN Reg.INTEG_CCD_THR then (d.modTc c (fun x => { x with ccd := true })).setMapBit Reg.INTEG_CH_EXCL c true else d
  | none => d

/-- C/N0 of the channels that track, on one port or on all, in 0.1 dB-Hz; the mean and the standard deviation of such a list. -/
def Dev.portCn0 (d : Dev) (p : Nat) : List Nat :=
  ((List.range 64).filter (fun c => d.tcTracks c && decide ((d.tc c).port = p))).map (fun c => d.rdN (Reg.TC_CN0 c))
def Dev.allCn0 (d : Dev) : List Nat := [0, 1, 2, 3].flatMap d.portCn0
def meanOf (l : List Nat) : Nat := l.sum / max 1 l.length
def deviationOf (l : List Nat) : Nat := isqrt (l.length * (l.map (fun v => v * v)).sum - l.sum * l.sum) / max 1 l.length

/-- CN0_FLAT of a port (R182): at least five channels, all at 45 dB-Hz or more, with a small spread, for 10 s. -/
def Dev.flatNow (d : Dev) (p : Nat) : Bool :=
  let l := d.portCn0 p
  decide (l.length ≥ 5) && l.all (fun v => decide (v ≥ 450)) && decide (deviationOf l < d.rdN Reg.INTEG_CN0_SD_MIN)

/-- JAM and POWER (R182): the gain of at least three ports AGC_DROP below its mean over 60 s; the mean C/N0 3 dB below its own, or not below. -/
def Dev.gainTest (d : Dev) : Bool × Bool × Dev :=
  let gains := [0, 1, 2, 3].map (fun p => d.fld Reg.NAV_AGC_GAIN (8 * p + 7) (8 * p))
  let fallen := ([0, 1, 2, 3].filter (fun p =>
    d.gps.gains ≠ [] && decide (gains.getD p 0 + d.rdN Reg.INTEG_AGC_DROP ≤ meanOf (d.gps.gains.map (fun g => g.getD p 0))))).length ≥ 3
  let now := meanOf d.allCn0
  let was := if d.gps.cn0s = [] then now else meanOf d.gps.cn0s
  (fallen && decide (now + 30 ≤ was), fallen && decide (was ≤ now),
    { d with gps := { d.gps with gains := gains :: d.gps.gains.take 59, cn0s := now :: d.gps.cn0s.take 59 } })

/-- An advisory flag: set by its test, cleared when the test has passed for 60 s (R191). -/
def Dev.advisory (d : Dev) (flag : Nat) (hit : Bool) (since : Option Nat) : Dev × Option Nat :=
  let now := d.tm.tbm
  if hit then (d.setInteg flag true, none)
  else match since with
    | none => (d, some now)
    | some t => if now ≥ t + 60000000000 then (d.setInteg flag false, some t) else (d, some t)

/-- INTEGRITY_CHECK (R182): the 1 Hz checks. The module then goes on for `lagNs` (log entry 3). -/
def execIntegrityCheck (lagNs : Nat) (s : State) : Host.Outcome State Fault Refusal :=
  .next (onDev (fun d =>
    if !d.mpRuns || d.clockLost 6 then d
    else
      let d := match d.gps.checkAt with | some t => d.toTbm (t + 1000000000) | none => d
      let now := d.tm.tbm
      let d := { d with gps := { d.gps with checkAt := some now } }
      let d := ((List.range 64).filter d.tcTracks).foldl (fun d c => (d.distortCheck c).ccdCheck c) d
      let d := d.setInteg ifDISTORT ((List.range 64).any (fun c => (d.tc c).distortAt.isSome))
      let d := d.setInteg ifCCD ((List.range 64).any (fun c => (d.tc c).ccd))
      let d := d.wrN Reg.INTEG_CN0_SD ((List.range 4).foldl (fun a p => a + min (deviationOf (d.portCn0 p)) 255 * 2 ^ (8 * p)) 0)
      let since := ([0, 1, 2, 3].filter d.flatNow).map (fun p => (p, (sfind d.gps.flatSince p).getD now))
      let d := { d with gps := { d.gps with flatSince := since } }
      let r := d.advisory ifFLAT (since.any (fun p => decide (now ≥ p.2 + 10000000000))) d.gps.flatPass
      let d := { r.1 with gps := { r.1.gps with flatPass := r.2 } }
      let g := d.gainTest
      let d := if g.1 then g.2.2.fault pINTEG 17 else g.2.2
      let d := d.setInteg ifJAM g.1
      let r := d.advisory ifPOWER g.2.1 d.gps.powerPass
      { r.1 with gps := { r.1.gps with powerPass := r.2 } }.advance (lagNs / 10)) s)

/-- CLK_GATE_RELEASE (R185): CLK_QUIET seconds without a clock flag, none of which stands. -/
def execClkGateRelease (s : State) : Host.Outcome State Fault Refusal :=
  .next (onDev (fun d =>
    if d.gps.gated.isSome && d.clkSound && !d.clockLost 6 then (d.toTbm (d.gps.clkQuiet + d.rdN Reg.INTEG_CLK_QUIET * 1000000000)).gateOpen else d) s)

/-- INTEG_CMD = 1 and 2 (R185, R191). -/
def actAcceptClock : Act := actDev Dev.gateOpen
def actClearAdvisory : Act := actDev (fun d => (d.setInteg ifFLAT false).setInteg ifPOWER false)

/-- ACCEPT_CLOCK. -/
def execAcceptClock (req : Requester) (s : State) : Host.Outcome State Fault Refusal :=
  .next (farCmd req Reg.INTEG_INTEG_CMD 1#32 actAcceptClock s)

/-- CLEAR_ADVISORY. -/
def execClearAdvisory (req : Requester) (s : State) : Host.Outcome State Fault Refusal :=
  .next (farCmd req Reg.INTEG_INTEG_CMD 2#32 actClearAdvisory s)

end Sys2Proof.Machine
end

