-- ==== Sys2Proof/Machine/Loops.lean ====
section
/-! DEFINITION. The commands of the loop engine and of the soundings (chapter 15). -/

namespace Sys2Proof.Machine

/-- A missed evaluation (R371): the sample is lost and the previous output published once more. -/
def Dev.evalMissed (d : Dev) (l : Nat) : Dev :=
  let d := (d.modLoop l (fun x => { x with latched := none, nextOut := none })).publish l (d.rd (Reg.LPT_U l))
  (d.incSat Reg.LPE_EVAL_MISS).faultRec pLPE 19 [] objIsLoop l

/-- The state that a loop is in from an instant on, with the presets and counters that the change brings (R385, R387, R390). -/
def Dev.settleState (d : Dev) (l : Nat) : Dev :=
  let st := (d.loop l).state
  let causes := d.holdCauses l
  let preset := if st = lsOFF then 4 else if st = lsMANUAL then 2 else 3
  let d := if st = lsOFF then
      let d := d.modLoop l (fun x => { x with preset := 4, uPrev := d.rd (Reg.LPT_HOLD_VAL l) })
      d.wr (Reg.LPT_EVAL_SEQ l) 0
    else d
  if causes ≠ [] then
    if st = lsHOLD then d.modLoop l (fun x => { x with causes := causes }) else d.enterHold l causes
  else
    let want := if d.lpMan l then lsMANUAL else lsAUTO
    if want = st then d
    else if want = lsMANUAL then d.modLoop l (fun x => { x with state := want, causes := [] })
    else d.modLoop l (fun x => { x with state := want, causes := [], feRunNs := 0, preset := newPreset x.preset preset })

/-- Shedding is taken up at an instant of the doubled period and left at an instant of the loop's own (R372). -/
def Dev.settlePeriod (d : Dev) (l : Nat) (turn step : Nat) : Dev :=
  let x := d.loop l
  let want := d.shedding && d.lpShedOk l
  let k := d.periodK l + (if want then 1 else 0)
  let onGrid := step = 0 && (k < 0 || turn % 2 ^ k.toNat = 0)
  if x.shed ≠ want ∧ onGrid = true then
    let d := (d.modLoop l (fun x => { x with shed := want })).periodChanged l
    if (d.loop l).state = lsAUTO then d.modLoop l (fun x => { x with preset := newPreset x.preset 1 }) else d
  else d

/-- LOOP_SAMPLE (R378): at the loop's next instant its last output is published, its state settled and its inputs latched. -/
def execLoopSample (loop : Fin 128) (s : State) : Host.Outcome State Fault Refusal :=
  .next (onDev (fun d =>
    let l := loop.val
    match d.nextInstant l, d.lpeOn && d.lpEn l with
    | some (n, j, t), true =>
      let d := d.toTbm t
      let d := if (d.loop l).latched.isSome then d.evalMissed l else d
      let d := match (d.loop l).nextOut with
        | some u => d.publish l u
        | none => d
      let d := d.settlePeriod l n j
      let d := d.settleState l
      let x : Latched := ⟨(d.rawFb l).1, (d.rawSp l).1, (d.rawFf l).1, d.tbs, (d.loop l).state⟩
      (d.modLoop l (fun y => { y with last := some (n, j), latched := some x, nextOut := none })).showLoop l
    | _, _ => d) s)

/-- The values that an evaluation makes not finite put the loop into HOLD with cause NUM (R381); one that is `held` already gets the cause
beside its others. -/
def Dev.numHold (d : Dev) (l : Nat) (held : Bool) : Dev :=
  let was := (d.loop l).num
  let d := (d.modLoop l (fun x => { x with num := true })).inc (Reg.LPT_EVAL_SEQ l)
  let d := if held && was then d else d.faultRec pLPE 18 [] objIsLoop l
  if held then (d.modLoop l (fun x => { x with causes := setInsert x.causes hcNUM })).showLoop l else d.enterHold l [hcNUM]

/-- LOOP_EVALUATION (R379, R381, R385, R386, R390): a loop in HOLD goes on giving HOLD_VAL. -/
def execLoopEvaluation (loop : Fin 128) (s : State) : Host.Outcome State Fault Refusal :=
  .next (onDev (fun d =>
    let l := loop.val
    match (d.loop l).latched, d.lpeOn with
    | some x, true =>
      let d := (d.modLoop l (fun y => { y with latched := none })).countEval
      let k := d.derived l
      let fr := d.front l x k
      let rt := fr.1
      let y := fr.2.1
      let r := fr.2.2.1
      let rdot := fr.2.2.2
      let e := fSub r y
      if x.state = lsAUTO then
        let res := if (d.loop l).preset ≠ 0 then d.presetEval l x k y r rdot else d.autoEval l x k y r rdot
        if res.2.2.2.all fFinite then
          let d := (d.modLoop l (fun _ => res.1)).supervise l e y res.2.2.1
          (d.showEval l rt y e res.2.1).soundLoop l x.fb x.tbs
        else (d.numHold l false).soundLoop l x.fb x.tbs
      else
        let out := if x.state = lsMANUAL then d.manualOut l k else d.rd (Reg.LPT_HOLD_VAL l)
        if [y, r, rdot, e, out].all fFinite then
          let d := d.modLoop l (fun st => { st with r := r, rdot := rdot, uPrev := out, nextOut := some out })
          (d.showEval l rt y e (d.rd (Reg.LPT_W l))).soundLoop l x.fb x.tbs
        else (d.numHold l (x.state = lsHOLD)).soundLoop l x.fb x.tbs
    | _, _ => d) s)

/-- EVAL_MISS (R371): at the deadline of a sample that has not been evaluated. -/
def execEvalMiss (loop : Fin 128) (s : State) : Host.Outcome State Fault Refusal :=
  .next (onDev (fun d => if (d.loop loop).latched.isSome then d.evalMissed loop else d) s)

/-- The write of LP_CLR (R388, R399). -/
def actLpClr (v : W32) : Act := actDev (fun d =>
  if bitOf v 8 then
    let l := field v 6 0
    (d.modLoop l (fun x => { x with fe := false, num := false })).showLoop l
  else d)

/-- LOOP_CLEAR. -/
def execLoopClear (req : Requester) (v : W32) (s : State) : Host.Outcome State Fault Refusal :=
  .next (farCmd req Reg.LPE_LP_CLR v (actLpClr v) s)

/-! Soundings -/

/-- The traces of a mask. -/
def maskTraces (mask : Nat) : List Nat := (List.range 16).filter (fun c => mask.testBit c)

/-- ARM (R393): the channel is cleared and takes its configuration; mode 0 triggers at once. -/
def Dev.armTrace (d : Dev) (c : Nat) : Dev :=
  let src := d.rd (Reg.SND_SND_SRC c)
  let l := field src 6 0
  let t : Trace :=
    { state := 1, src := src, trig := d.rd (Reg.SND_SND_TRIG c), level := d.rd (Reg.SND_SND_LEVEL c), armTurn := d.turnNo
      prevState := (d.loop l).state, prevFe := (d.loop l).fe }
  let d := (d.modTrace c (fun _ => t)).showTrace c
  if field t.trig 2 0 = 0 then d.trigger c else d

/-- The write of SND_CMD (R393, R401): 1 ARM, 2 FORCE, 3 STOP. -/
def actSndCmd (v : W32) : Act := fun s =>
  let cs := maskTraces (field v 15 0)
  let each (f : Dev → Nat → Dev) : Status × State := (.ok, onDev (fun d => cs.foldl f d) s)
  match field v 17 16 with
  | 1 =>
    if cs.any (fun c => s.dev.bit (Reg.SND_SND_SRC c) 24 && s.dev.fld (Reg.SND_SND_TRIG c) 29 16 ≠ 0) then
      (.len, onDev (·.lenReject pSND) s)
    else each Dev.armTrace
  | 2 => each (fun d c => if (d.trace c).state = 1 then d.trigger c else d)
  | 3 => each (fun d c => if (d.trace c).state = 1 ∨ (d.trace c).state = 2 then d.endTrace c false else d)
  | _ => (.ok, s)

/-- The word of SND_CMD. -/
def sndWord (op mask : Nat) : W32 := w32 (op * 2 ^ 16 + mask % 2 ^ 16)

/-- SOUNDING_ARM. -/
def execSoundingArm (req : Requester) (mask : Nat) (s : State) : Host.Outcome State Fault Refusal :=
  .next (farCmd req Reg.SND_SND_CMD (sndWord 1 mask) (actSndCmd (sndWord 1 mask)) s)

/-- SOUNDING_FORCE. -/
def execSoundingForce (req : Requester) (mask : Nat) (s : State) : Host.Outcome State Fault Refusal :=
  .next (farCmd req Reg.SND_SND_CMD (sndWord 2 mask) (actSndCmd (sndWord 2 mask)) s)

/-- SOUNDING_STOP. -/
def execSoundingStop (req : Requester) (mask : Nat) (s : State) : Host.Outcome State Fault Refusal :=
  .next (farCmd req Reg.SND_SND_CMD (sndWord 3 mask) (actSndCmd (sndWord 3 mask)) s)

/-- The write of SND_RSEL (R396): the read-out restarts. -/
def actSndSel (v : W32) : Act := actDev (fun d =>
  let d := d.store Reg.SND_SND_RSEL v
  { d with lpe := { d.lpe with readPos := 0 } })

/-- SOUNDING_SELECT. -/
def execSoundingSelect (req : Requester) (trace : Fin 16) (s : State) : Host.Outcome State Fault Refusal :=
  .next (farCmd req Reg.SND_SND_RSEL (w32 trace) (actSndSel (w32 trace)) s)

/-- Words of the selected trace; none while it is not DONE (R396). -/
def portSnd : PortAct := portDev (fun n d =>
  let t := d.trace (d.fld Reg.SND_SND_RSEL 3 0)
  let ws := if t.state = 3 then (t.words.drop d.lpe.readPos).take n else []
  (ws, { d with lpe := { d.lpe with readPos := d.lpe.readPos + ws.length } }))

/-- SOUNDING_READ. -/
def execSoundingRead (req : Requester) (words : Nat) (s : State) : Host.Outcome State Fault Refusal :=
  .next (farPort req Reg.SND_SND_PORT words portSnd s)

end Sys2Proof.Machine
end

