-- ==== Sys2Proof/Machine/Ledger.lean ====
section
/-! DEFINITION. The application ledger (chapter 14): the booking of a frame, sessions, flushes, snapshots and the views of its page. -/

namespace Sys2Proof.Machine

def pLDG : Nat := 0x025

/-! Counters (R348, R351, R352) -/

/-- Requested time that goes to an account. -/
def LedgerEntry.toAccount (e : LedgerEntry) (a : Account) (n : Nat) : LedgerEntry :=
  match a with
  | .late => { e with late := e.late + n }
  | .budget => { e with budget := e.budget + n }
  | .thermal => { e with thermal := e.thermal + n }
  | .fault => { e with fault := e.fault + n }
  | .overlap => { e with overlap := e.overlap + n }
  | .host => { e with host := e.host + n }
  | .reset => { e with reset := e.reset + n }

/-- Time that moves out of flight into an account, at most what is in flight. -/
def LedgerEntry.settle (e : LedgerEntry) (a : Account) (n : Nat) : LedgerEntry :=
  { e with infl := e.infl - min n e.infl }.toAccount a (min n e.infl)

/-- A settlement: the named parts in their order, the rest to one account. -/
def LedgerEntry.settleAll (e : LedgerEntry) (parts : List (Account × Nat)) (rest : Account) : LedgerEntry :=
  let e := parts.foldl (fun e (p : Account × Nat) => e.settle p.1 p.2) e
  e.settle rest e.infl

/-- Time that elapsed (R351, R353): requested and delivered, requested and not delivered with its account or in flight, delivered and not
requested. A pulse that was moved whole delivers what is in flight (R344). -/
def LedgerEntry.elapse (e : LedgerEntry) (asked given moved : Bool) (why : Option Account) (n : Nat) : LedgerEntry :=
  match asked, given, why with
  | true, true, _ => { e with req := e.req + n, del := e.del + n }
  | true, false, some a => { e with req := e.req + n }.toAccount a n
  | true, false, none => { e with req := e.req + n, infl := e.infl + n }
  | false, true, _ =>
    let m := if moved then min n e.infl else 0
    { e with infl := e.infl - m, del := e.del + n, req := e.req + (n - m), excess := e.excess + (n - m) }
  | false, false, _ => e

/-- The units of a METER channel over a frame (R354). -/
def LedgerEntry.meter (e : LedgerEntry) (req del : Nat) (out : Bool) : LedgerEntry :=
  if out then { e with req := e.req + req, del := e.del + del, fault := e.fault + req, track := e.track - del }
  else { e with req := e.req + req, del := e.del + del, track := e.track + req - del }

/-! A channel's frame -/

/-- An interval holds a tick. -/
def covers (t : Nat) (iv : Nat × Option Nat) : Bool :=
  decide (iv.1 ≤ t) && (match iv.2 with | none => true | some e => decide (t < e))

/-- The ticks of a frame at which something begins or ends, in rising order, both turns among them. -/
def Book.ticks (b : Book) (t0 t1 : Nat) : List Nat :=
  let ends (iv : Nat × Option Nat) : List Nat := iv.1 :: (match iv.2 with | some e => [e] | none => [])
  let all := b.runs.flatMap ends ++ b.dels.flatMap ends ++ b.marks.map (·.1) ++ b.settles.map (·.1)
  ((all.filter (fun t => t0 < t && t < t1)).foldl setInsert [t0]) ++ [t1]

/-- The settlements that fall at or after `a` and before `b`. -/
def Book.settlesIn (b : Book) (lo hi : Nat) : List (Nat × List (Account × Nat) × Account) :=
  b.settles.filter (fun s => lo ≤ s.1 && s.1 < hi)

/-- Book the segments between consecutive ticks, each after the settlements that fall at its start. -/
def Book.walk (b : Book) : List Nat → LedgerEntry → LedgerEntry
  | x :: y :: r, e =>
    let e := (b.settlesIn x y).foldl (fun e s => e.settleAll s.2.1 s.2.2) e
    let e := e.elapse (b.runs.any (covers x)) (b.dels.any (covers x)) b.moved (b.accountAt x) (y - x)
    b.walk (y :: r) e
  | _, e => e

/-- Book a frame of a VALVE or PWMNOZ channel (R351). -/
def Book.bookFrame (b : Book) (t0 t1 : Nat) (e : LedgerEntry) : LedgerEntry :=
  let e := (b.settles.filter (fun s => s.1 < t0)).foldl (fun e s => e.settleAll s.2.1 s.2.2) e
  let e := b.walk (b.ticks t0 t1) e
  (b.settles.filter (fun s => t1 ≤ s.1)).foldl (fun e s => e.settleAll s.2.1 s.2.2) e

/-- What a booked frame leaves for the next: what still runs or is to come, from the turn on, and the account that holds at it. A moved
pulse stays marked until it has been asked for and delivered. -/
def Book.next (b : Book) (t1 infl : Nat) : Book :=
  let cut (l : List (Nat × Option Nat)) : List (Nat × Option Nat) := l.filterMap (fun iv =>
    match iv.2 with
    | none => some (max iv.1 t1, none)
    | some e => if e ≤ t1 then none else some (max iv.1 t1, some e))
  let runs := cut b.runs
  let asked := b.runs.any (fun iv => iv.1 < t1)
  { b with
    runs := runs
    dels := cut b.dels
    marks := (t1, b.accountAt t1) :: b.marks.filter (fun m => t1 < m.1)
    settles := []
    moved := b.moved && (infl ≠ 0 || !runs.isEmpty || !asked) }

/-! Units of the meters (R354) -/

/-- The set-point that was active in the frame, in binary32: what the SDE published for kind SDE, else the loop's last target. -/
def Dev.setpointNow (d : Dev) (l : Nat) : W32 :=
  if bindKind (d.rd (Reg.LP_SPSRC l)) = 5 then (d.loop l).sdeTgt else d.rd (Reg.LPT_RT l)

/-- Requested 1/256 units of a frame, with the remainder carried: set-point x T_F, exactly. -/
def Dev.meterRequest (d : Dev) (l carry : Nat) : Nat × Nat :=
  let sp := d.setpointNow l
  let n := carry + (if fFinite sp then (fFixed sp).toNat else 0) * d.tf * 256
  let one := fOne.toNat * 1000000000
  (n / one, n % one)
where
  fOne : Int := fFixed f1

/-- Delivered 1/256 units of a frame, with the remainder carried: the count of the loop's feedback x FB_SCALE. -/
def Dev.meterUnits (d : Dev) (l : Nat) : Nat × Nat :=
  let i := bindIndex (d.rd (Reg.LP_FB l))
  let sc := d.rd (Reg.LPT_FB_SCALE l)
  let n := (d.rd (Reg.FIN_FIN_FRAME i)).toInt * (if fFinite sc then fFixed sc else 0) * 256
  let all := (d.loop l).carry + n.toNat
  let one := (fFixed f1).toNat
  (all / one, all % one)

/-- The METER channels with their loops, and the 1/256 units each delivered in the frame. -/
def Dev.meterLoops (d : Dev) : List (Nat × Nat) :=
  (d.activeChans.filter (fun c => d.mode c = mMETER)).filterMap (fun c => (d.meterLoop c).map (fun l => (c, l)))
def Dev.frameUnits (d : Dev) : List (Nat × Nat) := d.meterLoops.map (fun (p : Nat × Nat) => (p.1, (d.meterUnits p.2).1))

/-- The feedback's remainders are carried to the next frame, and its units counted on. -/
def Dev.carryUnits (d : Dev) : Dev :=
  d.meterLoops.foldl (fun d (p : Nat × Nat) =>
    let u := d.meterUnits p.2
    d.modLoop p.2 (fun x => { x with carry := u.2, fedUnits := x.fedUnits + u.1 })) d

/-! The book of all channels -/

def LedgerBook.entry (b : LedgerBook) (c : Nat) : LedgerEntry := sget (fun _ => {}) b.entries c
def LedgerBook.setEntry (b : LedgerBook) (c : Nat) (e : LedgerEntry) : LedgerBook :=
  { b with entries := sset (fun _ => {}) b.entries c e }

/-- A METER channel was in its fault state, or closed by a safe close, a clock loss or a SORT of its bank, in the frame (R319, R354);
what a frame holds of these at any instant counts for the whole of it (log entry 180). -/
def Dev.meterFaulted (d : Dev) (c : Nat) : Bool :=
  (d.chan c).phase = phFAULT || d.stat 0x002 17 || d.frm.wasClosed || d.clockLost 1 || d.clockLost 4 || d.clockLost 5
    || (d.bank (c / 8)).sort.isSome

/-- Book the frame from tick `t0` to `t1` of every metered channel (R351, R354). -/
def Dev.bookFrame (d : Dev) (t0 t1 : Nat) (b : LedgerBook) : LedgerBook :=
  let b := (d.drv.ch.filter (fun p => d.profiled p.1)).foldl (fun b p => b.setEntry p.1 (p.2.book.bookFrame t0 t1 (b.entry p.1))) b
  d.meterLoops.foldl (fun b (p : Nat × Nat) =>
    let e := b.entry p.1
    let r := d.meterRequest p.2 e.carry
    b.setEntry p.1 { e.meter r.1 (d.meterUnits p.2).1 (d.meterFaulted p.1) with carry := r.2 }) b

/-- Everything in flight goes to DEF_RESET (R355, R357). -/
def LedgerBook.resetFlight (b : LedgerBook) : LedgerBook :=
  { b with entries := (b.entries.map (fun p => (p.1, p.2.settle .reset p.2.infl))).filter (fun p => p.2 ≠ {}) }

/-- The books of the channels go on from the turn. -/
def Dev.booksNext (d : Dev) (t1 : Nat) (b : LedgerBook) : Dev :=
  d.drv.ch.foldl (fun d p => d.modChan p.1 (fun x => { x with book := x.book.next t1 (b.entry p.1).infl })) d
def Dev.booksCleared (d : Dev) : Dev := d.drv.ch.foldl (fun d p => d.modChan p.1 (fun x => { x with book := {} })) d

/-! Views (R349, R361, R366) -/

/-- A counter's 64 bits: microseconds and ticks for VALVE and PWMNOZ, 1/256 units for METER. -/
def counterBits (mode : Nat) (n : Int) : Nat :=
  if mode = mMETER then unsigned64 n else (n.toNat / 250 * 256 + n.toNat % 250) % 2 ^ 64

/-- The counters in the order of an entry's words 2 to 25; a channel that is not metered reads 0. -/
def LedgerEntry.counters (e : LedgerEntry) (mode : Nat) : List Nat :=
  let all : List Int := [e.req, e.del, e.infl, e.late, e.budget, e.thermal, e.fault, e.overlap, e.host, e.reset, e.track, e.excess]
  all.map (fun n => if mode = mVALVE ∨ mode = mPWMNOZ ∨ mode = mMETER then counterBits mode n else 0)

/-- SESS_STATUS (R367). -/
def LedgerBook.statusWord (b : LedgerBook) : W32 := w32 (b.status + (if b.fromPf then 4 else 0) + min b.gapCnt 255 * 2 ^ 8)

/-- An entry's 26 words. -/
def LedgerBook.entryWords (b : LedgerBook) (c mode : Nat) : List W32 :=
  [w32 ((if b.invalid.contains c then 2 ^ 31 else 0) + c * 2 ^ 16 + mode), 0#32]
    ++ ((b.entry c).counters mode).flatMap (fun n => [lo32 n, hi32 n])

/-- Word `k` of the snapshot. -/
def Ledgers.snapWord (l : Ledgers) (k : Nat) : W32 :=
  match l.snap with
  | none => 0#32
  | some b =>
    if k < 8 then l.snapHead.getD k 0
    else (b.entryWords ((k - 8) / 26) (l.snapModes.getD ((k - 8) / 26) 0)).getD ((k - 8) % 26) 0

def snapWords : Nat := 13320
def Ledgers.snapLevel (l : Ledgers) : Nat := if l.snap.isSome then snapWords - l.snapPos else 0

/-! Flushes and sessions (R356 to R359) -/

/-- A slot of the ledger as booked at the last turn, with that turn's number and wall time (R356). -/
def Ledgers.slot (l : Ledgers) (b : LedgerBook) (pf : Bool) : LedgerSlot := ⟨b, l.turnSeqx, l.turnWall, pf⟩

/-- The slot that a flush overwrites: an empty one, else the older. -/
def Ledgers.olderSlot (l : Ledgers) : Nat :=
  match l.slots with
  | [some _, some _] => 1 - l.lastSlot
  | [none, _] => 0
  | _ => 1

/-- The newest complete slot. -/
def Ledgers.newest (l : Ledgers) : Option LedgerSlot :=
  match l.slots with
  | [some a, some b] => if l.lastSlot = 0 then some a else some b
  | [some a, none] => some a
  | [none, b] => b
  | _ => none

/-- Write a slot, or leave it incomplete. -/
def Ledgers.writeSlot (l : Ledgers) (x : LedgerSlot) (ok : Bool) : Ledgers :=
  { l with slots := setAt l.slots l.olderSlot (if ok then some x else none), lastSlot := if ok then l.olderSlot else l.lastSlot }

/-- A new session (R359): the counters at zero, INVALID clear, SESS_ID one more, STATE NEW. -/
def LedgerBook.newSession (b : LedgerBook) : LedgerBook := { sessId := b.sessId + 1, lossFrom := b.lossFrom, lossTo := b.lossTo }

/-- The ledger after a power-on reset (R358): the newest complete slot goes on. -/
def Dev.resumeLedger (d : Dev) (l : Ledgers) : Ledgers × Bool :=
  match l.newest with
  | none => ({ l with book := {}, flushing := none, snap := none, snapPos := 0 }, false)
  | some s =>
    let b := s.book
    let l := { l with flushing := none, snap := none, snapPos := 0, turnSeqx := s.seqx, turnWall := s.wall }
    if s.pf then ({ l with book := { b with status := if b.status = 2 then 2 else 1, fromPf := true } }, false)
    else
      let now : Wall := if d.tm.rtcSrc = 0 then ⟨3, 0, false⟩ else ⟨2, d.rtc, true⟩
      ({ l with book := { b with status := 2, fromPf := false, gapCnt := b.gapCnt + 1, lossFrom := s.wall, lossTo := wallWords now } }, true)

/-- COVERAGE (R364, R367). DEDUCED (log entry 201): the output path's FAULT_EN registers are those of the DT, BK and VB pages. -/
def Dev.coverageWord (d : Dev) (supplyOk tempOk : Bool) : Nat :=
  let diag := !d.sup.diagCut && outputPages.all (fun p => d.rd (Reg.FAULT_EN p) = 0xFFFFFFFF#32)
  (if supplyOk then 1 else 0) + (if tempOk then 2 else 0) + (if diag then 4 else 0)

/-- The ledger is booked at the turn (R351, R355, R357). After the booking of a power-fail, nothing is booked; at the first turn after a
controller reset everything in flight goes to DEF_RESET. -/
def Dev.bookTurn (d : Dev) (t0 t1 : Nat) (l : Ledgers) : Ledgers :=
  if d.pow.pfBooked then l
  else
    let b := if d.sup.rebook then l.book.resetFlight else d.bookFrame t0 t1 l.book
    let b := if d.pow.pfAt.isSome then b.resetFlight else b
    { l with book := b, turnSeqx := d.rd64 Reg.FRM_FRAME_SEQX, turnWall := wallWords d.wall }

/-- The flush of a turn (R356, R357, R359): that of a power-fail takes the place of any other. -/
def Dev.flushTurn (d : Dev) (sec : Bool) (l : Ledgers) : Ledgers :=
  if d.pow.pfBooked then l
  else if d.pow.pfAt.isSome then { l with flushing := some (l.slot l.book true) }
  else if sec || d.sup.flushReq || d.sup.sessReq then { l with flushing := some (l.slot l.book false) }
  else l

/-- LDG's part of a turn (R351 to R361): `t0` and `t1` the two turns in ticks, `sec` whether a second of TB-M has passed. -/
def ledgerTurn (t0 t1 : Nat) (sec : Bool) (supplyOk tempOk : Bool) (d : Dev) (l : Ledgers) : Dev × Ledgers :=
  let failing := d.pow.pfAt.isSome
  let l := d.flushTurn sec (d.bookTurn t0 t1 l)
  let b := l.book
  let d := if d.sup.rebook then d.booksCleared else d.carryUnits.booksNext t1 b
  let cov := d.coverageWord supplyOk tempOk
  let d := { d with sup := { d.sup with rebook := false, diagCut := false }, pow := { d.pow with pfBooked := d.pow.pfBooked || failing } }
  let d := (d.wrN Reg.LDG_COVERAGE cov).setStat pLDG 16 (cov = 7)
  let head : List W32 := [w32 (0x4C44 * 2 ^ 16 + 512), w32 b.sessId, lo32 (d.rd64 Reg.FRM_FRAME_SEQX), hi32 (d.rd64 Reg.FRM_FRAME_SEQX),
    lo32 d.tm.tbm, hi32 d.tm.tbm, b.statusWord, 0#32]
  let modes := allChans.map d.mode
  let l := if d.sup.snapReq then { l with snap := some b, snapHead := head, snapModes := modes, snapPos := 0 } else l
  let d := if d.sup.snapReq then d.irq pLDG 16 else d
  if d.sup.sessReq && !failing then
    let d := (d.recOther pLDG [w32 b.sessId]).irq pLDG 17
    ({ d with sup := { d.sup with snapReq := false, sessReq := false, flushReq := false } }, { l with book := b.newSession })
  else ({ d with sup := { d.sup with snapReq := false, flushReq := false } }, l)

/-! Commands -/

/-- LDG_CMD: each acts at the next turn. -/
def actLdgCmd (v : W32) : Act := actDev (fun d =>
  { d with sup := match v.toNat with
    | 1 => { d.sup with snapReq := true }
    | 2 => { d.sup with sessReq := true }
    | _ => { d.sup with flushReq := true } })

def execLedgerSnapshot (req : Requester) (s : State) : Host.Outcome State Fault Refusal := .next (hostCmd req Reg.LDG_LDG_CMD 1#32 (actLdgCmd 1#32) s)
def execNewSession (req : Requester) (s : State) : Host.Outcome State Fault Refusal := .next (hostCmd req Reg.LDG_LDG_CMD 2#32 (actLdgCmd 2#32) s)
def execFlushNow (req : Requester) (s : State) : Host.Outcome State Fault Refusal := .next (hostCmd req Reg.LDG_LDG_CMD 3#32 (actLdgCmd 3#32) s)

/-- SNAP_PORT (R361). -/
def portSnap : PortAct := fun n s =>
  let k := min n s.ldg.snapLevel
  ((List.range k).map (fun i => s.ldg.snapWord (s.ldg.snapPos + i)), { s with ldg := { s.ldg with snapPos := s.ldg.snapPos + k } })

def execSnapshotRead (req : Requester) (words : Nat) (s : State) : Host.Outcome State Fault Refusal :=
  .next (hostPort req Reg.LDG_SNAP_PORT words portSnap s)

/-- LEDGER_ECC_ERROR (R360): a double-symbol error in a channel's entry, which a flush under way takes along (R365). -/
def execLedgerEccError (c : Fin 512) (s : State) : Host.Outcome State Fault Refusal :=
  .next { s with
    dev := ((s.dev.fault pLDG fECC).irq pLDG 18).recFault pLDG fECC [] objIsChannel c.val
    ldg := { s.ldg with
      book := { s.ldg.book with invalid := setInsert s.ldg.book.invalid c.val }
      flushing := s.ldg.flushing.map (fun x => { x with book := { x.book with invalid := setInsert x.book.invalid c.val } }) } }

end Sys2Proof.Machine
end

