-- ==== Sys2Proof/Machine/Ecdsa.lean ====
section
/-! DEFINITION. ECDSA over P-256, as far as the recorder needs it: the check of a signature under a public key (R437). -/

namespace Sys2Proof.Machine

/-- The field, the order of the group, the coefficient b and the base point of P-256. -/
def p256P : Nat := 0xffffffff00000001000000000000000000000000ffffffffffffffffffffffff
def p256N : Nat := 0xffffffff00000000ffffffffffffffffbce6faada7179e84f3b9cac2fc632551
def p256B : Nat := 0x5ac635d8aa3a93e7b3ebbd55769886bc651d06b0cc53b0f63bce3c3e27d2604b
def p256G : Nat × Nat := (0x6b17d1f2e12c4247f8bce6e563a440f277037d812deb33a0f4a13945d898c296,
  0x4fe342e2fe1a7f9b8ee7eb4a7c0f9e162bce33576b315ececbb6406837bf51f5)

/-- `b` to the power of the low `bits` bits of `e`, modulo `m`. -/
def powMod (m b : Nat) : Nat → Nat → Nat
  | 0, _ => 1 % m
  | k + 1, e => let h := powMod m (b * b % m) k (e / 2); if e % 2 = 1 then h * b % m else h

/-- The inverse modulo a prime. -/
def invMod (m a : Nat) : Nat := powMod m (a % m) 256 (m - 2)

/-- The sum of two points of the curve, none standing for the point at infinity. -/
def p256Add : Option (Nat × Nat) → Option (Nat × Nat) → Option (Nat × Nat)
  | none, q => q
  | p, none => p
  | some (x1, y1), some (x2, y2) =>
    let m := p256P
    if x1 = x2 ∧ (y1 + y2) % m = 0 then none
    else
      let l := if x1 = x2 then (3 * x1 * x1 + (m - 3)) * invMod m (2 * y1) % m
        else ((y2 + m - y1) % m) * invMod m ((x2 + m - x1) % m) % m
      let x3 := (l * l + (m - x1) + (m - x2)) % m
      some (x3, (l * ((x1 + m - x3) % m) + (m - y1)) % m)

/-- A multiple of a point, over the low `bits` bits of `k`. -/
def p256Mul (p : Option (Nat × Nat)) : Nat → Nat → Option (Nat × Nat)
  | 0, _ => none
  | bits + 1, k =>
    let h := p256Mul p bits (k / 2)
    let d := p256Add h h
    if k % 2 = 1 then p256Add d p else d

/-- A pair that names a point of the curve. -/
def p256OnCurve (q : Nat × Nat) : Bool :=
  decide (q.1 < p256P) && decide (q.2 < p256P) && decide (q.2 * q.2 % p256P = (q.1 * q.1 * q.1 + (p256P - 3) * q.1 + p256B) % p256P)

/-- The signature (r, s) over a hash verifies under a public key. -/
def ecdsaVerify (q : Nat × Nat) (hash r s : Nat) : Bool :=
  let n := p256N
  p256OnCurve q && 0 < r && r < n && 0 < s && s < n &&
    (let w := invMod n s
     match p256Add (p256Mul (some p256G) 256 (hash * w % n)) (p256Mul (some q) 256 (r * w % n)) with
     | none => false
     | some (x, _) => x % n = r)

end Sys2Proof.Machine
end

