-- ==== Sys2Proof/Machine/Recorder.lean ====
section
/-! DEFINITION. The Strata recorder (chapter 17): intake with its rate limits, the buffer and the ring, read sessions, epochs and keys, and
what a failing store leaves. -/

namespace Sys2Proof.Machine

def pREC : Nat := 0x090

/-! Records (R422, R431) -/

/-- A record's words: the header with its CRC-16, then the payload. -/
def Record.words (r : Record) : List W32 :=
  let w0 := r.code * 2 ^ 22 + r.payload.length * 2 ^ 16
  let rest := [lo32 r.seq, hi32 r.seq, lo32 r.tbm, hi32 r.tbm] ++ r.wall ++ r.payload
  let crc := crc16 ((bytesBE (w32 w0)).take 2 ++ rest.flatMap bytesBE)
  w32 (w0 + crc) :: rest

/-- Its bytes in the store. -/
def Record.bytes (r : Record) : Nat := 32 + 4 * r.payload.length
def recordBytes (l : List Record) : Nat := (l.map Record.bytes).sum

/-- Sizes: the buffer, a sector's records, the ring's sectors (R430, R432). -/
def bufferBytes : Nat := 262144
def sectorBytes : Nat := 4080
def ringSectors : Nat := 16016

/-- Drained records give way first. -/
def trimKept (room : Nat) : List Record → List Record
  | [] => []
  | r :: rest => if recordBytes (r :: rest) ≤ room then r :: rest else trimKept room rest

/-- The oldest undrained records that must give way, and those that stay. -/
def overwrite (room : Nat) : List Record → List Record × List Record
  | [] => ([], [])
  | r :: rest =>
    if recordBytes (r :: rest) ≤ room then ([], r :: rest)
    else let t := overwrite room rest; (r :: t.1, t.2)

/-- Put a record into the buffer; what is overwritten undrained is answered (R432). -/
def RecStore.buffer (s : RecStore) (r : Record) : RecStore × List Record :=
  let t := overwrite bufferBytes (s.undrained ++ [r])
  ({ s with undrained := t.2, kept := trimKept (bufferBytes - recordBytes t.2) s.kept }, t.1)

/-- The next SEQ, its block reserved (R428). -/
def RecStore.takeSeq (s : RecStore) : RecStore :=
  { s with nextSeq := s.nextSeq + 1, reserved := if s.nextSeq ≥ s.reserved then s.reserved + 65536 else s.reserved }

/-! Rate limits (R429) -/

/-- The entry of a code in the rate-limit table; the recorder's own codes are unlimited. -/
def Dev.rateEntry (d : Dev) (code : Nat) : Nat :=
  if 0x3C0 ≤ code ∧ code ≤ 0x3CA then 0xFFFF
  else d.fld (Reg.REC_RL (code / 2)) (16 * (code % 2) + 15) (16 * (code % 2))

/-- A code's bucket filled up to now. -/
def Dev.bucketNow (d : Dev) (code : Nat) : Bucket :=
  let e := d.rateEntry code
  let burst := e / 256
  match sfind d.rcf.buckets code with
  | none => ⟨burst, d.tm.tbm, 0⟩
  | some b =>
    let gain := b.part + (d.tm.tbm - b.at_) * (e % 256)
    if b.tokens + gain / 1000000000 ≥ burst then ⟨burst, d.tm.tbm, 0⟩
    else ⟨b.tokens + gain / 1000000000, d.tm.tbm, gain % 1000000000⟩

def Dev.setBucket (d : Dev) (code : Nat) (b : Bucket) : Dev :=
  { d with rcf := { d.rcf with buckets := sinsert d.rcf.buckets code b } }

/-- The TB-M at which a code's bucket is full. -/
def Dev.bucketFullAt (d : Dev) (code : Nat) : Nat :=
  let e := d.rateEntry code
  let b := d.bucketNow code
  if b.tokens ≥ e / 256 then d.tm.tbm else d.tm.tbm + ceilDiv ((e / 256 - b.tokens) * 1000000000 - b.part) (e % 256)

/-- A token for an event of a code, if there is one. -/
def Dev.takeToken (d : Dev) (code : Nat) : Bool × Dev :=
  if d.rateEntry code = 0xFFFF then (true, d)
  else
    let b := d.bucketNow code
    if b.tokens = 0 then (false, d.setBucket code b) else (true, d.setBucket code { b with tokens := b.tokens - 1 })

/-- The codes with suppressions that no summary has taken. -/
def Dev.unsummarised (d : Dev) : List Nat := (d.rcf.supp.filter (fun p => p.2.count > 0)).map (·.1)

/-- The summary of a code's suppressions (R425, R429); `again` is when the next one falls. -/
def summaryEvent (code : Nat) (z : Suppressed) (cycle : Nat) : Event :=
  ⟨true, 0x3C2, 0, 0, 0, 0, 0, [w32 code, w32 z.count, lo32 z.first, hi32 z.first, lo32 z.last, hi32 z.last], cycle⟩
def Dev.summarise (d : Dev) (code again : Nat) : Dev :=
  let z : Suppressed := sget (fun _ => {}) d.rcf.supp code
  let d := { d with rcf := { d.rcf with supp := sset (fun _ => {}) d.rcf.supp code { due := again } } }
  d.emit (summaryEvent code z d.tm.tbm)

/-- SUPPRESSED_SUMMARY (R429): at the code's SUMM_PERIOD, or when its bucket is full again, whichever comes first. -/
def execSuppressedSummary (code : Fin 1024) (s : State) : Host.Outcome State Fault Refusal :=
  .next (onDev (fun d =>
    let z : Suppressed := sget (fun _ => {}) d.rcf.supp code.val
    if z.count = 0 then d
    else
      let full := d.bucketFullAt code.val
      if full < z.due then (d.toTbm full).summarise code.val 0
      else (d.toTbm z.due).summarise code.val (z.due + d.rdN Reg.REC_SUMM_PERIOD * 1000000000)) s)

/-! Intake (R426 to R428) -/

/-- The record of an event, stamped as it is taken. -/
def Dev.stamp (d : Dev) (code : Nat) (e : Event) (seq : Nat) : Record := ⟨code, seq, d.tm.tbm, wallWords d.wall, e.payload.take 56⟩

/-- A record that the buffer has overwritten undrained (R432): counted, and reported at the first and every SUMM_PERIOD. -/
def Dev.noteLost (d : Dev) (lo hi n : Nat) : Dev :=
  let d := ((d.addSat Reg.REC_BUF_LOST n).fault pREC 18).irq pREC 19
  match d.rcf.lostDue with
  | some t => if d.tm.tbm < t then d else report d
  | none => report d
where
  /-- The BUF_LOST record. -/
  report (d : Dev) : Dev :=
    let d := { d with rcf := { d.rcf with lostDue := some (d.tm.tbm + d.rdN Reg.REC_SUMM_PERIOD * 1000000000) } }
    d.recOwn 0x3C6 [d.rd Reg.REC_BUF_LOST, lo32 lo, hi32 lo, lo32 hi, hi32 hi]

/-- Put a stamped record into the buffer and count what it pushes out. -/
def State.putRecord (s : State) (r : Record) : State :=
  let t := s.rcd.takeSeq.buffer r
  match t.2 with
  | [] => { s with rcd := t.1 }
  | x :: rest =>
    let lo := if s.dev.rd Reg.REC_BUF_LOST = 0#32 then x.seq else s.rcd.lostLo
    let hi := (rest.getLast?.getD x).seq
    { s with rcd := { t.1 with lostLo := lo, lostHi := hi }, dev := s.dev.noteLost lo hi t.2.length }

/-- Intake is free: not held by a CLEAR, nor behind the RESET record (R439, R411). -/
def Dev.intakeFree (d : Dev) : Bool := d.rcf.clearing.isNone && d.rcf.hold ≠ some 0

/-- RECORD_INTAKE (R426): the front end takes the first event of the queue in a cycle of its own. -/
def execRecordIntake (s : State) : Host.Outcome State Fault Refusal :=
  .next (match s.dev.rcf.intake with
    | [] => s
    | e :: rest =>
      if !s.dev.intakeFree then s
      else
        let d := { s.dev.advance 1 with rcf := { s.dev.rcf with intake := rest, hold := s.dev.rcf.hold.map (· - 1) } }
        let t := d.takeToken e.codeOf
        if t.1 then { s with dev := t.2 }.putRecord (t.2.stamp e.codeOf e s.rcd.nextSeq)
        else { s with dev := t.2.suppress e.codeOf })

/-- RL words: BURST and RATE of two codes; 0xFFFF is unlimited, and the recorder's own codes ignore writes. A token count above a new BURST
is lowered to it. -/
def actRl (i : Nat) (v : W32) : Act :=
  let own (k : Nat) : Bool := decide (0x3C0 ≤ 2 * i + k) && decide (2 * i + k ≤ 0x3CA)
  let half (k : Nat) : Nat := field v (16 * k + 15) (16 * k)
  let ok (k : Nat) : Bool := own k || half k = 0xFFFF || (half k / 256 ≠ 0 && half k % 256 ≠ 0)
  actIf (Reg.REC_RL i) (fun _ => ok 0 && ok 1) (fun d =>
    [0, 1].foldl (fun d k =>
      if own k then d
      else
        let b := d.bucketNow (2 * i + k)
        let d := d.setFld (Reg.REC_RL i) (16 * k + 15) (16 * k) (half k)
        d.setBucket (2 * i + k) { b with tokens := min b.tokens (half k / 256) }) d)

def execRateLimitWrite (req : Requester) (index : Fin 512) (data : W32) (s : State) : Host.Outcome State Fault Refusal :=
  .next (hostCmd req (Reg.REC_RL index.val) data (actRl index.val data) s)

/-! The bedrock store and the failing store (R440 to R443) -/

/-- A write to the bedrock store fails (R443). -/
def Dev.bedrockFails (d : Dev) : Dev := ((d.setStat pREC 17 true).fault pREC 17).recFault pREC 17

/-- An entry of the failure log (R442), where the bedrock store takes it. -/
def State.logFailure (s : State) (kind sector : Nat) (bedrockOk : Bool) : State :=
  if bedrockOk then
    let d := s.dev.inc Reg.REC_BR_FAIL_CNT
    let e : FailEntry := ⟨kind, d.tm.tbm, wallWords d.wall, s.rcd.nextSeq, sector⟩
    { s with dev := d, rcd := { s.rcd with failLog := sset (fun _ => none) s.rcd.failLog (s.dev.rdN Reg.REC_BR_FAIL_CNT % 64) (some e) } }
  else onDev Dev.bedrockFails s

/-- The record store has failed (R441). -/
def State.storeFails (s : State) (kind sector : Nat) (bedrockOk : Bool) : State :=
  let s := onDev (fun d => ((d.setStat pREC 16 true).fault pREC 16).irq pREC 16) s
  let s := s.logFailure kind sector bedrockOk
  onDev (·.recOwn 0x3C8 [w32 kind, w32 sector]) s

/-- The store takes a write: whether it stands, and the state after. -/
def State.storeWrite (s : State) (o : DrainOutcome) : Bool × State :=
  if s.dev.stat pREC 16 then (false, s)
  else match o.store with
    | .written => (true, s)
    | .respared sector spare =>
      if s.dev.rdN Reg.REC_SPARE_LEFT = 0 then (false, s.storeFails 1 sector o.bedrockOk)
      else (true, onDev (fun d => (d.wrN Reg.REC_SPARE_LEFT (d.rdN Reg.REC_SPARE_LEFT - 1)).recOwn 0x3C5 [w32 sector, w32 spare]) s)
    | .spareFailed sector => (false, s.storeFails 1 sector o.bedrockOk)
    | .noAnswer => (false, s.storeFails 2 0 o.bedrockOk)

/-! Draining (R431, R432) -/

/-- Add a record to the ring: to the newest sector of its epoch while there is room, else to a new one. -/
def ringAdd (epoch : Nat) (ring : List Sector) (r : Record) : List Sector :=
  match ring.getLast? with
  | some z =>
    if z.epoch = epoch ∧ recordBytes z.recs + r.bytes ≤ sectorBytes then ring.dropLast ++ [{ z with recs := z.recs ++ [r] }]
    else trim (ring ++ [⟨epoch, [r]⟩])
  | none => [⟨epoch, [r]⟩]
where
  /-- A full ring reuses its oldest sector. -/
  trim (l : List Sector) : List Sector := if l.length > ringSectors then l.drop 1 else l

def Dev.epoch (d : Dev) : Nat := d.fld Reg.REC_EPOCH 15 0

/-- Write every undrained record into the ring. -/
def RecStore.drain (s : RecStore) (epoch : Nat) : RecStore :=
  { s with ring := s.undrained.foldl (ringAdd epoch) s.ring, undrained := [], kept := s.kept ++ s.undrained }

/-- BUFFER_DRAIN (R432): the firmware's drain, with how the store takes it. -/
def execBufferDrain (outcome : DrainOutcome) (s : State) : Host.Outcome State Fault Refusal :=
  .next (if s.dev.mpState ≠ mpRUN ∨ s.dev.powerState > 1 then s
    else
      let s := onDev (fun d => { d with rcf := { d.rcf with drainReq := false } }) s
      if s.rcd.undrained.isEmpty then s
      else
        let t := s.storeWrite outcome
        if t.1 then { t.2 with rcd := t.2.rcd.drain t.2.dev.epoch } else t.2)

/-- A flush of the ledger is written to the older slot, or the store that has failed does not take it (R356). -/
def State.flushLedger (s : State) (x : LedgerSlot) (ok : Bool) : State :=
  let s := { s with ldg := { s.ldg.writeSlot x ok with flushing := none } }
  if ok then onDev (fun d => d.wr64 Reg.LDG_LAST_FLUSH x.seqx) s else (onDev (fun d => d.faultRec pLDG 16) s).logFailure 3 0 true

/-- LEDGER_FLUSH (R356): the flush that waits is written, or fails, its spare sector too, and the store with it (R441, R444). That of a
power-fail is the flush engine's (R357). -/
def execLedgerFlush (ok : Bool) (s : State) : Host.Outcome State Fault Refusal :=
  .next (match s.ldg.flushing with
    | none => s
    | some x =>
      if x.pf then s
      else if s.dev.stat pREC 16 then s.flushLedger x false
      else if ok then s.flushLedger x true
      else (onDev (fun d => d.faultRec pLDG 16) { s with ldg := { s.ldg.writeSlot x false with flushing := none } }).storeFails 3 0 true)

/-! Read sessions (R435) -/

/-- The records of an epoch that can be read, oldest first. -/
def State.readable (s : State) (epoch : Nat) : List Record :=
  (s.rcd.ring.filter (fun z => z.epoch = epoch)).flatMap (·.recs) ++ (if epoch = s.dev.epoch then s.rcd.undrained else [])

/-- The records that a session still has to return. -/
def State.matches_ (s : State) : List Record :=
  let lo := s.rcd.readCode % 1024
  let hi := s.rcd.readCode / 65536 % 1024
  ((s.readable s.rcd.readEpoch).filter (fun r => s.rcd.readPos ≤ r.seq && lo ≤ r.code && r.code ≤ hi)).take s.rcd.readLeft

/-- RD_LEFT. -/
def State.rdLeft (s : State) : Nat := if s.rcd.readOpen then s.matches_.length else 0

/-- OLDEST_SEQ: the oldest record that can be read. -/
def RecStore.oldest (r : RecStore) : Nat :=
  match (r.ring.flatMap (·.recs) ++ r.undrained).head? with
  | some x => x.seq
  | none => r.nextSeq

/-- REC_CMD = 4: the session starts where RD_FROM points. -/
def actReadStart : Act := fun s =>
  let from_ := s.dev.rd64 Reg.REC_RD_FROM
  let all := from_ = 2 ^ 64 - 1
  let oldest := s.rcd.oldest
  let ep := s.dev.fld Reg.REC_RD_EPOCH 15 0
  let rcd := { s.rcd with readOpen := true, readWords := [], readPos := if all ∨ from_ < oldest then 0 else from_,
                          readLeft := s.dev.rdN Reg.REC_RD_COUNT, readEpoch := if ep = 0xFFFF then s.dev.epoch else ep,
                          readCode := s.dev.rdN Reg.REC_RD_CODE }
  (.ok, { s with rcd := rcd, dev := if !all ∧ from_ < oldest then s.dev.setStat pREC sSHORT true else s.dev })

/-- Records taken whole until `n` words are there: the words, the last SEQ taken, how many. -/
def gather (n : Nat) : List Record → List W32 → Nat → Nat → List W32 × Nat × Nat
  | [], acc, pos, k => (acc, pos, k)
  | r :: rest, acc, pos, k => if acc.length ≥ n then (acc, pos, k) else gather n rest (acc ++ r.words) (r.seq + 1) (k + 1)

/-- REC_PORT: records whole, header first; a burst may end inside one. The session ends with its last word. -/
def portRec : PortAct := fun n s =>
  if !s.rcd.readOpen then ([], s)
  else
    let g := gather n s.matches_ s.rcd.readWords s.rcd.readPos 0
    let ws := takeWords n g.1
    let rest := g.1.drop n
    let s' := { s with rcd := { s.rcd with readWords := rest, readPos := g.2.1, readLeft := s.rcd.readLeft - g.2.2 } }
    (ws, if rest.isEmpty && s'.matches_.isEmpty then { s' with rcd := { s'.rcd with readOpen := false } } else s')

def execReadStart (req : Requester) (s : State) : Host.Outcome State Fault Refusal := .next (hostCmd req Reg.REC_REC_CMD 4#32 actReadStart s)
def execRecordRead (req : Requester) (words : Nat) (s : State) : Host.Outcome State Fault Refusal :=
  .next (hostPort req Reg.REC_REC_PORT words portRec s)

/-- BR_PORT: the 16 words of the entry that BR_SEL selects, from where the last read ended. -/
def failWords : Option FailEntry → List W32
  | none => List.replicate 16 0#32
  | some e => [w32 e.kind, lo32 e.tbm, hi32 e.tbm] ++ e.wall ++ [lo32 e.seq, hi32 e.seq, w32 e.sector] ++ List.replicate 7 0#32

def portBr : PortAct := fun n s =>
  let ws := takeWords n ((failWords (sget (fun _ => none) s.rcd.failLog (s.dev.fld Reg.REC_BR_SEL 5 0))).drop s.rcd.brPos)
  (ws, { s with rcd := { s.rcd with brPos := s.rcd.brPos + ws.length } })

/-- BR_SEL: select an entry, from its first word. -/
def actBrSel (v : W32) : Act := fun s => (.ok, { s with dev := s.dev.wr Reg.REC_BR_SEL (v &&& 0x3F#32), rcd := { s.rcd with brPos := 0 } })

def execFailureLogRead (req : Requester) (words : Nat) (s : State) : Host.Outcome State Fault Refusal :=
  .next (hostPort req Reg.REC_BR_PORT words portBr s)

/-! Keys and authorisations (R436 to R439) -/

/-- A key slot: 16 words, X then Y, none where it is empty. -/
def RecStore.key (r : RecStore) (slot : Nat) : Option (List W32) :=
  if slot = 0 then some (wordsBE (natBE 64 Config.serviceKey.toNat))
  else match r.keys[slot]? with
    | some [] => none
    | k => k

/-- The first 16 bytes of the SHA-256 of a key. -/
def keyTag (k : List W32) : List W32 := (sha256 (k.flatMap bytesBE)).take 4

/-- Put a key into a slot, or empty it; KEY_STAT follows. -/
def State.setKey (s : State) (slot : Nat) (k : List W32) : State :=
  { s with rcd := { s.rcd with keys := setAt s.rcd.keys slot k }, dev := s.dev.setBit Reg.REC_KEY_STAT slot (!k.isEmpty) }

/-- KEY_CMD: load the key into an empty slot. -/
def actKeyCmd (v : W32) (written : Bool) : Act := fun s =>
  let slot := field v 1 0
  let ks := (List.range 16).map (fun i => s.dev.rd (Reg.REC_KEY_W i))
  if (s.rcd.key slot).isSome || s.dev.stat pREC 17 then (.len, onDev (·.lenReject pREC) s)
  else if written then (.ok, s.setKey slot ks) else (.ok, onDev Dev.bedrockFails s)

def execKeyLoad (req : Requester) (slot : Nat) (written : Bool) (s : State) : Host.Outcome State Fault Refusal :=
  .next (hostCmd req Reg.REC_KEY_CMD (w32 slot) (actKeyCmd (w32 slot) written) s)

/-- REC_CMD = 1: a fresh nonce. -/
def actNonce : Act := actDev (fun d =>
  let n := (Config.recorderNonce d.rcf.nonceCnt).toNat
  let t := d.tm.tbm
  let d := (wordsBE (natBE 16 n)).zipIdx.foldl (fun d (p : W32 × Nat) => d.wr (Reg.REC_NONCE p.2) p.1) d
  { d with rcf := { d.rcf with nonceAt := some t, nonceCnt := d.rcf.nonceCnt + 1 } })

/-- AUTH_RESULT, with the record of a refusal (R425, R438). -/
def Dev.authResult (d : Dev) (code op slot : Nat) : Dev :=
  let d := (d.wrN Reg.REC_AUTH_RESULT code).irq pREC 17
  if code = 0 then d else d.recOwn 0x3C9 [w32 code, w32 op, w32 slot]

/-- REC_CMD = 2: submit the authorisation; its nonce is spent. -/
def actAuth : Act := actDev (fun d =>
  let a := (List.range 41).map (fun i => d.rd (Reg.REC_AUTH i))
  let valid := d.rcf.nonceAt.any (fun t => decide (d.tm.tbm ≤ t + 300000000000)) && (a.drop 4).take 4 = (List.range 4).map (fun i => d.rd (Reg.REC_NONCE i))
  let op := field (a.getD 1 0) 31 24
  let slot := field (a.getD 1 0) 23 16
  let d := { d with rcf := { d.rcf with nonceAt := none } }
  if d.stat pREC 20 then d.authResult 7 op slot
  else if d.mpState ≠ mpRUN then d.authResult 6 op slot
  else { d.setStat pREC 20 true with rcf := { d.rcf with auth := a, authNonce := valid } })

/-- REC_CMD = 3: the firmware drains at once. -/
def actDrainNow : Act := actDev (fun d => { d with rcf := { d.rcf with drainReq := true } })

def execRecNonce (req : Requester) (s : State) : Host.Outcome State Fault Refusal := .next (hostCmd req Reg.REC_REC_CMD 1#32 actNonce s)
def execRecAuth (req : Requester) (s : State) : Host.Outcome State Fault Refusal := .next (hostCmd req Reg.REC_REC_CMD 2#32 actAuth s)
def execDrainNow (req : Requester) (s : State) : Host.Outcome State Fault Refusal := .next (hostCmd req Reg.REC_REC_CMD 3#32 actDrainNow s)

/-- The code that an authorisation ends with (R438). -/
def State.authCode (s : State) (a : List W32) : Nat :=
  let w (i : Nat) : W32 := a.getD i 0
  let op := field (w 1) 31 24
  let slot := field (w 1) 23 16
  let target := field (w 1) 15 8
  let newKey := (a.drop 9).take 16
  let zero := newKey.all (fun x => decide (x = 0#32))
  let big (i : Nat) : Nat := beNat (((a.drop i).take 8).flatMap bytesBE)
  if w 0 ≠ 0x53434C52#32 ∨ ¬(op = 1 ∨ op = 2) ∨ field (w 1) 7 0 ≠ 0 ∨ slot > 3
      ∨ (op = 1 ∧ (target ≠ 0 ∨ zero = false)) ∨ (op = 2 ∧ ¬(1 ≤ target ∧ target ≤ 3))
      ∨ (w 2).toNat * 2 ^ 32 + (w 3).toNat ≠ s.dev.rd64 Reg.SYS_DEV_SERIAL then 1
  else if !s.dev.rcf.authNonce then 2
  else if (w 8).toNat ≠ s.dev.epoch then 3
  else match s.rcd.key slot with
    | none => 4
    | some k =>
      let q := (beNat ((k.take 8).flatMap bytesBE), beNat ((k.drop 8).flatMap bytesBE))
      let h := beNat (sha256Bytes ((a.take 25).flatMap bytesBE))
      if !ecdsaVerify q h (big 25) (big 33) then 5
      else if (op = 1 ∧ s.dev.stat pREC 16 = true) ∨ s.dev.stat pREC 17 = true then 8
      else 0

/-- AUTH_COMPLETE (R438): the firmware's check, and what an accepted authorisation starts. -/
def execAuthComplete (s : State) : Host.Outcome State Fault Refusal :=
  .next (if !s.dev.stat pREC 20 ∨ s.dev.rcf.clearing.isSome then s
    else
      let a := s.dev.rcf.auth
      let w1 := a.getD 1 0
      let op := field w1 31 24
      let slot := field w1 23 16
      let code := s.authCode a
      let s := onDev (fun d => { d.authResult code op slot with rcf := { (d.authResult code op slot).rcf with auth := [] } }) s
      if code ≠ 0 then onDev (·.setStat pREC 20 false) s
      else if op = 1 then onDev (fun d => { d.setStat pREC 18 true with rcf := { d.rcf with clearing := some slot } }) s
      else
        let target := field w1 15 8
        let k := (a.drop 9).take 16
        let erase := k.all (fun x => decide (x = 0#32))
        let s := s.setKey target (if erase then [] else k)
        let tag := if erase then [0#32, 0#32, 0#32, 0#32] else keyTag k
        onDev (fun d => (d.setStat pREC 20 false).recOwn 0x3CA ([w32 target] ++ tag ++ [w32 slot])) s)

/-- A CLEAR's new epoch (R439): the buffer is drained into the old one, and EPOCH_START opens the next. -/
def State.newEpoch (s : State) (slot : Nat) : State :=
  let old := s.dev.epoch
  let new := (old + 1) % 65536
  let rcd := s.rcd.drain old
  let d := s.dev.advance 1
  let last := rcd.nextSeq - 1
  let r : Record := ⟨0x3C1, rcd.nextSeq, d.tm.tbm, wallWords d.wall,
    [w32 new, w32 old, lo32 last, hi32 last, w32 slot] ++ keyTag ((rcd.key slot).getD [])⟩
  { s with dev := (d.wrN Reg.REC_EPOCH new).irq pREC 18, rcd := { rcd.takeSeq with ring := ringAdd new rcd.ring r } }

/-- CLEAR_COMPLETE (R439): the new epoch is in the bedrock store and intake is released, or that write has failed and the old one stays. -/
def execClearComplete (written : Bool) (s : State) : Host.Outcome State Fault Refusal :=
  .next (match s.dev.rcf.clearing with
    | none => s
    | some slot =>
      let s := onDev (fun d => { (d.setStat pREC 18 false).setStat pREC 20 false with rcf := { d.rcf with clearing := none } }) s
      if written then s.newEpoch slot else onDev Dev.bedrockFails s)

/-! The power-fail flush and the start after a reset (R411, R429, R433) -/

/-- The summaries of all suppressions in code order; the episodes end. -/
def Dev.summariseAll (d : Dev) : Dev := d.unsummarised.foldl (fun d c => d.summarise c 0) d

/-- Records of the PF area that the ring does not hold yet are imported into it; how many, and the count of events refused (R433). -/
def RecStore.importPf (r : RecStore) (epoch : Nat) : RecStore × Nat × Nat :=
  match r.pf with
  | none => (r, 0, 0)
  | some a =>
    let last := match (r.ring.flatMap (·.recs)).getLast? with | some x => x.seq + 1 | none => 0
    let new := a.recs.filter (fun x => last ≤ x.seq)
    ({ r with ring := new.foldl (ringAdd epoch) r.ring, pf := none }, new.length, a.refused)

/-- The RESET record and the summaries behind the events that wait from before the reset (R411, R429). -/
def Dev.resetRecord (d : Dev) : Dev :=
  let t := d.rd64 Reg.SYS_LAST_RST_TBM
  let e : Event := ⟨true, 0x3C0, 0, 0, 0, 0, 0,
    [d.rd Reg.SYS_RESET_CAUSE, d.rd Reg.SYS_RESET_CNT, lo32 t, hi32 t, w32 d.sup.imported, w32 d.sup.refused], t⟩
  let n := (d.rcf.hold.getD 0)
  let sums := d.unsummarised.map (fun c => summaryEvent c (sget (fun _ => {}) d.rcf.supp c) t)
  { d with rcf := { d.rcf with intake := d.rcf.intake.take n ++ e :: sums ++ d.rcf.intake.drop n, hold := none, supp := [] } }

end Sys2Proof.Machine
end

