-- ==== Sys2Proof/Machine/Recovery.lean ====
section
/-! DEFINITION. Supervision (chapter 16): the host heartbeat and the host-lost policies, the MP watchdog and the firmware-only restart, and
the arming of the output path. -/

namespace Sys2Proof.Machine

def pSYS : Nat := 0x000
def pHOST : Nat := 0x005

/-! Host heartbeat (R404 to R407) -/

/-- A kick restarts the heartbeat timer, arms the supervision, and ends a loss at the next turn. -/
def Dev.hostKick (d : Dev) : Dev :=
  let d := d.setStat pHOST 17 true
  { d with sup := { d.sup with hbAt := d.tm.tbm, kicked := d.sup.kicked || d.sup.lost.isSome } }

/-- Whose writes kick: the HSL's always, Ivyth's while HB_SRC is 1 (R404). -/
def Dev.kicksFrom (d : Dev) (req : Requester) : Bool :=
  match req with
  | .hsl => true
  | .ivy0 | .ivy1 => d.bit Reg.HOST_HB_SRC 0
  | .mp => false

def actHbKick (req : Requester) : Act := actDev (fun d => if d.kicksFrom req then d.hostKick else d)

/-- The write of HB_PERIOD restarts the timer (R404). -/
def actHbPeriod (v : W32) : Act := actDev (fun d =>
  let d := d.store Reg.HOST_HB_PERIOD v
  { d with sup := { d.sup with hbAt := d.tm.tbm } })

/-- HB_KICK. -/
def execHbKick (req : Requester) (data : W32) (s : State) : Host.Outcome State Fault Refusal :=
  .next (hostCmd req Reg.HOST_HB_KICK data (actHbKick req) s)

/-- HOST_LOST (R405): the timer reaches HB_PERIOD. -/
def execHostLost (s : State) : Host.Outcome State Fault Refusal :=
  .next (onDev (fun d =>
    if d.stat pHOST 17 && d.sup.lost.isNone then
      let d := d.toTbm (d.sup.hbAt + d.rdN Reg.HOST_HB_PERIOD * 1000000)
      let loss := (d.rdN Reg.HOST_HOSTLOST_POLICY, d.tm.tbm)
      let d := ((d.setStat pHOST 16 true).irq pHOST 16).faultRec pHOST 16
      { d with sup := { d.sup with lost := some loss, applied := false, closes := false, kicked := false } }
    else d) s)

/-- CLOSE (R406): the safe-state action, and the pending ON actions discarded with one record of their count. -/
def Dev.hostClose (d : Dev) : Dev :=
  let n := (d.eds.acts.filter (fun a => a.kind = haON)).length
  let d := { d with sup := { d.sup with closes := true } }
  let d := d.safeState.keepActs (fun a => a.kind ≠ haON)
  d.recOther pHOST [w32 n]

/-- CONTINUE has run out (R406). -/
def Dev.continueEnds (d : Dev) : Dev := ((d.setStat pHOST 18 true).recOther pHOST).hostClose

/-- A turn while the host is lost: its return ends the loss (R407), else the policy of the loss comes into force (R405). CONTINUE without a
CONTINUE_MAX passes to CLOSE at once (R541). -/
def Dev.hostTurn (d : Dev) : Dev :=
  match d.sup.lost with
  | none => d
  | some (policy, _) =>
    if d.sup.kicked then
      let d := { d with sup := { d.sup with lost := none, applied := false, closes := false, kicked := false } }
      (((d.setStat pHOST 16 false).setStat pHOST 18 false).irq pHOST 17).recIrq pHOST 17
    else if d.sup.applied then d
    else
      let d := { d with sup := { d.sup with applied := true } }
      if policy = 1 then d.hostClose
      else if policy = 0 ∧ d.rdN Reg.HOST_CONTINUE_MAX = 0 then d.continueEnds
      else d

/-- CONTINUE_EXPIRY (R406): CONTINUE_MAX after the loss. -/
def execContinueExpiry (s : State) : Host.Outcome State Fault Refusal :=
  .next (onDev (fun d =>
    match d.sup.lost with
    | some (0, since) =>
      if d.sup.applied && !d.sup.closes then (d.toTbm (since + d.rdN Reg.HOST_CONTINUE_MAX * 1000000000)).continueEnds else d
    | _ => d) s)

/-! MP watchdog (R408 to R410) -/

/-- Every Ivyth session is closed (R61). -/
def Dev.sessionsClosed (d : Dev) : Dev :=
  { d.wrN Reg.HOST_IVY_SESS 0 with fab := { d.fab with sessions := [none, none] } }

/-- What ends with the firmware (R409, R465, R438): the sessions, the navigation solution, the baselines, a report and an authorisation under
way. -/
def Dev.mpDown (d : Dev) : Dev :=
  let d := (((d.sessionsClosed.toHoldover).blLoseAll 5).reportAbandoned).setStat 0x00A 18 false
  if d.stat pREC 20 && d.rcf.clearing.isNone then
    let w := d.rcf.auth.getD 1 0
    let d := { d with rcf := { d.rcf with auth := [] } }
    (d.authResult 6 (field w 31 24) (field w 23 16)).setStat pREC 20 false
  else d

/-- The restarts within the last MP_RST_WIN. -/
def Dev.mpRecent (d : Dev) : List Nat := d.sup.mpRuns.filter (fun t => d.tm.tbm < t + d.rdN Reg.WDG_MP_RST_WIN * 1000000000)

/-- A firmware-only restart begins (R409); `expired` says that the watchdog asked for it. -/
def Dev.mpBegin (d : Dev) (expired : Bool) : Dev :=
  let d := (d.wrN Reg.WDG_MP_STATE mpRESTARTING).inc Reg.WDG_MP_RST_CNT
  let d := d.wr64 Reg.WDG_MP_LAST_RST d.tm.tbm
  let runs := d.mpRecent ++ [d.tm.tbm]
  let d := { d with sup := { d.sup with mpRuns := runs } }
  let d := if expired then d.fault pWDG 16 else d
  ((d.irq pWDG 16).recIrq pWDG 16).mpDown

/-- A restart, or the halt where there were too many (R410). -/
def Dev.mpRestart (d : Dev) (expired : Bool) : Dev :=
  if d.mpRecent.length + 1 > d.rdN Reg.WDG_MP_RST_MAX then
    (((d.wrN Reg.WDG_MP_STATE mpHALTED).setStat pWDG 16 true).faultRec pWDG 17).mpDown
  else d.mpBegin expired

/-- MP_KICK. -/
def actMpKick : Act := actDev (fun d => { d with sup := { d.sup with mpAt := d.tm.tbm } })

def execMpKick (req : Requester) (data : W32) (s : State) : Host.Outcome State Fault Refusal :=
  .next (hostCmd req Reg.WDG_MP_KICK data actMpKick s)

/-- MP_WATCHDOG_EXPIRY (R408): 20 ms without a kick, once the measured start has ended; suspended below SLACK (R451). -/
def execMpWatchdogExpiry (s : State) : Host.Outcome State Fault Refusal :=
  .next (onDev (fun d =>
    if d.mpState = mpRUN ∧ d.att.boot = 4 ∧ d.powerState ≤ 1 then (d.toTbm (d.sup.mpAt + 20000000)).mpRestart true else d) s)

/-- WDG_CMD: 1 restarts a running MP, 2 releases a halted one into one restart. -/
def actWdgCmd (v : W32) : Act := actDev (fun d =>
  if v = 1#32 then (if d.mpState = mpRUN then d.mpRestart false else d)
  else if d.mpState = mpHALTED then
    ({ d with sup := { d.sup with mpRuns := [] } }.setStat pWDG 16 false).mpBegin false
  else d)

def execMpRestart (req : Requester) (s : State) : Host.Outcome State Fault Refusal := .next (hostCmd req Reg.WDG_WDG_CMD 1#32 (actWdgCmd 1#32) s)
def execMpRelease (req : Requester) (s : State) : Host.Outcome State Fault Refusal := .next (hostCmd req Reg.WDG_WDG_CMD 2#32 (actWdgCmd 2#32) s)

/-- The firmware runs: its kicks begin afresh. -/
def Dev.mpUp (d : Dev) : Dev := { d with sup := { d.sup with mpAt := d.tm.tbm } }

/-- MP_RESTART_DONE (R409). -/
def execMpRestartDone (s : State) : Host.Outcome State Fault Refusal :=
  .next (onDev (fun d => if d.mpState = mpRESTARTING then ((d.wrN Reg.WDG_MP_STATE mpRUN).irq pWDG 17).mpUp else d) s)

/-! Arming (R415, R467) -/

def keyArm : W32 := 0x41524D31#32
def keyDisarm : W32 := 0x4449534D#32

def Dev.armed (d : Dev) : Bool := d.bit Reg.SYS_OUT_STATE 0

/-- SWITCH channels open, and what was queued for them is gone. -/
def Dev.openSwitches (d : Dev) : Dev :=
  d.busyChans.foldl (fun d c =>
    if d.mode c = mSWITCH then (d.lowSideOff c).modChan c (fun x => { x with queue := [], next := [], lossEnd := none, sortEdge := none })
    else d) d

/-- The path is disarmed for a reason: 1 reset, 2 disarm key, 3 power-fail. -/
def Dev.disarm (d : Dev) (why : Nat) : Dev := ((d.setFld Reg.SYS_OUT_STATE 7 4 why).setBit Reg.SYS_OUT_STATE 0 false).railUpdate

/-- The arm policy permits an arm. -/
def Dev.armAllowed (d : Dev) : Bool := d.rdN Reg.ATT_ARM_POLICY = 0 || d.stat pATT 16

/-- OUT_ARM: the arm key, or the disarm key; any other value is refused (R32). -/
def actOutArm (v : W32) : Act := fun s =>
  if v = keyArm then
    (.ok, onDev (fun d =>
      if d.pow.pfAt.isSome then d
      else if d.armAllowed then ((d.setBit Reg.SYS_OUT_STATE 0 true).setBit Reg.SYS_OUT_STATE 1 false).railUpdate
      else d.setBit Reg.SYS_OUT_STATE 1 true) s)
  else if v = keyDisarm then
    (.ok, onDev (fun d => (if d.armed then d.safeState else d).openSwitches.disarm 2) s)
  else (.len, onDev (·.lenReject pSYS) s)

def execOutputArm (req : Requester) (s : State) : Host.Outcome State Fault Refusal := .next (hostCmd req Reg.SYS_OUT_ARM keyArm (actOutArm keyArm) s)
def execOutputDisarm (req : Requester) (s : State) : Host.Outcome State Fault Refusal :=
  .next (hostCmd req Reg.SYS_OUT_ARM keyDisarm (actOutArm keyDisarm) s)

end Sys2Proof.Machine
end

