-- ==== Sys2Proof/Machine/Switch.lean ====
section
/-! DEFINITION. The commands of protected switch channels (chapter 12): allowances, bank trips, SORT and the LOSS policy. -/

namespace Sys2Proof.Machine

/-- A SWITCH channel is inside its inrush window (R314). -/
def Dev.inWindow (d : Dev) (c : Nat) : Bool :=
  match (d.chan c).winEnd with
  | some t => d.tick < t
  | none => false

/-- INRUSH_WINDOW_END (R314). -/
def execInrushWindowEnd (c : Fin 512) (s : State) : Host.Outcome State Fault Refusal :=
  .next (onDev (fun d =>
    match decide ((d.chan c).phase = phSWITCHED), (d.chan c).winEnd with
    | true, some t => (d.toTick t).modChan c (fun x => { x with winEnd := none })
    | _, _ => d) s)

/-- INRUSH_EXCESS (R315): above INRUSH_LIM inside the window. -/
def execInrushExcess (c : Fin 512) (milliA : Nat) (s : State) : Host.Outcome State Fault Refusal :=
  .next (onDev (fun d =>
    if d.mode c = mSWITCH ∧ (d.chan c).phase = phSWITCHED ∧ d.inWindow c = true ∧ milliA > (d.chan c).winLim ∧ d.clockLost 5 = false ∧ d.diagOn c = true then
      d.chanFault c cINRUSH
    else d) s)

/-- OVERLOAD (R315): the mean of 1,000 µs of samples outside the window above 2.75 A. -/
def execOverload (c : Fin 512) (milliA : Nat) (s : State) : Host.Outcome State Fault Refusal :=
  .next (onDev (fun d =>
    let x := d.chan c
    if d.mode c = mSWITCH ∧ x.phase = phSWITCHED ∧ milliA > 2750 ∧ d.clockLost 5 = false ∧ d.diagOn c = true then
      (d.toTick (max x.tOn (x.winEnd.getD 0) + 1000 * tUs)).chanFault c cOVERLOAD
    else d) s)

/-! Bank trips (R318) -/

/-- The short comparator of a channel has fired within the last 10 µs (R318). -/
def Dev.shortFired (d : Dev) (c : Nat) : Bool :=
  match (d.chan c).shortAt with
  | some t => d.tick ≤ t + 10 * tUs
  | none => false

/-- A channel exceeds (R318): above its allowance or its comparator fired; a metered one above 16 A or clamping in DECAY. -/
def Dev.exceeds (d : Dev) (c mA : Nat) (clamped : Bool) : Bool :=
  d.shortFired c ||
  (if d.mode c = mSWITCH then mA > (if d.inWindow c then (d.chan c).winLim else 2750)
   else mA > 16000 || ((d.chan c).phase = phDECAY && clamped))

/-- The cause of an attributed trip (R318). A sample above 16 A is one at which the short comparator fires (R314). -/
def Dev.tripCause (d : Dev) (c mA : Nat) : Nat :=
  if d.shortFired c || mA > 16000 then cSHORT
  else if d.mode c = mSWITCH then (if d.inWindow c then cINRUSH else cOVERLOAD)
  else cSHORT

/-- Both high-side switches open: nothing is delivered on the bank until they close; an actuation in BOOST or PEAK will go
on in PEAK from VBAT (R318). The low sides keep their state, so that none of them counts as closed (R255, log entry 198). -/
def Dev.bankOpen (d : Dev) (b : Nat) : Dev :=
  let t := d.tick
  (bankChans b).foldl (fun d c =>
    if phaseOn (d.chan c).phase then
      d.modChan c (fun x => { x with
        phase := if x.phase = phBOOST then phPEAK else x.phase
        degraded := x.degraded || x.phase = phBOOST || x.phase = phPEAK
        book := x.book.outage t .fault })
    else d) d

/-- SORT begins (R319): every low side of the bank opens; what is commanded on is remembered. -/
def Dev.sortBegin (d : Dev) (b : Nat) : Dev :=
  let t := d.tick
  let d := (d.modBank b (fun x => { x with sort := some ⟨t, 0, false, []⟩, sorted := true })).setStat (pBK b) 17 true
  (bankChans b).foldl (fun d c =>
    let x := d.chan c
    if x.phase = phFAULT then d
    else if phaseOn x.phase ∨ x.phase = phWAIT then
      d.modChan c (fun x => { x with
        phase := if x.phase = phSWITCHED ∨ x.phase = phWAIT then phOFF else phDECAY
        waitAt := none, waitEnd := none, waitEdge := none, winEnd := none, commanded := true, closed := true
        book := x.book.outage t .fault })
    else d.modChan c (fun x => { x with commanded := false })) d

/-- BANK_TRIP (R318, R321): attributed to the one channel that exceeds, or SORT, or the bank fault state. A sample the operand does
not give is a free value. -/
def execBankTrip (b : Fin 64) (bankMA : Nat) (samples : List Nat) (clamped : List (Fin 8)) (s : State) :
    Host.Outcome State Fault Refusal :=
  .next (onDev (fun d =>
    let trips := bankMA > 40000 || bankMA > d.fld (Reg.BK_BK_TRIP b) 11 0 * 10
    if trips && !(d.bank b).fault && (d.bank b).sort.isNone && (d.bank b).reclose.isNone then
      let d := (d.bankPeak b bankMA).faultRec (pBK b) 28
      let sample := d.sampleOf samples
      let culprits := (List.range 8).filter (fun i => d.exceeds (8 * b + i) (sample i) (clamped.any (·.val = i)))
      let d := d.bankOpen b
      match culprits with
      | [i] =>
        let d := d.chanFault (8 * b + i) (d.tripCause (8 * b + i) (sample i))
        let on := (bankChans b).filter (fun c => phaseOn (d.chan c).phase)
        d.modBank b (fun x => { x with reclose := some (d.tick + 100 * tUs), resume := on })
      | _ =>
        match (d.bank b).sortEnd with
        | some t => if d.tick ≤ t + 1000000 * tUs then d.bankFault b else d.sortBegin b
        | none => d.sortBegin b
    else d) s)

/-- BANK_RECLOSE (R318): 100 µs after an attributed trip; inrush windows restart. -/
def execBankReclose (b : Fin 64) (s : State) : Host.Outcome State Fault Refusal :=
  .next (onDev (fun d =>
    match (d.bank b).reclose with
    | none => d
    | some t =>
      let d := d.toTick t
      let on := (d.bank b).resume
      let d := (d.modBank b (fun x => { x with reclose := none, resume := [] })).recOther (pBK b) []
      on.foldl (fun d c =>
        if phaseOn (d.chan c).phase then
          let now := d.tick
          let win := if d.mode c = mSWITCH ∧ d.inrushT c ≠ 0 then some (now + d.inrushT c) else none
          let lim := d.inrushLim c
          d.modChan c (fun x => { x with winEnd := win, winLim := lim, book := (x.book.mark now none).openAt now })
        else d) d) s)

/-! SORT (R319 to R321) -/

/-- SORT_NODE_TEST: current with every low side open ends SORT with the bank fault state. -/
def execSortNodeTest (b : Fin 64) (bankMA : Nat) (s : State) : Host.Outcome State Fault Refusal :=
  .next (onDev (fun d =>
    match (d.bank b).sort with
    | none => d
    | some r =>
      if r.tested then d else
      let d := d.toTick (r.trip + 200 * tUs)
      if bankMA > 150 then d.bankFault b
      else d.modBank b (fun x => { x with sort := some { r with tested := true } })) s)

/-- Close a commanded channel in its step: a window, or a fresh profile in PEAK (R319). A METER channel resumes its duty with its step. -/
def Dev.sortClose (d : Dev) (c : Nat) : Dev :=
  let now := d.tick
  let e := ((d.chan c).sortEdge).getD { t := now, on := true }
  if d.profiled c then
    let tooShort : Bool := match (d.chan c).runEnd with
      | some t => t < now + d.rdN Reg.EDS_EDGE_GAP * tUs
      | none => false
    if tooShort then d else d.startProfile c { e with shift := [] } false true
  else d.switchOn c

/-- SORT_STEP: one commanded channel closes and is judged. -/
def execSortStep (b : Fin 64) (bankMA chanMA : Nat) (s : State) : Host.Outcome State Fault Refusal :=
  .next (onDev (fun d =>
    match (d.bank b).sort with
    | none => d
    | some r =>
      if r.tested ∧ r.step < 8 then
        let d := d.toTick (r.trip + (450 + 500 * r.step) * tUs)
        let c := 8 * b.val + r.step
        let ended : Bool := match (d.chan c).runEnd with | some t => t ≤ d.tick | none => false
        let meter := decide (d.mode c = mMETER)
        let runs := (d.chan c).phase ≠ phFAULT && (meter || ((d.chan c).commanded && !ended))
        let d := if runs && !meter then d.sortClose c else d
        let d := d.modBank b (fun x => { x with sort := some { r with step := r.step + 1 } })
        let on := phaseOn (d.chan c).phase || (d.mode c = mMETER && d.meterDrives c)
        let bad := runs && on && (d.exceeds c chanMA false || bankMA > d.fld (Reg.BK_BK_TRIP b) 11 0 * 10)
        let d := if bad then d.chanFault c cSORT else d
        d.modBank b (fun x => { x with sort := some { r with
          step := r.step + 1, culprits := if bad then r.culprits ++ [c] else r.culprits } })
      else d) s)

/-- A cause for the LOSS policy stands (R325): strobe loss, a safe close, or the loss of CK_SENSE. -/
def Dev.lossStands (d : Dev) : Bool := d.drv.strobeLost || d.stat 0x002 17 || d.clockLost 5

/-- SORT_END: the LOSS policy applies to the bank as SORT left it where its cause stands (R327); the record names the culprits; a SORT without one is remembered for R321. -/
def execSortEnd (b : Fin 64) (s : State) : Host.Outcome State Fault Refusal :=
  .next (onDev (fun d =>
    match (d.bank b).sort with
    | none => d
    | some r =>
      if r.step = 8 then
        let d := d.toTick (r.trip + 4450 * tUs)
        let d := (d.setStat (pBK b) 17 false).modBank b (fun x => { x with
          sort := none, sortEnd := if r.culprits.isEmpty then some d.tick else none })
        let d := if d.lossStands then (bankChans b).foldl (fun d c => if d.mode c = mSWITCH then d.lossPolicy c else d) d else d
        d.recOther (pBK b) (r.culprits.map w32)
      else d) s)

/-! Loss of control (R325, R412) -/

/-- LOSS_HOLD_EXPIRY (R325). -/
def execLossHoldExpiry (c : Fin 512) (s : State) : Host.Outcome State Fault Refusal :=
  .next (onDev (fun d =>
    match (d.chan c).lossEnd with
    | none => d
    | some t => (d.toTick t).lowSideOff c) s)

/-- The tiles' behaviour on strobe loss (R412): queues discarded, metered channels off, SWITCH channels by their policy, the
boost converters stopped. What a stopped booking leaves open is closed without an account (R355). -/
def Dev.strobeClose (d : Dev) : Dev :=
  let d := d.busyChans.foldl (fun d c =>
    let d := d.modChan c (fun x => { x with queue := [], next := [] })
    if (d.chan c).phase = phFAULT then d
    else if d.mode c = mSWITCH then d.lossPolicy c else (d.lowSideOff c).modChan c (fun x => { x with commanded := false, sortEdge := none })) d
  let d := [0, 1, 2, 3].foldl (fun d k => if d.railState k = 4 then d else d.setRail k 0) d
  (List.range 8).foldl (fun d t => d.faultRec (pDT t) 19) d

/-- The tiles detect that the strobe has stopped, 50 µs after it did. -/
def Dev.loseStrobe (d : Dev) : Dev :=
  match d.drv.strobeStop, d.drv.strobeLost with
  | some t, false =>
    let d := (d.toTbm (t + 50000)).strobeClose
    { d with drv := { d.drv with strobeLost := true } }
  | _, _ => d

/-- STROBE_LOSS (R412): 50 µs after the frame strobe stopped. -/
def execStrobeLoss (s : State) : Host.Outcome State Fault Refusal := .next (onDev Dev.loseStrobe s)

end Sys2Proof.Machine
end

