-- ==== Sys2Proof/Machine/Reset.lean ====
section
/-! DEFINITION. Resets and the power-fail sequence (R357, R411 to R417, R433, R455): what each kind of reset keeps, and how the part
restarts. -/

namespace Sys2Proof.Machine

/-! What a warm reset keeps (R416) -/

/-- Words that stand for what R416 retains beside the RWT copies, as address ranges. -/
def keptRanges : List (Nat × Nat) := [
  (0x14, 0x1C), (0x20, 0x24), (0x44, 0x100),            -- SYS
  (0x1014, 0x1018), (0x1050, 0x1058),                   -- CLK
  (0x2044, 0x2058), (0x2090, 0x20A0),                   -- FRM grid
  (0x3044, 0x3118),                                     -- PWR
  (0x405C, 0x4060), (0x4180, 0x41A0),                   -- ARM_POLICY_NEXT, MEAS4
  (0x5164, 0x5168),                                     -- PAIR_STAT
  (0x6058, 0x6080), (0x7014, 0x7018), (0x705C, 0x7060), (0x7100, 0x7110),   -- time bases
  (0x904C, 0x9050), (0x9054, 0x905C), (0x9080, 0x90A0), -- IMP
  (0xA0C0, 0xA0E0),                                     -- BSS: the active set
  (0x10044, 0x10048),                                   -- EPOCH_SEQ
  (0x20044, 0x2008C), (0x2009C, 0x200A0),               -- MAP
  (0x22074, 0x220B4), (0x23050, 0x23090),               -- INHIBIT, LRN_LOST
  (0x25044, 0x250C0),                                   -- LDG
  (0x90054, 0x90068), (0x9006C, 0x90070), (0x90080, 0x90084),   -- REC
  (0xB0014, 0xB001C), (0xB0020, 0xB0024), (0xB0048, 0xB004C), (0xB0050, 0xB005C),   -- WDG
  (0x01010000, 0x01014000)]                             -- LATT

def inRanges (rs : List (Nat × Nat)) (a : Nat) : Bool := rs.any (fun (r : Nat × Nat) => r.1 ≤ a && a < r.2)

/-- A register whose active copy a warm reset keeps. -/
def warmKeeps (a : Nat) : Bool :=
  inRanges keptRanges a
  || (match findReg a with
      | some h => decide (h.row.acc = .rwt)
      | none => false)
  || [0, 1, 2, 3].any (fun k => a = Reg.VB_RAIL_STATE k)

/-- The fault states of banks and tiles show again in their STATUS bits. -/
def Dev.showFaultStates (d : Dev) : Dev :=
  let d := d.drv.bank.foldl (fun d (p : Nat × Bank) => (d.setStat (pBK p.1) 16 p.2.fault).setStat (pBK p.1) 17 p.2.sort.isSome) d
  d.drv.tile.foldl (fun d (p : Nat × Tile) => d.setStat (pDT p.1) 16 p.2.fault) d

/-- RESET_CAUSE (R419). -/
def causeWordOf (cause : Nat) (outOn pfDone : Bool) : W32 := w32 (cause + (if outOn then 2 ^ 16 else 0) + (if pfDone then 2 ^ 17 else 0))

/-- A channel is on: its low side, or the duty that drives a METER channel. -/
def Dev.anyOn (d : Dev) : Bool := d.drv.ch.any (fun (p : Nat × Chan) => phaseOn p.2.phase) || d.meterChans.any d.meterDrives

/-- Reset causes (R411). -/
def rcPOR : Nat := 1
def rcPF : Nat := 2
def rcPIN : Nat := 3
def rcSOFT : Nat := 4
def rcWDG : Nat := 5
def rcCLOCK : Nat := 6
def rcWAKE : Nat := 7

/-- Strokes that a reset drops have their ground counted as unpainted, as far as their ends are known (R197). -/
def Dev.dropStrokes (d : Dev) : Dev :=
  d.map.strokes.foldl (fun d p => p.2.foldl (fun d st =>
    match st.done.orElse (fun _ => st.parts.head?.map (·.s)), st.parts.getLast?.bind (·.e) with
    | some a, some e => d.unpainted (e - a)
    | _, _ => d) d) d

/-- The register file and the engines after a warm reset (R416). -/
def Dev.warmBase (d : Dev) : Dev :=
  let n := d.eds.acts.length
  let jobValid := d.stat pPOSE 16
  let nvm := d.stat pREC 16
  let br := d.stat pREC 17
  let d := (d.recOther pEDS [w32 n]).dropStrokes
  let d : Dev := { d with
    regs := d.regs.filter (fun p => warmKeeps p.1)
    pend := []
    cross := []
    fab := { pairKeys := d.fab.pairKeys, nonceCnt := d.fab.nonceCnt, resp := d.fab.resp }
    frm := { turned := d.frm.turned, turnTbm := d.frm.turnTbm }
    rcf := { d.rcf with buckets := [], nonceAt := none, auth := [], authNonce := false, clearing := none, drainReq := false
                        closed := false, refused := 0, hold := some d.rcf.intake.length }
    pose := {}
    imp := { active := d.imp.active, nor := d.imp.nor, booting := false }
    drv := { d.drv with ch := (d.drv.ch.map (fun (p : Nat × Chan) => (p.1, { p.2 with next := [], fr := {} }))).filter (fun p => p.2 ≠ {}) }
    lpe := {}
    net := {}
    gps := { smpBase := d.gps.smpBase, smpAt := d.gps.smpAt, lastEpoch := d.gps.lastEpoch, lastSnap := d.gps.lastSnap }
    pow := { wake := d.pow.wake, lines := d.pow.lines }
    map := { d.map with asks := [], strokes := [], past := [], unqueued := [], check := none, exp := none, page := [], polyPend := d.map.poly, paintDue := false }
    sde := {}
    eds := {}
    bwk := { ch := d.bwk.ch }
    dia := {}
    att := {} }
  let d := (d.wr (Reg.STATUS pIMP) 0#32).setStat pPOSE 16 jobValid
  ((d.setStat pREC 16 nvm).setStat pREC 17 br).showFaultStates

/-- A warm reset of a cause takes place now (R411 to R416). -/
def Dev.warmReset (d : Dev) (cause : Nat) (pfDone : Bool) (imported refused : Nat) : Dev :=
  let now := d.tm.tbm
  let word := causeWordOf cause d.anyOn pfDone
  let asked := d.sup
  let d := d.withSmp Dev.toHoldover
  let d := d.warmBase
  let d := ((d.wr Reg.SYS_RESET_CAUSE word).inc Reg.SYS_RESET_CNT).wr64 Reg.SYS_LAST_RST_TBM now
  let d := d.wrN Reg.SYS_OUT_STATE (if cause = rcPF then 0x30 else 0x10)
  let d := d.wr Reg.ATT_ARM_POLICY (d.rd Reg.ATT_ARM_POLICY_NEXT)
  let d := if cause = rcWDG then d.inc Reg.WDG_SYS_WD_CNT else d
  let d := d.setStat pWDG 16 false
  let stop := d.drv.strobeStop.getD now
  { d with
    drv := { d.drv with strobeStop := some stop }
    sup := { mpAt := now, resumeAt := some (now + 2000000), rebook := true, imported := imported, refused := refused
             snapReq := asked.snapReq, sessReq := asked.sessReq, flushReq := asked.flushReq } }

/-! Power-fail (R413, R433) -/

/-- Every event that waits is taken now. -/
def State.intakeAll (s : State) : State :=
  (List.range s.dev.rcf.intake.length).foldl (fun s _ => match execRecordIntake s with | .next s => s | _ => s) s

/-- The flush (R357, R433): the power-fail area and the ledger, then the controller held in reset. -/
def State.pfFlush (s : State) (inTime : Bool) : State :=
  let s := s.intakeAll
  let good := inTime && !s.dev.stat pREC 16
  let area : PfArea := ⟨s.rcd.undrained, s.dev.rcf.refused⟩
  let slot := s.ldg.slot s.ldg.book.resetFlight true
  let s := { s with
    rcd := { s.rcd with pf := if good then some area else none } }
  let s := if inTime then s.flushLedger slot good
    else State.logFailure { s with ldg := { s.ldg.writeSlot slot false with flushing := none } } 4 0 true
  let now := s.dev.tm.tbm
  onDev (fun d => { d with
    pow := { d.pow with held := true, pfFlushed := good }
    drv := { d.drv with strobeStop := some (d.drv.strobeStop.getD now) } }) s

/-- A controller reset, or, while a power-fail sequence runs, its flush (R417). A second cause in the cycle of a reset only lowers the
code. -/
def State.controllerReset (s : State) (cause : Nat) : State :=
  if s.dev.pow.held then s
  else if s.dev.pow.pfAt.isSome then s.pfFlush true
  else if s.dev.sup.resumeAt = some (s.dev.tm.tbm + 2000000) then
    onDev (fun d => d.setFld Reg.SYS_RESET_CAUSE 3 0 (min cause (d.fld Reg.SYS_RESET_CAUSE 3 0))) s
  else onDev (·.warmReset cause false 0 0) s

/-- HOST_PIN_RESET (R411): HOST_RST_N low for 10 µs. -/
def execHostPinReset (s : State) : Host.Outcome State Fault Refusal := .next (s.controllerReset rcPIN)

/-- RST_CMD: the key resets; any other value is refused (R32). -/
def actRstCmd (v : W32) : Act := fun s =>
  if v = 0x57534554#32 then (.ok, s.controllerReset rcSOFT) else (.len, onDev (·.lenReject pSYS) s)

/-- SOFT_RESET. -/
def execSoftReset (req : Requester) (s : State) : Host.Outcome State Fault Refusal :=
  .next (hostCmd req Reg.SYS_RST_CMD 0x57534554#32 (actRstCmd 0x57534554#32) s)

/-- SYS_WATCHDOG (R403): 4 x T_F without a turn, in the states in which turns run. -/
def execSysWatchdog (s : State) : Host.Outcome State Fault Refusal :=
  .next (if s.dev.frm.turned && s.dev.sup.resumeAt.isNone && !s.dev.pow.held && s.dev.powerState ≤ 1 then
      (onDev (fun d => d.toTbm (d.frm.turnTbm + 4 * d.tf)) s).controllerReset rcWDG
    else s)

/-- Every output closes at a power-fail warning (R412, R413): low sides open, boost stops, what is queued is discarded. -/
def Dev.pfClose (d : Dev) : Dev :=
  let d := d.busyChans.foldl (fun d c =>
    if (d.chan c).phase = phFAULT then d.modChan c (fun x => { x with queue := [], next := [] })
    else (d.lowSideOff c).modChan c (fun x => { x with queue := [], next := [], lossEnd := none, sortEdge := none, closed := true })) d
  let d := [0, 1, 2, 3].foldl (fun d k => if d.railState k = 4 then d else d.setRail k 0) d
  let d := { d with net := { d.net with can := (d.net.can.map (fun (p : Nat × CanPort) => (p.1, { p.2 with slots := [] }))).filter (fun (p : Nat × CanPort) => p.2 ≠ ({} : CanPort)) } }
  ({ d with eds := {} }).disarm 3

/-- POWER_FAIL_WARNING (R413): VLOGIC below 8.5 V. In SLACK and EBB it wakes the module as well, below EBB it is disarmed (R448). -/
def execPowerFailWarning (milliV : Nat) (s : State) : Host.Outcome State Fault Refusal :=
  .next (onDev (fun d =>
    if milliV < 8500 ∧ d.powerState ≤ 2 ∧ d.pow.pfAt.isNone ∧ d.pow.held = false then
      let resetting := d.sup.resumeAt.isSome
      let d := d.recOwn 0x3C7 [w32 milliV]
      let d := d.summariseAll.pfClose
      let now := d.tm.tbm
      { d with pow := { d.pow with pfAt := some now, pfBooked := resetting, wake := if d.powerState = 0 then d.pow.wake else d.pow.wake ||| 2 ^ 8 } }
    else d) s)

/-- POWER_FAIL_FLUSH_DONE (R413, R433): the flush is complete, within 12 ms of the warning or not. -/
def execPowerFailFlushDone (inTime : Bool) (s : State) : Host.Outcome State Fault Refusal :=
  .next (match s.dev.pow.pfAt, s.dev.pow.held with
    | some _, false => s.pfFlush inTime
    | _, _ => s)

/-- The power-fail area is imported before anything else is drained (R433): what it holds counts as drained. -/
def State.importArea (s : State) : State × Nat × Nat :=
  let r := s.rcd.importPf s.dev.epoch
  let held := match s.rcd.pf with
    | some a => a.recs
    | none => []
  let inArea (x : Record) : Bool := held.any (fun y => y.seq = x.seq)
  let rcd := { r.1 with kept := r.1.kept ++ r.1.undrained.filter inArea, undrained := r.1.undrained.filter (fun x => !inArea x) }
  ({ s with rcd := rcd }, r.2.1, r.2.2)

/-- POWER_FAIL_RECOVERY (R413): VLOGIC has stayed at 9.0 V or above for 10 ms; the controller leaves reset with cause PF. -/
def execPowerFailRecovery (s : State) : Host.Outcome State Fault Refusal :=
  .next (match s.dev.pow.pfAt, s.dev.pow.held with
    | some _, true =>
      let done := s.dev.pow.pfFlushed
      let t := s.importArea
      onDev (fun d => ({ d with pow := {} }).warmReset rcPF done t.2.1 (if done then t.2.2 else s.dev.rcf.refused)) t.1
    | _, _ => s)

/-! Power-on (R416, R358, R428, R433) -/

/-- Register words that live in the NOR, the record store or the bedrock store. -/
def storedWords : List Nat :=
  [Reg.ATT_ARM_POLICY_NEXT, Reg.HOST_PAIR_STAT, Reg.IMP_STORED_SERIAL, Reg.REC_EPOCH, Reg.REC_SPARE_LEFT, Reg.REC_KEY_STAT, Reg.REC_BR_FAIL_CNT]

/-- The part with nothing but what its stores hold. -/
def Dev.unpowered (d : Dev) : Dev :=
  { regs := d.regs.filter (fun p => storedWords.contains p.1)
    fab := { pairKeys := d.fab.pairKeys, nonceCnt := d.fab.nonceCnt }
    rcf := { nonceCnt := d.rcf.nonceCnt }
    imp := { nor := d.imp.nor } }

/-- Volatile memory is lost: the record buffer, the ledger, and everything of the part that no store holds. -/
def State.unpowered (s : State) : State :=
  { s with
    dev := s.dev.unpowered
    ldg := { slots := s.ldg.slots, lastSlot := s.ldg.lastSlot }
    rcd := { ring := s.rcd.ring, pf := s.rcd.pf, failLog := s.rcd.failLog, keys := s.rcd.keys, nextSeq := s.rcd.nextSeq, reserved := s.rcd.reserved } }

/-- The ledger resumes from its newest slot (R358): FAULT.DISCONT where that leaves a gap, IRQ_RAW.SESSION where its STATE changes. -/
def State.resumeSession (s : State) : State :=
  let l := s.dev.resumeLedger s.ldg
  let changed := s.ldg.newest.any (fun (x : LedgerSlot) => x.book.status ≠ l.1.book.status)
  let d := if l.2 then s.dev.fault pLDG 17 else s.dev
  { s with dev := if changed then d.irq pLDG 17 else d, ldg := l.1 }

/-- The start that loads the stores (R358, R428, R433): the area imported, the ledger restored, the policy loaded. -/
def State.boot (s : State) (cause : Nat) : State :=
  let t := s.importArea
  let u := t.1.resumeSession
  let d := u.dev
  let d := (d.wr Reg.SYS_RESET_CAUSE (causeWordOf cause false false)).wr Reg.ATT_ARM_POLICY (d.rd Reg.ATT_ARM_POLICY_NEXT)
  { u with
    dev := { d with
      rcf := { d.rcf with hold := some d.rcf.intake.length }
      sup := { d.sup with rebook := true, imported := t.2.1, refused := t.2.2 } } }

/-- POWER_ON_RESET (R411, R416): supply applied after loss. -/
def execPowerOnReset (s : State) : Host.Outcome State Fault Refusal :=
  .next (let s := s.unpowered
    { s with rcd := { s.rcd with nextSeq := s.rcd.reserved } }.boot rcPOR)

/-- POWER_LOSS (R413, R456): VLOGIC and VKEEP are gone; nothing answers until power is applied. -/
def execPowerLoss (s : State) : Host.Outcome State Fault Refusal :=
  .next (onDev (fun d => { d with pow := { held := true } }) s.unpowered)

/-- The exit from STRAND is a controller reset with cause WAKE (R455): it keeps the FRM grid, TB-M, TB-S, the RTC, SEQ and the PWR page. -/
def State.wakeReset (s : State) : State :=
  let d := s.dev
  let kept := d.regs.filter (fun p => storedWords.contains p.1 || inRanges [(0x2044, 0x2058), (0x2090, 0x20A0), (0x3044, 0x3118)] p.1 || p.1 = Reg.FRM_TF_SEL)
  let seq := s.rcd.nextSeq
  let now := d.tm.tbm
  let smp := d.smp
  let tm : TimeBases := { tbm := now, tbsP := d.tm.tbsP, rtcNs := d.tm.rtcNs, rtcAt := d.tm.rtcAt, rtcSrc := d.tm.rtcSrc, steerAt := d.tm.steerAt }
  let s := s.unpowered
  let s := { s with
    dev := { s.dev with
      regs := kept
      tm := tm
      frm := { turned := d.frm.turned, turnTbm := d.frm.turnTbm }
      gps := { smpBase := smp, smpAt := now, lastEpoch := d.gps.lastEpoch, lastSnap := d.gps.lastSnap }
      sup := { mpAt := now, resumeAt := some (now + 2000000) } }
    rcd := { s.rcd with nextSeq := seq } }
  onDev (fun d => ((d.inc Reg.SYS_RESET_CNT).wr64 Reg.SYS_LAST_RST_TBM now)) (s.boot rcWAKE)

end Sys2Proof.Machine
end

