-- ==== Sys2Proof/Machine/Power.lean ====
section
/-! DEFINITION. The power ladder (chapter 18): the entry command with its refusals, the steps down, the wake sources and the exit. -/

namespace Sys2Proof.Machine

def pPWR : Nat := 0x003

/-- Something under way keeps the module up (R450 code 3). -/
def State.powerBusy (s : State) : Bool :=
  let d := s.dev
  d.stat pIMP 16 || d.stat pIMP 17 || d.map.exp.any (fun x => !x.done) || d.map.check.isSome || d.stat pREC 20
    || (s.ldg.snap.isSome && 0 < s.ldg.snapPos && s.ldg.snapPos < snapWords)

/-- Enabled wake lines that a state accepts, as a mask (R452). -/
def Dev.activeWakes (d : Dev) (state : Nat) : Nat :=
  ((List.range 8).filter (fun b => d.pow.lines.testBit b && d.bit Reg.PWR_WAKE_EN b && wakeAccepts state b)).foldl (fun a b => a ||| 2 ^ b) 0

/-- The lowest code that refuses an entry, 0 where none does (R450). -/
def State.entryCode (s : State) : Nat :=
  let d := s.dev
  let t := d.fld Reg.PWR_PWR_TARGET 2 0
  if d.armed then 1
  else if (t = 4 ∨ t = 5) ∧ d.map.job ≠ joNONE then 2
  else if s.powerBusy then 3
  else if d.clockLost 7 then 4
  else if t = 0 ∨ t > 5 ∨ ((t = 1 ∨ t = 2) ∧ d.pow.supplyBad = true) then 5
  else if d.activeWakes t ≠ 0 then 6
  else 0

/-- PWR_CMD: the entry begins at the next turn, or is refused with its code. -/
def actPwrCmd : Act := fun s =>
  let c := s.entryCode
  if c = 0 then
    (.ok, onDev (fun d => { d with pow := { d.pow with target := some (d.fld Reg.PWR_PWR_TARGET 2 0) } }) s)
  else (.len, onDev (fun d => ((d.lenReject pPWR).wrN Reg.PWR_PWR_REFUSE c).faultRec pPWR 16) s)

/-- POWER_ENTRY (R450). -/
def execPowerEntry (req : Requester) (s : State) : Host.Outcome State Fault Refusal :=
  .next (farCmd req Reg.PWR_PWR_CMD 1#32 actPwrCmd s)

/-- An accepted entry begins at the turn (R451). -/
def Dev.entryBegins (d : Dev) : Dev :=
  match d.pow.target with
  | none => d
  | some t => { d.wr64 Reg.PWR_PARK_TBM d.tm.tbm with pow := { d.pow with target := none, goal := some t } }

/-! The steps down (R449, R451) -/

/-- A state is reached: PWR_STATE with the deepest state, and the record of the entry. -/
def Dev.reached (d : Dev) (st : Nat) : Dev := (d.wrN Reg.PWR_PWR_STATE (st * 16 + st)).recOther pPWR [w32 st]

/-- SLACK: the loop engine stops and the heartbeat supervision is disarmed. -/
def Dev.toSlack (d : Dev) : Dev :=
  let d := (((d.loopsStop).setStat pHOST 17 false).setStat pHOST 16 false).setStat pHOST 18 false
  { d with sup := { d.sup with lost := none, applied := false, closes := false, kicked := false } }.reached 1

/-- EBB: the ledger is flushed, tracking ends, PPS falls silent, TB-N runs free; TB-G goes to holdover where the module stays here. -/
def State.toEbb (s : State) (stays : Bool) : State :=
  let good := !s.dev.stat pREC 16
  let slot := s.ldg.slot s.ldg.book false
  onDev (fun d =>
    let d := ((List.range 64).filter d.tcActive).foldl (fun d c => d.setTc c tsIDLE) d
    let d := if stays then d.acqFlush.toHoldover else d.acqFlush
    let d := { d with tm := { d.tm with ppsSince := none, adjU := 0 } }
    ((d.withWall (·.setStat pTIME1 16 true)).reached 2).sysStops) (s.flushLedger slot good)

/-- NEAP: the burst table is written for up to eight satellites with ephemeris above ELEV_MASK (R159), dirty map tiles are written back, the map window is powered down. -/
def Dev.toNeap (d : Dev) : Dev :=
  let until_ := d.tm.tbm + d.rdN Reg.BURST_TBL_VALID_MAX * 1000000000
  let t := d.tm.tbm
  let sats := (d.gps.dirs.map (fun p => p.1)).filter (fun prn => !d.lowSat prn)
  let table := (sats.take 8).map (fun prn => (prn, Config.burstPrediction prn t))
  let d := { d with gps := { d.gps with tblUntil := some until_, table := table } }
  let d := d.writeAll
  ({ d with map := { d.map with win := [], asks := [] } }.mapShow).reached 3

/-- Records that wait are taken and, while the store works, drained. -/
def State.drainAll (s : State) : State :=
  let s := s.intakeAll
  if s.dev.stat pREC 16 then s else { s with rcd := s.rcd.drain s.dev.epoch }

/-- COVE: the ledger goes to the older slot marked PF, the recorder is drained, DRAM is powered down; TB-G and TB-N are lost, the TCXO stops. -/
def State.toCove (s : State) : State :=
  let good := !s.dev.stat pREC 16
  let slot := s.ldg.slot s.ldg.book true
  let s := s.flushLedger slot good
  (onDev (fun d =>
    let d := { d with
      gps := { d.gps with tblUntil := none, table := [], gated := none }
      map := { d.map with dir := [], win := [], rxNext := [], asks := [] } }
    let d := (d.mapShow.setTbg tbgNone).withWall (·.setStat pTIME1 17 false)
    let d := { d with tm := { d.tm with tbgP := 0, parkG := 0, tbgErrP := 0, burstStep := 0, stepTo := none } }
    d.withSmp (·.reached 4)) s).drainAll

/-- STRAND: the record store is closed. What the die loses is gone at the exit (R455). -/
def State.toStrand (s : State) : State :=
  let s := (onDev (·.reached 5) s).drainAll
  onDev (fun d => { d with rcf := { d.rcf with closed := true } }) s

/-- POWER_ENTRY_SEQUENCE (R451): one state further down. A wake stops the entry after its current step (R456). -/
def execPowerEntrySequence (s : State) : Host.Outcome State Fault Refusal :=
  .next (match s.dev.pow.goal with
    | none => s
    | some goal =>
      if s.dev.pow.wake ≠ 0 then onDev (fun d => { d with pow := { d.pow with goal := none } }) s
      else
        let st := s.dev.powerState
        let t := match st with
          | 0 => onDev Dev.toSlack s
          | 1 => s.toEbb (goal = 2)
          | 2 => onDev Dev.toNeap s
          | 3 => s.toCove
          | _ => s.toStrand
        onDev (fun d => { d with pow := { d.pow with
          goal := if goal ≤ st + 1 then none else some goal
          wake := d.pow.wake ||| d.activeWakes d.powerState } }) t)

/-! Waking (R452 to R456) -/

/-- The clock moves to the instant at which the RTC reaches WAKE_AT (R452); both words 0 name none. -/
def Dev.toWakeAt (d : Dev) : Dev :=
  let t := d.rdN Reg.PWR_WAKE_AT_HI * 2 ^ 32 + d.rdN Reg.PWR_WAKE_AT_LO
  if t = 0 then d else d.toTbm (d.tm.tbm + (t * 1000000000 - d.rtc))

/-- WAKE_EVENT: a source becomes active, or ends; it wakes a parked module that has it enabled and accepts it. -/
def execWakeEvent (src : WakeSource) (s : State) : Host.Outcome State Fault Refusal :=
  .next (onDev (fun d =>
    let b := src.bit.val
    let d := if b = 6 ∧ src.active = true then d.toWakeAt else d
    let lines := if src.active then d.pow.lines ||| 2 ^ b else (if d.pow.lines.testBit b then d.pow.lines - 2 ^ b else d.pow.lines)
    let d := { d with pow := { d.pow with lines := lines, supplyBad := !src.vlogicOk } }
    if src.active then d.wakeBy b else d) s)

/-- What every exit writes (R453): the sources, the counts, the interrupt, the record, which of an
entry that was interrupted names the state reached and the state asked for; the output path is disarmed. -/
def Dev.woken (d : Dev) (from_ : Nat) : Dev :=
  let src := d.pow.wake % 256
  let deepest := d.fld Reg.PWR_PWR_STATE 6 4
  let parked := (d.tm.tbm - d.rd64 Reg.PWR_PARK_TBM) / 1000000000
  let d := ((d.wrN Reg.PWR_PWR_STATE (deepest * 16)).wrN Reg.PWR_WAKE_SRC src).inc Reg.PWR_WAKE_CNT
  let d := ((d.wr Reg.PWR_PARK_TIME (sat32 parked)).setStat pPWR 16 false).irq pPWR 16
  let d := match d.pow.goal with
    | some g => d.recIrq pPWR 16 [w32 from_, w32 g]
    | none => d.recIrq pPWR 16
  let d := if d.armed then (d.safeState.openSwitches).disarm 1 else d
  { d with pow := { d.pow with wake := 0, goal := none, target := none } }

/-- The exit from SLACK, EBB, NEAP or COVE, without a controller reset (R454). At the basic level tracking restarts with a search (R160). -/
def State.exitPark (s : State) : State :=
  let st := s.dev.powerState
  let s := if st = 4 then s.resumeSession else s
  onDev (fun d =>
    let d := d.withSmp (·.woken st)
    let d := { d with gps := { d.gps with tblUntil := none, table := [], sweep := if st ≥ 2 then some 1 else d.gps.sweep } }
    (if st ≥ 2 then d.mpUp else d).acqNext.fwSearch) s

/-- WAKE_EXIT (R453 to R455): a wake leads to RUN, from NEAP and below once VLOGIC is in its range. -/
def execWakeExit (s : State) : Host.Outcome State Fault Refusal :=
  .next (let st := s.dev.powerState
    if st = 0 ∨ s.dev.pow.wake = 0 then s
    else if st ≥ 3 ∧ s.dev.pow.supplyBad = true then onDev (·.setStat pPWR 16 true) s
    else if st = 5 then
      let p := s.dev.pow
      onDev (fun d => { d with pow := { wake := p.wake, lines := p.lines } }.woken 5) s.wakeReset
    else s.exitPark)

end Sys2Proof.Machine
end

