-- ==== Sys2Proof/Machine/Network.lean ====
section
/-! DEFINITION. The commands of the networks and sensor inputs (chapter 20), of the battery supply and of the supply outputs
(R523, R528). -/

namespace Sys2Proof.Machine

/-! CAN -/

/-- CAN_FRAME_RECEIVE (R473, R474): stamped with TB-S now. -/
def execCanFrameReceive (port : Fin 2) (frame : CanFrame) (s : State) : Host.Outcome State Fault Refusal :=
  .next (onDev (fun d => if d.canOn port && !(d.can port).busOff then d.canReceive port frame else d) s)

/-- CAN_BUS_OFF (R472). -/
def execCanBusOff (port : Fin 2) (s : State) : Host.Outcome State Fault Refusal :=
  .next (onDev (fun d =>
    let p := port.val
    if d.canOn p && !(d.can p).busOff then
      let d := (d.modCan p (fun c => { c with busOff := true })).setFld (Reg.STATUS (pCAN p)) 17 16 2
      let d := (d.inc (Reg.CAN_BUSOFF_CNT p)).setFld (Reg.CAN_ERR_CNT p) 7 0 255
      (d.irq (pCAN p) 17).faultRec (pCAN p) 16
    else d) s)

/-- CAN_BUS_RECOVERY (R472): error active again; the slots send their latest values (R476). -/
def execCanBusRecovery (port : Fin 2) (s : State) : Host.Outcome State Fault Refusal :=
  .next (onDev (fun d =>
    let p := port.val
    if (d.can p).busOff then
      let now := d.tm.tbm
      let d := d.modCan p (fun c => { c with
        busOff := false
        slots := c.slots.map (fun e => (e.1, if e.2.ready.isSome then { e.2 with sentAt := some now } else e.2)) })
      let d := (d.setFld (Reg.STATUS (pCAN p)) 17 16 0).wr (Reg.CAN_ERR_CNT p) 0
      d.irq (pCAN p) 17
    else d) s)

/-- CAN_TX_PUSH (R475). -/
def execCanTxPush (req : Requester) (port : Fin 2) (s : State) : Host.Outcome State Fault Refusal :=
  .next (farCmd req (Reg.CAN_TX_PUSH port) 0 (actCanPush port) s)

/-- CAN_FRAME_SENT (R475, R476): the frame next in line leaves. -/
def execCanFrameSent (port : Fin 2) (s : State) : Host.Outcome State Fault Refusal :=
  .next (onDev (fun d =>
    let p := port.val
    if d.canOn p && !(d.can p).busOff && !d.bit (Reg.CAN_CAN_CFG p) 3 then
      match (d.can p).nextOut with
      | none => d
      | some f =>
        let d := match f.slot with
          | some j => d.modCan p (fun c => (c.modSlot j (fun x => { x with ready := none })))
          | none => d.modCan p (fun c => { c with queue := c.queue.drop 1 })
        let d := d.modCan p (fun c => { c with sent := some f })
        d.wrN (Reg.CAN_TX_LEVEL p) (d.can p).queue.length
    else d) s)

/-- CAN_RX_READ (R474). -/
def execCanRxRead (req : Requester) (port : Fin 2) (words : Nat) (s : State) : Host.Outcome State Fault Refusal :=
  .next (farPort req (Reg.CAN_RX_PORT port) words (portCanRx port) s)

/-- CANTX_PERIOD_END (R476). -/
def execCantxPeriodEnd (port : Fin 2) (slot : Fin 8) (s : State) : Host.Outcome State Fault Refusal :=
  .next (onDev (fun d =>
    let x := (d.can port).slot slot
    match x.held, x.sentAt with
    | some f, some t =>
      let d := d.toTbm (t + d.ctxPeriod port slot)
      let now := d.tm.tbm
      d.modCan port (·.modSlot slot (fun _ => { sentAt := some now, ready := some f, held := none }))
    | _, _ => d) s)

/-! Ethernet -/

/-- ETH_FRAME_RECEIVE (R478): ARP and echo are answered, an Ivyth datagram is the IVY rows', any other frame enters the host
queue while HOST_RX is 1, whatever its length. The MP serves only while its firmware runs (R409). -/
def execEthFrameReceive (frame : List Byte) (fcsOk : Bool) (s : State) : Host.Outcome State Fault Refusal :=
  .next (onDev (fun d =>
    let mp := d.rdN Reg.WDG_MP_STATE = 0
    if !d.ethOn || !fcsOk then d
    else if d.isArp frame then (if mp then d.ethSend (d.arpReply frame) else d)
    else if d.isEcho frame then (if mp then d.ethSend (d.echoReply frame) else d)
    else if d.isIvyth frame then d
    else if d.bit Reg.NET_NET_CFG 2 then d.ethToHost frame else d) s)

/-- ETH_TX_PUSH (R479). -/
def execEthTxPush (req : Requester) (v : W32) (s : State) : Host.Outcome State Fault Refusal :=
  .next (farCmd req Reg.NET_TX_PUSH v actEthPush s)

/-- ETH_RX_READ (R478). -/
def execEthRxRead (req : Requester) (words : Nat) (s : State) : Host.Outcome State Fault Refusal :=
  .next (farPort req Reg.NET_RX_PORT words portEthRx s)

/-- LINK_CHANGE (R494, R496). The signal quality of a new link is measured by the PHY: a free value. -/
def execLinkChange (up : Bool) (s : State) : Host.Outcome State Fault Refusal :=
  .next (onDev (fun d =>
    if d.bit Reg.NET_LINK 0 = up then d
    else
      let n := d.net.links
      let d := { d with net := { d.net with links := n + 1 } }
      let role := if d.bit Reg.NET_NET_CFG 1 then 2 else 0
      let d := d.wrN Reg.NET_LINK (if up then 1 + role + (Config.linkQuality n).toNat * 2 ^ 8 else 0)
      (d.setStat pNET 16 up).irq pNET 17) s)

/-! Analog inputs -/

/-- AIN_SCAN (R481): the scan in progress publishes 50 µs after it began, and the next one begins. A sample the operand does not
give is a free value. -/
def execAinScan (samples : List Nat) (s : State) : Host.Outcome State Fault Refusal :=
  .next (onDev (fun d =>
    if d.powerState > 1 then d else
    let d := match d.net.ainDue with | some t => d.toTbm t | none => d
    let due := d.tm.tbm + 50000
    let d := (List.range 48).foldl (fun d i => d.ainSample i (d.sampleOf samples i)) d
    { d with net := { d.net with ainDue := some due, ainOld := [] } }) s)

/-- AIN_SHUNT_RECONNECT (R480). -/
def execAinShuntReconnect (input : Fin 48) (s : State) : Host.Outcome State Fault Refusal :=
  .next (onDev (fun d =>
    match (d.ain input).offAt with
    | none => d
    | some t =>
      let d := (d.toTbm (t + 100000000)).modAin input (fun x => { x with offAt := none, cause := 0, outRun := 0, inRun := 0 })
      let d := d.setMapBit (Reg.AIN_AIN_FLT 0) input false
      d.wr (Reg.AIN_AIN_VAL input) (ainWord (d.fld (Reg.AIN_AIN_VAL input) 11 0) (d.ain input))) s)

/-! Frequency inputs -/

/-- FIN_EDGE (R484): an edge that has survived GLITCH. In SLACK, EBB and NEAP only the wake count takes it (R452). -/
def execFinEdge (input : Fin 96) (quadHigh : Bool) (s : State) : Host.Outcome State Fault Refusal :=
  .next (onDev (fun d =>
    let d := if d.powerState ≤ 1 then d.finEdgeAt input quadHigh else d
    if d.powerState = 0 ∨ d.fld Reg.PWR_WAKE_FIN 6 0 ≠ input.val then d
    else
      let t := d.tm.tbm
      let pulses := (input.val, t) :: d.net.wakePulses.filter (fun (p : Nat × Nat) => p.1 = input.val ∧ t - p.2 ≤ 1000000000)
      let d := { d with net := { d.net with wakePulses := pulses } }
      if pulses.length ≥ d.fld Reg.PWR_WAKE_FIN 15 8 then d.wakeBy 7 else d) s)

/-! IMU ports -/

/-- The 16-bit word of a sample at a position, signed (R488). -/
def imuWord (rx : List Byte) (ofs : Nat) (be : Bool) : Int :=
  let a := (rx.getD ofs 0).toNat
  let b := (rx.getD (ofs + 1) 0).toNat
  let v := if be then a * 256 + b else b * 256 + a
  if v < 32768 then (v : Int) else (v : Int) - 65536

/-- A word times its binary32 scale, in units of `den / num` of the scale's unit. -/
def imuScaled (v : Int) (neg : Bool) (scale : W32) (num den : Nat) : Int :=
  let x := fMul (fOfInt v) scale
  if !fFinite x then 0
  else
    let y := fToFixed (if neg then fNeg x else x) num den
    clampI (-(2 ^ 31)) (2 ^ 31 - 1) y

/-- The period of a port, ns. -/
def Dev.imuPeriod (d : Dev) (p : Nat) : Nat := 1000000000 / max 1 (d.fld (Reg.IMU_IMU_CFG p) 17 8)

/-- IMU_TRANSACTION (R488): at the data-ready edge, or on the rate timer. -/
def execImuTransaction (port : Fin 2) (rx : List Byte) (s : State) : Host.Outcome State Fault Refusal :=
  .next (onDev (fun d =>
    let p := port.val
    let cfg := d.rd (Reg.IMU_IMU_CFG p)
    if !bitOf cfg 0 ∨ d.powerState > 1 then d
    else
      let d := match bitOf cfg 1, (d.imu p).samples with
        | false, (t, _, _) :: _ => d.toTbs (t + d.imuPeriod p)
        | _, _ => d
      let m := d.rd (Reg.IMU_IMU_MAP p)
      let rx := rx.take (field cfg 28 24)
      let yaw := imuScaled (imuWord rx (field m 3 0) (bitOf m 5)) (bitOf m 6) (d.rd (Reg.IMU_GYRO_SCALE p)) 10430378350470453 1000000000000
      let acc := imuScaled (imuWord rx (field m 11 8) (bitOf m 13)) (bitOf m 14) (d.rd (Reg.IMU_ACC_SCALE p)) 1 1
      let t := d.tbs
      let d := d.modImu p (fun x => { samples := (t, yaw, acc) :: x.samples.filter (fun y => t - y.1 ≤ 1000000000), stale := false })
      ((d.inc (Reg.IMU_IMU_CNT p)).wrI (Reg.IMU_IMU_YAW p) yaw).wrI (Reg.IMU_IMU_ACC p) acc) s)

/-- IMU_STALE (R489): no sample for three periods. -/
def execImuStale (port : Fin 2) (s : State) : Host.Outcome State Fault Refusal :=
  .next (onDev (fun d =>
    let p := port.val
    if !d.bit (Reg.IMU_IMU_CFG p) 0 || (d.imu p).stale then d
    else
      let d := match (d.imu p).samples with
        | (t, _, _) :: _ => d.toTbs (t + 3 * d.imuPeriod p + 1)
        | [] => d
      ((d.modImu p (fun x => { x with stale := true })).irq pIMU (16 + p)).faultRec pIMU (16 + p)) s)

/-! Time marks -/

/-- TIME_MARK (R490): 64 entries of six words. -/
def execTimeMark (pin : Fin 4) (rising : Bool) (s : State) : Host.Outcome State Fault Refusal :=
  .next (onDev (fun d =>
    let cfg := d.rd Reg.GPIO_TM_CFG
    let sel := field cfg (4 * pin.val + 2) (4 * pin.val + 1)
    if !bitOf cfg (4 * pin.val) ∨ d.powerState > 1 ∨ !sel.testBit (if rising then 0 else 1) then d
    else if entriesIn 6 d.net.marks ≥ 64 then (d.incSat Reg.GPIO_TM_DROP).fault pGPIO 16
    else
      let w0 := w32 (pin.val * 2 ^ 16 + (if rising then 2 ^ 8 else 0) + d.net.markSeq % 2 ^ 14 * 2 ^ 18)
      let g := if d.tbgState = tbgNone then [0, 0, 0] else ts80Words d.tbgCaptured
      let d := { d with net := { d.net with marks := d.net.marks ++ [w0, lo32 d.tbs, hi32 d.tbs] ++ g, markSeq := d.net.markSeq + 1 } }
      (d.wrN Reg.GPIO_TM_LEVEL (entriesIn 6 d.net.marks)).irq pGPIO 16) s)

/-- Words of the time-mark queue. -/
def portMarks : PortAct := portDev (fun n d =>
  let ws := d.net.marks
  let d := { d with net := { d.net with marks := ws.drop n } }
  (ws.take n, d.wrN Reg.GPIO_TM_LEVEL (entriesIn 6 d.net.marks)))

/-- TIME_MARK_READ (R490). -/
def execTimeMarkRead (req : Requester) (words : Nat) (s : State) : Host.Outcome State Fault Refusal :=
  .next (farPort req Reg.GPIO_TM_PORT words portMarks s)

/-! Supplies -/

/-- VBAT_LOW (R523): below 12.0 V the rail converters stop and the rails leave READY; the record is of page VB. -/
def execVbatLow (milliV : Nat) (s : State) : Host.Outcome State Fault Refusal :=
  .next (onDev (fun d =>
    if milliV < 12000 ∧ d.drv.vbatLow = false then
      (({ d with drv := { d.drv with vbatLow := true } }).railUpdate).recOther pVB
    else d) s)

/-- VBAT_RECOVERY (R523). -/
def execVbatRecovery (milliV : Nat) (s : State) : Host.Outcome State Fault Refusal :=
  .next (onDev (fun d =>
    if milliV ≥ 12000 ∧ d.drv.vbatLow = true then
      (({ d with drv := { d.drv with vbatLow := false } }).railUpdate).recOther pVB
    else d) s)

/-- The number of a supply output, and the deepest state in which it is on (R528). -/
def supplyNumber : SupplyOutput → Nat
  | .host5v => 0 | .vio3v3 => 1 | .vsns5 => 2 | .vsns12 => 3 | .imu5v p => 4 + p.val | .antenna p => 8 + p.val
def supplyOnIn (st : Nat) : SupplyOutput → Bool
  | .host5v | .vio3v3 => st ≤ 2
  | .antenna p => st ≤ 1 || (st = 3 && p.val = 0)
  | _ => st ≤ 1

/-- SUPPLY_OUTPUT_LIMIT (R528): the output is limited and a record of page SYS names it; what its inputs then read comes as
their own events. -/
def execSupplyOutputLimit (output : SupplyOutput) (s : State) : Host.Outcome State Fault Refusal :=
  .next (onDev (fun d => if supplyOnIn d.powerState output then d.recOther 0x000 [w32 (supplyNumber output)] else d) s)

end Sys2Proof.Machine
end

