-- ==== Sys2Proof/Machine/Frame.lean ====
section
/-! DEFINITION. Frames and clocks (chapters 01 and 03): the turn with everything that happens at it, the local turns, the gathering of a
group, frame overrun with its held interval and safe close, and clock loss. -/

namespace Sys2Proof.Machine

def pCLK : Nat := 0x001

/-! Overrun (R76 to R78) -/

/-- A safe close is in force. -/
def Dev.safeClosed (d : Dev) : Bool := d.stat pFRM 17

/-- As many missed commits in a row as lead to a safe close. -/
def Dev.closeReached (d : Dev) : Bool := decide (d.rdN Reg.FRM_OVR_RUN ≥ d.rdN Reg.FRM_OVR_HOLD + 1)

/-- The pulses of a train in the held interval: `t` the start before them (R77). -/
def heldPulses (p w0 w1 : Nat) (stop : Option Nat) : Nat → Nat → List Nat
  | 0, _ => []
  | n + 1, t =>
    let u := t + p
    if u ≥ w1 ∨ stop.any (fun s => s ≤ u) = true then []
    else if u < w0 then heldPulses p w0 w1 stop n u
    else u :: heldPulses p w0 w1 stop n u

/-- A channel keeps pulsing at its last committed period and duty through a held interval. -/
def Dev.holdChannel (d : Dev) (c : Nat) : Dev :=
  let e := d.edsChan c
  let p := d.pulseTicks c
  match decide (d.mode c = mPWMNOZ) && e.train && decide (p ≠ 0), d.pulseLength c e.rho with
  | true, some (len, _) =>
    let w0 := d.eds.winFrom
    let first := skipTo p w0 e.pulse
    let ts := heldPulses p w0 d.eds.winTo e.stop ((d.eds.winTo - w0) / p + 2) first
    ts.foldl (fun d t =>
      let off := t + len * tUs
      let d := d.modChan c (fun x => { x with
        next := insertEdge x.next { t := t, on := true, kind := .pulse, ideal := t, slack := p / 10 / tUs, rho := e.rho, dur := some (len * tUs) }
        book := ((x.book.request t).release off).mark t none })
      d.modEdsChan c (fun e => { e with pulse := t })) d
  | _, _ => d

/-- METER channels keep their duty through the interval; what waited for the end of an earlier one that has passed is in force (R77). -/
def Dev.holdDuties (d : Dev) : Dev :=
  let goesOn := decide (d.frm.heldTo = d.eds.winFrom)
  let d := if goesOn then d else d.busyChans.foldl (fun d c => d.modChan c (fun x => { x with duty := x.dutyNext.getD x.duty, dutyNext := none })) d
  { d with frm := { d.frm with heldFrom := (if goesOn then d.frm.heldFrom else d.eds.winFrom), heldTo := d.eds.winTo } }

/-- The held interval of a frame whose commit is missing: trains go on; what was admitted for it is not. -/
def Dev.holdInterval (d : Dev) : Dev :=
  let d := (d.eds.ch.map (·.1)).foldl (fun d c =>
    d.modEdsChan c (fun e => { e with plan := e.plan.map (fun p => { p with out := none }) })) d
  let d := d.holdDuties
  if d.safeClosed || d.closeReached then d else (d.eds.ch.map (·.1)).foldl (fun d c => d.holdChannel c) d

/-- The commit of the frame is missing at its bound (R76). -/
def Dev.overrun (d : Dev) : Dev :=
  if d.frm.turned && !d.frm.committed && d.frm.stage ≠ 5 then
    let d := d.toTbm (d.frm.turnTbm + 10 * stageBound d.tf 4)
    let d := (d.incSat Reg.FRM_OVR_COUNT).wrN Reg.FRM_OVR_RUN (min 3 (d.rdN Reg.FRM_OVR_RUN + 1))
    let d := d.faultRec pFRM 16
    let d := d.holdInterval
    { d with frm := { d.frm with stage := 5, lateStages := [] } }
  else d

/-- FRAME_OVERRUN. -/
def execFrameOverrun (s : State) : Host.Outcome State Fault Refusal := .next (onDev Dev.overrun s)

/-- The safe close at the start of a window without a commit (R78). -/
def Dev.safeClose (d : Dev) : Dev :=
  if d.frm.closeDue && !d.safeClosed then
    let d := (d.toTbm (d.frm.turnTbm + 100000)).closeAll .fault
    let d := (d.setStat pFRM 17 true).faultRec pFRM 17
    { d with frm := { d.frm with closeDue := false, wasClosed := true } }
  else d

/-- SAFE_CLOSE. -/
def execSafeClose (s : State) : Host.Outcome State Fault Refusal := .next (onDev Dev.safeClose s)

/-! Local turns and groups (R67, R70, R72) -/

/-- Committed edges of a channel pass into the tile's queue (R5); with CK_EDGE lost they are discarded. -/
def Dev.swapChannel (d : Dev) (c : Nat) (due : Edge → Bool) : Dev :=
  let es := (d.chan c).next.filter due
  if es.isEmpty then d
  else
    let d := d.modChan c (fun x => { x with next := x.next.filter (fun e => !due e) })
    if d.clockLost 4 then d else es.foldl (fun d e => d.queueEdge c e) d

/-- The tiles swap committed edges to active. -/
def Dev.swapEdges (d : Dev) (due : Edge → Bool) : Dev := d.busyChans.foldl (fun d c => d.swapChannel c due) d

/-- The tiles' swap of a local turn takes what earlier frames committed; the edges of the running frame's own commit, which lie in its
window, become active at the next turn (R5, R8). -/
def Dev.tileTurn (d : Dev) : Dev :=
  let w := d.eds.winFrom
  d.swapEdges (fun e => decide (e.t < w))

/-- LOCAL_TURN. -/
def execLocalTurn (dom : Domain) (s : State) : Host.Outcome State Fault Refusal :=
  .next (onDev (fun d =>
    let d := d.crossDomain dom
    if dom = .ckEdge then d.tileTurn else d) s)

/-- GATHER_TIMEOUT (R72). -/
def execGatherTimeout (s : State) : Host.Outcome State Fault Refusal :=
  .next (onDev (fun d => if d.gatherExpired then d.gatherEnds else d) s)

/-- GLOBAL_GO: 1 releases the held arms at the next turn; 0, which it does not define, is refused before (R36). -/
def actGlobalGo (v : W32) : Act := actDev (fun d =>
  if bitOf v 0 then { d with frm := { d.frm with goPending := true } } else d)

/-- GLOBAL_HOLD: the count of held turns starts with it. -/
def actGlobalHold (v : W32) : Act := actDev (fun d =>
  let d := d.store Reg.FRM_GLOBAL_HOLD v
  if bitOf v 0 then d else { d with frm := { d.frm with holdTurns := 0 } })

/-- GLOBAL_GO (R70). -/
def execGlobalGo (req : Requester) (s : State) : Host.Outcome State Fault Refusal :=
  .next (hostCmd req Reg.FRM_GLOBAL_GO 1#32 (actGlobalGo 1#32) s)

/-! The turn -/

/-- What is left of the frame before: its local turns with the edges that earlier frames committed, its safe close, its missing commit. -/
def Dev.finishFrame (d : Dev) : Dev :=
  (d.crossAll.tileTurn.safeClose).overrun

/-- The number of the next turn: the next index of the grid that has not passed (R65, R66). -/
def Dev.nextTurnNo (d : Dev) : Nat :=
  max (d.rd64 Reg.FRM_FRAME_SEQX + 1)
    (d.rd64 Reg.FRM_ORIGIN_SEQ + ceilDiv (d.tm.tbsP - d.rd64 Reg.FRM_TF_ORIGIN * pU) (d.tf * pU))

/-- The TB-S value of the grid at turn `k`, ns. -/
def Dev.gridTbs (d : Dev) (k : Nat) : Nat := d.rd64 Reg.FRM_TF_ORIGIN + (k - d.rd64 Reg.FRM_ORIGIN_SEQ) * d.tf

/-- The instant of a turn and its counters: the first one after power-on sets the grid (R65, R66). -/
def Dev.toTurn (d : Dev) : Dev :=
  let k := if d.frm.turned then d.nextTurnNo else 0
  let d := if d.frm.turned then d.toTbs (d.gridTbs k) else d
  let d := if d.frm.turned then d else (d.wr64 Reg.FRM_TF_ORIGIN d.tbs).wr64 Reg.FRM_ORIGIN_SEQ 0
  let d := ((d.wr64 Reg.FRM_FRAME_SEQX k).wr Reg.FRM_FRAME_SEQ (lo32 k)).wr64 Reg.FRM_TURN_TBS d.tbs
  { d with frm := { d.frm with turned := true, turnTbm := d.tm.tbm } }

/-- Turns resume after a controller reset (R355, R414): the tiles have lost the strobe; RESET_GAP, and the RESET record. `was` is the
TB-M of the turn before. -/
def Dev.resumed (d : Dev) (was : Nat) : Dev :=
  let d := match d.sup.resumeAt with
    | none => d
    | some _ =>
      let stop := d.drv.strobeStop.getD d.tm.tbm
      let d := d.wrN Reg.LDG_RESET_GAP ((stop + 50000 - was) / 1000)
      { d with drv := { d.drv with strobeStop := none, strobeLost := false, holdsEnd := d.drv.holdsEnd || d.drv.strobeLost }, sup := { d.sup with resumeAt := none } }
  if d.rcf.hold.isSome then d.resetRecord else d

/-- The frame's stages begin anew; a safe close falls where the commit before is missing and the run is long enough (R78). -/
def Dev.beginFrame (d : Dev) : Dev :=
  let due := !d.frm.committed && d.closeReached && !d.safeClosed
  { d with frm := { d.frm with closeDue := due, committed := false, stage := 0, lateStages := [] } }

/-- Breakwater learns from the actuations that the frame brought (R330). -/
def Dev.learnThermal (d : Dev) : Dev :=
  d.drv.ch.foldl (fun d (p : Nat × Chan) =>
    if p.2.fr.ttp ≠ 0 ∧ p.2.degraded = false then d.modTherm p.1 (·.learn p.2.fr.energy p.2.fr.ttp) else d) d

/-- What the frame's summaries held is gone with them. -/
def Dev.clearFrame (d : Dev) : Dev :=
  let d := { d with frm := { d.frm with wasClosed := d.safeClosed } }
  let d := d.busyChans.foldl (fun d c => d.modChan c (fun x => { x with fr := {} })) d
  (d.drv.bank.map (·.1)).foldl (fun d b => d.modBank b (fun x =>
    { x with boosts := 0, energy := 0, drops := 0, degs := 0, waits := 0, waitMax := 0, peakMA := 0, boostUs := 0, notReady := false, sorted := false })) d

/-- The fault clears that wait for the turn (R302). -/
def Dev.applyClears (d : Dev) : Dev :=
  let d := (d.drv.tile.map (·.1)).foldl (fun d t => d.applyTileClear t) d
  (d.drv.bank.map (·.1)).foldl (fun d b => d.applyBankClear b) d

/-- The sense registers (R298, R305, R306). -/
def Dev.senseTurn (d : Dev) (env : TurnEnv) : Dev :=
  let d := if d.clockLost 5 then d
    else env.chans.foldl (fun d (x : Fin 512 × ChanSense) =>
      let d := d.wrN (Reg.CH_SENSE x.1) (x.2.vDrain.val * 2 ^ 16 + x.2.iMeas.val)
      match x.2.rMeas with
      | some r => d.wrN (Reg.CH_RMEAS x.1) (2 ^ 31 + r.val)
      | none => d) d
  env.banks.foldl (fun d (x : Fin 64 × BankSense) => d.wrN (Reg.BK_BK_I x.1) (min 65535 x.2.sumMA * 2 ^ 16 + min 65535 x.2.meanMA)) d

/-- The thermal models of the configured channels and of those that were measured (R334 to R338). -/
def Dev.thermTurn (d : Dev) (env : TurnEnv) : Dev :=
  let cs := ((d.conf.filter (· < 512)) ++ env.chans.map (fun x => x.1.val) ++ d.bwk.ch.map (·.1)).foldl setInsert []
  cs.foldl (fun d c =>
    match env.chans.find? (fun (x : Fin 512 × ChanSense) => x.1.val = c) with
    | some x => d.thermChan c x.2.i2 (x.2.rMeas.map (·.val))
    | none => d.thermChan c 0 none) d

/-- The die stages that reach other blocks (R340). -/
def Dev.throttle (d : Dev) : Dev :=
  let hot := decide (d.bwk.stage ≥ 2)
  let d := if hot && !d.stat pLPE 16 then d.acqFlush else d
  d.setStat pLPE 16 hot

/-- Breakwater at the turn (R15, R330 to R340). -/
def Dev.bwkTurn (d : Dev) (env : TurnEnv) : Dev :=
  let d := (d.sampleEnv env).thermTurn env
  let d := d.modulePMean env
  (d.dieTurn env.dieT).bwkShow.throttle

/-- The fall back to the nominal geometry (R177, R179): the active set, and what the host holds pending stays. -/
def Dev.geoFallBack (d : Dev) : Dev :=
  let d := ([1, 2, 3] : List Nat).foldl (fun d b =>
    (List.range 6).foldl (fun d j => d.wr (termAddr b j) (termWord j (termOf (d.nominalTerms b) j))) d) d
  let d := ((d.wrN Reg.BSS_GEO_SRC 0).setStat pBSS 16 true).inc Reg.BSS_FB_CNT
  let d := (d.faultRec pBSS 16).irq pBSS 16
  if d.bit Reg.BSS_GEO_FB_POLICY 0 then
    d.busyChans.foldl (fun d c => let b := (d.foot c).body; if 1 ≤ b ∧ b ≤ 3 then d.safeChan c else d) d
  else d

/-- The age of the active set at the turn (R179). -/
def Dev.geoTurn (d : Dev) : Dev :=
  let age := d.rd64 Reg.FRM_TURN_TBS - d.rd64 Reg.BSS_GEO_EPOCH
  let d := d.wr Reg.BSS_GEO_AGE (sat32 (age / 1000))
  if d.rdN Reg.BSS_GEO_SRC ≠ 0 ∧ age > d.rdN Reg.BSS_GEO_HOLD_MAX * 1000000 then d.geoFallBack else d

/-- At the first latch after SPOOF_DIR is set, SPOOF_CLOSE closes (R186). -/
def Dev.spoofTurn (d : Dev) : Dev :=
  if d.gps.spoofClose then
    let d := { d with gps := { d.gps with spoofClose := false } }
    if d.bit Reg.INTEG_INTEG_POLICY 0 then d.safeState else d
  else d

/-- The TB-S of turn `k`, in units of 10^-9 ns, as the rate of this cycle brings it (R65). -/
def Dev.turnTbsP (d : Dev) (k : Nat) : Nat := d.tm.tbsP + d.cyclesTbs (d.gridTbs k) * d.tbsStep

/-- The first tick that lies 100 µs or more after turn `k`. -/
def Dev.windowTick (d : Dev) (k : Nat) : Nat := ceilDiv (d.turnTbsP k + 100000 * pU) (4 * pU)

/-- The commit window of the frame in ticks (R7, R8): from 100 µs after the next turn to 100 µs after the one that follows it. A frame
takes on where the window of the frame before ended, so that each edge falls into one window. -/
def Dev.setWindow (d : Dev) : Dev :=
  let k := d.rd64 Reg.FRM_FRAME_SEQX
  let follows := decide (d.eds.winFor + 1 = k) && decide (d.rd64 Reg.FRM_ORIGIN_SEQ ≠ k)
  { d with eds := { d.eds with
    winFrom := (if follows then d.eds.winTo else d.windowTick (k + 1)), winTo := d.windowTick (k + 2), winFor := k } }

/-- The pose stage of the frame (R5): its completion in cycles from the turn. -/
def Dev.poseStage (d : Dev) (cycles : Nat) : Dev :=
  let d := d.peak (Reg.FRM_STAGE_PEAK 0) cycles
  if cycles > stageBound d.tf 0 then { d with frm := { d.frm with lateStages := d.frm.lateStages ++ [0] } } else d

/-- The part after the commits of a turn: what blocks publish, latch and sample; `words` are the latency words that became active. -/
def Dev.afterCommits (d : Dev) (env : TurnEnv) (words : List Nat) : Dev :=
  let d := d.sdePublish.sdeSample.meterReopen.latchPose (d.rd64 Reg.FRM_TURN_TBS)
  let d := (d.senseTurn env).bwkTurn env
  let d := d.latTurn words
  let d := d.mapTurn.mapPrefetch
  let d := d.setWindow.antRefresh.soundTurn.geoTurn.spoofTurn.fwSearch
  let d := d.poseStage env.poseCycles
  { d with net := { d.net with ainDue := some (d.frm.turnTbm + 50000) }, pow := { d.pow with supplyBad := !env.vlogicOk } }

/-- The latency words that the armed commits would make active; those that a commit did make active equal them afterwards. -/
def latencyWords (old new : Dev) : List Nat :=
  (old.pend.filter (fun (p : Nat × W32) =>
    0x01010000 ≤ p.1 && p.1 < 0x01014000 && (sfind new.pend p.1).isNone)).map (fun (p : Nat × W32) => p.1)

/-- FRAME_TURN (R65): the part before the ledger's books, up to the instant of the turn. -/
def Dev.turnStart (d : Dev) : Dev :=
  let d := d.finishFrame
  let d := match d.sup.resumeAt with
    | some t => d.loseStrobe.toTbm t
    | none => d
  let was := d.frm.turnTbm
  ((d.toTurn.resumed was).beginFrame).finTurn

/-- The turn of every block: the frame that has ended is reported and booked, then the commits act, then the new frame begins. -/
def State.turn (s : State) (env : TurnEnv) : State :=
  let t0 := s.dev.rd64 Reg.FRM_TURN_TBS / 4
  let was := s.dev.frm.turnTbm
  let first := !s.dev.frm.turned
  let d := s.dev.turnStart
  let t1 := d.rd64 Reg.FRM_TURN_TBS / 4
  let t0 := if first then t1 else t0
  let d := if d.sup.rebook then d else d.mapReport t0 t1 d.frameUnits
  let d := (d.diagTurn t0 t1 env.banks).learnThermal
  let sec := decide (was / 1000000000 ≠ d.tm.tbm / 1000000000)
  let r := ledgerTurn t0 t1 sec env.supplyOk env.tempOk d s.ldg
  let d := r.1.clearFrame.hostTurn.entryBegins.applyClears
  let k := d.rd64 Reg.FRM_FRAME_SEQX
  let e := d.commits k
  { s with dev := e.afterCommits env (latencyWords d e), ldg := r.2 }

/-- FRAME_TURN: turns fall in RUN and SLACK. -/
def execFrameTurn (env : TurnEnv) (s : State) : Host.Outcome State Fault Refusal :=
  .next (if s.dev.powerState ≤ 1 && !s.dev.pow.held then s.turn env else s)

/-! Clock loss (R79) -/

/-- The FAULT and STATUS bits of a lost domain, its count and its record. DESIGN CHOICE (log entry 178): the spec places only the FAULT bits
(R82); STATUS shows a lost domain in the bits of the same layout. -/
def Dev.clockMark (d : Dev) (k : Nat) : Dev :=
  ((d.fault pCLK (16 + k)).setStat pCLK (16 + k) true).incSat Reg.CLK_CK_LOSS_CNT

/-- Every gate drive is removed and the boost stages stop; what was queued is discarded. -/
def Dev.edgeClockLost (d : Dev) : Dev :=
  let d := d.busyChans.foldl (fun d c =>
    if (d.chan c).phase = phFAULT then d.modChan c (fun x => { x with queue := [], next := [] })
    else if d.metered c then d.closeMetered c .fault
    else (d.lowSideOff c).modChan c (fun x => { x with queue := [], next := [], lossEnd := none, sortEdge := none })) d
  d.railUpdate

/-- No current is sensed: CH_SENSE reads its fault codes. -/
def Dev.senseClockLost (d : Dev) : Dev :=
  let d := d.closeAll .fault
  { d with regs := d.regs.filter (fun (p : Nat × W32) => !(0x01000000 ≤ p.1 && p.1 < 0x01008000 && p.1 % 64 = 0x34)) }

/-- METER channels go off. -/
def Dev.loopClockLost (d : Dev) : Dev :=
  d.loopsClockLost.busyChans.foldl (fun d c =>
    if d.mode c = mMETER ∧ (d.chan c).phase ≠ phFAULT then d.closeMetered c .fault else d) d.loopsClockLost

/-- What the loss of a domain other than CK_SYS does. -/
def Dev.clockLossActs (d : Dev) : Domain → Dev
  | .ckLoop => d.loopClockLost
  | .ckEdge => d.edgeClockLost
  | .ckSense => d.senseClockLost
  | .ckNav => d.navLost.toHoldover
  | .ckSys | .ckNet | .ckCan | .ckAon => d

/-- CLOCK_LOSS. The loss of CK_SYS stops the strobe and resets the controller; a domain that is lost already is not lost again. -/
def execClockLoss (dom : Domain) (s : State) : Host.Outcome State Fault Refusal :=
  .next (let k := domainNo dom
    if s.dev.clockLost k then s
    else
      let s := onDev (fun d => d.recFault pCLK (16 + k)) s
      if dom = .ckSys then
        let s := onDev (fun d => { d with drv := { d.drv with strobeStop := some (d.drv.strobeStop.getD d.tm.tbm) } }) s
        onDev (·.clockMark 0) (s.controllerReset rcCLOCK)
      else onDev (fun d => ((if dom = .ckNav then d.withSmp (·.clockMark k) else d.clockMark k)).clockLossActs dom) s)

/-- CLOCK_RECOVERY: the clock has stayed inside its window for 10 ms. -/
def execClockRecovery (dom : Domain) (s : State) : Host.Outcome State Fault Refusal :=
  .next (onDev (fun d =>
    let k := domainNo dom
    if d.clockLost k then
      let f := fun (d : Dev) => d.setStat pCLK (16 + k) false
      let d := if dom = .ckNav then d.withSmp f else f d
      if dom = .ckEdge then d.railUpdate else if dom = .ckNav then d.acqNext else d
    else d) s)

end Sys2Proof.Machine
end

