-- ==== Sys2Proof/Machine/Views.lean ====
section
/-! DEFINITION. What a reader sees at an address: the registers that hold their own word, the ones computed from the state of their block
when they are read, the copies that PEND_VIEW selects (R23), the stores of the Tidemark map, and what a read leaves behind: cleared
RC registers (R3), latched shadows (R39, R88), ports that have given up their words (R33). -/

namespace Sys2Proof.Machine

/-! The page header (R22, R23) -/

/-- How many block bits, from bit 16 on, FAULT and IRQ_RAW of a page define; the chapters' field tables give them. -/
def faultBits (p : Nat) : Nat :=
  if p = 0x010 ∨ p = 0x020 then 5
  else if p = 0x002 ∨ p = 0x008 ∨ p = 0x012 ∨ p = 0x090 then 3
  else if p = 0x024 ∨ p = 0x080 ∨ (0x030 ≤ p ∧ p ≤ 0x037) then 4
  else if 0x038 ≤ p ∧ p ≤ 0x077 then 13
  else if p = 0x001 ∨ p = 0x078 ∨ (0x014 ≤ p ∧ p ≤ 0x01B) then 8
  else if p = 0x006 ∨ p = 0x025 ∨ p = 0x0A1 ∨ p = 0x0A2 ∨ p = 0x0A5 ∨ p = 0x0B0 then 2
  else if [0x003, 0x004, 0x005, 0x007, 0x00A, 0x013, 0x021, 0x022, 0x023, 0x026, 0x0A0, 0x0A3, 0x0A4, 0x0A6].contains p then 1
  else 0
def irqBits (p : Nat) : Nat :=
  if 0x014 ≤ p ∧ p ≤ 0x01B then 8
  else if p = 0x020 ∨ p = 0x078 ∨ p = 0x090 then 4
  else if p = 0x006 ∨ p = 0x00A ∨ p = 0x022 ∨ p = 0x024 ∨ p = 0x025 then 3
  else if [0x005, 0x007, 0x008, 0x009, 0x010, 0x011, 0x013, 0x021, 0x080, 0x0A0, 0x0A1, 0x0A2, 0x0A5, 0x0B0].contains p then 2
  else if [0x002, 0x003, 0x004, 0x012, 0x023, 0x026, 0x081, 0x0A3, 0x0A4, 0x0A6].contains p ∨ (0x038 ≤ p ∧ p ≤ 0x077) then 1
  else 0

/-- The defined bits of FAULT and FAULT_EN, and of IRQ_RAW, IRQ_EN and IRQ_SET (R2, R23). -/
def faultMask (p : Nat) : W32 := w32 (0x1F + (2 ^ faultBits p - 1) * 2 ^ 16)
def irqMask (p : Nat) : W32 := w32 (0x3 + (2 ^ irqBits p - 1) * 2 ^ 16)

/-- The defined bits of CTRL: PEND_VIEW, and FREEZE of LAT (R23, R281). -/
def ctrlMask (p : Nat) : W32 := if p = 0x023 then 0x00010001#32 else 1#32

/-- Block type and instance of a page (R22, R107). -/
def blockId (p : Nat) : Nat × Nat :=
  if p = 0x007 then (0x006, 1)
  else if 0x010 ≤ p ∧ p ≤ 0x01F then (0x010, p - 0x010)
  else if 0x030 ≤ p ∧ p ≤ 0x037 then (0x030, p - 0x030)
  else if 0x038 ≤ p ∧ p ≤ 0x077 then (0x038, p - 0x038)
  else (p, 0)

/-- The pending copy of a page differs from the active one (R23). -/
def Dev.pendDiff (d : Dev) (p : Nat) : Bool :=
  (d.pendOf p).any (fun (q : Nat × W32) => q.2 ≠ d.cut q.1) || (p = pMAP && d.map.polyPend ≠ d.map.poly)

/-- STATUS: its stored bits with the four that mirror other state, and READ_BUSY of REC (R23, R446). -/
def State.statusView (s : State) (p : Nat) : W32 :=
  let d := s.dev
  let w := d.rd (Reg.STATUS p)
  let w := putBit w 5 (bitOf (d.cut (Reg.MODE (modePage p))) 0)
  let w := putBit w 4 (d.locked p)
  let w := putBit w 2 (d.pendDiff p)
  let w := putBit w 1 (d.bit (Reg.TURN_ARM p) 0)
  if p = pREC then putBit w 19 s.rcd.readOpen
  else if p = pTIME then putBit w 16 (bitOf w 16 && d.bit Reg.TIME_TBS_DISC 0 && decide (d.tbgState = tbgLocked))
  else w

/-- Reads of RWT registers of a page return the pending copy (R23). -/
def Dev.pendView (d : Dev) (p : Nat) : Bool := d.bit (Reg.CTRL p) 0

/-- A register word as its access code shows it (R3, R23, R30). -/
def Dev.plainView (d : Dev) (a : Nat) : W32 :=
  match findReg a with
  | none => 0#32
  | some h =>
    match h.row.acc with
    | .rwt =>
      let copy (b : Nat) : W32 := if d.pendView (ownerPage a) then d.pending b else d.cut b
      if isModepar a then copy a &&& modeparMask (field (copy (a - 0x14)) 2 0) else copy a
    | .wo => 0#32
    | .ro | .rw | .w1c | .rc => d.rd a

/-- A register of the page header. -/
def State.headerView (s : State) (p o : Nat) : W32 :=
  let d := s.dev
  match o with
  | 0x000 => w32 ((blockId p).1 * 2 ^ 16 + (blockId p).2 * 2 ^ 8 + 1)
  | 0x004 => 0x00004202#32
  | 0x00C => d.plainView (Reg.MODE (modePage p))
  | 0x014 => s.statusView p
  | 0x018 => d.rd (Reg.FAULT p) &&& faultMask p
  | 0x01C => d.rd (Reg.FAULT_EN p) &&& faultMask p
  | 0x020 => d.rd (Reg.IRQ_RAW p) &&& irqMask p
  | 0x024 => d.rd (Reg.IRQ_EN p) &&& irqMask p
  | 0x028 => d.irqPend p
  | _ => d.plainView (p * 0x1000 + o)

/-! Time (R83, R87, R89, R105, R106, R109) -/

/-- The two words of a 64-bit count. -/
def wordOf (n w : Nat) : W32 := if w = 0 then lo32 n else hi32 n

/-- ADJ_REM: what is left to slew, whole ns, 0 only where nothing is left (R92). -/
def Dev.adjRem (d : Dev) : Int := d.tm.adjU.sign * (ceilDiv d.tm.adjU.natAbs nU : Nat)

/-- RTC_SUB, RTC_S_LO and RTC_S_HI (R106). -/
def Dev.rtcWord (d : Dev) (w : Nat) : W32 :=
  let ns := d.rtc
  match w with
  | 0 => w32 (ns % 1000000000 * 32768 / 1000000000)
  | 1 => w32 (ns / 1000000000)
  | _ => w32 (ns / 1000000000 / 2 ^ 32 % 2 ^ 16 + d.tm.rtcSrc * 2 ^ 16)

def Dev.timeView (d : Dev) (a : Nat) : Option W32 :=
  if a = Reg.TIME_TBM ∨ a = Reg.TIME_TBM + 4 then some (wordOf d.tm.tbm ((a - Reg.TIME_TBM) / 4))
  else if a = Reg.TIME_TBS ∨ a = Reg.TIME_TBS + 4 then some (wordOf d.tbs ((a - Reg.TIME_TBS) / 4))
  else if Reg.TIME_TBG_NS ≤ a ∧ a ≤ Reg.TIME_TBG_S_HI then some ((ts80Words (if d.tbgState = tbgNone then 0 else d.tbg)).getD ((a - Reg.TIME_TBG_NS) / 4) 0)
  else if a = Reg.TIME_PPS_STATUS then some d.ppsStatus
  else if a = Reg.TIME_PPS_UNC then
    some (if d.tbgState = tbgHoldoverS then sat32 d.holdUnc else d.rd Reg.TIME_PPS_UNC)
  else if a = Reg.TIME_HOLD_ELAPSED then
    some (if d.tbgState = tbgHoldoverS then w32 ((d.tm.tbm - d.tm.holdFrom) / 1000000000) else 0#32)
  else if Reg.TIME_RTC_SUB ≤ a ∧ a ≤ Reg.TIME_RTC_S_HI then some (d.rtcWord ((a - Reg.TIME_RTC_SUB) / 4))
  else if Reg.TIME1_TBN_NS ≤ a ∧ a ≤ Reg.TIME1_TBN_S_HI then some ((ts80Words d.tbn).getD ((a - Reg.TIME1_TBN_NS) / 4) 0)
  else if a = Reg.TIME1_LEG32 then some (w32 d.tbn)
  else if a = Reg.TIME1_ADJ_REM then some (w32i d.adjRem)
  else none

/-! SYS, CLK, FRM, LOCK (R81, R82, R421) -/

/-- IRQ_SUM: bit p mod 32 of word p div 32 is set while page p has a pending interrupt. -/
def Dev.irqSum (d : Dev) (i : Nat) : W32 :=
  (List.range 32).foldl (fun (w : W32) (b : Nat) =>
    putBit w b ((pageRows (32 * i + b)).isSome && d.irqPend (32 * i + b) ≠ 0#32)) 0#32

/-- CK_OK and PLL_LOCK (R82): a domain is good once the first turn has fallen and while its clock is not lost; PLL-A, PLL-E and PLL-N
stand with the domains that they feed. -/
def Dev.ckOk (d : Dev) : W32 :=
  if !d.frm.turned then 0#32
  else (List.range 8).foldl (fun (w : W32) (b : Nat) => putBit w b (!d.clockLost b)) 0#32
def Dev.pllLock (d : Dev) : W32 :=
  if !d.frm.turned then 0#32
  else putBit (putBit (putBit 0#32 0 (!d.clockLost 0)) 1 (!d.clockLost 4 && !d.clockLost 5)) 2 (!d.clockLost 6)

/-- XO_PPB and TCXO_PPB read 0 without GNSS, while the rates they gave last are kept (R82, R99). PHASE counts from the TB-M of reset until the
first turn (DESIGN CHOICE, log entry 179). -/
def Dev.sysView (d : Dev) (a : Nat) : Option W32 :=
  if Reg.SYS_IRQ_SUM 0 ≤ a ∧ a ≤ Reg.SYS_IRQ_SUM 7 then some (d.irqSum ((a - Reg.SYS_IRQ_SUM 0) / 4))
  else if a = Reg.CLK_CK_OK then some d.ckOk
  else if a = Reg.CLK_PLL_LOCK then some d.pllLock
  else if a = Reg.CLK_XO_PPB ∨ a = Reg.CLK_TCXO_PPB then
    some (if d.tbgState = tbgLocked ∨ d.tbgState = tbgReturnS then d.rd a else 0#32)
  else if a = Reg.FRM_PHASE then some (w32 (d.tm.tbm - d.frm.turnTbm))
  else if a / 0x1000 = 0x0A ∨ a / 0x1000 = 0x05 then none
  else if a = Reg.ACQ_ACQ_STALL then some d.stallWord
  else if a = Reg.WDG_MP_RST_RUN then some (w32 d.mpRecent.length)
  else none

/-! Drive (R305, R307 to R310, R322, R323) -/

/-- A channel in a channel, bank or tile fault state: phase FAULT. -/
def Dev.inFault (d : Dev) (c : Nat) : Bool := (d.chan c).phase = phFAULT

/-- A word of one bit per channel: bit `i` for channel `c + i`. -/
def chanBits (c n : Nat) (f : Nat → Bool) : W32 :=
  (List.range n).foldl (fun (w : W32) (i : Nat) => putBit w i (f (c + i))) 0#32

/-- NODE of BK_STATE (R284, R310). -/
def Dev.node (d : Dev) (b : Nat) : Nat :=
  let x := d.bank b
  if x.sort.isSome then 4
  else if x.fault then 3
  else if (bankChans b).any (fun c => (d.chan c).phase = phBOOST) then 2
  else if x.reclose.isSome || (bankChans b).all (fun c => d.mode c = mOFF) then 0
  else 1

/-- BK_STATE (R310). -/
def Dev.bankState (d : Dev) (b : Nat) : W32 :=
  let bits (f : Nat) : Nat := (chanBits (8 * b) 8 (fun c => (d.chan c).phase = f)).toNat
  let boosting := (List.range 8).find? (fun i => (d.chan (8 * b + i)).phase = phBOOST)
  w32 (bits phWAIT * 2 ^ 16 + bits phPEAK * 2 ^ 8 + (match boosting with | some i => 0x80 + i * 16 | none => 0) + d.node b)

/-- CHF_CAUSE (R310). -/
def Dev.bankCauses (d : Dev) (b : Nat) : W32 :=
  w32 ((List.range 8).foldl (fun (n i : Nat) => n + (if d.inFault (8 * b + i) then (d.chan (8 * b + i)).cause else 0) * 16 ^ i) 0)

def Dev.driveView (d : Dev) (a : Nat) : Option W32 :=
  let p := a / 0x1000
  let o := a % 0x1000
  if 0x030 ≤ p ∧ p ≤ 0x037 then
    let c := 64 * (p - 0x030)
    match o with
    | 0x058 => some (chanBits c 32 d.driven)
    | 0x05C => some (chanBits (c + 32) 32 d.driven)
    | 0x060 => some (chanBits c 32 d.inFault)
    | 0x064 => some (chanBits (c + 32) 32 d.inFault)
    | _ => none
  else if 0x038 ≤ p ∧ p ≤ 0x077 then
    let b := p - 0x038
    match o with
    | 0x044 => some (d.bankState b)
    | 0x064 => some (putBit (chanBits (8 * b) 8 d.inFault) 8 (d.bank b).fault)
    | 0x068 => some (d.bankCauses b)
    | _ => none
  else none

/-- CH_STAT and CH_SENSE of a channel (R305, R323). -/
def Dev.chanView (d : Dev) (c o : Nat) : Option W32 :=
  match o with
  | 0x30 => some (w32 ((d.chan c).phase + (if d.inFault c then (d.chan c).cause * 16 else 0)))
  | 0x34 => some (if d.inFault c || d.clockLost 5 then 0x0FFF0FFF#32 else d.rd (Reg.CH_SENSE c))
  | _ => none

/-- The level at SENSE pin `t` in mV (R322). -/
def Dev.sensePin (d : Dev) (t : Nat) : Nat :=
  if !d.bit (Reg.DT_SNS_SEL t) 15 then 0
  else
    let c := d.fld (Reg.DT_SNS_SEL t) 8 0
    if d.inFault c then 4500 else min 3000 (field (d.rd (Reg.CH_SENSE c)) 11 0 * 2)

/-! The other blocks' computed registers -/

/-- Evaluations per second of a configuration (R370, R399). -/
def Dev.capacity (d : Dev) (get : Nat → W32) : W32 :=
  w32 (({ get := get, conf := d.configured, words := [] } : Cand).evalRate64 / 64)

/-- Microseconds since the newest sample of an IMU port, saturating; 0 before the first. -/
def Dev.imuAge (d : Dev) (i : Nat) : W32 :=
  match (sget (fun _ => {}) d.net.imu i : ImuPort).samples.head? with
  | none => 0#32
  | some x => sat32 ((d.tbs - x.1) / 1000)

def Dev.blockView (d : Dev) (a : Nat) : Option W32 :=
  if a = Reg.NAV_SMP_CNT ∨ a = Reg.NAV_SMP_CNT + 4 then some (wordOf d.smp ((a - Reg.NAV_SMP_CNT) / 4))
  else if a = Reg.BURST_TBL_LEFT then
    some (match d.gps.tblUntil with | some t => w32 ((t - d.tm.tbm) / 1000000000) | none => 0#32)
  else if a = Reg.MAP_POLY_VERTS then some (w32 ((polysOf d.map.poly).map (fun (q : Nat × Nat × Nat) => q.2.2)).sum)
  else if a = Reg.LPE_CAP_USED then some (d.capacity d.cut)
  else if a = Reg.LPE_CAP_PEND then some (d.capacity d.pending)
  else if Reg.FIN_FIN_FREQ 0 ≤ a ∧ a ≤ Reg.FIN_FIN_FREQ 95 ∧ a % 4 = 0 then some (d.finFreq ((a - Reg.FIN_FIN_FREQ 0) / 4) d.tm.tbm)
  else if a = Reg.IMU_IMU_AGE 0 then some (d.imuAge 0)
  else if a = Reg.IMU_IMU_AGE 1 then some (d.imuAge 1)
  else none

/-- The registers of LDG that show the ledger (R358, R360, R361, R367). -/
def State.ledgerView (s : State) (a : Nat) : Option W32 :=
  let b := s.ldg.book
  if a = Reg.LDG_SESS_ID then some (w32 b.sessId)
  else if a = Reg.LDG_SESS_STATUS then some b.statusWord
  else if Reg.LDG_LOSS_FROM_NS ≤ a ∧ a ≤ Reg.LDG_LOSS_FROM_S_HI then some (b.lossFrom.getD ((a - Reg.LDG_LOSS_FROM_NS) / 4) 0)
  else if Reg.LDG_LOSS_TO_NS ≤ a ∧ a ≤ Reg.LDG_LOSS_TO_S_HI then some (b.lossTo.getD ((a - Reg.LDG_LOSS_TO_NS) / 4) 0)
  else if a = Reg.LDG_SNAP_LEVEL then some (w32 s.ldg.snapLevel)
  else if Reg.LDG_INVALID 0 ≤ a ∧ a ≤ Reg.LDG_INVALID 15 then
    some (chanBits (32 * ((a - Reg.LDG_INVALID 0) / 4)) 32 b.invalid.contains)
  else if Reg.LDG_LIVE 0 ≤ a ∧ a < Reg.LDG_LIVE 12 then
    let c := s.dev.fld Reg.LDG_LDG_SEL 8 0
    some (wordOf (((b.entry c).counters (s.dev.mode c)).getD ((a - Reg.LDG_LIVE 0) / 8) 0) ((a - Reg.LDG_LIVE 0) / 4 % 2))
  else none

/-- The registers of REC that show the record store (R428, R435, R445). -/
def State.recView (s : State) (a : Nat) : Option W32 :=
  if a = Reg.REC_SEQ_NEXT ∨ a = Reg.REC_SEQ_NEXT + 4 then some (wordOf s.rcd.nextSeq ((a - Reg.REC_SEQ_NEXT) / 4))
  else if a = Reg.REC_OLDEST_SEQ ∨ a = Reg.REC_OLDEST_SEQ + 4 then some (wordOf s.rcd.oldest ((a - Reg.REC_OLDEST_SEQ) / 4))
  else if a = Reg.REC_BUF_LEVEL then some (w32 (recordBytes s.rcd.undrained))
  else if a = Reg.REC_RD_LEFT then some (w32 s.rdLeft)
  else if Reg.REC_RL 480 ≤ a ∧ a ≤ Reg.REC_RL 484 then some 0xFFFFFFFF#32
  else if a = Reg.REC_RL 485 then some (s.dev.rd a ||| 0xFFFF#32)
  else none

/-! The stores of the Tidemark map (R216, R218, R219) -/

/-- How many words a read from an address can take before its page, its window's entries or the export page ends (R33). -/
def Dev.wordsAhead (d : Dev) (a : Nat) : Nat :=
  if a < 0x00100000 then (0x1000 - a % 0x1000) / 4
  else match windowAt a with
    | some (w, _) => (w.base + w.size * w.count - a) / 4
    | none =>
      if expStore ≤ a ∧ d.jobState ≠ joLOADING then (d.map.page.length + 3) / 4 - (a - expStore) / 4
      else storeSpan a

def Dev.storeView (d : Dev) (a : Nat) : W32 :=
  let z : Nat → W32 := fun _ => 0#32
  if a < rxStore then
    sget z (if d.pendView pMAP then d.map.polyPend else d.map.poly) ((a - polyStore) / 4)
  else if a < expStore then sget z d.map.rxWin ((a - rxStore) / 4)
  else if d.jobState = joLOADING then sget z d.map.expWin ((a - expStore) / 4)
  else w32 (beNat (slice d.map.page (a - expStore) 4 ++ List.replicate (4 - (slice d.map.page (a - expStore) 4).length) 0#8))

/-! A word as a reader sees it -/

/-- The word at an address. -/
def State.view (s : State) (a : Nat) : W32 :=
  let d := s.dev
  if inStore a then d.storeView a
  else if a < 0x00100000 then
    if a % 0x1000 < 0x044 then s.headerView (a / 0x1000) (a % 0x1000)
    else
      match d.timeView a with
      | some w => w
      | none => match d.sysView a with
        | some w => w
        | none => match d.driveView a with
          | some w => w
          | none => match d.blockView a with
            | some w => w
            | none => match s.ledgerView a with
              | some w => w
              | none => match s.recView a with
                | some w => w
                | none => d.plainView a
  else if a < 0x01008000 then
    match d.chanView ((a - 0x01000000) / 64) (a % 64) with
    | some w => w
    | none => d.plainView a
  else d.plainView a

/-! What a read leaves behind -/

/-- The ports (R33, R45): a read takes words out of them. -/
def portOf (a : Nat) : Option PortAct :=
  if a = Reg.ATT_ATT_PORT then some portAtt
  else if a = Reg.NAV_MEAS_PORT then some portMeas
  else if a = Reg.NAV_NAVW_PORT then some portNavw
  else if a = Reg.ACQ_ACQ_RES_PORT then some portAcqRes
  else if a = Reg.SDE_TL_PORT then some portTl
  else if a = Reg.LDG_SNAP_PORT then some portSnap
  else if a = Reg.DIAG_DIAG_PORT then some portDiag
  else if a = Reg.SND_SND_PORT then some portSnd
  else if a = Reg.REC_REC_PORT then some portRec
  else if a = Reg.REC_BR_PORT then some portBr
  else if a = Reg.NET_RX_PORT then some portEthRx
  else if a = Reg.CAN_RX_PORT 0 then some (portCanRx 0)
  else if a = Reg.CAN_RX_PORT 1 then some (portCanRx 1)
  else if a = Reg.GPIO_TM_PORT then some portMarks
  else none

/-- The words that a read of this one latches for its requester: the high word of a 64-bit register (R39), the seconds of a TS80
value (R88, R106). -/
def latchedWords (a : Nat) : List Nat :=
  if [Reg.TIME_TBG_NS, Reg.TIME1_TBN_NS, Reg.TIME1_CAP_TBN_NS, Reg.TIME1_SET_NS, Reg.LDG_LOSS_FROM_NS, Reg.LDG_LOSS_TO_NS,
      Reg.TIME_RTC_SUB].contains a then [a + 4, a + 8]
  else match findReg a with
    | some h => if h.row.wide ∧ h.word = 0 then [a + 4] else []
    | none => []

/-- Clear what a read clears: REJECTED and SHORT of STATUS, and RC registers (R3, R23). -/
def Dev.readClears (d : Dev) (a : Nat) : Dev :=
  if a < 0x00100000 ∧ a % 0x1000 = 0x014 then (d.setStat (a / 0x1000) sREJECTED false).setStat (a / 0x1000) sSHORT false
  else match findReg a with
    | some h => if h.row.acc = .rc then d.wr a 0#32 else d
    | none => d

/-- A read of one register word (R39, R88): the shadow where the requester has one, which the read gives up; else the word as it
stands, with the shadows it latches and the clearing it brings. -/
def State.readReg (s : State) (req : Requester) (a : Nat) : W32 × State :=
  match sfind s.dev.fab.shadow (shadowKey req a) with
  | some w => (w, onDev (fun d => { d with fab := { d.fab with shadow := serase d.fab.shadow (shadowKey req a) } }) s)
  | none =>
    let s' := (latchedWords a).foldl (fun (t : State) (b : Nat) => onDev (·.latchShadow req b (s.view b)) t) s
    (s.view a, onDev (·.readClears a) s')

/-- A read of one word: a port gives a word if it holds one, and past the end of a window there is none (R33). -/
def State.readWord (s : State) (req : Requester) (a : Nat) : List W32 × State :=
  match portOf a with
  | some p => p 1 s
  | none => if s.dev.wordsAhead a = 0 then ([], s) else let r := s.readReg req a; ([r.1], r.2)

/-- A read of one word over the fabric: the checks, the word, the answer (R33, R41). -/
def hostRead (req : Requester) (a : Nat) (s : State) : State :=
  let s := onDev (fun d => (d.strobed a).hslTouch req false) s
  match s.dev.readStatus req a with
  | .ok =>
    let r := s.readWord req a
    onDev (fun d => (d.shortRead a 1 r.1.length).respond req a .ok r.1.length r.1) r.2
  | st => onDev (fun d => (d.refuse a st).respond req a st 0 []) s

/-- READ_CLEAR (R3). -/
def execReadClear (req : Requester) (addr : Nat) (s : State) : Host.Outcome State Fault Refusal := .next (hostRead req addr s)
/-- WIDE_LOW_READ (R39). -/
def execWideLowRead (req : Requester) (addr : Nat) (s : State) : Host.Outcome State Fault Refusal := .next (hostRead req addr s)
/-- TS80_NS_READ (R88). -/
def execTs80NsRead (req : Requester) (addr : Nat) (s : State) : Host.Outcome State Fault Refusal := .next (hostRead req addr s)

/-- TRANSACTION_TIMEOUT (R38): nothing is written and nothing returned. -/
def execTransactionTimeout (req : Requester) (addr : Nat) (s : State) : Host.Outcome State Fault Refusal :=
  .next (onDev (·.respond req addr .timeout 0 []) s)

end Sys2Proof.Machine
end

