-- ==== Sys2Proof/Machine/Fabric.lean ====
section
/-! DEFINITION. Writes over the register fabric (R22 to R42): what a write does at each kind of address, and the commands that are one
register access. -/

namespace Sys2Proof.Machine

/-! The page header (R22 to R31) -/

/-- FAULT_EN: a fault that stands and becomes enabled raises IRQ_RAW.FAULT (R23); the reserved bits stay. -/
def Dev.writeFaultEn (d : Dev) (p : Nat) (v : W32) : Dev :=
  let old := d.rd (Reg.FAULT_EN p)
  let new := (old &&& ~~~(faultMask p)) ||| (v &&& faultMask p)
  let d' := d.wr (Reg.FAULT_EN p) new
  let d' := if outputPages.contains p && new ≠ 0xFFFFFFFF#32 then { d' with sup := { d'.sup with diagCut := true } } else d'
  if d.rd (Reg.FAULT p) &&& new &&& ~~~old ≠ 0#32 then d'.irq p 1 else d'

/-- A W1C write to IRQ_RAW: a write that clears at least one bit also captures the time bases (R95). -/
def Dev.acknowledge (d : Dev) (req : Requester) (p : Nat) (v : W32) : Dev :=
  let w := d.rd (Reg.IRQ_RAW p)
  if w &&& v = 0#32 then d else (d.wr (Reg.IRQ_RAW p) (w &&& ~~~v)).capture req p

/-- A write to a register of the page header. -/
def actHeader (req : Requester) (p o : Nat) (v : W32) : Act := actDev (fun d =>
  match o with
  | 0x00C => if modePage p = p then d.store (Reg.MODE p) v else d
  | 0x010 => d.wr (Reg.CTRL p) (v &&& ctrlMask p)
  | 0x018 => d.wr (Reg.FAULT p) (d.rd (Reg.FAULT p) &&& ~~~v)
  | 0x01C => d.writeFaultEn p v
  | 0x020 => d.acknowledge req p v
  | 0x024 => d.wr (Reg.IRQ_EN p) (v &&& irqMask p)
  | 0x02C => d.wr (Reg.IRQ_RAW p) (d.rd (Reg.IRQ_RAW p) ||| (v &&& irqMask p))
  | 0x030 => d.wr (Reg.TURN_ARM p) (v &&& 1#32)
  | 0x038 => d.wr (Reg.LOCK p) (if v = keyLock then 1#32 else 0#32)
  | 0x03C => d.wr (Reg.SCRATCH p) v
  | _ => d)

/-! Pairing keys (R52) -/

/-- PAIR_CMD: 1 stores PAIR_KEY in the slot that PAIR_SEL names, 2 erases the slot. -/
def actPair (v : W32) : Act := actDev (fun d =>
  let slot := d.fld Reg.HOST_PAIR_SEL 0 0
  let key := if v = 1#32 then (List.range 8).flatMap (fun i => bytesBE (d.rd (Reg.HOST_PAIR_KEY i))) else []
  ({ d with fab := { d.fab with pairKeys := setAt d.fab.pairKeys slot key } }).setBit Reg.HOST_PAIR_STAT slot (v = 1#32))

/-- PAIR_STORE. -/
def execPairStore (req : Requester) (s : State) : Host.Outcome State Fault Refusal :=
  .next (hostCmd req Reg.HOST_PAIR_CMD 1#32 (actPair 1#32) s)
/-- PAIR_ERASE. -/
def execPairErase (req : Requester) (s : State) : Host.Outcome State Fault Refusal :=
  .next (hostCmd req Reg.HOST_PAIR_CMD 2#32 (actPair 2#32) s)

/-! Registers with an action of their own -/

/-- One word to STAGE_PORT. -/
def actStageWord (v : W32) : Act := fun s => let r := actStage [v] s; (r.1, r.2.2)

/-- The command registers: what a write that passed the checks does. `none` where the register only stores. -/
def commandOf (req : Requester) (a : Nat) (v : W32) : Option Act :=
  let p := a / 0x1000
  let o := a % 0x1000
  match p with
  | 0x000 =>
    if a = Reg.SYS_RST_CMD then some (actRstCmd v) else if a = Reg.SYS_OUT_ARM then some (actOutArm v) else none
  | 0x002 =>
    if a = Reg.FRM_GLOBAL_HOLD then some (actGlobalHold v) else if a = Reg.FRM_GLOBAL_GO then some (actGlobalGo v) else none
  | 0x003 => if a = Reg.PWR_PWR_CMD then some actPwrCmd else none
  | 0x004 =>
    if a = Reg.ATT_ATT_CMD then some actAttCmd
    else if a = Reg.ATT_ATT_CONFIRM then some (actAttConfirm v)
    else if a = Reg.ATT_EXT_CMD then some (actExtend v)
    else if a = Reg.ATT_BLOB_PORT then some (actBlobPort v)
    else if a = Reg.ATT_BLOB_CMD then some (actBlobCmd v)
    else if a = Reg.ATT_POLICY_SET then some (actPolicySet v)
    else none
  | 0x005 =>
    if a = Reg.HOST_HB_PERIOD then some (actHbPeriod v)
    else if a = Reg.HOST_HB_KICK then some (actHbKick req)
    else if a = Reg.HOST_PAIR_CMD then some (actPair v)
    else none
  | 0x006 => if a = Reg.TIME_WALL_SEL then some (actDev (·.withWall (·.store a v))) else none
  | 0x007 =>
    if a = Reg.TIME1_ADJ then some (actAdj v)
    else if a = Reg.TIME1_SET_NS then some (actSetNs v)
    else if a = Reg.TIME1_STEP_CMD then some (if v = 1#32 then actStepAdd req else actLoad req)
    else if a = Reg.TIME1_CAP_NOW then some (actCapNow req)
    else none
  | 0x008 =>
    if a = Reg.POSE_PIN_COMMIT then some (actPinCommit (bitOf v 0))
    else if Reg.POSE_JOB_LAT ≤ a ∧ a ≤ Reg.POSE_JOB_H then
      some (actDev (fun d => { d.store a v with pose := { d.pose with originWritten := true } }))
    else none
  | 0x009 =>
    if a = Reg.IMP_STAGE_PORT then some (actStageWord v) else if a = Reg.IMP_IDI_CMD then some (actIdiCmd v) else none
  | 0x010 => if a = Reg.NAV_ANT_CTRL then some (actDev (fun d => (d.store a v).antCtrlWritten)) else none
  | 0x011 =>
    if a = Reg.ACQ_JOB_PUSH then some actJobPush else if a = Reg.ACQ_ACQ_FLUSH then some actAcqFlush else none
  | 0x012 => if a = Reg.INTEG_INTEG_CMD then some (if v = 1#32 then actAcceptClock else actClearAdvisory) else none
  | 0x020 =>
    if a = Reg.MAP_JOB_CMD then some (actJobCmd v)
    else if a = Reg.MAP_EXP_CMD then some (actExpCmd v)
    else if a = Reg.MAP_EXP_PAGE then some (actExpPage v)
    else if a = Reg.MAP_IMP_CMD then some actImpCmd
    else if a = Reg.MAP_RX_CMD then some actRxCmd
    else none
  | 0x021 => if a = Reg.SDE_TL_SEL then some (actTlSel v) else none
  | 0x022 =>
    if a = Reg.EDS_ACT_PUSH then some actPush else if a = Reg.EDS_ACT_CANCEL then some (actActCancel v) else none
  | 0x025 => if a = Reg.LDG_LDG_CMD then some (actLdgCmd v) else none
  | 0x026 => if a = Reg.DIAG_DIAG_SEL then some (actDev (fun d => (d.store a v).showLastSum)) else none
  | 0x078 =>
    if 0x108 ≤ o ∧ o ≤ 0x138 ∧ o % 0x10 = 8 then some (actRailClr ((o - 0x108) / 0x10) v) else none
  | 0x080 => if a = Reg.LPE_LP_CLR then some (actLpClr v) else none
  | 0x081 =>
    if a = Reg.SND_SND_CMD then some (actSndCmd v) else if a = Reg.SND_SND_RSEL then some (actSndSel v) else none
  | 0x090 =>
    if a = Reg.REC_REC_CMD then some (if v = 1#32 then actNonce else if v = 2#32 then actAuth else if v = 3#32 then actDrainNow else actReadStart)
    else if a = Reg.REC_BR_SEL then some (actBrSel v)
    else if a = Reg.REC_KEY_CMD then some (actKeyCmd v true)
    else if 0x400 ≤ o ∧ o < 0xC00 then some (actRl ((o - 0x400) / 4) v)
    else none
  | 0x0A0 =>
    if a = Reg.NET_TX_PORT then some (actEthTxWord v) else if a = Reg.NET_TX_PUSH then some actEthPush else none
  | 0x0B0 =>
    if a = Reg.WDG_WDG_CMD then some (actWdgCmd v) else if a = Reg.WDG_MP_KICK then some actMpKick else none
  | _ =>
    if 0x014 ≤ p ∧ p < 0x01C then
      if 0x400 ≤ o ∧ o < 0xC00 ∧ o % 0x100 = 0x18 then
        let c := 8 * (p - 0x014) + (o - 0x400) / 0x100
        some (if v = 1#32 then actTcStart c else actTcStop c)
      else none
    else if 0x030 ≤ p ∧ p < 0x038 then (if o = 0x104 then some (actTileClr (p - 0x030) v) else none)
    else if 0x038 ≤ p ∧ p < 0x078 then (if o = 0x108 then some (actChfClr (p - 0x038) v) else none)
    else if 0x0A1 ≤ p ∧ p < 0x0A3 then
      if o = 0x184 then some (actCanTxWord (p - 0x0A1) v) else if o = 0x188 then some (actCanPush (p - 0x0A1)) else none
    else none

/-! 64-bit registers (R39) -/

/-- The low word of a 64-bit register commits the pair: the high word is the one its requester holds, else the register's own. -/
def actWideLow (req : Requester) (a : Nat) (v : W32) : Act := fun s =>
  let hi := s.dev.heldHigh req (a + 4)
  let r := if a = Reg.TIME1_INCR then actIncr (hi.toNat * 2 ^ 32 + v.toNat) s else (Status.ok, onDev (fun d => (d.store a v).store (a + 4) hi) s)
  if r.1 = .ok then (.ok, onDev (·.dropHigh req (a + 4)) r.2) else r

/-- The high word is held until the low word is written. -/
def actWideHigh (req : Requester) (a : Nat) (v : W32) : Act := actDev (·.holdHigh req a v)

/-- A register that a host can write. -/
def writable : Access → Bool
  | .rw | .rwt | .wo => true
  | .ro | .rc | .w1c => false

/-- A write to a register of a map: a 64-bit pair, or the register's own copy (R3, R30, R39). -/
def actStore (req : Requester) (a : Nat) (v : W32) : Act := fun s =>
  match findReg a with
  | none => (.ok, s)
  | some h =>
    if !writable h.row.acc then (.ok, s)
    else if h.row.wide then (if h.word = 0 then actWideLow req a v s else actWideHigh req a v s)
    else (.ok, onDev (fun d => (d.store a v).noteHostInput a) s)

/-! The stores of the Tidemark map (R217 to R219) -/

def actMapStore (a : Nat) (v : W32) : Act := actDev (fun d =>
  let put (m : SMap W32) (o : Nat) : SMap W32 := sset (fun _ => 0#32) m (o / 4) v
  if a < rxStore then
    { d with map := { d.map with polyPend := put d.map.polyPend (a - polyStore) } }
  else if a < expStore then { d with map := { d.map with rxWin := put d.map.rxWin (a - rxStore) } }
  else { d with map := { d.map with expWin := put d.map.expWin (a - expStore) } })

/-! One write -/

/-- What a write that passed the checks of the fabric does. -/
def actWrite (req : Requester) (a : Nat) (v : W32) : Act :=
  if inStore a then actMapStore a v
  else if a < 0x00100000 ∧ a % 0x1000 < 0x044 then actHeader req (a / 0x1000) (a % 0x1000) v
  else match (if a < 0x00100000 then commandOf req a v else none) with
    | some act => act
    | none => actStore req a v

/-- One write of a register over the fabric: checked, applied, answered. -/
def hostWrite (req : Requester) (a : Nat) (v : W32) (s : State) : State := farCmd req a v (actWrite req a v) s

/-- REGISTER_WRITE (R36). -/
def execRegisterWrite (req : Requester) (addr : Nat) (data : W32) (s : State) : Host.Outcome State Fault Refusal :=
  .next (hostWrite req addr data s)

/-- WIDE_HIGH_WRITE and WIDE_LOW_WRITE (R39). -/
def execWideHighWrite (req : Requester) (addr : Nat) (data : W32) (s : State) : Host.Outcome State Fault Refusal :=
  .next (hostWrite req addr data s)
def execWideLowWrite (req : Requester) (addr : Nat) (data : W32) (s : State) : Host.Outcome State Fault Refusal :=
  .next (hostWrite req addr data s)

/-- TURN_ARM and TURN_DISARM (R24, R27). -/
def execTurnArm (req : Requester) (page : Fin 256) (s : State) : Host.Outcome State Fault Refusal :=
  .next (hostWrite req (Reg.TURN_ARM page) 1#32 s)
def execTurnDisarm (req : Requester) (page : Fin 256) (s : State) : Host.Outcome State Fault Refusal :=
  .next (hostWrite req (Reg.TURN_ARM page) 0#32 s)

/-- PAGE_LOCK and PAGE_UNLOCK (R23, R31). -/
def execPageLock (req : Requester) (page : Fin 256) (s : State) : Host.Outcome State Fault Refusal :=
  .next (hostWrite req (Reg.LOCK page) keyLock s)
def execPageUnlock (req : Requester) (page : Fin 256) (s : State) : Host.Outcome State Fault Refusal :=
  .next (hostWrite req (Reg.LOCK page) keyUnlock s)

/-- IRQ_SET and IRQ_ACKNOWLEDGE (R22, R95). -/
def execIrqSet (req : Requester) (page : Fin 256) (mask : W32) (s : State) : Host.Outcome State Fault Refusal :=
  .next (hostWrite req (Reg.IRQ_SET page) mask s)
def execIrqAcknowledge (req : Requester) (page : Fin 256) (mask : W32) (s : State) : Host.Outcome State Fault Refusal :=
  .next (hostWrite req (Reg.IRQ_RAW page) mask s)

end Sys2Proof.Machine
end

