-- ==== Sys2Proof/Machine/Links.lean ====
section
/-! DEFINITION. The two links (R32 to R62): bursts, the transactions of the host serial link with their check words, and the frames of
the Ivyth transport with their sessions. -/

namespace Sys2Proof.Machine

/-! Bursts (R32, R33, R35, R42, R45) -/

/-- The addresses of a burst: one after the other, or one address again and again. -/
def burstAddrs (a n : Nat) (fixed : Bool) : List Nat :=
  if fixed then List.replicate n a else (List.range n).map (a + 4 * ·)

/-- Words from an address to the end of its page, of its window's entries or of its store. -/
def spanWords (a : Nat) : Nat :=
  if a < 0x00100000 then (0x1000 - a % 0x1000) / 4
  else match windowAt a with
    | some (w, _) => (w.base + w.size * w.count - a) / 4
    | none => storeSpan a

/-- What rejects a burst of writes before any word is written (R42), with the address it is charged to: what rejects its first word,
a crossed boundary, an expert word at the basic level, or a locked page. -/
def Dev.burstCheck (d : Dev) (req : Requester) (a n : Nat) (fixed : Bool) : Status × Nat :=
  if !d.fabricUp then (.timeout, a)
  else if !addrExists a then (.addr, a)
  else if authFails req a || ivyWriteFails req a || d.geoFails req a then (.auth, a)
  else if !fixed && decide (spanWords a < n) then (.len, a)
  else
    let as_ := burstAddrs a n fixed
    match as_.find? (d.levelFails req) with
    | some b => (.level, b)
    | none =>
      match as_.find? (fun b => d.locked (targetPage b) && !lockExempt b) with
      | some b => (.lockw, b)
      | none => (.ok, a)

/-- The words of a burst, up to the first whose status is not OK (R42). -/
def writeWords (req : Requester) : List (Nat × W32) → State → Status × Nat × State
  | [], s => (.ok, 0, s)
  | (a, v) :: r, s =>
    match checkedWrite req a v (actWrite req a v) s with
    | (.ok, s) => let t := writeWords req r s; (t.1, t.2.1 + 1, t.2.2)
    | (st, s) => (st, 0, s)

/-- A burst of writes: its status, the words done, the state after. Words for STAGE_PORT are taken together (R113). -/
def burstWrite (req : Requester) (a : Nat) (ws : List W32) (fixed : Bool) (s : State) : Status × Nat × State :=
  let s := onDev (·.strobed a) s
  match s.dev.burstCheck req a ws.length fixed with
  | (.ok, _) =>
    if fixed = true ∧ a = Reg.IMP_STAGE_PORT then actStage ws s
    else writeWords req ((burstAddrs a ws.length fixed).zip ws) s
  | (st, b) => (st, 0, onDev (·.refuse b st) s)

/-- The words of a burst of reads, up to a port that has none left or a word whose status is not OK. -/
def readWords (req : Requester) : List Nat → State → Status × List W32 × State
  | [], s => (.ok, [], s)
  | a :: r, s =>
    match s.dev.readStatus req a with
    | .ok =>
      let x := s.readWord req a
      if x.1 = [] then (.ok, [], x.2)
      else let t := readWords req r x.2; (t.1, x.1 ++ t.2.1, t.2.2)
    | st => (st, [], onDev (·.refuse a st) s)

/-- The count of a link's read command that asks for all that is available, all ones in its 8 bits (R34). -/
def countAll : Nat := 255

/-- A burst of reads: its status, its words, the state after. A burst that runs past what exists is clamped (R33), and SHORT shows it
unless its count asked for all there is (R34). -/
def burstRead (req : Requester) (a n : Nat) (fixed : Bool) (s : State) : Status × List W32 × State :=
  let s := onDev (·.strobed a) s
  match s.dev.readStatus req a with
  | .ok =>
    let k := if fixed then n else min n (s.dev.wordsAhead a)
    let r : Status × List W32 × State :=
      match (if fixed then portOf a else none) with
      | some p => let r := p k s; (.ok, r.1, r.2)
      | none => readWords req (burstAddrs a k fixed) s
    (r.1, r.2.1, if r.1 = .ok ∧ n ≠ countAll then onDev (·.shortRead a n r.2.1.length) r.2.2 else r.2.2)
  | st => (st, [], onDev (·.refuse a st) s)

/-! The host serial link (R44 to R49) -/

/-- The fields of a command word (R45). -/
def cmdOp (cmd : W32) : Nat := field cmd 31 28
def cmdTag (cmd : W32) : Nat := field cmd 27 24
def cmdLen (cmd : W32) : Nat := if field cmd 23 16 = 0 then 256 else field cmd 23 16

/-- The host check word agrees with the words before it (R44). -/
def checkOk (ws : List W32) (chk : W32) : Bool := chk = w32 (crc16Words ws)

/-- What the module drives: the status word, the data, and its own check word (R44, R45). -/
def hslAnswer (cmd : W32) (st : Status) (done : Nat) (data : List W32) : List W32 :=
  let ws := w32 (0xA * 2 ^ 28 + cmdTag cmd * 2 ^ 24 + statusCode st * 2 ^ 20 + done * 2 ^ 8) :: data
  ws ++ [w32 (crc16Words ws)]

/-- A transaction ends: the answer goes out, it is counted, and a status other than OK is kept in LAST_ERR (R46, R62). -/
def Dev.hslEnd (d : Dev) (cmd : W32) (a : Nat) (st : Status) (done : Nat) (data : List W32) : Dev :=
  let d := (d.respond .hsl a st done data).inc Reg.HOST_HSL_FRAMES
  { d with fab := { d.fab with hslOut := hslAnswer cmd st done data } }

/-- No answer goes out: the module does not take part in the transaction. -/
def Dev.hslSilent (d : Dev) : Dev := { d with fab := { d.fab with hslOut := [] } }

/-- The host has raised HSL_CS_N before the module check word ended (R48): the transaction is counted as abandoned, and no answer goes out. -/
def Dev.hslGivenUp (d : Dev) : Dev := (if d.fabricUp then d.inc Reg.HOST_HSL_ABORT else d).hslSilent

/-- A transaction up to its host check: what it does, where the module takes part and the check holds (R46). -/
def hslRun (cmd addr : W32) (chk : HslCheck) (data : List W32) (write : Bool) (act : State → State) (s : State) : State :=
  let s := onDev (·.hslTouch .hsl write) s
  if !s.dev.fabricUp then onDev (·.hslSilent) s
  else if checkOk (cmd :: addr :: data) chk.word = false then
    onDev (fun d =>
      let d := d.inc Reg.HOST_HSL_CRC_ERR
      if chk.cut.isSome then d.hslGivenUp else d.hslEnd cmd addr.toNat .crc 0 []) s
  else act s

/-- READ and READ_FIXED. Any other OP in a transaction without write data gives status ADDR (R45). A transaction given up while it
executes has read the words up to then (R48, log entry 175). -/
def hslReads (cmd addr : W32) (chk : HslCheck) (s : State) : State :=
  hslRun cmd addr chk [] false (fun s =>
    if cmdOp cmd = 1 ∨ cmdOp cmd = 3 then
      match chk.cut with
      | some n => onDev (·.hslGivenUp) (burstRead .hsl addr.toNat (min n (cmdLen cmd)) (cmdOp cmd = 3) s).2.2
      | none =>
        let r := burstRead .hsl addr.toNat (cmdLen cmd) (cmdOp cmd = 3) s
        onDev (·.hslEnd cmd addr.toNat r.1 r.2.1.length r.2.1) r.2.2
    else onDev (fun d => if chk.cut.isSome then d.hslGivenUp else d.hslEnd cmd addr.toNat .addr 0 []) s) s

/-- WRITE and WRITE_FIXED. A host that raises HSL_CS_N before LEN words and the check have passed has abandoned the transaction; one that
does so while it executes leaves the words written up to then (R48, log entry 175). -/
def hslWrites (cmd addr : W32) (data : List W32) (chk : HslCheck) (s : State) : State :=
  if data.length ≠ cmdLen cmd then onDev (fun d => (d.hslTouch .hsl true).hslGivenUp) s
  else hslRun cmd addr chk data true (fun s =>
    if cmdOp cmd = 2 ∨ cmdOp cmd = 4 then
      match chk.cut with
      | some n =>
        let whole := decide ((s.dev.burstCheck .hsl addr.toNat data.length (cmdOp cmd = 4)).1 = .ok)
        onDev (·.hslGivenUp) (if whole then (burstWrite .hsl addr.toNat (data.take n) (cmdOp cmd = 4) s).2.2 else s)
      | none =>
        let r := burstWrite .hsl addr.toNat data (cmdOp cmd = 4) s
        onDev (·.hslEnd cmd addr.toNat r.1 r.2.1 []) r.2.2
    else onDev (fun d => if chk.cut.isSome then d.hslGivenUp else d.hslEnd cmd addr.toNat .addr 0 []) s) s

/-- HSL_READ. -/
def execHslRead (cmd addr : W32) (chk : HslCheck) (s : State) : Host.Outcome State Fault Refusal := .next (hslReads cmd addr chk s)
/-- HSL_READ_FIXED. -/
def execHslReadFixed (cmd addr : W32) (chk : HslCheck) (s : State) : Host.Outcome State Fault Refusal := .next (hslReads cmd addr chk s)
/-- HSL_WRITE. -/
def execHslWrite (cmd addr : W32) (data : List W32) (chk : HslCheck) (s : State) : Host.Outcome State Fault Refusal :=
  .next (hslWrites cmd addr data chk s)
/-- HSL_WRITE_FIXED. -/
def execHslWriteFixed (cmd addr : W32) (data : List W32) (chk : HslCheck) (s : State) : Host.Outcome State Fault Refusal :=
  .next (hslWrites cmd addr data chk s)

/-- HSL_ABORT (R48): HSL_CS_N rises while the answer of the transaction that ran before goes out. What it has executed stays executed, and
it is already counted in HSL_FRAMES (log entry 175). -/
def execHslAbort (s : State) : Host.Outcome State Fault Refusal :=
  .next (onDev (fun d => (if d.fabricUp then d else d.hslTouch .hsl false).hslGivenUp) s)

/-- HSL_STALL (R49): after HSL_STALL_TO without a clock edge. -/
def execHslStall (s : State) : Host.Outcome State Fault Refusal :=
  .next (onDev (fun d =>
    if d.fabricUp then ((d.advance (100 * d.rdN Reg.HOST_HSL_STALL_TO)).inc Reg.HOST_HSL_ABORT).hslSilent else d) s)

/-! Ivyth frames (R51) -/

def ivyMagic : List Byte := [0x49#8, 0x56#8, 0x59#8, 0x01#8]

/-- The fields of a frame. -/
structure IvyFrame where
  kind : Nat
  slot : Nat
  ident : Nat
  seq : Nat
  body : List Byte
  tag : List Byte
  deriving DecidableEq, Repr

/-- A payload taken apart; `none` for one that is too short or long or has another MAGIC. -/
def ivyParse (bs : List Byte) : Option IvyFrame :=
  let n := bs.length
  if n < 48 ∨ n > 1472 ∨ bs.take 4 ≠ ivyMagic then none
  else some { kind := beNat (slice bs 4 1), slot := beNat (slice bs 5 1), ident := beNat (slice bs 6 2), seq := beNat (slice bs 8 8),
              body := slice bs 16 (n - 48), tag := bs.drop (n - 32) }

/-- A frame of the module, tagged under a key. -/
def ivyBuild (kind slot ident seq : Nat) (body key : List Byte) : List Byte :=
  let bs := ivyMagic ++ natBE 1 kind ++ natBE 1 slot ++ natBE 2 ident ++ natBE 8 seq ++ body
  bs ++ hmacSha256 key bs

/-- The TAG of a frame holds under a key. -/
def ivyTagged (bs : List Byte) (f : IvyFrame) (key : List Byte) : Bool := hmacSha256 key (bs.take (bs.length - 32)) = f.tag

/-- Ivyth runs: it is enabled, the port is up, and the firmware runs (R19, R62). -/
def Dev.ivyUp (d : Dev) : Bool := d.bit Reg.HOST_IVY_CTRL 0 && d.ethOn && d.mpRuns && d.fabricUp

/-- Discarded for authentication (R55). -/
def Dev.ivyAuthFail (d : Dev) : Dev := d.inc Reg.HOST_IVY_AUTH_FAIL

/-- Send a frame. -/
def Dev.ivySend (d : Dev) (bs : List Byte) : Dev := { d with fab := { d.fab with ivyOut := bs } }

/-! Sessions (R53 to R55, R61) -/

def Dev.session (d : Dev) (i : Nat) : Option IvySession := d.fab.sessions.getD i none

/-- Set a session; IVY_SESS shows the ones that are open. DESIGN CHOICE (log entry 174): its bits are the two places of sessions (the
Ivyth sessions 0 and 1 of R39), not the slots of pairing keys. -/
def Dev.setSession (d : Dev) (i : Nat) (x : Option IvySession) : Dev :=
  ({ d with fab := { d.fab with sessions := setAt d.fab.sessions i x } }).setBit Reg.HOST_IVY_SESS i (x.any (fun (y : IvySession) => y.confirmed))

/-- The session a frame names (R55). -/
def Dev.sessionOf (d : Dev) (ident : Nat) : Option (Nat × IvySession) :=
  [0, 1].findSome? (fun (i : Nat) => (d.session i).bind (fun x => if x.ident = ident then some (i, x) else none))

/-- Where a HELLO can open a session: a free place, else one that no CONFIRM has completed. -/
def Dev.sessionPlace (d : Dev) : Option Nat :=
  match [0, 1].find? (fun (i : Nat) => (d.session i).isNone) with
  | some i => some i
  | none => [0, 1].find? (fun (i : Nat) => (d.session i).any (fun (y : IvySession) => !y.confirmed))

/-- A new SESSION: the first from the identifier drawn on that is not 0 and names no other session. -/
def Dev.newIdent (d : Dev) (draw : Nat) : Nat :=
  match ([0, 1, 2, 3].map (fun (k : Nat) => (draw + k) % 65536)).find? (fun n => n ≠ 0 && (d.sessionOf n).isNone) with
  | some n => n
  | none => draw

/-- The session key (R53): over "IVY-S", both nonces and SESSION. -/
def sessionKey (pair nc nd : List Byte) (ident : Nat) : List Byte :=
  hmacSha256 pair ([0x49#8, 0x56#8, 0x59#8, 0x2D#8, 0x53#8] ++ nc ++ nd ++ natBE 2 ident)

/-- A HELLO (R53, R54). DESIGN CHOICE (log entry 174): one that is answered REJECT has passed its tests and counts in IVY_FRAMES. -/
def Dev.ivyHello (d : Dev) (bs : List Byte) (f : IvyFrame) : Dev :=
  let pair := if f.slot < 2 then d.fab.pairKeys.getD f.slot [] else []
  if pair = [] ∨ f.ident ≠ 0 ∨ f.body.length ≠ 16 ∨ ivyTagged bs f pair = false then d.ivyAuthFail
  else
    let d := d.inc Reg.HOST_IVY_FRAMES
    match d.sessionPlace with
    | none => d.ivySend (ivyBuild 0x21 f.slot 0 f.seq (natBE 1 (statusCode .busy)) pair)
    | some i =>
      let n := d.fab.nonceCnt
      let nd := natBE 16 (Config.sessionNonce n).toNat
      let d := d.setSession i none
      let ident := d.newIdent (Config.sessionIdent n).toNat
      let x : IvySession := { slot := f.slot, ident := ident, key := sessionKey pair f.body nd ident, confirmed := false, lastSeq := 0,
                              reqSeq := 0, reqTag := [], cached := [], lastTbm := d.tm.tbm }
      let d := { d with fab := { d.fab with nonceCnt := n + 1 } }
      (d.setSession i (some x)).ivySend (ivyBuild 0x02 f.slot ident f.seq nd pair)

/-- A frame of a session: known, and tagged under its key (R55). -/
def Dev.ivyKnown (d : Dev) (bs : List Byte) (f : IvyFrame) : Option (Nat × IvySession) :=
  (d.sessionOf f.ident).bind (fun p => if ivyTagged bs f p.2.key then some p else none)

/-- A frame is accepted: its SEQ, the instant, the count (R55, R61, R62). -/
def Dev.ivyAccept (d : Dev) (i : Nat) (x : IvySession) (f : IvyFrame) : Dev :=
  (d.inc Reg.HOST_IVY_FRAMES).setSession i (some { x with lastSeq := f.seq, lastTbm := d.tm.tbm })

/-- A CONFIRM (R53). -/
def Dev.ivyConfirm (d : Dev) (bs : List Byte) (f : IvyFrame) : Dev :=
  match d.ivyKnown bs f with
  | none => d.ivyAuthFail
  | some (i, x) =>
    if f.seq ≤ x.lastSeq then d.inc Reg.HOST_IVY_REPLAY
    else if x.confirmed || f.seq ≠ 1 then d
    else (d.ivyAccept i { x with confirmed := true } f).ivySend (ivyBuild 0x04 x.slot x.ident 1 [] x.key)

/-- A CLOSE (R61). -/
def Dev.ivyClose (d : Dev) (bs : List Byte) (f : IvyFrame) : Dev :=
  match d.ivyKnown bs f with
  | none => d.ivyAuthFail
  | some (i, x) =>
    if f.seq ≤ x.lastSeq then d.inc Reg.HOST_IVY_REPLAY else (d.inc Reg.HOST_IVY_FRAMES).setSession i none

/-! Requests (R56 to R59) -/

/-- An operation of a REQUEST. -/
structure IvyOp where
  op : Nat
  n : Nat
  addr : Nat
  data : List W32
  deriving DecidableEq, Repr

def ivyWrites (op : Nat) : Bool := op = 2 || op = 4

/-- The operations of a BODY, at most `fuel` of them; `none` where the bytes do not make whole operations. -/
def ivyOps : Nat → List Byte → Option (List IvyOp)
  | _, [] => some []
  | 0, _ => none
  | fuel + 1, bs =>
    let op := beNat (slice bs 0 1)
    let l := beNat (slice bs 1 1)
    let n := if l = 0 then 256 else l
    let size := if ivyWrites op then 4 * n else 0
    if bs.length < 8 + size then none
    else (ivyOps fuel (bs.drop (8 + size))).map
      (fun r => { op := op, n := n, addr := beNat (slice bs 4 4), data := wordsBE (slice bs 8 size) } :: r)

/-- The longest record an operation can make (R58). -/
def IvyOp.longest (o : IvyOp) : Nat := 4 + (if o.op = 1 ∨ o.op = 3 then 4 * o.n else 0)

/-- The requester that a session is (R39). -/
def ivyReq (i : Nat) : Requester := if i = 0 then .ivy0 else .ivy1

/-- One operation: its record and its status (R57, R58). -/
def ivyRun (req : Requester) (o : IvyOp) (s : State) : Status × List Byte × State :=
  let record (st : Status) (done : Nat) (data : List W32) : List Byte :=
    natBE 1 (statusCode st) ++ [0#8] ++ natBE 2 done ++ data.flatMap bytesBE
  if o.op = 1 ∨ o.op = 3 then
    let r := burstRead req o.addr o.n (o.op = 3) s
    (r.1, record r.1 r.2.1.length r.2.1, onDev (·.respond req o.addr r.1 r.2.1.length r.2.1) r.2.2)
  else if ivyWrites o.op then
    let r := burstWrite req o.addr o.data (o.op = 4) s
    (r.1, record r.1 r.2.1 [], onDev (·.respond req o.addr r.1 r.2.1 []) r.2.2)
  else (.addr, record .addr 0 [], onDev (·.respond req o.addr .addr 0 []) s)

/-- The operations in order, up to the first whose status is not OK: how many ran, their records, the state after (R57). -/
def ivyRunAll (req : Requester) : List IvyOp → State → Nat × List Byte × State
  | [], s => (0, [], s)
  | o :: r, s =>
    match ivyRun req o s with
    | (.ok, rec_, s) => let t := ivyRunAll req r s; (t.1 + 1, rec_ ++ t.2.1, t.2.2)
    | (_, rec_, s) => (1, rec_, s)

/-- The BODY of the RESPONSE and the state after the operations (R57 to R59). DESIGN CHOICE (log entry 174): a REQUEST that is rejected
whole executes no operation, so LAST_ERR and LAST_ERR_ADDR stay. -/
def ivyExecute (req : Requester) (body : List Byte) (s : State) : List Byte × State :=
  let reject (n : Nat) : List Byte × State :=
    (natBE 1 0 ++ natBE 1 n ++ natBE 2 0 ++ natBE 1 (statusCode .len) ++ [0#8] ++ natBE 2 0, onDev (·.fault pHOST fLEN) s)
  match ivyOps 32 body with
  | none => reject 0
  | some ops =>
    if ops = [] ∨ 4 + (ops.map IvyOp.longest).sum > 1424 then reject ops.length
    else
      let r := ivyRunAll req ops s
      (natBE 1 r.1 ++ natBE 1 ops.length ++ natBE 2 0 ++ r.2.1, r.2.2)

/-- A REQUEST (R55, R57): a repeated one is answered from the cache. DESIGN CHOICE (log entry 174): it is the same frame again and no
further accepted one, so it neither restarts IVY_IDLE nor counts in IVY_FRAMES. -/
def ivyRequest (bs : List Byte) (f : IvyFrame) (s : State) : State :=
  match s.dev.ivyKnown bs f with
  | none => onDev Dev.ivyAuthFail s
  | some (i, x) =>
    if !x.confirmed then onDev Dev.ivyAuthFail s
    else if f.seq ≤ x.lastSeq then
      if f.seq = x.reqSeq ∧ f.tag = x.reqTag then onDev (·.ivySend x.cached) s else onDev (·.inc Reg.HOST_IVY_REPLAY) s
    else
      let s := onDev (·.ivyAccept i x f) s
      let r := ivyExecute (ivyReq i) f.body s
      let out := ivyBuild 0x11 x.slot x.ident f.seq r.1 x.key
      onDev (fun d =>
        match d.session i with
        | none => d
        | some y => (d.setSession i (some { y with reqSeq := f.seq, reqTag := f.tag, cached := out })).ivySend out) r.2

/-- A frame of a TYPE that only the module sends, or of none (R55): it meets the same tests as every other, and then has no effect
(log entry 105). -/
def Dev.ivyOther (d : Dev) (bs : List Byte) (f : IvyFrame) : Dev :=
  match d.ivyKnown bs f with
  | none => d.ivyAuthFail
  | some (_, x) => if f.seq ≤ x.lastSeq then d.inc Reg.HOST_IVY_REPLAY else d

/-- A frame by its TYPE. -/
def ivyReceive (bs : List Byte) (s : State) : State :=
  if !s.dev.ivyUp then s
  else match ivyParse bs with
    | none => onDev Dev.ivyAuthFail s
    | some f =>
      match f.kind with
      | 0x01 => onDev (·.ivyHello bs f) s
      | 0x03 => onDev (·.ivyConfirm bs f) s
      | 0x10 => ivyRequest bs f s
      | 0x20 => onDev (·.ivyClose bs f) s
      | _ => onDev (·.ivyOther bs f) s

/-- IVY_HELLO, IVY_CONFIRM, IVY_REQUEST and IVY_CLOSE: a frame that arrives. -/
def execIvyHello (frame : List Byte) (s : State) : Host.Outcome State Fault Refusal := .next (ivyReceive frame s)
def execIvyConfirm (frame : List Byte) (s : State) : Host.Outcome State Fault Refusal := .next (ivyReceive frame s)
def execIvyRequest (frame : List Byte) (s : State) : Host.Outcome State Fault Refusal := .next (ivyReceive frame s)
def execIvyClose (frame : List Byte) (s : State) : Host.Outcome State Fault Refusal := .next (ivyReceive frame s)

/-- The module's own CLOSE of a session (R61): a frame under the session key, its SEQ one past the last accepted one. -/
def Dev.sendClose (d : Dev) (x : IvySession) : Dev :=
  if x.confirmed && d.ivyUp then d.ivySend (ivyBuild 0x20 x.slot x.ident (x.lastSeq + 1) [] x.key) else d

/-- IVY_IDLE_TIMEOUT (R61). DESIGN CHOICE (log entry 173): the module tells the client by a CLOSE of its own, which is the one occasion on
which it closes a session itself; a session that no CONFIRM has completed ends without one. -/
def execIvyIdleTimeout (session : Fin 2) (s : State) : Host.Outcome State Fault Refusal :=
  .next (onDev (fun d =>
    match d.session session with
    | none => d
    | some x => ((d.toTbm (x.lastTbm + d.rdN Reg.HOST_IVY_IDLE * 1000000000)).setSession session none).sendClose x) s)

end Sys2Proof.Machine
end

