-- ==== Sys2Proof/Machine/Dispatch.lean ====
section
/-! DEFINITION. One arm for each command: one direct call of its meaning, or its refusal by name. -/

namespace Sys2Proof.Machine

/-- The effect of a command on everything but the queue. -/
def exec (i : Instr) (s : State) : Host.Outcome State Fault Refusal :=
  match i with
  | .frameTurn env => Sys2Proof.Machine.execFrameTurn env s
  | .localTurn d => Sys2Proof.Machine.execLocalTurn d s
  | .gatherTimeout => Sys2Proof.Machine.execGatherTimeout s
  | .globalGo req => Sys2Proof.Machine.execGlobalGo req s
  | .sdeStage cycles => Sys2Proof.Machine.execSdeStage cycles s
  | .edsStage cycles => Sys2Proof.Machine.execEdsStage cycles s
  | .breakwaterAdmission cycles => Sys2Proof.Machine.execBreakwaterAdmission cycles s
  | .edgeCommit cycles badReadback => Sys2Proof.Machine.execEdgeCommit cycles badReadback s
  | .frameOverrun => Sys2Proof.Machine.execFrameOverrun s
  | .safeClose => Sys2Proof.Machine.execSafeClose s
  | .clockLoss d => Sys2Proof.Machine.execClockLoss d s
  | .clockRecovery d => Sys2Proof.Machine.execClockRecovery d s
  | .registerWrite req addr data => Sys2Proof.Machine.execRegisterWrite req addr data s
  | .turnArm req page => Sys2Proof.Machine.execTurnArm req page s
  | .turnDisarm req page => Sys2Proof.Machine.execTurnDisarm req page s
  | .pageLock req page => Sys2Proof.Machine.execPageLock req page s
  | .pageUnlock req page => Sys2Proof.Machine.execPageUnlock req page s
  | .irqSet req page mask => Sys2Proof.Machine.execIrqSet req page mask s
  | .irqAcknowledge req page mask => Sys2Proof.Machine.execIrqAcknowledge req page mask s
  | .readClear req addr => Sys2Proof.Machine.execReadClear req addr s
  | .wideLowRead req addr => Sys2Proof.Machine.execWideLowRead req addr s
  | .wideHighWrite req addr data => Sys2Proof.Machine.execWideHighWrite req addr data s
  | .wideLowWrite req addr data => Sys2Proof.Machine.execWideLowWrite req addr data s
  | .ts80NsRead req addr => Sys2Proof.Machine.execTs80NsRead req addr s
  | .transactionTimeout req addr => Sys2Proof.Machine.execTransactionTimeout req addr s
  | .hslRead cmd addr chk => Sys2Proof.Machine.execHslRead cmd addr chk s
  | .hslWrite cmd addr data chk => Sys2Proof.Machine.execHslWrite cmd addr data chk s
  | .hslReadFixed cmd addr chk => Sys2Proof.Machine.execHslReadFixed cmd addr chk s
  | .hslWriteFixed cmd addr data chk => Sys2Proof.Machine.execHslWriteFixed cmd addr data chk s
  | .hslAbort => Sys2Proof.Machine.execHslAbort s
  | .hslStall => Sys2Proof.Machine.execHslStall s
  | .ivyHello frame => Sys2Proof.Machine.execIvyHello frame s
  | .ivyConfirm frame => Sys2Proof.Machine.execIvyConfirm frame s
  | .ivyRequest frame => Sys2Proof.Machine.execIvyRequest frame s
  | .ivyClose frame => Sys2Proof.Machine.execIvyClose frame s
  | .ivyIdleTimeout session => Sys2Proof.Machine.execIvyIdleTimeout session s
  | .pairStore req => Sys2Proof.Machine.execPairStore req s
  | .pairErase req => Sys2Proof.Machine.execPairErase req s
  | .tbsRateSteer => Sys2Proof.Machine.execTbsRateSteer s
  | .incrWrite req data => Sys2Proof.Machine.execIncrWrite req data s
  | .adjWrite req data => Sys2Proof.Machine.execAdjWrite req data s
  | .tbnStepAdd req => Sys2Proof.Machine.execTbnStepAdd req s
  | .tbnLoad req => Sys2Proof.Machine.execTbnLoad req s
  | .tbnTimeout => Sys2Proof.Machine.execTbnTimeout s
  | .capNow req data => Sys2Proof.Machine.execCapNow req data s
  | .tbgLock fix => Sys2Proof.Machine.execTbgLock fix s
  | .tbgHoldover => Sys2Proof.Machine.execTbgHoldover s
  | .holdoverExpiry => Sys2Proof.Machine.execHoldoverExpiry s
  | .tbgReturn fix => Sys2Proof.Machine.execTbgReturn fix s
  | .tbgStep => Sys2Proof.Machine.execTbgStep s
  | .tbgSlewDone => Sys2Proof.Machine.execTbgSlewDone s
  | .ppsPulse => Sys2Proof.Machine.execPpsPulse s
  | .rtcLoad => Sys2Proof.Machine.execRtcLoad s
  | .stageWrite req data => Sys2Proof.Machine.execStageWrite req data s
  | .idiEmpty req => Sys2Proof.Machine.execIdiEmpty req s
  | .idiVerify req => Sys2Proof.Machine.execIdiVerify req s
  | .verificationComplete => Sys2Proof.Machine.execVerificationComplete s
  | .idiStore req => Sys2Proof.Machine.execIdiStore req s
  | .idiErase req => Sys2Proof.Machine.execIdiErase req s
  | .norOpComplete => Sys2Proof.Machine.execNorOpComplete s
  | .powerOnReset => Sys2Proof.Machine.execPowerOnReset s
  | .poseSample req tbase => Sys2Proof.Machine.execPoseSample req tbase s
  | .antShort port milliA => Sys2Proof.Machine.execAntShort port milliA s
  | .antBiasRetry port milliA => Sys2Proof.Machine.execAntBiasRetry port milliA s
  | .antOpen port milliA => Sys2Proof.Machine.execAntOpen port milliA s
  | .agcUpdate port ratio => Sys2Proof.Machine.execAgcUpdate port ratio s
  | .jobPush req data => Sys2Proof.Machine.execJobPush req data s
  | .acqFlush req data => Sys2Proof.Machine.execAcqFlush req data s
  | .acqJobEnd res => Sys2Proof.Machine.execAcqJobEnd res s
  | .acqResultRead req words => Sys2Proof.Machine.execAcqResultRead req words s
  | .tcStart req ch => Sys2Proof.Machine.execTcStart req ch s
  | .tcStop req ch => Sys2Proof.Machine.execTcStop req ch s
  | .trackingDump ch dump => Sys2Proof.Machine.execTrackingDump ch dump s
  | .tcPullInDone ch => Sys2Proof.Machine.execTcPullInDone ch s
  | .tcBitSync ch edge => Sys2Proof.Machine.execTcBitSync ch edge s
  | .tcFrameSync ch inverted start => Sys2Proof.Machine.execTcFrameSync ch inverted start s
  | .tcPreambleMiss ch => Sys2Proof.Machine.execTcPreambleMiss ch s
  | .tcLoss ch => Sys2Proof.Machine.execTcLoss ch s
  | .pullinTimeout ch => Sys2Proof.Machine.execPullinTimeout ch s
  | .measEpoch lagNs => Sys2Proof.Machine.execMeasEpoch lagNs s
  | .measRead req words => Sys2Proof.Machine.execMeasRead req words s
  | .navWord ch word bits missing => Sys2Proof.Machine.execNavWord ch word bits missing s
  | .navwRead req words => Sys2Proof.Machine.execNavwRead req words s
  | .baselineSnapshot snap => Sys2Proof.Machine.execBaselineSnapshot snap s
  | .navSolution sol => Sys2Proof.Machine.execNavSolution sol s
  | .integrityCheck lagNs => Sys2Proof.Machine.execIntegrityCheck lagNs s
  | .clkGateRelease => Sys2Proof.Machine.execClkGateRelease s
  | .acceptClock req => Sys2Proof.Machine.execAcceptClock req s
  | .clearAdvisory req => Sys2Proof.Machine.execClearAdvisory req s
  | .neapBurst burst => Sys2Proof.Machine.execNeapBurst burst s
  | .burstTableExpiry => Sys2Proof.Machine.execBurstTableExpiry s
  | .jobOpen req => Sys2Proof.Machine.execJobOpen req s
  | .jobLoad req => Sys2Proof.Machine.execJobLoad req s
  | .jobClose req => Sys2Proof.Machine.execJobClose req s
  | .jobDiscard req => Sys2Proof.Machine.execJobDiscard req s
  | .mapPaint => Sys2Proof.Machine.execMapPaint s
  | .pageInComplete tile readable => Sys2Proof.Machine.execPageInComplete tile readable s
  | .tileWriteBack tile readsBack => Sys2Proof.Machine.execTileWriteBack tile readsBack s
  | .mapScrub errs => Sys2Proof.Machine.execMapScrub errs s
  | .exportFull req => Sys2Proof.Machine.execExportFull req s
  | .exportSince req => Sys2Proof.Machine.execExportSince req s
  | .exportAbandon req => Sys2Proof.Machine.execExportAbandon req s
  | .exportPageRequest req page => Sys2Proof.Machine.execExportPageRequest req page s
  | .exportPageReady => Sys2Proof.Machine.execExportPageReady s
  | .tileImport req => Sys2Proof.Machine.execTileImport req s
  | .prescriptionSubmit req => Sys2Proof.Machine.execPrescriptionSubmit req s
  | .timelineSelect req ch => Sys2Proof.Machine.execTimelineSelect req ch s
  | .timelineRead req words => Sys2Proof.Machine.execTimelineRead req words s
  | .actionOn req => Sys2Proof.Machine.execActionOn req s
  | .actionOff req => Sys2Proof.Machine.execActionOff req s
  | .actionRate req => Sys2Proof.Machine.execActionRate req s
  | .actionRelease req => Sys2Proof.Machine.execActionRelease req s
  | .actionCancel req tag => Sys2Proof.Machine.execActionCancel req tag s
  | .positionExpiry => Sys2Proof.Machine.execPositionExpiry s
  | .latencySignature ch closing sigNs => Sys2Proof.Machine.execLatencySignature ch closing sigNs s
  | .diagStreamRead req words => Sys2Proof.Machine.execDiagStreamRead req words s
  | .edgeExecute ch => Sys2Proof.Machine.execEdgeExecute ch s
  | .boostEnd ch ttpNs energy => Sys2Proof.Machine.execBoostEnd ch ttpNs energy s
  | .ttpHigh ch => Sys2Proof.Machine.execTtpHigh ch s
  | .peakEnd ch ttpNs => Sys2Proof.Machine.execPeakEnd ch ttpNs s
  | .decayEnd ch afterNs => Sys2Proof.Machine.execDecayEnd ch afterNs s
  | .waitStart ch => Sys2Proof.Machine.execWaitStart ch s
  | .waitSlackExpiry ch => Sys2Proof.Machine.execWaitSlackExpiry ch s
  | .maxOnExpiry ch => Sys2Proof.Machine.execMaxOnExpiry ch s
  | .loadShort ch milliA => Sys2Proof.Machine.execLoadShort ch milliA s
  | .freewheelMissing ch => Sys2Proof.Machine.execFreewheelMissing ch s
  | .openLoadOn ch milliA => Sys2Proof.Machine.execOpenLoadOn ch milliA s
  | .openLoadOff ch => Sys2Proof.Machine.execOpenLoadOff ch s
  | .stuckOn ch milliA => Sys2Proof.Machine.execStuckOn ch milliA s
  | .senseDrift bank bankMA sumMA => Sys2Proof.Machine.execSenseDrift bank bankMA sumMA s
  | .tempPair tile tempA tempB => Sys2Proof.Machine.execTempPair tile tempA tempB s
  | .queueEccError ch => Sys2Proof.Machine.execQueueEccError ch s
  | .railReady rail microF => Sys2Proof.Machine.execRailReady rail microF s
  | .railNotReady rail centiV => Sys2Proof.Machine.execRailNotReady rail centiV s
  | .railFault rail why => Sys2Proof.Machine.execRailFault rail why s
  | .railClr req rail => Sys2Proof.Machine.execRailClr req rail s
  | .channelFaultClear req bank mask => Sys2Proof.Machine.execChannelFaultClear req bank mask s
  | .bankFaultClear req bank => Sys2Proof.Machine.execBankFaultClear req bank s
  | .tileClear req tile => Sys2Proof.Machine.execTileClear req tile s
  | .inrushWindowEnd ch => Sys2Proof.Machine.execInrushWindowEnd ch s
  | .inrushExcess ch milliA => Sys2Proof.Machine.execInrushExcess ch milliA s
  | .overload ch milliA => Sys2Proof.Machine.execOverload ch milliA s
  | .bankTrip bank bankMA samples clamped => Sys2Proof.Machine.execBankTrip bank bankMA samples clamped s
  | .bankReclose bank => Sys2Proof.Machine.execBankReclose bank s
  | .sortNodeTest bank bankMA => Sys2Proof.Machine.execSortNodeTest bank bankMA s
  | .sortStep bank bankMA chanMA => Sys2Proof.Machine.execSortStep bank bankMA chanMA s
  | .sortEnd bank => Sys2Proof.Machine.execSortEnd bank s
  | .lossHoldExpiry ch => Sys2Proof.Machine.execLossHoldExpiry ch s
  | .strobeLoss => Sys2Proof.Machine.execStrobeLoss s
  | .ledgerFlush ok => Sys2Proof.Machine.execLedgerFlush ok s
  | .ledgerSnapshot req => Sys2Proof.Machine.execLedgerSnapshot req s
  | .newSession req => Sys2Proof.Machine.execNewSession req s
  | .flushNow req => Sys2Proof.Machine.execFlushNow req s
  | .snapshotRead req words => Sys2Proof.Machine.execSnapshotRead req words s
  | .ledgerEccError ch => Sys2Proof.Machine.execLedgerEccError ch s
  | .loopSample loop => Sys2Proof.Machine.execLoopSample loop s
  | .loopEvaluation loop => Sys2Proof.Machine.execLoopEvaluation loop s
  | .evalMiss loop => Sys2Proof.Machine.execEvalMiss loop s
  | .loopClear req data => Sys2Proof.Machine.execLoopClear req data s
  | .soundingArm req mask => Sys2Proof.Machine.execSoundingArm req mask s
  | .soundingForce req mask => Sys2Proof.Machine.execSoundingForce req mask s
  | .soundingStop req mask => Sys2Proof.Machine.execSoundingStop req mask s
  | .soundingSelect req trace => Sys2Proof.Machine.execSoundingSelect req trace s
  | .soundingRead req words => Sys2Proof.Machine.execSoundingRead req words s
  | .hbKick req data => Sys2Proof.Machine.execHbKick req data s
  | .hostLost => Sys2Proof.Machine.execHostLost s
  | .continueExpiry => Sys2Proof.Machine.execContinueExpiry s
  | .mpKick req data => Sys2Proof.Machine.execMpKick req data s
  | .mpWatchdogExpiry => Sys2Proof.Machine.execMpWatchdogExpiry s
  | .mpRestart req => Sys2Proof.Machine.execMpRestart req s
  | .mpRelease req => Sys2Proof.Machine.execMpRelease req s
  | .mpRestartDone => Sys2Proof.Machine.execMpRestartDone s
  | .hostPinReset => Sys2Proof.Machine.execHostPinReset s
  | .softReset req => Sys2Proof.Machine.execSoftReset req s
  | .sysWatchdog => Sys2Proof.Machine.execSysWatchdog s
  | .powerFailWarning milliV => Sys2Proof.Machine.execPowerFailWarning milliV s
  | .powerFailFlushDone inTime => Sys2Proof.Machine.execPowerFailFlushDone inTime s
  | .powerFailRecovery => Sys2Proof.Machine.execPowerFailRecovery s
  | .outputArm req => Sys2Proof.Machine.execOutputArm req s
  | .outputDisarm req => Sys2Proof.Machine.execOutputDisarm req s
  | .recordIntake => Sys2Proof.Machine.execRecordIntake s
  | .suppressedSummary code => Sys2Proof.Machine.execSuppressedSummary code s
  | .bufferDrain outcome => Sys2Proof.Machine.execBufferDrain outcome s
  | .drainNow req => Sys2Proof.Machine.execDrainNow req s
  | .recNonce req => Sys2Proof.Machine.execRecNonce req s
  | .recAuth req => Sys2Proof.Machine.execRecAuth req s
  | .authComplete => Sys2Proof.Machine.execAuthComplete s
  | .clearComplete written => Sys2Proof.Machine.execClearComplete written s
  | .readStart req => Sys2Proof.Machine.execReadStart req s
  | .recordRead req words => Sys2Proof.Machine.execRecordRead req words s
  | .keyLoad req slot written => Sys2Proof.Machine.execKeyLoad req slot written s
  | .failureLogRead req words => Sys2Proof.Machine.execFailureLogRead req words s
  | .rateLimitWrite req index data => Sys2Proof.Machine.execRateLimitWrite req index data s
  | .powerEntry req => Sys2Proof.Machine.execPowerEntry req s
  | .powerEntrySequence => Sys2Proof.Machine.execPowerEntrySequence s
  | .wakeEvent src => Sys2Proof.Machine.execWakeEvent src s
  | .wakeExit => Sys2Proof.Machine.execWakeExit s
  | .measuredStartStage stage image valid => Sys2Proof.Machine.execMeasuredStartStage stage image valid s
  | .blobOpen req => Sys2Proof.Machine.execBlobOpen req s
  | .blobWrite req data => Sys2Proof.Machine.execBlobWrite req data s
  | .blobFinish req => Sys2Proof.Machine.execBlobFinish req s
  | .measExtend req which => Sys2Proof.Machine.execMeasExtend req which s
  | .reportRequest req => Sys2Proof.Machine.execReportRequest req s
  | .reportReady keyOk => Sys2Proof.Machine.execReportReady keyOk s
  | .reportRead req words => Sys2Proof.Machine.execReportRead req words s
  | .attConfirm req data => Sys2Proof.Machine.execAttConfirm req data s
  | .policySet req data => Sys2Proof.Machine.execPolicySet req data s
  | .canFrameReceive port frame => Sys2Proof.Machine.execCanFrameReceive port frame s
  | .canBusOff port => Sys2Proof.Machine.execCanBusOff port s
  | .canBusRecovery port => Sys2Proof.Machine.execCanBusRecovery port s
  | .canTxPush req port => Sys2Proof.Machine.execCanTxPush req port s
  | .canRxRead req port words => Sys2Proof.Machine.execCanRxRead req port words s
  | .cantxPeriodEnd port slot => Sys2Proof.Machine.execCantxPeriodEnd port slot s
  | .ethFrameReceive frame fcsOk => Sys2Proof.Machine.execEthFrameReceive frame fcsOk s
  | .ethTxPush req data => Sys2Proof.Machine.execEthTxPush req data s
  | .ethRxRead req words => Sys2Proof.Machine.execEthRxRead req words s
  | .linkChange up => Sys2Proof.Machine.execLinkChange up s
  | .ainScan samples => Sys2Proof.Machine.execAinScan samples s
  | .ainShuntReconnect input => Sys2Proof.Machine.execAinShuntReconnect input s
  | .finEdge input quadHigh => Sys2Proof.Machine.execFinEdge input quadHigh s
  | .imuTransaction port rx => Sys2Proof.Machine.execImuTransaction port rx s
  | .imuStale port => Sys2Proof.Machine.execImuStale port s
  | .timeMark pin rising => Sys2Proof.Machine.execTimeMark pin rising s
  | .timeMarkRead req words => Sys2Proof.Machine.execTimeMarkRead req words s
  | .vbatLow milliV => Sys2Proof.Machine.execVbatLow milliV s
  | .vbatRecovery milliV => Sys2Proof.Machine.execVbatRecovery milliV s
  | .latencyTableEccError ch => Sys2Proof.Machine.execLatencyTableEccError ch s
  | .supplyOutputLimit output => Sys2Proof.Machine.execSupplyOutputLimit output s
  | .canFrameSent port => Sys2Proof.Machine.execCanFrameSent port s
  | .powerLoss => Sys2Proof.Machine.execPowerLoss s
  | .ppsPulseEnd => Sys2Proof.Machine.execPpsPulseEnd s

end Sys2Proof.Machine
end

