-- ==== Sys2Proof/Machine/Step.lean ====
section
/-! DEFINITION. One step: the command at the front of the queue, or, on an empty queue, one CK_SYS cycle. -/

namespace Sys2Proof.Machine

/-- Take the command at the front of the queue and run it on the state with the rest; with none waiting a cycle of
CK_SYS passes (DESIGN CHOICE, assumption 1). -/
def step (s : State) : Host.Outcome State Fault Refusal :=
  match s.pending with
  | [] => .next (onDev (·.advance 1) s)
  | c :: rest => exec c { s with pending := rest }

/-- The state with the command that a word spells put in front of its queue. -/
def State.withFetchWord (s : State) (nbits w : Nat) : State :=
  match Sys2Proof.decodeTableWord nbits w with
  | some c => { s with pending := c :: s.pending }
  | none => s

end Sys2Proof.Machine
end

