-- ==== Sys2Proof/WellFormed.lean ====
section
/-! DEFINITION. The commands as the part brings them: the operands that are lists of samples have one for each input read. The
others run too: each sample they lack is a free value. -/

namespace Sys2Proof

/-- A command that gives every sample: a bank trip reads its eight channels (R318), a scan reads the 48 inputs (R480). -/
def Instr.wellFormed : Instr → Bool
  | .bankTrip _ _ samples _ => samples.length = 8
  | .ainScan samples => samples.length = 48
  | _ => true

end Sys2Proof
end

