-- ==== Sys2Proof/Safety.lean ====
section
/-! DEFINITION. What counts as a safe state and as a completed command, in the terms the statements use. -/

namespace Sys2Proof.Machine

/-! Host accesses -/

/-- The state in which an access is checked: over the HSL, an access to a parked module has acted as a wake source (R452). -/
def atFabric (req : Requester) (write : Bool) (s : State) : State := onDev (·.hslTouch req write) s

/-- A write of `v` at `a` passes the checks of the fabric (R28, R31, R36, R41). -/
abbrev Accepts (req : Requester) (a : Nat) (v : W32) (s : State) : Prop :=
  (atFabric req true s).dev.writeStatus req a v = .ok

/-- A read at `a` passes the checks of the fabric (R41). -/
abbrev Readable (req : Requester) (a : Nat) (s : State) : Prop := (atFabric req false s).dev.readStatus req a = .ok

/-- The answer that a requester has (R41, R42). -/
def answerTo (req : Requester) (t : State) : Resp := sget (fun _ => {}) t.dev.fab.resp (reqNo req)

/-- A write done: the requester is answered OK for one word. -/
def answeredOk (req : Requester) (a : Nat) (s : State) : State := onDev (·.respond req a .ok 1 []) s

/-- The state after an accepted write of one word that changes the part by `f` and nothing else. -/
def acceptedWrite (req : Requester) (a : Nat) (f : Dev → Dev) (s : State) : State :=
  answeredOk req a (onDev f (atFabric req true s))

/-- The state in which an access at `a` arrives in its clock domain: the commits whose strobe goes before it are active (R64, R68). -/
def arrived (a : Nat) (s : State) : State := onDev (·.strobed a) s

/-! Frames -/

/-- Nothing differs from `s` to `t` but register words, and what `blank` takes out of the part: the ledger memory, the record store and
the queue are those of `s`. -/
def differOnly (blank : Dev → Dev) (s t : State) : Prop :=
  blank { t.dev with regs := [] } = blank { s.dev with regs := [] } ∧ t.ldg = s.ldg ∧ t.rcd = s.rcd ∧ t.pending = s.pending

/-- Every register word but those listed reads as before. -/
def regsKept (except : List Nat) (s t : State) : Prop := ∀ a, a ∉ except → t.dev.rd a = s.dev.rd a

/-! What every step keeps -/

/-- The identity of R352 for one entry: what was requested is what was delivered, is in flight, or lies in an account. -/
def LedgerEntry.Balanced (e : LedgerEntry) : Prop :=
  (e.req : Int) = e.del + e.infl + e.late + e.budget + e.thermal + e.fault + e.overlap + e.host + e.reset + e.track

/-- Every entry of a book balances. -/
def LedgerBook.Balanced (b : LedgerBook) : Prop := ∀ p ∈ b.entries, p.2.Balanced

/-- The ledger's memory: the book as booked, the flush that waits, the two slots of the record store, and the snapshot. -/
def Ledgers.Balanced (l : Ledgers) : Prop :=
  l.book.Balanced ∧ (∀ x, l.flushing = some x → x.book.Balanced) ∧ (∀ x, some x ∈ l.slots → x.book.Balanced)
    ∧ (∀ b, l.snap = some b → b.Balanced)

/-- Every record that the store or the buffer holds, the power-fail area included. -/
def RecStore.held (r : RecStore) : List Record :=
  r.ring.flatMap (·.recs) ++ r.kept ++ r.undrained ++ (match r.pf with | some a => a.recs | none => [])

/-- Record numbers (R428): every record held has a SEQ below the next, which lies within the reserved block, and the undrained records
stand in rising SEQ. -/
def RecStore.Numbered (r : RecStore) : Prop :=
  (∀ x ∈ r.held, x.seq < r.nextSeq) ∧ r.nextSeq ≤ r.reserved ∧ r.undrained.Pairwise (fun x y => x.seq < y.seq)

end Sys2Proof.Machine
end

