-- ==== Sys2Proof/Certificates/Slice0/Obligations.lean ====
section
/-! DEFINITION. The statements for the provers. -/

open Sys2Proof Sys2Proof.Machine

/-- A step runs the command at the front of the queue; with none waiting, one CK_SYS cycle passes (the model's choice, log entry 1). For every command c and state s, a step of s with c at the front of its queue is exec c on s with the rest of the queue. On an empty queue a step answers a next state; while CK_SYS runs TB-M has gained 10 ns and TB-S what its rate correction gives a cycle; while CK_SYS is stopped both read what the whole CK_AON periods since it stopped, one cycle's time later, give. Nothing but the time bases has changed: no register, ledger entry or record. (00_scope.md, 02_register_pages_and_host_link.md, 04_time_bases.md) Where it rests on log entries 1, 192, that part is the model's choice and no rule of the spec. -/
def Obligations.StepRunsTheFront : Prop :=
  (∀ (c : Instr) (rest : List Instr) (s : State), step { s with pending := c :: rest } = exec c { s with pending := rest })
    ∧ (∀ s : State, s.pending = [] → ∃ t, step s = .next t
      ∧ (s.dev.powerState ≤ 1 → t.dev.tm.tbm = s.dev.tm.tbm + 10
          ∧ t.dev.tm.tbsP = s.dev.tm.tbsP + (10 * (1000000000 + s.dev.rdI Reg.TIME_TBS_PPB)).toNat)
      ∧ (1 < s.dev.powerState → t.dev.tm.aon = s.dev.tm.aon + 640
          ∧ t.dev.tm.tbm = s.dev.tm.parkM + (s.dev.tm.aon + 640) / 1953125 * 1953125 / 64
          ∧ t.dev.tm.tbsP = s.dev.tm.parkS + (s.dev.tm.aon + 640) / 1953125 * 1953125
              * (10 * (1000000000 + s.dev.rdI Reg.TIME_TBS_PPB)).toNat / 640)
      ∧ t = { s with dev := { s.dev with tm := t.dev.tm } })

/-- No command touches the queue of those that wait. For every command and every state, where exec answers a next state the queue of waiting commands in it is the queue before. (00_scope.md, 02_register_pages_and_host_link.md) -/
def Obligations.QueueIsKept : Prop :=
  ∀ (c : Instr) (s t : State), exec c s = .next t → t.pending = s.pending

/-- Every command in every state answers a next state, with the ledger's and the records' invariants kept. exec answers a next state for every command in every state, whatever its operands are, lists with missing samples among them: it neither faults nor refuses. Where the ledger balances and the records are numbered before, they are after. (00_scope.md, 12_protected_switch_channels.md, 20_networks_and_sensor_inputs.md) Where it rests on log entry 3, that part is the model's choice and no rule of the spec. -/
def Obligations.EveryCommandCompletes : Prop :=
  ∀ (c : Instr) (s : State), ∃ t, exec c s = .next t
    ∧ (s.ldg.Balanced → t.ldg.Balanced) ∧ (s.rcd.Numbered → t.rcd.Numbered)

/-- What power-on reset leaves; it meets the invariants that every step keeps. At reset the module is in RUN, unlocked and disarmed on every page, TBG_STATE is NONE, the time bases and record numbers are 0, no command waits, nothing is committed, stored or booked, and the register words read the reset values of the spec: TF_SEL, GATHER_MAX, OVR_HOLD, TBN_TIMEOUT, HOLDOVER_MAX, SUMM_PERIOD, HSL_STALL_TO and the increment of TB-N. The ledger balances and the records are numbered. (02_register_pages_and_host_link.md, 03_frames_turns_and_clock_domains.md, 14_application_ledger_and_fault_coverage.md, 17_strata_recorder.md, 18_power_ladder.md) Where it rests on log entries 115, 135, 168, that part is the model's choice and no rule of the spec. -/
def Obligations.ResetState : Prop :=
  State.reset.dev.powerState = 0 ∧ State.reset.dev.tbgState = tbgNone ∧ State.reset.dev.tm = {} ∧ State.reset.pending = []
    ∧ State.reset.dev.pend = [] ∧ State.reset.dev.cross = [] ∧ State.reset.ldg = {} ∧ State.reset.rcd = {}
    ∧ (∀ p ∈ allPages, State.reset.dev.locked p = false ∧ State.reset.dev.bit (Reg.TURN_ARM p) 0 = false)
    ∧ State.reset.dev.rd64 Reg.TIME1_INCR = 0xA00000000 ∧ State.reset.dev.rdN Reg.FRM_TF_SEL = 1
    ∧ State.reset.dev.rdN Reg.FRM_GATHER_MAX = 2000 ∧ State.reset.dev.rdN Reg.FRM_OVR_HOLD = 2
    ∧ State.reset.dev.rdN Reg.TIME1_TBN_TIMEOUT = 5000 ∧ State.reset.dev.rdN Reg.TIME_HOLDOVER_MAX = 3600
    ∧ State.reset.dev.rdN Reg.REC_SUMM_PERIOD = 10 ∧ State.reset.dev.rdN Reg.HOST_HSL_STALL_TO = 1000
    ∧ State.reset.ldg.Balanced ∧ State.reset.rcd.Numbered

/-- The register file keeps what is written, word by word, in one canonical form. A word written reads back, every other word of the whole address space is unchanged, the form of the register file (addresses strictly rising, no entry at its reset value) is kept, a file in that form is determined by what its words read, and the register file at reset has the form. (02_register_pages_and_host_link.md) -/
def Obligations.RegisterFile : Prop :=
  (∀ (d : Dev) (a b : Nat) (v : W32), (d.wr a v).rd b = if b = a then v else d.rd b)
    ∧ (∀ (d : Dev) (a : Nat) (v : W32), swf resetWord d.regs = true → swf resetWord (d.wr a v).regs = true)
    ∧ (∀ d e : Dev, swf resetWord d.regs = true → swf resetWord e.regs = true → (∀ a, d.rd a = e.rd a) → d.regs = e.regs)
    ∧ swf resetWord State.reset.dev.regs = true

/-- Writes to the page header, and the captures of an acknowledgement and of CAP_NOW. An accepted TURN_ARM, TURN_DISARM, PAGE_LOCK, PAGE_UNLOCK or IRQ_SET completes with status OK and changes one register word of its page: TURN_ARM to 1 or 0, LOCK to 1 or 0, or IRQ_RAW with the written defined bits set; but for the answer, and a wake source where the link of a parked module was touched, nothing else in the state changes. (The state before is the one in which the access arrives, behind the strobe of any commit on its way.) An accepted IRQ_ACKNOWLEDGE that clears a bit, and an accepted CAP_NOW, in a cycle with no other capture or step of TB-N, complete; CAP_TBS, CAP_TBN and CAP_STEP_CNT then read TB-S, TB-N and TBN_STEP_CNT as they stood, CAP_SRC the requester and the page (0xFFFF for CAP_NOW), CAP_SEQ one more, IRQ_RAW.CAP is set, and the acknowledged bits of another page are clear; an acknowledgement that clears no bit changes no register. No other register changes, nor the time bases, the ledger and the record store. (02_register_pages_and_host_link.md, 04_time_bases.md) Where it rests on log entries 99, 111, 191, that part is the model's choice and no rule of the spec. -/
def Obligations.HeaderWritesAndCaptures : Prop :=
  ∀ (req : Requester) (page : Fin 256) (mask v : W32) (s0 : State),
    let s := arrived (Reg.IRQ_RAW page) s0;
    let fresh (s : State) : Prop :=
      (∀ x, s.dev.tm.capAt = some x → x.1 ≠ s.dev.tm.tbm) ∧ (∀ x, s.dev.tm.preStep = some x → x.1 ≠ s.dev.tm.tbm)
    let captured (src : Nat) (s t : State) : Prop :=
      t.dev.rd64 Reg.TIME1_CAP_TBS = s.dev.tbs % 2 ^ 64
        ∧ [t.dev.rd Reg.TIME1_CAP_TBN_NS, t.dev.rd (Reg.TIME1_CAP_TBN_NS + 4), t.dev.rd (Reg.TIME1_CAP_TBN_NS + 8)] = ts80Words s.dev.tbn
        ∧ t.dev.rd Reg.TIME1_CAP_STEP_CNT = s.dev.rd Reg.TIME1_TBN_STEP_CNT
        ∧ t.dev.rdN Reg.TIME1_CAP_SRC = reqNo req * 2 ^ 24 + src
        ∧ t.dev.rd Reg.TIME1_CAP_SEQ = s.dev.rd Reg.TIME1_CAP_SEQ + 1#32
        ∧ t.dev.bit (Reg.IRQ_RAW pTIME1) 17 = true
        ∧ answerTo req t = ⟨.ok, 1, []⟩ ∧ t.dev.tm = { s.dev.tm with capAt := some (s.dev.tm.tbm, req) } ∧ t.ldg = s.ldg ∧ t.rcd = s.rcd
        ∧ t.dev.drv = s.dev.drv
    let others (t : State) : Prop := ∀ a, a ∉ [Reg.TIME1_CAP_TBS, Reg.TIME1_CAP_TBS + 4, Reg.TIME1_CAP_TBN_NS, Reg.TIME1_CAP_TBN_NS + 4,
        Reg.TIME1_CAP_TBN_NS + 8, Reg.TIME1_CAP_STEP_CNT, Reg.TIME1_CAP_SRC, Reg.TIME1_CAP_SEQ, Reg.IRQ_RAW pTIME1, Reg.IRQ_RAW page] →
      t.dev.rd a = s.dev.rd a
    (Accepts req (Reg.IRQ_RAW page) mask s → s.dev.rd (Reg.IRQ_RAW page) &&& mask ≠ 0#32 → fresh s →
      ∃ t, exec (.irqAcknowledge req page mask) s0 = .next t ∧ captured page.val s t ∧ others t
        ∧ (page.val ≠ pTIME1 → t.dev.rd (Reg.IRQ_RAW page) = s.dev.rd (Reg.IRQ_RAW page) &&& ~~~mask))
    ∧ (Accepts req (Reg.IRQ_RAW page) mask s → s.dev.rd (Reg.IRQ_RAW page) &&& mask = 0#32 →
      exec (.irqAcknowledge req page mask) s0 = .next (acceptedWrite req (Reg.IRQ_RAW page) id s))
    ∧ (Accepts req Reg.TIME1_CAP_NOW v s0 → fresh s0 →
      ∃ t, exec (.capNow req v) s0 = .next t ∧ captured 0xFFFF s0 t
        ∧ ∀ a, a ∉ [Reg.TIME1_CAP_TBS, Reg.TIME1_CAP_TBS + 4, Reg.TIME1_CAP_TBN_NS, Reg.TIME1_CAP_TBN_NS + 4,
            Reg.TIME1_CAP_TBN_NS + 8, Reg.TIME1_CAP_STEP_CNT, Reg.TIME1_CAP_SRC, Reg.TIME1_CAP_SEQ, Reg.IRQ_RAW pTIME1] →
          t.dev.rd a = s0.dev.rd a)
    ∧ (Accepts req (Reg.TURN_ARM page) 1#32 s →
      exec (.turnArm req page) s0 = .next (acceptedWrite req (Reg.TURN_ARM page) (·.wr (Reg.TURN_ARM page) 1#32) s))
    ∧ (Accepts req (Reg.TURN_ARM page) 0#32 s →
      exec (.turnDisarm req page) s0 = .next (acceptedWrite req (Reg.TURN_ARM page) (·.wr (Reg.TURN_ARM page) 0#32) s))
    ∧ (Accepts req (Reg.LOCK page) 0x4C4F434B#32 s →
      exec (.pageLock req page) s0 = .next (acceptedWrite req (Reg.LOCK page) (·.wr (Reg.LOCK page) 1#32) s))
    ∧ (Accepts req (Reg.LOCK page) 0x554E4C4B#32 s →
      exec (.pageUnlock req page) s0 = .next (acceptedWrite req (Reg.LOCK page) (·.wr (Reg.LOCK page) 0#32) s))
    ∧ (Accepts req (Reg.IRQ_SET page) mask s →
      exec (.irqSet req page mask) s0 = .next (acceptedWrite req (Reg.IRQ_SET page)
        (fun d => d.wr (Reg.IRQ_RAW page) (d.rd (Reg.IRQ_RAW page) ||| (mask &&& irqMask page))) s))

/-- A register write goes to the copy that its access code names. An accepted write to a word of a register map that is no header word, command register or 64-bit register completes with status OK. RWT: the pending copy takes the defined bits and every active copy stays. RW and WO: the active copy takes the defined bits, keeps the others, and every pending copy's list stays. RO, RC and W1C beside the header: the write is ignored. No other pending or active word changes. (02_register_pages_and_host_link.md) Where it rests on log entries 99, 100, 104, that part is the model's choice and no rule of the spec. -/
def Obligations.PendingAndActiveCopies : Prop :=
  ∀ (req : Requester) (a : Nat) (v : W32) (s0 : State) (h : RegHit), let s := arrived a s0;
    Accepts req a v s → findReg a = some h → inStore a = false → (a < 0x00100000 → 0x44 ≤ a % 0x1000 ∧ (commandOf req a v).isNone = true) →
    h.row.wide = false →
    ∃ t, exec (.registerWrite req a v) s0 = .next t ∧ answerTo req t = ⟨.ok, 1, []⟩
      ∧ (h.row.acc = .rwt → t.dev.pending a = v &&& maskOf a ∧ (∀ b, b ≠ a → t.dev.pending b = s.dev.pending b) ∧ t.dev.regs = s.dev.regs)
      ∧ (h.row.acc = .rw ∨ h.row.acc = .wo → t.dev.rd a = (s.dev.rd a &&& ~~~(maskOf a)) ||| (v &&& maskOf a)
          ∧ (∀ b, b ≠ a → t.dev.rd b = s.dev.rd b) ∧ t.dev.pend = s.dev.pend)
      ∧ (h.row.acc = .ro ∨ h.row.acc = .rc ∨ h.row.acc = .w1c → t.dev.regs = s.dev.regs ∧ t.dev.pend = s.dev.pend)
      ∧ t.ldg = s.ldg ∧ t.rcd = s.rcd ∧ t.dev.tm = s.dev.tm ∧ t.dev.drv = s.dev.drv ∧ t.dev.cross = s.dev.cross ∧ t.dev.rcf = s.dev.rcf

/-- A 64-bit register is written high word first, and the low word commits both. An accepted write of the high word of a 64-bit register is held for its requester and leaves every active and pending copy; the low word then written by the same requester puts both words, and another requester's held word is not touched. (02_register_pages_and_host_link.md) Where it rests on log entry 104, that part is the model's choice and no rule of the spec. -/
def Obligations.WideRegisters : Prop :=
  ∀ (req other : Requester) (a : Nat) (hi lo : W32) (s0 : State) (x y : RegHit),
    (let s := arrived (a + 4) s0;
      Accepts req (a + 4) hi s → findReg (a + 4) = some x → x.row.wide = true → x.word = 1 → writable x.row.acc = true →
      inStore (a + 4) = false → ((a + 4) < 0x00100000 → 0x44 ≤ (a + 4) % 0x1000 ∧ (commandOf req (a + 4) hi).isNone = true) →
      ∃ t, exec (.wideHighWrite req (a + 4) hi) s0 = .next t ∧ answerTo req t = ⟨.ok, 1, []⟩
        ∧ t.dev.heldHigh req (a + 4) = hi ∧ t.dev.regs = s.dev.regs ∧ t.dev.pend = s.dev.pend
        ∧ t.ldg = s.ldg ∧ t.rcd = s.rcd ∧ t.dev.drv = s.dev.drv)
    ∧ (let s := arrived a s0;
      Accepts req a lo s → findReg a = some y → y.row.wide = true → y.word = 0 → y.row.acc = .rw → a ≠ Reg.TIME1_INCR →
      inStore a = false → (a < 0x00100000 → 0x44 ≤ a % 0x1000 ∧ (commandOf req a lo).isNone = true) →
      (∃ z, findReg (a + 4) = some z ∧ z.row = y.row) → y.row.mask = 0xFFFFFFFF →
      ∃ t, exec (.wideLowWrite req a lo) s0 = .next t ∧ answerTo req t = ⟨.ok, 1, []⟩
        ∧ t.dev.rd a = lo ∧ t.dev.rd (a + 4) = s.dev.heldHigh req (a + 4)
        ∧ (∀ b, b ≠ a → b ≠ a + 4 → t.dev.rd b = s.dev.rd b) ∧ t.dev.pend = s.dev.pend
        ∧ (other ≠ req → sfind t.dev.fab.held (shadowKey other (a + 4)) = sfind s.dev.fab.held (shadowKey other (a + 4)))
        ∧ t.ldg = s.ldg ∧ t.rcd = s.rcd ∧ t.dev.drv = s.dev.drv)

/-- Reads: an RC register clears, a low word latches its high word, a TS80 nanosecond word latches its seconds, and a timed-out transaction returns nothing. A READ_CLEAR of an RC word without a shadow completes, answers the word as it was and leaves it 0; WIDE_LOW_READ answers the low word and holds the high word of the same instant in the requester's shadow; TS80_NS_READ answers the nanoseconds and holds both seconds words; TRANSACTION_TIMEOUT answers status TIMEOUT with no data and changes no register but the two of the last error. No other register, no time base, ledger or record changes. (02_register_pages_and_host_link.md, 04_time_bases.md) Where it rests on log entries 5, 9, that part is the model's choice and no rule of the spec. -/
def Obligations.ReadsAndTheirEffects : Prop :=
  ∀ (req : Requester) (a : Nat) (s0 : State) (h : RegHit), let s := arrived a s0;
    (Readable req a s → sfind s.dev.fab.shadow (shadowKey req a) = none → portOf a = none → s.dev.wordsAhead a ≠ 0 → latchedWords a = [] →
      findReg a = some h → h.row.acc = .rc → (a < 0x00100000 → a % 0x1000 ≠ 0x14) →
      ∃ t, exec (.readClear req a) s0 = .next t ∧ answerTo req t = ⟨.ok, 1, [(atFabric req false s).view a]⟩ ∧ t.dev.rd a = 0#32
        ∧ (∀ b, b ≠ a → t.dev.rd b = s.dev.rd b) ∧ t.ldg = s.ldg ∧ t.rcd = s.rcd ∧ t.dev.tm = s.dev.tm)
    ∧ (Readable req a s → sfind s.dev.fab.shadow (shadowKey req a) = none → portOf a = none → s.dev.wordsAhead a ≠ 0 → latchedWords a = [a + 4] →
      findReg a = some h → h.row.acc ≠ .rc → (a < 0x00100000 → a % 0x1000 ≠ 0x14) →
      ∃ t, exec (.wideLowRead req a) s0 = .next t ∧ answerTo req t = ⟨.ok, 1, [(atFabric req false s).view a]⟩
        ∧ sfind t.dev.fab.shadow (shadowKey req (a + 4)) = some ((atFabric req false s).view (a + 4))
        ∧ t.dev.regs = s.dev.regs ∧ t.ldg = s.ldg ∧ t.rcd = s.rcd ∧ t.dev.tm = s.dev.tm)
    ∧ (∀ b ∈ [Reg.TIME_TBG_NS, Reg.TIME1_TBN_NS, Reg.TIME1_CAP_TBN_NS, Reg.TIME1_SET_NS, Reg.LDG_LOSS_FROM_NS, Reg.LDG_LOSS_TO_NS],
      let s := arrived b s0;
      Readable req b s → sfind s.dev.fab.shadow (shadowKey req b) = none →
      ∃ t, exec (.ts80NsRead req b) s0 = .next t ∧ answerTo req t = ⟨.ok, 1, [(atFabric req false s).view b]⟩
        ∧ sfind t.dev.fab.shadow (shadowKey req (b + 4)) = some ((atFabric req false s).view (b + 4))
        ∧ sfind t.dev.fab.shadow (shadowKey req (b + 8)) = some ((atFabric req false s).view (b + 8))
        ∧ t.dev.regs = s.dev.regs ∧ t.ldg = s.ldg ∧ t.rcd = s.rcd ∧ t.dev.tm = s.dev.tm)
    ∧ (∃ t, exec (.transactionTimeout req a) s0 = .next t ∧ answerTo req t = ⟨.timeout, 0, []⟩
        ∧ (∀ b, b ∉ [Reg.HOST_LAST_ERR, Reg.HOST_LAST_ERR_ADDR] → t.dev.rd b = s0.dev.rd b) ∧ t.ldg = s0.ldg ∧ t.rcd = s0.rcd ∧ t.dev.tm = s0.dev.tm)

/-- A write that the fabric refuses writes nothing. A write that does not pass its checks completes with its status and zero words. LEVEL sets FAULT.LEVEL of the target page, LOCKW sets FAULT.LOCKW, LEN sets FAULT.LEN and counts LEN_REJ, saturating. But for those bits, the page's raw fault interrupt, the last error and the abort count of a parked link, no register changes, and no pending copy, time base, channel, ledger entry or record does. (02_register_pages_and_host_link.md) Where it rests on log entries 5, 110, 172, that part is the model's choice and no rule of the spec. -/
def Obligations.RefusedWrites : Prop :=
  ∀ (req : Requester) (a : Nat) (v : W32) (s0 : State) (st : Status), let s := arrived a s0;
    (atFabric req true s).dev.writeStatus req a v = st → st ≠ .ok →
    ∃ t, exec (.registerWrite req a v) s0 = .next t ∧ answerTo req t = ⟨st, 0, []⟩
      ∧ (st = .level → t.dev.bit (Reg.FAULT (targetPage a)) 2 = true)
      ∧ (st = .lockw → t.dev.bit (Reg.FAULT (targetPage a)) 1 = true)
      ∧ (st = .len → t.dev.bit (Reg.FAULT (targetPage a)) 0 = true
          ∧ t.dev.rd (Reg.LEN_REJ (targetPage a)) = sat32 (s.dev.rdN (Reg.LEN_REJ (targetPage a)) + 1))
      ∧ (∀ b, b ∉ [Reg.HOST_LAST_ERR, Reg.HOST_LAST_ERR_ADDR, Reg.HOST_HSL_ABORT, Reg.FAULT (targetPage a), Reg.IRQ_RAW (targetPage a),
            Reg.LEN_REJ (targetPage a)] → t.dev.rd b = s.dev.rd b)
      ∧ t.dev.pend = s.dev.pend ∧ t.dev.tm = s.dev.tm ∧ t.dev.drv = s.dev.drv ∧ t.dev.rcf = s.dev.rcf ∧ t.ldg = s.ldg ∧ t.rcd = s.rcd

/-- When a write is refused: the fabric asleep, no such address, a locked page, the expert range at the basic level. A write meets TIMEOUT while the fabric does not answer, ADDR where nothing is mapped or the address is not a multiple of 4, LEVEL in the expert range of a page whose pending MODE is basic, and LOCKW on a locked page at every register but LOCK, FAULT and IRQ_RAW, whichever comes first in that order, authorisation before the last two. (02_register_pages_and_host_link.md) Where it rests on log entries 5, 45, 110, that part is the model's choice and no rule of the spec. -/
def Obligations.LockedAndAbsent : Prop :=
  ∀ (req : Requester) (a : Nat) (v : W32) (d : Dev),
    (d.fabricUp = false → d.writeStatus req a v = .timeout)
    ∧ (d.fabricUp = true → addrExists a = false → d.writeStatus req a v = .addr)
    ∧ (d.fabricUp = true → a % 4 ≠ 0 → d.writeStatus req a v = .addr)
    ∧ (d.fabricUp = true → addrExists a = true → authFails req a = false → ivyWriteFails req a = false → d.geoFails req a = false →
        ∀ p, p < 256 → a / 0x1000 = p → 0x400 ≤ a % 0x1000 → a % 0x1000 < 0xF00 → req ≠ .mp →
          bitOf (d.pending (Reg.MODE (modePage p))) 0 = false → d.writeStatus req a v = .level)
    ∧ (d.fabricUp = true → addrExists a = true → authFails req a = false → ivyWriteFails req a = false → d.geoFails req a = false →
        d.levelFails req a = false → d.rd (Reg.LOCK (targetPage a)) ≠ 0#32 →
        (a < 0x00100000 → a % 0x1000 ≠ 0x38 ∧ a % 0x1000 ≠ 0x18 ∧ a % 0x1000 ≠ 0x20) → d.writeStatus req a v = .lockw)

/-- Transactions of the host serial link: reads and writes with their check words. While the fabric answers and the host check word holds, READ and READ_FIXED run a burst of reads and WRITE and WRITE_FIXED a burst of writes at the address of the transaction, and drive a status word with the same TAG, the status and the words done, the data and a check word, counting the transaction in HSL_FRAMES; a burst of one word at a register that is no port answers that word. A transaction whose host check word fails executes nothing: status CRC with DONE = 0, one more HSL_CRC_ERR. (02_register_pages_and_host_link.md) Where it rests on log entries 5, 101, 102, 103, 172, 175, that part is the model's choice and no rule of the spec. -/
def Obligations.HslTransactions : Prop :=
  ∀ (cmd addr : W32) (chk : HslCheck) (data : List W32) (s : State),
    (chk.cut = none → s.dev.fabricUp = true → checkOk [cmd, addr] chk.word = true → cmdOp cmd = 1 →
      exec (.hslRead cmd addr chk) s = .next (
        let r := burstRead .hsl addr.toNat (cmdLen cmd) false (atFabric .hsl false s)
        onDev (·.hslEnd cmd addr.toNat r.1 r.2.1.length r.2.1) r.2.2))
    ∧ (chk.cut = none → s.dev.fabricUp = true → checkOk [cmd, addr] chk.word = true → cmdOp cmd = 3 →
      exec (.hslReadFixed cmd addr chk) s = .next (
        let r := burstRead .hsl addr.toNat (cmdLen cmd) true (atFabric .hsl false s)
        onDev (·.hslEnd cmd addr.toNat r.1 r.2.1.length r.2.1) r.2.2))
    ∧ (chk.cut = none → s.dev.fabricUp = true → checkOk (cmd :: addr :: data) chk.word = true → data.length = cmdLen cmd → cmdOp cmd = 2 →
      exec (.hslWrite cmd addr data chk) s = .next (
        let r := burstWrite .hsl addr.toNat data false (atFabric .hsl true s)
        onDev (·.hslEnd cmd addr.toNat r.1 r.2.1 []) r.2.2))
    ∧ (chk.cut = none → s.dev.fabricUp = true → checkOk (cmd :: addr :: data) chk.word = true → data.length = cmdLen cmd → cmdOp cmd = 4 →
      exec (.hslWriteFixed cmd addr data chk) s = .next (
        let r := burstWrite .hsl addr.toNat data true (atFabric .hsl true s)
        onDev (·.hslEnd cmd addr.toNat r.1 r.2.1 []) r.2.2))
    ∧ (chk.cut = none → s.dev.fabricUp = true → checkOk [cmd, addr] chk.word = true → cmdOp cmd = 1 → cmdLen cmd = 1 →
      (let u := arrived addr.toNat (atFabric .hsl false s);
        u.dev.readStatus .hsl addr.toNat = .ok → portOf addr.toNat = none → u.dev.wordsAhead addr.toNat ≠ 0 →
        sfind u.dev.fab.shadow (shadowKey .hsl addr.toNat) = none →
        ∃ t, exec (.hslRead cmd addr chk) s = .next t ∧ t.dev.fab.hslOut = hslAnswer cmd .ok 1 [u.view addr.toNat]))
    ∧ (chk.cut = none → s.dev.fabricUp = true → checkOk [cmd, addr] chk.word = false →
      ∃ t, exec (.hslRead cmd addr chk) s = .next t ∧ t.dev.fab.hslOut = hslAnswer cmd .crc 0 []
        ∧ t.dev.rd Reg.HOST_HSL_CRC_ERR = s.dev.rd Reg.HOST_HSL_CRC_ERR + 1#32
        ∧ (∀ a, a ∉ [Reg.HOST_HSL_CRC_ERR, Reg.HOST_HSL_FRAMES, Reg.HOST_LAST_ERR, Reg.HOST_LAST_ERR_ADDR] → t.dev.rd a = s.dev.rd a)
        ∧ t.dev.pend = s.dev.pend ∧ t.ldg = s.ldg ∧ t.rcd = s.rcd ∧ t.dev.drv = s.dev.drv)
    ∧ (chk.cut = none → s.dev.fabricUp = true → data.length = cmdLen cmd → checkOk (cmd :: addr :: data) chk.word = false →
      ∃ t, exec (.hslWrite cmd addr data chk) s = .next t ∧ t.dev.fab.hslOut = hslAnswer cmd .crc 0 []
        ∧ t.dev.rd Reg.HOST_HSL_CRC_ERR = s.dev.rd Reg.HOST_HSL_CRC_ERR + 1#32
        ∧ (∀ a, a ∉ [Reg.HOST_HSL_CRC_ERR, Reg.HOST_HSL_FRAMES, Reg.HOST_LAST_ERR, Reg.HOST_LAST_ERR_ADDR] → t.dev.rd a = s.dev.rd a)
        ∧ t.dev.pend = s.dev.pend ∧ t.ldg = s.ldg ∧ t.rcd = s.rcd ∧ t.dev.drv = s.dev.drv)

/-- An abandoned transaction is counted, and what it has executed stays. In a state in which the fabric answers, HSL_ABORT completes. Given up at its end, a transaction leaves what it did: no answer is driven any more, HSL_ABORT is one more, and the whole state else is as the transaction left it. Given up after some of its words, with its host check word right and its addresses accepted, those words have run, as a shorter burst of the same words would have, and no other, and the same two things follow. (R48) -/
def Obligations.HslAbort : Prop :=
  ∀ (cmd addr word : W32) (data : List W32) (n : Nat) (s : State), s.dev.fabricUp = true →
    let given (u : State) : State := { u with dev := { (u.dev.wr Reg.HOST_HSL_ABORT (u.dev.rd Reg.HOST_HSL_ABORT + 1#32)) with
      fab := { u.dev.fab with hslOut := [] } } }
    exec .hslAbort s = .next (given s)
      ∧ (checkOk [cmd, addr] word = true → n ≤ cmdLen cmd →
        (cmdOp cmd = 1 →
          (let u := (burstRead .hsl addr.toNat n false (atFabric .hsl false s)).2.2;
            u.dev.fabricUp = true → exec (.hslRead cmd addr ⟨word, some n⟩) s = .next (given u)))
        ∧ (cmdOp cmd = 3 →
          (let u := (burstRead .hsl addr.toNat n true (atFabric .hsl false s)).2.2;
            u.dev.fabricUp = true → exec (.hslReadFixed cmd addr ⟨word, some n⟩) s = .next (given u))))
      ∧ (checkOk (cmd :: addr :: data) word = true → data.length = cmdLen cmd →
        (cmdOp cmd = 2 → ((atFabric .hsl true s).dev.burstCheck .hsl addr.toNat data.length false).1 = .ok →
          (let u := (burstWrite .hsl addr.toNat (data.take n) false (atFabric .hsl true s)).2.2;
            u.dev.fabricUp = true → exec (.hslWrite cmd addr data ⟨word, some n⟩) s = .next (given u)))
        ∧ (cmdOp cmd = 4 → ((atFabric .hsl true s).dev.burstCheck .hsl addr.toNat data.length true).1 = .ok →
          (let u := (burstWrite .hsl addr.toNat (data.take n) true (atFabric .hsl true s)).2.2;
            u.dev.fabricUp = true → exec (.hslWriteFixed cmd addr data ⟨word, some n⟩) s = .next (given u))))

/-- A stalled transaction releases the link after HSL_STALL_TO and is counted. In a state in which the fabric answers, HSL_STALL completes HSL_STALL_TO microseconds later by TB-M: nothing is driven on the data lines, HSL_ABORT is one more, and no other register, nor the rest of the fabric, the ledger, the records or the outputs change. (R49) -/
def Obligations.HslStall : Prop :=
  ∀ s : State, s.dev.fabricUp = true →
    ∃ t, exec .hslStall s = .next t ∧ t.dev.tm.tbm = s.dev.tm.tbm + 1000 * s.dev.rdN Reg.HOST_HSL_STALL_TO
      ∧ t.dev.rd Reg.HOST_HSL_ABORT = s.dev.rd Reg.HOST_HSL_ABORT + 1#32
      ∧ (∀ a, a ≠ Reg.HOST_HSL_ABORT → t.dev.rd a = s.dev.rd a)
      ∧ t = { s with dev := { s.dev with regs := t.dev.regs, tm := t.dev.tm, fab := { s.dev.fab with hslOut := [] } } }

/-- Ivyth: a session opens, is confirmed, answers requests once, and closes; its pairing keys are stored and erased. With Ivyth up: a tagged HELLO takes a free session, answers CHALLENGE with a fresh nonce and leaves the session unconfirmed with SEQ 0; with both sessions confirmed it is answered REJECT BUSY and no session changes; a CONFIRM with SEQ 1 under the session key is answered ACCEPT and shows in IVY_SESS; a fresh REQUEST of a confirmed session executes and its RESPONSE is sent and cached; a repeated one is answered from the cache and changes nothing else; a CLOSE with a rising SEQ, and IVY_IDLE_TIMEOUT, leave the session place free; an unknown or untagged frame is counted in IVY_AUTH_FAIL and has no other effect. An accepted PAIR_STORE puts the 32 bytes of PAIR_KEY0 to PAIR_KEY7 into the selected slot and sets its PAIR_STAT bit; PAIR_ERASE empties the slot and clears the bit; the other slot and everything else stay. Over Ivyth both meet status AUTH. (02_register_pages_and_host_link.md) Where it rests on log entries 105, 106, 107, 173, 174, that part is the model's choice and no rule of the spec. -/
def Obligations.IvythSessions : Prop :=
  ∀ (req : Requester) (frame : List Byte) (f : IvyFrame) (i : Fin 2) (x : IvySession) (s : State),
    (s.dev.ivyUp = true → ivyParse frame = some f → f.kind = 0x01 → f.slot < 2 → s.dev.fab.pairKeys.getD f.slot [] ≠ [] → f.ident = 0 →
      f.body.length = 16 → ivyTagged frame f (s.dev.fab.pairKeys.getD f.slot []) = true →
      (s.dev.sessionPlace = some i.val → s.dev.fab.sessions.length = 2 →
        ∃ t y, exec (.ivyHello frame) s = .next t ∧ t.dev.session i = some y ∧ y.slot = f.slot ∧ y.confirmed = false ∧ y.lastSeq = 0
          ∧ y.key = sessionKey (s.dev.fab.pairKeys.getD f.slot []) f.body (natBE 16 (Config.sessionNonce s.dev.fab.nonceCnt).toNat) y.ident
          ∧ t.dev.fab.ivyOut = ivyBuild 0x02 f.slot y.ident f.seq (natBE 16 (Config.sessionNonce s.dev.fab.nonceCnt).toNat)
              (s.dev.fab.pairKeys.getD f.slot [])
          ∧ t.dev.fab.nonceCnt = s.dev.fab.nonceCnt + 1 ∧ t.dev.rd Reg.HOST_IVY_FRAMES = s.dev.rd Reg.HOST_IVY_FRAMES + 1#32
          ∧ t.ldg = s.ldg ∧ t.rcd = s.rcd ∧ t.dev.drv = s.dev.drv ∧ t.dev.pend = s.dev.pend)
      ∧ (s.dev.sessionPlace = none →
        ∃ t, exec (.ivyHello frame) s = .next t ∧ t.dev.fab.sessions = s.dev.fab.sessions
          ∧ t.dev.fab.ivyOut = ivyBuild 0x21 f.slot 0 f.seq [9#8] (s.dev.fab.pairKeys.getD f.slot [])
          ∧ t.ldg = s.ldg ∧ t.rcd = s.rcd ∧ t.dev.drv = s.dev.drv ∧ t.dev.pend = s.dev.pend))
    ∧ (s.dev.ivyUp = true → ivyParse frame = some f → f.kind = 0x03 → s.dev.ivyKnown frame f = some (i.val, x) → x.confirmed = false →
      x.lastSeq = 0 → f.seq = 1 → s.dev.fab.sessions.length = 2 →
      ∃ t, exec (.ivyConfirm frame) s = .next t
        ∧ t.dev.session i = some { x with confirmed := true, lastSeq := 1, lastTbm := s.dev.tm.tbm }
        ∧ t.dev.bit Reg.HOST_IVY_SESS i = true ∧ t.dev.fab.ivyOut = ivyBuild 0x04 x.slot x.ident 1 [] x.key
        ∧ t.ldg = s.ldg ∧ t.rcd = s.rcd ∧ t.dev.drv = s.dev.drv ∧ t.dev.pend = s.dev.pend)
    ∧ (s.dev.ivyUp = true → ivyParse frame = some f → f.kind = 0x10 → s.dev.ivyKnown frame f = some (i.val, x) → x.confirmed = true →
      x.lastSeq < f.seq → ((ivyExecute (ivyReq i) f.body (onDev (·.ivyAccept i x f) s)).2.dev.session i).isSome = true →
      ∃ t, exec (.ivyRequest frame) s = .next t
        ∧ t.dev.fab.ivyOut = ivyBuild 0x11 x.slot x.ident f.seq (ivyExecute (ivyReq i) f.body (onDev (·.ivyAccept i x f) s)).1 x.key
        ∧ t.ldg = (ivyExecute (ivyReq i) f.body (onDev (·.ivyAccept i x f) s)).2.ldg
        ∧ t.rcd = (ivyExecute (ivyReq i) f.body (onDev (·.ivyAccept i x f) s)).2.rcd
        ∧ t.dev.drv = (ivyExecute (ivyReq i) f.body (onDev (·.ivyAccept i x f) s)).2.dev.drv)
    ∧ (s.dev.ivyUp = true → ivyParse frame = some f → f.kind = 0x10 → s.dev.ivyKnown frame f = some (i.val, x) → x.confirmed = true →
      f.seq ≤ x.lastSeq → f.seq = x.reqSeq → f.tag = x.reqTag →
      exec (.ivyRequest frame) s = .next { s with dev := { s.dev with fab := { s.dev.fab with ivyOut := x.cached } } })
    ∧ (s.dev.ivyUp = true → ivyParse frame = some f → f.kind = 0x20 → s.dev.ivyKnown frame f = some (i.val, x) → x.lastSeq < f.seq →
      s.dev.fab.sessions.length = 2 →
      ∃ t, exec (.ivyClose frame) s = .next t ∧ t.dev.session i = none ∧ t.dev.bit Reg.HOST_IVY_SESS i = false
        ∧ t.ldg = s.ldg ∧ t.rcd = s.rcd ∧ t.dev.drv = s.dev.drv ∧ t.dev.pend = s.dev.pend)
    ∧ (s.dev.session i = some x → s.dev.fab.sessions.length = 2 →
      ∃ t, exec (.ivyIdleTimeout i) s = .next t ∧ t.dev.session i = none ∧ t.dev.bit Reg.HOST_IVY_SESS i = false
        ∧ (s.dev.powerState ≤ 1 → s.dev.tm.tbm ≤ t.dev.tm.tbm) ∧ x.lastTbm + s.dev.rdN Reg.HOST_IVY_IDLE * 1000000000 ≤ t.dev.tm.tbm
        ∧ t.ldg = s.ldg ∧ t.rcd = s.rcd ∧ t.dev.drv = s.dev.drv ∧ t.dev.pend = s.dev.pend)
    ∧ (s.dev.ivyUp = true → ivyParse frame = none →
      exec (.ivyHello frame) s = .next { s with dev := s.dev.wr Reg.HOST_IVY_AUTH_FAIL (s.dev.rd Reg.HOST_IVY_AUTH_FAIL + 1#32) })
    ∧ (Accepts req Reg.HOST_PAIR_CMD 1#32 s →
      exec (.pairStore req) s = .next (acceptedWrite req Reg.HOST_PAIR_CMD (fun d =>
        let key := (List.range 8).flatMap (fun i => bytesBE (d.rd (Reg.HOST_PAIR_KEY i)))
        ({ d with fab := { d.fab with pairKeys := d.fab.pairKeys.set (d.fld Reg.HOST_PAIR_SEL 0 0) key } }).setBit Reg.HOST_PAIR_STAT (d.fld Reg.HOST_PAIR_SEL 0 0) true) s))
    ∧ (Accepts req Reg.HOST_PAIR_CMD 2#32 s →
      exec (.pairErase req) s = .next (acceptedWrite req Reg.HOST_PAIR_CMD (fun d =>
        ({ d with fab := { d.fab with pairKeys := d.fab.pairKeys.set (d.fld Reg.HOST_PAIR_SEL 0 0) [] } }).setBit
          Reg.HOST_PAIR_STAT (d.fld Reg.HOST_PAIR_SEL 0 0) false) s))
    ∧ (s.dev.fabricUp = true → req ≠ .hsl → s.dev.writeStatus req Reg.HOST_PAIR_CMD 1#32 = .auth)

/-- TB-S is steered toward the rate of TB-G, by no more than its slew and never beyond 200 ppm. TBS_RATE_STEER completes. With TBS_DISC.EN 1, TB-G LOCKED and CK_SYS running, TBS_PPB moves toward minus XO_PPB by at most TBS_SLEW_PPB for each second since the last adjustment, held at 200,000 ppb; while it is held there with more asked for, TBS_AT_LIMIT is set, with FAULT.TBS_LIMIT as it becomes so. Otherwise TBS_PPB keeps its value and TBS_STEERED is clear. TB-S itself does not move, and no other register, output, ledger entry or record does. (04_time_bases.md) Where it rests on log entries 6, 7, that part is the model's choice and no rule of the spec. -/
def Obligations.TbsSteering : Prop :=
  ∀ s : State,
    ∃ t, exec .tbsRateSteer s = .next t ∧ t.dev.tm.tbsP = s.dev.tm.tbsP ∧ t.dev.tm.tbm = s.dev.tm.tbm
      ∧ differOnly (fun d => { d with tm := {}, rcf := {} }) s t
      ∧ regsKept [Reg.TIME_TBS_PPB, Reg.STATUS pTIME, Reg.FAULT pTIME, Reg.IRQ_RAW pTIME, Reg.REC_SUPP_TOTAL] s t
      ∧ (s.dev.bit Reg.TIME_TBS_DISC 0 = false ∨ s.dev.tbgState ≠ tbgLocked ∨ 1 < s.dev.powerState →
          t.dev.rd Reg.TIME_TBS_PPB = s.dev.rd Reg.TIME_TBS_PPB ∧ t.dev.stat pTIME 16 = false)
      ∧ (s.dev.bit Reg.TIME_TBS_DISC 0 = true → s.dev.tbgState = tbgLocked → s.dev.powerState ≤ 1 →
          let slew := s.dev.rdN Reg.TIME_TBS_SLEW_PPB * (s.dev.tm.tbm - s.dev.tm.steerAt) / 1000000000
          let want := -(s.dev.rdI Reg.CLK_XO_PPB)
          let next := clampI (-200000) 200000 (s.dev.rdI Reg.TIME_TBS_PPB + clampI (-slew) slew (want - s.dev.rdI Reg.TIME_TBS_PPB))
          t.dev.rdI Reg.TIME_TBS_PPB = next ∧ t.dev.stat pTIME 16 = true
            ∧ t.dev.stat pTIME 17 = decide ((want < -200000 ∨ 200000 < want) ∧ next = clampI (-200000) 200000 want)
            ∧ ((want < -200000 ∨ 200000 < want) → next = clampI (-200000) 200000 want → s.dev.stat pTIME 17 = false →
              t.dev.bit (Reg.FAULT pTIME) 17 = true))

/-- INCR takes a value between 9.995 and 10.005 ns from the next cycle on, and refuses any other. An INCR_WRITE that the fabric accepts completes. A value from 0x9FEB851EC to 0xA0147AE14 is the increment that the next CK_SYS cycle adds to TB-N. Any other is answered LEN, leaves INCR and every other register but the last error and the fault bits as they were, and sets FAULT.RANGE. Neither changes outputs, ledger or records. (R91) -/
def Obligations.IncrementOfTbn : Prop :=
  ∀ (req : Requester) (v : W64) (s : State), Accepts req Reg.TIME1_INCR (lo32 v.toNat) s →
    (0x9FEB851EC ≤ v.toNat → v.toNat ≤ 0xA0147AE14 →
      ∃ t, exec (.incrWrite req v) s = .next t ∧ answerTo req t = ⟨.ok, 1, []⟩ ∧ t.dev.rd64 Reg.TIME1_INCR = v.toNat
        ∧ t.dev.tm.tbnU = s.dev.tm.tbnU
        ∧ (t.dev.tm.adjU = 0 → (t.dev.advance 1).tm.tbnU = t.dev.tm.tbnU + v.toNat * 1000000)
        ∧ differOnly (fun d => { d with tm := {}, rcf := {}, fab := {}, pow := {} }) s t
        ∧ regsKept [Reg.TIME1_INCR, Reg.TIME1_INCR + 4, Reg.STATUS pTIME1, Reg.REC_SUPP_TOTAL] s t)
    ∧ (v.toNat < 0x9FEB851EC ∨ 0xA0147AE14 < v.toNat →
      ∃ t, exec (.incrWrite req v) s = .next t ∧ answerTo req t = ⟨.len, 0, []⟩ ∧ t.dev.bit (Reg.FAULT pTIME1) 16 = true
        ∧ t.dev.tm = s.dev.tm ∧ differOnly (fun d => { d with fab := {}, pow := {} }) s t
        ∧ regsKept [Reg.FAULT pTIME1, Reg.IRQ_RAW pTIME1, Reg.HOST_LAST_ERR, Reg.HOST_LAST_ERR_ADDR] s t)

/-- TB-N: the offset to slew, the step, the load, and the end of its discipline. ADJ_WRITE replaces the offset to slew by the signed nanoseconds written. TBN_STEP_ADD adds STEP_OFS to TB-N, modulo 2^48 seconds, and TBN_LOAD sets it from the SET registers when SET_NS is below one second; both clear the offset to slew, count TBN_STEP_CNT, set TBN_SET and clear TBN_FREE, and leave TB-M and TB-S. A load with a SET_NS of a second or more is answered LEN and sets FAULT.RANGE, and moves nothing. TBN_TIMEOUT, the first after a discipline write, clears the offset and sets TBN_FREE and IRQ_RAW.FREE, not before TBN_TIMEOUT milliseconds after that write; a second one changes nothing. No other block, ledger entry or stored record changes. (04_time_bases.md) Where it rests on log entries 2, 9, that part is the model's choice and no rule of the spec. -/
def Obligations.TbnDiscipline : Prop :=
  ∀ (req : Requester) (v : W32) (s : State),
    let stepped (t : State) : Prop :=
      answerTo req t = ⟨.ok, 1, []⟩ ∧ t.dev.tm.adjU = 0 ∧ t.dev.tbnSet = true ∧ t.dev.tbnFree = false
        ∧ t.dev.rd Reg.TIME1_TBN_STEP_CNT = s.dev.rd Reg.TIME1_TBN_STEP_CNT + 1#32 ∧ t.dev.tm.tbm = s.dev.tm.tbm ∧ t.dev.tm.tbsP = s.dev.tm.tbsP
        ∧ differOnly (fun d => { d with tm := {}, rcf := {}, fab := {}, pow := {} }) s t
        ∧ regsKept [Reg.TIME1_TBN_STEP_CNT, Reg.STATUS pTIME1, Reg.REC_SUPP_TOTAL] s t
    (Accepts req Reg.TIME1_ADJ v s →
      ∃ t, exec (.adjWrite req v) s = .next t ∧ answerTo req t = ⟨.ok, 1, []⟩ ∧ t.dev.tm.adjU = v.toInt * (2 ^ 32 * 1000000 : Nat)
        ∧ t.dev.tm.tbnU = s.dev.tm.tbnU ∧ t.dev.tbnFree = false
        ∧ differOnly (fun d => { d with tm := {}, rcf := {}, fab := {}, pow := {} }) s t
        ∧ regsKept [Reg.TIME1_ADJ, Reg.STATUS pTIME1, Reg.REC_SUPP_TOTAL] s t)
    ∧ (Accepts req Reg.TIME1_STEP_CMD 1#32 s →
      ∃ t, exec (.tbnStepAdd req) s = .next t ∧ stepped t
        ∧ (t.dev.tm.tbnU : Int) = ((s.dev.tm.tbnU : Int) + signed64 (s.dev.rd64 Reg.TIME1_STEP_OFS) * nU) % ((2 ^ 48 * 1000000000 * nU : Nat) : Int))
    ∧ (Accepts req Reg.TIME1_STEP_CMD 2#32 s → s.dev.rdN Reg.TIME1_SET_NS ≤ 999999999 →
      ∃ t, exec (.tbnLoad req) s = .next t ∧ stepped t
        ∧ t.dev.tbn = (s.dev.rdN Reg.TIME1_SET_S_LO + s.dev.rdN Reg.TIME1_SET_S_HI * 2 ^ 32) * 1000000000 + s.dev.rdN Reg.TIME1_SET_NS)
    ∧ (Accepts req Reg.TIME1_STEP_CMD 2#32 s → 999999999 < s.dev.rdN Reg.TIME1_SET_NS →
      ∃ t, exec (.tbnLoad req) s = .next t ∧ answerTo req t = ⟨.len, 0, []⟩ ∧ t.dev.bit (Reg.FAULT pTIME1) 16 = true ∧ t.dev.tm = s.dev.tm
        ∧ differOnly (fun d => { d with fab := {}, pow := {} }) s t
        ∧ regsKept [Reg.FAULT pTIME1, Reg.IRQ_RAW pTIME1, Reg.HOST_LAST_ERR, Reg.HOST_LAST_ERR_ADDR] s t)
    ∧ (s.dev.tm.tbnOut = true → exec .tbnTimeout s = .next s)
    ∧ (s.dev.tm.tbnOut = false →
      ∃ t, exec .tbnTimeout s = .next t ∧ t.dev.tbnFree = true ∧ t.dev.tm.adjU = 0 ∧ t.dev.bit (Reg.IRQ_RAW pTIME1) 16 = true
        ∧ s.dev.tm.tbnWrite + s.dev.rdN Reg.TIME1_TBN_TIMEOUT * 1000000 ≤ t.dev.tm.tbm
        ∧ differOnly (fun d => { d with tm := {}, rcf := {} }) s t
        ∧ regsKept [Reg.STATUS pTIME1, Reg.IRQ_RAW pTIME1, Reg.REC_SUPP_TOTAL] s t)

/-- TB-G: lock, holdover, its expiry, the return by slew or step. (CK_NAV runs and no clock flag stands where a solution acts.) A first fix with at most 100 ns of uncertainty and no spoofing flag locks TB-G at its time. The loss of the solution leaves LOCKED or RETURN for HOLDOVER and ends a step or slew in hand. HOLDOVER_EXPIRY, HOLDOVER_MAX seconds after the loss, sets FAULT.HOLD_EXP and squelches PPS unless KEEP is 1. A return without the gate starts a slew where the error is at most 1 us and announces a step where it is larger; while a step is announced a further solution only corrects it; with the gate a return waits. TBG_STEP moves TB-G by the announced amount at a whole second and locks it; TBG_SLEW_DONE locks it once the error is slewed out. TB-M and TB-S are never moved but by the passage of time. (04_time_bases.md, 07_antenna_consistency_and_boom_geometry.md) Where it rests on log entries 2, 3, 8, that part is the model's choice and no rule of the spec. -/
def Obligations.TbgStates : Prop :=
  ∀ (fix : TimeFix) (delta : Int) (s : State),
    let quiet (t : State) : Prop := differOnly (fun d => { d with tm := {}, rcf := {} }) s t
    let usable : Prop := s.dev.integ ifSPOOF = false ∧ s.dev.integ ifJUMP = false ∧ s.dev.integ ifDRIFT = false ∧ s.dev.clockLost 6 = false
    (fix.uncNs ≤ 100 → usable → s.dev.tbgState = tbgNone →
      ∃ t, exec (.tbgLock fix) s = .next t ∧ t.dev.tbgState = tbgLocked ∧ t.dev.tm.tbgP = fix.gpsNs * pU ∧ t.dev.tm.tbsP = s.dev.tm.tbsP
        ∧ t.dev.bit (Reg.IRQ_RAW pTIME) 17 = true ∧ t.dev.rd Reg.CLK_XO_PPB = w32i fix.xoPpb ∧ quiet t)
    ∧ (s.dev.tbgState = tbgLocked ∨ s.dev.tbgState = tbgReturnS →
      ∃ t, exec .tbgHoldover s = .next t ∧ t.dev.tbgState = tbgHoldoverS ∧ t.dev.tm.stepTo = none ∧ t.dev.tm.tbgErrP = 0
        ∧ t.dev.tm.holdFrom = s.dev.tm.tbm ∧ t.dev.tm.tbgP = s.dev.tm.tbgP ∧ t.dev.bit (Reg.IRQ_RAW pTIME) 17 = true ∧ quiet t)
    ∧ (s.dev.tbgState = tbgHoldoverS → s.dev.tm.holdExpired = false →
      ∃ t, exec .holdoverExpiry s = .next t ∧ t.dev.bit (Reg.FAULT pTIME) 16 = true ∧ t.dev.tm.holdExpired = true ∧ t.dev.tbgState = tbgHoldoverS
        ∧ s.dev.tm.holdFrom + s.dev.rdN Reg.TIME_HOLDOVER_MAX * 1000000000 ≤ t.dev.tm.tbm
        ∧ (s.dev.bit Reg.TIME_PPS_CTRL 1 = false → t.dev.bit Reg.TIME_PPS_STATUS 2 = true)
        ∧ (s.dev.bit Reg.TIME_PPS_CTRL 1 = true → t.dev.rd Reg.TIME_PPS_STATUS = s.dev.rd Reg.TIME_PPS_STATUS) ∧ quiet t)
    ∧ (s.dev.tbgState = tbgHoldoverS → usable → s.dev.tm.stepTo = some delta →
      ∃ t, exec (.tbgReturn fix) s = .next t ∧ t.dev.tm.tbgP = s.dev.tm.tbgP ∧ t.dev.tbgState = tbgHoldoverS
        ∧ t.dev.tm.stepTo = some ((fix.gpsNs * pU : Nat) - (s.dev.tm.tbgP : Int)) ∧ quiet t)
    ∧ (s.dev.tbgState = tbgHoldoverS → usable → s.dev.tm.stepTo = none → s.dev.bit Reg.INTEG_INTEG_POLICY 1 = false →
      ∃ t, exec (.tbgReturn fix) s = .next t ∧ t.dev.tm.tbgP = s.dev.tm.tbgP ∧ quiet t
        ∧ (((s.dev.tm.tbgP : Int) - (fix.gpsNs * pU : Nat)).natAbs ≤ 1000 * pU →
            t.dev.tbgState = tbgReturnS ∧ t.dev.tm.tbgErrP = (s.dev.tm.tbgP : Int) - (fix.gpsNs * pU : Nat))
        ∧ (1000 * pU < ((s.dev.tm.tbgP : Int) - (fix.gpsNs * pU : Nat)).natAbs →
            t.dev.tm.stepTo = some ((fix.gpsNs * pU : Nat) - (s.dev.tm.tbgP : Int)) ∧ t.dev.bit (Reg.IRQ_RAW pTIME) 18 = true
              ∧ t.dev.tbgState = tbgHoldoverS))
    ∧ (s.dev.tbgState = tbgHoldoverS → usable → s.dev.tm.stepTo = none → s.dev.bit Reg.INTEG_INTEG_POLICY 1 = true →
      ∃ t, exec (.tbgReturn fix) s = .next t ∧ t.dev.integ ifGATED = true ∧ t.dev.gps.gated = some (fix, s.dev.tbg) ∧ t.dev.tm = s.dev.tm
        ∧ t.dev.tbgState = tbgHoldoverS)
    ∧ (s.dev.tm.stepTo = some delta →
      ∃ t, exec .tbgStep s = .next t ∧ t.dev.tbgState = tbgLocked ∧ t.dev.tm.stepTo = none ∧ t.dev.tm.steppedAt = some t.dev.tm.tbm
        ∧ t.dev.tm.tbgP = (((s.dev.toTbg (s.dev.nextSecond * 1000000000)).tm.tbgP : Int) + delta).toNat
        ∧ t.dev.bit (Reg.IRQ_RAW pTIME) 17 = true ∧ quiet t)
    ∧ (s.dev.tbgState = tbgReturnS → 0 < s.dev.rdN Reg.TIME_RET_SLEW_NS →
      ∃ t, exec .tbgSlewDone s = .next t ∧ t.dev.tbgState = tbgLocked ∧ t.dev.tm.tbgErrP = 0 ∧ quiet t)

/-- PPS is emitted at a whole second and ends after its width; the RTC is loaded from a valid wall time. PPS_PULSE, with CK_SYS running, PPS enabled, TB-G valid, PPS not squelched and no step announced, completes at the next whole second of TB-G: the output is active and IRQ_RAW.PPS set. PPS_PULSE_END ends a pulse no sooner than PPS_CTRL.WIDTH ms after it began. RTC_LOAD, while the wall time comes from TB-G or TB-N, loads its value and source. No register but IRQ_RAW of the TIME page changes, and no other block does. (04_time_bases.md) Where it rests on log entry 2, that part is the model's choice and no rule of the spec. -/
def Obligations.PpsAndRtc : Prop :=
  ∀ (b : Nat) (s : State),
    (s.dev.powerState ≤ 1 → s.dev.bit Reg.TIME_PPS_CTRL 0 = true → s.dev.tbgState ≠ tbgNone → s.dev.bit Reg.TIME_PPS_STATUS 2 = false → s.dev.tm.stepTo = none →
      ∃ t, exec .ppsPulse s = .next t ∧ t.dev.ppsActive = true ∧ t.dev.bit (Reg.IRQ_RAW pTIME) 16 = true
        ∧ t.dev.tm.ppsSince = some t.dev.tm.tbm ∧ t.dev.tm.ppsLast = some s.dev.ppsSecond
        ∧ differOnly (fun d => { d with tm := {} }) s t ∧ regsKept [Reg.IRQ_RAW pTIME] s t)
    ∧ (s.dev.tm.ppsSince = some b →
      ∃ t, exec .ppsPulseEnd s = .next t ∧ t.dev.ppsActive = false ∧ b + s.dev.fld Reg.TIME_PPS_CTRL 24 16 * 1000000 ≤ t.dev.tm.tbm
        ∧ t.dev.regs = s.dev.regs ∧ differOnly (fun d => { d with tm := {} }) s t)
    ∧ (s.dev.wall.src ≤ 1 →
      exec .rtcLoad s = .next { s with dev := { s.dev with tm := { s.dev.tm with
        rtcNs := s.dev.wall.ns, rtcAt := s.dev.tm.tbm, rtcSrc := s.dev.wall.src + 1 } } })

/-- The turn of a frame: the frame that ends is booked, the commits act, the new frame begins. In RUN and SLACK, with the controller out of reset, FRAME_TURN completes with this state: what is left of the frame before is finished, the turn falls on its grid and the frame begins with no stage done; what was delivered is painted and measured, and the ledger books from the turn before to this one and takes the commands that wait for a turn; then the armed pages commit under the number of this turn; then blocks publish, latch and sample. The record store and the queue do not change. In the parked states no turn falls and nothing changes. (01_application_path.md, 03_frames_turns_and_clock_domains.md, 14_application_ledger_and_fault_coverage.md) Where it rests on log entries 2, 3, 116, 117, that part is the model's choice and no rule of the spec. -/
def Obligations.FrameTurn : Prop :=
  ∀ (env : TurnEnv) (s : State),
    (s.dev.powerState ≤ 1 → s.dev.pow.held = false →
      let x := s.dev.turnStart
      let t1 := x.rd64 Reg.FRM_TURN_TBS / 4
      let t0 := if s.dev.frm.turned then s.dev.rd64 Reg.FRM_TURN_TBS / 4 else t1
      let d := ((if x.sup.rebook then x else x.mapReport t0 t1 x.frameUnits).diagTurn t0 t1 env.banks).learnThermal
      let booked := ledgerTurn t0 t1 (decide (s.dev.frm.turnTbm / 1000000000 ≠ d.tm.tbm / 1000000000)) env.supplyOk env.tempOk d s.ldg
      let c := booked.1.clearFrame.hostTurn.entryBegins.applyClears
      let e := c.commits (c.rd64 Reg.FRM_FRAME_SEQX)
      exec (.frameTurn env) s = .next { s with dev := e.afterCommits env (latencyWords c e), ldg := booked.2 }
        ∧ x.frm.turned = true ∧ x.frm.stage = 0 ∧ x.frm.committed = false ∧ x.frm.turnTbm = x.tm.tbm)
    ∧ (1 < s.dev.powerState ∨ s.dev.pow.held = true → exec (.frameTurn env) s = .next s)

/-- Turn k falls at the first CK_SYS cycle at which TB-S reaches its place on the grid. The turn counters: from a state in which turns have begun, the turn's number is greater than the one before; TB-S has reached TF_ORIGIN + (k - ORIGIN_SEQ) x T_F, and where the part came to the turn on time it exceeds that value by less than a cycle's step; FRAME_SEQX, FRAME_SEQ and TURN_TBS hold the number and TB-S. The first turn has number 0 and sets the grid at TB-S. (03_frames_turns_and_clock_domains.md) Where it rests on log entry 116, that part is the model's choice and no rule of the spec. -/
def Obligations.TurnsFallOnTheGrid : Prop :=
  ∀ d : Dev, 0 < d.tbsStep →
    (d.frm.turned = true → d.rd64 Reg.FRM_ORIGIN_SEQ ≤ d.rd64 Reg.FRM_FRAME_SEQX → d.nextTurnNo < 2 ^ 64 → d.toTurn.tbs < 2 ^ 64 →
      d.toTurn.rd64 Reg.FRM_FRAME_SEQX = d.nextTurnNo ∧ d.rd64 Reg.FRM_FRAME_SEQX < d.nextTurnNo
        ∧ d.toTurn.rd Reg.FRM_FRAME_SEQ = lo32 d.nextTurnNo ∧ d.toTurn.rd64 Reg.FRM_TURN_TBS = d.toTurn.tbs
        ∧ d.rd64 Reg.FRM_TF_ORIGIN + (d.nextTurnNo - d.rd64 Reg.FRM_ORIGIN_SEQ) * d.tf ≤ d.toTurn.tbs
        ∧ (d.tm.tbsP < (d.rd64 Reg.FRM_TF_ORIGIN + (d.nextTurnNo - d.rd64 Reg.FRM_ORIGIN_SEQ) * d.tf) * pU →
            d.toTurn.tm.tbsP < (d.rd64 Reg.FRM_TF_ORIGIN + (d.nextTurnNo - d.rd64 Reg.FRM_ORIGIN_SEQ) * d.tf) * pU + d.tbsStep))
    ∧ (d.frm.turned = false → d.tbs < 2 ^ 64 →
      d.toTurn.rd64 Reg.FRM_FRAME_SEQX = 0 ∧ d.toTurn.rd64 Reg.FRM_TF_ORIGIN = d.tbs ∧ d.toTurn.rd64 Reg.FRM_TURN_TBS = d.tbs
        ∧ d.toTurn.frm.turned = true)

/-- A refused commit changes no setting and says so. When one armed page's commit at a turn is refused, by the fit check, by the block's own checks or as an activation that is not allowed, the page's TURN_ARM is clear, its STATUS.REJECTED, FAULT.CFG and IRQ_RAW.TURN are set, every pending copy keeps its value, and every register but those four of the page's header reads as before: the active copies and TURN_SEQ are unchanged. (R26) -/
def Obligations.RefusedCommits : Prop :=
  ∀ (d : Dev) (cs : List Commit) (fit : Bool) (p k : Nat), p < 256 →
    (d.activates p = true ∧ d.actCause (!fit && d.fitRefuses cs (d.commitOf p)) ≠ 0)
      ∨ (!fit && d.fitRefuses cs (d.commitOf p) || !d.commitOk [d.commitOf p] (d.commitOf p)) = true →
    let t := d.commitOne cs fit p k
    t.bit (Reg.TURN_ARM p) 0 = false ∧ t.bit (Reg.STATUS p) 3 = true ∧ t.bit (Reg.FAULT p) 4 = true ∧ t.bit (Reg.IRQ_RAW p) 0 = true
      ∧ t.pend = d.pend ∧ t.cross = d.cross ∧ t.conf = d.conf ∧ t.imp = d.imp
      ∧ ∀ a, a ∉ [Reg.TURN_ARM p, Reg.STATUS p, Reg.FAULT p, Reg.IRQ_RAW p] → t.rd a = d.rd a

/-- A local turn makes the commits on their way to its domain active; GLOBAL_GO releases a group, whose pages commit together or not at all. LOCAL_TURN of a domain completes: no commit is on its way to that domain any more, those of other domains still are, and the ledger and the record store are unchanged. A single commit of one word of the NET page then reads active, with IRQ_RAW.TURN of its page. The local turn of the tiles also swaps in the edges of earlier frames' commits. An accepted GLOBAL_GO marks the group for release at the next turn and does nothing else. Held pages do not commit without it. At the turn after it GLOBAL_HOLD clears and the armed pages commit as one group; where one of them is refused none commits: each is disarmed with REJECTED and FAULT.CFG, its TURN_SEQ and every pending copy stay, and FRM shows FAULT.CFG and IRQ GROUP. (03_frames_turns_and_clock_domains.md) Where it rests on log entries 117, 118, 119, that part is the model's choice and no rule of the spec. -/
def Obligations.LocalTurnsAndGroups : Prop :=
  ∀ (dom : Domain) (req : Requester) (x : Crossing) (a k : Nat) (v : W32) (why : Nat × Nat) (s : State),
    (∃ t, exec (.localTurn dom) s = .next t ∧ t.dev.cross = s.dev.cross.filter (fun y => y.domain ≠ dom) ∧ t.ldg = s.ldg ∧ t.rcd = s.rcd
        ∧ t.dev.tm = s.dev.tm ∧ t.dev.pend = s.dev.pend)
    ∧ (s.dev.cross = [x] → x.domain = .ckNet → dom = .ckNet → x.page = 0xA0 → x.main = true → x.group = false → x.words = [(a, v)] → a / 0x1000 = 0xA0 →
      a ≠ Reg.IRQ_RAW 0xA0 →
      ∃ t, exec (.localTurn dom) s = .next t ∧ t.dev.rd a = v ∧ t.dev.bit (Reg.IRQ_RAW 0xA0) 0 = true
        ∧ regsKept [a, Reg.IRQ_RAW 0xA0] s t)
    ∧ (dom ≠ .ckEdge → exec (.localTurn dom) s = .next (onDev (·.crossDomain dom) s))
    ∧ exec (.localTurn .ckEdge) s = .next (onDev (fun d =>
        let e := d.crossDomain .ckEdge
        e.swapEdges (fun x => decide (x.t < e.eds.winFrom))) s)
    ∧ (Accepts req Reg.FRM_GLOBAL_GO 1#32 s →
      exec (.globalGo req) s = .next (acceptedWrite req Reg.FRM_GLOBAL_GO (fun d => { d with frm := { d.frm with goPending := true } }) s))
    ∧ (s.dev.frm.goPending = false → s.dev.bit Reg.FRM_GLOBAL_HOLD 0 = true → s.dev.frm.holdTurns < s.dev.rdN Reg.FRM_GATHER_MAX →
      s.dev.commits k = { s.dev with frm := { s.dev.frm with holdTurns := s.dev.frm.holdTurns + 1 } })
    ∧ (s.dev.frm.goPending = true →
      let g := { s.dev.wrN Reg.FRM_GLOBAL_HOLD 0 with frm := { s.dev.frm with goPending := false, holdTurns := 0 } }
      let r := g.fitCheck (g.armedPages.map g.commitOf)
      (g.armedPages = [] → s.dev.commits k = g.irq pFRM 16)
        ∧ (g.armedPages ≠ [] → r.1.groupRefuser (g.armedPages.map g.commitOf) r.2 = some why →
          let t := s.dev.commits k
          t.rd Reg.FRM_GLOBAL_HOLD = 0#32 ∧ t.frm.goPending = false ∧ t.pend = s.dev.pend ∧ t.cross = s.dev.cross ∧ t.conf = s.dev.conf
            ∧ (∀ p ∈ g.armedPages, t.bit (Reg.TURN_ARM p) 0 = false ∧ t.stat p sREJECTED = true ∧ t.bit (Reg.FAULT p) fCFG = true
                ∧ t.rd (Reg.TURN_SEQ p) = s.dev.rd (Reg.TURN_SEQ p))
            ∧ t.bit (Reg.FAULT pFRM) fCFG = true ∧ t.bit (Reg.IRQ_RAW pFRM) 16 = true)
        ∧ (g.armedPages ≠ [] → r.1.groupRefuser (g.armedPages.map g.commitOf) r.2 = none →
          s.dev.commits k = ((g.armedPages.map g.commitOf).foldl
            (fun d c => d.acceptPage (if c.image.isSome then c else d.commitOf c.page) true k) r.1).groupShow))

/-- A gathering that is not released ends after GATHER_MAX turns. With GLOBAL_HOLD 1, no GLOBAL_GO given and GATHER_MAX turns held, GATHER_TIMEOUT completes: GLOBAL_HOLD reads 0, no page is armed, every pending copy keeps its value, FAULT.GATHER_TO of FRM is set, and its record has been handed to the recorder where the recorder's intake has room. No other setting and no other block changes. (R72) -/
def Obligations.GatherTimeout : Prop :=
  ∀ s : State, s.dev.bit Reg.FRM_GLOBAL_HOLD 0 = true → s.dev.frm.goPending = false → s.dev.rdN Reg.FRM_GATHER_MAX ≤ s.dev.frm.holdTurns →
    ∃ t, exec .gatherTimeout s = .next t ∧ t.dev.rd Reg.FRM_GLOBAL_HOLD = 0#32 ∧ (∀ p ∈ allPages, t.dev.bit (Reg.TURN_ARM p) 0 = false)
      ∧ t.dev.pend = s.dev.pend ∧ t.dev.bit (Reg.FAULT 0x002) 18 = true
      ∧ (s.dev.rcf.closed = false → s.dev.pow.pfAt = none → s.dev.rcf.intake.length < intakeDepth →
          ∃ e ∈ t.dev.rcf.intake, e.page = 0x002 ∧ e.kind = 1 ∧ e.bit = 18 ∧ e.cycle = s.dev.tm.tbm)
      ∧ differOnly (fun d => { d with frm := { d.frm with holdTurns := 0 }, rcf := {} }) s t
      ∧ regsKept ([Reg.FRM_GLOBAL_HOLD, Reg.FAULT 0x002, Reg.IRQ_RAW 0x002, Reg.REC_SUPP_TOTAL] ++ allPages.map Reg.TURN_ARM) s t

/-- The stages of a frame follow one another, and a commit ends a run of missed ones. SDE_STAGE, EDS_STAGE, BREAKWATER_ADMISSION and EDGE_COMMIT complete in their order after a turn, with the section decisions, the planned edges, the admissions and the committed edges of the frame in the state after, each at its completion counted from the turn or later: the next stage is due, and no ledger entry or stored record changes. EDS_STAGE with the output path disarmed leaves no planned edge and no change of an output. EDGE_COMMIT within its bound clears OVR_RUN and ends a safe close, and the frame counts as committed; beyond its bound none of that happens. (01_application_path.md, 03_frames_turns_and_clock_domains.md) Where it rests on log entries 76, 96, 117, that part is the model's choice and no rule of the spec. -/
def Obligations.StagesOfAFrame : Prop :=
  ∀ (cycles : Nat) (bad : List (Fin 512)) (s : State), s.dev.frm.turned = true →
    let kept (t : State) : Prop := t.ldg = s.ldg ∧ t.rcd = s.rcd ∧ t.pending = s.pending
    (s.dev.frm.stage = 0 → exec (.sdeStage cycles) s = .next (onDev (fun d => d.sdeStage.renewMaxOn.stageEnds 1 cycles) s)
      ∧ ∃ t, exec (.sdeStage cycles) s = .next t ∧ t.dev.frm.stage = 1 ∧ s.dev.frm.turnTbm + 10 * cycles ≤ t.dev.tm.tbm ∧ kept t
        ∧ t.dev.eds = s.dev.eds ∧ t.dev.bwk = s.dev.bwk)
    ∧ (s.dev.frm.stage = 1 → exec (.edsStage cycles) s = .next (onDev (fun d => d.edsRun.stageEnds 2 cycles) s) ∧ ∃ t, exec (.edsStage cycles) s = .next t ∧ t.dev.frm.stage = 2 ∧ kept t
        ∧ (s.dev.bit Reg.SYS_OUT_STATE 0 = false → t.dev.eds = { s.dev.eds with ch := [] } ∧ t.dev.drv = s.dev.drv
            ∧ s.dev.frm.turnTbm + 10 * cycles ≤ t.dev.tm.tbm))
    ∧ (s.dev.frm.stage = 2 → exec (.breakwaterAdmission cycles) s = .next (onDev (fun d => d.admitFrame.stageEnds 3 cycles) s) ∧ ∃ t, exec (.breakwaterAdmission cycles) s = .next t ∧ t.dev.frm.stage = 3 ∧ kept t)
    ∧ (s.dev.frm.stage = 3 → cycles ≤ stageBound s.dev.tf 4 →
      ∃ t, exec (.edgeCommit cycles bad) s = .next t ∧ t.dev.frm.committed = true ∧ t.dev.frm.stage = 4
        ∧ t.dev.rd Reg.FRM_OVR_RUN = 0#32 ∧ t.dev.safeClosed = false ∧ kept t)
    ∧ (s.dev.frm.stage = 3 → stageBound s.dev.tf 4 < cycles →
      ∃ t, exec (.edgeCommit cycles bad) s = .next t ∧ t.dev.frm.committed = s.dev.frm.committed ∧ t.dev.frm.stage = 4
        ∧ t.dev.rd Reg.FRM_OVR_RUN = s.dev.rd Reg.FRM_OVR_RUN ∧ t.dev.drv = s.dev.drv ∧ t.dev.eds = s.dev.eds ∧ kept t)

/-- A missing commit is counted; a run of them closes the outputs. FRAME_OVERRUN, where the frame's commit is missing, completes at its bound or later: OVR_COUNT is one more, saturating, OVR_RUN one more up to 3, FAULT.OVERRUN set, and no later stage of the frame is due. SAFE_CLOSE, where one is due, completes 100 us after the turn or later with STATUS.SAFE_CLOSE and its fault bit set, and is due no more. Neither changes the ledger or the record store. (03_frames_turns_and_clock_domains.md) Where it rests on log entries 117, 122, that part is the model's choice and no rule of the spec. -/
def Obligations.OverrunAndSafeClose : Prop :=
  ∀ s : State,
    (s.dev.frm.turned = true → s.dev.frm.committed = false → s.dev.frm.stage ≠ 5 →
      ∃ t, exec .frameOverrun s = .next t ∧ t.dev.rd Reg.FRM_OVR_COUNT = sat32 (s.dev.rdN Reg.FRM_OVR_COUNT + 1)
        ∧ t.dev.rdN Reg.FRM_OVR_RUN = min 3 (s.dev.rdN Reg.FRM_OVR_RUN + 1) ∧ t.dev.bit (Reg.FAULT pFRM) 16 = true ∧ t.dev.frm.stage = 5
        ∧ s.dev.frm.turnTbm + 10 * stageBound s.dev.tf 4 ≤ t.dev.tm.tbm ∧ t.ldg = s.ldg ∧ t.rcd = s.rcd)
    ∧ (s.dev.frm.closeDue = true → s.dev.safeClosed = false →
      ∃ t, exec .safeClose s = .next t ∧ t.dev.safeClosed = true ∧ t.dev.bit (Reg.FAULT pFRM) 17 = true ∧ t.dev.frm.closeDue = false
        ∧ s.dev.frm.turnTbm + 100000 ≤ t.dev.tm.tbm ∧ t.ldg = s.ldg ∧ t.rcd = s.rcd)

/-- The loss of a clock domain is flagged, counted and acted on; its recovery clears the status. CLOCK_LOSS of a domain that is not lost completes: the loss of CK_NET, CK_CAN or CK_AON sets the domain's FAULT and STATUS bits and counts CK_LOSS_CNT, saturating, and changes no other register and no other block; that of CK_LOOP, CK_EDGE, CK_SENSE or CK_NAV does what its domain does besides, on top of those; that of CK_SYS stops the frame strobe and resets the controller with cause CLOCK. A domain that is lost already is not lost again. CLOCK_RECOVERY clears the domain's STATUS bit. (03_frames_turns_and_clock_domains.md) Where it rests on log entries 3, 120, 178, that part is the model's choice and no rule of the spec. -/
def Obligations.ClockLossAndRecovery : Prop :=
  ∀ (dom : Domain) (s : State),
    (s.dev.clockLost (domainNo dom) = false → dom = .ckNet ∨ dom = .ckCan ∨ dom = .ckAon →
      ∃ t, exec (.clockLoss dom) s = .next t ∧ t.dev.clockLost (domainNo dom) = true ∧ t.dev.bit (Reg.FAULT pCLK) (16 + domainNo dom) = true
        ∧ t.dev.rd Reg.CLK_CK_LOSS_CNT = sat32 (s.dev.rdN Reg.CLK_CK_LOSS_CNT + 1)
        ∧ differOnly (fun d => { d with rcf := {} }) s t
        ∧ regsKept [Reg.FAULT pCLK, Reg.IRQ_RAW pCLK, Reg.STATUS pCLK, Reg.CLK_CK_LOSS_CNT, Reg.REC_SUPP_TOTAL] s t)
    ∧ (s.dev.clockLost 6 = false →
      exec (.clockLoss .ckNav) s = .next (onDev (fun d => (((d.recFault pCLK 22).withSmp (·.clockMark 6)).navLost).toHoldover) s))
    ∧ (s.dev.clockLost (domainNo dom) = false → dom = .ckLoop ∨ dom = .ckEdge ∨ dom = .ckSense →
      exec (.clockLoss dom) s
        = .next (onDev (fun d => ((d.recFault pCLK (16 + domainNo dom)).clockMark (domainNo dom)).clockLossActs dom) s))
    ∧ (s.dev.clockLost 0 = false →
      exec (.clockLoss .ckSys) s = .next (onDev (·.clockMark 0) (State.controllerReset (onDev (fun d =>
        { d.recFault pCLK 16 with drv := { d.drv with strobeStop := some (d.drv.strobeStop.getD d.tm.tbm) } }) s) rcCLOCK)))
    ∧ (s.dev.clockLost (domainNo dom) = true → exec (.clockLoss dom) s = .next s)
    ∧ (s.dev.clockLost 6 = true →
      ∃ t, exec (.clockRecovery .ckNav) s = .next t ∧ t.dev.clockLost 6 = false ∧ t.dev.smp = s.dev.smp
        ∧ differOnly (fun d => { d with gps := {} }) s t)
    ∧ (s.dev.clockLost (domainNo dom) = true → dom ≠ .ckEdge → dom ≠ .ckNav →
      ∃ t, exec (.clockRecovery dom) s = .next t ∧ t.dev.clockLost (domainNo dom) = false
        ∧ differOnly (fun d => { d with gps := {} }) s t ∧ regsKept [Reg.STATUS pCLK] s t)
    ∧ (s.dev.clockLost 4 = true →
      ∃ t, exec (.clockRecovery .ckEdge) s = .next t ∧ t.dev.clockLost 4 = false ∧ t.ldg = s.ldg ∧ t.rcd = s.rcd ∧ t.dev.tm = s.dev.tm)

/-- The implement description image is staged, emptied, verified and stored. While no verification runs and the buffer has room, STAGE_WRITE appends its words whole, the buffer is STAGED and a verification of it is gone; a burst beyond 4,194,304 bytes is answered LEN and appends nothing. IDI_CMD 1 empties the buffer, 2 starts a verification, 3 starts the store of a verified image and 4 the erase of the slot, each only while neither a verification nor an operation of the slot is in progress; otherwise the answer is LEN and the image is as it was. VERIFICATION_COMPLETE leaves the SHA-256 of the buffer in STAGE_HASH, the verdict of R114 in STAGE_STATE and FAIL, and IRQ_RAW.VERIFIED; the first after power-on does so for the stored image, or, with an empty slot, leaves the buffer empty. NOR_OP_COMPLETE leaves the image as it was when the store began, or an empty slot, and its serial, with IRQ_RAW.STORED. (05_implement_model_and_pose.md) Where it rests on log entries 125, 126, 127, that part is the model's choice and no rule of the spec. -/
def Obligations.ImageSlot : Prop :=
  ∀ (req : Requester) (data : List W32) (s : State),
    let page (t : State) : Prop := differOnly (fun d => { d with imp := {}, fab := {}, pow := {} }) s t
    (Accepts req Reg.IMP_STAGE_PORT 0#32 s → s.dev.stat pIMP 16 = false → 4 * (s.dev.imp.staged.length + data.length) ≤ 4194304 →
      ∃ t, exec (.stageWrite req data) s = .next t ∧ answerTo req t = ⟨.ok, data.length, []⟩ ∧ t.dev.imp.staged = data.reverse ++ s.dev.imp.staged
        ∧ t.dev.imp.verified = none ∧ t.dev.imp.active = s.dev.imp.active ∧ t.dev.imp.nor = s.dev.imp.nor
        ∧ t.dev.rdN Reg.IMP_STAGE_LEN = 4 * (s.dev.imp.staged.length + data.length) ∧ t.dev.stageState = ssSTAGED
        ∧ page t ∧ regsKept [Reg.IMP_STAGE_LEN, Reg.IMP_STAGE_STATE] s t)
    ∧ (Accepts req Reg.IMP_STAGE_PORT 0#32 s → 4194304 < 4 * (s.dev.imp.staged.length + data.length) →
      ∃ t, exec (.stageWrite req data) s = .next t ∧ answerTo req t = ⟨.len, 0, []⟩ ∧ t.dev.imp = s.dev.imp
        ∧ t.dev.rd Reg.IMP_STAGE_LEN = s.dev.rd Reg.IMP_STAGE_LEN ∧ t.dev.stageState = s.dev.stageState)
    ∧ (Accepts req Reg.IMP_IDI_CMD 1#32 s → s.dev.impFree = true →
      exec (.idiEmpty req) s = .next (acceptedWrite req Reg.IMP_IDI_CMD (fun d =>
        ({ d with imp := { d.imp with staged := [], verified := none } }.wr Reg.IMP_STAGE_LEN 0#32).wrN Reg.IMP_STAGE_STATE ssEMPTY) s))
    ∧ (Accepts req Reg.IMP_IDI_CMD 2#32 s → s.dev.impFree = true →
      exec (.idiVerify req) s = .next (acceptedWrite req Reg.IMP_IDI_CMD (·.setStat pIMP 16 true) s))
    ∧ (Accepts req Reg.IMP_IDI_CMD 3#32 s → s.dev.impFree = true → s.dev.stageState = ssVERIFIED →
      exec (.idiStore req) s = .next (acceptedWrite req Reg.IMP_IDI_CMD (fun d =>
        { d.setStat pIMP 17 true with
          imp := { d.imp with norBusy := some 3, norCopy := d.imp.staged.reverse, norSerial := d.rd Reg.IMP_STAGED_SERIAL } }) s))
    ∧ (Accepts req Reg.IMP_IDI_CMD 4#32 s → s.dev.impFree = true →
      exec (.idiErase req) s = .next (acceptedWrite req Reg.IMP_IDI_CMD (fun d =>
        { d.setStat pIMP 17 true with imp := { d.imp with norBusy := some 4 } }) s))
    ∧ (Accepts req Reg.IMP_IDI_CMD 3#32 s → s.dev.impFree = false ∨ s.dev.stageState ≠ ssVERIFIED →
      ∃ t, exec (.idiStore req) s = .next t ∧ answerTo req t = ⟨.len, 0, []⟩ ∧ t.dev.imp = s.dev.imp)
    ∧ (Accepts req Reg.IMP_IDI_CMD 2#32 s → s.dev.impFree = false →
      ∃ t, exec (.idiVerify req) s = .next t ∧ answerTo req t = ⟨.len, 0, []⟩ ∧ t.dev.imp = s.dev.imp)
    ∧ (s.dev.stat pIMP 16 = true → s.dev.imp.booting = true → s.dev.imp.nor = [] →
      exec .verificationComplete s = .next (onDev (fun d => ({ d with imp := { d.imp with booting := false } }).setStat pIMP 16 false) s))
    ∧ (s.dev.stat pIMP 16 = true → s.dev.imp.booting = true → s.dev.imp.nor ≠ [] →
      exec .verificationComplete s = .next (onDev (fun d =>
        (({ d with imp := { d.imp with booting := false } }).setStaged s.dev.imp.nor.reverse ssSTAGED).verifyEnds) s))
    ∧ (s.dev.stat pIMP 16 = true → s.dev.imp.booting = false →
      ∃ (t : State) (d : Dev), exec .verificationComplete s = .next t
        ∧ (∀ k, k < 8 → t.dev.rd (Reg.IMP_STAGE_HASH k) = (sha256 s.dev.stagedBytes).getD k 0#32)
        ∧ t.dev.rdN Reg.IMP_STAGED_SERIAL = beNat (slice s.dev.stagedBytes 12 4)
        ∧ t.dev.stat pIMP 16 = false ∧ t.dev.bit (Reg.IRQ_RAW pIMP) 16 = true
        ∧ (∀ a, a ∉ Reg.IMP_STAGED_SERIAL :: (List.range 8).map Reg.IMP_STAGE_HASH → d.rd a = s.dev.rd a)
        ∧ (∀ code, d.verdict s.dev.stagedBytes = .inl code →
            t.dev.stageState = ssFAILED ∧ t.dev.fld (Reg.STATUS pIMP) 23 20 = code % 16 ∧ t.dev.imp = s.dev.imp)
        ∧ (∀ im, d.verdict s.dev.stagedBytes = .inr im →
            t.dev.stageState = ssVERIFIED ∧ t.dev.fld (Reg.STATUS pIMP) 23 20 = 0 ∧ t.dev.imp = { s.dev.imp with verified := some im })
        ∧ page t)
    ∧ (s.dev.imp.norBusy = some 3 →
      ∃ t, exec .norOpComplete s = .next t ∧ t.dev.imp = { s.dev.imp with nor := s.dev.imp.norCopy, norBusy := none, norCopy := [] }
        ∧ t.dev.rd Reg.IMP_STORED_SERIAL = s.dev.imp.norSerial ∧ t.dev.stat pIMP 17 = false ∧ t.dev.bit (Reg.IRQ_RAW pIMP) 17 = true
        ∧ page t ∧ regsKept [Reg.IMP_STORED_SERIAL, Reg.STATUS pIMP, Reg.IRQ_RAW pIMP] s t)
    ∧ (s.dev.imp.norBusy = some 4 →
      ∃ t, exec .norOpComplete s = .next t ∧ t.dev.imp = { s.dev.imp with nor := [], norBusy := none, norCopy := [] }
        ∧ t.dev.rd Reg.IMP_STORED_SERIAL = 0#32 ∧ t.dev.stat pIMP 17 = false ∧ t.dev.bit (Reg.IRQ_RAW pIMP) 17 = true
        ∧ page t ∧ regsKept [Reg.IMP_STORED_SERIAL, Reg.STATUS pIMP, Reg.IRQ_RAW pIMP] s t)

/-- A committed pose sample is taken, or refused with the code of the first test that fails. An accepted PIN_COMMIT submits the sample of the PIN words. Where no test of R120 fails it is the newest sample, the one before it is kept beside it, and POSE_ACC_CNT is one more. Where one fails no sample changes: POSE_REF_CNT is one more, LAST_REFUSE holds the source 0 and the code of the first failing test, and IRQ_RAW.REFUSED is set. Nothing else but the answer changes. (05_implement_model_and_pose.md) Where it rests on log entries 20, 21, 25, 45, that part is the model's choice and no rule of the spec. -/
def Obligations.PoseSamples : Prop :=
  ∀ (req : Requester) (tbase : Bool) (s : State), Accepts req Reg.POSE_PIN_COMMIT (if tbase then 1#32 else 0#32) s →
    let code := s.dev.sampleCode (s.dev.pinSample tbase) ⟨0, tbase && s.dev.tbgState = tbgNone, s.dev.fld Reg.POSE_PIN_QUAL 3 0, false⟩
    (code = 0 →
      ∃ t, exec (.poseSample req tbase) s = .next t ∧ answerTo req t = ⟨.ok, 1, []⟩ ∧ t.dev.pose.newest = some (s.dev.pinSample tbase)
        ∧ t.dev.pose.before = s.dev.pose.newest ∧ t.dev.pose.fresh = true
        ∧ t.dev.rd Reg.POSE_POSE_ACC_CNT = s.dev.rd Reg.POSE_POSE_ACC_CNT + 1#32
        ∧ differOnly (fun d => { d with pose := {}, fab := {}, pow := {} }) s t ∧ regsKept [Reg.POSE_POSE_ACC_CNT] s t)
    ∧ (code ≠ 0 →
      ∃ t, exec (.poseSample req tbase) s = .next t ∧ answerTo req t = ⟨.ok, 1, []⟩
        ∧ t.dev.rd Reg.POSE_POSE_REF_CNT = s.dev.rd Reg.POSE_POSE_REF_CNT + 1#32
        ∧ t.dev.rdN Reg.POSE_LAST_REFUSE = code ∧ t.dev.bit (Reg.IRQ_RAW pPOSE) 17 = true
        ∧ differOnly (fun d => { d with fab := {}, pow := {} }) s t
        ∧ regsKept [Reg.POSE_POSE_REF_CNT, Reg.POSE_LAST_REFUSE, Reg.IRQ_RAW pPOSE] s t)

/-- A warm controller reset keeps what R416 retains, loses the rest and names its cause. With no reset or power-fail sequence under way, HOST_PIN_RESET, SOFT_RESET and SYS_WATCHDOG (4 x T_F after the last turn) complete: RESET_CAUSE holds the cause and whether a channel was on, RESET_CNT is one more, LAST_RST_TBM holds TB-M, the output path is disarmed for a reset, the action queue and what the commits had under way are gone, pending copies equal the active ones, the active image, the stored image, the pairing keys, the ledger, the record store, TB-M, TB-S and TB-N stay, every register word that R416 retains reads as before but for the listed ones, and every other but STATUS words and ARM_POLICY reads its reset value. A second cause in the cycle of a reset only lowers the code. (16_recovery_timeouts_and_reset.md) Where it rests on log entries 138, 139, 140, that part is the model's choice and no rule of the spec. -/
def Obligations.ControllerResets : Prop :=
  ∀ (req : Requester) (s : State),
    let idle (x : State) : Prop := x.dev.pow.held = false ∧ x.dev.pow.pfAt = none ∧ x.dev.sup.resumeAt ≠ some (x.dev.tm.tbm + 2000000)
    let touched (a : Nat) : Prop := (∃ p, a = Reg.STATUS p) ∨ a ∈ [Reg.SYS_RESET_CAUSE, Reg.SYS_RESET_CNT, Reg.SYS_LAST_RST_TBM,
      Reg.SYS_LAST_RST_TBM + 4, Reg.SYS_OUT_STATE, Reg.ATT_ARM_POLICY, Reg.REC_SUPP_TOTAL, Reg.TIME_TBG_STATE, Reg.TIME_PPS_STATUS, Reg.WDG_SYS_WD_CNT,
      Reg.MAP_UNPAINTED_US, Reg.MAP_UNPAINTED_US + 4]
    let reset (cause : Nat) (x t : State) : Prop :=
      t.dev.rd Reg.SYS_RESET_CAUSE = causeWordOf cause x.dev.anyOn false ∧ t.dev.rd Reg.SYS_RESET_CNT = x.dev.rd Reg.SYS_RESET_CNT + 1#32
        ∧ t.dev.rd64 Reg.SYS_LAST_RST_TBM = x.dev.tm.tbm % 2 ^ 64 ∧ t.dev.armed = false ∧ t.dev.fld Reg.SYS_OUT_STATE 7 4 = 1
        ∧ t.dev.rd Reg.WDG_SYS_WD_CNT = (if cause = rcWDG then x.dev.rd Reg.WDG_SYS_WD_CNT + 1#32 else x.dev.rd Reg.WDG_SYS_WD_CNT)
        ∧ t.dev.pend = [] ∧ t.dev.cross = [] ∧ t.dev.eds = {} ∧ t.dev.imp.active = x.dev.imp.active ∧ t.dev.imp.nor = x.dev.imp.nor
        ∧ t.dev.fab.pairKeys = x.dev.fab.pairKeys ∧ t.dev.tm.tbm = x.dev.tm.tbm ∧ t.dev.tm.tbsP = x.dev.tm.tbsP ∧ t.dev.tm.tbnU = x.dev.tm.tbnU
        ∧ t.ldg = x.ldg ∧ t.rcd = x.rcd ∧ t.pending = x.pending
        ∧ (∀ a, warmKeeps a = true → ¬ touched a → t.dev.rd a = x.dev.rd a)
        ∧ (∀ a, warmKeeps a = false → ¬ touched a → t.dev.rd a = resetWord a)
    (idle s → ∃ t, exec .hostPinReset s = .next t ∧ reset rcPIN s t)
    ∧ (Accepts req Reg.SYS_RST_CMD 0x57534554#32 s → idle s →
      ∃ t, exec (.softReset req) s = .next t ∧ reset rcSOFT s t ∧ answerTo req t = ⟨.ok, 1, []⟩)
    ∧ (s.dev.frm.turned = true → s.dev.sup.resumeAt = none → s.dev.pow.held = false → s.dev.pow.pfAt = none → s.dev.powerState ≤ 1 →
      ∃ x t, exec .sysWatchdog s = .next t ∧ reset rcWDG x t ∧ s.dev.frm.turnTbm + 4 * s.dev.tf ≤ x.dev.tm.tbm
        ∧ x = { s with dev := { s.dev with tm := x.dev.tm } })
    ∧ (s.dev.pow.held = false → s.dev.pow.pfAt = none → s.dev.sup.resumeAt = some (s.dev.tm.tbm + 2000000) →
      ∃ t, exec .hostPinReset s = .next t ∧ t.dev.fld Reg.SYS_RESET_CAUSE 3 0 = min 3 (s.dev.fld Reg.SYS_RESET_CAUSE 3 0)
        ∧ differOnly id s t ∧ regsKept [Reg.SYS_RESET_CAUSE] s t)

/-- A power-on reset keeps only what the stores hold; without power nothing answers. POWER_ON_RESET completes: RESET_CAUSE is POR, the time bases, the outputs, the pending and active copies but the stored words are as after reset, the stored image and the pairing keys stay, the ledger resumes from its newest slot, and the next record number is at least the reserved one. POWER_LOSS completes: the fabric does not answer, and the ring, the power-fail area, the failure log, the keys and the ledger's slots stay, while undrained records are gone. (14_application_ledger_and_fault_coverage.md, 16_recovery_timeouts_and_reset.md, 17_strata_recorder.md, 18_power_ladder.md) Where it rests on log entries 141, 142, 167, 168, that part is the model's choice and no rule of the spec. -/
def Obligations.PowerOnAndLoss : Prop :=
  ∀ s : State,
    (∃ t, exec .powerOnReset s = .next t ∧ t.dev.rd Reg.SYS_RESET_CAUSE = 1#32 ∧ t.dev.tm = {} ∧ t.dev.drv = {} ∧ t.dev.pend = [] ∧ t.dev.cross = []
        ∧ t.dev.conf = [] ∧ t.dev.imp = { nor := s.dev.imp.nor } ∧ t.dev.fab.pairKeys = s.dev.fab.pairKeys ∧ t.dev.fab.sessions = [none, none]
        ∧ t.ldg.slots = s.ldg.slots ∧ (s.ldg.newest = none → t.ldg.book = {})
        ∧ (∀ x, s.ldg.newest = some x → t.ldg.book.entries = x.book.entries ∧ t.ldg.book.sessId = x.book.sessId)
        ∧ t.rcd.nextSeq = s.rcd.reserved ∧ t.rcd.pf = none ∧ t.rcd.keys = s.rcd.keys ∧ t.rcd.undrained = [] ∧ t.pending = s.pending
        ∧ (∀ a, a ∉ storedWords → a ∉ [Reg.SYS_RESET_CAUSE, Reg.ATT_ARM_POLICY, Reg.FAULT pLDG, Reg.IRQ_RAW pLDG] → t.dev.rd a = resetWord a)
        ∧ (∀ a ∈ storedWords, t.dev.rd a = s.dev.rd a) ∧ t.dev.rd Reg.ATT_ARM_POLICY = s.dev.rd Reg.ATT_ARM_POLICY_NEXT)
    ∧ (∃ t, exec .powerLoss s = .next t ∧ t.dev.fabricUp = false ∧ t.dev.drv = {} ∧ t.ldg.slots = s.ldg.slots ∧ t.rcd.ring = s.rcd.ring
        ∧ t.rcd.pf = s.rcd.pf ∧ t.rcd.failLog = s.rcd.failLog ∧ t.rcd.keys = s.rcd.keys ∧ t.rcd.nextSeq = s.rcd.nextSeq
        ∧ t.rcd.undrained = [] ∧ t.dev.imp.nor = s.dev.imp.nor ∧ t.dev.fab.pairKeys = s.dev.fab.pairKeys)

/-- A power-fail warning closes the outputs, its flush holds the controller in reset, and recovery restarts it with cause PF. A warning below 8.5 V in RUN, SLACK or EBB completes: the output path is disarmed with reason 3, the action queue is empty, the sequence runs from now, and the ledger and the record store are as before; at 8.5 V or above nothing happens. The flush that ends it puts the ledger into a slot marked as of a power-fail, holds the controller in reset so that the fabric does not answer, and, late, leaves no power-fail area. Recovery restarts the controller: RESET_CAUSE names PF and whether the flush completed, RESET_CNT is one more, the path is disarmed for a power-fail, no area remains to import, the ledger is as before, and the fabric answers in RUN. (14_application_ledger_and_fault_coverage.md, 16_recovery_timeouts_and_reset.md, 17_strata_recorder.md) Where it rests on log entries 2, 140, that part is the model's choice and no rule of the spec. -/
def Obligations.PowerFailSequence : Prop :=
  ∀ (milliV : Nat) (inTime : Bool) (t0 : Nat) (s : State),
    (milliV < 8500 → s.dev.powerState ≤ 2 → s.dev.pow.pfAt = none → s.dev.pow.held = false →
      ∃ t, exec (.powerFailWarning milliV) s = .next t ∧ t.dev.pow.pfAt = some s.dev.tm.tbm ∧ t.dev.armed = false
        ∧ t.dev.fld Reg.SYS_OUT_STATE 7 4 = 3 ∧ t.dev.eds = {} ∧ t.dev.tm = s.dev.tm ∧ t.ldg = s.ldg ∧ t.rcd = s.rcd)
    ∧ (8500 ≤ milliV → exec (.powerFailWarning milliV) s = .next s)
    ∧ (s.dev.pow.pfAt = some t0 → s.dev.pow.held = false → s.ldg.slots.length = 2 →
      ∃ t, exec (.powerFailFlushDone inTime) s = .next t ∧ t.dev.pow.held = true ∧ t.dev.fabricUp = false ∧ t.dev.drv.strobeStop.isSome = true
        ∧ t.ldg.book = s.ldg.book ∧ t.ldg.flushing = none
        ∧ (inTime = false → t.dev.pow.pfFlushed = false ∧ t.rcd.pf = none)
        ∧ (t.dev.pow.pfFlushed = true → t.rcd.pf = some ⟨t.rcd.undrained, t.dev.rcf.refused⟩
            ∧ ∃ x ∈ t.ldg.slots, ∃ y, x = some y ∧ y.pf = true ∧ y.book = s.ldg.book.resetFlight))
    ∧ (s.dev.pow.pfAt = some t0 → s.dev.pow.held = true →
      ∃ t, exec .powerFailRecovery s = .next t ∧ t.dev.rd Reg.SYS_RESET_CAUSE = causeWordOf rcPF s.dev.anyOn s.dev.pow.pfFlushed
        ∧ t.dev.rd Reg.SYS_RESET_CNT = s.dev.rd Reg.SYS_RESET_CNT + 1#32 ∧ t.dev.rd Reg.SYS_OUT_STATE = 0x30#32
        ∧ t.dev.pow.pfAt = none ∧ t.dev.pow.held = false ∧ t.dev.pend = [] ∧ t.dev.cross = [] ∧ t.rcd.pf = none ∧ t.rcd.nextSeq = s.rcd.nextSeq
        ∧ t.ldg = s.ldg ∧ t.dev.tm.tbm = s.dev.tm.tbm ∧ t.dev.imp.active = s.dev.imp.active
        ∧ (s.dev.powerState = 0 → t.dev.fabricUp = true))

/-- The power ladder: an entry is accepted or refused with its code, goes down one state at a time, and a wake leads back to RUN. POWER_ENTRY with no refusing code keeps PWR_TARGET for the next turn; with a code it is answered LEN, PWR_REFUSE holds the code and FAULT.REFUSE is set. POWER_ENTRY_SEQUENCE of an entry with no wake goes one state down: PWR_STATE and the deepest state name it, the entry ends at its goal, the ledger's counters stay, and each state does its own: SLACK ends the heartbeat supervision, NEAP empties the map window, COVE loses TB-G and the map's memory, STRAND closes the record store. A wake ends the entry where it is. WAKE_EVENT records its line and acts where it is enabled and the state accepts it. WAKE_EXIT leads to RUN, disarmed, with WAKE_SRC, WAKE_CNT and IRQ_RAW.WAKE; from NEAP and below with VLOGIC out of range it only sets WAKE_PEND; from STRAND it is a controller reset with cause WAKE. (18_power_ladder.md) Where it rests on log entries 2, 124, 143, 144, 145, that part is the model's choice and no rule of the spec. -/
def Obligations.PowerLadder : Prop :=
  ∀ (req : Requester) (src : WakeSource) (g : Nat) (s : State),
    (let u := arrived Reg.PWR_PWR_CMD s;
      Accepts req Reg.PWR_PWR_CMD 1#32 u → u.entryCode = 0 →
      exec (.powerEntry req) s = .next (acceptedWrite req Reg.PWR_PWR_CMD (fun d =>
        { d with pow := { d.pow with target := some (d.fld Reg.PWR_PWR_TARGET 2 0) } }) u))
    ∧ (let u := arrived Reg.PWR_PWR_CMD s;
      Accepts req Reg.PWR_PWR_CMD 1#32 u → u.entryCode ≠ 0 →
      ∃ t, exec (.powerEntry req) s = .next t ∧ answerTo req t = ⟨.len, 0, []⟩ ∧ t.dev.rdN Reg.PWR_PWR_REFUSE = u.entryCode
        ∧ t.dev.bit (Reg.FAULT pPWR) 16 = true ∧ t.dev.pow.target = u.dev.pow.target ∧ t.ldg = u.ldg ∧ t.rcd = u.rcd
        ∧ regsKept [Reg.PWR_PWR_REFUSE, Reg.FAULT pPWR, Reg.IRQ_RAW pPWR, Reg.LEN_REJ pPWR, Reg.HOST_LAST_ERR, Reg.HOST_LAST_ERR_ADDR,
            Reg.REC_SUPP_TOTAL] u t)
    ∧ (s.dev.pow.goal = some g → s.dev.pow.wake = 0 → s.dev.powerState ≤ 4 →
      ∃ t, exec .powerEntrySequence s = .next t ∧ t.dev.powerState = s.dev.powerState + 1 ∧ t.dev.fld Reg.PWR_PWR_STATE 6 4 = s.dev.powerState + 1
        ∧ t.dev.pow.goal = (if g ≤ s.dev.powerState + 1 then none else some g) ∧ t.ldg.book = s.ldg.book
        ∧ (s.dev.powerState = 0 → t.dev.stat pHOST 17 = false ∧ t.dev.sup.lost = none ∧ t.ldg = s.ldg ∧ t.rcd = s.rcd)
        ∧ (s.dev.powerState = 1 → t.ldg.flushing = none ∧ t.dev.tm.ppsSince = none ∧ (s.dev.stat pREC 16 = false → t.rcd = s.rcd))
        ∧ (s.dev.powerState = 2 → t.dev.map.win = [] ∧ t.dev.gps.tblUntil.isSome = true)
        ∧ (s.dev.powerState = 3 → t.dev.tbgState = tbgNone ∧ t.dev.map.dir = [] ∧ t.dev.map.win = [])
        ∧ (s.dev.powerState = 4 → t.dev.rcf.closed = true))
    ∧ (s.dev.pow.goal = some g → s.dev.pow.wake ≠ 0 →
      exec .powerEntrySequence s = .next { s with dev := { s.dev with pow := { s.dev.pow with goal := none } } })
    ∧ (∃ t, exec (.wakeEvent src) s = .next t ∧ t.dev.pow.lines.testBit src.bit = src.active ∧ t.dev.pow.supplyBad = !src.vlogicOk
        ∧ (src.active = true → s.dev.bit Reg.PWR_WAKE_EN src.bit = true → wakeAccepts s.dev.powerState src.bit = true →
            t.dev.pow.wake = s.dev.pow.wake ||| 2 ^ src.bit.val)
        ∧ (src.active = false ∨ s.dev.bit Reg.PWR_WAKE_EN src.bit = false ∨ wakeAccepts s.dev.powerState src.bit = false →
            t.dev.pow.wake = s.dev.pow.wake)
        ∧ t.dev.regs = s.dev.regs ∧ differOnly (fun d => { d with pow := {}, tm := {} }) s t)
    ∧ (s.dev.powerState ≠ 0 → s.dev.pow.wake ≠ 0 → s.dev.powerState ≤ 2 ∨ (s.dev.powerState ≤ 4 ∧ s.dev.pow.supplyBad = false) →
      ∃ t, exec .wakeExit s = .next t ∧ t.dev.powerState = 0 ∧ t.dev.rdN Reg.PWR_WAKE_SRC = s.dev.pow.wake % 256
        ∧ t.dev.rd Reg.PWR_WAKE_CNT = s.dev.rd Reg.PWR_WAKE_CNT + 1#32 ∧ t.dev.bit (Reg.IRQ_RAW pPWR) 16 = true ∧ t.dev.armed = false
        ∧ t.dev.pow.wake = 0 ∧ t.dev.pow.goal = none ∧ t.rcd = s.rcd ∧ t.ldg.slots = s.ldg.slots
        ∧ (s.dev.powerState ≤ 3 → t.ldg = s.ldg) ∧ t.dev.imp = s.dev.imp ∧ t.dev.pend = s.dev.pend)
    ∧ (3 ≤ s.dev.powerState → s.dev.pow.wake ≠ 0 → s.dev.pow.supplyBad = true →
      exec .wakeExit s = .next (onDev (·.setStat pPWR 16 true) s))
    ∧ (s.dev.powerState = 5 → s.dev.pow.wake ≠ 0 → s.dev.pow.supplyBad = false →
      ∃ t, exec .wakeExit s = .next t ∧ t.dev.powerState = 0 ∧ t.dev.rd Reg.SYS_RESET_CAUSE = 7#32 ∧ t.dev.armed = false
        ∧ t.dev.imp = { nor := s.dev.imp.nor } ∧ t.dev.tbgState = tbgNone ∧ t.dev.tm.tbm = s.dev.tm.tbm ∧ t.dev.tm.tbsP = s.dev.tm.tbsP
        ∧ t.ldg.slots = s.ldg.slots ∧ t.rcd.nextSeq = s.rcd.nextSeq ∧ t.rcd.keys = s.rcd.keys)

/-- Antenna ports: a short takes the bias away and is retried, an open antenna is flagged, the gain follows the magnitude ratio. With the bias on, ANT_SHORT above 55 mA takes the bias off, sets SHORT and FAULT bit 16 of NAV, and sets the retry 1.0 s on. ANT_BIAS_RETRY, at that instant or later, puts the bias on again; a current above 55 mA is a short once more; a current of at most 50 mA that has been held for 1.0 s clears SHORT and ends the retries. ANT_OPEN below 3 mA with the bias on sets OPEN and FAULT bit 17; at 3 mA or more OPEN is clear. AGC_UPDATE of an enabled port moves the gain by at most one step within 0 to 126, down above 36.0 % and up below 30.0 %. No other register, and no block but the baseband and the record intake, changes. (06_gnss_baseband.md) Where it rests on log entries 2, 3, 4, 46, 47, that part is the model's choice and no rule of the spec. -/
def Obligations.AntennaPorts : Prop :=
  ∀ (port : Fin 4) (milliA ratio r h : Nat) (s : State),
    let quiet (t : State) : Prop := differOnly (fun d => { d with gps := {}, rcf := {}, tm := {} }) s t
      ∧ regsKept [Reg.NAV_ANT_CURR, Reg.NAV_ANT_STAT, Reg.NAV_AGC_GAIN, Reg.FAULT pNAV, Reg.IRQ_RAW pNAV, Reg.REC_SUPP_TOTAL] s t
    (s.dev.antBit port abBIAS = true → 55 < milliA →
      ∃ t, exec (.antShort port milliA) s = .next t ∧ t.dev.antBit port abBIAS = false ∧ t.dev.antBit port abSHORT = true
        ∧ t.dev.bit (Reg.FAULT pNAV) 16 = true ∧ (t.dev.ant port).retryAt = some (s.dev.tm.tbm + 1000000000)
        ∧ t.dev.fld Reg.NAV_ANT_CURR (8 * port + 7) (8 * port) = min milliA 255 ∧ t.dev.tm = s.dev.tm ∧ quiet t)
    ∧ ((s.dev.ant port).retryAt = some r → s.dev.biasEn port = true →
      ∃ t, exec (.antBiasRetry port milliA) s = .next t ∧ r ≤ t.dev.tm.tbm ∧ quiet t
        ∧ (55 < milliA → t.dev.antBit port abBIAS = false ∧ t.dev.antBit port abSHORT = true
            ∧ (t.dev.ant port).retryAt = some (t.dev.tm.tbm + 1000000000))
        ∧ (milliA ≤ 55 → t.dev.antBit port abBIAS = true)
        ∧ (milliA ≤ 50 → (s.dev.ant port).heldSince = some h → h + 1000000000 ≤ r →
            t.dev.antBit port abSHORT = false ∧ (t.dev.ant port).retryAt = none))
    ∧ (s.dev.antBit port abBIAS = true →
      ∃ t, exec (.antOpen port milliA) s = .next t ∧ t.dev.antBit port abOPEN = decide (milliA < 3) ∧ t.dev.tm = s.dev.tm ∧ quiet t
        ∧ (milliA < 3 → s.dev.antBit port abOPEN = false → t.dev.bit (Reg.FAULT pNAV) 17 = true))
    ∧ (s.dev.portEn port = true → s.dev.clockLost 6 = false → s.dev.powerState ≤ 1 →
      let g := s.dev.fld Reg.NAV_AGC_GAIN (8 * port + 7) (8 * port)
      ∃ t, exec (.agcUpdate port ratio) s = .next t ∧ quiet t
        ∧ t.dev.fld Reg.NAV_AGC_GAIN (8 * port + 7) (8 * port) = (if 360 < ratio then g - 1 else if ratio < 300 then min (g + 1) 126 else g))

/-- Acquisition jobs run one after another, and results, measurement epochs and navigation words are read in order. JOB_PUSH of a job in range while the queue has room starts it where none runs and the bank is clocked, and queues it where one runs; a job out of range is answered LEN. ACQ_FLUSH empties the queue and ends the running job without a result; a result that waits for room stays. ACQ_JOB_END, NGRP x NC ms of samples after the start, puts the four words of the result at the end of the FIFO while it has room and counts ACQ_DONE; at the basic level the firmware then searches on. MEAS_EPOCH, at the next multiple of 1,636,800 samples, counts EPOCH_SEQ and, while enabled, puts an epoch of a header and eight words for each tracking channel at the end of its queue. NAV_WORD takes the oldest word that a channel in FRAME_SYNC has received and puts its four words at the end of the word queue while it has room; with no word waiting it changes nothing. A read of each port answers the first words of its queue and leaves the rest. (06_gnss_baseband.md) Where it rests on log entries 3, 44, 182, 184, that part is the model's choice and no rule of the spec. -/
def Obligations.AcquisitionAndQueues : Prop :=
  ∀ (req : Requester) (v : W32) (n : Nat) (res : AcqOutcome) (j j' : AcqJob) (start : Nat) (ch : Fin 64) (w : NavWord) (rest : List NavWord)
      (lag number : Nat) (bits : BitVec 30) (miss : Bool) (s : State),
    (let u := arrived Reg.ACQ_JOB_PUSH s;
      Accepts req Reg.ACQ_JOB_PUSH v u → u.dev.acqJob.ok = true → u.dev.gps.jobs.length < 16 →
      ∃ t, exec (.jobPush req v) s = .next t ∧ answerTo req t = ⟨.ok, 1, []⟩
        ∧ (u.dev.gps.running = none → u.dev.gps.waiting = none → u.dev.gps.jobs = [] → u.dev.clockLost 6 = false →
            t.dev.gps.running = some (u.dev.acqJob, u.dev.smp) ∧ t.dev.gps.jobs = [])
        ∧ (u.dev.gps.running = some (j, start) → t.dev.gps.running = some (j, start) ∧ t.dev.gps.jobs = u.dev.gps.jobs ++ [u.dev.acqJob])
        ∧ differOnly (fun d => { d with gps := {}, fab := {}, pow := {} }) u t ∧ regsKept [Reg.ACQ_ACQ_STATE, Reg.IRQ_RAW pACQ] u t)
    ∧ (let u := arrived Reg.ACQ_JOB_PUSH s;
      Accepts req Reg.ACQ_JOB_PUSH v u → u.dev.acqJob.ok = false ∨ 16 ≤ u.dev.gps.jobs.length →
      ∃ t, exec (.jobPush req v) s = .next t ∧ answerTo req t = ⟨.len, 0, []⟩ ∧ t.dev.gps = u.dev.gps)
    ∧ (let u := arrived Reg.ACQ_ACQ_FLUSH s;
      Accepts req Reg.ACQ_ACQ_FLUSH v u →
      ∃ t, exec (.acqFlush req v) s = .next t ∧ answerTo req t = ⟨.ok, 1, []⟩
        ∧ t.dev.gps = { u.dev.gps with jobs := [], running := none }
        ∧ differOnly (fun d => { d with gps := {}, fab := {}, pow := {} }) u t ∧ regsKept [Reg.ACQ_ACQ_STATE, Reg.IRQ_RAW pACQ] u t)
    ∧ (s.dev.gps.running = some (j, start) → ceilDiv s.dev.gps.results.length 4 < 16 →
      exec (.acqJobEnd res) s = .next (onDev (fun d =>
        let e := d.toTbm (d.smpTbm (start + j.ngrp * j.nc * 16368))
        (e.acqResult (e.acqWords j start res)).fwSearch) s))
    ∧ (s.dev.gps.running = some (j, start) → ceilDiv s.dev.gps.results.length 4 < 16 → s.dev.fwOwns = false →
      ∃ t, exec (.acqJobEnd res) s = .next t ∧ t.dev.gps.results = s.dev.gps.results ++ s.dev.acqWords j start res
        ∧ t.dev.rd Reg.ACQ_ACQ_DONE = s.dev.rd Reg.ACQ_ACQ_DONE + 1#32 ∧ t.dev.bit (Reg.IRQ_RAW pACQ) 16 = true
        ∧ s.dev.smpTbm (start + j.ngrp * j.nc * 16368) ≤ t.dev.tm.tbm
        ∧ (∀ later, s.dev.gps.jobs = j' :: later → s.dev.clockLost 6 = false → s.dev.powerState ≤ 1 →
            ∃ st', t.dev.gps.running = some (j', st') ∧ t.dev.gps.jobs = later)
        ∧ (s.dev.gps.jobs = [] → t.dev.gps.running = none)
        ∧ differOnly (fun d => { d with gps := {}, tm := {} }) s t)
    ∧ (s.dev.gps.running = some (j, start) → 16 ≤ ceilDiv s.dev.gps.results.length 4 → s.dev.fwOwns = false →
      ∃ t, exec (.acqJobEnd res) s = .next t ∧ t.dev.gps.results = s.dev.gps.results ∧ t.dev.gps.running = none ∧ t.dev.gps.waiting.isSome = true)
    ∧ (let u := arrived Reg.ACQ_ACQ_RES_PORT s;
      Readable req Reg.ACQ_ACQ_RES_PORT u → u.dev.gps.waiting = none →
      ∃ t, exec (.acqResultRead req n) s = .next t ∧ answerTo req t = ⟨.ok, (u.dev.gps.results.take n).length, u.dev.gps.results.take n⟩
        ∧ t.dev.gps.results = u.dev.gps.results.drop n)
    ∧ (s.dev.clockLost 6 = false → s.dev.powerState ≤ 1 →
      let edge := max (s.dev.gps.lastEpoch + 1636800) (s.dev.smp / 1636800 * 1636800)
      let k := ((List.range 64).filter s.dev.tcTracks).length
      ∃ t, exec (.measEpoch lag) s = .next t ∧ t.dev.rd Reg.NAV_EPOCH_SEQ = s.dev.rd Reg.NAV_EPOCH_SEQ + 1#32
        ∧ t.dev.gps.lastEpoch = edge ∧ s.dev.smpTbm edge ≤ t.dev.tm.tbm
        ∧ (s.dev.bit Reg.NAV_MEAS_CTRL 0 = true →
            ∃ ws, t.dev.gps.epochs.getLast? = some ws ∧ ws.length = 8 + 8 * k ∧ field (ws.getD 0 0) 31 24 = 0xE5 ∧ field (ws.getD 0 0) 23 16 = k
              ∧ ws.getD 1 0 = lo32 edge ∧ ws.getD 2 0 = hi32 edge)
        ∧ (s.dev.bit Reg.NAV_MEAS_CTRL 0 = false → t.dev.gps.epochs = s.dev.gps.epochs)
        ∧ t.ldg = s.ldg ∧ t.rcd = s.rcd ∧ t.dev.drv = s.dev.drv)
    ∧ (let u := arrived Reg.NAV_MEAS_PORT s;
      Readable req Reg.NAV_MEAS_PORT u →
      ∃ t, exec (.measRead req n) s = .next t
        ∧ answerTo req t = ⟨.ok, (u.dev.gps.epochs.flatten.take n).length, u.dev.gps.epochs.flatten.take n⟩
        ∧ t.dev.gps.epochs.flatten = u.dev.gps.epochs.flatten.drop n)
    ∧ (s.dev.tcState ch = tsFRAME → (s.dev.tc ch).words = w :: rest → s.dev.bit Reg.NAV_NAVW_CTRL 0 = true →
      s.dev.bit Reg.NAV_NAVW_CTRL 1 = false → s.dev.gps.words.length ≤ 1020 →
      ∃ t, exec (.navWord ch w.number w.bits w.prev.isNone) s = .next t
        ∧ t.dev.gps.words = s.dev.gps.words ++ s.dev.navwEntry ch w
        ∧ (t.dev.tc ch).words = rest ∧ differOnly (fun d => { d with gps := {} }) s t
        ∧ regsKept [Reg.NAV_NAVW_LEVEL, Reg.STATUS pNAV, Reg.IRQ_RAW pNAV] s t)
    ∧ (s.dev.tcState ch ≠ tsFRAME ∨ ((s.dev.tc ch).words.map (fun x => (x.number, x.bits, x.prev.isNone))).head? ≠ some (number, bits, miss) → exec (.navWord ch number bits miss) s = .next s)
    ∧ (let u := arrived Reg.NAV_NAVW_PORT s;
      Readable req Reg.NAV_NAVW_PORT u →
      ∃ t, exec (.navwRead req n) s = .next t ∧ answerTo req t = ⟨.ok, (u.dev.gps.words.take n).length, u.dev.gps.words.take n⟩
        ∧ t.dev.gps.words = u.dev.gps.words.drop n)

/-- A tracking channel goes from START through its states, and is lost for a named reason. START with a reference sample of the last second begins pull-in with the channel's satellite and port, its code phase carried from the reference sample to now at its Doppler, and slips, dump count and carrier cleared; with an older one it sets the channel's fault bit and the channel stays as it was. STOP makes the channel IDLE. A dump of an active channel comes 1 ms or more after its last one; it writes the ten correlators, the code phase, the Doppler and C/N0, advances the carrier, counts the dump and the run of good lock, and keeps the state; on a disabled port it loses the channel for reason ANT. A channel that has held its lock for 100 dumps goes on to TRACK, one whose bit edge has passed its test to BIT_SYNC, one with two preambles 6,000 ms apart to FRAME_SYNC with HALF_CYC and the transmit time, and one that has missed two preambles back to BIT_SYNC; without these conditions nothing changes. LOSS_TIME after its C/N0 fell a channel that tracks is LOST for reason CN0, PULLIN_MAX after its start one in pull-in for reason PULLIN. No other channel's state changes. (06_gnss_baseband.md) Where it rests on log entries 3, 4, 48, 49, 182, 186, 195, that part is the model's choice and no rule of the spec. -/
def Obligations.TrackingChannels : Prop :=
  ∀ (req : Requester) (ch : Fin 64) (dump : Dump) (e k b : Nat) (inv : Bool) (s : State),
    let others (s t : State) : Prop := (∀ c : Fin 64, c ≠ ch → t.dev.tcState c = s.dev.tcState c) ∧ t.ldg = s.ldg ∧ t.rcd = s.rcd ∧ t.dev.drv = s.dev.drv
    let changed (t : State) : Prop := t.dev.bit (Reg.IRQ_RAW (pTC ch)) (16 + ch % 8) = true
    (let u := arrived (Reg.TC_CMD ch) s;
      Accepts req (Reg.TC_CMD ch) 1#32 u → u.dev.tcRefOk ch = true →
      let dop := u.dev.rdI (Reg.TC_INIT_DOP ch) * 1000
      let gone := (w32 u.dev.smp - u.dev.rd (Reg.TC_INIT_REF ch)).toNat
      ∃ t, exec (.tcStart req ch) s = .next t ∧ answerTo req t = ⟨.ok, 1, []⟩ ∧ t.dev.tcState ch = tsPULL ∧ changed t
        ∧ (t.dev.tc ch).prn = u.dev.fld (Reg.TC_CFG ch) 29 24 ∧ (t.dev.tc ch).port = u.dev.fld (Reg.TC_CFG ch) 31 30
        ∧ (t.dev.tc ch).pullAt = u.dev.tm.tbm ∧ t.dev.rd (Reg.TC_SLIP ch) = 0#32 ∧ t.dev.rd (Reg.TC_DUMP_SEQ ch) = 0#32
        ∧ t.dev.rd64 (Reg.TC_CARR ch) = 0 ∧ t.dev.rd (Reg.TC_DOP ch) = w32i dop
        ∧ (t.dev.rdN (Reg.TC_CODE ch) : Int) = ((u.dev.fld (Reg.TC_INIT_CODE ch) 19 0 : Nat) + codeMoves gone 16368 dop) % 1047552 ∧ others u t)
    ∧ (let u := arrived (Reg.TC_CMD ch) s;
      Accepts req (Reg.TC_CMD ch) 1#32 u → u.dev.tcRefOk ch = false →
      ∃ t, exec (.tcStart req ch) s = .next t ∧ t.dev.bit (Reg.FAULT (pTC ch)) (16 + ch % 8) = true ∧ t.dev.gps = u.dev.gps
        ∧ t.dev.tcState ch = u.dev.tcState ch ∧ others u t)
    ∧ (let u := arrived (Reg.TC_CMD ch) s;
      Accepts req (Reg.TC_CMD ch) 2#32 u →
      ∃ t, exec (.tcStop req ch) s = .next t ∧ answerTo req t = ⟨.ok, 1, []⟩ ∧ t.dev.tcState ch = tsIDLE ∧ others u t)
    ∧ (s.dev.tcActive ch = true → s.dev.clockLost 6 = false → s.dev.powerState ≤ 1 →
      (let q := if (s.dev.tc ch).accN = 0 then s.dev.fld (Reg.TC_CFG ch) 31 30 else (s.dev.tc ch).port
      ∃ t, exec (.trackingDump ch dump) s = .next t
        ∧ (s.dev.portEn q = true → t.dev.tcState ch = s.dev.tcState ch)
        ∧ (s.dev.portEn q = false → t.dev.tcState ch = tsLOST ∧ t.dev.fld (Reg.TC_STATE ch) 7 4 = tlANT)
        ∧ [t.dev.rd (Reg.TAP_VE_I ch + 16), t.dev.rd (Reg.TAP_VE_I ch + 20)] = [w32i dump.taps.pI, w32i dump.taps.pQ]
        ∧ [t.dev.rd (Reg.TAP_VE_I ch), t.dev.rd (Reg.TAP_VE_I ch + 36)] = [w32i dump.taps.veI, w32i dump.taps.vlQ]
        ∧ t.dev.rdN (Reg.TC_CODE ch) = dump.code ∧ t.dev.rd (Reg.TC_DOP ch) = w32i dump.dop ∧ t.dev.rd (Reg.TC_CN0 ch) = sat32 dump.cn0
        ∧ t.dev.rd64 (Reg.TC_CARR ch) = (s.dev.rd64 (Reg.TC_CARR ch) + unsigned64 dump.carr) % 2 ^ 64
        ∧ t.dev.rd (Reg.TC_DUMP_SEQ ch) = s.dev.rd (Reg.TC_DUMP_SEQ ch) + 1#32
        ∧ (t.dev.tc ch).lockRun = (if t.dev.phValid ch then (s.dev.tc ch).lockRun + 1 else 0)
        ∧ (s.dev.tc ch).dumpAt + 1000000 ≤ t.dev.tm.tbm ∧ (t.dev.tc ch).dumpAt = t.dev.tm.tbm ∧ others s t))
    ∧ (s.dev.tcState ch = tsPULL → 100 ≤ (s.dev.tc ch).lockRun →
      ∃ t, exec (.tcPullInDone ch) s = .next t ∧ t.dev.tcState ch = tsTRACK ∧ (t.dev.tc ch).trackAt = s.dev.tm.tbm ∧ changed t ∧ others s t)
    ∧ (s.dev.tcState ch = tsTRACK → (s.dev.tc ch).bitReady = some e →
      ∃ t, exec (.tcBitSync ch e) s = .next t ∧ t.dev.tcState ch = tsBIT ∧ (t.dev.tc ch).bitEdge = some e ∧ changed t ∧ others s t)
    ∧ ((s.dev.tc ch).bitReady ≠ some e → exec (.tcBitSync ch e) s = .next s)
    ∧ (s.dev.tcState ch = tsBIT → (s.dev.tc ch).synced = some (k, inv) →
      ∃ t, exec (.tcFrameSync ch inv k) s = .next t ∧ t.dev.tcState ch = tsFRAME ∧ (t.dev.tc ch).half = true
        ∧ (t.dev.tc ch).inverted = inv ∧ t.dev.rd (Reg.TC_TXMS ch) = w32 (2 ^ 31 + ((s.dev.tc ch).ms - k) % 6000)
        ∧ t.dev.rd64 (Reg.TC_CARR ch) = (if inv then (s.dev.rd64 (Reg.TC_CARR ch) + 512) % 2 ^ 64 else s.dev.rd64 (Reg.TC_CARR ch)) ∧ others s t)
    ∧ ((s.dev.tc ch).synced ≠ some (k, inv) → exec (.tcFrameSync ch inv k) s = .next s)
    ∧ (s.dev.tcState ch = tsFRAME → 2 ≤ (s.dev.tc ch).missed →
      ∃ t, exec (.tcPreambleMiss ch) s = .next t ∧ t.dev.tcState ch = tsBIT ∧ (t.dev.tc ch).half = false ∧ t.dev.rd (Reg.TC_TXMS ch) = 0#32 ∧ others s t)
    ∧ ((s.dev.tc ch).missed < 2 → exec (.tcPreambleMiss ch) s = .next s)
    ∧ ((s.dev.tc ch).lowSince = some b → s.dev.tcTracks ch = true →
      ∃ t, exec (.tcLoss ch) s = .next t ∧ t.dev.tcState ch = tsLOST ∧ t.dev.fld (Reg.TC_STATE ch) 7 4 = tlCN0
        ∧ b + s.dev.rdN Reg.NAV_LOSS_TIME * 1000000 ≤ t.dev.tm.tbm ∧ t.dev.mapBit Reg.NAV_CH_ACTIVE ch = false ∧ others s t)
    ∧ (s.dev.tcState ch = tsPULL →
      ∃ t, exec (.pullinTimeout ch) s = .next t ∧ t.dev.tcState ch = tsLOST ∧ t.dev.fld (Reg.TC_STATE ch) 7 4 = tlPULLIN
        ∧ (s.dev.tc ch).pullAt + s.dev.rdN Reg.NAV_PULLIN_MAX * 1000000 ≤ t.dev.tm.tbm ∧ t.dev.mapBit Reg.NAV_CH_ACTIVE ch = false ∧ others s t)

/-- Baselines, the solution, the integrity flags, the clock gate, and the bursts in NEAP. While the firmware does not run, a baseline snapshot, a solution and an integrity check change nothing. While it runs: a snapshot falls at the next multiple of 818,400 samples; each baseline takes a step of its search or fix, then the direction test and the fit of the boom follow; with port 0 disabled no baseline is left. A solution shows its status and, where it is 3D and no spoofing is flagged, its position; a 3D solution of four or more satellites, PDOP at most 6 and 100 ns at most locks a TB-G of state NONE at its time. The check, 1 s after the one before, shows the DISTORT and CCD exclusions and sets JAM exactly where the gain of three ports has fallen by AGC_DROP from its mean and the mean C/N0 by 3 dB. A gated return proceeds at CLK_QUIET s without a clock flag, or at ACCEPT_CLOCK; CLEAR_ADVISORY clears the two advisory flags. A burst in NEAP is counted; with two satellites kept it clears BURST_FAIL_RUN and a running TB-G steers by their median, with fewer it counts there. The end of the burst table ends the bursts and sends a locked TB-G to holdover. (06_gnss_baseband.md, 07_antenna_consistency_and_boom_geometry.md) Where it rests on log entries 3, 51, 52, 53, 54, 55, 182, 183, 184, 185, 186, 187, 188, 189, 190, that part is the model's choice and no rule of the spec. -/
def Obligations.NavigationAndIntegrity : Prop :=
  ∀ (req : Requester) (snap : BaselineSet) (sol : NavSol) (burst : BurstResult) (x lag : Nat) (g : TimeFix × Nat) (s : State),
    let runs : Prop := s.dev.mpRuns = true ∧ s.dev.clockLost 6 = false
    let kept (s t : State) : Prop := t.ldg = s.ldg ∧ t.rcd = s.rcd ∧ t.dev.drv = s.dev.drv
    let cn0 := meanOf s.dev.allCn0
    let jam : Bool := decide (([0, 1, 2, 3].filter (fun p => s.dev.gps.gains ≠ [] &&
        decide (s.dev.fld Reg.NAV_AGC_GAIN (8 * p + 7) (8 * p) + s.dev.rdN Reg.INTEG_AGC_DROP ≤ meanOf (s.dev.gps.gains.map (fun l => l.getD p 0))))).length ≥ 3)
      && decide (cn0 + 30 ≤ if s.dev.gps.cn0s = [] then cn0 else meanOf s.dev.gps.cn0s)
    let sats := s.dev.burstKept burst
    let edge := max (s.dev.gps.lastSnap + 818400) (s.dev.smp / 818400 * 818400)
    (s.dev.mpRuns = false ∨ s.dev.clockLost 6 = true →
      exec (.baselineSnapshot snap) s = .next s ∧ exec (.navSolution sol) s = .next s ∧ exec (.integrityCheck lag) s = .next s)
    ∧ (runs → ∃ t, exec (.baselineSnapshot snap) s = .next t ∧ kept s t ∧ t.dev.gps.lastSnap = edge ∧ s.dev.smpTbm edge ≤ t.dev.tm.tbm
        ∧ (s.dev.portEn 0 = false → ∀ k, 1 ≤ k → k ≤ 3 → t.dev.blState k = bsNONE)
        ∧ t.dev.regs = ((((s.dev.toTbm (s.dev.smpTbm edge)).blStep 1 snap.bl1).blStep 2 snap.bl2).blStep 3 snap.bl3).directionTest.geoFit.regs)
    ∧ (runs → s.dev.integ ifSPOOF = false → ∃ t, exec (.navSolution sol) s = .next t ∧ kept s t
        ∧ t.dev.rdN Reg.NAV_SOL_STATUS = (if sol.fix3d then 2 else 0) + min sol.sats 63 * 2 ^ 8 + min sol.pdop 65535 * 2 ^ 16
        ∧ (sol.fix3d = true → t.dev.rd Reg.NAV_SOL_LAT = w32i sol.lat ∧ t.dev.rd Reg.NAV_SOL_LON = w32i sol.lon ∧ t.dev.rd Reg.NAV_SOL_H = w32i sol.h
            ∧ t.dev.rd Reg.NAV_SOL_HACC = sat32 sol.hacc)
        ∧ (s.dev.tbgState = tbgNone → s.dev.integ ifJUMP = false → s.dev.integ ifDRIFT = false →
            sol.fix3d = true → 4 ≤ sol.sats → sol.pdop ≤ 600 → sol.time.uncNs ≤ 100 →
            t.dev.tbgState = tbgLocked ∧ t.dev.tm.tbgP = sol.time.gpsNs * pU)
        ∧ (s.dev.tbgState = tbgNone → sol.fix3d = false → t.dev.tbgState = tbgNone))
    ∧ (runs → ∃ t, exec (.integrityCheck lag) s = .next t ∧ kept s t ∧ t.dev.gps.checkAt = some (t.dev.tm.tbm - lag / 10 * 10)
        ∧ (s.dev.gps.checkAt = some x → x + 1000000000 + lag / 10 * 10 ≤ t.dev.tm.tbm) ∧ t.dev.integ ifJAM = jam
        ∧ t.dev.integ ifDISTORT = (List.range 64).any (fun c => (t.dev.tc c).distortAt.isSome)
        ∧ t.dev.integ ifCCD = (List.range 64).any (fun c => (t.dev.tc c).ccd)
        ∧ (jam = true → t.dev.bit (Reg.FAULT pINTEG) 17 = true))
    ∧ (s.dev.gps.gated = some g → s.dev.clkSound = true → s.dev.clockLost 6 = false →
      ∃ t, exec .clkGateRelease s = .next t ∧ kept s t ∧ t.dev.gps.gated = none ∧ t.dev.integ ifGATED = false
        ∧ s.dev.gps.clkQuiet + s.dev.rdN Reg.INTEG_CLK_QUIET * 1000000000 ≤ t.dev.tm.tbm)
    ∧ (let u := arrived Reg.INTEG_INTEG_CMD s;
      Accepts req Reg.INTEG_INTEG_CMD 1#32 u → u.dev.gps.gated = some g →
      ∃ t, exec (.acceptClock req) s = .next t ∧ answerTo req t = ⟨.ok, 1, []⟩ ∧ kept u t ∧ t.dev.gps.gated = none ∧ t.dev.integ ifGATED = false)
    ∧ (let u := arrived Reg.INTEG_INTEG_CMD s;
      Accepts req Reg.INTEG_INTEG_CMD 2#32 u →
      ∃ t, exec (.clearAdvisory req) s = .next t ∧ answerTo req t = ⟨.ok, 1, []⟩ ∧ kept u t ∧ t.dev.integ ifFLAT = false ∧ t.dev.integ ifPOWER = false
        ∧ (∀ b, b < 32 → b ≠ ifFLAT → b ≠ ifPOWER → t.dev.integ b = u.dev.integ b))
    ∧ (s.dev.powerState = 3 → s.dev.pow.wake = 0 → s.dev.gps.tblUntil = some x → s.dev.tbgState ≠ tbgNone →
      ∃ t, exec (.neapBurst burst) s = .next t ∧ kept s t ∧ t.dev.rd Reg.BURST_BURST_CNT = s.dev.rd Reg.BURST_BURST_CNT + 1#32
        ∧ (2 ≤ sats.length → t.dev.rd Reg.BURST_BURST_FAIL_RUN = 0#32
            ∧ t.dev.fld Reg.BURST_BURST_LAST 3 0 = sats.length % 16
            ∧ (s.dev.tbgState ≠ tbgHoldoverS → t.dev.tm.tbgErrP = -medianI (sats.map (·.1)) * pU))
        ∧ (sats.length < 2 → t.dev.rd Reg.BURST_BURST_FAIL_RUN = s.dev.rd Reg.BURST_BURST_FAIL_RUN + 1#32
            ∧ t.dev.rdN Reg.BURST_BURST_LAST = sats.length
            ∧ (s.dev.tbgState = tbgLocked → s.dev.rd Reg.BURST_BURST_FAIL_RUN + 1#32 = s.dev.rd Reg.BURST_BURST_FAIL_MAX →
                t.dev.tbgState = tbgHoldoverS ∧ t.dev.bit (Reg.FAULT pBURST) 16 = true)))
    ∧ (s.dev.gps.tblUntil = some x →
      ∃ t, exec .burstTableExpiry s = .next t ∧ kept s t ∧ t.dev.gps.tblUntil = none ∧ t.dev.gps.table = [] ∧ x ≤ t.dev.tm.tbm
        ∧ t.dev.bit (Reg.IRQ_RAW pBURST) 17 = true
        ∧ (s.dev.tbgState = tbgLocked → t.dev.tbgState = tbgHoldoverS))

/-- The job of the map opens, loads, closes and is discarded; painting, paging, write-back and scrub keep the window. With a job origin, JOB_CMD opens from NONE (with an empty map) or LOADING (with what was loaded), loads from NONE, closes from OPEN with no window slot left dirty, and discards from LOADING or CLOSED with an empty map; in any other state it is answered LEN with FAULT.CMD and the map as it was. MAP_PAINT, where a frame waits to be painted and the SDE stage of this one has run, completes 200 us after the turn (100 us at T_F = 250 us) or later and the frame waits no more. PAGE_IN_COMPLETE leaves the tile asked for in the window, with the stored cells where it had not been there, unknown ones for a tile that is lost. TILE_WRITE_BACK of a dirty slot that reads back leaves it clean, not before its WB_PERIOD; one that does not read back leaves the map as it was. A scrub counts a corrected error, and makes the eight cells of a bad word of a dirty slot unknown. (08_tidemark_map.md) Where it rests on log entries 3, 61, 62, 66, that part is the model's choice and no rule of the spec. -/
def Obligations.MapJobAndWindow : Prop :=
  ∀ (req : Requester) (tile : Nat) (a : PageIn) (w : WinTile) (word : Fin 8192) (readable : Bool) (s : State),
    let kept (t : State) : Prop := t.ldg = s.ldg ∧ t.rcd = s.rcd ∧ t.dev.drv = s.dev.drv
    let job (t : State) (st : Nat) : Prop := answerTo req t = ⟨.ok, 1, []⟩ ∧ t.dev.jobState = st ∧ t.dev.bit (Reg.IRQ_RAW pMAP) 19 = true ∧ kept t
    let refused (t : State) : Prop := answerTo req t = ⟨.len, 0, []⟩ ∧ t.dev.map = s.dev.map ∧ t.dev.bit (Reg.FAULT pMAP) 20 = true
      ∧ t.dev.jobState = s.dev.jobState ∧ kept t
    (Accepts req Reg.MAP_JOB_CMD 1#32 s → s.dev.stat pPOSE 16 = true →
      (s.dev.jobState = joNONE → ∃ t, exec (.jobOpen req) s = .next t ∧ job t joOPEN ∧ t.dev.map.dir = [] ∧ t.dev.map.win = [])
      ∧ (s.dev.jobState = joLOADING → ∃ t, exec (.jobOpen req) s = .next t ∧ job t joOPEN ∧ t.dev.map = s.dev.map)
      ∧ (s.dev.jobState = joOPEN ∨ s.dev.jobState = joCLOSED → ∃ t, exec (.jobOpen req) s = .next t ∧ refused t))
    ∧ (Accepts req Reg.MAP_JOB_CMD 2#32 s → s.dev.stat pPOSE 16 = true →
      (s.dev.jobState = joNONE → ∃ t, exec (.jobLoad req) s = .next t ∧ job t joLOADING ∧ t.dev.map.dir = [] ∧ t.dev.map.win = [])
      ∧ (s.dev.jobState ≠ joNONE → ∃ t, exec (.jobLoad req) s = .next t ∧ refused t))
    ∧ (Accepts req Reg.MAP_JOB_CMD 3#32 s →
      (s.dev.jobState = joOPEN → ∃ t, exec (.jobClose req) s = .next t ∧ job t joCLOSED ∧ ∀ x ∈ t.dev.map.win, x.dirty = false)
      ∧ (s.dev.jobState ≠ joOPEN → ∃ t, exec (.jobClose req) s = .next t ∧ refused t))
    ∧ (Accepts req Reg.MAP_JOB_CMD 4#32 s →
      (s.dev.jobState = joLOADING ∨ s.dev.jobState = joCLOSED →
        ∃ t, exec (.jobDiscard req) s = .next t ∧ job t joNONE ∧ t.dev.map.dir = [] ∧ t.dev.map.win = [])
      ∧ (s.dev.jobState = joNONE ∨ s.dev.jobState = joOPEN → ∃ t, exec (.jobDiscard req) s = .next t ∧ refused t))
    ∧ (s.dev.map.paintDue = false ∨ s.dev.frm.stage = 0 → exec .mapPaint s = .next s)
    ∧ (s.dev.map.paintDue = true → s.dev.frm.stage ≠ 0 →
      ∃ t, exec .mapPaint s = .next t ∧ t.dev.map.paintDue = false ∧ t.dev.pose = s.dev.pose
        ∧ s.dev.frm.turnTbm + (if s.dev.tf = 250000 then 100000 else 200000) ≤ t.dev.tm.tbm ∧ kept t)
    ∧ (s.dev.map.asks[tile]? = some a →
      ∃ t, exec (.pageInComplete tile readable) s = .next t ∧ t.dev.rd Reg.MAP_PAGE_IN_CNT = s.dev.rd Reg.MAP_PAGE_IN_CNT + 1#32
        ∧ (t.dev.winFind (a.layer, a.x, a.y)).isSome = true ∧ t.dev.tm = s.dev.tm ∧ kept t
        ∧ (readable = true → s.dev.winFind (a.layer, a.x, a.y) = none →
            ∃ x, t.dev.winFind (a.layer, a.x, a.y) = some x ∧ x.cells =
              if s.dev.map.lostKeys.contains (a.layer, a.x, a.y) then uniformRuns cellUnknown else entryCells (s.dev.dirFind (a.layer, a.x, a.y))))
    ∧ (s.dev.map.win[tile]? = some w → w.dirty = true →
      (∃ t, exec (.tileWriteBack tile true) s = .next t ∧ (∀ x ∈ t.dev.map.win, x.key = w.key → x.dirty = false)
        ∧ w.since + s.dev.rdN Reg.MAP_WB_PERIOD * 1000000 ≤ t.dev.tm.tbm ∧ kept t)
      ∧ (∃ t, exec (.tileWriteBack tile false) s = .next t ∧ t.dev.map = s.dev.map ∧ t.dev.regs = s.dev.regs ∧ kept t))
    ∧ (∃ t, exec (.mapScrub [.corrected]) s = .next t ∧ t.dev.rd Reg.MAP_CORR_CNT = sat32 (s.dev.rdN Reg.MAP_CORR_CNT + 1) ∧ t.dev.map = s.dev.map ∧ kept t)
    ∧ (s.dev.map.win[tile]? = some w → w.dirty = true →
      ∃ t, exec (.mapScrub [.window tile word]) s = .next t ∧ t.dev.map.win[tile]? = some { w with cells := loseWord w.cells word }
        ∧ t.dev.rd Reg.MAP_UNK_CELLS = sat32 (s.dev.rdN Reg.MAP_UNK_CELLS + 8) ∧ t.dev.bit (Reg.IRQ_RAW pMAP) 18 = true ∧ kept t)

/-- The map is exported page by page, and tiles and prescriptions are taken in after their checks. In OPEN and CLOSED, EXP_CMD begins an export whose first 64 bytes are the job header: a full one, or one since EXP_SINCE; in NONE and LOADING it is answered LEN. EXPORT_ABANDON ends it. The next page in order is asked for, any other is answered LEN. EXPORT_PAGE_READY fills that page with the stream's next bytes, keeps the rest, and sets IRQ_RAW.PAGE, with IRQ_RAW.END and STATUS at the end of the stream. TILE_IMPORT in LOADING, and PRESCRIPTION_SUBMIT in LOADING or OPEN, of a record that fits give it to the check, with STATUS.IMP_BUSY; outside these states, or while a check runs, they are answered LEN with FAULT.CMD. The check ends at the next turn: a rejected record is counted with its fault bit and changes no tile; an accepted one is counted, a prescription tile then waits for the turn after, and a tile of a layer drops the copy in the window and stands in the directory unless heap or directory is full. (08_tidemark_map.md) Where it rests on log entries 63, 64, 65, that part is the model's choice and no rule of the spec. -/
def Obligations.MapExchange : Prop :=
  ∀ (req : Requester) (page k : Nat) (x : Export) (tl : StoredTile) (rx : Bool) (bs : List Byte) (s : State),
    let kept (t : State) : Prop := t.ldg = s.ldg ∧ t.rcd = s.rcd ∧ t.dev.drv = s.dev.drv
    let rec_ : List Byte := winBytes s.dev.map.expWin (s.dev.rdN Reg.MAP_IMP_LEN)
    let rx_ : List Byte := winBytes s.dev.map.rxWin (s.dev.rdN Reg.MAP_RX_LEN)
    let y := s.dev.exportFill x (s.dev.exportKeys x)
    let begins (t : State) (since : Option Nat) : Prop := answerTo req t = ⟨.ok, 1, []⟩ ∧ t.dev.rd64 Reg.MAP_EXP_LEN = 64
      ∧ (∃ z, t.dev.map.exp = some z ∧ z.since = since ∧ z.tail = s.dev.exportHeader since ∧ z.next = 0 ∧ z.asked = none)
      ∧ t.dev.map.dir = s.dev.map.dir ∧ t.dev.map.win = s.dev.map.win ∧ t.dev.stat pMAP 18 = true ∧ kept t
    (s.dev.jobState = joOPEN ∨ s.dev.jobState = joCLOSED →
      (Accepts req Reg.MAP_EXP_CMD 1#32 s → ∃ t, exec (.exportFull req) s = .next t ∧ begins t none)
      ∧ (Accepts req Reg.MAP_EXP_CMD 2#32 s → ∃ t, exec (.exportSince req) s = .next t ∧ begins t (some (s.dev.rdN Reg.MAP_EXP_SINCE))))
    ∧ (Accepts req Reg.MAP_EXP_CMD 1#32 s → s.dev.jobState = joNONE ∨ s.dev.jobState = joLOADING →
      ∃ t, exec (.exportFull req) s = .next t ∧ answerTo req t = ⟨.len, 0, []⟩ ∧ t.dev.map = s.dev.map ∧ kept t)
    ∧ (Accepts req Reg.MAP_EXP_CMD 3#32 s →
      ∃ t, exec (.exportAbandon req) s = .next t ∧ answerTo req t = ⟨.ok, 1, []⟩ ∧ t.dev.map = { s.dev.map with exp := none }
        ∧ t.dev.stat pMAP 18 = false ∧ kept t)
    ∧ (Accepts req Reg.MAP_EXP_PAGE (w32 page) s → s.dev.map.exp = some x → page < 2 ^ 32 →
      (x.next = page → x.asked = none →
        ∃ t, exec (.exportPageRequest req page) s = .next t ∧ answerTo req t = ⟨.ok, 1, []⟩
          ∧ t.dev.map = { s.dev.map with exp := some { x with asked := some page } } ∧ kept t)
      ∧ (x.next ≠ page ∨ x.asked ≠ none →
        ∃ t, exec (.exportPageRequest req page) s = .next t ∧ answerTo req t = ⟨.len, 0, []⟩ ∧ t.dev.map = s.dev.map ∧ kept t))
    ∧ (s.dev.map.exp = some x → x.asked = some k →
      ∃ t, exec .exportPageReady s = .next t
        ∧ t.dev.map = { s.dev.map with page := y.tail.take 1048576, exp := some { y with tail := y.tail.drop 1048576, next := k + 1, asked := none } }
        ∧ t.dev.bit (Reg.IRQ_RAW pMAP) 16 = true
        ∧ (x.done = false → y.done = true → t.dev.bit (Reg.IRQ_RAW pMAP) 17 = true ∧ t.dev.stat pMAP 18 = false) ∧ kept t)
    ∧ (Accepts req Reg.MAP_IMP_CMD 1#32 s → s.dev.jobState = joLOADING → s.dev.map.check = none →
      recordFits s.dev.map.expWin (s.dev.rdN Reg.MAP_IMP_LEN) = true →
      ∃ t, exec (.tileImport req) s = .next t ∧ answerTo req t = ⟨.ok, 1, []⟩ ∧ t.dev.map = { s.dev.map with check := some (false, rec_) }
        ∧ t.dev.stat pMAP 19 = true ∧ kept t)
    ∧ (Accepts req Reg.MAP_IMP_CMD 1#32 s → s.dev.jobState ≠ joLOADING ∨ s.dev.map.check ≠ none →
      ∃ t, exec (.tileImport req) s = .next t ∧ answerTo req t = ⟨.len, 0, []⟩
        ∧ t.dev.bit (Reg.FAULT pMAP) 20 = true ∧ t.dev.map = s.dev.map ∧ kept t)
    ∧ (Accepts req Reg.MAP_RX_CMD 1#32 s → s.dev.jobState = joLOADING ∨ s.dev.jobState = joOPEN → s.dev.map.check = none →
      recordFits s.dev.map.rxWin (s.dev.rdN Reg.MAP_RX_LEN) = true →
      ∃ t, exec (.prescriptionSubmit req) s = .next t ∧ answerTo req t = ⟨.ok, 1, []⟩ ∧ t.dev.map = { s.dev.map with check := some (true, rx_) }
        ∧ t.dev.stat pMAP 19 = true ∧ kept t)
    ∧ (Accepts req Reg.MAP_RX_CMD 1#32 s → s.dev.jobState = joNONE ∨ s.dev.jobState = joCLOSED →
      ∃ t, exec (.prescriptionSubmit req) s = .next t ∧ answerTo req t = ⟨.len, 0, []⟩ ∧ t.dev.bit (Reg.FAULT pMAP) 20 = true
        ∧ t.dev.map = s.dev.map ∧ kept t)
    ∧ (s.dev.map.check = some (rx, bs) →
      let d := s.dev.endCheck
      d.stat pMAP 19 = false ∧ d.map.check = none
        ∧ (s.dev.importTile rx bs = none → d.rd Reg.MAP_IMP_REJ = s.dev.rd Reg.MAP_IMP_REJ + 1#32 ∧ d.bit (Reg.FAULT pMAP) 18 = true
            ∧ d.map = { s.dev.map with check := none })
        ∧ (s.dev.importTile rx bs = some tl → d.rd Reg.MAP_IMP_ACC = s.dev.rd Reg.MAP_IMP_ACC + 1#32
            ∧ (tl.layer = 8 → d.map = { s.dev.map with check := none, rxNext := s.dev.map.rxNext ++ [tl] })
            ∧ (tl.layer ≠ 8 → (∀ z ∈ d.map.win, z.key ≠ tl.key) ∧ ∀ z, d.dirFind tl.key = some z → z.cells = tl.cells ∨ z.lost = true)))

/-- A published timeline is read in order; a host action is queued, acts at once, is cancelled, expires, or is refused with its code. TIMELINE_SELECT names the channel and starts its read-out; TIMELINE_READ answers the next words of it. ACT_PUSH with an accepted ON, RATE, or an OFF or RELEASE that can wait puts the entry at the end of the pending ones; an OFF of REF NOW leaves its channel off with nothing queued; a RELEASE of REF NOW clears the channel's INHIBIT bit. Either way ACT_RESULT holds the tag and code 0. A refused entry leaves the pending ones, counts ACT_REF_CNT, and ACT_RESULT holds the tag and its code; a full queue answers LEN besides. An entry of another kind than the command's is not pushed. ACT_CANCEL removes the entries of its tag; POS_TTL after its push the oldest POSITION entry leaves, counted in ACT_EXPIRED. (09_section_decisions.md, 10_edge_scheduling_and_latency_learning.md) Where it rests on log entries 74, 88, 89, 91, 158, that part is the model's choice and no rule of the spec. -/
def Obligations.TimelineAndActions : Prop :=
  ∀ (req : Requester) (ch : Fin 512) (n tag : Nat) (a : HostAct) (s : State),
    let x := s.dev.stagedAct
    let kept (t : State) : Prop := t.ldg = s.ldg ∧ t.rcd = s.rcd
    let queued (t : State) : Prop := t.dev.eds.acts = s.dev.eds.acts ++ [{ x with t := s.dev.actTime x }] ∧ t.dev.rdN Reg.EDS_ACT_RESULT = x.tag * 2 ^ 16
      ∧ answerTo req t = ⟨.ok, 1, []⟩ ∧ t.dev.drv = s.dev.drv ∧ kept t
      ∧ differOnly (fun d => { d with eds := {}, fab := {}, pow := {} }) s t ∧ regsKept [Reg.EDS_ACT_RESULT, Reg.EDS_ACT_LEVEL, Reg.STATUS pEDS] s t
    let refused (t : State) : Prop := t.dev.eds = s.dev.eds ∧ t.dev.drv = s.dev.drv ∧ t.dev.rd Reg.EDS_ACT_REF_CNT = s.dev.rd Reg.EDS_ACT_REF_CNT + 1#32
      ∧ t.dev.rdN Reg.EDS_ACT_RESULT = x.tag * 2 ^ 16 + s.dev.actCode x ∧ t.dev.bit (Reg.IRQ_RAW pEDS) 17 = true
      ∧ answerTo req t = (if s.dev.actCode x = 1 then ⟨.len, 0, []⟩ else ⟨.ok, 1, []⟩) ∧ kept t
    (Accepts req Reg.SDE_TL_SEL (w32 ch) s →
      ∃ t, exec (.timelineSelect req ch) s = .next t ∧ t.dev.rdN Reg.SDE_TL_SEL = ch ∧ t.dev.sde = { s.dev.sde with pos := 0 }
        ∧ t.dev.rd Reg.SDE_TL_COUNT = w32 (sget (fun _ => []) s.dev.sde.tlPub ch).length
        ∧ differOnly (fun d => { d with sde := {}, fab := {}, pow := {} }) s t ∧ regsKept [Reg.SDE_TL_SEL, Reg.SDE_TL_COUNT] s t)
    ∧ (Readable req Reg.SDE_TL_PORT s →
      let ws := (((sget (fun _ => []) s.dev.sde.tlPub (s.dev.rdN Reg.SDE_TL_SEL)).flatMap transitionWords).drop s.dev.sde.pos).take n
      ∃ t, exec (.timelineRead req n) s = .next t ∧ answerTo req t = ⟨.ok, ws.length, ws⟩
        ∧ t.dev.sde = { s.dev.sde with pos := s.dev.sde.pos + ws.length } ∧ kept t)
    ∧ (Accepts req Reg.EDS_ACT_PUSH 1#32 s → x.kind = haON →
      (s.dev.actCode x = 0 → ∃ t, exec (.actionOn req) s = .next t ∧ queued t)
      ∧ (s.dev.actCode x ≠ 0 → ∃ t, exec (.actionOn req) s = .next t ∧ refused t)
      ∧ exec (.actionOff req) s = .next s ∧ exec (.actionRate req) s = .next s ∧ exec (.actionRelease req) s = .next s)
    ∧ (Accepts req Reg.EDS_ACT_PUSH 1#32 s → x.kind = haRATE →
      (s.dev.actCode x = 0 → ∃ t, exec (.actionRate req) s = .next t ∧ queued t)
      ∧ (s.dev.actCode x ≠ 0 → ∃ t, exec (.actionRate req) s = .next t ∧ refused t))
    ∧ (Accepts req Reg.EDS_ACT_PUSH 1#32 s → x.kind = haOFF →
      (s.dev.actCode x = 0 → s.dev.actsNow x = false → ∃ t, exec (.actionOff req) s = .next t ∧ queued t)
      ∧ (s.dev.actCode x = 0 → x.ref = refNOW →
          ∃ t, exec (.actionOff req) s = .next t ∧ answerTo req t = ⟨.ok, 1, []⟩ ∧ t.dev.isOn x.chan = false ∧ (t.dev.chan x.chan).queue = []
            ∧ (t.dev.chan x.chan).next = [] ∧ (∀ c, c ≠ x.chan → t.dev.chan c = s.dev.chan c) ∧ t.dev.rdN Reg.EDS_ACT_RESULT = x.tag * 2 ^ 16 ∧ kept t)
      ∧ (s.dev.actCode x ≠ 0 → ∃ t, exec (.actionOff req) s = .next t ∧ refused t))
    ∧ (Accepts req Reg.EDS_ACT_PUSH 1#32 s → x.kind = haRELEASE →
      (s.dev.actCode x = 0 → s.dev.actsNow x = false → ∃ t, exec (.actionRelease req) s = .next t ∧ queued t)
      ∧ (s.dev.actCode x = 0 → x.ref = refNOW →
          ∃ t, exec (.actionRelease req) s = .next t ∧ answerTo req t = ⟨.ok, 1, []⟩ ∧ t.dev.mapBit (Reg.EDS_INHIBIT 0) x.chan = false
            ∧ t.dev.eds = s.dev.eds ∧ t.dev.drv = s.dev.drv ∧ kept t)
      ∧ (s.dev.actCode x ≠ 0 → ∃ t, exec (.actionRelease req) s = .next t ∧ refused t))
    ∧ (Accepts req Reg.EDS_ACT_CANCEL (w32 tag) s →
      ∃ t, exec (.actionCancel req tag) s = .next t ∧ answerTo req t = ⟨.ok, 1, []⟩
        ∧ t.dev.eds.acts = s.dev.eds.acts.filter (fun b => b.tag ≠ tag % 65536) ∧ t.dev.drv = s.dev.drv ∧ kept t)
    ∧ (s.dev.eds.acts.find? (fun b => b.ref = refPOSITION) = some a →
      ∃ t, exec .positionExpiry s = .next t ∧ t.dev.eds.acts = s.dev.eds.acts.filter (fun b => b.num ≠ a.num)
        ∧ t.dev.rd Reg.EDS_ACT_EXPIRED = s.dev.rd Reg.EDS_ACT_EXPIRED + 1#32
        ∧ a.pushed + s.dev.rdN Reg.EDS_POS_TTL * 1000000000 ≤ t.dev.tm.tbm ∧ t.dev.drv = s.dev.drv ∧ kept t)

/-- A measured latency is accepted for the turn or rejected with its reason; a damaged entry is flagged for reload; the diagnostic stream is read in order. A due signature of a profiled channel that learns and that no reason rejects is counted in MEAS_ACC and waits for the turn, with the learned latencies as they were; a rejected one is counted in MEAS_REJ, with reason, direction and channel in LAST_REJ. A double-symbol error of a latency entry marks the channel for reload at the turn, sets its LRN_LOST bit and FAULT.ECC of LAT. A read of DIAG_PORT answers the next words of the stream while DIAG_CTRL.EN is 1, and none otherwise. (10_edge_scheduling_and_latency_learning.md, 14_application_ledger_and_fault_coverage.md) Where it rests on log entries 3, 94, that part is the model's choice and no rule of the spec. -/
def Obligations.LatencyAndDiagnostics : Prop :=
  ∀ (req : Requester) (c : Fin 512) (closing : Bool) (sig n why : Nat) (s : State),
    let m : Int := ((sig + 500) / 1000 : Nat) + s.dev.sigOfs closing c
    let due : Bool := if closing then !(s.dev.chan c).sigOffDone && (s.dev.chan c).tOff.isSome else !(s.dev.chan c).sigOnDone
    let same (t : State) : Prop := (∀ k, t.dev.rd (Reg.LAT_ON k) = s.dev.rd (Reg.LAT_ON k) ∧ t.dev.rd (Reg.LAT_OFF k) = s.dev.rd (Reg.LAT_OFF k))
      ∧ t.ldg = s.ldg ∧ t.rcd = s.rcd ∧ t.dev.bwk = s.dev.bwk ∧ t.dev.eds = s.dev.eds
    (s.dev.profiled c = true → due = true → s.dev.learns c = true →
      (s.dev.rejects c closing (some m) = none →
        ∃ t, exec (.latencySignature c closing (some sig)) s = .next t ∧ t.dev.rd Reg.LAT_MEAS_ACC = s.dev.rd Reg.LAT_MEAS_ACC + 1#32
          ∧ (t.dev.chan c).latUpd = (s.dev.chan c).latUpd ++ [(closing, m.toNat)] ∧ same t)
      ∧ (s.dev.rejects c closing (some m) = some why →
        ∃ t, exec (.latencySignature c closing (some sig)) s = .next t ∧ t.dev.rd Reg.LAT_MEAS_REJ = s.dev.rd Reg.LAT_MEAS_REJ + 1#32
          ∧ t.dev.rdN Reg.LAT_LAST_REJ = why * 2 ^ 13 + (if closing then 2 ^ 12 else 0) + c ∧ (t.dev.chan c).latUpd = (s.dev.chan c).latUpd ∧ same t)
      ∧ (s.dev.rejects c closing none = some why →
        ∃ t, exec (.latencySignature c closing none) s = .next t ∧ t.dev.rd Reg.LAT_MEAS_REJ = s.dev.rd Reg.LAT_MEAS_REJ + 1#32
          ∧ t.dev.rdN Reg.LAT_LAST_REJ = why * 2 ^ 13 + (if closing then 2 ^ 12 else 0) + c ∧ t.dev.tm = s.dev.tm ∧ same t))
    ∧ (∃ t, exec (.latencyTableEccError c) s = .next t ∧ (t.dev.chan c).latReload = true ∧ t.dev.mapBit (Reg.LAT_LRN_LOST 0) c = true
        ∧ t.dev.bit (Reg.FAULT pLAT) 3 = true ∧ (∀ k, k ≠ c.val → t.dev.chan k = s.dev.chan k) ∧ same t)
    ∧ (Readable req Reg.DIAG_DIAG_PORT s →
      (s.dev.bit Reg.DIAG_DIAG_CTRL 0 = true →
        let ws := ((s.dev.dia.host.flatMap (fun f => f.flatMap id)).drop s.dev.dia.pos).take n
        ∃ t, exec (.diagStreamRead req n) s = .next t ∧ answerTo req t = ⟨.ok, ws.length, ws⟩ ∧ t.dev.dia.sums = s.dev.dia.sums ∧ same t)
      ∧ (s.dev.bit Reg.DIAG_DIAG_CTRL 0 = false →
        ∃ t, exec (.diagStreamRead req n) s = .next t ∧ answerTo req t = ⟨.ok, 0, []⟩ ∧ t.dev.dia = s.dev.dia ∧ same t))

/-- An edge executes and a channel goes through its phases: wait, boost, peak, hold, decay. EDGE_EXECUTE takes the first edge of the channel's queue. An OFF leaves the channel off; a RELEASE clears its INHIBIT bit; an ON of an inhibited channel or of one in its fault state starts nothing; else, with nothing in its way, an ON of an idle VALVE or PWMNOZ channel begins BOOST, or PEAK where no boost is due, and one of a SWITCH or METER channel closes it. BOOST_END leads to PEAK with the energy counted, or to the fault state TTP_LOW; TTP_HIGH to the fault state unless it is only reported; PEAK_END to HOLD; DECAY_END to OFF. A waiting channel that is first in line starts; at the end of its late slack it is dropped, or degraded to PEAK, as OVL_OUTCOME says. MAX_ON turns a channel off with its fault bit. No other channel changes phase, and no ledger entry or stored record changes. (11_valve_drive_profiles_and_banks.md, 12_protected_switch_channels.md) Where it rests on log entries 2, 3, 4, 14, 15, 18, 121, 157, 199, that part is the model's choice and no rule of the spec. -/
def Obligations.EdgesAndPhases : Prop :=
  ∀ (c : Fin 512) (e : Edge) (rest : List Edge) (ttpNs : Option Nat) (energy afterNs p : Nat) (s : State),
    let x := s.dev.chan c
    let kept (t : State) : Prop := t.ldg = s.ldg ∧ t.rcd = s.rcd ∧ (∀ k, k ≠ c.val → (t.dev.chan k).phase = (s.dev.chan k).phase)
    let full : Bool := s.dev.boostEn c && !e.degraded && (s.dev.bank (c / 8)).reclose.isNone
    (x.queue = [] → exec (.edgeExecute c) s = .next s)
    ∧ (x.queue = e :: rest → e.kind = .release →
      ∃ t, exec (.edgeExecute c) s = .next t ∧ (t.dev.chan c).queue = rest ∧ (t.dev.chan c).phase = x.phase ∧ t.dev.inhibited c = false ∧ kept t)
    ∧ (x.queue = e :: rest → e.kind ≠ .release → e.on = false →
      ∃ t, exec (.edgeExecute c) s = .next t ∧ t.dev.isOn c = false ∧ (e.kind = .implied ∨ e.kind = .pulse → (t.dev.chan c).queue = rest) ∧ kept t)
    ∧ (x.queue = e :: rest → e.kind ≠ .release → e.on = true → s.dev.inhibited c = true ∨ x.phase = phFAULT →
      ∃ t, exec (.edgeExecute c) s = .next t ∧ (t.dev.chan c).queue = rest ∧ (t.dev.chan c).phase = x.phase ∧ kept t)
    ∧ (x.queue = e :: rest → e.kind ≠ .release → e.on = true → e.dur = none → s.dev.inhibited c = false → s.dev.driveClockLost c = false →
      (s.dev.bank (c / 8)).sort = none → x.phase = phOFF →
      (s.dev.profiled c = true → x.tOff = none → (∀ b, s.dev.startForbidden c b = false) → s.dev.railReadyNow (railOf c) = true →
        ∃ t, exec (.edgeExecute c) s = .next t ∧ (t.dev.chan c).phase = (if full then phBOOST else phPEAK) ∧ (t.dev.chan c).queue = rest ∧ kept t)
      ∧ (s.dev.mode c = mSWITCH ∨ s.dev.mode c = mMETER →
        ∃ t, exec (.edgeExecute c) s = .next t ∧ (t.dev.chan c).phase = phSWITCHED ∧ (t.dev.chan c).queue = rest ∧ kept t))
    ∧ (x.phase = phBOOST →
      ∃ t, exec (.boostEnd c ttpNs energy) s = .next t ∧ (t.dev.bank (c / 8)).energy = (s.dev.bank (c / 8)).energy + energy
        ∧ ((t.dev.chan c).phase = phPEAK ∨ ((t.dev.chan c).phase = phFAULT ∧ (t.dev.chan c).cause = cTTPLOW ∧ ttpNs ≠ none)) ∧ kept t)
    ∧ (x.phase = phBOOST ∨ x.phase = phPEAK → x.tPeak = none → x.degraded = false → s.dev.diagOn c = true →
      ∃ t, exec (.ttpHigh c) s = .next t ∧ kept t
        ∧ (s.dev.bit (Reg.CH_CFG c) 5 = false → (t.dev.chan c).phase = phFAULT ∧ (t.dev.chan c).cause = cTTPHIGH
            ∧ t.dev.bit (Reg.FAULT (pBK (c / 8))) (16 + c % 8) = true)
        ∧ (s.dev.bit (Reg.CH_CFG c) 5 = true → (t.dev.chan c).phase = x.phase))
    ∧ (x.phase = phPEAK → x.tPeak = some p →
      ∃ t, exec (.peakEnd c ttpNs) s = .next t ∧ (t.dev.chan c).phase = phHOLD ∧ (t.dev.chan c).tHold = some t.dev.tick
        ∧ (0 < s.dev.tbsStep → 4 * (p + s.dev.tPeakT c) ≤ t.dev.tbs) ∧ kept t)
    ∧ (x.phase = phDECAY → x.tOff = some p →
      ∃ t, exec (.decayEnd c afterNs) s = .next t ∧ (t.dev.chan c).phase = phOFF ∧ (t.dev.chan c).tDecayed = some t.dev.tick ∧ kept t)
    ∧ (x.phase = phWAIT → x.waitEdge = some e → x.waitAt = some p → x.expired = false → (s.dev.bank (c / 8)).sort = none →
      s.dev.firstInLine c = true → (∀ b, s.dev.startForbidden c b = false) → s.dev.railReadyNow (railOf c) = true →
      ∃ t, exec (.waitStart c) s = .next t ∧ (t.dev.chan c).phase = (if s.dev.boostEn c && !e.degraded then phBOOST else phPEAK)
        ∧ (t.dev.chan c).waitEdge = none ∧ kept t)
    ∧ (x.phase = phWAIT → x.waitEdge = some e → x.waitEnd = some p → x.expired = false →
      (s.dev.bit (Reg.BK_OVL_OUTCOME (c / 8)) 0 = true →
        ∃ t, exec (.waitSlackExpiry c) s = .next t ∧ (t.dev.chan c).phase = phOFF ∧ t.dev.bit (Reg.FAULT (pBK (c / 8))) 27 = true
          ∧ t.dev.rd (Reg.BK_OVL_DROP (c / 8)) = s.dev.rd (Reg.BK_OVL_DROP (c / 8)) + 1#32 ∧ kept t)
      ∧ (s.dev.bit (Reg.BK_OVL_OUTCOME (c / 8)) 0 = false →
        ∃ t, exec (.waitSlackExpiry c) s = .next t ∧ t.dev.rd (Reg.BK_OVL_DEG (c / 8)) = s.dev.rd (Reg.BK_OVL_DEG (c / 8)) + 1#32 ∧ kept t
          ∧ (s.dev.startForbidden c false = false → (t.dev.chan c).phase = phPEAK ∧ (t.dev.chan c).degraded = true)
          ∧ (s.dev.startForbidden c false = true → (t.dev.chan c).phase = phWAIT ∧ (t.dev.chan c).expired = true)))
    ∧ (phaseOn x.phase = true → x.onTimer = some p → s.dev.offDue c (p + s.dev.maxOnT c) = false →
      ∃ t, exec (.maxOnExpiry c) s = .next t ∧ t.dev.isOn c = false ∧ (t.dev.chan c).maxOnCut = true
        ∧ t.dev.bit (Reg.FAULT (pBK (c / 8))) 26 = true ∧ kept t)

/-- A diagnostic that is enabled puts its channel, its bank or its tile into the fault state. With the channel's diagnostics enabled, a current above 16 A while it is on, a missing freewheel path, an open load on or off, and a double error of its queue put a channel into its fault state with the cause's code, its CHF fault bit and interrupt, and leave every other channel. A current of more than 150 mA in a channel that is off, and a difference of bank and channel currents beyond the tolerance, put the whole bank into its fault state: its eight channels are in FAULT and no channel of another bank changes; a difference of a tile's two temperatures beyond TEMP_DIFF does the same with the tile's 64 channels. The measured values show in BK_I and TEMP_A and TEMP_B either way. (11_valve_drive_profiles_and_banks.md) Where it rests on log entries 3, 4, 12, 16, 17, 97, that part is the model's choice and no rule of the spec. -/
def Obligations.DriveDiagnostics : Prop :=
  ∀ (c : Fin 512) (b : Fin 64) (k : Fin 8) (milliA bankMA sumMA : Nat) (tempA tempB : Int) (s : State),
    let x := s.dev.chan c
    let kept (t : State) : Prop := t.ldg = s.ldg ∧ t.rcd = s.rcd
    let held (cause : Nat) (t : State) : Prop := (t.dev.chan c).phase = phFAULT ∧ (t.dev.chan c).cause = cause
      ∧ t.dev.bit (Reg.FAULT (pBK (c / 8))) (16 + c % 8) = true ∧ t.dev.bit (Reg.IRQ_RAW (pBK (c / 8))) 16 = true
      ∧ (∀ j, j ≠ c.val → t.dev.chan j = s.dev.chan j) ∧ kept t
    let bankHeld (n : Nat) (t : State) : Prop := (t.dev.bank n).fault = true ∧ t.dev.stat (pBK n) 16 = true
      ∧ (∀ j, j / 8 = n → (t.dev.chan j).phase = phFAULT ∧ (t.dev.chan j).cause = cBANK) ∧ (∀ j, j / 8 ≠ n → t.dev.chan j = s.dev.chan j) ∧ kept t
    let tol := max (s.dev.rdN (Reg.BK_DRIFT_TOL b)) (s.dev.rdN (Reg.BK_DRIFT_PCT b) * sumMA / 100)
    (s.dev.driven c = true → 16000 < milliA →
      (s.dev.diagOn c = true → ∃ t, exec (.loadShort c milliA) s = .next t ∧ held cSHORT t)
      ∧ (s.dev.diagOn c = false → ∃ t, exec (.loadShort c milliA) s = .next t ∧ t.dev.regs = s.dev.regs
          ∧ t.dev.chan c = { x with shortAt := some s.dev.tick } ∧ kept t))
    ∧ (x.phase = phPEAK ∨ x.phase = phHOLD ∨ x.phase = phDECAY → s.dev.diagOn c = true →
      ∃ t, exec (.freewheelMissing c) s = .next t ∧ held cFREEWHEEL t)
    ∧ (s.dev.driven c = true → s.dev.drv.vbatLow = false → milliA < s.dev.rdN (Reg.BK_OPEN_ON_MA (c / 8)) → s.dev.diagOn c = true →
      ∃ t, exec (.openLoadOn c milliA) s = .next t ∧ held cOPENON t)
    ∧ (x.phase = phOFF → s.dev.driven c = false → s.dev.mode c ≠ mOFF → s.dev.drv.vbatLow = false → s.dev.diagOn c = true →
      ∃ t, exec (.openLoadOff c) s = .next t ∧ held cOPENOFF t)
    ∧ (x.phase ≠ phFAULT → s.dev.bit (Reg.FAULT_EN (pDT (c / 64))) 18 = true →
      ∃ t, exec (.queueEccError c) s = .next t ∧ held cQUEUE t ∧ t.dev.bit (Reg.FAULT (pDT (c / 64))) 18 = true)
    ∧ (s.dev.driven c = false → 150 < milliA → s.dev.bit (Reg.FAULT_EN (pBK (c / 8))) 24 = true → (s.dev.bank (c / 8)).fault = false →
      ∃ t, exec (.stuckOn c milliA) s = .next t ∧ bankHeld (c / 8) t ∧ t.dev.bit (Reg.FAULT (pBK (c / 8))) 24 = true)
    ∧ (tol < ((bankMA : Int) - sumMA).natAbs → s.dev.drv.vbatLow = false → s.dev.bit (Reg.FAULT_EN (pBK b)) 25 = true → (s.dev.bank b).fault = false →
      ∃ t, exec (.senseDrift b bankMA sumMA) s = .next t ∧ bankHeld b t ∧ t.dev.bit (Reg.FAULT (pBK b)) 25 = true
        ∧ t.dev.rdN (Reg.BK_BK_I b) = min sumMA 65535 * 2 ^ 16 + min bankMA 65535)
    ∧ (((bankMA : Int) - sumMA).natAbs ≤ tol →
      ∃ t, exec (.senseDrift b bankMA sumMA) s = .next t ∧ t.dev.drv.ch = s.dev.drv.ch
        ∧ t.dev.rdN (Reg.BK_BK_I b) = min sumMA 65535 * 2 ^ 16 + min bankMA 65535 ∧ regsKept [Reg.BK_BK_I b, Reg.BK_BK_I_MAX b] s t ∧ kept t)
    ∧ (s.dev.rdN (Reg.DT_TEMP_DIFF k) < (tempA - tempB).natAbs → s.dev.bit (Reg.FAULT_EN (pDT k)) 16 = true → (s.dev.tile k).fault = false →
      ∃ t, exec (.tempPair k tempA tempB) s = .next t ∧ (t.dev.tile k).fault = true ∧ t.dev.stat (pDT k) 16 = true
        ∧ (∀ j, j / 64 = k.val → (t.dev.chan j).phase = phFAULT ∧ (t.dev.chan j).cause = cTILE) ∧ (∀ j, j / 64 ≠ k.val → t.dev.chan j = s.dev.chan j)
        ∧ t.dev.rd (Reg.DT_TEMP_A k) = w32i tempA ∧ t.dev.rd (Reg.DT_TEMP_B k) = w32i tempB ∧ kept t)
    ∧ ((tempA - tempB).natAbs ≤ s.dev.rdN (Reg.DT_TEMP_DIFF k) →
      ∃ t, exec (.tempPair k tempA tempB) s = .next t ∧ t.dev.drv = s.dev.drv ∧ t.dev.rd (Reg.DT_TEMP_A k) = w32i tempA
        ∧ t.dev.rd (Reg.DT_TEMP_B k) = w32i tempB ∧ regsKept [Reg.DT_TEMP_A k, Reg.DT_TEMP_B k] s t ∧ kept t)

/-- A boost rail becomes READY, falls out of its window, fails and is cleared; a cleared fault state ends at the turn. RAIL_READY of a rail that charges or is out of its window makes it READY, with the capacitance it measured; RAIL_NOT_READY of a READY one shows its voltage, counts NR_CNT and sets its fault bit; RAIL_FAULT of a charging, ready or not-ready rail, 50 ms after the charge began where that is the reason, makes it FAULT with its fault bit. RAIL_CLR of a rail in FAULT sets it charging again where it is wanted, else OFF. CHF_CLR and TILE_CLR are remembered for the turn and change nothing else; at the turn a bank's clear of a channel's own cause, or of the whole bank, makes the channels concerned OFF, and a tile's clear those it holds. (11_valve_drive_profiles_and_banks.md) Where it rests on log entries 2, 3, 162, that part is the model's choice and no rule of the spec. -/
def Obligations.RailsAndClears : Prop :=
  ∀ (req : Requester) (k : Fin 4) (b : Fin 64) (tl : Fin 8) (mask : Fin 256) (microF : Option Nat) (f centiV p : Nat) (why : RailFailure) (s : State),
    let restOf (u t : State) : Prop := t.dev.drv.ch = u.dev.drv.ch ∧ t.ldg = u.ldg ∧ t.rcd = u.rcd
      ∧ (∀ j, j < 4 → j ≠ k.val → t.dev.railState j = u.dev.railState j)
    (s.dev.railState k = 1 ∨ s.dev.railState k = 3 →
      ∃ t, exec (.railReady k microF) s = .next t ∧ t.dev.railReadyNow k = true ∧ t.dev.stat pVB (16 + k) = true ∧ t.dev.bit (Reg.IRQ_RAW pVB) (16 + k) = true
        ∧ (microF = some f → f < 65536 → t.dev.fld (Reg.VB_RAIL_STATE k) 31 16 = f) ∧ t.dev.drv = s.dev.drv ∧ t.dev.tm = s.dev.tm ∧ restOf s t)
    ∧ (s.dev.railState k = 2 →
      ∃ t, exec (.railNotReady k centiV) s = .next t ∧ t.dev.railState k = 3 ∧ t.dev.rd (Reg.VB_RAIL_V k) = w32 centiV
        ∧ t.dev.rd (Reg.VB_NR_CNT k) = s.dev.rd (Reg.VB_NR_CNT k) + 1#32 ∧ t.dev.bit (Reg.FAULT pVB) (16 + k) = true
        ∧ t.dev.stat pVB (16 + k) = false ∧ t.dev.drv = s.dev.drv ∧ restOf s t)
    ∧ (s.dev.railState k = 1 ∨ s.dev.railState k = 2 ∨ s.dev.railState k = 3 → why ≠ .chargeTimeout →
      ∃ t, exec (.railFault k why) s = .next t ∧ t.dev.railState k = 4 ∧ t.dev.bit (Reg.FAULT pVB) (20 + k) = true ∧ t.dev.tm = s.dev.tm ∧ restOf s t)
    ∧ (s.dev.railState k = 1 → (s.dev.rail k).chargeFrom = some p →
      ∃ t, exec (.railFault k .chargeTimeout) s = .next t ∧ t.dev.railState k = 4 ∧ t.dev.bit (Reg.FAULT pVB) (20 + k) = true
        ∧ p + 50000000 ≤ t.dev.tm.tbm ∧ restOf s t)
    ∧ (let u := arrived (Reg.VB_RAIL_CLR k) s;
      Accepts req (Reg.VB_RAIL_CLR k) 1#32 u → u.dev.railState k = 4 →
      ∃ t, exec (.railClr req k) s = .next t ∧ answerTo req t = ⟨.ok, 1, []⟩ ∧ t.dev.railState k = (if u.dev.railWanted k then 1 else 0)
        ∧ (u.dev.railWanted k = true → (t.dev.rail k).chargeFrom = some (u.dev.tm.tbm + 20000000)) ∧ restOf u t)
    ∧ (let u := arrived (Reg.VB_RAIL_CLR k) s;
      Accepts req (Reg.VB_RAIL_CLR k) 1#32 u → u.dev.railState k ≠ 4 → exec (.railClr req k) s = .next (acceptedWrite req (Reg.VB_RAIL_CLR k) id u))
    ∧ (let u := arrived (Reg.BK_CHF_CLR b) s;
      Accepts req (Reg.BK_CHF_CLR b) (w32 mask) u →
      exec (.channelFaultClear req b mask) s = .next (acceptedWrite req (Reg.BK_CHF_CLR b) (·.modBank b (fun x => { x with clr := x.clr ||| mask })) u))
    ∧ (let u := arrived (Reg.BK_CHF_CLR b) s;
      Accepts req (Reg.BK_CHF_CLR b) 0x100#32 u →
      exec (.bankFaultClear req b) s = .next (acceptedWrite req (Reg.BK_CHF_CLR b) (·.modBank b (fun x => { x with clr := x.clr ||| 256 })) u))
    ∧ (let u := arrived (Reg.DT_TILE_CLR tl) s;
      Accepts req (Reg.DT_TILE_CLR tl) 1#32 u →
      exec (.tileClear req tl) s = .next (acceptedWrite req (Reg.DT_TILE_CLR tl) (·.modTile tl (fun x => { x with clr := true })) u))
    ∧ (∀ c, c / 8 = b.val → (s.dev.chan c).phase = phFAULT →
      ((s.dev.bank b).clr.testBit (c % 8) = true → (s.dev.chan c).cause ≠ cBANK → (s.dev.chan c).cause ≠ cTILE →
        ((s.dev.applyBankClear b).chan c).phase = phOFF)
      ∧ ((s.dev.bank b).clr.testBit 8 = true → (s.dev.chan c).cause = cBANK →
        ((s.dev.applyBankClear b).bank b).fault = false
        ∧ ((s.dev.tile (c / 64)).fault = false → ((s.dev.applyBankClear b).chan c).phase = phOFF)
        ∧ ((s.dev.tile (c / 64)).fault = true → ((s.dev.applyBankClear b).chan c).phase = phFAULT ∧ ((s.dev.applyBankClear b).chan c).cause = cTILE))
      ∧ ((s.dev.bank b).clr = 0 → s.dev.applyBankClear b = s.dev))
    ∧ (∀ c, c / 64 = tl.val → (s.dev.tile tl).clr = true → (s.dev.chan c).cause = cTILE →
      ((s.dev.applyTileClear tl).tile tl).fault = false
      ∧ ((s.dev.bank (c / 8)).fault = false → ((s.dev.applyTileClear tl).chan c).phase = phOFF)
      ∧ ((s.dev.bank (c / 8)).fault = true → ((s.dev.applyTileClear tl).chan c).phase = (s.dev.chan c).phase
        ∧ ((s.dev.applyTileClear tl).chan c).cause = cBANK))

/-- Switch channels: allowances, a bank's trip with its culprit, SORT, and the loss of the strobe. INRUSH_WINDOW_END ends a channel's window. A current beyond the limit inside the window, or above 2.75 A over 1 ms outside it, puts the channel into its fault state. A trip of a bank that is not tripped already opens its switches and sets the trip's fault bit: with one channel that exceeds, that channel is in its fault state and the bank recloses 100 us on; with none, or several, and no SORT without a culprit within the last second, SORT begins and every low side of the bank is open; within that second the bank is in its fault state. BANK_RECLOSE ends the wait. SORT's test with current left in the open bank is a fault of the bank, else the steps follow; a step goes on to the next channel, with a culprit in its fault state; after eight steps SORT ends. LOSS_HOLD_EXPIRY opens a channel. 50 us after the strobe stopped, no metered channel is on and no queue holds an edge. (12_protected_switch_channels.md) Where it rests on log entries 2, 3, 12, 13, 161, 193, 198, that part is the model's choice and no rule of the spec. -/
def Obligations.SwitchChannels : Prop :=
  ∀ (c : Fin 512) (b : Fin 64) (milliA bankMA chanMA p i : Nat) (samples : List Nat) (clamped : List (Fin 8)) (r : SortRun) (s : State),
    let x := s.dev.chan c
    let kept (t : State) : Prop := t.ldg = s.ldg ∧ t.rcd = s.rcd
    let culprits := (List.range 8).filter (fun i => s.dev.exceeds (8 * b + i) (s.dev.sampleOf samples i) (clamped.any (·.val = i)))
    let trips : Prop := (40000 < bankMA ∨ s.dev.fld (Reg.BK_BK_TRIP b) 11 0 * 10 < bankMA) ∧ (s.dev.bank b).fault = false
      ∧ (s.dev.bank b).sort = none ∧ (s.dev.bank b).reclose = none
    (x.phase = phSWITCHED → x.winEnd = some p →
      ∃ t, exec (.inrushWindowEnd c) s = .next t ∧ t.dev.chan c = { x with winEnd := none } ∧ t.dev.regs = s.dev.regs
        ∧ (0 < s.dev.tbsStep → 4 * p ≤ t.dev.tbs) ∧ kept t)
    ∧ (s.dev.mode c = mSWITCH → x.phase = phSWITCHED → s.dev.inWindow c = true → x.winLim < milliA → s.dev.clockLost 5 = false → s.dev.diagOn c = true →
      ∃ t, exec (.inrushExcess c milliA) s = .next t ∧ (t.dev.chan c).phase = phFAULT ∧ (t.dev.chan c).cause = cINRUSH ∧ t.dev.tm = s.dev.tm ∧ kept t)
    ∧ (s.dev.mode c = mSWITCH → x.phase = phSWITCHED → 2750 < milliA → s.dev.clockLost 5 = false → s.dev.diagOn c = true →
      ∃ t, exec (.overload c milliA) s = .next t ∧ (t.dev.chan c).phase = phFAULT ∧ (t.dev.chan c).cause = cOVERLOAD
        ∧ (0 < s.dev.tbsStep → 4 * (max x.tOn (x.winEnd.getD 0) + 250000) ≤ t.dev.tbs) ∧ kept t)
    ∧ (trips → culprits = [i] → (s.dev.chan (8 * b + i)).phase ≠ phFAULT →
      ∃ t, exec (.bankTrip b bankMA samples clamped) s = .next t ∧ (t.dev.chan (8 * b + i)).phase = phFAULT
        ∧ (t.dev.bank b).reclose = some (s.dev.tick + 100 * tUs) ∧ t.dev.bit (Reg.FAULT (pBK b)) 28 = true
        ∧ (∀ j, j / 8 ≠ b.val → t.dev.chan j = s.dev.chan j) ∧ kept t)
    ∧ (trips → culprits.length ≠ 1 → (s.dev.bank b).sortEnd = none →
      ∃ t, exec (.bankTrip b bankMA samples clamped) s = .next t ∧ (t.dev.bank b).sort.isSome = true ∧ t.dev.stat (pBK b) 17 = true
        ∧ t.dev.bit (Reg.FAULT (pBK b)) 28 = true ∧ (∀ j, j / 8 = b.val → t.dev.isOn j = false) ∧ (∀ j, j / 8 ≠ b.val → t.dev.chan j = s.dev.chan j) ∧ kept t)
    ∧ (trips → culprits.length ≠ 1 → (s.dev.bank b).sortEnd = some p → s.dev.tick ≤ p + 1000000 * tUs →
      ∃ t, exec (.bankTrip b bankMA samples clamped) s = .next t ∧ (t.dev.bank b).fault = true ∧ (t.dev.bank b).sort = none
        ∧ (∀ j, j / 8 = b.val → (t.dev.chan j).phase = phFAULT) ∧ kept t)
    ∧ ((s.dev.bank b).reclose = some p →
      ∃ t, exec (.bankReclose b) s = .next t ∧ (t.dev.bank b).reclose = none ∧ (t.dev.bank b).resume = []
        ∧ (∀ j, (t.dev.chan j).phase = (s.dev.chan j).phase) ∧ t.dev.regs = s.dev.regs ∧ kept t)
    ∧ ((s.dev.bank b).sort = some r → r.tested = false →
      (150 < bankMA → ∃ t, exec (.sortNodeTest b bankMA) s = .next t ∧ (t.dev.bank b).fault = true ∧ (t.dev.bank b).sort = none
        ∧ (∀ j, j / 8 = b.val → (t.dev.chan j).phase = phFAULT) ∧ kept t)
      ∧ (bankMA ≤ 150 → ∃ t, exec (.sortNodeTest b bankMA) s = .next t ∧ (t.dev.bank b).sort = some { r with tested := true }
          ∧ t.dev.drv.ch = s.dev.drv.ch ∧ t.dev.regs = s.dev.regs ∧ kept t))
    ∧ ((s.dev.bank b).sort = some r → r.tested = true → r.step < 8 →
      ∃ t, exec (.sortStep b bankMA chanMA) s = .next t ∧ kept t
        ∧ ∃ r', (t.dev.bank b).sort = some r' ∧ r'.step = r.step + 1 ∧ r'.tested = true
            ∧ (r'.culprits = r.culprits ∨ (r'.culprits = r.culprits ++ [8 * b + r.step] ∧ (t.dev.chan (8 * b + r.step)).phase = phFAULT)))
    ∧ ((s.dev.bank b).sort = some r → r.step = 8 →
      ∃ t, exec (.sortEnd b) s = .next t ∧ (t.dev.bank b).sort = none ∧ t.dev.stat (pBK b) 17 = false
        ∧ (t.dev.bank b).sortEnd = (if r.culprits.isEmpty then some t.dev.tick else none)
        ∧ (s.dev.lossStands = false → t.dev.drv.ch = s.dev.drv.ch) ∧ kept t)
    ∧ (x.lossEnd = some p → ∃ t, exec (.lossHoldExpiry c) s = .next t ∧ t.dev.isOn c = false ∧ (0 < s.dev.tbsStep → 4 * p ≤ t.dev.tbs) ∧ kept t)
    ∧ (s.dev.drv.strobeStop = some p → s.dev.drv.strobeLost = false →
      ∃ t, exec .strobeLoss s = .next t ∧ t.dev.drv.strobeLost = true ∧ p + 50000 ≤ t.dev.tm.tbm ∧ kept t
        ∧ ∀ j, (t.dev.chan j).queue = [] ∧ (t.dev.mode j ≠ mSWITCH → t.dev.isOn j = false))

/-- The ledger's commands, its flush and its snapshot. LDG_CMD 1, 2 and 3 each ask for their act at the next turn and change nothing else. At a turn with a new session asked for, the closing session's ledger waits for its flush and every counter is at zero with SESS_ID one more; with a snapshot asked for, the snapshot is the ledger as booked at that turn, its read-out at the first word. At the first turn after a power-fail warning nothing is in flight any more and the booked ledger waits for its flush marked PF; after it, turns book nothing and a new session waits. A waiting flush, but for that of a power-fail, which is the flush engine's, that the record store takes is written to the older slot and LAST_FLUSH names its turn; one that it does not take leaves that slot incomplete, with FAULT.FLUSH_FAIL, an entry of kind 3 in the failure log, and the store failed. A read of SNAP_PORT gives the next words that are left, with STATUS.SHORT where fewer are left than asked for. A double-symbol error marks its entry INVALID, with FAULT.ECC and IRQ_RAW.INVALID, and changes no counter. (14_application_ledger_and_fault_coverage.md) Where it rests on log entries 3, 150, 156, that part is the model's choice and no rule of the spec. -/
def Obligations.LedgerCommands : Prop :=
  ∀ (req : Requester) (words : Nat) (c : Fin 512) (x : LedgerSlot) (b : LedgerBook) (t0 t1 : Nat) (sec supplyOk tempOk : Bool) (s : State),
    let kept (t : State) : Prop := t.rcd = s.rcd ∧ t.pending = s.pending
    let turn := ledgerTurn t0 t1 sec supplyOk tempOk s.dev s.ldg
    (Accepts req Reg.LDG_LDG_CMD 1#32 s →
      exec (.ledgerSnapshot req) s = .next (acceptedWrite req Reg.LDG_LDG_CMD (fun d => { d with sup := { d.sup with snapReq := true } }) s))
    ∧ (Accepts req Reg.LDG_LDG_CMD 2#32 s →
      exec (.newSession req) s = .next (acceptedWrite req Reg.LDG_LDG_CMD (fun d => { d with sup := { d.sup with sessReq := true } }) s))
    ∧ (Accepts req Reg.LDG_LDG_CMD 3#32 s →
      exec (.flushNow req) s = .next (acceptedWrite req Reg.LDG_LDG_CMD (fun d => { d with sup := { d.sup with flushReq := true } }) s))
    ∧ (s.dev.sup.sessReq = true → s.dev.pow.pfAt = none → s.dev.pow.pfBooked = false →
      turn.2.book = { sessId := s.ldg.book.sessId + 1, lossFrom := s.ldg.book.lossFrom, lossTo := s.ldg.book.lossTo } ∧ turn.1.sup.sessReq = false ∧ turn.1.bit (Reg.IRQ_RAW pLDG) 17 = true
        ∧ ∃ z, turn.2.flushing = some z ∧ z.book.sessId = s.ldg.book.sessId ∧ z.pf = false)
    ∧ (s.dev.pow.pfAt.isSome = true → s.dev.pow.pfBooked = false →
      turn.1.pow.pfBooked = true ∧ turn.1.sup.sessReq = s.dev.sup.sessReq ∧ (∀ j, (turn.2.book.entry j).infl = 0)
        ∧ ∃ z, turn.2.flushing = some z ∧ z.book = turn.2.book ∧ z.pf = true)
    ∧ (s.dev.pow.pfBooked = true → s.dev.pow.pfAt.isSome = true →
      turn.2.book = s.ldg.book ∧ turn.2.flushing = s.ldg.flushing ∧ turn.1.sup.sessReq = s.dev.sup.sessReq)
    ∧ (s.dev.sup.snapReq = true → s.dev.sup.sessReq = false →
      turn.2.snap = some turn.2.book ∧ turn.2.snapPos = 0 ∧ turn.1.sup.snapReq = false ∧ turn.1.bit (Reg.IRQ_RAW pLDG) 16 = true)
    ∧ (s.dev.sup.snapReq = false → s.dev.sup.sessReq = false → s.dev.sup.flushReq = false → sec = false → s.dev.pow.pfAt = none →
      turn.2.snap = s.ldg.snap ∧ turn.2.flushing = s.ldg.flushing ∧ turn.2.slots = s.ldg.slots)
    ∧ (s.ldg.flushing = some x → x.pf = true → exec (.ledgerFlush sec) s = .next s)
    ∧ (s.ldg.flushing = some x → x.pf = false → s.dev.stat pREC 16 = false →
      ∃ t, exec (.ledgerFlush true) s = .next t ∧ t.ldg = { s.ldg with slots := setAt s.ldg.slots s.ldg.olderSlot (some x), lastSlot := s.ldg.olderSlot, flushing := none }
        ∧ t.dev.rd64 Reg.LDG_LAST_FLUSH = x.seqx % 2 ^ 64 ∧ kept t
        ∧ { t.dev with regs := [] } = { s.dev with regs := [] } ∧ regsKept [Reg.LDG_LAST_FLUSH, Reg.LDG_LAST_FLUSH + 4] s t)
    ∧ (s.ldg.flushing = some x → x.pf = false →
      ∃ t, exec (.ledgerFlush false) s = .next t ∧ t.ldg = { s.ldg with slots := setAt s.ldg.slots s.ldg.olderSlot none, flushing := none }
        ∧ t.dev.bit (Reg.FAULT pLDG) 16 = true ∧ t.dev.stat pREC 16 = true ∧ t.pending = s.pending
        ∧ (s.dev.stat pREC 16 = false → t.dev.bit (Reg.FAULT pREC) 16 = true ∧ t.dev.bit (Reg.IRQ_RAW pREC) 16 = true)
        ∧ t.dev.rd Reg.REC_BR_FAIL_CNT = s.dev.rd Reg.REC_BR_FAIL_CNT + 1#32
        ∧ sget (fun _ => none) t.rcd.failLog (s.dev.rdN Reg.REC_BR_FAIL_CNT % 64)
            = some ⟨3, s.dev.tm.tbm, wallWords s.dev.wall, s.rcd.nextSeq, 0⟩
        ∧ regsKept [Reg.FAULT pLDG, Reg.IRQ_RAW pLDG, Reg.REC_BR_FAIL_CNT, Reg.REC_SUPP_TOTAL, Reg.STATUS pREC, Reg.FAULT pREC,
            Reg.IRQ_RAW pREC] s t)
    ∧ (Readable req Reg.LDG_SNAP_PORT s → s.ldg.snap = some b →
      let k := min words s.ldg.snapLevel
      ∃ t, exec (.snapshotRead req words) s = .next t
        ∧ answerTo req t = ⟨.ok, k, (List.range k).map (fun i => s.ldg.snapWord (s.ldg.snapPos + i))⟩
        ∧ t.ldg = { s.ldg with snapPos := s.ldg.snapPos + k } ∧ kept t
        ∧ (k < words → words ≠ readAll → t.dev.stat pLDG sSHORT = true) ∧ regsKept [Reg.STATUS pLDG] s t)
    ∧ (Readable req Reg.LDG_SNAP_PORT s → s.ldg.snap = none →
      ∃ t, exec (.snapshotRead req words) s = .next t ∧ answerTo req t = ⟨.ok, 0, []⟩ ∧ t.ldg = s.ldg ∧ kept t)
    ∧ ∃ t, exec (.ledgerEccError c) s = .next t
        ∧ t.ldg = { s.ldg with
            book := { s.ldg.book with invalid := setInsert s.ldg.book.invalid c.val }
            flushing := s.ldg.flushing.map (fun z => { z with book := { z.book with invalid := setInsert z.book.invalid c.val } }) }
        ∧ t.dev.bit (Reg.FAULT pLDG) fECC = true ∧ t.dev.bit (Reg.IRQ_RAW pLDG) 18 = true ∧ kept t
        ∧ { t.dev with regs := [], rcf := {} } = { s.dev with regs := [], rcf := {} }
        ∧ regsKept [Reg.FAULT pLDG, Reg.IRQ_RAW pLDG, Reg.REC_SUPP_TOTAL] s t

/-- A loop's sample, its evaluation, a missed deadline and the clear of its latches. While the engine runs and the loop is enabled, LOOP_SAMPLE at the loop's next instant latches its inputs, has published its last output or HOLD_VAL, and notes the instant. LOOP_EVALUATION takes what is latched and counts EVAL_SEQ: in AUTO it leaves the loop with the state of R379's equations, their w in the entry, and an integrator that a freeze has not moved; a value that is not finite takes the loop into HOLD with HOLD_VAL published; in MANUAL the next output is the host's, limited and slewed, in HOLD it is HOLD_VAL, and a value that is not finite keeps the ramp as it was with the cause NUM. Nothing is evaluated while nothing is latched. EVAL_MISS drops the sample, publishes the previous output once more and counts it with FAULT. A write of LP_CLR clears the latched following error and numeric fault of its loop, and of no other; one without its CLR bit is refused. (15_loop_engine.md) Where it rests on log entries 2, 38, 42, that part is the model's choice and no rule of the spec. -/
def Obligations.LoopEvaluations : Prop :=
  ∀ (req : Requester) (loop : Fin 128) (v : W32) (n j p : Nat) (x : Latched) (u : W32) (s : State),
    let l := loop.val
    let kept (t : State) : Prop := t.ldg = s.ldg ∧ t.rcd = s.rcd ∧ t.pending = s.pending
    let d := (s.dev.modLoop l (fun y => { y with latched := none })).countEval
    let k := d.derived l
    let fr := d.front l x k
    let res := d.autoEval l x k fr.2.1 fr.2.2.1 fr.2.2.2
    (s.dev.nextInstant l = some (n, j, p) → s.dev.lpeOn = true → s.dev.lpEn l = true →
      ∃ t, exec (.loopSample loop) s = .next t ∧ (t.dev.loop l).latched.isSome = true ∧ (t.dev.loop l).last = some (n, j)
        ∧ (t.dev.loop l).nextOut = none ∧ p ≤ t.dev.tm.tbm ∧ kept t
        ∧ ((s.dev.loop l).latched = none → (s.dev.loop l).nextOut = some u →
            t.dev.rd (Reg.LPT_U l) = u ∨ t.dev.rd (Reg.LPT_U l) = s.dev.rd (Reg.LPT_HOLD_VAL l)))
    ∧ (s.dev.nextInstant l = none ∨ s.dev.lpeOn = false ∨ s.dev.lpEn l = false → exec (.loopSample loop) s = .next s)
    ∧ ((s.dev.loop l).latched = some x → s.dev.lpeOn = true → x.state = lsAUTO → (s.dev.loop l).preset = 0 →
      (fIsZero (s.dev.rd (Reg.LPT_FE_LIMIT l)) = true → res.2.2.2.all fFinite = true →
        ∃ t, exec (.loopEvaluation loop) s = .next t ∧ t.dev.loop l = res.1 ∧ (t.dev.loop l).latched = none
          ∧ t.dev.rd (Reg.LPT_W l) = res.2.1 ∧ t.dev.rd (Reg.LPT_EVAL_SEQ l) = s.dev.rd (Reg.LPT_EVAL_SEQ l) + 1#32
          ∧ t.dev.rd (Reg.LPT_U l) = s.dev.rd (Reg.LPT_U l)
          ∧ ((t.dev.loop l).frozen = true → (t.dev.loop l).i = (s.dev.loop l).i)
          ∧ (∀ m, m ≠ l → t.dev.loop m = s.dev.loop m) ∧ t.dev.drv = s.dev.drv ∧ t.dev.tm = s.dev.tm ∧ kept t)
      ∧ (res.2.2.2.all fFinite = false →
        ∃ t, exec (.loopEvaluation loop) s = .next t ∧ (t.dev.loop l).state = lsHOLD ∧ (t.dev.loop l).causes = [hcNUM]
          ∧ (t.dev.loop l).num = true ∧ (t.dev.loop l).latched = none ∧ t.dev.rd (Reg.LPT_U l) = s.dev.rd (Reg.LPT_HOLD_VAL l)
          ∧ t.dev.rd (Reg.LPT_EVAL_SEQ l) = s.dev.rd (Reg.LPT_EVAL_SEQ l) + 1#32 ∧ t.dev.bit (Reg.FAULT pLPE) 18 = true
          ∧ t.dev.tm = s.dev.tm ∧ kept t))
    ∧ ((s.dev.loop l).latched = some x → s.dev.lpeOn = true → x.state ≠ lsAUTO →
      let out := if x.state = lsMANUAL then s.dev.manualOut l k else s.dev.rd (Reg.LPT_HOLD_VAL l)
      ([fr.2.1, fr.2.2.1, fr.2.2.2, fSub fr.2.2.1 fr.2.1, out].all fFinite = true →
        ∃ t, exec (.loopEvaluation loop) s = .next t ∧ (t.dev.loop l).latched = none ∧ (t.dev.loop l).nextOut = some out
          ∧ t.dev.rd (Reg.LPT_EVAL_SEQ l) = s.dev.rd (Reg.LPT_EVAL_SEQ l) + 1#32
          ∧ (∀ m, m ≠ l → t.dev.loop m = s.dev.loop m) ∧ t.dev.drv = s.dev.drv ∧ t.dev.tm = s.dev.tm ∧ kept t)
      ∧ ([fr.2.1, fr.2.2.1, fr.2.2.2, fSub fr.2.2.1 fr.2.1, out].all fFinite = false →
        ∃ t, exec (.loopEvaluation loop) s = .next t ∧ (t.dev.loop l).num = true ∧ hcNUM ∈ (t.dev.loop l).causes
          ∧ (t.dev.loop l).latched = none ∧ (t.dev.loop l).r = (s.dev.loop l).r ∧ t.dev.tm = s.dev.tm ∧ kept t))
    ∧ ((s.dev.loop l).latched = none ∨ s.dev.lpeOn = false → exec (.loopEvaluation loop) s = .next s)
    ∧ ((s.dev.loop l).latched = some x →
      ∃ t, exec (.evalMiss loop) s = .next t ∧ (t.dev.loop l).latched = none ∧ (t.dev.loop l).nextOut = none
        ∧ t.dev.rd (Reg.LPT_U l) = s.dev.rd (Reg.LPT_U l) ∧ t.dev.rd Reg.LPE_EVAL_MISS = sat32 (s.dev.rdN Reg.LPE_EVAL_MISS + 1)
        ∧ t.dev.bit (Reg.FAULT pLPE) 19 = true ∧ (∀ m, m ≠ l → t.dev.loop m = s.dev.loop m) ∧ kept t)
    ∧ ((s.dev.loop l).latched = none → exec (.evalMiss loop) s = .next s)
    ∧ (let u := arrived Reg.LPE_LP_CLR s;
      Accepts req Reg.LPE_LP_CLR v u → bitOf v 8 = true →
      ∃ t, exec (.loopClear req v) s = .next t ∧ answerTo req t = ⟨.ok, 1, []⟩
        ∧ t.dev.loop (field v 6 0) = { u.dev.loop (field v 6 0) with fe := false, num := false }
        ∧ (∀ m, m ≠ field v 6 0 → t.dev.loop m = u.dev.loop m)
        ∧ differOnly (fun d => { d with lpe := {}, fab := {}, pow := {} }) u t)
    ∧ (bitOf v 8 = false → ¬Accepts req Reg.LPE_LP_CLR v s)

/-- Soundings are armed, forced, stopped, selected and read. ARM clears each trace of its mask and gives it its configuration, waiting for its trigger, or triggered at once where its mode is 0; with PACK and a pre-trigger on one of them the write is answered LEN. FORCE triggers the waiting traces of its mask, and STOP ends the running ones with IRQ_RAW set. No command touches a trace outside its mask. SND_RSEL selects a trace from its first word, and a read of SND_PORT gives its next words while it is done, and none before. (15_loop_engine.md) Where it rests on log entry 43, that part is the model's choice and no rule of the spec. -/
def Obligations.Soundings : Prop :=
  ∀ (req : Requester) (mask words : Nat) (trace : Fin 16) (s : State),
    let page (u t : State) : Prop := differOnly (fun d => { d with lpe := {}, fab := {}, pow := {} }) u t
    let bad (s : State) := (List.range 16).any (fun c => mask.testBit c && s.dev.bit (Reg.SND_SND_SRC c) 24 && s.dev.fld (Reg.SND_SND_TRIG c) 29 16 ≠ 0)
    (let u := arrived Reg.SND_SND_CMD s;
      Accepts req Reg.SND_SND_CMD (sndWord 1 mask) u → bad u = false →
      ∃ t, exec (.soundingArm req mask) s = .next t ∧ answerTo req t = ⟨.ok, 1, []⟩ ∧ t.dev.lpe.loop = u.dev.lpe.loop ∧ page u t
        ∧ (∀ c, c < 16 → mask.testBit c = false → t.dev.trace c = u.dev.trace c)
        ∧ (∀ c, c < 16 → mask.testBit c = true →
            (t.dev.trace c).state = (if u.dev.fld (Reg.SND_SND_TRIG c) 2 0 = 0 then 2 else 1) ∧ (t.dev.trace c).samples = []
            ∧ (t.dev.trace c).src = u.dev.rd (Reg.SND_SND_SRC c) ∧ (t.dev.trace c).trig = u.dev.rd (Reg.SND_SND_TRIG c)
            ∧ (t.dev.trace c).level = u.dev.rd (Reg.SND_SND_LEVEL c) ∧ t.dev.fld (Reg.SND_SND_STAT c) 31 16 = 0))
    ∧ (let u := arrived Reg.SND_SND_CMD s;
      Accepts req Reg.SND_SND_CMD (sndWord 1 mask) u → bad u = true →
      ∃ t, exec (.soundingArm req mask) s = .next t ∧ answerTo req t = ⟨.len, 0, []⟩ ∧ t.dev.lpe = u.dev.lpe ∧ page u t
        ∧ regsKept [Reg.LEN_REJ pSND, Reg.FAULT pSND, Reg.IRQ_RAW pSND, Reg.HOST_LAST_ERR, Reg.HOST_LAST_ERR_ADDR] u t)
    ∧ (let u := arrived Reg.SND_SND_CMD s;
      Accepts req Reg.SND_SND_CMD (sndWord 2 mask) u →
      ∃ t, exec (.soundingForce req mask) s = .next t ∧ answerTo req t = ⟨.ok, 1, []⟩ ∧ t.dev.lpe.loop = u.dev.lpe.loop ∧ page u t
        ∧ ∀ c, c < 16 → t.dev.trace c = (if mask.testBit c = true ∧ (u.dev.trace c).state = 1
            then { u.dev.trace c with state := 2, trigIdx := (u.dev.trace c).samples.length } else u.dev.trace c))
    ∧ (let u := arrived Reg.SND_SND_CMD s;
      Accepts req Reg.SND_SND_CMD (sndWord 3 mask) u →
      ∃ t, exec (.soundingStop req mask) s = .next t ∧ answerTo req t = ⟨.ok, 1, []⟩ ∧ t.dev.lpe.loop = u.dev.lpe.loop ∧ page u t
        ∧ ∀ c, c < 16 →
          (mask.testBit c = true → (u.dev.trace c).state = 1 ∨ (u.dev.trace c).state = 2 →
            t.dev.trace c = { u.dev.trace c with state := 3, period := false } ∧ t.dev.bit (Reg.IRQ_RAW pSND) 16 = true)
          ∧ (mask.testBit c = false ∨ ((u.dev.trace c).state ≠ 1 ∧ (u.dev.trace c).state ≠ 2) → t.dev.trace c = u.dev.trace c))
    ∧ (let u := arrived Reg.SND_SND_RSEL s;
      Accepts req Reg.SND_SND_RSEL (w32 trace) u →
      ∃ t, exec (.soundingSelect req trace) s = .next t ∧ answerTo req t = ⟨.ok, 1, []⟩ ∧ t.dev.fld Reg.SND_SND_RSEL 3 0 = trace.val
        ∧ t.dev.lpe = { u.dev.lpe with readPos := 0 } ∧ page u t ∧ regsKept [Reg.SND_SND_RSEL] u t)
    ∧ (let u := arrived Reg.SND_SND_PORT s;
      Readable req Reg.SND_SND_PORT u →
      let tr := u.dev.trace (u.dev.fld Reg.SND_SND_RSEL 3 0)
      let ws := (tr.words.drop u.dev.lpe.readPos).take words
      (tr.state = 3 → ∃ t, exec (.soundingRead req words) s = .next t ∧ answerTo req t = ⟨.ok, ws.length, ws⟩
        ∧ t.dev.lpe = { u.dev.lpe with readPos := u.dev.lpe.readPos + ws.length } ∧ page u t ∧ regsKept [Reg.STATUS pSND] u t)
      ∧ (tr.state ≠ 3 → ∃ t, exec (.soundingRead req words) s = .next t ∧ answerTo req t = ⟨.ok, 0, []⟩ ∧ t.dev.lpe = u.dev.lpe
        ∧ page u t ∧ regsKept [Reg.STATUS pSND] u t))

/-- The host's heartbeat, its loss, and the policies of a loss. A kick from a requester whose kicks count restarts the heartbeat timer and arms the supervision, and notes the return of a lost host; any other write of HB_KICK is answered OK and changes nothing. Once HB_PERIOD has passed since the last kick, an armed supervision takes the host for lost, with STATUS, FAULT and interrupt, under the policy that stands then. The next turn brings CLOSE into force: no metered channel is on and no host ON is pending; a return ends the loss at the turn. CONTINUE ends after CONTINUE_MAX in the same close. (16_recovery_timeouts_and_reset.md, 02_register_pages_and_host_link.md) Where it rests on log entries 2, 131, 132, that part is the model's choice and no rule of the spec. -/
def Obligations.HostSupervision : Prop :=
  ∀ (req : Requester) (data : W32) (policy since : Nat) (s : State),
    let kept (t : State) : Prop := t.ldg = s.ldg ∧ t.rcd = s.rcd ∧ t.pending = s.pending
    (Accepts req Reg.HOST_HB_KICK data s → s.dev.kicksFrom req = true →
      ∃ t, exec (.hbKick req data) s = .next t ∧ answerTo req t = ⟨.ok, 1, []⟩ ∧ t.dev.stat pHOST 17 = true
        ∧ t.dev.sup = { s.dev.sup with hbAt := s.dev.tm.tbm, kicked := s.dev.sup.kicked || s.dev.sup.lost.isSome }
        ∧ differOnly (fun d => { d with sup := {}, fab := {}, pow := {} }) s t ∧ regsKept [Reg.STATUS pHOST] s t)
    ∧ (Accepts req Reg.HOST_HB_KICK data s → s.dev.kicksFrom req = false →
      exec (.hbKick req data) s = .next (acceptedWrite req Reg.HOST_HB_KICK id s))
    ∧ (s.dev.stat pHOST 17 = true → s.dev.sup.lost = none →
      ∃ t, exec .hostLost s = .next t ∧ t.dev.sup.lost = some (s.dev.rdN Reg.HOST_HOSTLOST_POLICY, t.dev.tm.tbm)
        ∧ s.dev.sup.hbAt + s.dev.rdN Reg.HOST_HB_PERIOD * 1000000 ≤ t.dev.tm.tbm
        ∧ t.dev.sup.applied = false ∧ t.dev.sup.closes = false ∧ t.dev.sup.kicked = false
        ∧ t.dev.stat pHOST 16 = true ∧ t.dev.bit (Reg.FAULT pHOST) 16 = true ∧ t.dev.bit (Reg.IRQ_RAW pHOST) 16 = true
        ∧ t.dev.drv = s.dev.drv ∧ t.dev.eds = s.dev.eds ∧ kept t
        ∧ regsKept [Reg.STATUS pHOST, Reg.FAULT pHOST, Reg.IRQ_RAW pHOST, Reg.REC_SUPP_TOTAL] s t)
    ∧ (s.dev.stat pHOST 17 = false ∨ s.dev.sup.lost.isSome = true → exec .hostLost s = .next s)
    ∧ (s.dev.sup.lost = some (1, since) → s.dev.sup.kicked = false → s.dev.sup.applied = false →
      s.dev.hostTurn.sup.applied = true ∧ s.dev.hostTurn.sup.closes = true
        ∧ (∀ c, s.dev.metered c = true → s.dev.hostTurn.isOn c = false) ∧ (∀ a ∈ s.dev.hostTurn.eds.acts, a.kind ≠ haON))
    ∧ (s.dev.sup.lost = some (policy, since) → s.dev.sup.kicked = true →
      s.dev.hostTurn.sup.lost = none ∧ s.dev.hostTurn.stat pHOST 16 = false ∧ s.dev.hostTurn.bit (Reg.IRQ_RAW pHOST) 17 = true
        ∧ s.dev.hostTurn.drv = s.dev.drv)
    ∧ (s.dev.sup.lost = some (0, since) → s.dev.sup.applied = true → s.dev.sup.closes = false →
      ∃ t, exec .continueExpiry s = .next t ∧ since + s.dev.rdN Reg.HOST_CONTINUE_MAX * 1000000000 ≤ t.dev.tm.tbm
        ∧ t.dev.stat pHOST 18 = true ∧ t.dev.sup.closes = true ∧ (∀ c, s.dev.metered c = true → t.dev.isOn c = false)
        ∧ (∀ a ∈ t.dev.eds.acts, a.kind ≠ haON) ∧ kept t)
    ∧ (s.dev.sup.lost = none ∨ s.dev.sup.applied = false ∨ s.dev.sup.closes = true → exec .continueExpiry s = .next s)

/-- The MP watchdog, a firmware-only restart, and the arming of the output path. MP_KICK restarts the MP's timer. Its expiry, or WDG_CMD 1, restarts a running MP: MP_STATE is RESTARTING, the restart is counted with its time, every Ivyth session is closed, and no channel changes; a restart too many within MP_RST_WIN leaves it HALTED instead. WDG_CMD 2 releases a halted MP into one restart, the list of restarts begun afresh. MP_RESTART_DONE puts it into RUN. The arm key arms the output path where the policy permits it, and else sets the refusal bit; after a power-fail warning it does nothing. The disarm key disarms: no SWITCH channel is on, and, where the path was armed, no metered channel. (16_recovery_timeouts_and_reset.md, 19_measured_start_and_attestation.md) Where it rests on log entries 2, 134, 135, 136, 137, that part is the model's choice and no rule of the spec. -/
def Obligations.MpSupervisionAndArming : Prop :=
  ∀ (req : Requester) (data : W32) (s : State),
    let kept (t : State) : Prop := t.ldg = s.ldg ∧ t.rcd = s.rcd ∧ t.pending = s.pending
    let late := s.dev.toTbm (s.dev.sup.mpAt + 20000000)
    let down (t : State) : Prop := t.dev.fab.sessions = [none, none] ∧ t.dev.rd Reg.HOST_IVY_SESS = 0#32 ∧ t.dev.drv = s.dev.drv ∧ kept t
    let begun (d : Dev) (t : State) : Prop := t.dev.mpState = mpRESTARTING ∧ t.dev.rd Reg.WDG_MP_RST_CNT = s.dev.rd Reg.WDG_MP_RST_CNT + 1#32
      ∧ t.dev.rd64 Reg.WDG_MP_LAST_RST = d.tm.tbm % 2 ^ 64 ∧ t.dev.bit (Reg.IRQ_RAW pWDG) 16 = true ∧ down t
    let halted (t : State) : Prop := t.dev.mpState = mpHALTED ∧ t.dev.stat pWDG 16 = true ∧ t.dev.bit (Reg.FAULT pWDG) 17 = true ∧ down t
    (Accepts req Reg.WDG_MP_KICK data s →
      exec (.mpKick req data) s = .next (acceptedWrite req Reg.WDG_MP_KICK (fun d => { d with sup := { d.sup with mpAt := d.tm.tbm } }) s))
    ∧ (s.dev.mpState = mpRUN → s.dev.att.boot = 4 → s.dev.powerState ≤ 1 →
      (late.mpRecent.length + 1 ≤ s.dev.rdN Reg.WDG_MP_RST_MAX →
        ∃ t, exec .mpWatchdogExpiry s = .next t ∧ begun late t ∧ t.dev.sup.mpRuns = late.mpRecent ++ [late.tm.tbm]
          ∧ t.dev.bit (Reg.FAULT pWDG) 16 = true)
      ∧ (s.dev.rdN Reg.WDG_MP_RST_MAX < late.mpRecent.length + 1 → ∃ t, exec .mpWatchdogExpiry s = .next t ∧ halted t))
    ∧ (s.dev.mpState ≠ mpRUN ∨ s.dev.att.boot ≠ 4 ∨ 1 < s.dev.powerState → exec .mpWatchdogExpiry s = .next s)
    ∧ (Accepts req Reg.WDG_WDG_CMD 1#32 s →
      (s.dev.mpState = mpRUN → s.dev.mpRecent.length + 1 ≤ s.dev.rdN Reg.WDG_MP_RST_MAX →
        ∃ t, exec (.mpRestart req) s = .next t ∧ answerTo req t = ⟨.ok, 1, []⟩ ∧ begun s.dev t
          ∧ t.dev.sup.mpRuns = s.dev.mpRecent ++ [s.dev.tm.tbm] ∧ t.dev.bit (Reg.FAULT pWDG) 16 = s.dev.bit (Reg.FAULT pWDG) 16)
      ∧ (s.dev.mpState = mpRUN → s.dev.rdN Reg.WDG_MP_RST_MAX < s.dev.mpRecent.length + 1 →
        ∃ t, exec (.mpRestart req) s = .next t ∧ answerTo req t = ⟨.ok, 1, []⟩ ∧ halted t)
      ∧ (s.dev.mpState ≠ mpRUN → exec (.mpRestart req) s = .next (acceptedWrite req Reg.WDG_WDG_CMD id s)))
    ∧ (Accepts req Reg.WDG_WDG_CMD 2#32 s →
      (s.dev.mpState = mpHALTED →
        ∃ t, exec (.mpRelease req) s = .next t ∧ answerTo req t = ⟨.ok, 1, []⟩ ∧ begun s.dev t
          ∧ t.dev.sup.mpRuns = [s.dev.tm.tbm] ∧ t.dev.stat pWDG 16 = false)
      ∧ (s.dev.mpState ≠ mpHALTED → exec (.mpRelease req) s = .next (acceptedWrite req Reg.WDG_WDG_CMD id s)))
    ∧ (s.dev.mpState = mpRESTARTING →
      ∃ t, exec .mpRestartDone s = .next t ∧ t.dev.mpState = mpRUN ∧ t.dev.bit (Reg.IRQ_RAW pWDG) 17 = true
        ∧ t.dev.sup = { s.dev.sup with mpAt := s.dev.tm.tbm } ∧ differOnly (fun d => { d with sup := {} }) s t
        ∧ regsKept [Reg.WDG_MP_STATE, Reg.IRQ_RAW pWDG] s t)
    ∧ (s.dev.mpState ≠ mpRESTARTING → exec .mpRestartDone s = .next s)
    ∧ (Accepts req Reg.SYS_OUT_ARM keyArm s →
      (s.dev.pow.pfAt = none → s.dev.armAllowed = true →
        ∃ t, exec (.outputArm req) s = .next t ∧ answerTo req t = ⟨.ok, 1, []⟩ ∧ t.dev.armed = true ∧ t.dev.bit Reg.SYS_OUT_STATE 1 = false
          ∧ t.dev.drv.ch = s.dev.drv.ch ∧ kept t)
      ∧ (s.dev.pow.pfAt = none → s.dev.armAllowed = false →
        exec (.outputArm req) s = .next (acceptedWrite req Reg.SYS_OUT_ARM (·.setBit Reg.SYS_OUT_STATE 1 true) s))
      ∧ (s.dev.pow.pfAt ≠ none → exec (.outputArm req) s = .next (acceptedWrite req Reg.SYS_OUT_ARM id s)))
    ∧ (Accepts req Reg.SYS_OUT_ARM keyDisarm s →
      ∃ t, exec (.outputDisarm req) s = .next t ∧ answerTo req t = ⟨.ok, 1, []⟩ ∧ t.dev.armed = false ∧ t.dev.fld Reg.SYS_OUT_STATE 7 4 = 2
        ∧ (∀ c, s.dev.mode c = mSWITCH → t.dev.isOn c = false) ∧ (s.dev.armed = true → ∀ c, s.dev.metered c = true → t.dev.isOn c = false)
        ∧ kept t)

/-- The intake of a record, the suppression of one, and the summary. RECORD_INTAKE takes the first waiting event. Where its code has a token or is unlimited, the record that joins the buffer has the next SEQ, the code and payload of the event and the time of the intake, 10 ns on, and the ring and the keys are as they were; while the buffer has room the records before it stand. Where the code has no token, no record is written and SUPP_TOTAL is one more. Nothing happens while no event waits or intake is held. SUPPRESSED_SUMMARY of a code with suppressions begins its count afresh and puts the summary of the ended episode in the queue; without suppressions it does nothing. A write of a rate limit takes the BURST and RATE of its two codes, or is answered LEN where one of them is 0 in a limited entry. (17_strata_recorder.md) Where it rests on log entry 146, that part is the model's choice and no rule of the spec. -/
def Obligations.RecordIntake : Prop :=
  ∀ (req : Requester) (code : Fin 1024) (index : Fin 512) (data : W32) (e : Event) (rest : List Event) (s : State),
    let next := s.dev.advance 1
    let r : Record := ⟨e.codeOf, s.rcd.nextSeq, s.dev.tm.tbm + 10, wallWords next.wall, e.payload.take 56⟩
    let z : Suppressed := sget (fun _ => {}) s.dev.rcf.supp code.val
    let limitOk (k : Nat) : Prop := field data (16 * k + 15) (16 * k) = 0xFFFF
      ∨ (field data (16 * k + 15) (16 * k) / 256 ≠ 0 ∧ field data (16 * k + 15) (16 * k) % 256 ≠ 0)
    (s.dev.rcf.intake = e :: rest → s.dev.intakeFree = true →
      (s.dev.rateEntry e.codeOf = 0xFFFF ∨ (next.bucketNow e.codeOf).tokens ≠ 0 →
        ∃ t, exec .recordIntake s = .next t ∧ t.rcd.nextSeq = s.rcd.nextSeq + 1 ∧ t.rcd.undrained.getLast? = some r
          ∧ t.rcd.ring = s.rcd.ring ∧ t.rcd.keys = s.rcd.keys ∧ t.rcd.pf = s.rcd.pf ∧ t.rcd.failLog = s.rcd.failLog
          ∧ t.ldg = s.ldg ∧ t.pending = s.pending ∧ t.dev.tm = next.tm
          ∧ (recordBytes s.rcd.undrained + r.bytes ≤ bufferBytes →
              t.rcd.undrained = s.rcd.undrained ++ [r] ∧ t.dev.rcf.intake = rest ∧ t.dev.regs = s.dev.regs))
      ∧ (s.dev.rateEntry e.codeOf ≠ 0xFFFF → (next.bucketNow e.codeOf).tokens = 0 →
        ∃ t, exec .recordIntake s = .next t ∧ t.rcd = s.rcd ∧ t.dev.rcf.intake = rest ∧ t.ldg = s.ldg ∧ t.pending = s.pending
          ∧ t.dev.rd Reg.REC_SUPP_TOTAL = sat32 (s.dev.rdN Reg.REC_SUPP_TOTAL + 1) ∧ t.dev.tm = next.tm
          ∧ regsKept [Reg.REC_SUPP_TOTAL] s t))
    ∧ (s.dev.rcf.intake = [] ∨ s.dev.intakeFree = false → exec .recordIntake s = .next s)
    ∧ (z.count = 0 → exec (.suppressedSummary code) s = .next s)
    ∧ (z.count ≠ 0 → s.dev.rcf.closed = false → s.dev.pow.pfAt = none → s.dev.rcf.intake.length < intakeDepth →
        ∃ t, exec (.suppressedSummary code) s = .next t ∧ (sget (fun _ => {}) t.dev.rcf.supp code.val).count = 0
          ∧ summaryEvent code.val z t.dev.tm.tbm ∈ t.dev.rcf.intake ∧ t.dev.rcf.intake.length = s.dev.rcf.intake.length + 1
          ∧ min (s.dev.bucketFullAt code.val) z.due ≤ t.dev.tm.tbm ∧ t.dev.regs = s.dev.regs
          ∧ t.rcd = s.rcd ∧ t.ldg = s.ldg ∧ t.pending = s.pending)
    ∧ (Accepts req (Reg.REC_RL index.val) data s → index.val < 480 →
      (limitOk 0 → limitOk 1 →
        ∃ t, exec (.rateLimitWrite req index data) s = .next t ∧ answerTo req t = ⟨.ok, 1, []⟩ ∧ t.dev.rd (Reg.REC_RL index.val) = data
          ∧ differOnly (fun d => { d with rcf := {}, fab := {}, pow := {} }) s t ∧ regsKept [Reg.REC_RL index.val] s t)
      ∧ (¬(limitOk 0 ∧ limitOk 1) →
        ∃ t, exec (.rateLimitWrite req index data) s = .next t ∧ answerTo req t = ⟨.len, 0, []⟩
          ∧ differOnly (fun d => { d with fab := {}, pow := {} }) s t
          ∧ regsKept [Reg.LEN_REJ pREC, Reg.FAULT pREC, Reg.IRQ_RAW pREC, Reg.HOST_LAST_ERR, Reg.HOST_LAST_ERR_ADDR] s t))

/-- The drain of the buffer into the ring, and the reads of records and of the failure log. While the MP runs and the store takes the write, BUFFER_DRAIN moves every undrained record into the ring, in order, and keeps it readable in the buffer; a sector that fails is replaced by a spare, SPARE_LEFT one less, and where the store does not answer the records stay undrained with STATUS, FAULT and interrupt. Without a running MP nothing is drained. REC_CMD 3 asks for a drain; REC_CMD 4 opens a read session where RD_FROM points, or at the oldest record with STATUS.SHORT where that is gone. REC_PORT gives the records of the session whole and in order, cut to the words asked for. BR_PORT gives the words of the selected entry of the failure log from where the last read ended. (17_strata_recorder.md) Where it rests on log entries 3, 147, 149, that part is the model's choice and no rule of the spec. -/
def Obligations.DrainAndReadOut : Prop :=
  ∀ (req : Requester) (outcome : DrainOutcome) (words sector spare : Nat) (bedrockOk : Bool) (s : State),
    let up : Prop := s.dev.mpState = mpRUN ∧ s.dev.powerState ≤ 1 ∧ s.rcd.undrained ≠ [] ∧ s.dev.stat pREC 16 = false
    let from_ := s.dev.rd64 Reg.REC_RD_FROM
    let all : Prop := from_ = 2 ^ 64 - 1
    let ep := s.dev.fld Reg.REC_RD_EPOCH 15 0
    let g := gather words s.matches_ s.rcd.readWords s.rcd.readPos 0
    let entry := sget (fun _ => none) s.rcd.failLog (s.dev.fld Reg.REC_BR_SEL 5 0)
    let ws := ((failWords entry).drop s.rcd.brPos).take words
    let drained (t : State) : Prop := t.rcd.undrained = [] ∧ t.rcd.kept = s.rcd.kept ++ s.rcd.undrained
      ∧ t.rcd.ring = s.rcd.undrained.foldl (ringAdd s.dev.epoch) s.rcd.ring ∧ t.rcd.nextSeq = s.rcd.nextSeq ∧ t.rcd.keys = s.rcd.keys
      ∧ t.dev.rcf.drainReq = false ∧ t.ldg = s.ldg ∧ t.pending = s.pending
    (up → ∃ t, exec (.bufferDrain ⟨.written, bedrockOk⟩) s = .next t ∧ drained t ∧ t.dev.regs = s.dev.regs)
    ∧ (up → s.dev.rdN Reg.REC_SPARE_LEFT ≠ 0 →
      ∃ t, exec (.bufferDrain ⟨.respared sector spare, bedrockOk⟩) s = .next t ∧ drained t
        ∧ t.dev.rdN Reg.REC_SPARE_LEFT = s.dev.rdN Reg.REC_SPARE_LEFT - 1 ∧ regsKept [Reg.REC_SPARE_LEFT, Reg.REC_SUPP_TOTAL] s t)
    ∧ (up → ∃ t, exec (.bufferDrain ⟨.noAnswer, bedrockOk⟩) s = .next t ∧ t.rcd.undrained = s.rcd.undrained ∧ t.rcd.ring = s.rcd.ring
        ∧ t.dev.stat pREC 16 = true ∧ t.dev.bit (Reg.FAULT pREC) 16 = true ∧ t.dev.bit (Reg.IRQ_RAW pREC) 16 = true
        ∧ t.ldg = s.ldg ∧ t.pending = s.pending
        ∧ (bedrockOk = true → sget (fun _ => none) t.rcd.failLog (s.dev.rdN Reg.REC_BR_FAIL_CNT % 64)
            = some ⟨2, s.dev.tm.tbm, wallWords s.dev.wall, s.rcd.nextSeq, 0⟩)
        ∧ (bedrockOk = false → t.rcd = s.rcd ∧ t.dev.stat pREC 17 = true ∧ t.dev.bit (Reg.FAULT pREC) 17 = true))
    ∧ (s.dev.mpState ≠ mpRUN ∨ 1 < s.dev.powerState → exec (.bufferDrain outcome) s = .next s)
    ∧ (Accepts req Reg.REC_REC_CMD 3#32 s →
      exec (.drainNow req) s = .next (acceptedWrite req Reg.REC_REC_CMD (fun d => { d with rcf := { d.rcf with drainReq := true } }) s))
    ∧ (Accepts req Reg.REC_REC_CMD 4#32 s →
      ∃ t, exec (.readStart req) s = .next t ∧ answerTo req t = ⟨.ok, 1, []⟩
        ∧ t.rcd = { s.rcd with readOpen := true, readWords := [], readLeft := s.dev.rdN Reg.REC_RD_COUNT, readCode := s.dev.rdN Reg.REC_RD_CODE
                               readEpoch := if ep = 0xFFFF then s.dev.epoch else ep
                               readPos := if all ∨ from_ < s.rcd.oldest then 0 else from_ }
        ∧ (¬all → from_ < s.rcd.oldest → t.dev.stat pREC sSHORT = true) ∧ regsKept [Reg.STATUS pREC] s t
        ∧ t.ldg = s.ldg ∧ t.pending = s.pending)
    ∧ (Readable req Reg.REC_REC_PORT s → s.rcd.readOpen = true →
      ∃ t, exec (.recordRead req words) s = .next t ∧ answerTo req t = ⟨.ok, (g.1.take words).length, g.1.take words⟩
        ∧ t.rcd.readPos = g.2.1 ∧ t.rcd.readWords = g.1.drop words ∧ t.rcd.undrained = s.rcd.undrained ∧ t.rcd.ring = s.rcd.ring
        ∧ t.rcd.kept = s.rcd.kept ∧ t.ldg = s.ldg ∧ t.pending = s.pending ∧ regsKept [Reg.STATUS pREC] s t)
    ∧ (Readable req Reg.REC_REC_PORT s → s.rcd.readOpen = false →
      ∃ t, exec (.recordRead req words) s = .next t ∧ answerTo req t = ⟨.ok, 0, []⟩ ∧ t.rcd = s.rcd ∧ regsKept [Reg.STATUS pREC] s t)
    ∧ (Readable req Reg.REC_BR_PORT s →
      ∃ t, exec (.failureLogRead req words) s = .next t ∧ answerTo req t = ⟨.ok, ws.length, ws⟩
        ∧ t.rcd = { s.rcd with brPos := s.rcd.brPos + ws.length } ∧ regsKept [Reg.STATUS pREC] s t ∧ t.ldg = s.ldg ∧ t.pending = s.pending)

/-- Nonces, authorisations, epochs and keys. REC_CMD 1 issues a fresh nonce in place of the one before. REC_CMD 2 spends it and hands the words of the authorisation to a running MP; while one is in progress it ends in result 7, and without a running MP in result 6. AUTH_COMPLETE leaves the result of R438's checks with its interrupt: a refusal changes no key and no record; an accepted CLEAR begins; an accepted key change puts the key into its slot or empties it. CLEAR_COMPLETE drains the buffer into the old epoch and opens the next with EPOCH_START, or leaves everything where the bedrock store fails. KEY_CMD loads a key only into an empty slot. (17_strata_recorder.md) Where it rests on log entries 3, 107, 109, 148, that part is the model's choice and no rule of the spec. -/
def Obligations.KeysAndAuthorisations : Prop :=
  ∀ (req : Requester) (slot : Nat) (written : Bool) (s : State),
    let a := (List.range 41).map (fun i => s.dev.rd (Reg.REC_AUTH i))
    let fresh := s.dev.rcf.nonceAt.any (fun n => decide (s.dev.tm.tbm ≤ n + 300000000000))
      && (a.drop 4).take 4 = (List.range 4).map (fun i => s.dev.rd (Reg.REC_NONCE i))
    let w1 := s.dev.rcf.auth.getD 1 0
    let key := (s.dev.rcf.auth.drop 9).take 16
    let loaded := (List.range 16).map (fun i => s.dev.rd (Reg.REC_KEY_W i))
    let kept (t : State) : Prop := t.ldg = s.ldg ∧ t.pending = s.pending
    let ended (code : Nat) (t : State) : Prop := t.dev.rdN Reg.REC_AUTH_RESULT = code ∧ t.dev.bit (Reg.IRQ_RAW pREC) 17 = true ∧ kept t
    (Accepts req Reg.REC_REC_CMD 1#32 s →
      ∃ t, exec (.recNonce req) s = .next t ∧ answerTo req t = ⟨.ok, 1, []⟩ ∧ t.dev.rcf.nonceAt = some s.dev.tm.tbm
        ∧ t.dev.rcf.nonceCnt = s.dev.rcf.nonceCnt + 1
        ∧ (∀ k, k < 4 → t.dev.rd (Reg.REC_NONCE k) = (wordsBE (natBE 16 (Config.recorderNonce s.dev.rcf.nonceCnt).toNat)).getD k 0)
        ∧ differOnly (fun d => { d with rcf := {}, fab := {}, pow := {} }) s t ∧ regsKept ((List.range 4).map Reg.REC_NONCE) s t)
    ∧ (Accepts req Reg.REC_REC_CMD 2#32 s →
      (s.dev.stat pREC 20 = true → ∃ t, exec (.recAuth req) s = .next t ∧ answerTo req t = ⟨.ok, 1, []⟩ ∧ ended 7 t
        ∧ t.dev.rcf.nonceAt = none ∧ t.dev.rcf.auth = s.dev.rcf.auth ∧ t.rcd = s.rcd)
      ∧ (s.dev.stat pREC 20 = false → s.dev.mpState ≠ mpRUN → ∃ t, exec (.recAuth req) s = .next t ∧ answerTo req t = ⟨.ok, 1, []⟩ ∧ ended 6 t
        ∧ t.dev.rcf.nonceAt = none ∧ t.dev.stat pREC 20 = false ∧ t.rcd = s.rcd)
      ∧ (s.dev.stat pREC 20 = false → s.dev.mpState = mpRUN → ∃ t, exec (.recAuth req) s = .next t ∧ answerTo req t = ⟨.ok, 1, []⟩
        ∧ t.dev.stat pREC 20 = true ∧ t.dev.rcf = { s.dev.rcf with nonceAt := none, auth := a, authNonce := fresh }
        ∧ differOnly (fun d => { d with rcf := {}, fab := {}, pow := {} }) s t ∧ regsKept [Reg.STATUS pREC] s t))
    ∧ (s.dev.stat pREC 20 = true → s.dev.rcf.clearing = none →
      (s.authCode s.dev.rcf.auth ≠ 0 →
        ∃ t, exec .authComplete s = .next t ∧ ended (s.authCode s.dev.rcf.auth) t ∧ t.dev.stat pREC 20 = false ∧ t.rcd = s.rcd)
      ∧ (s.authCode s.dev.rcf.auth = 0 → field w1 31 24 = 1 →
        ∃ t, exec .authComplete s = .next t ∧ ended 0 t ∧ t.dev.stat pREC 18 = true ∧ t.dev.stat pREC 20 = true
          ∧ t.dev.rcf.clearing = some (field w1 23 16) ∧ t.dev.rd Reg.REC_EPOCH = s.dev.rd Reg.REC_EPOCH ∧ t.rcd = s.rcd)
      ∧ (s.authCode s.dev.rcf.auth = 0 → field w1 31 24 = 2 →
        ∃ t, exec .authComplete s = .next t ∧ ended 0 t ∧ t.dev.stat pREC 20 = false
          ∧ ((∀ x ∈ key, x = 0#32) → t.rcd = { s.rcd with keys := setAt s.rcd.keys (field w1 15 8) [] }
              ∧ t.dev.bit Reg.REC_KEY_STAT (field w1 15 8) = false)
          ∧ ((∃ x ∈ key, x ≠ 0#32) → t.rcd = { s.rcd with keys := setAt s.rcd.keys (field w1 15 8) key }
              ∧ t.dev.bit Reg.REC_KEY_STAT (field w1 15 8) = true)))
    ∧ (s.dev.stat pREC 20 = false ∨ s.dev.rcf.clearing.isSome = true → exec .authComplete s = .next s)
    ∧ (s.dev.rcf.clearing = some slot →
      (∃ t, exec (.clearComplete true) s = .next t ∧ t.dev.epoch = (s.dev.epoch + 1) % 65536 ∧ t.dev.rcf.clearing = none
        ∧ t.dev.stat pREC 18 = false ∧ t.dev.stat pREC 20 = false ∧ t.dev.bit (Reg.IRQ_RAW pREC) 18 = true
        ∧ t.rcd.undrained = [] ∧ t.rcd.kept = s.rcd.kept ++ s.rcd.undrained ∧ t.rcd.keys = s.rcd.keys ∧ t.rcd.nextSeq = s.rcd.nextSeq + 1 ∧ kept t
        ∧ ∃ z r, t.rcd.ring.getLast? = some z ∧ z.epoch = t.dev.epoch ∧ z.recs.getLast? = some r ∧ r.code = 0x3C1 ∧ r.seq = s.rcd.nextSeq
            ∧ r.payload.take 2 = [w32 ((s.dev.epoch + 1) % 65536), w32 s.dev.epoch])
      ∧ (∃ t, exec (.clearComplete false) s = .next t ∧ t.rcd = s.rcd ∧ t.dev.epoch = s.dev.epoch ∧ t.dev.rcf.clearing = none
        ∧ t.dev.stat pREC 18 = false ∧ t.dev.stat pREC 20 = false ∧ t.dev.stat pREC 17 = true ∧ t.dev.bit (Reg.FAULT pREC) 17 = true ∧ kept t))
    ∧ (s.dev.rcf.clearing = none → exec (.clearComplete written) s = .next s)
    ∧ (Accepts req Reg.REC_KEY_CMD (w32 slot) s → slot < 4 →
      (s.rcd.key slot = none → s.dev.stat pREC 17 = false →
        (∃ t, exec (.keyLoad req slot true) s = .next t ∧ answerTo req t = ⟨.ok, 1, []⟩ ∧ t.rcd = { s.rcd with keys := setAt s.rcd.keys slot loaded }
          ∧ t.dev.bit Reg.REC_KEY_STAT slot = true ∧ regsKept [Reg.REC_KEY_STAT] s t ∧ kept t)
        ∧ (∃ t, exec (.keyLoad req slot false) s = .next t ∧ answerTo req t = ⟨.ok, 1, []⟩ ∧ t.rcd = s.rcd ∧ t.dev.stat pREC 17 = true
          ∧ t.dev.bit (Reg.FAULT pREC) 17 = true ∧ kept t))
      ∧ ((s.rcd.key slot).isSome = true ∨ s.dev.stat pREC 17 = true →
        ∃ t, exec (.keyLoad req slot written) s = .next t ∧ answerTo req t = ⟨.len, 0, []⟩ ∧ t.rcd = s.rcd
          ∧ t.dev.rd Reg.REC_KEY_STAT = s.dev.rd Reg.REC_KEY_STAT ∧ kept t))

/-- Measured start, the OEM blob, the extensions, the report and its confirmation, and the ARM policy. MEASURED_START_STAGE of the stage that is due measures its image, and goes on to the next stage, or halts the MP where the image cannot run; no other measurement register changes. A blob opens once, takes words, and is measured into MEAS5 when it is finished. EXT_CMD 6 and 7 extend their register with the extension words and count. ATT_CMD takes the fields of the report at once while the MP runs, and ends at once with result 1 while it does not; REPORT_READY puts the report with the next REPORT_SEQ into ATT_PORT's buffer, or ends without a report where the identity key fails. ATT_CONFIRM of a report that was issued with the present MEAS_GEN confirms, any other is answered LEN. POLICY_SET with its key stores the policy of the next controller reset and no other write of it stores anything. (19_measured_start_and_attestation.md) Where it rests on log entries 3, 107, 151, 152, 153, that part is the model's choice and no rule of the spec. -/
def Obligations.MeasuredStartAndAttestation : Prop :=
  ∀ (req : Requester) (stage : Fin 4) (image : List Byte) (valid keyOk : Bool) (data : List W32) (which words gen : Nat) (body : List Byte) (v : W32) (s : State),
    let kept (t : State) : Prop := t.ldg = s.ldg ∧ t.rcd = s.rcd ∧ t.pending = s.pending ∧ t.dev.drv = s.dev.drv ∧ t.dev.tm = s.dev.tm
    let measured (k : Nat) (h : List W32) (t : State) : Prop := t.dev.meas k = h ∧ (∀ j, j < 8 → j ≠ k → t.dev.meas j = s.dev.meas j)
      ∧ (s.dev.meas k ≠ h → t.dev.rd Reg.ATT_MEAS_GEN = s.dev.rd Reg.ATT_MEAS_GEN + 1#32 ∧ t.dev.stat pATT 16 = false)
      ∧ (s.dev.meas k = h → t.dev.rd Reg.ATT_MEAS_GEN = s.dev.rd Reg.ATT_MEAS_GEN ∧ t.dev.stat pATT 16 = s.dev.stat pATT 16)
    let lo := if which = 6 then 0 else 16
    let seq := (s.dev.rd Reg.ATT_REPORT_SEQ + 1#32).toNat
    let ws := ((wordsBE s.dev.att.report).drop s.dev.att.pos).take words
    (stage.val = s.dev.att.boot → valid = true ∨ stage.val = 0 →
      ∃ t, exec (.measuredStartStage stage image valid) s = .next t ∧ measured stage.val (sha256 image) t
        ∧ t.dev.att = { s.dev.att with boot := s.dev.att.boot + 1 } ∧ t.dev.mpState = s.dev.mpState ∧ kept t)
    ∧ (stage.val = s.dev.att.boot → valid = false → stage.val ≠ 0 →
      ∃ t, exec (.measuredStartStage stage image valid) s = .next t ∧ measured stage.val (sha256 image) t
        ∧ t.dev.att.boot = 4 ∧ t.dev.mpState = mpHALTED ∧ t.dev.bit (Reg.FAULT pATT) 16 = true ∧ kept t)
    ∧ (stage.val ≠ s.dev.att.boot → exec (.measuredStartStage stage image valid) s = .next s)
    ∧ (Accepts req Reg.ATT_BLOB_CMD 1#32 s →
      (s.dev.blobOpen = false → s.dev.att.blobDone = false →
        exec (.blobOpen req) s = .next (acceptedWrite req Reg.ATT_BLOB_CMD (·.setBlob true []) s))
      ∧ (s.dev.blobOpen = true ∨ s.dev.att.blobDone = true →
        ∃ t, exec (.blobOpen req) s = .next t ∧ answerTo req t = ⟨.len, 0, []⟩ ∧ t.dev.att = s.dev.att ∧ t.dev.blobOpen = s.dev.blobOpen ∧ kept t))
    ∧ (Accepts req Reg.ATT_BLOB_PORT 0#32 s →
      (s.dev.blobOpen = true → 4 * (s.dev.att.blob.length + data.length) < 2 ^ 32 →
        ∃ t, exec (.blobWrite req data) s = .next t ∧ answerTo req t = ⟨.ok, data.length, []⟩
          ∧ t.dev.att = { s.dev.att with blob := data.reverse ++ s.dev.att.blob } ∧ t.dev.blobOpen = true ∧ kept t ∧ regsKept [] s t)
      ∧ (s.dev.blobOpen = false → data ≠ [] →
        ∃ t, exec (.blobWrite req data) s = .next t ∧ answerTo req t = ⟨.len, 0, []⟩ ∧ t.dev.att = s.dev.att ∧ t.dev.blobOpen = false ∧ kept t))
    ∧ (Accepts req Reg.ATT_BLOB_CMD 2#32 s →
      (s.dev.blobOpen = true →
        ∃ t, exec (.blobFinish req) s = .next t ∧ answerTo req t = ⟨.ok, 1, []⟩
          ∧ measured 5 (sha256 (blobBytes (s.dev.rdN Reg.ATT_BLOB_LEN_SET) s.dev.att.blob.reverse)) t
          ∧ t.dev.att = { s.dev.att with blob := [], blobDone := true } ∧ t.dev.blobOpen = false ∧ kept t)
      ∧ (s.dev.blobOpen = false →
        ∃ t, exec (.blobFinish req) s = .next t ∧ answerTo req t = ⟨.len, 0, []⟩ ∧ t.dev.att = s.dev.att
          ∧ (∀ j, j < 8 → t.dev.meas j = s.dev.meas j) ∧ kept t))
    ∧ (Accepts req Reg.ATT_EXT_CMD (w32 which) s → which = 6 ∨ which = 7 →
      ∃ t, exec (.measExtend req which) s = .next t ∧ answerTo req t = ⟨.ok, 1, []⟩
        ∧ measured which (sha256 ((s.dev.meas which ++ (List.range 8).map (fun i => s.dev.rd (Reg.ATT_EXT_W i))).flatMap bytesBE)) t
        ∧ t.dev.fld Reg.ATT_EXT_CNT (lo + 15) lo = min (s.dev.fld Reg.ATT_EXT_CNT (lo + 15) lo + 1) 0xFFFF ∧ t.dev.att = s.dev.att ∧ kept t)
    ∧ (Accepts req Reg.ATT_ATT_CMD 1#32 s →
      (s.dev.stat pATT 17 = false → s.dev.mpState = mpRUN →
        ∃ t, exec (.reportRequest req) s = .next t ∧ answerTo req t = ⟨.ok, 1, []⟩ ∧ t.dev.stat pATT 17 = true
          ∧ t.dev.att = { s.dev.att with req := some (s.dev.reportBody, s.dev.rdN Reg.ATT_MEAS_GEN) } ∧ kept t ∧ regsKept [Reg.STATUS pATT] s t)
      ∧ (s.dev.stat pATT 17 = false → s.dev.mpState ≠ mpRUN →
        ∃ t, exec (.reportRequest req) s = .next t ∧ answerTo req t = ⟨.ok, 1, []⟩ ∧ t.dev.rd Reg.ATT_ATT_RESULT = 1#32
          ∧ t.dev.bit (Reg.IRQ_RAW pATT) 16 = true ∧ t.dev.att = s.dev.att ∧ kept t)
      ∧ (s.dev.stat pATT 17 = true →
        ∃ t, exec (.reportRequest req) s = .next t ∧ answerTo req t = ⟨.len, 0, []⟩ ∧ t.dev.att = s.dev.att ∧ kept t))
    ∧ (s.dev.att.req = some (body, gen) →
      (∃ t, exec (.reportReady true) s = .next t ∧ t.dev.rdN Reg.ATT_REPORT_SEQ = seq ∧ t.dev.rd Reg.ATT_ATT_RESULT = 0#32
        ∧ t.dev.stat pATT 17 = false ∧ t.dev.bit (Reg.IRQ_RAW pATT) 16 = true ∧ kept t
        ∧ t.dev.att = { s.dev.att with req := none, pos := 0, issued := s.dev.att.issued ++ [(seq, gen)]
                                       report := reportBytes (s.dev.rd64 Reg.SYS_DEV_SERIAL) seq body })
      ∧ (∃ t, exec (.reportReady false) s = .next t ∧ t.dev.rd Reg.ATT_ATT_RESULT = 2#32 ∧ t.dev.stat pATT 17 = false
        ∧ t.dev.att = { s.dev.att with req := none } ∧ t.dev.rd Reg.ATT_REPORT_SEQ = s.dev.rd Reg.ATT_REPORT_SEQ ∧ kept t))
    ∧ (s.dev.att.req = none → exec (.reportReady keyOk) s = .next s)
    ∧ (Readable req Reg.ATT_ATT_PORT s →
      ∃ t, exec (.reportRead req words) s = .next t ∧ answerTo req t = ⟨.ok, ws.length, ws⟩
        ∧ t.dev.att = { s.dev.att with pos := s.dev.att.pos + ws.length } ∧ kept t ∧ regsKept [Reg.STATUS pATT] s t)
    ∧ (Accepts req Reg.ATT_ATT_CONFIRM v s →
      ((v.toNat, s.dev.rdN Reg.ATT_MEAS_GEN) ∈ s.dev.att.issued →
        exec (.attConfirm req v) s = .next (acceptedWrite req Reg.ATT_ATT_CONFIRM (·.setStat pATT 16 true) s))
      ∧ ((v.toNat, s.dev.rdN Reg.ATT_MEAS_GEN) ∉ s.dev.att.issued →
        ∃ t, exec (.attConfirm req v) s = .next t ∧ answerTo req t = ⟨.len, 0, []⟩ ∧ t.dev.stat pATT 16 = s.dev.stat pATT 16 ∧ kept t))
    ∧ (Accepts req Reg.ATT_POLICY_SET v s →
      (field v 31 16 = 0x504C →
        ∃ t, exec (.policySet req v) s = .next t ∧ answerTo req t = ⟨.ok, 1, []⟩ ∧ t.dev.rdN Reg.ATT_ARM_POLICY_NEXT = field v 0 0
          ∧ regsKept [Reg.ATT_ARM_POLICY_NEXT, Reg.REC_SUPP_TOTAL] s t ∧ kept t)
      ∧ (field v 31 16 ≠ 0x504C → exec (.policySet req v) s = .next (acceptedWrite req Reg.ATT_POLICY_SET id s)))

/-- The CAN ports: reception, bus-off, the host's frames and the CANTX slots. A frame that a running port receives and whose lowest matching filter sends it to the host joins that port's FIFO with its TB-S, or is counted as dropped with FAULT while the FIFO holds 64; a remote frame and one that no filter matches have no effect. BUS_OFF silences the port with its count, FAULT and interrupt, and BUS_RECOVERY makes it error active again; neither loses a queued frame. TX_PUSH queues the frame whose words match its DLC and empties the port, or is answered LEN and empties it. FRAME_SENT takes the slot's or the host's frame that is next in line. RX_PORT gives the oldest words. CANTX_PERIOD_END sends the value a slot has held. (20_networks_and_sensor_inputs.md) Where it rests on log entries 3, 26, 27, 29, 202, that part is the model's choice and no rule of the spec. -/
def Obligations.CanPorts : Prop :=
  ∀ (req : Requester) (port : Fin 2) (frame : CanFrame) (slot : Fin 8) (words i n : Nat) (f : TxFrame) (s : State),
    let p := port.val
    let c := s.dev.can p
    let on : Prop := s.dev.canOn p = true ∧ c.busOff = false
    let keptOf (u t : State) : Prop := t.ldg = u.ldg ∧ t.rcd = u.rcd ∧ t.pending = u.pending ∧ t.dev.drv = u.dev.drv
      ∧ ∀ q, q ≠ p → t.dev.can q = u.dev.can q
    let made (ws : List W32) : TxFrame :=
      { w0 := ws.getD 0 0, w1 := ws.getD 1 0, data := ((ws.drop 2).flatMap bytesBE).take (frameBytes (bitOf (ws.getD 0 0) 30) (field (ws.getD 1 0) 3 0)) }
    (on → frame.remote = false → (frame.fdf = true → s.dev.bit (Reg.CAN_CAN_CFG p) 1 = true) → s.dev.canFilter p frame = some i →
      s.dev.bit (Reg.CAN_FILT_ACT p i) 0 = true →
      (entriesIn 20 c.rx < 64 → ∃ t, exec (.canFrameReceive port frame) s = .next t ∧ t.dev.can p = { c with rx := c.rx ++ rxEntry frame i s.dev.tbs }
        ∧ t.dev.rd (Reg.CAN_FILT_HITS p i) = s.dev.rd (Reg.CAN_FILT_HITS p i) + 1#32 ∧ t.dev.bit (Reg.IRQ_RAW (pCAN p)) 16 = true ∧ keptOf s t)
      ∧ (64 ≤ entriesIn 20 c.rx → ∃ t, exec (.canFrameReceive port frame) s = .next t ∧ t.dev.can p = c
        ∧ t.dev.rd (Reg.CAN_RX_DROP p) = sat32 (s.dev.rdN (Reg.CAN_RX_DROP p) + 1) ∧ t.dev.bit (Reg.FAULT (pCAN p)) 17 = true ∧ keptOf s t))
    ∧ (s.dev.canOn p = false ∨ c.busOff = true ∨ frame.remote = true ∨ s.dev.canFilter p frame = none →
      exec (.canFrameReceive port frame) s = .next s)
    ∧ (on → ∃ t, exec (.canBusOff port) s = .next t ∧ t.dev.can p = { c with busOff := true } ∧ t.dev.fld (Reg.STATUS (pCAN p)) 17 16 = 2
        ∧ t.dev.rd (Reg.CAN_BUSOFF_CNT p) = s.dev.rd (Reg.CAN_BUSOFF_CNT p) + 1#32
        ∧ t.dev.bit (Reg.FAULT (pCAN p)) 16 = true ∧ t.dev.bit (Reg.IRQ_RAW (pCAN p)) 17 = true ∧ keptOf s t)
    ∧ (s.dev.canOn p = false ∨ c.busOff = true → exec (.canBusOff port) s = .next s)
    ∧ (c.busOff = true → ∃ t, exec (.canBusRecovery port) s = .next t ∧ (t.dev.can p).busOff = false ∧ (t.dev.can p).queue = c.queue
        ∧ (t.dev.can p).rx = c.rx ∧ t.dev.fld (Reg.STATUS (pCAN p)) 17 16 = 0 ∧ t.dev.rd (Reg.CAN_ERR_CNT p) = 0#32 ∧ keptOf s t
        ∧ differOnly (fun d => { d with net := {} }) s t)
    ∧ (c.busOff = false → exec (.canBusRecovery port) s = .next s)
    ∧ (let u := arrived (Reg.CAN_TX_PUSH p) s;
      Accepts req (Reg.CAN_TX_PUSH p) 0#32 u →
      (u.dev.canPushOk p = true → ∃ t, exec (.canTxPush req port) s = .next t ∧ answerTo req t = ⟨.ok, 1, []⟩
        ∧ t.dev.can p = { u.dev.can p with tx := [], queue := (u.dev.can p).queue ++ [made (u.dev.can p).tx] } ∧ t.dev.rdN (Reg.CAN_TX_LEVEL p) = ((u.dev.can p).queue.length + 1) ∧ keptOf u t
        ∧ regsKept [Reg.CAN_TX_LEVEL p] u t)
      ∧ (u.dev.canPushOk p = false → ∃ t, exec (.canTxPush req port) s = .next t ∧ answerTo req t = ⟨.len, 0, []⟩
        ∧ t.dev.can p = { u.dev.can p with tx := [] } ∧ keptOf u t))
    ∧ (on → s.dev.bit (Reg.CAN_CAN_CFG p) 3 = false → c.nextOut = some f →
      ∃ t, exec (.canFrameSent port) s = .next t ∧ (t.dev.can p).sent = some f ∧ (t.dev.can p).rx = c.rx ∧ keptOf s t
        ∧ (f.slot = none → (t.dev.can p).queue = c.queue.drop 1)
        ∧ (∀ j, f.slot = some j → (t.dev.can p).queue = c.queue ∧ ((t.dev.can p).slot j).ready = none))
    ∧ (c.nextOut = none → exec (.canFrameSent port) s = .next s)
    ∧ (let u := arrived (Reg.CAN_RX_PORT p) s;
      Readable req (Reg.CAN_RX_PORT p) u →
      ∃ t, exec (.canRxRead req port words) s = .next t ∧ answerTo req t = ⟨.ok, ((u.dev.can p).rx.take words).length, (u.dev.can p).rx.take words⟩
        ∧ t.dev.can p = { u.dev.can p with rx := (u.dev.can p).rx.drop words } ∧ keptOf u t ∧ regsKept [Reg.CAN_RX_LEVEL p, Reg.STATUS (pCAN p)] u t)
    ∧ ((c.slot slot).held = some f → (c.slot slot).sentAt = some n →
      ∃ t, exec (.cantxPeriodEnd port slot) s = .next t ∧ n + s.dev.ctxPeriod p slot ≤ t.dev.tm.tbm ∧ keptOf s t
        ∧ (t.dev.can p).slot slot = { sentAt := some t.dev.tm.tbm, ready := some f, held := none } ∧ (t.dev.can p).queue = c.queue
        ∧ t.dev.regs = s.dev.regs)
    ∧ ((c.slot slot).held = none → exec (.cantxPeriodEnd port slot) s = .next s)

/-- The Ethernet port: what it answers, what reaches the host, what it sends, and its link. While the port runs, a good frame that asks for the module's address, or echoes to it, is answered by a running MP and by nothing else; an Ivyth datagram is left to its own commands; any other frame joins the host's queue while HOST_RX is 1, or is counted as dropped with FAULT where the queue has no room. A damaged frame, and a port that does not run, have no effect. TX_PUSH sends the words of the port where their number matches TX_LEN and the port runs, else it is answered LEN or the frame is lost; either way it empties the port. RX_PORT gives the oldest words. A change of the link shows in LINK and STATUS with its interrupt. (20_networks_and_sensor_inputs.md) Where it rests on log entries 3, 34, 35, 194, that part is the model's choice and no rule of the spec. -/
def Obligations.EthernetPort : Prop :=
  ∀ (req : Requester) (frame : List Byte) (fcsOk up : Bool) (v : W32) (words : Nat) (s : State),
    let other : Prop := s.dev.isArp frame = false ∧ s.dev.isEcho frame = false
    let mp : Prop := s.dev.rdN Reg.WDG_MP_STATE = 0
    let entry := w32 (frame.length % 2048) :: wordsBE frame
    let keptOf (u t : State) : Prop := t.ldg = u.ldg ∧ t.rcd = u.rcd ∧ t.pending = u.pending ∧ t.dev.drv = u.dev.drv ∧ t.dev.tm = u.dev.tm
    (s.dev.ethOn = true →
      (s.dev.isArp frame = true → mp →
        exec (.ethFrameReceive frame true) s = .next { s with dev := { s.dev with net := { s.dev.net with sent := s.dev.arpReply frame } } })
      ∧ (s.dev.isArp frame = false → s.dev.isEcho frame = true → mp →
        exec (.ethFrameReceive frame true) s = .next { s with dev := { s.dev with net := { s.dev.net with sent := s.dev.echoReply frame } } })
      ∧ (s.dev.isArp frame = true ∨ s.dev.isEcho frame = true → ¬mp → exec (.ethFrameReceive frame true) s = .next s)
      ∧ (other → s.dev.isIvyth frame = true → exec (.ethFrameReceive frame true) s = .next s)
      ∧ (other → s.dev.isIvyth frame = false → s.dev.bit Reg.NET_NET_CFG 2 = false → exec (.ethFrameReceive frame true) s = .next s)
      ∧ (other → s.dev.isIvyth frame = false → s.dev.bit Reg.NET_NET_CFG 2 = true →
        (4 * (s.dev.net.rx.length + entry.length) ≤ 16384 →
          ∃ t, exec (.ethFrameReceive frame true) s = .next t ∧ t.dev.net = { s.dev.net with rx := s.dev.net.rx ++ entry }
            ∧ t.dev.rdN Reg.NET_RX_LEVEL = 4 * (s.dev.net.rx.length + entry.length) ∧ t.dev.bit (Reg.IRQ_RAW pNET) 16 = true ∧ keptOf s t
            ∧ regsKept [Reg.NET_RX_LEVEL, Reg.IRQ_RAW pNET] s t)
        ∧ (16384 < 4 * (s.dev.net.rx.length + entry.length) →
          ∃ t, exec (.ethFrameReceive frame true) s = .next t ∧ t.dev.net = s.dev.net ∧ t.dev.bit (Reg.FAULT pNET) 16 = true
            ∧ t.dev.rd Reg.NET_RX_DROP = sat32 (s.dev.rdN Reg.NET_RX_DROP + 1) ∧ keptOf s t
            ∧ regsKept [Reg.NET_RX_DROP, Reg.FAULT pNET, Reg.IRQ_RAW pNET] s t)))
    ∧ (s.dev.ethOn = false ∨ fcsOk = false → exec (.ethFrameReceive frame fcsOk) s = .next s)
    ∧ (let u := arrived Reg.NET_TX_PUSH s;
      Accepts req Reg.NET_TX_PUSH v u →
      (u.dev.ethPushOk = true → ∃ t, exec (.ethTxPush req v) s = .next t ∧ answerTo req t = ⟨.ok, 1, []⟩ ∧ keptOf u t ∧ regsKept [] u t
        ∧ (t.dev.net = if u.dev.ethOn then { u.dev.net with tx := [], sent := (u.dev.net.tx.flatMap bytesBE).take (u.dev.rdN Reg.NET_TX_LEN) }
          else { u.dev.net with tx := [] }))
      ∧ (u.dev.ethPushOk = false → ∃ t, exec (.ethTxPush req v) s = .next t ∧ answerTo req t = ⟨.len, 0, []⟩ ∧ keptOf u t
        ∧ t.dev.net = { u.dev.net with tx := [] }))
    ∧ (let u := arrived Reg.NET_RX_PORT s;
      Readable req Reg.NET_RX_PORT u →
      ∃ t, exec (.ethRxRead req words) s = .next t ∧ answerTo req t = ⟨.ok, (u.dev.net.rx.take words).length, u.dev.net.rx.take words⟩
        ∧ t.dev.net = { u.dev.net with rx := u.dev.net.rx.drop words } ∧ keptOf u t ∧ regsKept [Reg.NET_RX_LEVEL, Reg.STATUS pNET] u t)
    ∧ (s.dev.bit Reg.NET_LINK 0 ≠ up →
      ∃ t, exec (.linkChange up) s = .next t ∧ t.dev.bit Reg.NET_LINK 0 = up ∧ t.dev.stat pNET 16 = up ∧ t.dev.bit (Reg.IRQ_RAW pNET) 17 = true
        ∧ (up = true → t.dev.bit Reg.NET_LINK 1 = s.dev.bit Reg.NET_NET_CFG 1) ∧ (up = false → t.dev.rd Reg.NET_LINK = 0#32)
        ∧ t.dev.net = { s.dev.net with links := s.dev.net.links + 1 } ∧ keptOf s t ∧ regsKept [Reg.NET_LINK, Reg.STATUS pNET, Reg.IRQ_RAW pNET] s t)
    ∧ (s.dev.bit Reg.NET_LINK 0 = up → exec (.linkChange up) s = .next s)

/-- Analog, frequency and IMU inputs, time marks, and the supplies. A scan gives every enabled analog input a code: within its limits the mean of its last codes, valid; below or above them for a second scan a fault with its cause, FAULT and the code kept; a current beyond 25 mA takes the shunt off; a disabled input reads 0 and one with its shunt off stays. The shunt comes back 100 ms later with no fault. An edge of an enabled frequency input counts one up, or with its pair's direction in quadrature, and no other input counts. An IMU transaction publishes the scaled words of its sample and counts it; three periods without one make the port stale with FAULT. A selected edge of a time-mark pin adds an entry of six words, or is counted as dropped with FAULT while 64 wait. Below 12.0 V no rail stays charging or ready until the supply recovers. A limited supply output is recorded with its number while it is on. (20_networks_and_sensor_inputs.md, 22_electrical_and_thermal_ratings.md) Where it rests on log entries 2, 3, 12, 30, 31, 32, 33, 36, 98, 198, 203, that part is the model's choice and no rule of the spec. -/
def Obligations.SensorInputsAndSupplies : Prop :=
  ∀ (req : Requester) (samples : List Nat) (input : Fin 48) (fi : Fin 96) (quadHigh rising : Bool) (port : Fin 2) (rx : List Byte) (pin : Fin 4)
    (milliV words i n : Nat) (output : SupplyOutput) (s : State),
    let kept (t : State) : Prop := t.ldg = s.ldg ∧ t.rcd = s.rcd ∧ t.pending = s.pending
    let cfg := s.dev.ainCfg i
    let x := s.dev.ain i
    let sampled : Dev := match s.dev.net.ainDue with | some due => s.dev.toTbm due | none => s.dev
    let code := sampled.sampleOf samples i
    let lim := ainLimits cfg
    let bad : Prop := min code 4095 < lim.1 ∨ lim.2 < min code 4095
    let took : Prop := bitOf cfg 1 = true ∧ x.offAt = none ∧ (bitOf cfg 0 = false ∨ code ≤ 4265)
    let fcfg := s.dev.rd (Reg.FIN_FIN_CFG fi)
    let y := s.dev.fin fi
    let icfg := s.dev.rd (Reg.IMU_IMU_CFG port)
    let m := s.dev.rd (Reg.IMU_IMU_MAP port)
    let bytes := rx.take (field icfg 28 24)
    let yaw := imuScaled (imuWord bytes (field m 3 0) (bitOf m 5)) (bitOf m 6) (s.dev.rd (Reg.IMU_GYRO_SCALE port)) 10430378350470453 1000000000000
    let acc := imuScaled (imuWord bytes (field m 11 8) (bitOf m 13)) (bitOf m 14) (s.dev.rd (Reg.IMU_ACC_SCALE port)) 1 1
    let tm := s.dev.rd Reg.GPIO_TM_CFG
    let marked : Prop := bitOf tm (4 * pin.val) = true ∧ (field tm (4 * pin.val + 2) (4 * pin.val + 1)).testBit (if rising then 0 else 1) = true
      ∧ s.dev.powerState ≤ 1
    let w0 := w32 (pin.val * 2 ^ 16 + (if rising then 2 ^ 8 else 0) + s.dev.net.markSeq % 2 ^ 14 * 2 ^ 18)
    (s.dev.powerState ≤ 1 → i < 48 →
      ∃ t, exec (.ainScan samples) s = .next t ∧ t.dev.net.ainDue = some (t.dev.tm.tbm + 50000) ∧ t.dev.net.ainOld = [] ∧ kept t
        ∧ (∀ due, s.dev.net.ainDue = some due → due ≤ t.dev.tm.tbm)
        ∧ (bitOf cfg 1 = false → t.dev.rd (Reg.AIN_AIN_VAL i) = 0#32 ∧ t.dev.ain i = {})
        ∧ (bitOf cfg 1 = true → x.offAt.isSome = true → t.dev.rd (Reg.AIN_AIN_VAL i) = s.dev.rd (Reg.AIN_AIN_VAL i) ∧ t.dev.ain i = x)
        ∧ (bitOf cfg 1 = true → x.offAt = none → bitOf cfg 0 = true → 4265 < code →
            (t.dev.ain i).offAt = some t.dev.tm.tbm ∧ (t.dev.ain i).cause = 3 ∧ t.dev.bit (Reg.AIN_AIN_VAL i) 12 = false)
        ∧ (took → x.cause = 0 → ¬bad →
            (t.dev.ain i).cause = 0 ∧ t.dev.mapBit (Reg.AIN_AIN_FLT 0) i = false
            ∧ t.dev.rd (Reg.AIN_AIN_VAL i) = w32 (ainMean (field cfg 6 4) ((min code 4095 :: x.codes).take 64) + 2 ^ 12))
        ∧ (took → x.cause = 0 → bad → 1 ≤ x.outRun →
            (t.dev.ain i).cause = (if min code 4095 < lim.1 then 1 else 2) ∧ t.dev.bit (Reg.AIN_AIN_VAL i) 12 = false
            ∧ t.dev.fld (Reg.AIN_AIN_VAL i) 11 0 = s.dev.fld (Reg.AIN_AIN_VAL i) 11 0
            ∧ t.dev.mapBit (Reg.AIN_AIN_FLT 0) i = true ∧ t.dev.bit (Reg.FAULT pAIN) 16 = true))
    ∧ (1 < s.dev.powerState → exec (.ainScan samples) s = .next s)
    ∧ ((s.dev.ain input).offAt = some n →
      ∃ t, exec (.ainShuntReconnect input) s = .next t ∧ n + 100000000 ≤ t.dev.tm.tbm ∧ kept t
        ∧ t.dev.ain input = { s.dev.ain input with offAt := none, cause := 0, outRun := 0, inRun := 0 }
        ∧ t.dev.mapBit (Reg.AIN_AIN_FLT 0) input = false)
    ∧ ((s.dev.ain input).offAt = none → exec (.ainShuntReconnect input) s = .next s)
    ∧ (s.dev.powerState ≤ 1 → s.dev.finSecond fi = false → bitOf fcfg 0 = true →
      ∃ t, exec (.finEdge fi quadHigh) s = .next t ∧ (t.dev.fin fi).last = some s.dev.tm.tbm ∧ (t.dev.fin fi).edges.head? = some s.dev.tm.tbm
        ∧ (t.dev.fin fi).count = (if bitOf fcfg 1 = true ∧ fi.val % 2 = 0 ∧ quadHigh = true then y.count - 1 else y.count + 1)
        ∧ (∀ j, j ≠ fi.val → t.dev.fin j = s.dev.fin j) ∧ t.dev.tm = s.dev.tm ∧ kept t)
    ∧ (s.dev.powerState = 0 → s.dev.finSecond fi = false → bitOf fcfg 0 = false → exec (.finEdge fi quadHigh) s = .next s)
    ∧ (bitOf icfg 0 = true → s.dev.powerState ≤ 1 →
      ∃ t, exec (.imuTransaction port rx) s = .next t ∧ t.dev.rd (Reg.IMU_IMU_YAW port) = w32i yaw ∧ t.dev.rd (Reg.IMU_IMU_ACC port) = w32i acc
        ∧ t.dev.rd (Reg.IMU_IMU_CNT port) = s.dev.rd (Reg.IMU_IMU_CNT port) + 1#32
        ∧ (t.dev.imu port).samples.head? = some (t.dev.tbs, yaw, acc) ∧ (t.dev.imu port).stale = false ∧ kept t
        ∧ regsKept [Reg.IMU_IMU_YAW port, Reg.IMU_IMU_ACC port, Reg.IMU_IMU_CNT port] s t)
    ∧ (bitOf icfg 0 = false ∨ 1 < s.dev.powerState → exec (.imuTransaction port rx) s = .next s)
    ∧ (bitOf icfg 0 = true → (s.dev.imu port).stale = false →
      ∃ t, exec (.imuStale port) s = .next t ∧ t.dev.imu port = { s.dev.imu port with stale := true }
        ∧ t.dev.bit (Reg.FAULT pIMU) (16 + port) = true ∧ t.dev.bit (Reg.IRQ_RAW pIMU) (16 + port) = true ∧ kept t)
    ∧ (bitOf icfg 0 = false ∨ (s.dev.imu port).stale = true → exec (.imuStale port) s = .next s)
    ∧ (marked →
      (entriesIn 6 s.dev.net.marks < 64 →
        ∃ t, exec (.timeMark pin rising) s = .next t ∧ t.dev.bit (Reg.IRQ_RAW pGPIO) 16 = true ∧ t.dev.net.markSeq = s.dev.net.markSeq + 1
          ∧ t.dev.net.marks = s.dev.net.marks ++ [w0, lo32 s.dev.tbs, hi32 s.dev.tbs]
              ++ (if s.dev.tbgState = tbgNone then [0, 0, 0] else ts80Words s.dev.tbgCaptured)
          ∧ regsKept [Reg.GPIO_TM_LEVEL, Reg.IRQ_RAW pGPIO] s t ∧ kept t)
      ∧ (64 ≤ entriesIn 6 s.dev.net.marks →
        ∃ t, exec (.timeMark pin rising) s = .next t ∧ t.dev.net = s.dev.net ∧ t.dev.bit (Reg.FAULT pGPIO) 16 = true
          ∧ t.dev.rd Reg.GPIO_TM_DROP = sat32 (s.dev.rdN Reg.GPIO_TM_DROP + 1)
          ∧ regsKept [Reg.GPIO_TM_DROP, Reg.FAULT pGPIO, Reg.IRQ_RAW pGPIO] s t ∧ kept t))
    ∧ (¬marked → exec (.timeMark pin rising) s = .next s)
    ∧ (let u := arrived Reg.GPIO_TM_PORT s;
      Readable req Reg.GPIO_TM_PORT u →
      ∃ t, exec (.timeMarkRead req words) s = .next t
        ∧ answerTo req t = ⟨.ok, (u.dev.net.marks.take words).length, u.dev.net.marks.take words⟩
        ∧ t.dev.net = { u.dev.net with marks := u.dev.net.marks.drop words } ∧ regsKept [Reg.GPIO_TM_LEVEL, Reg.STATUS pGPIO] u t ∧ kept t)
    ∧ (milliV < 12000 → s.dev.drv.vbatLow = false →
      ∃ t, exec (.vbatLow milliV) s = .next t ∧ t.dev.drv.vbatLow = true ∧ (∀ k, k < 4 → t.dev.railState k = 0 ∨ t.dev.railState k = 4)
        ∧ t.dev.drv.ch = s.dev.drv.ch ∧ t.dev.tm = s.dev.tm ∧ kept t)
    ∧ (12000 ≤ milliV ∨ s.dev.drv.vbatLow = true → exec (.vbatLow milliV) s = .next s)
    ∧ (12000 ≤ milliV → s.dev.drv.vbatLow = true →
      ∃ t, exec (.vbatRecovery milliV) s = .next t ∧ t.dev.drv.vbatLow = false ∧ t.dev.drv.ch = s.dev.drv.ch ∧ t.dev.tm = s.dev.tm ∧ kept t)
    ∧ (milliV < 12000 ∨ s.dev.drv.vbatLow = false → exec (.vbatRecovery milliV) s = .next s)
    ∧ (supplyOnIn s.dev.powerState output = true → s.dev.rcf.closed = false → s.dev.pow.pfAt = none → s.dev.rcf.intake.length < intakeDepth →
      ∃ t, exec (.supplyOutputLimit output) s = .next t ∧ t.dev.rcf.intake.length = s.dev.rcf.intake.length + 1
        ∧ (∃ e ∈ t.dev.rcf.intake, e.page = 0 ∧ e.kind = 3 ∧ e.values = [w32 (supplyNumber output)] ∧ e.cycle = s.dev.tm.tbm)
        ∧ t.dev.regs = s.dev.regs ∧ t.dev.drv = s.dev.drv ∧ kept t)
    ∧ (supplyOnIn s.dev.powerState output = false → exec (.supplyOutputLimit output) s = .next s)

/-- The ledger's identity is kept by every step. In every state whose ledger balances (for each entry of the book, of a waiting flush, of the slots and of the snapshot, REQ is the sum of DEL, INFL, the seven deficit accounts and TRACK), whatever command a step runs, the ledger of the next state balances. (14_application_ledger_and_fault_coverage.md) -/
def Obligations.LedgerIdentityKept : Prop :=
  ∀ s t : State, s.ldg.Balanced → step s = .next t → t.ldg.Balanced

/-- The numbering of records is kept by every step. In every state in which each record held in the ring, the buffer or the power-fail area has a SEQ below the next SEQ, the next SEQ lies within the reserved block and the undrained records stand in rising SEQ, whatever command a step runs, power losses and resets among them, the same holds in the next state. (17_strata_recorder.md) -/
def Obligations.RecordNumbersKept : Prop :=
  ∀ s t : State, s.rcd.Numbered → step s = .next t → t.rcd.Numbered
end

