-- ==== Sys2Proof/Laws/State.lean ====
section
/-! SUPPORT. What each update of the part leaves as it was, field by field, and the four parts of the state under a change of the
part alone. -/

namespace Sys2Proof.Machine

@[simp] theorem onDev_dev (f : Dev → Dev) (s : State) : (onDev f s).dev = f s.dev := rfl
@[simp] theorem onDev_ldg (f : Dev → Dev) (s : State) : (onDev f s).ldg = s.ldg := rfl
@[simp] theorem onDev_rcd (f : Dev → Dev) (s : State) : (onDev f s).rcd = s.rcd := rfl
@[simp] theorem onDev_pending (f : Dev → Dev) (s : State) : (onDev f s).pending = s.pending := rfl
theorem onDev_onDev (f g : Dev → Dev) (s : State) : onDev f (onDev g s) = onDev (fun d => f (g d)) s := rfl

@[simp] theorem Dev.wr_pend (d : Dev) (a : Nat) (v : W32) : (d.wr a v).pend = d.pend := rfl
@[simp] theorem Dev.wr_cross (d : Dev) (a : Nat) (v : W32) : (d.wr a v).cross = d.cross := rfl
@[simp] theorem Dev.wr_conf (d : Dev) (a : Nat) (v : W32) : (d.wr a v).conf = d.conf := rfl
@[simp] theorem Dev.wr_fab (d : Dev) (a : Nat) (v : W32) : (d.wr a v).fab = d.fab := rfl
@[simp] theorem Dev.wr_tm (d : Dev) (a : Nat) (v : W32) : (d.wr a v).tm = d.tm := rfl
@[simp] theorem Dev.wr_frm (d : Dev) (a : Nat) (v : W32) : (d.wr a v).frm = d.frm := rfl
@[simp] theorem Dev.wr_rcf (d : Dev) (a : Nat) (v : W32) : (d.wr a v).rcf = d.rcf := rfl
@[simp] theorem Dev.wr_pose (d : Dev) (a : Nat) (v : W32) : (d.wr a v).pose = d.pose := rfl
@[simp] theorem Dev.wr_imp (d : Dev) (a : Nat) (v : W32) : (d.wr a v).imp = d.imp := rfl
@[simp] theorem Dev.wr_drv (d : Dev) (a : Nat) (v : W32) : (d.wr a v).drv = d.drv := rfl
@[simp] theorem Dev.wr_lpe (d : Dev) (a : Nat) (v : W32) : (d.wr a v).lpe = d.lpe := rfl
@[simp] theorem Dev.wr_net (d : Dev) (a : Nat) (v : W32) : (d.wr a v).net = d.net := rfl
@[simp] theorem Dev.wr_gps (d : Dev) (a : Nat) (v : W32) : (d.wr a v).gps = d.gps := rfl
@[simp] theorem Dev.wr_pow (d : Dev) (a : Nat) (v : W32) : (d.wr a v).pow = d.pow := rfl
@[simp] theorem Dev.wr_map (d : Dev) (a : Nat) (v : W32) : (d.wr a v).map = d.map := rfl
@[simp] theorem Dev.wr_sde (d : Dev) (a : Nat) (v : W32) : (d.wr a v).sde = d.sde := rfl
@[simp] theorem Dev.wr_eds (d : Dev) (a : Nat) (v : W32) : (d.wr a v).eds = d.eds := rfl
@[simp] theorem Dev.wr_bwk (d : Dev) (a : Nat) (v : W32) : (d.wr a v).bwk = d.bwk := rfl
@[simp] theorem Dev.wr_dia (d : Dev) (a : Nat) (v : W32) : (d.wr a v).dia = d.dia := rfl
@[simp] theorem Dev.wr_att (d : Dev) (a : Nat) (v : W32) : (d.wr a v).att = d.att := rfl
@[simp] theorem Dev.wr_sup (d : Dev) (a : Nat) (v : W32) : (d.wr a v).sup = d.sup := rfl

@[simp] theorem Dev.wrN_pend (d : Dev) (a n : Nat) : (d.wrN a n).pend = d.pend := rfl
@[simp] theorem Dev.wrN_cross (d : Dev) (a n : Nat) : (d.wrN a n).cross = d.cross := rfl
@[simp] theorem Dev.wrN_conf (d : Dev) (a n : Nat) : (d.wrN a n).conf = d.conf := rfl
@[simp] theorem Dev.wrN_fab (d : Dev) (a n : Nat) : (d.wrN a n).fab = d.fab := rfl
@[simp] theorem Dev.wrN_tm (d : Dev) (a n : Nat) : (d.wrN a n).tm = d.tm := rfl
@[simp] theorem Dev.wrN_frm (d : Dev) (a n : Nat) : (d.wrN a n).frm = d.frm := rfl
@[simp] theorem Dev.wrN_rcf (d : Dev) (a n : Nat) : (d.wrN a n).rcf = d.rcf := rfl
@[simp] theorem Dev.wrN_pose (d : Dev) (a n : Nat) : (d.wrN a n).pose = d.pose := rfl
@[simp] theorem Dev.wrN_imp (d : Dev) (a n : Nat) : (d.wrN a n).imp = d.imp := rfl
@[simp] theorem Dev.wrN_drv (d : Dev) (a n : Nat) : (d.wrN a n).drv = d.drv := rfl
@[simp] theorem Dev.wrN_lpe (d : Dev) (a n : Nat) : (d.wrN a n).lpe = d.lpe := rfl
@[simp] theorem Dev.wrN_net (d : Dev) (a n : Nat) : (d.wrN a n).net = d.net := rfl
@[simp] theorem Dev.wrN_gps (d : Dev) (a n : Nat) : (d.wrN a n).gps = d.gps := rfl
@[simp] theorem Dev.wrN_pow (d : Dev) (a n : Nat) : (d.wrN a n).pow = d.pow := rfl
@[simp] theorem Dev.wrN_map (d : Dev) (a n : Nat) : (d.wrN a n).map = d.map := rfl
@[simp] theorem Dev.wrN_sde (d : Dev) (a n : Nat) : (d.wrN a n).sde = d.sde := rfl
@[simp] theorem Dev.wrN_eds (d : Dev) (a n : Nat) : (d.wrN a n).eds = d.eds := rfl
@[simp] theorem Dev.wrN_bwk (d : Dev) (a n : Nat) : (d.wrN a n).bwk = d.bwk := rfl
@[simp] theorem Dev.wrN_dia (d : Dev) (a n : Nat) : (d.wrN a n).dia = d.dia := rfl
@[simp] theorem Dev.wrN_att (d : Dev) (a n : Nat) : (d.wrN a n).att = d.att := rfl
@[simp] theorem Dev.wrN_sup (d : Dev) (a n : Nat) : (d.wrN a n).sup = d.sup := rfl

@[simp] theorem Dev.setBit_pend (d : Dev) (a b : Nat) (v : Bool) : (d.setBit a b v).pend = d.pend := rfl
@[simp] theorem Dev.setBit_cross (d : Dev) (a b : Nat) (v : Bool) : (d.setBit a b v).cross = d.cross := rfl
@[simp] theorem Dev.setBit_conf (d : Dev) (a b : Nat) (v : Bool) : (d.setBit a b v).conf = d.conf := rfl
@[simp] theorem Dev.setBit_fab (d : Dev) (a b : Nat) (v : Bool) : (d.setBit a b v).fab = d.fab := rfl
@[simp] theorem Dev.setBit_tm (d : Dev) (a b : Nat) (v : Bool) : (d.setBit a b v).tm = d.tm := rfl
@[simp] theorem Dev.setBit_frm (d : Dev) (a b : Nat) (v : Bool) : (d.setBit a b v).frm = d.frm := rfl
@[simp] theorem Dev.setBit_rcf (d : Dev) (a b : Nat) (v : Bool) : (d.setBit a b v).rcf = d.rcf := rfl
@[simp] theorem Dev.setBit_pose (d : Dev) (a b : Nat) (v : Bool) : (d.setBit a b v).pose = d.pose := rfl
@[simp] theorem Dev.setBit_imp (d : Dev) (a b : Nat) (v : Bool) : (d.setBit a b v).imp = d.imp := rfl
@[simp] theorem Dev.setBit_drv (d : Dev) (a b : Nat) (v : Bool) : (d.setBit a b v).drv = d.drv := rfl
@[simp] theorem Dev.setBit_lpe (d : Dev) (a b : Nat) (v : Bool) : (d.setBit a b v).lpe = d.lpe := rfl
@[simp] theorem Dev.setBit_net (d : Dev) (a b : Nat) (v : Bool) : (d.setBit a b v).net = d.net := rfl
@[simp] theorem Dev.setBit_gps (d : Dev) (a b : Nat) (v : Bool) : (d.setBit a b v).gps = d.gps := rfl
@[simp] theorem Dev.setBit_pow (d : Dev) (a b : Nat) (v : Bool) : (d.setBit a b v).pow = d.pow := rfl
@[simp] theorem Dev.setBit_map (d : Dev) (a b : Nat) (v : Bool) : (d.setBit a b v).map = d.map := rfl
@[simp] theorem Dev.setBit_sde (d : Dev) (a b : Nat) (v : Bool) : (d.setBit a b v).sde = d.sde := rfl
@[simp] theorem Dev.setBit_eds (d : Dev) (a b : Nat) (v : Bool) : (d.setBit a b v).eds = d.eds := rfl
@[simp] theorem Dev.setBit_bwk (d : Dev) (a b : Nat) (v : Bool) : (d.setBit a b v).bwk = d.bwk := rfl
@[simp] theorem Dev.setBit_dia (d : Dev) (a b : Nat) (v : Bool) : (d.setBit a b v).dia = d.dia := rfl
@[simp] theorem Dev.setBit_att (d : Dev) (a b : Nat) (v : Bool) : (d.setBit a b v).att = d.att := rfl
@[simp] theorem Dev.setBit_sup (d : Dev) (a b : Nat) (v : Bool) : (d.setBit a b v).sup = d.sup := rfl

@[simp] theorem Dev.wr64_pend (d : Dev) (a n : Nat) : (d.wr64 a n).pend = d.pend := rfl
@[simp] theorem Dev.wr64_cross (d : Dev) (a n : Nat) : (d.wr64 a n).cross = d.cross := rfl
@[simp] theorem Dev.wr64_conf (d : Dev) (a n : Nat) : (d.wr64 a n).conf = d.conf := rfl
@[simp] theorem Dev.wr64_fab (d : Dev) (a n : Nat) : (d.wr64 a n).fab = d.fab := rfl
@[simp] theorem Dev.wr64_tm (d : Dev) (a n : Nat) : (d.wr64 a n).tm = d.tm := rfl
@[simp] theorem Dev.wr64_frm (d : Dev) (a n : Nat) : (d.wr64 a n).frm = d.frm := rfl
@[simp] theorem Dev.wr64_rcf (d : Dev) (a n : Nat) : (d.wr64 a n).rcf = d.rcf := rfl
@[simp] theorem Dev.wr64_pose (d : Dev) (a n : Nat) : (d.wr64 a n).pose = d.pose := rfl
@[simp] theorem Dev.wr64_imp (d : Dev) (a n : Nat) : (d.wr64 a n).imp = d.imp := rfl
@[simp] theorem Dev.wr64_drv (d : Dev) (a n : Nat) : (d.wr64 a n).drv = d.drv := rfl
@[simp] theorem Dev.wr64_lpe (d : Dev) (a n : Nat) : (d.wr64 a n).lpe = d.lpe := rfl
@[simp] theorem Dev.wr64_net (d : Dev) (a n : Nat) : (d.wr64 a n).net = d.net := rfl
@[simp] theorem Dev.wr64_gps (d : Dev) (a n : Nat) : (d.wr64 a n).gps = d.gps := rfl
@[simp] theorem Dev.wr64_pow (d : Dev) (a n : Nat) : (d.wr64 a n).pow = d.pow := rfl
@[simp] theorem Dev.wr64_map (d : Dev) (a n : Nat) : (d.wr64 a n).map = d.map := rfl
@[simp] theorem Dev.wr64_sde (d : Dev) (a n : Nat) : (d.wr64 a n).sde = d.sde := rfl
@[simp] theorem Dev.wr64_eds (d : Dev) (a n : Nat) : (d.wr64 a n).eds = d.eds := rfl
@[simp] theorem Dev.wr64_bwk (d : Dev) (a n : Nat) : (d.wr64 a n).bwk = d.bwk := rfl
@[simp] theorem Dev.wr64_dia (d : Dev) (a n : Nat) : (d.wr64 a n).dia = d.dia := rfl
@[simp] theorem Dev.wr64_att (d : Dev) (a n : Nat) : (d.wr64 a n).att = d.att := rfl
@[simp] theorem Dev.wr64_sup (d : Dev) (a n : Nat) : (d.wr64 a n).sup = d.sup := rfl

@[simp] theorem Dev.inc_pend (d : Dev) (a : Nat) : (d.inc a).pend = d.pend := rfl
@[simp] theorem Dev.inc_cross (d : Dev) (a : Nat) : (d.inc a).cross = d.cross := rfl
@[simp] theorem Dev.inc_conf (d : Dev) (a : Nat) : (d.inc a).conf = d.conf := rfl
@[simp] theorem Dev.inc_fab (d : Dev) (a : Nat) : (d.inc a).fab = d.fab := rfl
@[simp] theorem Dev.inc_tm (d : Dev) (a : Nat) : (d.inc a).tm = d.tm := rfl
@[simp] theorem Dev.inc_frm (d : Dev) (a : Nat) : (d.inc a).frm = d.frm := rfl
@[simp] theorem Dev.inc_rcf (d : Dev) (a : Nat) : (d.inc a).rcf = d.rcf := rfl
@[simp] theorem Dev.inc_pose (d : Dev) (a : Nat) : (d.inc a).pose = d.pose := rfl
@[simp] theorem Dev.inc_imp (d : Dev) (a : Nat) : (d.inc a).imp = d.imp := rfl
@[simp] theorem Dev.inc_drv (d : Dev) (a : Nat) : (d.inc a).drv = d.drv := rfl
@[simp] theorem Dev.inc_lpe (d : Dev) (a : Nat) : (d.inc a).lpe = d.lpe := rfl
@[simp] theorem Dev.inc_net (d : Dev) (a : Nat) : (d.inc a).net = d.net := rfl
@[simp] theorem Dev.inc_gps (d : Dev) (a : Nat) : (d.inc a).gps = d.gps := rfl
@[simp] theorem Dev.inc_pow (d : Dev) (a : Nat) : (d.inc a).pow = d.pow := rfl
@[simp] theorem Dev.inc_map (d : Dev) (a : Nat) : (d.inc a).map = d.map := rfl
@[simp] theorem Dev.inc_sde (d : Dev) (a : Nat) : (d.inc a).sde = d.sde := rfl
@[simp] theorem Dev.inc_eds (d : Dev) (a : Nat) : (d.inc a).eds = d.eds := rfl
@[simp] theorem Dev.inc_bwk (d : Dev) (a : Nat) : (d.inc a).bwk = d.bwk := rfl
@[simp] theorem Dev.inc_dia (d : Dev) (a : Nat) : (d.inc a).dia = d.dia := rfl
@[simp] theorem Dev.inc_att (d : Dev) (a : Nat) : (d.inc a).att = d.att := rfl
@[simp] theorem Dev.inc_sup (d : Dev) (a : Nat) : (d.inc a).sup = d.sup := rfl

@[simp] theorem Dev.setStat_pend (d : Dev) (p b : Nat) (v : Bool) : (d.setStat p b v).pend = d.pend := rfl
@[simp] theorem Dev.setStat_cross (d : Dev) (p b : Nat) (v : Bool) : (d.setStat p b v).cross = d.cross := rfl
@[simp] theorem Dev.setStat_conf (d : Dev) (p b : Nat) (v : Bool) : (d.setStat p b v).conf = d.conf := rfl
@[simp] theorem Dev.setStat_fab (d : Dev) (p b : Nat) (v : Bool) : (d.setStat p b v).fab = d.fab := rfl
@[simp] theorem Dev.setStat_tm (d : Dev) (p b : Nat) (v : Bool) : (d.setStat p b v).tm = d.tm := rfl
@[simp] theorem Dev.setStat_frm (d : Dev) (p b : Nat) (v : Bool) : (d.setStat p b v).frm = d.frm := rfl
@[simp] theorem Dev.setStat_rcf (d : Dev) (p b : Nat) (v : Bool) : (d.setStat p b v).rcf = d.rcf := rfl
@[simp] theorem Dev.setStat_pose (d : Dev) (p b : Nat) (v : Bool) : (d.setStat p b v).pose = d.pose := rfl
@[simp] theorem Dev.setStat_imp (d : Dev) (p b : Nat) (v : Bool) : (d.setStat p b v).imp = d.imp := rfl
@[simp] theorem Dev.setStat_drv (d : Dev) (p b : Nat) (v : Bool) : (d.setStat p b v).drv = d.drv := rfl
@[simp] theorem Dev.setStat_lpe (d : Dev) (p b : Nat) (v : Bool) : (d.setStat p b v).lpe = d.lpe := rfl
@[simp] theorem Dev.setStat_net (d : Dev) (p b : Nat) (v : Bool) : (d.setStat p b v).net = d.net := rfl
@[simp] theorem Dev.setStat_gps (d : Dev) (p b : Nat) (v : Bool) : (d.setStat p b v).gps = d.gps := rfl
@[simp] theorem Dev.setStat_pow (d : Dev) (p b : Nat) (v : Bool) : (d.setStat p b v).pow = d.pow := rfl
@[simp] theorem Dev.setStat_map (d : Dev) (p b : Nat) (v : Bool) : (d.setStat p b v).map = d.map := rfl
@[simp] theorem Dev.setStat_sde (d : Dev) (p b : Nat) (v : Bool) : (d.setStat p b v).sde = d.sde := rfl
@[simp] theorem Dev.setStat_eds (d : Dev) (p b : Nat) (v : Bool) : (d.setStat p b v).eds = d.eds := rfl
@[simp] theorem Dev.setStat_bwk (d : Dev) (p b : Nat) (v : Bool) : (d.setStat p b v).bwk = d.bwk := rfl
@[simp] theorem Dev.setStat_dia (d : Dev) (p b : Nat) (v : Bool) : (d.setStat p b v).dia = d.dia := rfl
@[simp] theorem Dev.setStat_att (d : Dev) (p b : Nat) (v : Bool) : (d.setStat p b v).att = d.att := rfl
@[simp] theorem Dev.setStat_sup (d : Dev) (p b : Nat) (v : Bool) : (d.setStat p b v).sup = d.sup := rfl

@[simp] theorem Dev.irq_pend (d : Dev) (p b : Nat) : (d.irq p b).pend = d.pend := rfl
@[simp] theorem Dev.irq_cross (d : Dev) (p b : Nat) : (d.irq p b).cross = d.cross := rfl
@[simp] theorem Dev.irq_conf (d : Dev) (p b : Nat) : (d.irq p b).conf = d.conf := rfl
@[simp] theorem Dev.irq_fab (d : Dev) (p b : Nat) : (d.irq p b).fab = d.fab := rfl
@[simp] theorem Dev.irq_tm (d : Dev) (p b : Nat) : (d.irq p b).tm = d.tm := rfl
@[simp] theorem Dev.irq_frm (d : Dev) (p b : Nat) : (d.irq p b).frm = d.frm := rfl
@[simp] theorem Dev.irq_rcf (d : Dev) (p b : Nat) : (d.irq p b).rcf = d.rcf := rfl
@[simp] theorem Dev.irq_pose (d : Dev) (p b : Nat) : (d.irq p b).pose = d.pose := rfl
@[simp] theorem Dev.irq_imp (d : Dev) (p b : Nat) : (d.irq p b).imp = d.imp := rfl
@[simp] theorem Dev.irq_drv (d : Dev) (p b : Nat) : (d.irq p b).drv = d.drv := rfl
@[simp] theorem Dev.irq_lpe (d : Dev) (p b : Nat) : (d.irq p b).lpe = d.lpe := rfl
@[simp] theorem Dev.irq_net (d : Dev) (p b : Nat) : (d.irq p b).net = d.net := rfl
@[simp] theorem Dev.irq_gps (d : Dev) (p b : Nat) : (d.irq p b).gps = d.gps := rfl
@[simp] theorem Dev.irq_pow (d : Dev) (p b : Nat) : (d.irq p b).pow = d.pow := rfl
@[simp] theorem Dev.irq_map (d : Dev) (p b : Nat) : (d.irq p b).map = d.map := rfl
@[simp] theorem Dev.irq_sde (d : Dev) (p b : Nat) : (d.irq p b).sde = d.sde := rfl
@[simp] theorem Dev.irq_eds (d : Dev) (p b : Nat) : (d.irq p b).eds = d.eds := rfl
@[simp] theorem Dev.irq_bwk (d : Dev) (p b : Nat) : (d.irq p b).bwk = d.bwk := rfl
@[simp] theorem Dev.irq_dia (d : Dev) (p b : Nat) : (d.irq p b).dia = d.dia := rfl
@[simp] theorem Dev.irq_att (d : Dev) (p b : Nat) : (d.irq p b).att = d.att := rfl
@[simp] theorem Dev.irq_sup (d : Dev) (p b : Nat) : (d.irq p b).sup = d.sup := rfl

@[simp] theorem Dev.fault_pend (d : Dev) (p b : Nat) : (d.fault p b).pend = d.pend := by unfold Dev.fault; dsimp only; split <;> rfl
@[simp] theorem Dev.fault_cross (d : Dev) (p b : Nat) : (d.fault p b).cross = d.cross := by unfold Dev.fault; dsimp only; split <;> rfl
@[simp] theorem Dev.fault_conf (d : Dev) (p b : Nat) : (d.fault p b).conf = d.conf := by unfold Dev.fault; dsimp only; split <;> rfl
@[simp] theorem Dev.fault_fab (d : Dev) (p b : Nat) : (d.fault p b).fab = d.fab := by unfold Dev.fault; dsimp only; split <;> rfl
@[simp] theorem Dev.fault_tm (d : Dev) (p b : Nat) : (d.fault p b).tm = d.tm := by unfold Dev.fault; dsimp only; split <;> rfl
@[simp] theorem Dev.fault_frm (d : Dev) (p b : Nat) : (d.fault p b).frm = d.frm := by unfold Dev.fault; dsimp only; split <;> rfl
@[simp] theorem Dev.fault_rcf (d : Dev) (p b : Nat) : (d.fault p b).rcf = d.rcf := by unfold Dev.fault; dsimp only; split <;> rfl
@[simp] theorem Dev.fault_pose (d : Dev) (p b : Nat) : (d.fault p b).pose = d.pose := by unfold Dev.fault; dsimp only; split <;> rfl
@[simp] theorem Dev.fault_imp (d : Dev) (p b : Nat) : (d.fault p b).imp = d.imp := by unfold Dev.fault; dsimp only; split <;> rfl
@[simp] theorem Dev.fault_drv (d : Dev) (p b : Nat) : (d.fault p b).drv = d.drv := by unfold Dev.fault; dsimp only; split <;> rfl
@[simp] theorem Dev.fault_lpe (d : Dev) (p b : Nat) : (d.fault p b).lpe = d.lpe := by unfold Dev.fault; dsimp only; split <;> rfl
@[simp] theorem Dev.fault_net (d : Dev) (p b : Nat) : (d.fault p b).net = d.net := by unfold Dev.fault; dsimp only; split <;> rfl
@[simp] theorem Dev.fault_gps (d : Dev) (p b : Nat) : (d.fault p b).gps = d.gps := by unfold Dev.fault; dsimp only; split <;> rfl
@[simp] theorem Dev.fault_pow (d : Dev) (p b : Nat) : (d.fault p b).pow = d.pow := by unfold Dev.fault; dsimp only; split <;> rfl
@[simp] theorem Dev.fault_map (d : Dev) (p b : Nat) : (d.fault p b).map = d.map := by unfold Dev.fault; dsimp only; split <;> rfl
@[simp] theorem Dev.fault_sde (d : Dev) (p b : Nat) : (d.fault p b).sde = d.sde := by unfold Dev.fault; dsimp only; split <;> rfl
@[simp] theorem Dev.fault_eds (d : Dev) (p b : Nat) : (d.fault p b).eds = d.eds := by unfold Dev.fault; dsimp only; split <;> rfl
@[simp] theorem Dev.fault_bwk (d : Dev) (p b : Nat) : (d.fault p b).bwk = d.bwk := by unfold Dev.fault; dsimp only; split <;> rfl
@[simp] theorem Dev.fault_dia (d : Dev) (p b : Nat) : (d.fault p b).dia = d.dia := by unfold Dev.fault; dsimp only; split <;> rfl
@[simp] theorem Dev.fault_att (d : Dev) (p b : Nat) : (d.fault p b).att = d.att := by unfold Dev.fault; dsimp only; split <;> rfl
@[simp] theorem Dev.fault_sup (d : Dev) (p b : Nat) : (d.fault p b).sup = d.sup := by unfold Dev.fault; dsimp only; split <;> rfl

@[simp] theorem Dev.lenReject_pend (d : Dev) (p : Nat) : (d.lenReject p).pend = d.pend := (Dev.fault_pend _ _ _).trans rfl
@[simp] theorem Dev.lenReject_cross (d : Dev) (p : Nat) : (d.lenReject p).cross = d.cross := (Dev.fault_cross _ _ _).trans rfl
@[simp] theorem Dev.lenReject_conf (d : Dev) (p : Nat) : (d.lenReject p).conf = d.conf := (Dev.fault_conf _ _ _).trans rfl
@[simp] theorem Dev.lenReject_fab (d : Dev) (p : Nat) : (d.lenReject p).fab = d.fab := (Dev.fault_fab _ _ _).trans rfl
@[simp] theorem Dev.lenReject_tm (d : Dev) (p : Nat) : (d.lenReject p).tm = d.tm := (Dev.fault_tm _ _ _).trans rfl
@[simp] theorem Dev.lenReject_frm (d : Dev) (p : Nat) : (d.lenReject p).frm = d.frm := (Dev.fault_frm _ _ _).trans rfl
@[simp] theorem Dev.lenReject_rcf (d : Dev) (p : Nat) : (d.lenReject p).rcf = d.rcf := (Dev.fault_rcf _ _ _).trans rfl
@[simp] theorem Dev.lenReject_pose (d : Dev) (p : Nat) : (d.lenReject p).pose = d.pose := (Dev.fault_pose _ _ _).trans rfl
@[simp] theorem Dev.lenReject_imp (d : Dev) (p : Nat) : (d.lenReject p).imp = d.imp := (Dev.fault_imp _ _ _).trans rfl
@[simp] theorem Dev.lenReject_drv (d : Dev) (p : Nat) : (d.lenReject p).drv = d.drv := (Dev.fault_drv _ _ _).trans rfl
@[simp] theorem Dev.lenReject_lpe (d : Dev) (p : Nat) : (d.lenReject p).lpe = d.lpe := (Dev.fault_lpe _ _ _).trans rfl
@[simp] theorem Dev.lenReject_net (d : Dev) (p : Nat) : (d.lenReject p).net = d.net := (Dev.fault_net _ _ _).trans rfl
@[simp] theorem Dev.lenReject_gps (d : Dev) (p : Nat) : (d.lenReject p).gps = d.gps := (Dev.fault_gps _ _ _).trans rfl
@[simp] theorem Dev.lenReject_pow (d : Dev) (p : Nat) : (d.lenReject p).pow = d.pow := (Dev.fault_pow _ _ _).trans rfl
@[simp] theorem Dev.lenReject_map (d : Dev) (p : Nat) : (d.lenReject p).map = d.map := (Dev.fault_map _ _ _).trans rfl
@[simp] theorem Dev.lenReject_sde (d : Dev) (p : Nat) : (d.lenReject p).sde = d.sde := (Dev.fault_sde _ _ _).trans rfl
@[simp] theorem Dev.lenReject_eds (d : Dev) (p : Nat) : (d.lenReject p).eds = d.eds := (Dev.fault_eds _ _ _).trans rfl
@[simp] theorem Dev.lenReject_bwk (d : Dev) (p : Nat) : (d.lenReject p).bwk = d.bwk := (Dev.fault_bwk _ _ _).trans rfl
@[simp] theorem Dev.lenReject_dia (d : Dev) (p : Nat) : (d.lenReject p).dia = d.dia := (Dev.fault_dia _ _ _).trans rfl
@[simp] theorem Dev.lenReject_att (d : Dev) (p : Nat) : (d.lenReject p).att = d.att := (Dev.fault_att _ _ _).trans rfl
@[simp] theorem Dev.lenReject_sup (d : Dev) (p : Nat) : (d.lenReject p).sup = d.sup := (Dev.fault_sup _ _ _).trans rfl

@[simp] theorem Dev.suppress_pend (d : Dev) (c : Nat) : (d.suppress c).pend = d.pend := rfl
@[simp] theorem Dev.suppress_cross (d : Dev) (c : Nat) : (d.suppress c).cross = d.cross := rfl
@[simp] theorem Dev.suppress_conf (d : Dev) (c : Nat) : (d.suppress c).conf = d.conf := rfl
@[simp] theorem Dev.suppress_fab (d : Dev) (c : Nat) : (d.suppress c).fab = d.fab := rfl
@[simp] theorem Dev.suppress_tm (d : Dev) (c : Nat) : (d.suppress c).tm = d.tm := rfl
@[simp] theorem Dev.suppress_frm (d : Dev) (c : Nat) : (d.suppress c).frm = d.frm := rfl
@[simp] theorem Dev.suppress_pose (d : Dev) (c : Nat) : (d.suppress c).pose = d.pose := rfl
@[simp] theorem Dev.suppress_imp (d : Dev) (c : Nat) : (d.suppress c).imp = d.imp := rfl
@[simp] theorem Dev.suppress_drv (d : Dev) (c : Nat) : (d.suppress c).drv = d.drv := rfl
@[simp] theorem Dev.suppress_lpe (d : Dev) (c : Nat) : (d.suppress c).lpe = d.lpe := rfl
@[simp] theorem Dev.suppress_net (d : Dev) (c : Nat) : (d.suppress c).net = d.net := rfl
@[simp] theorem Dev.suppress_gps (d : Dev) (c : Nat) : (d.suppress c).gps = d.gps := rfl
@[simp] theorem Dev.suppress_pow (d : Dev) (c : Nat) : (d.suppress c).pow = d.pow := rfl
@[simp] theorem Dev.suppress_map (d : Dev) (c : Nat) : (d.suppress c).map = d.map := rfl
@[simp] theorem Dev.suppress_sde (d : Dev) (c : Nat) : (d.suppress c).sde = d.sde := rfl
@[simp] theorem Dev.suppress_eds (d : Dev) (c : Nat) : (d.suppress c).eds = d.eds := rfl
@[simp] theorem Dev.suppress_bwk (d : Dev) (c : Nat) : (d.suppress c).bwk = d.bwk := rfl
@[simp] theorem Dev.suppress_dia (d : Dev) (c : Nat) : (d.suppress c).dia = d.dia := rfl
@[simp] theorem Dev.suppress_att (d : Dev) (c : Nat) : (d.suppress c).att = d.att := rfl
@[simp] theorem Dev.suppress_sup (d : Dev) (c : Nat) : (d.suppress c).sup = d.sup := rfl

@[simp] theorem Dev.emit_pend (d : Dev) (e : Event) : (d.emit e).pend = d.pend := by unfold Dev.emit; split; rfl; split; exact Dev.suppress_pend _ _; rfl
@[simp] theorem Dev.emit_cross (d : Dev) (e : Event) : (d.emit e).cross = d.cross := by unfold Dev.emit; split; rfl; split; exact Dev.suppress_cross _ _; rfl
@[simp] theorem Dev.emit_conf (d : Dev) (e : Event) : (d.emit e).conf = d.conf := by unfold Dev.emit; split; rfl; split; exact Dev.suppress_conf _ _; rfl
@[simp] theorem Dev.emit_fab (d : Dev) (e : Event) : (d.emit e).fab = d.fab := by unfold Dev.emit; split; rfl; split; exact Dev.suppress_fab _ _; rfl
@[simp] theorem Dev.emit_tm (d : Dev) (e : Event) : (d.emit e).tm = d.tm := by unfold Dev.emit; split; rfl; split; exact Dev.suppress_tm _ _; rfl
@[simp] theorem Dev.emit_frm (d : Dev) (e : Event) : (d.emit e).frm = d.frm := by unfold Dev.emit; split; rfl; split; exact Dev.suppress_frm _ _; rfl
@[simp] theorem Dev.emit_pose (d : Dev) (e : Event) : (d.emit e).pose = d.pose := by unfold Dev.emit; split; rfl; split; exact Dev.suppress_pose _ _; rfl
@[simp] theorem Dev.emit_imp (d : Dev) (e : Event) : (d.emit e).imp = d.imp := by unfold Dev.emit; split; rfl; split; exact Dev.suppress_imp _ _; rfl
@[simp] theorem Dev.emit_drv (d : Dev) (e : Event) : (d.emit e).drv = d.drv := by unfold Dev.emit; split; rfl; split; exact Dev.suppress_drv _ _; rfl
@[simp] theorem Dev.emit_lpe (d : Dev) (e : Event) : (d.emit e).lpe = d.lpe := by unfold Dev.emit; split; rfl; split; exact Dev.suppress_lpe _ _; rfl
@[simp] theorem Dev.emit_net (d : Dev) (e : Event) : (d.emit e).net = d.net := by unfold Dev.emit; split; rfl; split; exact Dev.suppress_net _ _; rfl
@[simp] theorem Dev.emit_gps (d : Dev) (e : Event) : (d.emit e).gps = d.gps := by unfold Dev.emit; split; rfl; split; exact Dev.suppress_gps _ _; rfl
@[simp] theorem Dev.emit_pow (d : Dev) (e : Event) : (d.emit e).pow = d.pow := by unfold Dev.emit; split; rfl; split; exact Dev.suppress_pow _ _; rfl
@[simp] theorem Dev.emit_map (d : Dev) (e : Event) : (d.emit e).map = d.map := by unfold Dev.emit; split; rfl; split; exact Dev.suppress_map _ _; rfl
@[simp] theorem Dev.emit_sde (d : Dev) (e : Event) : (d.emit e).sde = d.sde := by unfold Dev.emit; split; rfl; split; exact Dev.suppress_sde _ _; rfl
@[simp] theorem Dev.emit_eds (d : Dev) (e : Event) : (d.emit e).eds = d.eds := by unfold Dev.emit; split; rfl; split; exact Dev.suppress_eds _ _; rfl
@[simp] theorem Dev.emit_bwk (d : Dev) (e : Event) : (d.emit e).bwk = d.bwk := by unfold Dev.emit; split; rfl; split; exact Dev.suppress_bwk _ _; rfl
@[simp] theorem Dev.emit_dia (d : Dev) (e : Event) : (d.emit e).dia = d.dia := by unfold Dev.emit; split; rfl; split; exact Dev.suppress_dia _ _; rfl
@[simp] theorem Dev.emit_att (d : Dev) (e : Event) : (d.emit e).att = d.att := by unfold Dev.emit; split; rfl; split; exact Dev.suppress_att _ _; rfl
@[simp] theorem Dev.emit_sup (d : Dev) (e : Event) : (d.emit e).sup = d.sup := by unfold Dev.emit; split; rfl; split; exact Dev.suppress_sup _ _; rfl

@[simp] theorem Dev.recFault_pend (d : Dev) (p b : Nat) (vs : List W32) (o i : Nat) : (d.recFault p b vs o i).pend = d.pend := Dev.emit_pend _ _
@[simp] theorem Dev.recFault_cross (d : Dev) (p b : Nat) (vs : List W32) (o i : Nat) : (d.recFault p b vs o i).cross = d.cross := Dev.emit_cross _ _
@[simp] theorem Dev.recFault_conf (d : Dev) (p b : Nat) (vs : List W32) (o i : Nat) : (d.recFault p b vs o i).conf = d.conf := Dev.emit_conf _ _
@[simp] theorem Dev.recFault_fab (d : Dev) (p b : Nat) (vs : List W32) (o i : Nat) : (d.recFault p b vs o i).fab = d.fab := Dev.emit_fab _ _
@[simp] theorem Dev.recFault_tm (d : Dev) (p b : Nat) (vs : List W32) (o i : Nat) : (d.recFault p b vs o i).tm = d.tm := Dev.emit_tm _ _
@[simp] theorem Dev.recFault_frm (d : Dev) (p b : Nat) (vs : List W32) (o i : Nat) : (d.recFault p b vs o i).frm = d.frm := Dev.emit_frm _ _
@[simp] theorem Dev.recFault_pose (d : Dev) (p b : Nat) (vs : List W32) (o i : Nat) : (d.recFault p b vs o i).pose = d.pose := Dev.emit_pose _ _
@[simp] theorem Dev.recFault_imp (d : Dev) (p b : Nat) (vs : List W32) (o i : Nat) : (d.recFault p b vs o i).imp = d.imp := Dev.emit_imp _ _
@[simp] theorem Dev.recFault_drv (d : Dev) (p b : Nat) (vs : List W32) (o i : Nat) : (d.recFault p b vs o i).drv = d.drv := Dev.emit_drv _ _
@[simp] theorem Dev.recFault_lpe (d : Dev) (p b : Nat) (vs : List W32) (o i : Nat) : (d.recFault p b vs o i).lpe = d.lpe := Dev.emit_lpe _ _
@[simp] theorem Dev.recFault_net (d : Dev) (p b : Nat) (vs : List W32) (o i : Nat) : (d.recFault p b vs o i).net = d.net := Dev.emit_net _ _
@[simp] theorem Dev.recFault_gps (d : Dev) (p b : Nat) (vs : List W32) (o i : Nat) : (d.recFault p b vs o i).gps = d.gps := Dev.emit_gps _ _
@[simp] theorem Dev.recFault_pow (d : Dev) (p b : Nat) (vs : List W32) (o i : Nat) : (d.recFault p b vs o i).pow = d.pow := Dev.emit_pow _ _
@[simp] theorem Dev.recFault_map (d : Dev) (p b : Nat) (vs : List W32) (o i : Nat) : (d.recFault p b vs o i).map = d.map := Dev.emit_map _ _
@[simp] theorem Dev.recFault_sde (d : Dev) (p b : Nat) (vs : List W32) (o i : Nat) : (d.recFault p b vs o i).sde = d.sde := Dev.emit_sde _ _
@[simp] theorem Dev.recFault_eds (d : Dev) (p b : Nat) (vs : List W32) (o i : Nat) : (d.recFault p b vs o i).eds = d.eds := Dev.emit_eds _ _
@[simp] theorem Dev.recFault_bwk (d : Dev) (p b : Nat) (vs : List W32) (o i : Nat) : (d.recFault p b vs o i).bwk = d.bwk := Dev.emit_bwk _ _
@[simp] theorem Dev.recFault_dia (d : Dev) (p b : Nat) (vs : List W32) (o i : Nat) : (d.recFault p b vs o i).dia = d.dia := Dev.emit_dia _ _
@[simp] theorem Dev.recFault_att (d : Dev) (p b : Nat) (vs : List W32) (o i : Nat) : (d.recFault p b vs o i).att = d.att := Dev.emit_att _ _
@[simp] theorem Dev.recFault_sup (d : Dev) (p b : Nat) (vs : List W32) (o i : Nat) : (d.recFault p b vs o i).sup = d.sup := Dev.emit_sup _ _

@[simp] theorem Dev.recIrq_pend (d : Dev) (p b : Nat) (vs : List W32) (o i : Nat) : (d.recIrq p b vs o i).pend = d.pend := Dev.emit_pend _ _
@[simp] theorem Dev.recIrq_cross (d : Dev) (p b : Nat) (vs : List W32) (o i : Nat) : (d.recIrq p b vs o i).cross = d.cross := Dev.emit_cross _ _
@[simp] theorem Dev.recIrq_conf (d : Dev) (p b : Nat) (vs : List W32) (o i : Nat) : (d.recIrq p b vs o i).conf = d.conf := Dev.emit_conf _ _
@[simp] theorem Dev.recIrq_fab (d : Dev) (p b : Nat) (vs : List W32) (o i : Nat) : (d.recIrq p b vs o i).fab = d.fab := Dev.emit_fab _ _
@[simp] theorem Dev.recIrq_tm (d : Dev) (p b : Nat) (vs : List W32) (o i : Nat) : (d.recIrq p b vs o i).tm = d.tm := Dev.emit_tm _ _
@[simp] theorem Dev.recIrq_frm (d : Dev) (p b : Nat) (vs : List W32) (o i : Nat) : (d.recIrq p b vs o i).frm = d.frm := Dev.emit_frm _ _
@[simp] theorem Dev.recIrq_pose (d : Dev) (p b : Nat) (vs : List W32) (o i : Nat) : (d.recIrq p b vs o i).pose = d.pose := Dev.emit_pose _ _
@[simp] theorem Dev.recIrq_imp (d : Dev) (p b : Nat) (vs : List W32) (o i : Nat) : (d.recIrq p b vs o i).imp = d.imp := Dev.emit_imp _ _
@[simp] theorem Dev.recIrq_drv (d : Dev) (p b : Nat) (vs : List W32) (o i : Nat) : (d.recIrq p b vs o i).drv = d.drv := Dev.emit_drv _ _
@[simp] theorem Dev.recIrq_lpe (d : Dev) (p b : Nat) (vs : List W32) (o i : Nat) : (d.recIrq p b vs o i).lpe = d.lpe := Dev.emit_lpe _ _
@[simp] theorem Dev.recIrq_net (d : Dev) (p b : Nat) (vs : List W32) (o i : Nat) : (d.recIrq p b vs o i).net = d.net := Dev.emit_net _ _
@[simp] theorem Dev.recIrq_gps (d : Dev) (p b : Nat) (vs : List W32) (o i : Nat) : (d.recIrq p b vs o i).gps = d.gps := Dev.emit_gps _ _
@[simp] theorem Dev.recIrq_pow (d : Dev) (p b : Nat) (vs : List W32) (o i : Nat) : (d.recIrq p b vs o i).pow = d.pow := Dev.emit_pow _ _
@[simp] theorem Dev.recIrq_map (d : Dev) (p b : Nat) (vs : List W32) (o i : Nat) : (d.recIrq p b vs o i).map = d.map := Dev.emit_map _ _
@[simp] theorem Dev.recIrq_sde (d : Dev) (p b : Nat) (vs : List W32) (o i : Nat) : (d.recIrq p b vs o i).sde = d.sde := Dev.emit_sde _ _
@[simp] theorem Dev.recIrq_eds (d : Dev) (p b : Nat) (vs : List W32) (o i : Nat) : (d.recIrq p b vs o i).eds = d.eds := Dev.emit_eds _ _
@[simp] theorem Dev.recIrq_bwk (d : Dev) (p b : Nat) (vs : List W32) (o i : Nat) : (d.recIrq p b vs o i).bwk = d.bwk := Dev.emit_bwk _ _
@[simp] theorem Dev.recIrq_dia (d : Dev) (p b : Nat) (vs : List W32) (o i : Nat) : (d.recIrq p b vs o i).dia = d.dia := Dev.emit_dia _ _
@[simp] theorem Dev.recIrq_att (d : Dev) (p b : Nat) (vs : List W32) (o i : Nat) : (d.recIrq p b vs o i).att = d.att := Dev.emit_att _ _
@[simp] theorem Dev.recIrq_sup (d : Dev) (p b : Nat) (vs : List W32) (o i : Nat) : (d.recIrq p b vs o i).sup = d.sup := Dev.emit_sup _ _

@[simp] theorem Dev.recOther_pend (d : Dev) (p : Nat) (vs : List W32) (o i : Nat) : (d.recOther p vs o i).pend = d.pend := Dev.emit_pend _ _
@[simp] theorem Dev.recOther_cross (d : Dev) (p : Nat) (vs : List W32) (o i : Nat) : (d.recOther p vs o i).cross = d.cross := Dev.emit_cross _ _
@[simp] theorem Dev.recOther_conf (d : Dev) (p : Nat) (vs : List W32) (o i : Nat) : (d.recOther p vs o i).conf = d.conf := Dev.emit_conf _ _
@[simp] theorem Dev.recOther_fab (d : Dev) (p : Nat) (vs : List W32) (o i : Nat) : (d.recOther p vs o i).fab = d.fab := Dev.emit_fab _ _
@[simp] theorem Dev.recOther_tm (d : Dev) (p : Nat) (vs : List W32) (o i : Nat) : (d.recOther p vs o i).tm = d.tm := Dev.emit_tm _ _
@[simp] theorem Dev.recOther_frm (d : Dev) (p : Nat) (vs : List W32) (o i : Nat) : (d.recOther p vs o i).frm = d.frm := Dev.emit_frm _ _
@[simp] theorem Dev.recOther_pose (d : Dev) (p : Nat) (vs : List W32) (o i : Nat) : (d.recOther p vs o i).pose = d.pose := Dev.emit_pose _ _
@[simp] theorem Dev.recOther_imp (d : Dev) (p : Nat) (vs : List W32) (o i : Nat) : (d.recOther p vs o i).imp = d.imp := Dev.emit_imp _ _
@[simp] theorem Dev.recOther_drv (d : Dev) (p : Nat) (vs : List W32) (o i : Nat) : (d.recOther p vs o i).drv = d.drv := Dev.emit_drv _ _
@[simp] theorem Dev.recOther_lpe (d : Dev) (p : Nat) (vs : List W32) (o i : Nat) : (d.recOther p vs o i).lpe = d.lpe := Dev.emit_lpe _ _
@[simp] theorem Dev.recOther_net (d : Dev) (p : Nat) (vs : List W32) (o i : Nat) : (d.recOther p vs o i).net = d.net := Dev.emit_net _ _
@[simp] theorem Dev.recOther_gps (d : Dev) (p : Nat) (vs : List W32) (o i : Nat) : (d.recOther p vs o i).gps = d.gps := Dev.emit_gps _ _
@[simp] theorem Dev.recOther_pow (d : Dev) (p : Nat) (vs : List W32) (o i : Nat) : (d.recOther p vs o i).pow = d.pow := Dev.emit_pow _ _
@[simp] theorem Dev.recOther_map (d : Dev) (p : Nat) (vs : List W32) (o i : Nat) : (d.recOther p vs o i).map = d.map := Dev.emit_map _ _
@[simp] theorem Dev.recOther_sde (d : Dev) (p : Nat) (vs : List W32) (o i : Nat) : (d.recOther p vs o i).sde = d.sde := Dev.emit_sde _ _
@[simp] theorem Dev.recOther_eds (d : Dev) (p : Nat) (vs : List W32) (o i : Nat) : (d.recOther p vs o i).eds = d.eds := Dev.emit_eds _ _
@[simp] theorem Dev.recOther_bwk (d : Dev) (p : Nat) (vs : List W32) (o i : Nat) : (d.recOther p vs o i).bwk = d.bwk := Dev.emit_bwk _ _
@[simp] theorem Dev.recOther_dia (d : Dev) (p : Nat) (vs : List W32) (o i : Nat) : (d.recOther p vs o i).dia = d.dia := Dev.emit_dia _ _
@[simp] theorem Dev.recOther_att (d : Dev) (p : Nat) (vs : List W32) (o i : Nat) : (d.recOther p vs o i).att = d.att := Dev.emit_att _ _
@[simp] theorem Dev.recOther_sup (d : Dev) (p : Nat) (vs : List W32) (o i : Nat) : (d.recOther p vs o i).sup = d.sup := Dev.emit_sup _ _

@[simp] theorem Dev.recOwn_pend (d : Dev) (c : Nat) (vs : List W32) : (d.recOwn c vs).pend = d.pend := Dev.emit_pend _ _
@[simp] theorem Dev.recOwn_cross (d : Dev) (c : Nat) (vs : List W32) : (d.recOwn c vs).cross = d.cross := Dev.emit_cross _ _
@[simp] theorem Dev.recOwn_conf (d : Dev) (c : Nat) (vs : List W32) : (d.recOwn c vs).conf = d.conf := Dev.emit_conf _ _
@[simp] theorem Dev.recOwn_fab (d : Dev) (c : Nat) (vs : List W32) : (d.recOwn c vs).fab = d.fab := Dev.emit_fab _ _
@[simp] theorem Dev.recOwn_tm (d : Dev) (c : Nat) (vs : List W32) : (d.recOwn c vs).tm = d.tm := Dev.emit_tm _ _
@[simp] theorem Dev.recOwn_frm (d : Dev) (c : Nat) (vs : List W32) : (d.recOwn c vs).frm = d.frm := Dev.emit_frm _ _
@[simp] theorem Dev.recOwn_pose (d : Dev) (c : Nat) (vs : List W32) : (d.recOwn c vs).pose = d.pose := Dev.emit_pose _ _
@[simp] theorem Dev.recOwn_imp (d : Dev) (c : Nat) (vs : List W32) : (d.recOwn c vs).imp = d.imp := Dev.emit_imp _ _
@[simp] theorem Dev.recOwn_drv (d : Dev) (c : Nat) (vs : List W32) : (d.recOwn c vs).drv = d.drv := Dev.emit_drv _ _
@[simp] theorem Dev.recOwn_lpe (d : Dev) (c : Nat) (vs : List W32) : (d.recOwn c vs).lpe = d.lpe := Dev.emit_lpe _ _
@[simp] theorem Dev.recOwn_net (d : Dev) (c : Nat) (vs : List W32) : (d.recOwn c vs).net = d.net := Dev.emit_net _ _
@[simp] theorem Dev.recOwn_gps (d : Dev) (c : Nat) (vs : List W32) : (d.recOwn c vs).gps = d.gps := Dev.emit_gps _ _
@[simp] theorem Dev.recOwn_pow (d : Dev) (c : Nat) (vs : List W32) : (d.recOwn c vs).pow = d.pow := Dev.emit_pow _ _
@[simp] theorem Dev.recOwn_map (d : Dev) (c : Nat) (vs : List W32) : (d.recOwn c vs).map = d.map := Dev.emit_map _ _
@[simp] theorem Dev.recOwn_sde (d : Dev) (c : Nat) (vs : List W32) : (d.recOwn c vs).sde = d.sde := Dev.emit_sde _ _
@[simp] theorem Dev.recOwn_eds (d : Dev) (c : Nat) (vs : List W32) : (d.recOwn c vs).eds = d.eds := Dev.emit_eds _ _
@[simp] theorem Dev.recOwn_bwk (d : Dev) (c : Nat) (vs : List W32) : (d.recOwn c vs).bwk = d.bwk := Dev.emit_bwk _ _
@[simp] theorem Dev.recOwn_dia (d : Dev) (c : Nat) (vs : List W32) : (d.recOwn c vs).dia = d.dia := Dev.emit_dia _ _
@[simp] theorem Dev.recOwn_att (d : Dev) (c : Nat) (vs : List W32) : (d.recOwn c vs).att = d.att := Dev.emit_att _ _
@[simp] theorem Dev.recOwn_sup (d : Dev) (c : Nat) (vs : List W32) : (d.recOwn c vs).sup = d.sup := Dev.emit_sup _ _

@[simp] theorem Dev.faultRec_pend (d : Dev) (p b : Nat) (vs : List W32) (o i : Nat) : (d.faultRec p b vs o i).pend = d.pend := (Dev.recFault_pend _ _ _ _ _ _).trans (Dev.fault_pend _ _ _)
@[simp] theorem Dev.faultRec_cross (d : Dev) (p b : Nat) (vs : List W32) (o i : Nat) : (d.faultRec p b vs o i).cross = d.cross := (Dev.recFault_cross _ _ _ _ _ _).trans (Dev.fault_cross _ _ _)
@[simp] theorem Dev.faultRec_conf (d : Dev) (p b : Nat) (vs : List W32) (o i : Nat) : (d.faultRec p b vs o i).conf = d.conf := (Dev.recFault_conf _ _ _ _ _ _).trans (Dev.fault_conf _ _ _)
@[simp] theorem Dev.faultRec_fab (d : Dev) (p b : Nat) (vs : List W32) (o i : Nat) : (d.faultRec p b vs o i).fab = d.fab := (Dev.recFault_fab _ _ _ _ _ _).trans (Dev.fault_fab _ _ _)
@[simp] theorem Dev.faultRec_tm (d : Dev) (p b : Nat) (vs : List W32) (o i : Nat) : (d.faultRec p b vs o i).tm = d.tm := (Dev.recFault_tm _ _ _ _ _ _).trans (Dev.fault_tm _ _ _)
@[simp] theorem Dev.faultRec_frm (d : Dev) (p b : Nat) (vs : List W32) (o i : Nat) : (d.faultRec p b vs o i).frm = d.frm := (Dev.recFault_frm _ _ _ _ _ _).trans (Dev.fault_frm _ _ _)
@[simp] theorem Dev.faultRec_pose (d : Dev) (p b : Nat) (vs : List W32) (o i : Nat) : (d.faultRec p b vs o i).pose = d.pose := (Dev.recFault_pose _ _ _ _ _ _).trans (Dev.fault_pose _ _ _)
@[simp] theorem Dev.faultRec_imp (d : Dev) (p b : Nat) (vs : List W32) (o i : Nat) : (d.faultRec p b vs o i).imp = d.imp := (Dev.recFault_imp _ _ _ _ _ _).trans (Dev.fault_imp _ _ _)
@[simp] theorem Dev.faultRec_drv (d : Dev) (p b : Nat) (vs : List W32) (o i : Nat) : (d.faultRec p b vs o i).drv = d.drv := (Dev.recFault_drv _ _ _ _ _ _).trans (Dev.fault_drv _ _ _)
@[simp] theorem Dev.faultRec_lpe (d : Dev) (p b : Nat) (vs : List W32) (o i : Nat) : (d.faultRec p b vs o i).lpe = d.lpe := (Dev.recFault_lpe _ _ _ _ _ _).trans (Dev.fault_lpe _ _ _)
@[simp] theorem Dev.faultRec_net (d : Dev) (p b : Nat) (vs : List W32) (o i : Nat) : (d.faultRec p b vs o i).net = d.net := (Dev.recFault_net _ _ _ _ _ _).trans (Dev.fault_net _ _ _)
@[simp] theorem Dev.faultRec_gps (d : Dev) (p b : Nat) (vs : List W32) (o i : Nat) : (d.faultRec p b vs o i).gps = d.gps := (Dev.recFault_gps _ _ _ _ _ _).trans (Dev.fault_gps _ _ _)
@[simp] theorem Dev.faultRec_pow (d : Dev) (p b : Nat) (vs : List W32) (o i : Nat) : (d.faultRec p b vs o i).pow = d.pow := (Dev.recFault_pow _ _ _ _ _ _).trans (Dev.fault_pow _ _ _)
@[simp] theorem Dev.faultRec_map (d : Dev) (p b : Nat) (vs : List W32) (o i : Nat) : (d.faultRec p b vs o i).map = d.map := (Dev.recFault_map _ _ _ _ _ _).trans (Dev.fault_map _ _ _)
@[simp] theorem Dev.faultRec_sde (d : Dev) (p b : Nat) (vs : List W32) (o i : Nat) : (d.faultRec p b vs o i).sde = d.sde := (Dev.recFault_sde _ _ _ _ _ _).trans (Dev.fault_sde _ _ _)
@[simp] theorem Dev.faultRec_eds (d : Dev) (p b : Nat) (vs : List W32) (o i : Nat) : (d.faultRec p b vs o i).eds = d.eds := (Dev.recFault_eds _ _ _ _ _ _).trans (Dev.fault_eds _ _ _)
@[simp] theorem Dev.faultRec_bwk (d : Dev) (p b : Nat) (vs : List W32) (o i : Nat) : (d.faultRec p b vs o i).bwk = d.bwk := (Dev.recFault_bwk _ _ _ _ _ _).trans (Dev.fault_bwk _ _ _)
@[simp] theorem Dev.faultRec_dia (d : Dev) (p b : Nat) (vs : List W32) (o i : Nat) : (d.faultRec p b vs o i).dia = d.dia := (Dev.recFault_dia _ _ _ _ _ _).trans (Dev.fault_dia _ _ _)
@[simp] theorem Dev.faultRec_att (d : Dev) (p b : Nat) (vs : List W32) (o i : Nat) : (d.faultRec p b vs o i).att = d.att := (Dev.recFault_att _ _ _ _ _ _).trans (Dev.fault_att _ _ _)
@[simp] theorem Dev.faultRec_sup (d : Dev) (p b : Nat) (vs : List W32) (o i : Nat) : (d.faultRec p b vs o i).sup = d.sup := (Dev.recFault_sup _ _ _ _ _ _).trans (Dev.fault_sup _ _ _)

@[simp] theorem Dev.advance_regs (d : Dev) (n : Nat) : (d.advance n).regs = d.regs := rfl
@[simp] theorem Dev.advance_pend (d : Dev) (n : Nat) : (d.advance n).pend = d.pend := rfl
@[simp] theorem Dev.advance_cross (d : Dev) (n : Nat) : (d.advance n).cross = d.cross := rfl
@[simp] theorem Dev.advance_conf (d : Dev) (n : Nat) : (d.advance n).conf = d.conf := rfl
@[simp] theorem Dev.advance_fab (d : Dev) (n : Nat) : (d.advance n).fab = d.fab := rfl
@[simp] theorem Dev.advance_frm (d : Dev) (n : Nat) : (d.advance n).frm = d.frm := rfl
@[simp] theorem Dev.advance_rcf (d : Dev) (n : Nat) : (d.advance n).rcf = d.rcf := rfl
@[simp] theorem Dev.advance_pose (d : Dev) (n : Nat) : (d.advance n).pose = d.pose := rfl
@[simp] theorem Dev.advance_imp (d : Dev) (n : Nat) : (d.advance n).imp = d.imp := rfl
@[simp] theorem Dev.advance_drv (d : Dev) (n : Nat) : (d.advance n).drv = d.drv := rfl
@[simp] theorem Dev.advance_lpe (d : Dev) (n : Nat) : (d.advance n).lpe = d.lpe := rfl
@[simp] theorem Dev.advance_net (d : Dev) (n : Nat) : (d.advance n).net = d.net := rfl
@[simp] theorem Dev.advance_gps (d : Dev) (n : Nat) : (d.advance n).gps = d.gps := rfl
@[simp] theorem Dev.advance_pow (d : Dev) (n : Nat) : (d.advance n).pow = d.pow := rfl
@[simp] theorem Dev.advance_map (d : Dev) (n : Nat) : (d.advance n).map = d.map := rfl
@[simp] theorem Dev.advance_sde (d : Dev) (n : Nat) : (d.advance n).sde = d.sde := rfl
@[simp] theorem Dev.advance_eds (d : Dev) (n : Nat) : (d.advance n).eds = d.eds := rfl
@[simp] theorem Dev.advance_bwk (d : Dev) (n : Nat) : (d.advance n).bwk = d.bwk := rfl
@[simp] theorem Dev.advance_dia (d : Dev) (n : Nat) : (d.advance n).dia = d.dia := rfl
@[simp] theorem Dev.advance_att (d : Dev) (n : Nat) : (d.advance n).att = d.att := rfl
@[simp] theorem Dev.advance_sup (d : Dev) (n : Nat) : (d.advance n).sup = d.sup := rfl

@[simp] theorem Dev.toTbm_regs (d : Dev) (t : Nat) : (d.toTbm t).regs = d.regs := rfl
@[simp] theorem Dev.toTbm_pend (d : Dev) (t : Nat) : (d.toTbm t).pend = d.pend := rfl
@[simp] theorem Dev.toTbm_cross (d : Dev) (t : Nat) : (d.toTbm t).cross = d.cross := rfl
@[simp] theorem Dev.toTbm_conf (d : Dev) (t : Nat) : (d.toTbm t).conf = d.conf := rfl
@[simp] theorem Dev.toTbm_fab (d : Dev) (t : Nat) : (d.toTbm t).fab = d.fab := rfl
@[simp] theorem Dev.toTbm_frm (d : Dev) (t : Nat) : (d.toTbm t).frm = d.frm := rfl
@[simp] theorem Dev.toTbm_rcf (d : Dev) (t : Nat) : (d.toTbm t).rcf = d.rcf := rfl
@[simp] theorem Dev.toTbm_pose (d : Dev) (t : Nat) : (d.toTbm t).pose = d.pose := rfl
@[simp] theorem Dev.toTbm_imp (d : Dev) (t : Nat) : (d.toTbm t).imp = d.imp := rfl
@[simp] theorem Dev.toTbm_drv (d : Dev) (t : Nat) : (d.toTbm t).drv = d.drv := rfl
@[simp] theorem Dev.toTbm_lpe (d : Dev) (t : Nat) : (d.toTbm t).lpe = d.lpe := rfl
@[simp] theorem Dev.toTbm_net (d : Dev) (t : Nat) : (d.toTbm t).net = d.net := rfl
@[simp] theorem Dev.toTbm_gps (d : Dev) (t : Nat) : (d.toTbm t).gps = d.gps := rfl
@[simp] theorem Dev.toTbm_pow (d : Dev) (t : Nat) : (d.toTbm t).pow = d.pow := rfl
@[simp] theorem Dev.toTbm_map (d : Dev) (t : Nat) : (d.toTbm t).map = d.map := rfl
@[simp] theorem Dev.toTbm_sde (d : Dev) (t : Nat) : (d.toTbm t).sde = d.sde := rfl
@[simp] theorem Dev.toTbm_eds (d : Dev) (t : Nat) : (d.toTbm t).eds = d.eds := rfl
@[simp] theorem Dev.toTbm_bwk (d : Dev) (t : Nat) : (d.toTbm t).bwk = d.bwk := rfl
@[simp] theorem Dev.toTbm_dia (d : Dev) (t : Nat) : (d.toTbm t).dia = d.dia := rfl
@[simp] theorem Dev.toTbm_att (d : Dev) (t : Nat) : (d.toTbm t).att = d.att := rfl
@[simp] theorem Dev.toTbm_sup (d : Dev) (t : Nat) : (d.toTbm t).sup = d.sup := rfl

@[simp] theorem Dev.toTbs_regs (d : Dev) (t : Nat) : (d.toTbs t).regs = d.regs := rfl
@[simp] theorem Dev.toTbs_pend (d : Dev) (t : Nat) : (d.toTbs t).pend = d.pend := rfl
@[simp] theorem Dev.toTbs_cross (d : Dev) (t : Nat) : (d.toTbs t).cross = d.cross := rfl
@[simp] theorem Dev.toTbs_conf (d : Dev) (t : Nat) : (d.toTbs t).conf = d.conf := rfl
@[simp] theorem Dev.toTbs_fab (d : Dev) (t : Nat) : (d.toTbs t).fab = d.fab := rfl
@[simp] theorem Dev.toTbs_frm (d : Dev) (t : Nat) : (d.toTbs t).frm = d.frm := rfl
@[simp] theorem Dev.toTbs_rcf (d : Dev) (t : Nat) : (d.toTbs t).rcf = d.rcf := rfl
@[simp] theorem Dev.toTbs_pose (d : Dev) (t : Nat) : (d.toTbs t).pose = d.pose := rfl
@[simp] theorem Dev.toTbs_imp (d : Dev) (t : Nat) : (d.toTbs t).imp = d.imp := rfl
@[simp] theorem Dev.toTbs_drv (d : Dev) (t : Nat) : (d.toTbs t).drv = d.drv := rfl
@[simp] theorem Dev.toTbs_lpe (d : Dev) (t : Nat) : (d.toTbs t).lpe = d.lpe := rfl
@[simp] theorem Dev.toTbs_net (d : Dev) (t : Nat) : (d.toTbs t).net = d.net := rfl
@[simp] theorem Dev.toTbs_gps (d : Dev) (t : Nat) : (d.toTbs t).gps = d.gps := rfl
@[simp] theorem Dev.toTbs_pow (d : Dev) (t : Nat) : (d.toTbs t).pow = d.pow := rfl
@[simp] theorem Dev.toTbs_map (d : Dev) (t : Nat) : (d.toTbs t).map = d.map := rfl
@[simp] theorem Dev.toTbs_sde (d : Dev) (t : Nat) : (d.toTbs t).sde = d.sde := rfl
@[simp] theorem Dev.toTbs_eds (d : Dev) (t : Nat) : (d.toTbs t).eds = d.eds := rfl
@[simp] theorem Dev.toTbs_bwk (d : Dev) (t : Nat) : (d.toTbs t).bwk = d.bwk := rfl
@[simp] theorem Dev.toTbs_dia (d : Dev) (t : Nat) : (d.toTbs t).dia = d.dia := rfl
@[simp] theorem Dev.toTbs_att (d : Dev) (t : Nat) : (d.toTbs t).att = d.att := rfl
@[simp] theorem Dev.toTbs_sup (d : Dev) (t : Nat) : (d.toTbs t).sup = d.sup := rfl

@[simp] theorem Dev.toTbg_regs (d : Dev) (t : Nat) : (d.toTbg t).regs = d.regs := rfl
@[simp] theorem Dev.toTbg_pend (d : Dev) (t : Nat) : (d.toTbg t).pend = d.pend := rfl
@[simp] theorem Dev.toTbg_cross (d : Dev) (t : Nat) : (d.toTbg t).cross = d.cross := rfl
@[simp] theorem Dev.toTbg_conf (d : Dev) (t : Nat) : (d.toTbg t).conf = d.conf := rfl
@[simp] theorem Dev.toTbg_fab (d : Dev) (t : Nat) : (d.toTbg t).fab = d.fab := rfl
@[simp] theorem Dev.toTbg_frm (d : Dev) (t : Nat) : (d.toTbg t).frm = d.frm := rfl
@[simp] theorem Dev.toTbg_rcf (d : Dev) (t : Nat) : (d.toTbg t).rcf = d.rcf := rfl
@[simp] theorem Dev.toTbg_pose (d : Dev) (t : Nat) : (d.toTbg t).pose = d.pose := rfl
@[simp] theorem Dev.toTbg_imp (d : Dev) (t : Nat) : (d.toTbg t).imp = d.imp := rfl
@[simp] theorem Dev.toTbg_drv (d : Dev) (t : Nat) : (d.toTbg t).drv = d.drv := rfl
@[simp] theorem Dev.toTbg_lpe (d : Dev) (t : Nat) : (d.toTbg t).lpe = d.lpe := rfl
@[simp] theorem Dev.toTbg_net (d : Dev) (t : Nat) : (d.toTbg t).net = d.net := rfl
@[simp] theorem Dev.toTbg_gps (d : Dev) (t : Nat) : (d.toTbg t).gps = d.gps := rfl
@[simp] theorem Dev.toTbg_pow (d : Dev) (t : Nat) : (d.toTbg t).pow = d.pow := rfl
@[simp] theorem Dev.toTbg_map (d : Dev) (t : Nat) : (d.toTbg t).map = d.map := rfl
@[simp] theorem Dev.toTbg_sde (d : Dev) (t : Nat) : (d.toTbg t).sde = d.sde := rfl
@[simp] theorem Dev.toTbg_eds (d : Dev) (t : Nat) : (d.toTbg t).eds = d.eds := rfl
@[simp] theorem Dev.toTbg_bwk (d : Dev) (t : Nat) : (d.toTbg t).bwk = d.bwk := rfl
@[simp] theorem Dev.toTbg_dia (d : Dev) (t : Nat) : (d.toTbg t).dia = d.dia := rfl
@[simp] theorem Dev.toTbg_att (d : Dev) (t : Nat) : (d.toTbg t).att = d.att := rfl
@[simp] theorem Dev.toTbg_sup (d : Dev) (t : Nat) : (d.toTbg t).sup = d.sup := rfl

@[simp] theorem Dev.respond_pend (d : Dev) (q : Requester) (a : Nat) (st : Status) (n : Nat) (ws : List W32) : (d.respond q a st n ws).pend = d.pend := by unfold Dev.respond; dsimp only; split <;> rfl
@[simp] theorem Dev.respond_cross (d : Dev) (q : Requester) (a : Nat) (st : Status) (n : Nat) (ws : List W32) : (d.respond q a st n ws).cross = d.cross := by unfold Dev.respond; dsimp only; split <;> rfl
@[simp] theorem Dev.respond_conf (d : Dev) (q : Requester) (a : Nat) (st : Status) (n : Nat) (ws : List W32) : (d.respond q a st n ws).conf = d.conf := by unfold Dev.respond; dsimp only; split <;> rfl
@[simp] theorem Dev.respond_tm (d : Dev) (q : Requester) (a : Nat) (st : Status) (n : Nat) (ws : List W32) : (d.respond q a st n ws).tm = d.tm := by unfold Dev.respond; dsimp only; split <;> rfl
@[simp] theorem Dev.respond_frm (d : Dev) (q : Requester) (a : Nat) (st : Status) (n : Nat) (ws : List W32) : (d.respond q a st n ws).frm = d.frm := by unfold Dev.respond; dsimp only; split <;> rfl
@[simp] theorem Dev.respond_rcf (d : Dev) (q : Requester) (a : Nat) (st : Status) (n : Nat) (ws : List W32) : (d.respond q a st n ws).rcf = d.rcf := by unfold Dev.respond; dsimp only; split <;> rfl
@[simp] theorem Dev.respond_pose (d : Dev) (q : Requester) (a : Nat) (st : Status) (n : Nat) (ws : List W32) : (d.respond q a st n ws).pose = d.pose := by unfold Dev.respond; dsimp only; split <;> rfl
@[simp] theorem Dev.respond_imp (d : Dev) (q : Requester) (a : Nat) (st : Status) (n : Nat) (ws : List W32) : (d.respond q a st n ws).imp = d.imp := by unfold Dev.respond; dsimp only; split <;> rfl
@[simp] theorem Dev.respond_drv (d : Dev) (q : Requester) (a : Nat) (st : Status) (n : Nat) (ws : List W32) : (d.respond q a st n ws).drv = d.drv := by unfold Dev.respond; dsimp only; split <;> rfl
@[simp] theorem Dev.respond_lpe (d : Dev) (q : Requester) (a : Nat) (st : Status) (n : Nat) (ws : List W32) : (d.respond q a st n ws).lpe = d.lpe := by unfold Dev.respond; dsimp only; split <;> rfl
@[simp] theorem Dev.respond_net (d : Dev) (q : Requester) (a : Nat) (st : Status) (n : Nat) (ws : List W32) : (d.respond q a st n ws).net = d.net := by unfold Dev.respond; dsimp only; split <;> rfl
@[simp] theorem Dev.respond_gps (d : Dev) (q : Requester) (a : Nat) (st : Status) (n : Nat) (ws : List W32) : (d.respond q a st n ws).gps = d.gps := by unfold Dev.respond; dsimp only; split <;> rfl
@[simp] theorem Dev.respond_pow (d : Dev) (q : Requester) (a : Nat) (st : Status) (n : Nat) (ws : List W32) : (d.respond q a st n ws).pow = d.pow := by unfold Dev.respond; dsimp only; split <;> rfl
@[simp] theorem Dev.respond_map (d : Dev) (q : Requester) (a : Nat) (st : Status) (n : Nat) (ws : List W32) : (d.respond q a st n ws).map = d.map := by unfold Dev.respond; dsimp only; split <;> rfl
@[simp] theorem Dev.respond_sde (d : Dev) (q : Requester) (a : Nat) (st : Status) (n : Nat) (ws : List W32) : (d.respond q a st n ws).sde = d.sde := by unfold Dev.respond; dsimp only; split <;> rfl
@[simp] theorem Dev.respond_eds (d : Dev) (q : Requester) (a : Nat) (st : Status) (n : Nat) (ws : List W32) : (d.respond q a st n ws).eds = d.eds := by unfold Dev.respond; dsimp only; split <;> rfl
@[simp] theorem Dev.respond_bwk (d : Dev) (q : Requester) (a : Nat) (st : Status) (n : Nat) (ws : List W32) : (d.respond q a st n ws).bwk = d.bwk := by unfold Dev.respond; dsimp only; split <;> rfl
@[simp] theorem Dev.respond_dia (d : Dev) (q : Requester) (a : Nat) (st : Status) (n : Nat) (ws : List W32) : (d.respond q a st n ws).dia = d.dia := by unfold Dev.respond; dsimp only; split <;> rfl
@[simp] theorem Dev.respond_att (d : Dev) (q : Requester) (a : Nat) (st : Status) (n : Nat) (ws : List W32) : (d.respond q a st n ws).att = d.att := by unfold Dev.respond; dsimp only; split <;> rfl
@[simp] theorem Dev.respond_sup (d : Dev) (q : Requester) (a : Nat) (st : Status) (n : Nat) (ws : List W32) : (d.respond q a st n ws).sup = d.sup := by unfold Dev.respond; dsimp only; split <;> rfl

@[simp] theorem Dev.hslTouch_pend (d : Dev) (q : Requester) (w : Bool) : (d.hslTouch q w).pend = d.pend := by unfold Dev.hslTouch Dev.wakeBy; dsimp only; split_ifs <;> rfl
@[simp] theorem Dev.hslTouch_cross (d : Dev) (q : Requester) (w : Bool) : (d.hslTouch q w).cross = d.cross := by unfold Dev.hslTouch Dev.wakeBy; dsimp only; split_ifs <;> rfl
@[simp] theorem Dev.hslTouch_conf (d : Dev) (q : Requester) (w : Bool) : (d.hslTouch q w).conf = d.conf := by unfold Dev.hslTouch Dev.wakeBy; dsimp only; split_ifs <;> rfl
@[simp] theorem Dev.hslTouch_fab (d : Dev) (q : Requester) (w : Bool) : (d.hslTouch q w).fab = d.fab := by unfold Dev.hslTouch Dev.wakeBy; dsimp only; split_ifs <;> rfl
@[simp] theorem Dev.hslTouch_tm (d : Dev) (q : Requester) (w : Bool) : (d.hslTouch q w).tm = d.tm := by unfold Dev.hslTouch Dev.wakeBy; dsimp only; split_ifs <;> rfl
@[simp] theorem Dev.hslTouch_frm (d : Dev) (q : Requester) (w : Bool) : (d.hslTouch q w).frm = d.frm := by unfold Dev.hslTouch Dev.wakeBy; dsimp only; split_ifs <;> rfl
@[simp] theorem Dev.hslTouch_rcf (d : Dev) (q : Requester) (w : Bool) : (d.hslTouch q w).rcf = d.rcf := by unfold Dev.hslTouch Dev.wakeBy; dsimp only; split_ifs <;> rfl
@[simp] theorem Dev.hslTouch_pose (d : Dev) (q : Requester) (w : Bool) : (d.hslTouch q w).pose = d.pose := by unfold Dev.hslTouch Dev.wakeBy; dsimp only; split_ifs <;> rfl
@[simp] theorem Dev.hslTouch_imp (d : Dev) (q : Requester) (w : Bool) : (d.hslTouch q w).imp = d.imp := by unfold Dev.hslTouch Dev.wakeBy; dsimp only; split_ifs <;> rfl
@[simp] theorem Dev.hslTouch_drv (d : Dev) (q : Requester) (w : Bool) : (d.hslTouch q w).drv = d.drv := by unfold Dev.hslTouch Dev.wakeBy; dsimp only; split_ifs <;> rfl
@[simp] theorem Dev.hslTouch_lpe (d : Dev) (q : Requester) (w : Bool) : (d.hslTouch q w).lpe = d.lpe := by unfold Dev.hslTouch Dev.wakeBy; dsimp only; split_ifs <;> rfl
@[simp] theorem Dev.hslTouch_net (d : Dev) (q : Requester) (w : Bool) : (d.hslTouch q w).net = d.net := by unfold Dev.hslTouch Dev.wakeBy; dsimp only; split_ifs <;> rfl
@[simp] theorem Dev.hslTouch_gps (d : Dev) (q : Requester) (w : Bool) : (d.hslTouch q w).gps = d.gps := by unfold Dev.hslTouch Dev.wakeBy; dsimp only; split_ifs <;> rfl
@[simp] theorem Dev.hslTouch_map (d : Dev) (q : Requester) (w : Bool) : (d.hslTouch q w).map = d.map := by unfold Dev.hslTouch Dev.wakeBy; dsimp only; split_ifs <;> rfl
@[simp] theorem Dev.hslTouch_sde (d : Dev) (q : Requester) (w : Bool) : (d.hslTouch q w).sde = d.sde := by unfold Dev.hslTouch Dev.wakeBy; dsimp only; split_ifs <;> rfl
@[simp] theorem Dev.hslTouch_eds (d : Dev) (q : Requester) (w : Bool) : (d.hslTouch q w).eds = d.eds := by unfold Dev.hslTouch Dev.wakeBy; dsimp only; split_ifs <;> rfl
@[simp] theorem Dev.hslTouch_bwk (d : Dev) (q : Requester) (w : Bool) : (d.hslTouch q w).bwk = d.bwk := by unfold Dev.hslTouch Dev.wakeBy; dsimp only; split_ifs <;> rfl
@[simp] theorem Dev.hslTouch_dia (d : Dev) (q : Requester) (w : Bool) : (d.hslTouch q w).dia = d.dia := by unfold Dev.hslTouch Dev.wakeBy; dsimp only; split_ifs <;> rfl
@[simp] theorem Dev.hslTouch_att (d : Dev) (q : Requester) (w : Bool) : (d.hslTouch q w).att = d.att := by unfold Dev.hslTouch Dev.wakeBy; dsimp only; split_ifs <;> rfl
@[simp] theorem Dev.hslTouch_sup (d : Dev) (q : Requester) (w : Bool) : (d.hslTouch q w).sup = d.sup := by unfold Dev.hslTouch Dev.wakeBy; dsimp only; split_ifs <;> rfl

end Sys2Proof.Machine
end

