-- ==== Sys2Proof/Laws/Ops.lean ====
section
/-! SUPPORT. What the bit helpers, the sparse map and the register file do, said once. -/

namespace Sys2Proof.Machine

/-! The sparse map -/

theorem sget_serase_same {α : Type} (d : Nat → α) (m : SMap α) (k : Nat) : sget d (serase m k) k = d k := by
  unfold serase
  induction m with
  | nil => rfl
  | cons p r ih =>
    by_cases h : p.1 = k
    · simpa [h] using ih
    · have h' : k ≠ p.1 := fun e => h e.symm
      simpa [h, sget, h'] using ih

theorem sget_serase_ne {α : Type} (d : Nat → α) (m : SMap α) {j k : Nat} (h : j ≠ k) : sget d (serase m k) j = sget d m j := by
  unfold serase
  induction m with
  | nil => rfl
  | cons p r ih =>
    by_cases e : p.1 = k
    · simpa [e, sget, h] using ih
    · have e' : ¬ (decide (p.1 ≠ k) = false) := by simpa using e
      simp only [List.filter_cons, sget]
      rw [if_pos (by simpa using e)]
      simp only [sget, ih]

theorem sget_sinsert_same {α : Type} (d : Nat → α) (m : SMap α) (k : Nat) (v : α) : sget d (sinsert m k v) k = v := by
  induction m with
  | nil => simp [sinsert, sget]
  | cons p r ih =>
    unfold sinsert
    split_ifs with h1 h2
    · simp [sget]
    · simp [sget]
    · simp [sget, h2, ih]

theorem sget_sinsert_ne {α : Type} (d : Nat → α) (m : SMap α) {j k : Nat} (v : α) (h : j ≠ k) :
    sget d (sinsert m k v) j = sget d m j := by
  induction m with
  | nil => simp [sinsert, sget, h]
  | cons p r ih =>
    unfold sinsert
    split_ifs with h1 h2
    · simp [sget, h]
    · subst h2; simp [sget, h]
    · simp only [sget, ih]

/-- A sparse map holds at a key what was last put there. -/
theorem sget_sset_same {α : Type} [DecidableEq α] (d : Nat → α) (m : SMap α) (k : Nat) (v : α) : sget d (sset d m k v) k = v := by
  unfold sset; split_ifs with h
  · rw [sget_serase_same, h]
  · rw [sget_sinsert_same]

/-- Putting a value at one key leaves every other key as it was. -/
theorem sget_sset_ne {α : Type} [DecidableEq α] (d : Nat → α) (m : SMap α) {j k : Nat} (v : α) (h : j ≠ k) :
    sget d (sset d m k v) j = sget d m j := by
  unfold sset; split_ifs
  · rw [sget_serase_ne d m h]
  · rw [sget_sinsert_ne d m v h]

theorem mem_sinsert_key {α : Type} (m : SMap α) (k : Nat) (v : α) : ∀ p ∈ sinsert m k v, p.1 = k ∨ p ∈ m := by
  induction m with
  | nil => simp [sinsert]
  | cons q r ih =>
    intro p hp
    unfold sinsert at hp
    split_ifs at hp with h1 h2
    · simp at hp; rcases hp with rfl | rfl | hp <;> simp_all
    · simp at hp; rcases hp with rfl | hp <;> simp_all
    · simp at hp
      rcases hp with rfl | hp
      · simp
      · rcases ih p hp with h | h <;> simp_all

theorem mem_sinsert {α : Type} (m : SMap α) (k : Nat) (v : α) : ∀ p ∈ sinsert m k v, p = (k, v) ∨ p ∈ m := by
  induction m with
  | nil => simp [sinsert]
  | cons q r ih =>
    intro p hp
    unfold sinsert at hp
    split_ifs at hp with h1 h2
    · simp at hp; rcases hp with rfl | rfl | hp <;> simp_all
    · simp at hp; rcases hp with rfl | hp <;> simp_all
    · simp at hp
      rcases hp with rfl | hp
      · simp
      · rcases ih p hp with h | h <;> simp_all

theorem mem_sset {α : Type} [DecidableEq α] (d : Nat → α) (m : SMap α) (k : Nat) (v : α) :
    ∀ p ∈ sset d m k v, p = (k, v) ∨ p ∈ m := by
  intro p hp
  unfold sset at hp
  split_ifs at hp
  · exact .inr (List.mem_of_mem_filter hp)
  · exact mem_sinsert m k v p hp

theorem sinsert_sorted {α : Type} (m : SMap α) (k : Nat) (v : α) (h : m.Pairwise (fun p q => p.1 < q.1)) :
    (sinsert m k v).Pairwise (fun p q => p.1 < q.1) := by
  induction m with
  | nil => simp [sinsert]
  | cons q r ih =>
    rw [List.pairwise_cons] at h
    unfold sinsert
    split_ifs with h1 h2
    · refine List.pairwise_cons.mpr ⟨?_, List.pairwise_cons.mpr h⟩
      intro p hp
      rcases List.mem_cons.mp hp with rfl | hp
      · exact h1
      · exact lt_trans h1 (h.1 p hp)
    · subst h2
      exact List.pairwise_cons.mpr h
    · refine List.pairwise_cons.mpr ⟨?_, ih h.2⟩
      intro p hp
      rcases mem_sinsert_key r k v p hp with e | hp
      · rw [e]; omega
      · exact h.1 p hp

/-- Putting a value keeps the canonical form. -/
theorem swf_sset {α : Type} [DecidableEq α] (d : Nat → α) (m : SMap α) (k : Nat) (v : α) (h : swf d m = true) :
    swf d (sset d m k v) = true := by
  simp only [swf, Bool.and_eq_true, decide_eq_true_eq, List.all_eq_true] at h ⊢
  unfold sset
  split_ifs with e
  · exact ⟨h.1.filter _, fun p hp => h.2 p (List.mem_of_mem_filter hp)⟩
  · refine ⟨sinsert_sorted m k v h.1, fun p hp => ?_⟩
    rcases mem_sinsert m k v p hp with rfl | hp
    · exact e
    · exact h.2 p hp

/-! The register file -/

@[simp] theorem Dev.rd_wr_same (d : Dev) (a : Nat) (v : W32) : (d.wr a v).rd a = v := sget_sset_same _ _ _ _
theorem Dev.rd_wr_ne (d : Dev) {a b : Nat} (v : W32) (h : b ≠ a) : (d.wr a v).rd b = d.rd b := sget_sset_ne _ _ _ h
theorem Dev.rd_wr (d : Dev) (a b : Nat) (v : W32) : (d.wr a v).rd b = if b = a then v else d.rd b := by
  split_ifs with h
  · subst h; exact Dev.rd_wr_same d b v
  · exact Dev.rd_wr_ne d v h

/-! Bits -/

theorem bitOf_eq (w : W32) (b : Nat) : bitOf w b = w.getLsbD b := rfl

/-- A bit that was put reads back; every other bit of the word is as it was. -/
theorem bitOf_putBit (w : W32) (b c : Nat) (v : Bool) (hb : b < 32) (hc : c < 32) :
    bitOf (putBit w b v) c = if c = b then v else bitOf w c := by
  rw [bitOf_eq, bitOf_eq]
  unfold putBit putField
  have hm : (2 ^ (b + 1 - b) - 1) <<< b = 2 ^ b := by
    have : b + 1 - b = 1 := by omega
    rw [this]; simp [Nat.shiftLeft_eq]
  have hn : ((if v then 1 else 0) % 2 ^ (b + 1 - b)) <<< b = if v then 2 ^ b else 0 := by
    have : b + 1 - b = 1 := by omega
    rw [this]; cases v <;> simp [Nat.shiftLeft_eq]
  rw [hm, hn]
  simp only [BitVec.getLsbD_or, BitVec.getLsbD_and, BitVec.getLsbD_not, BitVec.getLsbD_ofNat, hc, decide_true, Bool.true_and]
  by_cases e : c = b
  · subst e; cases v <;> simp [Nat.testBit_two_pow_self]
  · have e' : b ≠ c := fun x => e x.symm
    cases v <;> simp [e, Nat.testBit_two_pow_of_ne e']

theorem Dev.bit_setBit (d : Dev) (a b c : Nat) (v : Bool) (hb : b < 32) (hc : c < 32) :
    (d.setBit a b v).bit a c = if c = b then v else d.bit a c := by
  simp only [Dev.bit, Dev.setBit, Dev.rd_wr_same]; exact bitOf_putBit _ _ _ _ hb hc
theorem Dev.rd_setBit_ne (d : Dev) {a b : Nat} (i : Nat) (v : Bool) (h : b ≠ a) : (d.setBit a i v).rd b = d.rd b := Dev.rd_wr_ne d _ h
theorem Dev.bit_setBit_ne (d : Dev) {a b : Nat} (i j : Nat) (v : Bool) (h : b ≠ a) : (d.setBit a i v).bit b j = d.bit b j := by
  simp only [Dev.bit, Dev.rd_setBit_ne d i v h]

/-! Flags -/

/-- Raising an interrupt touches the page's IRQ_RAW only. -/
theorem Dev.rd_irq_ne (d : Dev) (p i : Nat) {b : Nat} (h : b ≠ Reg.IRQ_RAW p) : (d.irq p i).rd b = d.rd b := Dev.rd_wr_ne d _ h
theorem Dev.bit_irq (d : Dev) (p i j : Nat) (hi : i < 32) (hj : j < 32) :
    (d.irq p i).bit (Reg.IRQ_RAW p) j = (decide (j = i) || d.bit (Reg.IRQ_RAW p) j) := by
  unfold Dev.irq
  rw [Dev.bit_setBit d _ i j true hi hj]
  by_cases h : j = i <;> simp [h]

/-- A fault bit touches FAULT and IRQ_RAW of its page only. -/
theorem Dev.rd_fault_ne (d : Dev) (p i : Nat) {b : Nat} (h : b ≠ Reg.FAULT p) (h' : b ≠ Reg.IRQ_RAW p) :
    (d.fault p i).rd b = d.rd b := by
  unfold Dev.fault; dsimp only
  split
  · rw [Dev.rd_irq_ne _ _ _ h', Dev.rd_setBit_ne _ _ _ h]
  · rw [Dev.rd_setBit_ne _ _ _ h]

end Sys2Proof.Machine
end

