-- ==== Sys2Proof/Laws/Access.lean ====
section
/-! SUPPORT. What an access over the fabric does, said once: the touch of the link, an accepted write, a refused one, a read of a port. -/

namespace Sys2Proof.Machine

/-- Where the fabric answers, the touch of the link changes the wake sources at most (R452). -/
theorem hslTouch_up (d : Dev) (q : Requester) (w : Bool) (h : d.fabricUp = true) :
    ∃ k, d.hslTouch q w = { d with pow := { d.pow with wake := k } } := by
  have hs : d.powerState ≤ 1 := by
    unfold Dev.fabricUp at h; simp only [Bool.and_eq_true, decide_eq_true_eq] at h; exact h.1
  have hw : ∀ (x : Dev), (∃ k, x.wakeBy 1 = { x with pow := { x.pow with wake := k } }) := by
    intro x; unfold Dev.wakeBy; split
    · exact ⟨_, rfl⟩
    · exact ⟨x.pow.wake, rfl⟩
  unfold Dev.hslTouch
  split
  · exact ⟨d.pow.wake, rfl⟩
  · obtain ⟨k, hk⟩ := hw d
    dsimp only
    rw [hk]
    split
    · rw [if_neg]
      · exact ⟨k ||| 2, rfl⟩
      · show ¬ (d.powerState = 2 ∨ d.powerState = 3); omega
    · rw [if_neg]
      · exact ⟨k, rfl⟩
      · show ¬ (d.powerState = 2 ∨ d.powerState = 3); omega

/-- The touch of the link does not decide whether the fabric answers. -/
theorem hslTouch_fabricUp (d : Dev) (q : Requester) (w : Bool) : (d.hslTouch q w).fabricUp = d.fabricUp := by
  have key : ∀ (x y : Dev), x.rd Reg.PWR_PWR_STATE = y.rd Reg.PWR_PWR_STATE → x.pow.held = y.pow.held → x.fabricUp = y.fabricUp := by
    intro x y h1 h2; unfold Dev.fabricUp Dev.powerState Dev.fld; rw [h1, h2]
  have hw : ∀ (x : Dev), (x.wakeBy 1).rd Reg.PWR_PWR_STATE = x.rd Reg.PWR_PWR_STATE ∧ (x.wakeBy 1).pow.held = x.pow.held := by
    intro x; unfold Dev.wakeBy; split <;> exact ⟨rfl, rfl⟩
  unfold Dev.hslTouch
  split
  · rfl
  · apply key
    · dsimp only
      split
      · split
        · refine (Dev.rd_wr_ne _ _ (by decide)).trans ?_; exact (hw d).1
        · exact (hw d).1
      · split
        · refine (Dev.rd_wr_ne _ _ (by decide)).trans ?_; exact (hw d).1
        · exact (hw d).1
    · dsimp only
      split <;> split <;> exact (hw d).2

/-- A write that passes its checks finds the fabric answering. -/
theorem Accepts.up {q : Requester} {a : Nat} {v : W32} {s : State} (h : Accepts q a v s) : s.dev.fabricUp = true := by
  rw [← hslTouch_fabricUp s.dev q true]
  cases e : (s.dev.hslTouch q true).fabricUp with
  | true => rfl
  | false =>
    have : (atFabric q true s).dev.writeStatus q a v = .timeout := by
      unfold Dev.writeStatus; rw [if_pos]; simpa [atFabric] using e
    rw [Accepts, this] at h; cases h

/-- What an accepted write starts from: the state with at most a wake source added. -/
theorem Accepts.start {q : Requester} {a : Nat} {v : W32} {s : State} (h : Accepts q a v s) :
    ∃ k, atFabric q true s = { s with dev := { s.dev with pow := { s.dev.pow with wake := k } } } := by
  obtain ⟨k, hk⟩ := hslTouch_up s.dev q true h.up
  exact ⟨k, by simp only [atFabric, onDev, hk]⟩

/-- A host command: the checks and the action, then the answer. -/
theorem hostCmd_eq (q : Requester) (a : Nat) (v : W32) (act : Act) (s : State) :
    hostCmd q a v act s = onDev (fun d => d.respond q a (checkedWrite q a v act (atFabric q true s)).1
      (if (checkedWrite q a v act (atFabric q true s)).1 = .ok then 1 else 0) []) (checkedWrite q a v act (atFabric q true s)).2 := rfl

/-- An accepted write acts and is answered. -/
theorem hostCmd_accepted {q : Requester} {a : Nat} {v : W32} {s : State} (h : Accepts q a v s) (act : Act) :
    hostCmd q a v act s =
      onDev (·.respond q a (act (atFabric q true s)).1 (if (act (atFabric q true s)).1 = .ok then 1 else 0) []) (act (atFabric q true s)).2 := by
  have e : checkedWrite q a v act (atFabric q true s) = act (atFabric q true s) := by
    unfold checkedWrite; rw [show (atFabric q true s).dev.writeStatus q a v = Status.ok from h]
  rw [hostCmd_eq, e]

/-- An accepted write whose action completes. -/
theorem hostCmd_ok {q : Requester} {a : Nat} {v : W32} {s t : State} {act : Act} (h : Accepts q a v s)
    (ha : act (atFabric q true s) = (.ok, t)) : hostCmd q a v act s = answeredOk q a t := by
  rw [hostCmd_accepted h, ha]; rfl

/-- An accepted write whose action changes the part alone. -/
theorem hostCmd_actDev {q : Requester} {a : Nat} {v : W32} {s : State} (f : Dev → Dev) (h : Accepts q a v s) :
    hostCmd q a v (actDev f) s = acceptedWrite q a f s := by
  rw [hostCmd_ok h (t := onDev f (atFabric q true s)) rfl]; rfl

/-- An accepted write whose own condition holds. -/
theorem hostCmd_actIf {q : Requester} {a b : Nat} {v : W32} {s : State} {ok : Dev → Bool} (f : Dev → Dev) (h : Accepts q a v s)
    (hok : ok (atFabric q true s).dev = true) :
    hostCmd q a v (actIf b ok f) s = acceptedWrite q a f s := by
  rw [hostCmd_ok h (t := onDev f (atFabric q true s)) (by unfold actIf; rw [if_pos hok])]; rfl

/-- An access behind a strobe is the access in the state in which it arrives (R64, R68). -/
theorem farCmd_arrived (q : Requester) (a : Nat) (v : W32) (act : Act) (s : State) : farCmd q a v act s = hostCmd q a v act (arrived a s) := rfl
theorem farPort_arrived (q : Requester) (a n : Nat) (port : PortAct) (s : State) : farPort q a n port s = hostPort q a n port (arrived a s) := rfl

/-- With no commit on its way an access arrives in the state as it stands. -/
theorem arrived_of_cross_nil {a : Nat} {s : State} (h : s.dev.cross = []) : arrived a s = s := by
  have hc : ∀ (d : Dev) (dom : Domain), d.cross = [] → d.crossDomain dom = d := fun d dom h => by unfold Dev.crossDomain; rw [h]; rfl
  unfold arrived onDev Dev.strobed
  dsimp only
  split
  · rfl
  · rw [hc _ _ h]; split
    · rw [hc _ _ h]
    · rfl

/-- A write that the fabric refuses changes what `Dev.refuse` and the answer change, and nothing else. -/
theorem hostCmd_refused {q : Requester} {a : Nat} {v : W32} {s : State} {st : Status} (act : Act)
    (h : (atFabric q true s).dev.writeStatus q a v = st) (hne : st ≠ .ok) :
    hostCmd q a v act s = onDev (fun d => (d.refuse a st).respond q a st 0 []) (atFabric q true s) := by
  have e : checkedWrite q a v act (atFabric q true s) = (st, onDev (·.refuse a st) (atFabric q true s)) := by
    unfold checkedWrite; rw [h]; cases st <;> first | rfl | exact absurd rfl hne
  rw [hostCmd_eq, e, if_neg hne]; rfl

/-- A read of a port gives up to `n` words of what the port holds. -/
theorem hostPort_readable {q : Requester} {a n : Nat} {s : State} (port : PortAct) (h : Readable q a s) :
    hostPort q a n port s =
      onDev (fun d => (d.shortRead a n (port n (atFabric q false s)).1.length).respond q a .ok (port n (atFabric q false s)).1.length
        (port n (atFabric q false s)).1) (port n (atFabric q false s)).2 := by
  unfold hostPort
  dsimp only
  rw [show (onDev (·.hslTouch q false) s).dev.readStatus q a = Status.ok from h]
  rfl

/-- An offset of the page header is written as the header says. -/
theorem actWrite_header (q : Requester) (p o : Nat) (v : W32) (hp : p < 256) (ho : o < 0x44) :
    actWrite q (o + 0x1000 * p) v = actHeader q p o v := by
  have h1 : inStore (o + 0x1000 * p) = false := by
    unfold inStore; simp only [Bool.and_eq_false_iff, decide_eq_false_iff_not]; left; omega
  have h2 : (o + 0x1000 * p) < 0x00100000 ∧ (o + 0x1000 * p) % 0x1000 < 0x044 := by omega
  have h3 : (o + 0x1000 * p) / 0x1000 = p := by omega
  have h4 : (o + 0x1000 * p) % 0x1000 = o := by omega
  unfold actWrite
  rw [h1, if_neg (by simp), if_pos h2, h3, h4]

end Sys2Proof.Machine
end

