-- ==== Sys2Proof/Laws/PerInstr.lean ====
section
/-! SUPPORT. Per-command lemmas: which commands can lack a sample, and how. -/

namespace Sys2Proof.Laws.IllFormed

/-- A command lacks a sample only as a bank trip that has not eight (R318) or a scan that has not 48 (R480). -/
def Statement (i : Instr) : Prop :=
  i.wellFormed = false →
    (∃ b mA xs cl, i = .bankTrip b mA xs cl ∧ xs.length ≠ 8) ∨ (∃ xs, i = .ainScan xs ∧ xs.length ≠ 48)

theorem frameTurn (env : TurnEnv) : Statement (.frameTurn env) := fun h => nomatch (show true = false from h)
theorem localTurn (d : Domain) : Statement (.localTurn d) := fun h => nomatch (show true = false from h)
theorem gatherTimeout : Statement (.gatherTimeout) := fun h => nomatch (show true = false from h)
theorem globalGo (req : Requester) : Statement (.globalGo req) := fun h => nomatch (show true = false from h)
theorem sdeStage (cycles : Nat) : Statement (.sdeStage cycles) := fun h => nomatch (show true = false from h)
theorem edsStage (cycles : Nat) : Statement (.edsStage cycles) := fun h => nomatch (show true = false from h)
theorem breakwaterAdmission (cycles : Nat) : Statement (.breakwaterAdmission cycles) := fun h => nomatch (show true = false from h)
theorem edgeCommit (cycles : Nat) (badReadback : List (Fin 512)) : Statement (.edgeCommit cycles badReadback) := fun h => nomatch (show true = false from h)
theorem frameOverrun : Statement (.frameOverrun) := fun h => nomatch (show true = false from h)
theorem safeClose : Statement (.safeClose) := fun h => nomatch (show true = false from h)
theorem clockLoss (d : Domain) : Statement (.clockLoss d) := fun h => nomatch (show true = false from h)
theorem clockRecovery (d : Domain) : Statement (.clockRecovery d) := fun h => nomatch (show true = false from h)
theorem registerWrite (req : Requester) (addr : Nat) (data : W32) : Statement (.registerWrite req addr data) := fun h => nomatch (show true = false from h)
theorem turnArm (req : Requester) (page : Fin 256) : Statement (.turnArm req page) := fun h => nomatch (show true = false from h)
theorem turnDisarm (req : Requester) (page : Fin 256) : Statement (.turnDisarm req page) := fun h => nomatch (show true = false from h)
theorem pageLock (req : Requester) (page : Fin 256) : Statement (.pageLock req page) := fun h => nomatch (show true = false from h)
theorem pageUnlock (req : Requester) (page : Fin 256) : Statement (.pageUnlock req page) := fun h => nomatch (show true = false from h)
theorem irqSet (req : Requester) (page : Fin 256) (mask : W32) : Statement (.irqSet req page mask) := fun h => nomatch (show true = false from h)
theorem irqAcknowledge (req : Requester) (page : Fin 256) (mask : W32) : Statement (.irqAcknowledge req page mask) := fun h => nomatch (show true = false from h)
theorem readClear (req : Requester) (addr : Nat) : Statement (.readClear req addr) := fun h => nomatch (show true = false from h)
theorem wideLowRead (req : Requester) (addr : Nat) : Statement (.wideLowRead req addr) := fun h => nomatch (show true = false from h)
theorem wideHighWrite (req : Requester) (addr : Nat) (data : W32) : Statement (.wideHighWrite req addr data) := fun h => nomatch (show true = false from h)
theorem wideLowWrite (req : Requester) (addr : Nat) (data : W32) : Statement (.wideLowWrite req addr data) := fun h => nomatch (show true = false from h)
theorem ts80NsRead (req : Requester) (addr : Nat) : Statement (.ts80NsRead req addr) := fun h => nomatch (show true = false from h)
theorem transactionTimeout (req : Requester) (addr : Nat) : Statement (.transactionTimeout req addr) := fun h => nomatch (show true = false from h)
theorem hslRead (cmd addr : W32) (chk : HslCheck) : Statement (.hslRead cmd addr chk) := fun h => nomatch (show true = false from h)
theorem hslWrite (cmd addr : W32) (data : List W32) (chk : HslCheck) : Statement (.hslWrite cmd addr data chk) := fun h => nomatch (show true = false from h)
theorem hslReadFixed (cmd addr : W32) (chk : HslCheck) : Statement (.hslReadFixed cmd addr chk) := fun h => nomatch (show true = false from h)
theorem hslWriteFixed (cmd addr : W32) (data : List W32) (chk : HslCheck) : Statement (.hslWriteFixed cmd addr data chk) := fun h => nomatch (show true = false from h)
theorem hslAbort : Statement (.hslAbort) := fun h => nomatch (show true = false from h)
theorem hslStall : Statement (.hslStall) := fun h => nomatch (show true = false from h)
theorem ivyHello (frame : List Byte) : Statement (.ivyHello frame) := fun h => nomatch (show true = false from h)
theorem ivyConfirm (frame : List Byte) : Statement (.ivyConfirm frame) := fun h => nomatch (show true = false from h)
theorem ivyRequest (frame : List Byte) : Statement (.ivyRequest frame) := fun h => nomatch (show true = false from h)
theorem ivyClose (frame : List Byte) : Statement (.ivyClose frame) := fun h => nomatch (show true = false from h)
theorem ivyIdleTimeout (session : Fin 2) : Statement (.ivyIdleTimeout session) := fun h => nomatch (show true = false from h)
theorem pairStore (req : Requester) : Statement (.pairStore req) := fun h => nomatch (show true = false from h)
theorem pairErase (req : Requester) : Statement (.pairErase req) := fun h => nomatch (show true = false from h)
theorem tbsRateSteer : Statement (.tbsRateSteer) := fun h => nomatch (show true = false from h)
theorem incrWrite (req : Requester) (data : W64) : Statement (.incrWrite req data) := fun h => nomatch (show true = false from h)
theorem adjWrite (req : Requester) (data : W32) : Statement (.adjWrite req data) := fun h => nomatch (show true = false from h)
theorem tbnStepAdd (req : Requester) : Statement (.tbnStepAdd req) := fun h => nomatch (show true = false from h)
theorem tbnLoad (req : Requester) : Statement (.tbnLoad req) := fun h => nomatch (show true = false from h)
theorem tbnTimeout : Statement (.tbnTimeout) := fun h => nomatch (show true = false from h)
theorem capNow (req : Requester) (data : W32) : Statement (.capNow req data) := fun h => nomatch (show true = false from h)
theorem tbgLock (fix : TimeFix) : Statement (.tbgLock fix) := fun h => nomatch (show true = false from h)
theorem tbgHoldover : Statement (.tbgHoldover) := fun h => nomatch (show true = false from h)
theorem holdoverExpiry : Statement (.holdoverExpiry) := fun h => nomatch (show true = false from h)
theorem tbgReturn (fix : TimeFix) : Statement (.tbgReturn fix) := fun h => nomatch (show true = false from h)
theorem tbgStep : Statement (.tbgStep) := fun h => nomatch (show true = false from h)
theorem tbgSlewDone : Statement (.tbgSlewDone) := fun h => nomatch (show true = false from h)
theorem ppsPulse : Statement (.ppsPulse) := fun h => nomatch (show true = false from h)
theorem rtcLoad : Statement (.rtcLoad) := fun h => nomatch (show true = false from h)
theorem stageWrite (req : Requester) (data : List W32) : Statement (.stageWrite req data) := fun h => nomatch (show true = false from h)
theorem idiEmpty (req : Requester) : Statement (.idiEmpty req) := fun h => nomatch (show true = false from h)
theorem idiVerify (req : Requester) : Statement (.idiVerify req) := fun h => nomatch (show true = false from h)
theorem verificationComplete : Statement (.verificationComplete) := fun h => nomatch (show true = false from h)
theorem idiStore (req : Requester) : Statement (.idiStore req) := fun h => nomatch (show true = false from h)
theorem idiErase (req : Requester) : Statement (.idiErase req) := fun h => nomatch (show true = false from h)
theorem norOpComplete : Statement (.norOpComplete) := fun h => nomatch (show true = false from h)
theorem powerOnReset : Statement (.powerOnReset) := fun h => nomatch (show true = false from h)
theorem poseSample (req : Requester) (tbase : Bool) : Statement (.poseSample req tbase) := fun h => nomatch (show true = false from h)
theorem antShort (port : Fin 4) (milliA : Nat) : Statement (.antShort port milliA) := fun h => nomatch (show true = false from h)
theorem antBiasRetry (port : Fin 4) (milliA : Nat) : Statement (.antBiasRetry port milliA) := fun h => nomatch (show true = false from h)
theorem antOpen (port : Fin 4) (milliA : Nat) : Statement (.antOpen port milliA) := fun h => nomatch (show true = false from h)
theorem agcUpdate (port : Fin 4) (ratio : Nat) : Statement (.agcUpdate port ratio) := fun h => nomatch (show true = false from h)
theorem jobPush (req : Requester) (data : W32) : Statement (.jobPush req data) := fun h => nomatch (show true = false from h)
theorem acqFlush (req : Requester) (data : W32) : Statement (.acqFlush req data) := fun h => nomatch (show true = false from h)
theorem acqJobEnd (res : AcqOutcome) : Statement (.acqJobEnd res) := fun h => nomatch (show true = false from h)
theorem acqResultRead (req : Requester) (words : Nat) : Statement (.acqResultRead req words) := fun h => nomatch (show true = false from h)
theorem tcStart (req : Requester) (ch : Fin 64) : Statement (.tcStart req ch) := fun h => nomatch (show true = false from h)
theorem tcStop (req : Requester) (ch : Fin 64) : Statement (.tcStop req ch) := fun h => nomatch (show true = false from h)
theorem trackingDump (ch : Fin 64) (dump : Dump) : Statement (.trackingDump ch dump) := fun h => nomatch (show true = false from h)
theorem tcPullInDone (ch : Fin 64) : Statement (.tcPullInDone ch) := fun h => nomatch (show true = false from h)
theorem tcBitSync (ch : Fin 64) (edge : Nat) : Statement (.tcBitSync ch edge) := fun h => nomatch (show true = false from h)
theorem tcFrameSync (ch : Fin 64) (inverted : Bool) (start : Nat) : Statement (.tcFrameSync ch inverted start) := fun h => nomatch (show true = false from h)
theorem tcPreambleMiss (ch : Fin 64) : Statement (.tcPreambleMiss ch) := fun h => nomatch (show true = false from h)
theorem tcLoss (ch : Fin 64) : Statement (.tcLoss ch) := fun h => nomatch (show true = false from h)
theorem pullinTimeout (ch : Fin 64) : Statement (.pullinTimeout ch) := fun h => nomatch (show true = false from h)
theorem measEpoch (lagNs : Nat) : Statement (.measEpoch lagNs) := fun h => nomatch (show true = false from h)
theorem measRead (req : Requester) (words : Nat) : Statement (.measRead req words) := fun h => nomatch (show true = false from h)
theorem navWord (ch : Fin 64) (word : Nat) (bits : BitVec 30) (missing : Bool) : Statement (.navWord ch word bits missing) := fun h => nomatch (show true = false from h)
theorem navwRead (req : Requester) (words : Nat) : Statement (.navwRead req words) := fun h => nomatch (show true = false from h)
theorem baselineSnapshot (snap : BaselineSet) : Statement (.baselineSnapshot snap) := fun h => nomatch (show true = false from h)
theorem navSolution (sol : NavSol) : Statement (.navSolution sol) := fun h => nomatch (show true = false from h)
theorem integrityCheck (lagNs : Nat) : Statement (.integrityCheck lagNs) := fun h => nomatch (show true = false from h)
theorem clkGateRelease : Statement (.clkGateRelease) := fun h => nomatch (show true = false from h)
theorem acceptClock (req : Requester) : Statement (.acceptClock req) := fun h => nomatch (show true = false from h)
theorem clearAdvisory (req : Requester) : Statement (.clearAdvisory req) := fun h => nomatch (show true = false from h)
theorem neapBurst (burst : BurstResult) : Statement (.neapBurst burst) := fun h => nomatch (show true = false from h)
theorem burstTableExpiry : Statement (.burstTableExpiry) := fun h => nomatch (show true = false from h)
theorem jobOpen (req : Requester) : Statement (.jobOpen req) := fun h => nomatch (show true = false from h)
theorem jobLoad (req : Requester) : Statement (.jobLoad req) := fun h => nomatch (show true = false from h)
theorem jobClose (req : Requester) : Statement (.jobClose req) := fun h => nomatch (show true = false from h)
theorem jobDiscard (req : Requester) : Statement (.jobDiscard req) := fun h => nomatch (show true = false from h)
theorem mapPaint : Statement (.mapPaint) := fun h => nomatch (show true = false from h)
theorem pageInComplete (tile : Nat) (readable : Bool) : Statement (.pageInComplete tile readable) := fun h => nomatch (show true = false from h)
theorem tileWriteBack (tile : Nat) (readsBack : Bool) : Statement (.tileWriteBack tile readsBack) := fun h => nomatch (show true = false from h)
theorem mapScrub (errs : List ScrubError) : Statement (.mapScrub errs) := fun h => nomatch (show true = false from h)
theorem exportFull (req : Requester) : Statement (.exportFull req) := fun h => nomatch (show true = false from h)
theorem exportSince (req : Requester) : Statement (.exportSince req) := fun h => nomatch (show true = false from h)
theorem exportAbandon (req : Requester) : Statement (.exportAbandon req) := fun h => nomatch (show true = false from h)
theorem exportPageRequest (req : Requester) (page : Nat) : Statement (.exportPageRequest req page) := fun h => nomatch (show true = false from h)
theorem exportPageReady : Statement (.exportPageReady) := fun h => nomatch (show true = false from h)
theorem tileImport (req : Requester) : Statement (.tileImport req) := fun h => nomatch (show true = false from h)
theorem prescriptionSubmit (req : Requester) : Statement (.prescriptionSubmit req) := fun h => nomatch (show true = false from h)
theorem timelineSelect (req : Requester) (ch : Fin 512) : Statement (.timelineSelect req ch) := fun h => nomatch (show true = false from h)
theorem timelineRead (req : Requester) (words : Nat) : Statement (.timelineRead req words) := fun h => nomatch (show true = false from h)
theorem actionOn (req : Requester) : Statement (.actionOn req) := fun h => nomatch (show true = false from h)
theorem actionOff (req : Requester) : Statement (.actionOff req) := fun h => nomatch (show true = false from h)
theorem actionRate (req : Requester) : Statement (.actionRate req) := fun h => nomatch (show true = false from h)
theorem actionRelease (req : Requester) : Statement (.actionRelease req) := fun h => nomatch (show true = false from h)
theorem actionCancel (req : Requester) (tag : Nat) : Statement (.actionCancel req tag) := fun h => nomatch (show true = false from h)
theorem positionExpiry : Statement (.positionExpiry) := fun h => nomatch (show true = false from h)
theorem latencySignature (ch : Fin 512) (closing : Bool) (sigNs : Option Nat) : Statement (.latencySignature ch closing sigNs) := fun h => nomatch (show true = false from h)
theorem diagStreamRead (req : Requester) (words : Nat) : Statement (.diagStreamRead req words) := fun h => nomatch (show true = false from h)
theorem edgeExecute (ch : Fin 512) : Statement (.edgeExecute ch) := fun h => nomatch (show true = false from h)
theorem boostEnd (ch : Fin 512) (ttpNs : Option Nat) (energy : Nat) : Statement (.boostEnd ch ttpNs energy) := fun h => nomatch (show true = false from h)
theorem ttpHigh (ch : Fin 512) : Statement (.ttpHigh ch) := fun h => nomatch (show true = false from h)
theorem peakEnd (ch : Fin 512) (ttpNs : Option Nat) : Statement (.peakEnd ch ttpNs) := fun h => nomatch (show true = false from h)
theorem decayEnd (ch : Fin 512) (afterNs : Nat) : Statement (.decayEnd ch afterNs) := fun h => nomatch (show true = false from h)
theorem waitStart (ch : Fin 512) : Statement (.waitStart ch) := fun h => nomatch (show true = false from h)
theorem waitSlackExpiry (ch : Fin 512) : Statement (.waitSlackExpiry ch) := fun h => nomatch (show true = false from h)
theorem maxOnExpiry (ch : Fin 512) : Statement (.maxOnExpiry ch) := fun h => nomatch (show true = false from h)
theorem loadShort (ch : Fin 512) (milliA : Nat) : Statement (.loadShort ch milliA) := fun h => nomatch (show true = false from h)
theorem freewheelMissing (ch : Fin 512) : Statement (.freewheelMissing ch) := fun h => nomatch (show true = false from h)
theorem openLoadOn (ch : Fin 512) (milliA : Nat) : Statement (.openLoadOn ch milliA) := fun h => nomatch (show true = false from h)
theorem openLoadOff (ch : Fin 512) : Statement (.openLoadOff ch) := fun h => nomatch (show true = false from h)
theorem stuckOn (ch : Fin 512) (milliA : Nat) : Statement (.stuckOn ch milliA) := fun h => nomatch (show true = false from h)
theorem senseDrift (bank : Fin 64) (bankMA sumMA : Nat) : Statement (.senseDrift bank bankMA sumMA) := fun h => nomatch (show true = false from h)
theorem tempPair (tile : Fin 8) (tempA tempB : Int) : Statement (.tempPair tile tempA tempB) := fun h => nomatch (show true = false from h)
theorem queueEccError (ch : Fin 512) : Statement (.queueEccError ch) := fun h => nomatch (show true = false from h)
theorem railReady (rail : Fin 4) (microF : Option Nat) : Statement (.railReady rail microF) := fun h => nomatch (show true = false from h)
theorem railNotReady (rail : Fin 4) (centiV : Nat) : Statement (.railNotReady rail centiV) := fun h => nomatch (show true = false from h)
theorem railFault (rail : Fin 4) (why : RailFailure) : Statement (.railFault rail why) := fun h => nomatch (show true = false from h)
theorem railClr (req : Requester) (rail : Fin 4) : Statement (.railClr req rail) := fun h => nomatch (show true = false from h)
theorem channelFaultClear (req : Requester) (bank : Fin 64) (mask : Fin 256) : Statement (.channelFaultClear req bank mask) := fun h => nomatch (show true = false from h)
theorem bankFaultClear (req : Requester) (bank : Fin 64) : Statement (.bankFaultClear req bank) := fun h => nomatch (show true = false from h)
theorem tileClear (req : Requester) (tile : Fin 8) : Statement (.tileClear req tile) := fun h => nomatch (show true = false from h)
theorem inrushWindowEnd (ch : Fin 512) : Statement (.inrushWindowEnd ch) := fun h => nomatch (show true = false from h)
theorem inrushExcess (ch : Fin 512) (milliA : Nat) : Statement (.inrushExcess ch milliA) := fun h => nomatch (show true = false from h)
theorem overload (ch : Fin 512) (milliA : Nat) : Statement (.overload ch milliA) := fun h => nomatch (show true = false from h)
theorem bankTrip (bank : Fin 64) (bankMA : Nat) (samples : List Nat) (clamped : List (Fin 8)) : Statement (.bankTrip bank bankMA samples clamped) := fun h => .inl ⟨_, _, _, _, rfl, of_decide_eq_false h⟩
theorem bankReclose (bank : Fin 64) : Statement (.bankReclose bank) := fun h => nomatch (show true = false from h)
theorem sortNodeTest (bank : Fin 64) (bankMA : Nat) : Statement (.sortNodeTest bank bankMA) := fun h => nomatch (show true = false from h)
theorem sortStep (bank : Fin 64) (bankMA chanMA : Nat) : Statement (.sortStep bank bankMA chanMA) := fun h => nomatch (show true = false from h)
theorem sortEnd (bank : Fin 64) : Statement (.sortEnd bank) := fun h => nomatch (show true = false from h)
theorem lossHoldExpiry (ch : Fin 512) : Statement (.lossHoldExpiry ch) := fun h => nomatch (show true = false from h)
theorem strobeLoss : Statement (.strobeLoss) := fun h => nomatch (show true = false from h)
theorem ledgerFlush (ok : Bool) : Statement (.ledgerFlush ok) := fun h => nomatch (show true = false from h)
theorem ledgerSnapshot (req : Requester) : Statement (.ledgerSnapshot req) := fun h => nomatch (show true = false from h)
theorem newSession (req : Requester) : Statement (.newSession req) := fun h => nomatch (show true = false from h)
theorem flushNow (req : Requester) : Statement (.flushNow req) := fun h => nomatch (show true = false from h)
theorem snapshotRead (req : Requester) (words : Nat) : Statement (.snapshotRead req words) := fun h => nomatch (show true = false from h)
theorem ledgerEccError (ch : Fin 512) : Statement (.ledgerEccError ch) := fun h => nomatch (show true = false from h)
theorem loopSample (loop : Fin 128) : Statement (.loopSample loop) := fun h => nomatch (show true = false from h)
theorem loopEvaluation (loop : Fin 128) : Statement (.loopEvaluation loop) := fun h => nomatch (show true = false from h)
theorem evalMiss (loop : Fin 128) : Statement (.evalMiss loop) := fun h => nomatch (show true = false from h)
theorem loopClear (req : Requester) (data : W32) : Statement (.loopClear req data) := fun h => nomatch (show true = false from h)
theorem soundingArm (req : Requester) (mask : Nat) : Statement (.soundingArm req mask) := fun h => nomatch (show true = false from h)
theorem soundingForce (req : Requester) (mask : Nat) : Statement (.soundingForce req mask) := fun h => nomatch (show true = false from h)
theorem soundingStop (req : Requester) (mask : Nat) : Statement (.soundingStop req mask) := fun h => nomatch (show true = false from h)
theorem soundingSelect (req : Requester) (trace : Fin 16) : Statement (.soundingSelect req trace) := fun h => nomatch (show true = false from h)
theorem soundingRead (req : Requester) (words : Nat) : Statement (.soundingRead req words) := fun h => nomatch (show true = false from h)
theorem hbKick (req : Requester) (data : W32) : Statement (.hbKick req data) := fun h => nomatch (show true = false from h)
theorem hostLost : Statement (.hostLost) := fun h => nomatch (show true = false from h)
theorem continueExpiry : Statement (.continueExpiry) := fun h => nomatch (show true = false from h)
theorem mpKick (req : Requester) (data : W32) : Statement (.mpKick req data) := fun h => nomatch (show true = false from h)
theorem mpWatchdogExpiry : Statement (.mpWatchdogExpiry) := fun h => nomatch (show true = false from h)
theorem mpRestart (req : Requester) : Statement (.mpRestart req) := fun h => nomatch (show true = false from h)
theorem mpRelease (req : Requester) : Statement (.mpRelease req) := fun h => nomatch (show true = false from h)
theorem mpRestartDone : Statement (.mpRestartDone) := fun h => nomatch (show true = false from h)
theorem hostPinReset : Statement (.hostPinReset) := fun h => nomatch (show true = false from h)
theorem softReset (req : Requester) : Statement (.softReset req) := fun h => nomatch (show true = false from h)
theorem sysWatchdog : Statement (.sysWatchdog) := fun h => nomatch (show true = false from h)
theorem powerFailWarning (milliV : Nat) : Statement (.powerFailWarning milliV) := fun h => nomatch (show true = false from h)
theorem powerFailFlushDone (inTime : Bool) : Statement (.powerFailFlushDone inTime) := fun h => nomatch (show true = false from h)
theorem powerFailRecovery : Statement (.powerFailRecovery) := fun h => nomatch (show true = false from h)
theorem outputArm (req : Requester) : Statement (.outputArm req) := fun h => nomatch (show true = false from h)
theorem outputDisarm (req : Requester) : Statement (.outputDisarm req) := fun h => nomatch (show true = false from h)
theorem recordIntake : Statement (.recordIntake) := fun h => nomatch (show true = false from h)
theorem suppressedSummary (code : Fin 1024) : Statement (.suppressedSummary code) := fun h => nomatch (show true = false from h)
theorem bufferDrain (outcome : DrainOutcome) : Statement (.bufferDrain outcome) := fun h => nomatch (show true = false from h)
theorem drainNow (req : Requester) : Statement (.drainNow req) := fun h => nomatch (show true = false from h)
theorem recNonce (req : Requester) : Statement (.recNonce req) := fun h => nomatch (show true = false from h)
theorem recAuth (req : Requester) : Statement (.recAuth req) := fun h => nomatch (show true = false from h)
theorem authComplete : Statement (.authComplete) := fun h => nomatch (show true = false from h)
theorem clearComplete (written : Bool) : Statement (.clearComplete written) := fun h => nomatch (show true = false from h)
theorem readStart (req : Requester) : Statement (.readStart req) := fun h => nomatch (show true = false from h)
theorem recordRead (req : Requester) (words : Nat) : Statement (.recordRead req words) := fun h => nomatch (show true = false from h)
theorem keyLoad (req : Requester) (slot : Nat) (written : Bool) : Statement (.keyLoad req slot written) := fun h => nomatch (show true = false from h)
theorem failureLogRead (req : Requester) (words : Nat) : Statement (.failureLogRead req words) := fun h => nomatch (show true = false from h)
theorem rateLimitWrite (req : Requester) (index : Fin 512) (data : W32) : Statement (.rateLimitWrite req index data) := fun h => nomatch (show true = false from h)
theorem powerEntry (req : Requester) : Statement (.powerEntry req) := fun h => nomatch (show true = false from h)
theorem powerEntrySequence : Statement (.powerEntrySequence) := fun h => nomatch (show true = false from h)
theorem wakeEvent (src : WakeSource) : Statement (.wakeEvent src) := fun h => nomatch (show true = false from h)
theorem wakeExit : Statement (.wakeExit) := fun h => nomatch (show true = false from h)
theorem measuredStartStage (stage : Fin 4) (image : List Byte) (valid : Bool) : Statement (.measuredStartStage stage image valid) := fun h => nomatch (show true = false from h)
theorem blobOpen (req : Requester) : Statement (.blobOpen req) := fun h => nomatch (show true = false from h)
theorem blobWrite (req : Requester) (data : List W32) : Statement (.blobWrite req data) := fun h => nomatch (show true = false from h)
theorem blobFinish (req : Requester) : Statement (.blobFinish req) := fun h => nomatch (show true = false from h)
theorem measExtend (req : Requester) (which : Nat) : Statement (.measExtend req which) := fun h => nomatch (show true = false from h)
theorem reportRequest (req : Requester) : Statement (.reportRequest req) := fun h => nomatch (show true = false from h)
theorem reportReady (keyOk : Bool) : Statement (.reportReady keyOk) := fun h => nomatch (show true = false from h)
theorem reportRead (req : Requester) (words : Nat) : Statement (.reportRead req words) := fun h => nomatch (show true = false from h)
theorem attConfirm (req : Requester) (data : W32) : Statement (.attConfirm req data) := fun h => nomatch (show true = false from h)
theorem policySet (req : Requester) (data : W32) : Statement (.policySet req data) := fun h => nomatch (show true = false from h)
theorem canFrameReceive (port : Fin 2) (frame : CanFrame) : Statement (.canFrameReceive port frame) := fun h => nomatch (show true = false from h)
theorem canBusOff (port : Fin 2) : Statement (.canBusOff port) := fun h => nomatch (show true = false from h)
theorem canBusRecovery (port : Fin 2) : Statement (.canBusRecovery port) := fun h => nomatch (show true = false from h)
theorem canTxPush (req : Requester) (port : Fin 2) : Statement (.canTxPush req port) := fun h => nomatch (show true = false from h)
theorem canRxRead (req : Requester) (port : Fin 2) (words : Nat) : Statement (.canRxRead req port words) := fun h => nomatch (show true = false from h)
theorem cantxPeriodEnd (port : Fin 2) (slot : Fin 8) : Statement (.cantxPeriodEnd port slot) := fun h => nomatch (show true = false from h)
theorem ethFrameReceive (frame : List Byte) (fcsOk : Bool) : Statement (.ethFrameReceive frame fcsOk) := fun h => nomatch (show true = false from h)
theorem ethTxPush (req : Requester) (data : W32) : Statement (.ethTxPush req data) := fun h => nomatch (show true = false from h)
theorem ethRxRead (req : Requester) (words : Nat) : Statement (.ethRxRead req words) := fun h => nomatch (show true = false from h)
theorem linkChange (up : Bool) : Statement (.linkChange up) := fun h => nomatch (show true = false from h)
theorem ainScan (samples : List Nat) : Statement (.ainScan samples) := fun h => .inr ⟨_, rfl, of_decide_eq_false h⟩
theorem ainShuntReconnect (input : Fin 48) : Statement (.ainShuntReconnect input) := fun h => nomatch (show true = false from h)
theorem finEdge (input : Fin 96) (quadHigh : Bool) : Statement (.finEdge input quadHigh) := fun h => nomatch (show true = false from h)
theorem imuTransaction (port : Fin 2) (rx : List Byte) : Statement (.imuTransaction port rx) := fun h => nomatch (show true = false from h)
theorem imuStale (port : Fin 2) : Statement (.imuStale port) := fun h => nomatch (show true = false from h)
theorem timeMark (pin : Fin 4) (rising : Bool) : Statement (.timeMark pin rising) := fun h => nomatch (show true = false from h)
theorem timeMarkRead (req : Requester) (words : Nat) : Statement (.timeMarkRead req words) := fun h => nomatch (show true = false from h)
theorem vbatLow (milliV : Nat) : Statement (.vbatLow milliV) := fun h => nomatch (show true = false from h)
theorem vbatRecovery (milliV : Nat) : Statement (.vbatRecovery milliV) := fun h => nomatch (show true = false from h)
theorem latencyTableEccError (ch : Fin 512) : Statement (.latencyTableEccError ch) := fun h => nomatch (show true = false from h)
theorem supplyOutputLimit (output : SupplyOutput) : Statement (.supplyOutputLimit output) := fun h => nomatch (show true = false from h)
theorem canFrameSent (port : Fin 2) : Statement (.canFrameSent port) := fun h => nomatch (show true = false from h)
theorem powerLoss : Statement (.powerLoss) := fun h => nomatch (show true = false from h)
theorem ppsPulseEnd : Statement (.ppsPulseEnd) := fun h => nomatch (show true = false from h)

end Sys2Proof.Laws.IllFormed
end

