-- ==== Sys2Proof/Laws/Shared.lean ====
section
/-! SUPPORT. What the shared operations do, said once: the objects kept by number, faults, interrupts, events, answers and the capture. -/

namespace Sys2Proof.Machine

/-! Objects kept by number: a change shows in its own object only, and leaves the registers and the other parts of the device. -/

@[simp] theorem Dev.chan_modChan_same (d : Dev) (k : Nat) (f) : (d.modChan k f).chan k = f (d.chan k) := sget_sset_same _ _ _ _
theorem Dev.chan_modChan_ne (d : Dev) {j k : Nat} (f) (h : j ≠ k) : (d.modChan k f).chan j = d.chan j := sget_sset_ne _ _ _ h
@[simp] theorem Dev.rd_modChan (d : Dev) (k a : Nat) (f) : (d.modChan k f).rd a = d.rd a := rfl
@[simp] theorem Dev.rcf_modChan (d : Dev) (k : Nat) (f) : (d.modChan k f).rcf = d.rcf := rfl
@[simp] theorem Dev.bank_modBank_same (d : Dev) (k : Nat) (f) : (d.modBank k f).bank k = f (d.bank k) := sget_sset_same _ _ _ _
theorem Dev.bank_modBank_ne (d : Dev) {j k : Nat} (f) (h : j ≠ k) : (d.modBank k f).bank j = d.bank j := sget_sset_ne _ _ _ h
@[simp] theorem Dev.rd_modBank (d : Dev) (k a : Nat) (f) : (d.modBank k f).rd a = d.rd a := rfl
@[simp] theorem Dev.rcf_modBank (d : Dev) (k : Nat) (f) : (d.modBank k f).rcf = d.rcf := rfl
@[simp] theorem Dev.rail_modRail_same (d : Dev) (k : Nat) (f) : (d.modRail k f).rail k = f (d.rail k) := sget_sset_same _ _ _ _
theorem Dev.rail_modRail_ne (d : Dev) {j k : Nat} (f) (h : j ≠ k) : (d.modRail k f).rail j = d.rail j := sget_sset_ne _ _ _ h
@[simp] theorem Dev.rd_modRail (d : Dev) (k a : Nat) (f) : (d.modRail k f).rd a = d.rd a := rfl
@[simp] theorem Dev.rcf_modRail (d : Dev) (k : Nat) (f) : (d.modRail k f).rcf = d.rcf := rfl
@[simp] theorem Dev.tile_modTile_same (d : Dev) (k : Nat) (f) : (d.modTile k f).tile k = f (d.tile k) := sget_sset_same _ _ _ _
theorem Dev.tile_modTile_ne (d : Dev) {j k : Nat} (f) (h : j ≠ k) : (d.modTile k f).tile j = d.tile j := sget_sset_ne _ _ _ h
@[simp] theorem Dev.rd_modTile (d : Dev) (k a : Nat) (f) : (d.modTile k f).rd a = d.rd a := rfl
@[simp] theorem Dev.rcf_modTile (d : Dev) (k : Nat) (f) : (d.modTile k f).rcf = d.rcf := rfl
@[simp] theorem Dev.therm_modTherm_same (d : Dev) (k : Nat) (f) : (d.modTherm k f).therm k = f (d.therm k) := sget_sset_same _ _ _ _
theorem Dev.therm_modTherm_ne (d : Dev) {j k : Nat} (f) (h : j ≠ k) : (d.modTherm k f).therm j = d.therm j := sget_sset_ne _ _ _ h
@[simp] theorem Dev.rd_modTherm (d : Dev) (k a : Nat) (f) : (d.modTherm k f).rd a = d.rd a := rfl
@[simp] theorem Dev.rcf_modTherm (d : Dev) (k : Nat) (f) : (d.modTherm k f).rcf = d.rcf := rfl
@[simp] theorem Dev.ant_modAnt_same (d : Dev) (k : Nat) (f) : (d.modAnt k f).ant k = f (d.ant k) := sget_sset_same _ _ _ _
theorem Dev.ant_modAnt_ne (d : Dev) {j k : Nat} (f) (h : j ≠ k) : (d.modAnt k f).ant j = d.ant j := sget_sset_ne _ _ _ h
@[simp] theorem Dev.rd_modAnt (d : Dev) (k a : Nat) (f) : (d.modAnt k f).rd a = d.rd a := rfl
@[simp] theorem Dev.rcf_modAnt (d : Dev) (k : Nat) (f) : (d.modAnt k f).rcf = d.rcf := rfl
@[simp] theorem Dev.tc_modTc_same (d : Dev) (k : Nat) (f) : (d.modTc k f).tc k = f (d.tc k) := sget_sset_same _ _ _ _
theorem Dev.tc_modTc_ne (d : Dev) {j k : Nat} (f) (h : j ≠ k) : (d.modTc k f).tc j = d.tc j := sget_sset_ne _ _ _ h
@[simp] theorem Dev.rd_modTc (d : Dev) (k a : Nat) (f) : (d.modTc k f).rd a = d.rd a := rfl
@[simp] theorem Dev.rcf_modTc (d : Dev) (k : Nat) (f) : (d.modTc k f).rcf = d.rcf := rfl
@[simp] theorem Dev.bl_modBl_same (d : Dev) (k : Nat) (f) : (d.modBl k f).bl k = f (d.bl k) := sget_sset_same _ _ _ _
theorem Dev.bl_modBl_ne (d : Dev) {j k : Nat} (f) (h : j ≠ k) : (d.modBl k f).bl j = d.bl j := sget_sset_ne _ _ _ h
@[simp] theorem Dev.rd_modBl (d : Dev) (k a : Nat) (f) : (d.modBl k f).rd a = d.rd a := rfl
@[simp] theorem Dev.rcf_modBl (d : Dev) (k : Nat) (f) : (d.modBl k f).rcf = d.rcf := rfl
@[simp] theorem Dev.loop_modLoop_same (d : Dev) (k : Nat) (f) : (d.modLoop k f).loop k = f (d.loop k) := sget_sset_same _ _ _ _
theorem Dev.loop_modLoop_ne (d : Dev) {j k : Nat} (f) (h : j ≠ k) : (d.modLoop k f).loop j = d.loop j := sget_sset_ne _ _ _ h
@[simp] theorem Dev.rd_modLoop (d : Dev) (k a : Nat) (f) : (d.modLoop k f).rd a = d.rd a := rfl
@[simp] theorem Dev.rcf_modLoop (d : Dev) (k : Nat) (f) : (d.modLoop k f).rcf = d.rcf := rfl
@[simp] theorem Dev.trace_modTrace_same (d : Dev) (k : Nat) (f) : (d.modTrace k f).trace k = f (d.trace k) := sget_sset_same _ _ _ _
theorem Dev.trace_modTrace_ne (d : Dev) {j k : Nat} (f) (h : j ≠ k) : (d.modTrace k f).trace j = d.trace j := sget_sset_ne _ _ _ h
@[simp] theorem Dev.rd_modTrace (d : Dev) (k a : Nat) (f) : (d.modTrace k f).rd a = d.rd a := rfl
@[simp] theorem Dev.rcf_modTrace (d : Dev) (k : Nat) (f) : (d.modTrace k f).rcf = d.rcf := rfl
@[simp] theorem Dev.can_modCan_same (d : Dev) (k : Nat) (f) : (d.modCan k f).can k = f (d.can k) := sget_sset_same _ _ _ _
theorem Dev.can_modCan_ne (d : Dev) {j k : Nat} (f) (h : j ≠ k) : (d.modCan k f).can j = d.can j := sget_sset_ne _ _ _ h
@[simp] theorem Dev.rd_modCan (d : Dev) (k a : Nat) (f) : (d.modCan k f).rd a = d.rd a := rfl
@[simp] theorem Dev.rcf_modCan (d : Dev) (k : Nat) (f) : (d.modCan k f).rcf = d.rcf := rfl
@[simp] theorem Dev.ain_modAin_same (d : Dev) (k : Nat) (f) : (d.modAin k f).ain k = f (d.ain k) := sget_sset_same _ _ _ _
theorem Dev.ain_modAin_ne (d : Dev) {j k : Nat} (f) (h : j ≠ k) : (d.modAin k f).ain j = d.ain j := sget_sset_ne _ _ _ h
@[simp] theorem Dev.rd_modAin (d : Dev) (k a : Nat) (f) : (d.modAin k f).rd a = d.rd a := rfl
@[simp] theorem Dev.rcf_modAin (d : Dev) (k : Nat) (f) : (d.modAin k f).rcf = d.rcf := rfl
@[simp] theorem Dev.fin_modFin_same (d : Dev) (k : Nat) (f) : (d.modFin k f).fin k = f (d.fin k) := sget_sset_same _ _ _ _
theorem Dev.fin_modFin_ne (d : Dev) {j k : Nat} (f) (h : j ≠ k) : (d.modFin k f).fin j = d.fin j := sget_sset_ne _ _ _ h
@[simp] theorem Dev.rd_modFin (d : Dev) (k a : Nat) (f) : (d.modFin k f).rd a = d.rd a := rfl
@[simp] theorem Dev.rcf_modFin (d : Dev) (k : Nat) (f) : (d.modFin k f).rcf = d.rcf := rfl
@[simp] theorem Dev.imu_modImu_same (d : Dev) (k : Nat) (f) : (d.modImu k f).imu k = f (d.imu k) := sget_sset_same _ _ _ _
theorem Dev.imu_modImu_ne (d : Dev) {j k : Nat} (f) (h : j ≠ k) : (d.modImu k f).imu j = d.imu j := sget_sset_ne _ _ _ h
@[simp] theorem Dev.rd_modImu (d : Dev) (k a : Nat) (f) : (d.modImu k f).rd a = d.rd a := rfl
@[simp] theorem Dev.rcf_modImu (d : Dev) (k : Nat) (f) : (d.modImu k f).rcf = d.rcf := rfl

/-! Two canonical sparse maps that read alike are equal. -/

theorem sget_below {α : Type} (d : Nat → α) (m : SMap α) (k : Nat) (h : ∀ p ∈ m, k < p.1) : sget d m k = d k := by
  induction m with
  | nil => rfl
  | cons p r ih =>
    have := h p (by simp)
    simp only [sget]; rw [if_neg (by omega)]; exact ih (fun q hq => h q (by simp [hq]))

theorem swf_tail {α : Type} [DecidableEq α] {d : Nat → α} {p : Nat × α} {r : SMap α} (h : swf d (p :: r) = true) :
    swf d r = true ∧ (∀ q ∈ r, p.1 < q.1) ∧ p.2 ≠ d p.1 := by
  simp only [swf, Bool.and_eq_true, List.all_eq_true, decide_eq_true_eq, List.pairwise_cons] at h ⊢
  exact ⟨⟨h.1.2, fun q hq => h.2 q (by simp [hq])⟩, h.1.1, h.2 p (by simp)⟩

/-! Faults, interrupts and events -/

/-- An event taken by the recorder front end changes the front end and SUPP_TOTAL at most (R426, R427, R433). -/
theorem Dev.emit_cases (d : Dev) (e : Event) :
    d.emit e = { d with rcf := { d.rcf with refused := d.rcf.refused + 1 } }
    ∨ d.emit e = d.suppress e.codeOf
    ∨ d.emit e = { d with rcf := { d.rcf with intake := enqueueEvent d.rcf.intake e } } := by
  unfold Dev.emit
  split
  · exact .inl rfl
  · split
    · exact .inr (.inl rfl)
    · exact .inr (.inr rfl)

theorem Dev.emit_open (d : Dev) (e : Event) (h : d.rcf.closed = false) (hp : d.pow.pfAt = none) (hn : d.rcf.intake.length < intakeDepth) :
    d.emit e = { d with rcf := { d.rcf with intake := enqueueEvent d.rcf.intake e } } := by
  unfold Dev.emit
  rw [if_neg (by simp [h, hp]), if_neg (by omega)]

theorem Dev.rd_emit_ne (d : Dev) (e : Event) {a : Nat} (h : a ≠ Reg.REC_SUPP_TOTAL) : (d.emit e).rd a = d.rd a := by
  rcases d.emit_cases e with q | q | q <;> rw [q]
  · rfl
  · exact Dev.rd_wr_ne _ _ h
  · rfl

/-- An event lands in the queue once, and the events that wait stay. -/
theorem mem_enqueueEvent (q : List Event) (e x : Event) : x ∈ enqueueEvent q e ↔ x = e ∨ x ∈ q := by
  induction q with
  | nil => simp [enqueueEvent]
  | cons y r ih =>
    unfold enqueueEvent
    split
    · simp
    · simp only [List.mem_cons, ih]; tauto

theorem length_enqueueEvent (q : List Event) (e : Event) : (enqueueEvent q e).length = q.length + 1 := by
  induction q with
  | nil => rfl
  | cons y r ih =>
    unfold enqueueEvent
    split
    · simp
    · simp [ih]

/-- A fault bit is set, and its page's other fault bits stay (R23). -/
theorem Dev.fault_spec (d : Dev) (p b : Nat) (hb : b < 32) :
    (d.fault p b).bit (Reg.FAULT p) b = true
    ∧ (d.bit (Reg.FAULT p) b = false → d.bit (Reg.FAULT_EN p) b = true → (d.fault p b).bit (Reg.IRQ_RAW p) 1 = true) := by
  have hne : Reg.FAULT p ≠ Reg.IRQ_RAW p := by simp [Reg.FAULT, Reg.IRQ_RAW]
  have hs : (d.setBit (Reg.FAULT p) b true).bit (Reg.FAULT p) b = true := by
    rw [Dev.bit_setBit _ _ _ _ _ hb hb]; simp
  refine ⟨?_, fun h1 h2 => ?_⟩
  · unfold Dev.fault
    dsimp only
    split
    · unfold Dev.irq; rw [Dev.bit_setBit_ne _ _ _ _ hne]; exact hs
    · exact hs
  · unfold Dev.fault
    dsimp only
    rw [if_pos (by simp [h1, h2])]
    unfold Dev.irq
    rw [Dev.bit_setBit _ _ _ _ _ (by decide) (by decide)]; simp

/-! Answers -/

/-- The answer that a requester finds is the one given (R41, R42); only LAST_ERR follows one that is not OK (R62). -/
theorem answerTo_respond (s : State) (q : Requester) (a : Nat) (st : Status) (n : Nat) (ws : List W32) :
    answerTo q (onDev (·.respond q a st n ws) s) = ⟨st, n, ws⟩ := by
  unfold answerTo Dev.respond; dsimp only [onDev]; split
  · exact sget_sset_same _ _ _ _
  · exact sget_sset_same _ _ _ _

theorem answerTo_answeredOk (q : Requester) (a : Nat) (s : State) : answerTo q (answeredOk q a s) = ⟨.ok, 1, []⟩ :=
  answerTo_respond _ _ _ _ _ _

theorem Dev.rd_respond_ok (d : Dev) (q : Requester) (a n b : Nat) (ws : List W32) : (d.respond q a .ok n ws).rd b = d.rd b := rfl

theorem Dev.rd_respond_ne (d : Dev) (q : Requester) (a n : Nat) (st : Status) (ws : List W32) {b : Nat}
    (h : b ≠ Reg.HOST_LAST_ERR) (h' : b ≠ Reg.HOST_LAST_ERR_ADDR) : (d.respond q a st n ws).rd b = d.rd b := by
  unfold Dev.respond; dsimp only; split
  · rfl
  · unfold Dev.wrN; rw [Dev.rd_wr_ne _ _ h', Dev.rd_wr_ne _ _ h]; rfl

/-! The three parts of the state that a command leaves -/

@[simp] theorem answeredOk_rcd (q : Requester) (a : Nat) (s : State) : (answeredOk q a s).rcd = s.rcd := rfl
@[simp] theorem answeredOk_ldg (q : Requester) (a : Nat) (s : State) : (answeredOk q a s).ldg = s.ldg := rfl
@[simp] theorem answeredOk_pending (q : Requester) (a : Nat) (s : State) : (answeredOk q a s).pending = s.pending := rfl

end Sys2Proof.Machine
end

