-- ==== Sys2Proof/Tests/Slice0.lean ====
section
/-! SUPPORT. Tests: ill-formed commands are named, one step of some commands answers what its rule says, and for every obligation
concrete states and operands meet its hypotheses, clause by clause. The numbers are the rules' own or computed from them by hand. -/

namespace Sys2Proof.Tests
open Sys2Proof Sys2Proof.Machine

set_option Elab.async false

/-- The state after reset, changed in the part. -/
def st (f : Dev → Dev) : State := onDev f State.reset
/-- The state after reset with some register words set. -/
def rg (l : List (Nat × W32)) : State := st (fun d => l.foldl (fun d p => d.wr p.1 p.2) d)
/-- The register at an address. -/
def hit (a : Nat) : RegHit := (findReg a).getD ⟨⟨0, .ro, 0, 1, 4, false, false, 0, []⟩, 0, 0, 0, 0⟩
/-- A pairing key, a session under a key, and a frame of a session as the host builds it. -/
def key32 : List Byte := List.replicate 32 7#8
def sess (confirmed : Bool) (lastSeq : Nat) : IvySession := ⟨0, 9, key32, confirmed, lastSeq, 0, [], [], 0⟩
def ivyFrame (kind ident seq : Nat) (body : List Byte) : List Byte := ivyBuild kind 0 ident seq body key32
def parsed (bs : List Byte) : IvyFrame := (ivyParse bs).getD ⟨0, 0, 0, 0, [], []⟩
/-- Ivyth is up, with a pairing key and some sessions. -/
def ivy (xs : List (Option IvySession)) : State :=
  st (fun d => { d.wr Reg.HOST_IVY_CTRL 1#32 |>.wr Reg.NET_NET_CFG 1#32 |>.wr Reg.NET_LINK 1#32 with
    att := { d.att with boot := 4 }, fab := { d.fab with pairKeys := [key32, []], sessions := xs } })
/-- TB-G in a state. -/
def tbgIn (k : Nat) : State := rg [(Reg.TIME_TBG_STATE, w32 k)]
/-- A frame under way, some of its stages done. -/
def inFrame (stage : Nat) : State := st (fun d => { d with frm := { d.frm with turned := true, stage := stage } })
/-- A group start asked for, with every page of a pending word armed. -/
def going (ws : List (Nat × W32)) : State :=
  st (fun d => { ws.foldl (fun d p => d.wr (Reg.TURN_ARM (p.1 / 0x1000)) 1#32) d with pend := ws, frm := { d.frm with goPending := true } })
/-- No verification runs. -/
def impIdle (l : List (Nat × W32)) : State := st (fun d => l.foldl (fun d p => d.wr p.1 p.2) (d.setStat pIMP 16 false))
/-- A tile of a prescription, uniform, as it is exchanged, and the words of a window that holds it. -/
def rxTile : StoredTile := { layer := 8, x := 1, y := -1, seq := 5, cells := uniformRuns 0 }
def window (bs : List Byte) : SMap W32 := (wordsBE bs).zipIdx.map (fun p => (p.2, p.1))
def mapTile : StoredTile := { layer := 0, x := 1, y := -1, seq := 5, cells := uniformRuns 0 }
/-- The tile that a record of it gives, and a check of a record that runs while a job loads. -/
def readBack (t : StoredTile) : StoredTile := ((State.reset.dev.wr Reg.MAP_JOB_STATE 1#32).importTile (t.layer = 8) (encodeTile 1 0 false t)).getD t
def checking (rx : Bool) (bs : List Byte) : State :=
  st (fun d => { d.wr Reg.MAP_JOB_STATE 1#32 with map := { d.map with check := some (rx, bs), win := [{ layer := 0, x := 5, y := 5 }] } })
/-- A map job in a state. -/
def job (k : Nat) (f : MapEngine → MapEngine := id) : State :=
  st (fun d => { d.wr Reg.MAP_JOB_STATE (w32 k) with map := f d.map })
/-- A staged host action on channel 0 of a mode. -/
def act (mode w0 : Nat) : State := rg [(Reg.CH_CFG 0, w32 (0x3FF000 + mode)), (Reg.EDS_ACT_W 0, w32 w0), (Reg.EDS_EDGE_GAP, 10#32)]
/-- A VALVE channel that learns, and a tracking channel in a state. -/
def learner (f : Chan → Chan) : State :=
  st (fun d => (((d.wr (Reg.CH_CFG 0) 0x3FF001#32).wr (Reg.LRN_ON 0) 0x40000000#32).wr (Reg.LATT_ON_BOUNDS 0) 0xFFFF0000#32).modChan 0 f)
def tracking (c k : Nat) (f : TcChan → TcChan := id) : State := st (fun d => (d.wr (Reg.TC_STATE c) (w32 k)).modTc c f)
/-- An acquisition job at work, with some result words waiting. -/
def searching (n : Nat) : State :=
  st (fun d => { d with gps := { d.gps with running := some (⟨0, 1, 1, 500, 0, 1, 0⟩, 0), results := List.replicate n 0#32 } })
/-- Channel 0 in a mode and a state, with some register words. -/
def ch0 (mode : Nat) (f : Chan → Chan) (l : List (Nat × W32) := []) : State :=
  st (fun d => (l.foldl (fun d p => d.wr p.1 p.2) (d.wr (Reg.CH_CFG 0) (w32 mode))).modChan 0 f)
def onEdge : Edge := { t := 5, on := true }
/-- Bank 0, a rail, a tile in a state. -/
def bank0 (f : Bank → Bank) : State := st (·.modBank 0 f)
def rail (k n : Nat) : State := rg [(Reg.VB_RAIL_STATE k, w32 n)]
/-- Loop 0 enabled on a turn, with a latched sample. -/
def latch (k : Nat) : Latched := ⟨f1, f0, f0, 0, k⟩
def loop0 (f : LoopSt → LoopSt) (l : List (Nat × W32) := []) : State :=
  st (fun d => { (l.foldl (fun d p => d.wr p.1 p.2) (d.wr (Reg.LP_CTRL 0) 1#32)).modLoop 0 f with frm := { d.frm with turned := true } })
def lost (f : Supervision → Supervision) : State := st (fun d => { d with sup := f d.sup })
/-- An event at the recorder; the state after reset with the recorder's front end, or its store, changed. -/
def ev : Event := ⟨false, 0, 0, 1, 0, 0, 0, [], 0⟩
def front (f : RecFront → RecFront) (l : List (Nat × W32) := []) : State :=
  st (fun d => { l.foldl (fun d p => d.wr p.1 p.2) d with rcf := f { d.rcf with hold := none } })
def store (f : RecStore → RecStore) : State := { State.reset with rcd := f State.reset.rcd }
def rec0 : Record := ⟨0, 0, 0, [], []⟩
/-- An authorisation with its signature, and a verification of it that runs under the public key of slot 1 (the two keys of the tests are
points for which the signature's two multipliers are small, so that the kernel's check of it is short). -/
def authFor (op target : Nat) (key : List W32) (r sig : Nat) : List W32 :=
  [0x53434C52#32, w32 (op * 2 ^ 24 + 2 ^ 16 + target * 2 ^ 8), 0, 0, 0, 0, 0, 0, 0] ++ key ++ wordsBE (natBE 32 r ++ natBE 32 sig)
def verifying (qx qy : Nat) (a : List W32) : State :=
  { onDev (fun d => { d.setStat pREC 20 true with rcf := { d.rcf with auth := a, authNonce := true } }) State.reset with
    rcd := { State.reset.rcd with keys := [[], wordsBE (natBE 32 qx ++ natBE 32 qy), [], []] } }
def clearAuth : State :=
  verifying 0x7b4d4cd05a9663e9b447ae08a70ba00f8132678e7967cebcb7616e921fab27e8 0x3ead354d642e52ead1da681df0ab63f41d7003eb18264cf08138e6cbb087d2ae
    (authFor 1 0 (List.replicate 16 0#32) 0x54815473b4579cdb73b7bde09829a8e738320c5bda76eba4be0bc78caaee3cea
      0x54815473b4579cdb73b7bde09829a8e738320c5bda76eba4be0bc78caaee3cea)
def keyAuth : State :=
  verifying 0x260a83cccdadc2a5e4cda52da25027dbdd75a2da4d7540e3c05ab1e565c242e4 0x69b693cc0d9275297ef9f65a902709b3f65924acd717fc7b0928f5fa0efda5aa
    (authFor 2 2 (List.replicate 16 1#32) 0x6b0776246558ba56b41995cde80fef9fbe432b7124beb107d01935bb9c99dd44
      0x3583bb1232ac5d2b5a0ccae6f407f7cfdf2195b8925f5883e80c9addce4ceea2)
theorem test_clear_authorisation_verifies : clearAuth.authCode clearAuth.dev.rcf.auth = 0 := by decide +kernel
theorem test_key_authorisation_verifies : keyAuth.authCode keyAuth.dev.rcf.auth = 0 := by decide +kernel
/-- The attestation engine changed; a stage of the measured start under way. -/
def attest (f : AttEngine → AttEngine) (l : List (Nat × W32) := []) : State :=
  st (fun d => { l.foldl (fun d p => d.wr p.1 p.2) d with att := f d.att })
def blob : State := st (fun d => d.setBlob true [])
/-- CAN port 0 on, and Ethernet on, changed. -/
def can0 (f : CanPort → CanPort) : State := st (fun d => (d.wr (Reg.CAN_CAN_CFG 0) 1#32).modCan 0 f)
def canFrame0 : CanFrame := { ide := false }
def eth (l : List (Nat × W32)) (f : Net → Net := id) : State :=
  st (fun d => { l.foldl (fun d p => d.wr p.1 p.2) (d.wr Reg.NET_NET_CFG 1#32 |>.wr Reg.NET_LINK 1#32) with net := f d.net })
def arpFrame : List Byte := List.replicate 12 0#8 ++ natBE 10 0x08060001080006040001 ++ List.replicate 20 0#8
def echoFrame : List Byte := List.replicate 12 0#8 ++ natBE 3 0x080045 ++ List.replicate 8 0#8 ++ [1#8] ++ List.replicate 10 0#8 ++ [8#8] ++ List.replicate 7 0#8
def ivythFrame : List Byte := List.replicate 12 0#8 ++ natBE 3 0x080045 ++ List.replicate 8 0#8 ++ [17#8] ++ List.replicate 12 0#8 ++ natBE 2 0xBC48 ++ List.replicate 4 0#8
def plainFrame : List Byte := List.replicate 14 0#8
/-- The network's state changed. -/
def net (f : Net → Net) (l : List (Nat × W32) := []) : State :=
  st (fun d => { l.foldl (fun d p => d.wr p.1 p.2) d with net := f d.net })
/-- The state a command or a step answers. -/
def nextOf (o : Host.Outcome State Fault Refusal) : State :=
  match o with
  | .next t => t
  | _ => .reset

/-! Commands that no input of the hardware spells are ill-formed, one for each check of WellFormed; lists with missing samples still run. -/

theorem test_bank_trip_of_seven_samples_is_ill_formed :
    (Instr.bankTrip 0 40001 (List.replicate 7 0) []).wellFormed = false
    ∧ (Instr.bankTrip 0 40001 (List.replicate 8 0) []).wellFormed = true := by decide
theorem test_scan_of_47_samples_is_ill_formed :
    (Instr.ainScan (List.replicate 47 0)).wellFormed = false
    ∧ (Instr.ainScan (List.replicate 48 0)).wellFormed = true := by decide
theorem test_scan_without_samples_runs : ∃ t, exec (.ainScan []) State.reset = .next t := ⟨_, rfl⟩

/-! Checksums and the hash, on their published check strings (the CRC parameters are those of R45, R111 and R424). -/

theorem test_crc16_check_value : crc16 [0x31#8, 0x32#8, 0x33#8, 0x34#8, 0x35#8, 0x36#8, 0x37#8, 0x38#8, 0x39#8] = 0x29B1 := by
  decide +kernel
theorem test_crc32_check_value :
    crc32 [0x31#8, 0x32#8, 0x33#8, 0x34#8, 0x35#8, 0x36#8, 0x37#8, 0x38#8, 0x39#8] = 0xCBF43926 := by decide +kernel
theorem test_sha256_of_abc :
    sha256 [0x61#8, 0x62#8, 0x63#8] = [0xBA7816BF#32, 0x8F01CFEA#32, 0x414140DE#32, 0x5DAE2223#32, 0xB00361A3#32, 0x96177A9C#32,
      0xB410FF61#32, 0xF20015AD#32] := by decide +kernel

/-! The worked examples of the chapters. -/

/-- The rate codes of the overlap in the map chapter: the nominal rate is code 40, and a sum of 1.750 is code 50. -/
theorem test_rate_codes_of_the_overlap : rateCode (2 ^ 64) = (40, false) ∧ rateCode (7 * 2 ^ 62) = (50, false) := by decide +kernel
/-- The limits of a current input that leaves both at 0 (R482). -/
theorem test_default_current_limits : ainLimits 1#32 = (614, 3583) := by decide +kernel
/-- The notch of the boom height loop (R382): bilinear coefficients that are accepted, and a pole outside that is not. -/
theorem test_notch_is_accepted :
    biquadOk (fOfRat 9943774 10000000) (fOfRat (-19882461) 10000000) (fOfRat 9943774 10000000) (fOfRat (-19882461) 10000000)
      (fOfRat 9887548 10000000) = true
    ∧ biquadOk f1 f0 f0 f0 f1 = false := by decide +kernel
/-- INCR of 25 ppm fast (R91) is taken; a value past 10.005 ns changes nothing and sets FAULT.RANGE. -/
theorem test_incr_25_ppm :
    (nextOf (exec (.incrWrite .hsl 0x0000000A0010624E#64) .reset)).dev.rd64 Reg.TIME1_INCR = 0x0000000A0010624E := by decide +kernel
theorem test_incr_out_of_range :
    let t := nextOf (exec (.incrWrite .hsl 0x0000000A0147AE15#64) .reset)
    t.dev.rd64 Reg.TIME1_INCR = 0x0000000A00000000 ∧ t.dev.bit (Reg.FAULT 0x007) 16 = true := by decide +kernel

/-! One step of a command, with what its rule says. -/

/-- A host check that fails executes nothing and counts (R46). -/
theorem test_hsl_read_with_a_wrong_check :
    (nextOf (exec (.hslRead 0x10010000#32 0#32 ⟨0#32, none⟩) .reset)).dev.rdN Reg.HOST_HSL_CRC_ERR = 1 := by decide +kernel
/-- A locked page refuses a write of HB_PERIOD (R23), and takes it once it is unlocked. -/
theorem test_locked_page_keeps_its_register :
    let l := nextOf (exec (.pageLock .hsl 5) .reset)
    let t := nextOf (exec (.registerWrite .hsl Reg.HOST_HB_PERIOD 100#32) l)
    t.dev.rdN Reg.HOST_HB_PERIOD = State.reset.dev.rdN Reg.HOST_HB_PERIOD := by decide +kernel
/-- A short at the low side of a peak drive faults the channel with cause 1, SHORT (R310). -/
theorem test_load_short_is_cause_1 :
    let t := nextOf (exec (.loadShort 0 16001) (ch0 1 (fun x => { x with phase := phPEAK })))
    (t.dev.chan 0).phase = phFAULT ∧ (t.dev.chan 0).cause = 1 := by decide +kernel
/-- An executed ON of a SWITCH channel leaves it SWITCHED and empties its queue. -/
theorem test_switch_on :
    let t := nextOf (exec (.edgeExecute 0) (ch0 3 (fun x => { x with queue := [onEdge] })))
    (t.dev.chan 0).phase = phSWITCHED ∧ (t.dev.chan 0).queue = [] := by decide +kernel
/-- The arm key arms the outputs over the HSL and does nothing over Ivyth (R415). -/
theorem test_arm_over_the_hsl_only :
    (nextOf (exec (.outputArm .hsl) .reset)).dev.bit Reg.SYS_OUT_STATE 0 = true
    ∧ (nextOf (exec (.outputArm .ivy0) .reset)).dev.bit Reg.SYS_OUT_STATE 0 = false := by decide +kernel
/-- A frame to the host takes 20 words of the FIFO (R474); a time mark takes six (R490). -/
theorem test_can_frame_takes_20_words :
    ((nextOf (exec (.canFrameReceive 0 canFrame0)
      (st (fun d => d.wr (Reg.CAN_CAN_CFG 0) 1#32 |>.wr (Reg.CAN_FILT_ACT 0 0) 1#32)))).dev.can 0).rx.length = 20 := by decide +kernel
theorem test_time_mark_takes_6_words :
    (nextOf (exec (.timeMark 3 true) (rg [(Reg.GPIO_TM_CFG, 0x3000#32)]))).dev.net.marks.length = 6 := by decide +kernel
/-- The reply to an ARP request carries opcode 2 (R478). -/
theorem test_arp_reply :
    (nextOf (exec (.ethFrameReceive arpFrame true) (eth []))).dev.net.sent.getD 21 0 = 2#8 := by decide +kernel
/-- An accepted key authorisation stores the key in its slot; an accepted clearance starts a clear under its slot (R438). -/
theorem test_key_authorisation_stores_the_key :
    (nextOf (exec .authComplete keyAuth)).rcd.key 2 = some (List.replicate 16 1#32) := by decide +kernel
theorem test_clear_authorisation_starts_the_clear :
    (nextOf (exec .authComplete clearAuth)).dev.rcf.clearing = some 1 := by decide +kernel
/-- Step takes the front of the queue and keeps the rest; a table word spells no command. -/
theorem test_step_takes_the_front :
    (nextOf (step { State.reset with pending := [.ppsPulseEnd, .hslStall] })).pending = [.hslStall] := by decide +kernel
theorem test_no_row_has_bits : decodeTableWord 8 0xFF = none ∧ (State.reset.withFetchWord 8 0xFF) = State.reset := by decide +kernel

/-! For every obligation, states and operands that meet the hypotheses of each of its clauses. -/

theorem test_hypotheses_StepRunsTheFront :
    ∃ s : State, s.pending = [] :=
  ⟨.reset, by decide +kernel⟩

theorem test_hypotheses_RegisterFile :
    (∃ d : Dev, swf resetWord d.regs = true)
    ∧ (∃ d : Dev, ∃ e : Dev, swf resetWord d.regs = true ∧ swf resetWord e.regs = true ∧ (∀ a, d.rd a = e.rd a)) :=
  ⟨⟨(rg [(Reg.CTRL 0, 1#32)]).dev, by decide +kernel⟩,
   ⟨(rg [(Reg.CTRL 0, 1#32)]).dev, (rg [(Reg.CTRL 0, 1#32)]).dev, ⟨by decide +kernel, by decide +kernel, fun _ => rfl⟩⟩⟩

theorem test_hypotheses_HeaderWritesAndCaptures :
    (∃ req : Requester, ∃ page : Fin 256, ∃ mask : W32, ∃ s0 : State, let s := arrived (Reg.IRQ_RAW page) s0; let fresh (s : State) : Prop := (∀ x, s.dev.tm.capAt = some x → x.1 ≠ s.dev.tm.tbm) ∧ (∀ x, s.dev.tm.preStep = some x → x.1 ≠ s.dev.tm.tbm); Accepts req (Reg.IRQ_RAW page) mask s ∧ s.dev.rd (Reg.IRQ_RAW page) &&& mask ≠ 0#32 ∧ fresh s)
    ∧ (∃ req : Requester, ∃ page : Fin 256, ∃ mask : W32, ∃ s0 : State, let s := arrived (Reg.IRQ_RAW page) s0; Accepts req (Reg.IRQ_RAW page) mask s ∧ s.dev.rd (Reg.IRQ_RAW page) &&& mask = 0#32)
    ∧ (∃ req : Requester, ∃ v : W32, ∃ s0 : State, let fresh (s : State) : Prop := (∀ x, s.dev.tm.capAt = some x → x.1 ≠ s.dev.tm.tbm) ∧ (∀ x, s.dev.tm.preStep = some x → x.1 ≠ s.dev.tm.tbm); Accepts req Reg.TIME1_CAP_NOW v s0 ∧ fresh s0)
    ∧ (∃ req : Requester, ∃ page : Fin 256, ∃ s0 : State, let s := arrived (Reg.IRQ_RAW page) s0; Accepts req (Reg.TURN_ARM page) 1#32 s)
    ∧ (∃ req : Requester, ∃ page : Fin 256, ∃ s0 : State, let s := arrived (Reg.IRQ_RAW page) s0; Accepts req (Reg.TURN_ARM page) 0#32 s)
    ∧ (∃ req : Requester, ∃ page : Fin 256, ∃ s0 : State, let s := arrived (Reg.IRQ_RAW page) s0; Accepts req (Reg.LOCK page) 0x4C4F434B#32 s)
    ∧ (∃ req : Requester, ∃ page : Fin 256, ∃ s0 : State, let s := arrived (Reg.IRQ_RAW page) s0; Accepts req (Reg.LOCK page) 0x554E4C4B#32 s)
    ∧ (∃ req : Requester, ∃ page : Fin 256, ∃ mask : W32, ∃ s0 : State, let s := arrived (Reg.IRQ_RAW page) s0; Accepts req (Reg.IRQ_SET page) mask s) :=
  ⟨⟨.hsl, 0, 2#32, rg [(Reg.IRQ_RAW 0, 3#32)], by dsimp only; decide +kernel⟩,
   ⟨.hsl, 5, 2#32, rg [(Reg.IRQ_RAW 5, 1#32)], by dsimp only; decide +kernel⟩,
   ⟨.mp, 0#32, .reset, by dsimp only; decide +kernel⟩,
   ⟨.hsl, 2, .reset, by dsimp only; decide +kernel⟩,
   ⟨.hsl, 2, .reset, by dsimp only; decide +kernel⟩,
   ⟨.hsl, 160, rg [], by dsimp only; decide +kernel⟩,
   ⟨.hsl, 0, rg [(Reg.LOCK 0, 1#32)], by dsimp only; decide +kernel⟩,
   ⟨.ivy0, 0, 0xFFFFFFFF#32, .reset, by dsimp only; decide +kernel⟩⟩

theorem test_hypotheses_PendingAndActiveCopies :
    ∃ req : Requester, ∃ a : Nat, ∃ v : W32, ∃ s0 : State, ∃ h : RegHit, let s := arrived a s0; Accepts req a v s ∧ findReg a = some h ∧ inStore a = false ∧ (a < 0x00100000 → 0x44 ≤ a % 0x1000 ∧ (commandOf req a v).isNone = true) ∧ h.row.wide = false :=
  ⟨.hsl, Reg.FRM_GATHER_MAX, 1#32, .reset, hit Reg.FRM_GATHER_MAX, by dsimp only; decide +kernel⟩

theorem test_hypotheses_WideRegisters :
    (∃ req : Requester, ∃ a : Nat, ∃ hi : W32, ∃ s0 : State, ∃ x : RegHit, let s := arrived (a + 4) s0; Accepts req (a + 4) hi s ∧ findReg (a + 4) = some x ∧ x.row.wide = true ∧ x.word = 1 ∧ writable x.row.acc = true ∧ inStore (a + 4) = false ∧ ((a + 4) < 0x00100000 → 0x44 ≤ (a + 4) % 0x1000 ∧ (commandOf req (a + 4) hi).isNone = true))
    ∧ (∃ req : Requester, ∃ a : Nat, ∃ lo : W32, ∃ s0 : State, ∃ y : RegHit, let s := arrived a s0; Accepts req a lo s ∧ findReg a = some y ∧ y.row.wide = true ∧ y.word = 0 ∧ y.row.acc = .rw ∧ a ≠ Reg.TIME1_INCR ∧ inStore a = false ∧ (a < 0x00100000 → 0x44 ≤ a % 0x1000 ∧ (commandOf req a lo).isNone = true) ∧ (∃ z, findReg (a + 4) = some z ∧ z.row = y.row) ∧ y.row.mask = 0xFFFFFFFF) :=
  ⟨⟨.hsl, Reg.TIME1_STEP_OFS, 0#32, .reset, hit (Reg.TIME1_STEP_OFS + 4), by dsimp only; decide +kernel⟩,
   ⟨.hsl, Reg.REC_RD_FROM, 0#32, .reset, hit Reg.REC_RD_FROM, ⟨by decide +kernel, by decide +kernel, by decide +kernel, by decide +kernel, by decide +kernel, by decide +kernel, by decide +kernel, by decide +kernel, ⟨hit (Reg.REC_RD_FROM + 4), by decide +kernel⟩, by decide +kernel⟩⟩⟩

theorem test_hypotheses_ReadsAndTheirEffects :
    (∃ req : Requester, ∃ a : Nat, ∃ s0 : State, ∃ h : RegHit, let s := arrived a s0; Readable req a s ∧ sfind s.dev.fab.shadow (shadowKey req a) = none ∧ portOf a = none ∧ s.dev.wordsAhead a ≠ 0 ∧ latchedWords a = [] ∧ findReg a = some h ∧ h.row.acc = .rc ∧ (a < 0x00100000 → a % 0x1000 ≠ 0x14))
    ∧ (∃ req : Requester, ∃ a : Nat, ∃ s0 : State, ∃ h : RegHit, let s := arrived a s0; Readable req a s ∧ sfind s.dev.fab.shadow (shadowKey req a) = none ∧ portOf a = none ∧ s.dev.wordsAhead a ≠ 0 ∧ latchedWords a = [a + 4] ∧ findReg a = some h ∧ h.row.acc ≠ .rc ∧ (a < 0x00100000 → a % 0x1000 ≠ 0x14))
    ∧ (∃ req : Requester, ∃ s0 : State, ∃ b, let s := arrived b s0; b ∈ [Reg.TIME_TBG_NS, Reg.TIME1_TBN_NS, Reg.TIME1_CAP_TBN_NS, Reg.TIME1_SET_NS, Reg.LDG_LOSS_FROM_NS, Reg.LDG_LOSS_TO_NS] ∧ Readable req b s ∧ sfind s.dev.fab.shadow (shadowKey req b) = none) :=
  ⟨⟨.hsl, Reg.NAV_DUMP_PEAK, .reset, hit Reg.NAV_DUMP_PEAK, by dsimp only; decide +kernel⟩,
   ⟨.hsl, Reg.FRM_FRAME_SEQX, .reset, hit Reg.FRM_FRAME_SEQX, by dsimp only; decide +kernel⟩,
   ⟨.hsl, .reset, Reg.TIME_TBG_NS, by dsimp only; decide +kernel⟩⟩

theorem test_hypotheses_RefusedWrites :
    ∃ req : Requester, ∃ a : Nat, ∃ v : W32, ∃ s0 : State, ∃ st : Status, let s := arrived a s0; (atFabric req true s).dev.writeStatus req a v = st ∧ st ≠ .ok :=
  ⟨.hsl, Reg.LOCK 0, 1#32, .reset, .len, by dsimp only; decide +kernel⟩

theorem test_hypotheses_LockedAndAbsent :
    (∃ d : Dev, d.fabricUp = false)
    ∧ (∃ a : Nat, ∃ d : Dev, d.fabricUp = true ∧ addrExists a = false)
    ∧ (∃ a : Nat, ∃ d : Dev, d.fabricUp = true ∧ a % 4 ≠ 0)
    ∧ (∃ req : Requester, ∃ a : Nat, ∃ d : Dev, ∃ p, d.fabricUp = true ∧ addrExists a = true ∧ authFails req a = false ∧ ivyWriteFails req a = false ∧ d.geoFails req a = false ∧ p < 256 ∧ a / 0x1000 = p ∧ 0x400 ≤ a % 0x1000 ∧ a % 0x1000 < 0xF00 ∧ req ≠ .mp ∧ bitOf (d.pending (Reg.MODE (modePage p))) 0 = false)
    ∧ (∃ req : Requester, ∃ a : Nat, ∃ d : Dev, d.fabricUp = true ∧ addrExists a = true ∧ authFails req a = false ∧ ivyWriteFails req a = false ∧ d.geoFails req a = false ∧ d.levelFails req a = false ∧ d.rd (Reg.LOCK (targetPage a)) ≠ 0#32 ∧ (a < 0x00100000 → a % 0x1000 ≠ 0x38 ∧ a % 0x1000 ≠ 0x18 ∧ a % 0x1000 ≠ 0x20)) :=
  ⟨⟨{ State.reset.dev with pow := { held := true } }, by decide +kernel⟩,
   ⟨0xFF000, State.reset.dev, by decide +kernel⟩,
   ⟨1, State.reset.dev, by decide +kernel⟩,
   ⟨.hsl, 0x20400, State.reset.dev, 0x20, by decide +kernel⟩,
   ⟨.hsl, 0x5044, (rg [(Reg.LOCK 5, 1#32)]).dev, by decide +kernel⟩⟩

theorem test_hypotheses_HslTransactions :
    (∃ cmd : W32, ∃ addr : W32, ∃ chk : HslCheck, ∃ s : State, chk.cut = none ∧ s.dev.fabricUp = true ∧ checkOk [cmd, addr] chk.word = true ∧ cmdOp cmd = 1)
    ∧ (∃ cmd : W32, ∃ addr : W32, ∃ chk : HslCheck, ∃ s : State, chk.cut = none ∧ s.dev.fabricUp = true ∧ checkOk [cmd, addr] chk.word = true ∧ cmdOp cmd = 3)
    ∧ (∃ cmd : W32, ∃ addr : W32, ∃ chk : HslCheck, ∃ data : List W32, ∃ s : State, chk.cut = none ∧ s.dev.fabricUp = true ∧ checkOk (cmd :: addr :: data) chk.word = true ∧ data.length = cmdLen cmd ∧ cmdOp cmd = 2)
    ∧ (∃ cmd : W32, ∃ addr : W32, ∃ chk : HslCheck, ∃ data : List W32, ∃ s : State, chk.cut = none ∧ s.dev.fabricUp = true ∧ checkOk (cmd :: addr :: data) chk.word = true ∧ data.length = cmdLen cmd ∧ cmdOp cmd = 4)
    ∧ (∃ cmd : W32, ∃ addr : W32, ∃ chk : HslCheck, ∃ s : State, let u := arrived addr.toNat (atFabric .hsl false s); chk.cut = none ∧ s.dev.fabricUp = true ∧ checkOk [cmd, addr] chk.word = true ∧ cmdOp cmd = 1 ∧ cmdLen cmd = 1 ∧ u.dev.readStatus .hsl addr.toNat = .ok ∧ portOf addr.toNat = none ∧ u.dev.wordsAhead addr.toNat ≠ 0 ∧ sfind u.dev.fab.shadow (shadowKey .hsl addr.toNat) = none)
    ∧ (∃ cmd : W32, ∃ addr : W32, ∃ chk : HslCheck, ∃ s : State, chk.cut = none ∧ s.dev.fabricUp = true ∧ checkOk [cmd, addr] chk.word = false)
    ∧ (∃ cmd : W32, ∃ addr : W32, ∃ chk : HslCheck, ∃ data : List W32, ∃ s : State, chk.cut = none ∧ s.dev.fabricUp = true ∧ data.length = cmdLen cmd ∧ checkOk (cmd :: addr :: data) chk.word = false) :=
  ⟨⟨0x10010000#32, 0#32, ⟨w32 (crc16Words [0x10010000#32, 0#32]), none⟩, .reset, by decide +kernel⟩,
   ⟨0x30000000#32, 0#32, ⟨w32 (crc16Words [0x30000000#32, 0#32]), none⟩, .reset, by decide +kernel⟩,
   ⟨0x20010000#32, 0x3C#32, ⟨w32 (crc16Words [0x20010000#32, 0x3C#32, 1#32]), none⟩, [1#32], .reset, by decide +kernel⟩,
   ⟨0x40020000#32, 0x3C#32, ⟨w32 (crc16Words (0x40020000#32 :: 0x3C#32 :: [1#32, 2#32])), none⟩, [1#32, 2#32], .reset, by decide +kernel⟩,
   ⟨0x10010000#32, 0#32, ⟨w32 (crc16Words [0x10010000#32, 0#32]), none⟩, .reset, by dsimp only; decide +kernel⟩,
   ⟨0x10010000#32, 0#32, ⟨w32 (crc16Words [0x10010000#32, 0#32] + 1), none⟩, .reset, by decide +kernel⟩,
   ⟨0x20010000#32, 0#32, ⟨w32 (crc16Words [0x20010000#32, 0#32, 1#32] + 1), none⟩, [1#32], .reset, by decide +kernel⟩⟩

theorem test_hypotheses_HslAbort :
    (∃ s : State, s.dev.fabricUp = true)
    ∧ (∃ cmd : W32, ∃ addr : W32, ∃ word : W32, ∃ n : Nat, ∃ s : State, let u := (burstRead .hsl addr.toNat n false (atFabric .hsl false s)).2.2; s.dev.fabricUp = true ∧ checkOk [cmd, addr] word = true ∧ n ≤ cmdLen cmd ∧ cmdOp cmd = 1 ∧ u.dev.fabricUp = true)
    ∧ (∃ cmd : W32, ∃ addr : W32, ∃ word : W32, ∃ n : Nat, ∃ s : State, let u := (burstRead .hsl addr.toNat n true (atFabric .hsl false s)).2.2; s.dev.fabricUp = true ∧ checkOk [cmd, addr] word = true ∧ n ≤ cmdLen cmd ∧ cmdOp cmd = 3 ∧ u.dev.fabricUp = true)
    ∧ (∃ cmd : W32, ∃ addr : W32, ∃ word : W32, ∃ data : List W32, ∃ n : Nat, ∃ s : State, let u := (burstWrite .hsl addr.toNat (data.take n) false (atFabric .hsl true s)).2.2; s.dev.fabricUp = true ∧ checkOk (cmd :: addr :: data) word = true ∧ data.length = cmdLen cmd ∧ cmdOp cmd = 2 ∧ ((atFabric .hsl true s).dev.burstCheck .hsl addr.toNat data.length false).1 = .ok ∧ u.dev.fabricUp = true)
    ∧ (∃ cmd : W32, ∃ addr : W32, ∃ word : W32, ∃ data : List W32, ∃ n : Nat, ∃ s : State, let u := (burstWrite .hsl addr.toNat (data.take n) true (atFabric .hsl true s)).2.2; s.dev.fabricUp = true ∧ checkOk (cmd :: addr :: data) word = true ∧ data.length = cmdLen cmd ∧ cmdOp cmd = 4 ∧ ((atFabric .hsl true s).dev.burstCheck .hsl addr.toNat data.length true).1 = .ok ∧ u.dev.fabricUp = true) :=
  ⟨⟨.reset, by decide +kernel⟩,
   ⟨0x10020000#32, 0#32, w32 (crc16Words [0x10020000#32, 0#32]), 1, .reset, by dsimp only; decide +kernel⟩,
   ⟨0x30020000#32, 0#32, w32 (crc16Words [0x30020000#32, 0#32]), 2, .reset, by dsimp only; decide +kernel⟩,
   ⟨0x20020000#32, w32 (Reg.EDS_ACT_W 0), w32 (crc16Words [0x20020000#32, w32 (Reg.EDS_ACT_W 0), 1#32, 2#32]), [1#32, 2#32], 1, .reset, by dsimp only; decide +kernel⟩,
   ⟨0x40020000#32, 0x3C#32, w32 (crc16Words [0x40020000#32, 0x3C#32, 1#32, 2#32]), [1#32, 2#32], 0, .reset, by dsimp only; decide +kernel⟩⟩

theorem test_hypotheses_HslStall :
    ∃ s : State, s.dev.fabricUp = true :=
  ⟨.reset, by decide +kernel⟩

theorem test_hypotheses_IvythSessions :
    (∃ frame : List Byte, ∃ f : IvyFrame, ∃ i : Fin 2, ∃ s : State, s.dev.ivyUp = true ∧ ivyParse frame = some f ∧ f.kind = 0x01 ∧ f.slot < 2 ∧ s.dev.fab.pairKeys.getD f.slot [] ≠ [] ∧ f.ident = 0 ∧ f.body.length = 16 ∧ ivyTagged frame f (s.dev.fab.pairKeys.getD f.slot []) = true ∧ s.dev.sessionPlace = some i.val ∧ s.dev.fab.sessions.length = 2)
    ∧ (∃ frame : List Byte, ∃ f : IvyFrame, ∃ s : State, s.dev.ivyUp = true ∧ ivyParse frame = some f ∧ f.kind = 0x01 ∧ f.slot < 2 ∧ s.dev.fab.pairKeys.getD f.slot [] ≠ [] ∧ f.ident = 0 ∧ f.body.length = 16 ∧ ivyTagged frame f (s.dev.fab.pairKeys.getD f.slot []) = true ∧ s.dev.sessionPlace = none)
    ∧ (∃ frame : List Byte, ∃ f : IvyFrame, ∃ i : Fin 2, ∃ x : IvySession, ∃ s : State, s.dev.ivyUp = true ∧ ivyParse frame = some f ∧ f.kind = 0x03 ∧ s.dev.ivyKnown frame f = some (i.val, x) ∧ x.confirmed = false ∧ x.lastSeq = 0 ∧ f.seq = 1 ∧ s.dev.fab.sessions.length = 2)
    ∧ (∃ frame : List Byte, ∃ f : IvyFrame, ∃ i : Fin 2, ∃ x : IvySession, ∃ s : State, s.dev.ivyUp = true ∧ ivyParse frame = some f ∧ f.kind = 0x10 ∧ s.dev.ivyKnown frame f = some (i.val, x) ∧ x.confirmed = true ∧ x.lastSeq < f.seq ∧ ((ivyExecute (ivyReq i) f.body (onDev (·.ivyAccept i x f) s)).2.dev.session i).isSome = true)
    ∧ (∃ frame : List Byte, ∃ f : IvyFrame, ∃ i : Fin 2, ∃ x : IvySession, ∃ s : State, s.dev.ivyUp = true ∧ ivyParse frame = some f ∧ f.kind = 0x10 ∧ s.dev.ivyKnown frame f = some (i.val, x) ∧ x.confirmed = true ∧ f.seq ≤ x.lastSeq ∧ f.seq = x.reqSeq ∧ f.tag = x.reqTag)
    ∧ (∃ frame : List Byte, ∃ f : IvyFrame, ∃ i : Fin 2, ∃ x : IvySession, ∃ s : State, s.dev.ivyUp = true ∧ ivyParse frame = some f ∧ f.kind = 0x20 ∧ s.dev.ivyKnown frame f = some (i.val, x) ∧ x.lastSeq < f.seq ∧ s.dev.fab.sessions.length = 2)
    ∧ (∃ i : Fin 2, ∃ x : IvySession, ∃ s : State, s.dev.session i = some x ∧ s.dev.fab.sessions.length = 2)
    ∧ (∃ frame : List Byte, ∃ s : State, s.dev.ivyUp = true ∧ ivyParse frame = none)
    ∧ (∃ req : Requester, ∃ s : State, Accepts req Reg.HOST_PAIR_CMD 1#32 s)
    ∧ (∃ req : Requester, ∃ s : State, Accepts req Reg.HOST_PAIR_CMD 2#32 s)
    ∧ (∃ req : Requester, ∃ s : State, s.dev.fabricUp = true ∧ req ≠ .hsl) :=
  ⟨⟨ivyFrame 1 0 1 (List.replicate 16 0), parsed (ivyFrame 1 0 1 (List.replicate 16 0)), 1, ivy [some (sess true 0), none], by decide +kernel⟩,
   ⟨ivyFrame 1 0 1 (List.replicate 16 0), parsed (ivyFrame 1 0 1 (List.replicate 16 0)), ivy [some (sess true 0), some (sess true 0)], by decide +kernel⟩,
   ⟨ivyFrame 3 9 1 [], parsed (ivyFrame 3 9 1 []), 0, sess false 0, ivy [some (sess false 0), none], by decide +kernel⟩,
   ⟨ivyFrame 16 9 2 [1, 1, 0, 0, 0, 0, 0, 0], parsed (ivyFrame 16 9 2 [1, 1, 0, 0, 0, 0, 0, 0]), 0, sess true 1, ivy [some (sess true 1), none], by decide +kernel⟩,
   ⟨ivyFrame 16 9 2 [1], parsed (ivyFrame 16 9 2 [1]), 0, { sess true 2 with reqSeq := 2, reqTag := (parsed (ivyFrame 16 9 2 [1])).tag }, ivy [some { sess true 2 with reqSeq := 2, reqTag := (parsed (ivyFrame 16 9 2 [1])).tag }, none], by decide +kernel⟩,
   ⟨ivyFrame 32 9 2 [], parsed (ivyFrame 32 9 2 []), 1, sess true 1, ivy [none, some (sess true 1)], by decide +kernel⟩,
   ⟨1, sess true 1, ivy [none, some (sess true 1)], by decide +kernel⟩,
   ⟨[], ivy [none, none], by decide +kernel⟩,
   ⟨.hsl, .reset, by decide +kernel⟩,
   ⟨.hsl, .reset, by decide +kernel⟩,
   ⟨.mp, .reset, by decide +kernel⟩⟩

theorem test_hypotheses_IncrementOfTbn :
    (∃ req : Requester, ∃ v : W64, ∃ s : State, Accepts req Reg.TIME1_INCR (lo32 v.toNat) s ∧ 0x9FEB851EC ≤ v.toNat ∧ v.toNat ≤ 0xA0147AE14)
    ∧ (∃ req : Requester, ∃ v : W64, ∃ s : State, Accepts req Reg.TIME1_INCR (lo32 v.toNat) s ∧ (v.toNat < 0x9FEB851EC ∨ 0xA0147AE14 < v.toNat)) :=
  ⟨⟨.hsl, 0x9FEB851EC#64, .reset, by decide +kernel⟩,
   ⟨.hsl, 0xA0147AE15#64, .reset, by decide +kernel⟩⟩

theorem test_hypotheses_TbnDiscipline :
    (∃ req : Requester, ∃ v : W32, ∃ s : State, Accepts req Reg.TIME1_ADJ v s)
    ∧ (∃ req : Requester, ∃ s : State, Accepts req Reg.TIME1_STEP_CMD 1#32 s)
    ∧ (∃ req : Requester, ∃ s : State, Accepts req Reg.TIME1_STEP_CMD 2#32 s ∧ s.dev.rdN Reg.TIME1_SET_NS ≤ 999999999)
    ∧ (∃ req : Requester, ∃ s : State, Accepts req Reg.TIME1_STEP_CMD 2#32 s ∧ 999999999 < s.dev.rdN Reg.TIME1_SET_NS)
    ∧ (∃ s : State, s.dev.tm.tbnOut = true)
    ∧ (∃ s : State, s.dev.tm.tbnOut = false) :=
  ⟨⟨.hsl, 0xFFFFFFFF#32, .reset, by decide +kernel⟩,
   ⟨.hsl, .reset, by decide +kernel⟩,
   ⟨.hsl, rg [(Reg.TIME1_SET_NS, 999999999#32)], by decide +kernel⟩,
   ⟨.hsl, rg [(Reg.TIME1_SET_NS, 1000000000#32)], by decide +kernel⟩,
   ⟨st (fun d => { d with tm := { d.tm with tbnOut := true } }), by decide +kernel⟩,
   ⟨.reset, by decide +kernel⟩⟩

theorem test_hypotheses_TbgStates :
    (∃ fix : TimeFix, ∃ s : State, let usable : Prop := s.dev.integ ifSPOOF = false ∧ s.dev.integ ifJUMP = false ∧ s.dev.integ ifDRIFT = false ∧ s.dev.clockLost 6 = false; fix.uncNs ≤ 100 ∧ usable ∧ s.dev.tbgState = tbgNone)
    ∧ (∃ s : State, (s.dev.tbgState = tbgLocked ∨ s.dev.tbgState = tbgReturnS))
    ∧ (∃ s : State, s.dev.tbgState = tbgHoldoverS ∧ s.dev.tm.holdExpired = false)
    ∧ (∃ delta : Int, ∃ s : State, let usable : Prop := s.dev.integ ifSPOOF = false ∧ s.dev.integ ifJUMP = false ∧ s.dev.integ ifDRIFT = false ∧ s.dev.clockLost 6 = false; s.dev.tbgState = tbgHoldoverS ∧ usable ∧ s.dev.tm.stepTo = some delta)
    ∧ (∃ s : State, let usable : Prop := s.dev.integ ifSPOOF = false ∧ s.dev.integ ifJUMP = false ∧ s.dev.integ ifDRIFT = false ∧ s.dev.clockLost 6 = false; s.dev.tbgState = tbgHoldoverS ∧ usable ∧ s.dev.tm.stepTo = none ∧ s.dev.bit Reg.INTEG_INTEG_POLICY 1 = false)
    ∧ (∃ s : State, let usable : Prop := s.dev.integ ifSPOOF = false ∧ s.dev.integ ifJUMP = false ∧ s.dev.integ ifDRIFT = false ∧ s.dev.clockLost 6 = false; s.dev.tbgState = tbgHoldoverS ∧ usable ∧ s.dev.tm.stepTo = none ∧ s.dev.bit Reg.INTEG_INTEG_POLICY 1 = true)
    ∧ (∃ delta : Int, ∃ s : State, s.dev.tm.stepTo = some delta)
    ∧ (∃ s : State, s.dev.tbgState = tbgReturnS ∧ 0 < s.dev.rdN Reg.TIME_RET_SLEW_NS) :=
  ⟨⟨⟨0, 0, 0, 100⟩, .reset, by dsimp only; decide +kernel⟩,
   ⟨tbgIn 3, by decide +kernel⟩,
   ⟨tbgIn 2, by decide +kernel⟩,
   ⟨-1, st (fun d => { d.wr Reg.TIME_TBG_STATE 2#32 with tm := { d.tm with stepTo := some (-1) } }), by dsimp only; decide +kernel⟩,
   ⟨rg [(Reg.TIME_TBG_STATE, 2#32), (Reg.INTEG_INTEG_POLICY, 0#32)], by dsimp only; decide +kernel⟩,
   ⟨rg [(Reg.TIME_TBG_STATE, 2#32), (Reg.INTEG_INTEG_POLICY, 2#32)], by dsimp only; decide +kernel⟩,
   ⟨-1, st (fun d => { d with tm := { d.tm with stepTo := some (-1) } }), by decide +kernel⟩,
   ⟨rg [(Reg.TIME_TBG_STATE, 3#32), (Reg.TIME_RET_SLEW_NS, 1#32)], by decide +kernel⟩⟩

theorem test_hypotheses_PpsAndRtc :
    (∃ s : State, s.dev.powerState ≤ 1 ∧ s.dev.bit Reg.TIME_PPS_CTRL 0 = true ∧ s.dev.tbgState ≠ tbgNone ∧ s.dev.bit Reg.TIME_PPS_STATUS 2 = false ∧ s.dev.tm.stepTo = none)
    ∧ (∃ b : Nat, ∃ s : State, s.dev.tm.ppsSince = some b)
    ∧ (∃ s : State, s.dev.wall.src ≤ 1) :=
  ⟨⟨rg [(Reg.TIME_TBG_STATE, 1#32), (Reg.TIME_PPS_CTRL, 1#32)], by decide +kernel⟩,
   ⟨0, st (fun d => { d with tm := { d.tm with ppsSince := some 0 } }), by decide +kernel⟩,
   ⟨tbgIn 1, by decide +kernel⟩⟩

theorem test_hypotheses_FrameTurn :
    (∃ s : State, s.dev.powerState ≤ 1 ∧ s.dev.pow.held = false)
    ∧ (∃ s : State, (1 < s.dev.powerState ∨ s.dev.pow.held = true)) :=
  ⟨⟨rg [(Reg.PWR_PWR_STATE, 0x11#32)], by decide +kernel⟩,
   ⟨rg [(Reg.PWR_PWR_STATE, 0x22#32)], by decide +kernel⟩⟩

theorem test_hypotheses_TurnsFallOnTheGrid :
    (∃ d : Dev, 0 < d.tbsStep ∧ d.frm.turned = true ∧ d.rd64 Reg.FRM_ORIGIN_SEQ ≤ d.rd64 Reg.FRM_FRAME_SEQX ∧ d.nextTurnNo < 2 ^ 64 ∧ d.toTurn.tbs < 2 ^ 64)
    ∧ (∃ d : Dev, 0 < d.tbsStep ∧ d.frm.turned = true ∧ d.rd64 Reg.FRM_ORIGIN_SEQ ≤ d.rd64 Reg.FRM_FRAME_SEQX ∧ d.nextTurnNo < 2 ^ 64 ∧ d.toTurn.tbs < 2 ^ 64 ∧ d.tm.tbsP < (d.rd64 Reg.FRM_TF_ORIGIN + (d.nextTurnNo - d.rd64 Reg.FRM_ORIGIN_SEQ) * d.tf) * pU)
    ∧ (∃ d : Dev, 0 < d.tbsStep ∧ d.frm.turned = false ∧ d.tbs < 2 ^ 64) :=
  ⟨⟨(inFrame 0).dev, by decide +kernel⟩,
   ⟨(inFrame 0).dev, by decide +kernel⟩,
   ⟨State.reset.dev, by decide +kernel⟩⟩

theorem test_hypotheses_RefusedCommits :
    (∃ d : Dev, ∃ cs : List Commit, ∃ fit : Bool, ∃ p : Nat, p < 256 ∧ ((d.activates p = true ∧ d.actCause (!fit && d.fitRefuses cs (d.commitOf p)) ≠ 0) ∨ (!fit && d.fitRefuses cs (d.commitOf p) || !d.commitOk [d.commitOf p] (d.commitOf p)) = true))
    ∧ (∃ d : Dev, ∃ cs : List Commit, ∃ fit : Bool, ∃ p : Nat, ∃ a, p < 256 ∧ ((d.activates p = true ∧ d.actCause (!fit && d.fitRefuses cs (d.commitOf p)) ≠ 0) ∨ (!fit && d.fitRefuses cs (d.commitOf p) || !d.commitOk [d.commitOf p] (d.commitOf p)) = true) ∧ a ∉ [Reg.TURN_ARM p, Reg.STATUS p, Reg.FAULT p, Reg.IRQ_RAW p]) :=
  ⟨⟨{ State.reset.dev with pend := [(Reg.IMP_IDI_ACTIVATE, 1#32)] }, [], true, 9, by decide +kernel⟩,
   ⟨{ State.reset.dev with pend := [(Reg.IMP_IDI_ACTIVATE, 1#32)] }, [], true, 9, 0, by decide +kernel⟩⟩

theorem test_hypotheses_LocalTurnsAndGroups :
    (∃ dom : Domain, ∃ x : Crossing, ∃ a : Nat, ∃ v : W32, ∃ s : State, s.dev.cross = [x] ∧ x.domain = .ckNet ∧ dom = .ckNet ∧ x.page = 0xA0 ∧ x.main = true ∧ x.group = false ∧ x.words = [(a, v)] ∧ a / 0x1000 = 0xA0 ∧ a ≠ Reg.IRQ_RAW 0xA0)
    ∧ (∃ dom : Domain, dom ≠ .ckEdge)
    ∧ (∃ req : Requester, ∃ s : State, Accepts req Reg.FRM_GLOBAL_GO 1#32 s)
    ∧ (∃ s : State, s.dev.frm.goPending = false ∧ s.dev.bit Reg.FRM_GLOBAL_HOLD 0 = true ∧ s.dev.frm.holdTurns < s.dev.rdN Reg.FRM_GATHER_MAX)
    ∧ (∃ s : State, let g := { s.dev.wrN Reg.FRM_GLOBAL_HOLD 0 with frm := { s.dev.frm with goPending := false, holdTurns := 0 } }; s.dev.frm.goPending = true ∧ g.armedPages = [])
    ∧ (∃ why : Nat × Nat, ∃ s : State, let g := { s.dev.wrN Reg.FRM_GLOBAL_HOLD 0 with frm := { s.dev.frm with goPending := false, holdTurns := 0 } }; let r := g.fitCheck (g.armedPages.map g.commitOf); s.dev.frm.goPending = true ∧ g.armedPages ≠ [] ∧ r.1.groupRefuser (g.armedPages.map g.commitOf) r.2 = some why)
    ∧ (∃ why : Nat × Nat, ∃ s : State, let g := { s.dev.wrN Reg.FRM_GLOBAL_HOLD 0 with frm := { s.dev.frm with goPending := false, holdTurns := 0 } }; let r := g.fitCheck (g.armedPages.map g.commitOf); ∃ p, p ∈ g.armedPages ∧ s.dev.frm.goPending = true ∧ g.armedPages ≠ [] ∧ r.1.groupRefuser (g.armedPages.map g.commitOf) r.2 = some why)
    ∧ (∃ s : State, let g := { s.dev.wrN Reg.FRM_GLOBAL_HOLD 0 with frm := { s.dev.frm with goPending := false, holdTurns := 0 } }; let r := g.fitCheck (g.armedPages.map g.commitOf); s.dev.frm.goPending = true ∧ g.armedPages ≠ [] ∧ r.1.groupRefuser (g.armedPages.map g.commitOf) r.2 = none) :=
  ⟨⟨.ckNet, ⟨0xA0, .ckNet, [(Reg.NET_NET_CFG, 1#32)], false, true⟩, Reg.NET_NET_CFG, 1#32, st (fun d => { d with cross := [⟨0xA0, .ckNet, [(Reg.NET_NET_CFG, 1#32)], false, true⟩] }), by decide +kernel⟩,
   ⟨.ckNet, by decide +kernel⟩,
   ⟨.hsl, .reset, by decide +kernel⟩,
   ⟨rg [(Reg.FRM_GLOBAL_HOLD, 1#32)], by decide +kernel⟩,
   ⟨going [], by dsimp only; decide +kernel⟩,
   ⟨(9, 1), going [(Reg.IMP_IDI_ACTIVATE, 1#32)], by dsimp only; decide +kernel⟩,
   ⟨(9, 1), going [(Reg.IMP_IDI_ACTIVATE, 1#32)], 9, by dsimp only; decide +kernel⟩,
   ⟨going [(Reg.NET_NET_CFG, 1#32)], by dsimp only; decide +kernel⟩⟩

theorem test_hypotheses_GatherTimeout :
    ∃ s : State, s.dev.bit Reg.FRM_GLOBAL_HOLD 0 = true ∧ s.dev.frm.goPending = false ∧ s.dev.rdN Reg.FRM_GATHER_MAX ≤ s.dev.frm.holdTurns :=
  ⟨st (fun d => { d.wr Reg.FRM_GLOBAL_HOLD 1#32 with frm := { d.frm with holdTurns := 2000 } }), by decide +kernel⟩

theorem test_hypotheses_StagesOfAFrame :
    (∃ s : State, s.dev.frm.turned = true ∧ s.dev.frm.stage = 0)
    ∧ (∃ s : State, s.dev.frm.turned = true ∧ s.dev.frm.stage = 1)
    ∧ (∃ s : State, s.dev.frm.turned = true ∧ s.dev.frm.stage = 1 ∧ s.dev.bit Reg.SYS_OUT_STATE 0 = false)
    ∧ (∃ s : State, s.dev.frm.turned = true ∧ s.dev.frm.stage = 2)
    ∧ (∃ cycles : Nat, ∃ s : State, s.dev.frm.turned = true ∧ s.dev.frm.stage = 3 ∧ cycles ≤ stageBound s.dev.tf 4)
    ∧ (∃ cycles : Nat, ∃ s : State, s.dev.frm.turned = true ∧ s.dev.frm.stage = 3 ∧ stageBound s.dev.tf 4 < cycles) :=
  ⟨⟨inFrame 0, by decide +kernel⟩,
   ⟨inFrame 1, by decide +kernel⟩,
   ⟨inFrame 1, by decide +kernel⟩,
   ⟨inFrame 2, by decide +kernel⟩,
   ⟨40000, inFrame 3, by decide +kernel⟩,
   ⟨40001, inFrame 3, by decide +kernel⟩⟩

theorem test_hypotheses_OverrunAndSafeClose :
    (∃ s : State, s.dev.frm.turned = true ∧ s.dev.frm.committed = false ∧ s.dev.frm.stage ≠ 5)
    ∧ (∃ s : State, s.dev.frm.closeDue = true ∧ s.dev.safeClosed = false) :=
  ⟨⟨st (fun d => { d with frm := { d.frm with turned := true, stage := 4, committed := false } }), by decide +kernel⟩,
   ⟨st (fun d => { d with frm := { d.frm with closeDue := true } }), by decide +kernel⟩⟩

theorem test_hypotheses_ClockLossAndRecovery :
    (∃ dom : Domain, ∃ s : State, s.dev.clockLost (domainNo dom) = false ∧ (dom = .ckNet ∨ dom = .ckCan ∨ dom = .ckAon))
    ∧ (∃ s : State, s.dev.clockLost 6 = false)
    ∧ (∃ dom : Domain, ∃ s : State, s.dev.clockLost (domainNo dom) = false ∧ (dom = .ckLoop ∨ dom = .ckEdge ∨ dom = .ckSense))
    ∧ (∃ s : State, s.dev.clockLost 0 = false)
    ∧ (∃ dom : Domain, ∃ s : State, s.dev.clockLost (domainNo dom) = true)
    ∧ (∃ s : State, s.dev.clockLost 6 = true)
    ∧ (∃ dom : Domain, ∃ s : State, s.dev.clockLost (domainNo dom) = true ∧ dom ≠ .ckEdge ∧ dom ≠ .ckNav)
    ∧ (∃ s : State, s.dev.clockLost 4 = true) :=
  ⟨⟨.ckAon, .reset, by decide +kernel⟩,
   ⟨.reset, by decide +kernel⟩,
   ⟨.ckLoop, .reset, by decide +kernel⟩,
   ⟨.reset, by decide +kernel⟩,
   ⟨.ckSys, rg [(Reg.STATUS 1, 0x10000#32)], by decide +kernel⟩,
   ⟨rg [(Reg.STATUS 1, 0x400000#32)], by decide +kernel⟩,
   ⟨.ckAon, rg [(Reg.STATUS 1, 0x800000#32)], by decide +kernel⟩,
   ⟨rg [(Reg.STATUS 1, 0x100000#32)], by decide +kernel⟩⟩

theorem test_hypotheses_ImageSlot :
    (∃ req : Requester, ∃ data : List W32, ∃ s : State, Accepts req Reg.IMP_STAGE_PORT 0#32 s ∧ s.dev.stat pIMP 16 = false ∧ 4 * (s.dev.imp.staged.length + data.length) ≤ 4194304)
    ∧ (∃ req : Requester, ∃ data : List W32, ∃ s : State, Accepts req Reg.IMP_STAGE_PORT 0#32 s ∧ 4194304 < 4 * (s.dev.imp.staged.length + data.length))
    ∧ (∃ req : Requester, ∃ s : State, Accepts req Reg.IMP_IDI_CMD 1#32 s ∧ s.dev.impFree = true)
    ∧ (∃ req : Requester, ∃ s : State, Accepts req Reg.IMP_IDI_CMD 2#32 s ∧ s.dev.impFree = true)
    ∧ (∃ req : Requester, ∃ s : State, Accepts req Reg.IMP_IDI_CMD 3#32 s ∧ s.dev.impFree = true ∧ s.dev.stageState = ssVERIFIED)
    ∧ (∃ req : Requester, ∃ s : State, Accepts req Reg.IMP_IDI_CMD 4#32 s ∧ s.dev.impFree = true)
    ∧ (∃ req : Requester, ∃ s : State, Accepts req Reg.IMP_IDI_CMD 3#32 s ∧ (s.dev.impFree = false ∨ s.dev.stageState ≠ ssVERIFIED))
    ∧ (∃ req : Requester, ∃ s : State, Accepts req Reg.IMP_IDI_CMD 2#32 s ∧ s.dev.impFree = false)
    ∧ (∃ s : State, s.dev.stat pIMP 16 = true ∧ s.dev.imp.booting = true ∧ s.dev.imp.nor = [])
    ∧ (∃ s : State, s.dev.stat pIMP 16 = true ∧ s.dev.imp.booting = true ∧ s.dev.imp.nor ≠ [])
    ∧ (∃ s : State, s.dev.stat pIMP 16 = true ∧ s.dev.imp.booting = false)
    ∧ (∃ s : State, s.dev.imp.norBusy = some 3)
    ∧ (∃ s : State, s.dev.imp.norBusy = some 4) :=
  ⟨⟨.hsl, [1#32], impIdle [], by decide +kernel⟩,
   ⟨.hsl, List.replicate 1048577 0#32, impIdle [], ⟨by decide +kernel, by rw [List.length_replicate]; decide +kernel⟩⟩,
   ⟨.hsl, impIdle [], by decide +kernel⟩,
   ⟨.hsl, impIdle [], by decide +kernel⟩,
   ⟨.hsl, impIdle [(Reg.IMP_STAGE_STATE, 2#32)], by decide +kernel⟩,
   ⟨.hsl, impIdle [], by decide +kernel⟩,
   ⟨.hsl, impIdle [(Reg.IMP_STAGE_STATE, 1#32)], by decide +kernel⟩,
   ⟨.hsl, .reset, by decide +kernel⟩,
   ⟨.reset, by decide +kernel⟩,
   ⟨st (fun d => { d with imp := { d.imp with nor := [0#32] } }), by decide +kernel⟩,
   ⟨st (fun d => { d with imp := { d.imp with booting := false } }), by decide +kernel⟩,
   ⟨st (fun d => { d with imp := { d.imp with norBusy := some 3 } }), by decide +kernel⟩,
   ⟨st (fun d => { d with imp := { d.imp with norBusy := some 4 } }), by decide +kernel⟩⟩

theorem test_hypotheses_PoseSamples :
    (∃ req : Requester, ∃ tbase : Bool, ∃ s : State, let code := s.dev.sampleCode (s.dev.pinSample tbase) ⟨0, tbase && s.dev.tbgState = tbgNone, s.dev.fld Reg.POSE_PIN_QUAL 3 0, false⟩; Accepts req Reg.POSE_PIN_COMMIT (if tbase then 1#32 else 0#32) s ∧ code = 0)
    ∧ (∃ req : Requester, ∃ tbase : Bool, ∃ s : State, let code := s.dev.sampleCode (s.dev.pinSample tbase) ⟨0, tbase && s.dev.tbgState = tbgNone, s.dev.fld Reg.POSE_PIN_QUAL 3 0, false⟩; Accepts req Reg.POSE_PIN_COMMIT (if tbase then 1#32 else 0#32) s ∧ code ≠ 0) :=
  ⟨⟨.hsl, false, rg [(Reg.STATUS pPOSE, 0x10000#32), (Reg.POSE_PIN_QUAL, 5#32)], by dsimp only; decide +kernel⟩,
   ⟨.hsl, true, .reset, by dsimp only; decide +kernel⟩⟩

theorem test_hypotheses_ControllerResets :
    (∃ s : State, let idle (x : State) : Prop := x.dev.pow.held = false ∧ x.dev.pow.pfAt = none ∧ x.dev.sup.resumeAt ≠ some (x.dev.tm.tbm + 2000000); idle s)
    ∧ (∃ req : Requester, ∃ s : State, let idle (x : State) : Prop := x.dev.pow.held = false ∧ x.dev.pow.pfAt = none ∧ x.dev.sup.resumeAt ≠ some (x.dev.tm.tbm + 2000000); Accepts req Reg.SYS_RST_CMD 0x57534554#32 s ∧ idle s)
    ∧ (∃ s : State, s.dev.frm.turned = true ∧ s.dev.sup.resumeAt = none ∧ s.dev.pow.held = false ∧ s.dev.pow.pfAt = none ∧ s.dev.powerState ≤ 1)
    ∧ (∃ s : State, s.dev.pow.held = false ∧ s.dev.pow.pfAt = none ∧ s.dev.sup.resumeAt = some (s.dev.tm.tbm + 2000000)) :=
  ⟨⟨.reset, by dsimp only; decide +kernel⟩,
   ⟨.hsl, .reset, by dsimp only; decide +kernel⟩,
   ⟨inFrame 0, by decide +kernel⟩,
   ⟨st (fun d => { d with sup := { d.sup with resumeAt := some 2000000 } }), by decide +kernel⟩⟩

theorem test_hypotheses_PowerFailSequence :
    (∃ milliV : Nat, ∃ s : State, milliV < 8500 ∧ s.dev.powerState ≤ 2 ∧ s.dev.pow.pfAt = none ∧ s.dev.pow.held = false)
    ∧ (∃ milliV : Nat, 8500 ≤ milliV)
    ∧ (∃ t0 : Nat, ∃ s : State, s.dev.pow.pfAt = some t0 ∧ s.dev.pow.held = false ∧ s.ldg.slots.length = 2)
    ∧ (∃ t0 : Nat, ∃ s : State, s.dev.pow.pfAt = some t0 ∧ s.dev.pow.held = true) :=
  ⟨⟨8499, rg [(Reg.PWR_PWR_STATE, 0x22#32)], by decide +kernel⟩,
   ⟨8500, by decide +kernel⟩,
   ⟨0, st (fun d => { d with pow := { d.pow with pfAt := some 0 } }), by decide +kernel⟩,
   ⟨0, st (fun d => { d with pow := { d.pow with pfAt := some 0, held := true } }), by decide +kernel⟩⟩

theorem test_hypotheses_PowerLadder :
    (∃ req : Requester, ∃ s : State, let u := arrived Reg.PWR_PWR_CMD s; Accepts req Reg.PWR_PWR_CMD 1#32 u ∧ u.entryCode = 0)
    ∧ (∃ req : Requester, ∃ s : State, let u := arrived Reg.PWR_PWR_CMD s; Accepts req Reg.PWR_PWR_CMD 1#32 u ∧ u.entryCode ≠ 0)
    ∧ (∃ g : Nat, ∃ s : State, s.dev.pow.goal = some g ∧ s.dev.pow.wake = 0 ∧ s.dev.powerState ≤ 4)
    ∧ (∃ g : Nat, ∃ s : State, s.dev.pow.goal = some g ∧ s.dev.pow.wake ≠ 0)
    ∧ (∃ s : State, s.dev.powerState ≠ 0 ∧ s.dev.pow.wake ≠ 0 ∧ (s.dev.powerState ≤ 2 ∨ (s.dev.powerState ≤ 4 ∧ s.dev.pow.supplyBad = false)))
    ∧ (∃ s : State, 3 ≤ s.dev.powerState ∧ s.dev.pow.wake ≠ 0 ∧ s.dev.pow.supplyBad = true)
    ∧ (∃ s : State, s.dev.powerState = 5 ∧ s.dev.pow.wake ≠ 0 ∧ s.dev.pow.supplyBad = false) :=
  ⟨⟨.hsl, impIdle [(Reg.PWR_PWR_TARGET, 5#32)], by dsimp only; decide +kernel⟩,
   ⟨.hsl, .reset, by dsimp only; decide +kernel⟩,
   ⟨5, st (fun d => { d.wr Reg.PWR_PWR_STATE 0x44#32 with pow := { d.pow with goal := some 5 } }), by decide +kernel⟩,
   ⟨5, st (fun d => { d with pow := { d.pow with goal := some 5, wake := 1 } }), by decide +kernel⟩,
   ⟨st (fun d => { d.wr Reg.PWR_PWR_STATE 0x44#32 with pow := { d.pow with wake := 1 } }), by decide +kernel⟩,
   ⟨st (fun d => { d.wr Reg.PWR_PWR_STATE 0x33#32 with pow := { d.pow with wake := 1, supplyBad := true } }), by decide +kernel⟩,
   ⟨st (fun d => { d.wr Reg.PWR_PWR_STATE 0x55#32 with pow := { d.pow with wake := 128 } }), by decide +kernel⟩⟩

theorem test_hypotheses_AntennaPorts :
    (∃ port : Fin 4, ∃ milliA : Nat, ∃ s : State, s.dev.antBit port abBIAS = true ∧ 55 < milliA)
    ∧ (∃ port : Fin 4, ∃ r : Nat, ∃ s : State, (s.dev.ant port).retryAt = some r ∧ s.dev.biasEn port = true)
    ∧ (∃ port : Fin 4, ∃ s : State, s.dev.antBit port abBIAS = true)
    ∧ (∃ port : Fin 4, ∃ s : State, s.dev.portEn port = true ∧ s.dev.clockLost 6 = false ∧ s.dev.powerState ≤ 1) :=
  ⟨⟨3, 56, rg [(Reg.NAV_ANT_STAT, 0x1000#32)], by decide +kernel⟩,
   ⟨3, 7, st (fun d => { d.wr Reg.NAV_ANT_CTRL 0x80#32 with gps := { d.gps with ant := [(3, { retryAt := some 7 })] } }), by decide +kernel⟩,
   ⟨0, rg [(Reg.NAV_ANT_STAT, 1#32)], by decide +kernel⟩,
   ⟨0, rg [(Reg.NAV_ANT_CTRL, 1#32), (Reg.PWR_PWR_STATE, 0x11#32)], by decide +kernel⟩⟩

theorem test_hypotheses_AcquisitionAndQueues :
    (∃ req : Requester, ∃ v : W32, ∃ s : State, let u := arrived Reg.ACQ_JOB_PUSH s; Accepts req Reg.ACQ_JOB_PUSH v u ∧ u.dev.acqJob.ok = true ∧ u.dev.gps.jobs.length < 16)
    ∧ (∃ req : Requester, ∃ v : W32, ∃ s : State, let u := arrived Reg.ACQ_JOB_PUSH s; Accepts req Reg.ACQ_JOB_PUSH v u ∧ (u.dev.acqJob.ok = false ∨ 16 ≤ u.dev.gps.jobs.length))
    ∧ (∃ req : Requester, ∃ v : W32, ∃ s : State, let u := arrived Reg.ACQ_ACQ_FLUSH s; Accepts req Reg.ACQ_ACQ_FLUSH v u)
    ∧ (∃ j : AcqJob, ∃ start : Nat, ∃ s : State, s.dev.gps.running = some (j, start) ∧ ceilDiv s.dev.gps.results.length 4 < 16)
    ∧ (∃ j : AcqJob, ∃ start : Nat, ∃ s : State, s.dev.gps.running = some (j, start) ∧ ceilDiv s.dev.gps.results.length 4 < 16 ∧ s.dev.fwOwns = false)
    ∧ (∃ j : AcqJob, ∃ start : Nat, ∃ s : State, s.dev.gps.running = some (j, start) ∧ 16 ≤ ceilDiv s.dev.gps.results.length 4 ∧ s.dev.fwOwns = false)
    ∧ (∃ req : Requester, ∃ s : State, let u := arrived Reg.ACQ_ACQ_RES_PORT s; Readable req Reg.ACQ_ACQ_RES_PORT u ∧ u.dev.gps.waiting = none)
    ∧ (∃ s : State, s.dev.clockLost 6 = false ∧ s.dev.powerState ≤ 1)
    ∧ (∃ req : Requester, ∃ s : State, let u := arrived Reg.NAV_MEAS_PORT s; Readable req Reg.NAV_MEAS_PORT u)
    ∧ (∃ ch : Fin 64, ∃ w : NavWord, ∃ rest : List NavWord, ∃ s : State, s.dev.tcState ch = tsFRAME ∧ (s.dev.tc ch).words = w :: rest ∧ s.dev.bit Reg.NAV_NAVW_CTRL 0 = true ∧ s.dev.bit Reg.NAV_NAVW_CTRL 1 = false ∧ s.dev.gps.words.length ≤ 1020)
    ∧ (∃ ch : Fin 64, ∃ number : Nat, ∃ bits : BitVec 30, ∃ miss : Bool, ∃ s : State, (s.dev.tcState ch ≠ tsFRAME ∨ ((s.dev.tc ch).words.map (fun x => (x.number, x.bits, x.prev.isNone))).head? ≠ some (number, bits, miss)))
    ∧ (∃ req : Requester, ∃ s : State, let u := arrived Reg.NAV_NAVW_PORT s; Readable req Reg.NAV_NAVW_PORT u) :=
  ⟨⟨.mp, 0#32, rg [(Reg.ACQ_JOB_CFG, 0x20140000#32), (Reg.ACQ_JOB_F0, 20000#32), (Reg.ACQ_JOB_NGRP, 40#32)], by dsimp only; decide +kernel⟩,
   ⟨.mp, 0#32, rg [(Reg.ACQ_JOB_CFG, 0x20150000#32), (Reg.ACQ_JOB_NGRP, 40#32)], by dsimp only; decide +kernel⟩,
   ⟨.mp, 0#32, .reset, by dsimp only; decide +kernel⟩,
   ⟨⟨0, 1, 1, 500, 0, 1, 0⟩, 0, searching 60, by decide +kernel⟩,
   ⟨⟨0, 1, 1, 500, 0, 1, 0⟩, 0, searching 60, by decide +kernel⟩,
   ⟨⟨0, 1, 1, 500, 0, 1, 0⟩, 0, searching 61, by decide +kernel⟩,
   ⟨.hsl, .reset, by dsimp only; decide +kernel⟩,
   ⟨.reset, by decide +kernel⟩,
   ⟨.hsl, .reset, by dsimp only; decide +kernel⟩,
   ⟨63, ⟨0, 0, none, 0⟩, [], st (fun d => { ((d.wr (Reg.TC_STATE 63) 4#32).wr Reg.NAV_NAVW_CTRL 1#32).modTc 63 (fun x => { x with words := [⟨0, 0, none, 0⟩] }) with gps.words := List.replicate 1020 0#32 }), by decide +kernel⟩,
   ⟨63, 1, 0#30, true, .reset, by decide +kernel⟩,
   ⟨.hsl, .reset, by dsimp only; decide +kernel⟩⟩

theorem test_hypotheses_TrackingChannels :
    (∃ req : Requester, ∃ ch : Fin 64, ∃ s : State, let u := arrived (Reg.TC_CMD ch) s; Accepts req (Reg.TC_CMD ch) 1#32 u ∧ u.dev.tcRefOk ch = true)
    ∧ (∃ req : Requester, ∃ ch : Fin 64, ∃ s : State, let u := arrived (Reg.TC_CMD ch) s; Accepts req (Reg.TC_CMD ch) 1#32 u ∧ u.dev.tcRefOk ch = false)
    ∧ (∃ req : Requester, ∃ ch : Fin 64, ∃ s : State, let u := arrived (Reg.TC_CMD ch) s; Accepts req (Reg.TC_CMD ch) 2#32 u)
    ∧ (∃ ch : Fin 64, ∃ s : State, s.dev.tcActive ch = true ∧ s.dev.clockLost 6 = false ∧ s.dev.powerState ≤ 1)
    ∧ (∃ ch : Fin 64, ∃ s : State, s.dev.tcState ch = tsPULL ∧ 100 ≤ (s.dev.tc ch).lockRun)
    ∧ (∃ ch : Fin 64, ∃ e : Nat, ∃ s : State, s.dev.tcState ch = tsTRACK ∧ (s.dev.tc ch).bitReady = some e)
    ∧ (∃ ch : Fin 64, ∃ e : Nat, ∃ s : State, (s.dev.tc ch).bitReady ≠ some e)
    ∧ (∃ ch : Fin 64, ∃ k : Nat, ∃ inv : Bool, ∃ s : State, s.dev.tcState ch = tsBIT ∧ (s.dev.tc ch).synced = some (k, inv))
    ∧ (∃ ch : Fin 64, ∃ k : Nat, ∃ inv : Bool, ∃ s : State, (s.dev.tc ch).synced ≠ some (k, inv))
    ∧ (∃ ch : Fin 64, ∃ s : State, s.dev.tcState ch = tsFRAME ∧ 2 ≤ (s.dev.tc ch).missed)
    ∧ (∃ ch : Fin 64, ∃ s : State, (s.dev.tc ch).missed < 2)
    ∧ (∃ ch : Fin 64, ∃ b : Nat, ∃ s : State, (s.dev.tc ch).lowSince = some b ∧ s.dev.tcTracks ch = true)
    ∧ (∃ ch : Fin 64, ∃ s : State, s.dev.tcState ch = tsPULL) :=
  ⟨⟨.mp, 0, .reset, by dsimp only; decide +kernel⟩,
   ⟨.mp, 0, rg [(Reg.TC_INIT_REF 0, 1#32)], by dsimp only; decide +kernel⟩,
   ⟨.mp, 63, .reset, by dsimp only; decide +kernel⟩,
   ⟨0, tracking 0 4, by decide +kernel⟩,
   ⟨0, tracking 0 1 (fun x => { x with lockRun := 100 }), by decide +kernel⟩,
   ⟨0, 5, tracking 0 2 (fun x => { x with bitReady := some 5 }), by decide +kernel⟩,
   ⟨0, 5, tracking 0 2, by decide +kernel⟩,
   ⟨0, 5, true, tracking 0 3 (fun x => { x with synced := some (5, true) }), by decide +kernel⟩,
   ⟨0, 5, true, tracking 0 3, by decide +kernel⟩,
   ⟨0, tracking 0 4 (fun x => { x with missed := 2 }), by decide +kernel⟩,
   ⟨0, tracking 0 4, by decide +kernel⟩,
   ⟨0, 5, tracking 0 2 (fun x => { x with lowSince := some 5 }), by decide +kernel⟩,
   ⟨0, tracking 0 1, by decide +kernel⟩⟩

theorem test_hypotheses_NavigationAndIntegrity :
    (∃ s : State, (s.dev.mpRuns = false ∨ s.dev.clockLost 6 = true))
    ∧ (∃ s : State, let runs : Prop := s.dev.mpRuns = true ∧ s.dev.clockLost 6 = false; runs)
    ∧ (∃ s : State, let runs : Prop := s.dev.mpRuns = true ∧ s.dev.clockLost 6 = false; runs ∧ s.dev.integ ifSPOOF = false)
    ∧ (∃ g : TimeFix × Nat, ∃ s : State, s.dev.gps.gated = some g ∧ s.dev.clkSound = true ∧ s.dev.clockLost 6 = false)
    ∧ (∃ req : Requester, ∃ g : TimeFix × Nat, ∃ s : State, let u := arrived Reg.INTEG_INTEG_CMD s; Accepts req Reg.INTEG_INTEG_CMD 1#32 u ∧ u.dev.gps.gated = some g)
    ∧ (∃ req : Requester, ∃ s : State, let u := arrived Reg.INTEG_INTEG_CMD s; Accepts req Reg.INTEG_INTEG_CMD 2#32 u)
    ∧ (∃ x : Nat, ∃ s : State, s.dev.powerState = 3 ∧ s.dev.pow.wake = 0 ∧ s.dev.gps.tblUntil = some x ∧ s.dev.tbgState ≠ tbgNone)
    ∧ (∃ x : Nat, ∃ s : State, s.dev.gps.tblUntil = some x) :=
  ⟨⟨rg [(Reg.WDG_MP_STATE, 1#32)], by decide +kernel⟩,
   ⟨.reset, by dsimp only; decide +kernel⟩,
   ⟨.reset, by dsimp only; decide +kernel⟩,
   ⟨(⟨0, 0, 0, 0⟩, 0), st (fun d => { d with gps := { d.gps with gated := some (⟨0, 0, 0, 0⟩, 0) } }), by decide +kernel⟩,
   ⟨.hsl, (⟨0, 0, 0, 0⟩, 0), st (fun d => { d with gps := { d.gps with gated := some (⟨0, 0, 0, 0⟩, 0) } }), by dsimp only; decide +kernel⟩,
   ⟨.hsl, .reset, by dsimp only; decide +kernel⟩,
   ⟨9, st (fun d => { (d.wr Reg.PWR_PWR_STATE 0x33#32).wr Reg.TIME_TBG_STATE 2#32 with gps := { d.gps with tblUntil := some 9 } }), by decide +kernel⟩,
   ⟨9, st (fun d => { d with gps := { d.gps with tblUntil := some 9 } }), by decide +kernel⟩⟩

theorem test_hypotheses_MapJobAndWindow :
    (∃ req : Requester, ∃ s : State, Accepts req Reg.MAP_JOB_CMD 1#32 s ∧ s.dev.stat pPOSE 16 = true ∧ s.dev.jobState = joNONE)
    ∧ (∃ req : Requester, ∃ s : State, Accepts req Reg.MAP_JOB_CMD 1#32 s ∧ s.dev.stat pPOSE 16 = true ∧ s.dev.jobState = joLOADING)
    ∧ (∃ req : Requester, ∃ s : State, Accepts req Reg.MAP_JOB_CMD 1#32 s ∧ s.dev.stat pPOSE 16 = true ∧ (s.dev.jobState = joOPEN ∨ s.dev.jobState = joCLOSED))
    ∧ (∃ req : Requester, ∃ s : State, Accepts req Reg.MAP_JOB_CMD 2#32 s ∧ s.dev.stat pPOSE 16 = true ∧ s.dev.jobState = joNONE)
    ∧ (∃ req : Requester, ∃ s : State, Accepts req Reg.MAP_JOB_CMD 2#32 s ∧ s.dev.stat pPOSE 16 = true ∧ s.dev.jobState ≠ joNONE)
    ∧ (∃ req : Requester, ∃ s : State, Accepts req Reg.MAP_JOB_CMD 3#32 s ∧ s.dev.jobState = joOPEN)
    ∧ (∃ req : Requester, ∃ s : State, Accepts req Reg.MAP_JOB_CMD 3#32 s ∧ s.dev.jobState ≠ joOPEN)
    ∧ (∃ req : Requester, ∃ s : State, Accepts req Reg.MAP_JOB_CMD 4#32 s ∧ (s.dev.jobState = joLOADING ∨ s.dev.jobState = joCLOSED))
    ∧ (∃ req : Requester, ∃ s : State, Accepts req Reg.MAP_JOB_CMD 4#32 s ∧ (s.dev.jobState = joNONE ∨ s.dev.jobState = joOPEN))
    ∧ (∃ s : State, (s.dev.map.paintDue = false ∨ s.dev.frm.stage = 0))
    ∧ (∃ s : State, s.dev.map.paintDue = true ∧ s.dev.frm.stage ≠ 0)
    ∧ (∃ tile : Nat, ∃ a : PageIn, ∃ s : State, s.dev.map.asks[tile]? = some a)
    ∧ (∃ tile : Nat, ∃ w : WinTile, ∃ s : State, s.dev.map.win[tile]? = some w ∧ w.dirty = true) :=
  ⟨⟨.hsl, rg [(Reg.STATUS pPOSE, 0x10000#32)], by decide +kernel⟩,
   ⟨.hsl, rg [(Reg.STATUS pPOSE, 0x10000#32), (Reg.MAP_JOB_STATE, 1#32)], by decide +kernel⟩,
   ⟨.hsl, rg [(Reg.STATUS pPOSE, 0x10000#32), (Reg.MAP_JOB_STATE, 3#32)], by decide +kernel⟩,
   ⟨.hsl, rg [(Reg.STATUS pPOSE, 0x10000#32)], by decide +kernel⟩,
   ⟨.hsl, rg [(Reg.STATUS pPOSE, 0x10000#32), (Reg.MAP_JOB_STATE, 2#32)], by decide +kernel⟩,
   ⟨.hsl, job 2, by decide +kernel⟩,
   ⟨.hsl, job 3, by decide +kernel⟩,
   ⟨.hsl, job 3, by decide +kernel⟩,
   ⟨.hsl, job 2, by decide +kernel⟩,
   ⟨.reset, by decide +kernel⟩,
   ⟨st (fun d => { d with map := { d.map with paintDue := true }, frm := { d.frm with turned := true, stage := 1 } }), by decide +kernel⟩,
   ⟨1, ⟨0, -1, 3, 0⟩, job 2 (fun m => { m with asks := [⟨0, 0, 0, 0⟩, ⟨0, -1, 3, 0⟩] }), by decide +kernel⟩,
   ⟨0, { layer := 0, x := 0, y := 0, dirty := true }, job 2 (fun m => { m with win := [{ layer := 0, x := 0, y := 0, dirty := true }] }), by decide +kernel⟩⟩

theorem test_hypotheses_MapExchange :
    (∃ req : Requester, ∃ s : State, (s.dev.jobState = joOPEN ∨ s.dev.jobState = joCLOSED) ∧ Accepts req Reg.MAP_EXP_CMD 1#32 s)
    ∧ (∃ req : Requester, ∃ s : State, (s.dev.jobState = joOPEN ∨ s.dev.jobState = joCLOSED) ∧ Accepts req Reg.MAP_EXP_CMD 2#32 s)
    ∧ (∃ req : Requester, ∃ s : State, Accepts req Reg.MAP_EXP_CMD 1#32 s ∧ (s.dev.jobState = joNONE ∨ s.dev.jobState = joLOADING))
    ∧ (∃ req : Requester, ∃ s : State, Accepts req Reg.MAP_EXP_CMD 3#32 s)
    ∧ (∃ req : Requester, ∃ page : Nat, ∃ x : Export, ∃ s : State, Accepts req Reg.MAP_EXP_PAGE (w32 page) s ∧ s.dev.map.exp = some x ∧ page < 2 ^ 32 ∧ x.next = page ∧ x.asked = none)
    ∧ (∃ req : Requester, ∃ page : Nat, ∃ x : Export, ∃ s : State, Accepts req Reg.MAP_EXP_PAGE (w32 page) s ∧ s.dev.map.exp = some x ∧ page < 2 ^ 32 ∧ (x.next ≠ page ∨ x.asked ≠ none))
    ∧ (∃ k : Nat, ∃ x : Export, ∃ s : State, s.dev.map.exp = some x ∧ x.asked = some k)
    ∧ (∃ req : Requester, ∃ s : State, Accepts req Reg.MAP_IMP_CMD 1#32 s ∧ s.dev.jobState = joLOADING ∧ s.dev.map.check = none ∧ recordFits s.dev.map.expWin (s.dev.rdN Reg.MAP_IMP_LEN) = true)
    ∧ (∃ req : Requester, ∃ s : State, Accepts req Reg.MAP_IMP_CMD 1#32 s ∧ (s.dev.jobState ≠ joLOADING ∨ s.dev.map.check ≠ none))
    ∧ (∃ req : Requester, ∃ s : State, Accepts req Reg.MAP_RX_CMD 1#32 s ∧ (s.dev.jobState = joLOADING ∨ s.dev.jobState = joOPEN) ∧ s.dev.map.check = none ∧ recordFits s.dev.map.rxWin (s.dev.rdN Reg.MAP_RX_LEN) = true)
    ∧ (∃ req : Requester, ∃ s : State, Accepts req Reg.MAP_RX_CMD 1#32 s ∧ (s.dev.jobState = joNONE ∨ s.dev.jobState = joCLOSED))
    ∧ (∃ rx : Bool, ∃ bs : List Byte, ∃ s : State, s.dev.map.check = some (rx, bs))
    ∧ (∃ rx : Bool, ∃ bs : List Byte, ∃ s : State, s.dev.map.check = some (rx, bs) ∧ s.dev.importTile rx bs = none)
    ∧ (∃ tl : StoredTile, ∃ rx : Bool, ∃ bs : List Byte, ∃ s : State, s.dev.map.check = some (rx, bs) ∧ s.dev.importTile rx bs = some tl)
    ∧ (∃ tl : StoredTile, ∃ rx : Bool, ∃ bs : List Byte, ∃ s : State, s.dev.map.check = some (rx, bs) ∧ s.dev.importTile rx bs = some tl ∧ tl.layer = 8)
    ∧ (∃ tl : StoredTile, ∃ rx : Bool, ∃ bs : List Byte, ∃ s : State, let d := s.dev.endCheck; ∃ z, z ∈ d.map.win ∧ s.dev.map.check = some (rx, bs) ∧ s.dev.importTile rx bs = some tl ∧ tl.layer ≠ 8)
    ∧ (∃ tl : StoredTile, ∃ rx : Bool, ∃ bs : List Byte, ∃ s : State, let d := s.dev.endCheck; ∃ z, s.dev.map.check = some (rx, bs) ∧ s.dev.importTile rx bs = some tl ∧ tl.layer ≠ 8 ∧ d.dirFind tl.key = some z) :=
  ⟨⟨.hsl, job 2, by decide +kernel⟩,
   ⟨.hsl, job 3, by decide +kernel⟩,
   ⟨.hsl, job 1, by decide +kernel⟩,
   ⟨.hsl, job 0, by decide +kernel⟩,
   ⟨.hsl, 0, {}, job 2 (fun m => { m with exp := some {} }), by decide +kernel⟩,
   ⟨.hsl, 1, {}, job 2 (fun m => { m with exp := some {} }), by decide +kernel⟩,
   ⟨0, { asked := some 0 }, job 2 (fun m => { m with exp := some { asked := some 0 } }), by decide +kernel⟩,
   ⟨.hsl, st (fun d => { (d.wr Reg.MAP_JOB_STATE 1#32).wr Reg.MAP_IMP_LEN 36#32 with map := { d.map with expWin := window (encodeTile 0 0 false rxTile) } }), by decide +kernel⟩,
   ⟨.hsl, job 2, by decide +kernel⟩,
   ⟨.hsl, st (fun d => { (d.wr Reg.MAP_JOB_STATE 2#32).wr Reg.MAP_RX_LEN 36#32 with map := { d.map with rxWin := window (encodeTile 0 0 false rxTile) } }), by decide +kernel⟩,
   ⟨.hsl, job 3, by decide +kernel⟩,
   ⟨false, [], checking false [], by decide +kernel⟩,
   ⟨false, [], checking false [], by decide +kernel⟩,
   ⟨readBack rxTile, true, encodeTile 0 0 false rxTile, checking true (encodeTile 0 0 false rxTile), by decide +kernel⟩,
   ⟨readBack rxTile, true, encodeTile 0 0 false rxTile, checking true (encodeTile 0 0 false rxTile), by decide +kernel⟩,
   ⟨readBack mapTile, false, encodeTile 1 0 false mapTile, checking false (encodeTile 1 0 false mapTile), { layer := 0, x := 5, y := 5 }, by decide +kernel⟩,
   ⟨readBack mapTile, false, encodeTile 1 0 false mapTile, checking false (encodeTile 1 0 false mapTile), (((checking false (encodeTile 1 0 false mapTile)).dev.endCheck).dirFind mapTile.key).getD mapTile, by decide +kernel⟩⟩

theorem test_hypotheses_TimelineAndActions :
    (∃ req : Requester, ∃ ch : Fin 512, ∃ s : State, Accepts req Reg.SDE_TL_SEL (w32 ch) s)
    ∧ (∃ req : Requester, ∃ s : State, Readable req Reg.SDE_TL_PORT s)
    ∧ (∃ req : Requester, ∃ s : State, let x := s.dev.stagedAct; Accepts req Reg.EDS_ACT_PUSH 1#32 s ∧ x.kind = haON ∧ s.dev.actCode x = 0)
    ∧ (∃ req : Requester, ∃ s : State, let x := s.dev.stagedAct; Accepts req Reg.EDS_ACT_PUSH 1#32 s ∧ x.kind = haON ∧ s.dev.actCode x ≠ 0)
    ∧ (∃ req : Requester, ∃ s : State, let x := s.dev.stagedAct; Accepts req Reg.EDS_ACT_PUSH 1#32 s ∧ x.kind = haON)
    ∧ (∃ req : Requester, ∃ s : State, let x := s.dev.stagedAct; Accepts req Reg.EDS_ACT_PUSH 1#32 s ∧ x.kind = haRATE ∧ s.dev.actCode x = 0)
    ∧ (∃ req : Requester, ∃ s : State, let x := s.dev.stagedAct; Accepts req Reg.EDS_ACT_PUSH 1#32 s ∧ x.kind = haRATE ∧ s.dev.actCode x ≠ 0)
    ∧ (∃ req : Requester, ∃ s : State, let x := s.dev.stagedAct; Accepts req Reg.EDS_ACT_PUSH 1#32 s ∧ x.kind = haOFF ∧ s.dev.actCode x = 0 ∧ s.dev.actsNow x = false)
    ∧ (∃ req : Requester, ∃ s : State, let x := s.dev.stagedAct; Accepts req Reg.EDS_ACT_PUSH 1#32 s ∧ x.kind = haOFF ∧ s.dev.actCode x = 0 ∧ x.ref = refNOW)
    ∧ (∃ req : Requester, ∃ s : State, let x := s.dev.stagedAct; Accepts req Reg.EDS_ACT_PUSH 1#32 s ∧ x.kind = haOFF ∧ s.dev.actCode x ≠ 0)
    ∧ (∃ req : Requester, ∃ s : State, let x := s.dev.stagedAct; Accepts req Reg.EDS_ACT_PUSH 1#32 s ∧ x.kind = haRELEASE ∧ s.dev.actCode x = 0 ∧ s.dev.actsNow x = false)
    ∧ (∃ req : Requester, ∃ s : State, let x := s.dev.stagedAct; Accepts req Reg.EDS_ACT_PUSH 1#32 s ∧ x.kind = haRELEASE ∧ s.dev.actCode x = 0 ∧ x.ref = refNOW)
    ∧ (∃ req : Requester, ∃ s : State, let x := s.dev.stagedAct; Accepts req Reg.EDS_ACT_PUSH 1#32 s ∧ x.kind = haRELEASE ∧ s.dev.actCode x ≠ 0)
    ∧ (∃ req : Requester, ∃ tag : Nat, ∃ s : State, Accepts req Reg.EDS_ACT_CANCEL (w32 tag) s)
    ∧ (∃ a : HostAct, ∃ s : State, s.dev.eds.acts.find? (fun b => b.ref = refPOSITION) = some a) :=
  ⟨⟨.hsl, 511, .reset, by decide +kernel⟩,
   ⟨.hsl, .reset, by decide +kernel⟩,
   ⟨.hsl, act 1 0x10000000, by dsimp only; decide +kernel⟩,
   ⟨.hsl, act 0 0x10000000, by dsimp only; decide +kernel⟩,
   ⟨.hsl, act 1 0x10000000, by dsimp only; decide +kernel⟩,
   ⟨.hsl, act 2 0x30000000, by dsimp only; decide +kernel⟩,
   ⟨.hsl, act 1 0x30000000, by dsimp only; decide +kernel⟩,
   ⟨.hsl, rg [(Reg.CH_CFG 0, 1#32), (Reg.EDS_ACT_W 0, 0x21000000#32), (Reg.EDS_ACT_W 3, 1#32)], by dsimp only; decide +kernel⟩,
   ⟨.hsl, act 1 0x20000000, by dsimp only; decide +kernel⟩,
   ⟨.hsl, act 4 0x20000000, by dsimp only; decide +kernel⟩,
   ⟨.hsl, rg [(Reg.CH_CFG 0, 1#32), (Reg.EDS_ACT_W 0, 0x41000000#32), (Reg.EDS_ACT_W 3, 1#32)], by dsimp only; decide +kernel⟩,
   ⟨.hsl, act 3 0x40000000, by dsimp only; decide +kernel⟩,
   ⟨.hsl, act 0 0x40000000, by dsimp only; decide +kernel⟩,
   ⟨.hsl, 65535, .reset, by decide +kernel⟩,
   ⟨⟨[0x14000000#32], none, 0, 0⟩, st (fun d => { d with eds := { d.eds with acts := [⟨[0x14000000#32], none, 0, 0⟩] } }), by decide +kernel⟩⟩

theorem test_hypotheses_LatencyAndDiagnostics :
    (∃ c : Fin 512, ∃ closing : Bool, ∃ sig : Nat, ∃ s : State, let m : Int := ((sig + 500) / 1000 : Nat) + s.dev.sigOfs closing c; let due : Bool := if closing then !(s.dev.chan c).sigOffDone && (s.dev.chan c).tOff.isSome else !(s.dev.chan c).sigOnDone; s.dev.profiled c = true ∧ due = true ∧ s.dev.learns c = true ∧ s.dev.rejects c closing (some m) = none)
    ∧ (∃ c : Fin 512, ∃ closing : Bool, ∃ sig : Nat, ∃ why : Nat, ∃ s : State, let m : Int := ((sig + 500) / 1000 : Nat) + s.dev.sigOfs closing c; let due : Bool := if closing then !(s.dev.chan c).sigOffDone && (s.dev.chan c).tOff.isSome else !(s.dev.chan c).sigOnDone; s.dev.profiled c = true ∧ due = true ∧ s.dev.learns c = true ∧ s.dev.rejects c closing (some m) = some why)
    ∧ (∃ c : Fin 512, ∃ closing : Bool, ∃ why : Nat, ∃ s : State, let due : Bool := if closing then !(s.dev.chan c).sigOffDone && (s.dev.chan c).tOff.isSome else !(s.dev.chan c).sigOnDone; s.dev.profiled c = true ∧ due = true ∧ s.dev.learns c = true ∧ s.dev.rejects c closing none = some why)
    ∧ (∃ req : Requester, ∃ s : State, Readable req Reg.DIAG_DIAG_PORT s ∧ s.dev.bit Reg.DIAG_DIAG_CTRL 0 = true)
    ∧ (∃ req : Requester, ∃ s : State, Readable req Reg.DIAG_DIAG_PORT s ∧ s.dev.bit Reg.DIAG_DIAG_CTRL 0 = false) :=
  ⟨⟨0, false, 1500, learner (fun x => { x with sigOnDone := false }), by dsimp only; decide +kernel⟩,
   ⟨0, false, 1500, rjMERGED, learner (fun x => { x with sigOnDone := false, merged := true }), by dsimp only; decide +kernel⟩,
   ⟨0, true, rjNONE, learner (fun x => { x with sigOffDone := false, tOff := some 5 }), by dsimp only; decide +kernel⟩,
   ⟨.hsl, rg [(Reg.DIAG_DIAG_CTRL, 1#32)], by decide +kernel⟩,
   ⟨.hsl, .reset, by decide +kernel⟩⟩

theorem test_hypotheses_EdgesAndPhases :
    (∃ c : Fin 512, ∃ s : State, let x := s.dev.chan c; x.queue = [])
    ∧ (∃ c : Fin 512, ∃ e : Edge, ∃ rest : List Edge, ∃ s : State, let x := s.dev.chan c; x.queue = e :: rest ∧ e.kind = .release)
    ∧ (∃ c : Fin 512, ∃ e : Edge, ∃ rest : List Edge, ∃ s : State, let x := s.dev.chan c; x.queue = e :: rest ∧ e.kind ≠ .release ∧ e.on = false)
    ∧ (∃ c : Fin 512, ∃ e : Edge, ∃ rest : List Edge, ∃ s : State, let x := s.dev.chan c; x.queue = e :: rest ∧ e.kind ≠ .release ∧ e.on = true ∧ (s.dev.inhibited c = true ∨ x.phase = phFAULT))
    ∧ (∃ c : Fin 512, ∃ e : Edge, ∃ rest : List Edge, ∃ s : State, let x := s.dev.chan c; x.queue = e :: rest ∧ e.kind ≠ .release ∧ e.on = true ∧ e.dur = none ∧ s.dev.inhibited c = false ∧ s.dev.driveClockLost c = false ∧ (s.dev.bank (c / 8)).sort = none ∧ x.phase = phOFF ∧ s.dev.profiled c = true ∧ x.tOff = none ∧ (∀ b, s.dev.startForbidden c b = false) ∧ s.dev.railReadyNow (railOf c) = true)
    ∧ (∃ c : Fin 512, ∃ e : Edge, ∃ rest : List Edge, ∃ s : State, let x := s.dev.chan c; x.queue = e :: rest ∧ e.kind ≠ .release ∧ e.on = true ∧ e.dur = none ∧ s.dev.inhibited c = false ∧ s.dev.driveClockLost c = false ∧ (s.dev.bank (c / 8)).sort = none ∧ x.phase = phOFF ∧ (s.dev.mode c = mSWITCH ∨ s.dev.mode c = mMETER))
    ∧ (∃ c : Fin 512, ∃ s : State, let x := s.dev.chan c; x.phase = phBOOST)
    ∧ (∃ c : Fin 512, ∃ s : State, let x := s.dev.chan c; (x.phase = phBOOST ∨ x.phase = phPEAK) ∧ x.tPeak = none ∧ x.degraded = false ∧ s.dev.diagOn c = true)
    ∧ (∃ c : Fin 512, ∃ p : Nat, ∃ s : State, let x := s.dev.chan c; x.phase = phPEAK ∧ x.tPeak = some p)
    ∧ (∃ c : Fin 512, ∃ p : Nat, ∃ s : State, let x := s.dev.chan c; x.phase = phDECAY ∧ x.tOff = some p)
    ∧ (∃ c : Fin 512, ∃ e : Edge, ∃ p : Nat, ∃ s : State, let x := s.dev.chan c; x.phase = phWAIT ∧ x.waitEdge = some e ∧ x.waitAt = some p ∧ x.expired = false ∧ (s.dev.bank (c / 8)).sort = none ∧ s.dev.firstInLine c = true ∧ (∀ b, s.dev.startForbidden c b = false) ∧ s.dev.railReadyNow (railOf c) = true)
    ∧ (∃ c : Fin 512, ∃ e : Edge, ∃ p : Nat, ∃ s : State, let x := s.dev.chan c; x.phase = phWAIT ∧ x.waitEdge = some e ∧ x.waitEnd = some p ∧ x.expired = false ∧ s.dev.bit (Reg.BK_OVL_OUTCOME (c / 8)) 0 = true)
    ∧ (∃ c : Fin 512, ∃ e : Edge, ∃ p : Nat, ∃ s : State, let x := s.dev.chan c; x.phase = phWAIT ∧ x.waitEdge = some e ∧ x.waitEnd = some p ∧ x.expired = false ∧ s.dev.bit (Reg.BK_OVL_OUTCOME (c / 8)) 0 = false)
    ∧ (∃ c : Fin 512, ∃ p : Nat, ∃ s : State, let x := s.dev.chan c; phaseOn x.phase = true ∧ x.onTimer = some p ∧ s.dev.offDue c (p + s.dev.maxOnT c) = false) :=
  ⟨⟨0, .reset, by dsimp only; decide +kernel⟩,
   ⟨0, { t := 5, on := false, kind := .release }, [], ch0 1 (fun x => { x with queue := [{ t := 5, on := false, kind := .release }] }), by dsimp only; decide +kernel⟩,
   ⟨0, { t := 5, on := false }, [], ch0 1 (fun x => { x with queue := [{ t := 5, on := false }] }), by dsimp only; decide +kernel⟩,
   ⟨0, onEdge, [], ch0 1 (fun x => { x with queue := [onEdge], phase := phFAULT }), by dsimp only; decide +kernel⟩,
   ⟨0, onEdge, [], ch0 1 (fun x => { x with queue := [onEdge] }) [(Reg.VB_RAIL_STATE 0, 2#32)], by dsimp only; decide +kernel⟩,
   ⟨0, onEdge, [onEdge], ch0 3 (fun x => { x with queue := [onEdge, onEdge] }), by dsimp only; decide +kernel⟩,
   ⟨0, ch0 1 (fun x => { x with phase := phBOOST }), by dsimp only; decide +kernel⟩,
   ⟨0, ch0 1 (fun x => { x with phase := phPEAK }), by dsimp only; decide +kernel⟩,
   ⟨0, 0, ch0 1 (fun x => { x with phase := phPEAK, tPeak := some 0 }), by dsimp only; decide +kernel⟩,
   ⟨0, 0, ch0 1 (fun x => { x with phase := phDECAY, tOff := some 0 }), by dsimp only; decide +kernel⟩,
   ⟨0, onEdge, 0, ch0 1 (fun x => { x with phase := phWAIT, waitEdge := some onEdge, waitAt := some 0 }) [(Reg.VB_RAIL_STATE 0, 2#32)], by dsimp only; decide +kernel⟩,
   ⟨0, onEdge, 9, ch0 1 (fun x => { x with phase := phWAIT, waitEdge := some onEdge, waitEnd := some 9 }) [(Reg.BK_OVL_OUTCOME 0, 1#32)], by dsimp only; decide +kernel⟩,
   ⟨0, onEdge, 9, ch0 1 (fun x => { x with phase := phWAIT, waitEdge := some onEdge, waitEnd := some 9 }), by dsimp only; decide +kernel⟩,
   ⟨0, 9, ch0 3 (fun x => { x with phase := phSWITCHED, onTimer := some 9 }), by dsimp only; decide +kernel⟩⟩

theorem test_hypotheses_DriveDiagnostics :
    (∃ c : Fin 512, ∃ milliA : Nat, ∃ s : State, s.dev.driven c = true ∧ 16000 < milliA ∧ s.dev.diagOn c = true)
    ∧ (∃ c : Fin 512, ∃ milliA : Nat, ∃ s : State, s.dev.driven c = true ∧ 16000 < milliA ∧ s.dev.diagOn c = false)
    ∧ (∃ c : Fin 512, ∃ s : State, let x := s.dev.chan c; (x.phase = phPEAK ∨ x.phase = phHOLD ∨ x.phase = phDECAY) ∧ s.dev.diagOn c = true)
    ∧ (∃ c : Fin 512, ∃ milliA : Nat, ∃ s : State, s.dev.driven c = true ∧ s.dev.drv.vbatLow = false ∧ milliA < s.dev.rdN (Reg.BK_OPEN_ON_MA (c / 8)) ∧ s.dev.diagOn c = true)
    ∧ (∃ c : Fin 512, ∃ s : State, let x := s.dev.chan c; x.phase = phOFF ∧ s.dev.driven c = false ∧ s.dev.mode c ≠ mOFF ∧ s.dev.drv.vbatLow = false ∧ s.dev.diagOn c = true)
    ∧ (∃ c : Fin 512, ∃ s : State, let x := s.dev.chan c; x.phase ≠ phFAULT ∧ s.dev.bit (Reg.FAULT_EN (pDT (c / 64))) 18 = true)
    ∧ (∃ c : Fin 512, ∃ milliA : Nat, ∃ s : State, s.dev.driven c = false ∧ 150 < milliA ∧ s.dev.bit (Reg.FAULT_EN (pBK (c / 8))) 24 = true ∧ (s.dev.bank (c / 8)).fault = false)
    ∧ (∃ b : Fin 64, ∃ bankMA : Nat, ∃ sumMA : Nat, ∃ s : State, let tol := max (s.dev.rdN (Reg.BK_DRIFT_TOL b)) (s.dev.rdN (Reg.BK_DRIFT_PCT b) * sumMA / 100); tol < ((bankMA : Int) - sumMA).natAbs ∧ s.dev.drv.vbatLow = false ∧ s.dev.bit (Reg.FAULT_EN (pBK b)) 25 = true ∧ (s.dev.bank b).fault = false)
    ∧ (∃ b : Fin 64, ∃ bankMA : Nat, ∃ sumMA : Nat, ∃ s : State, let tol := max (s.dev.rdN (Reg.BK_DRIFT_TOL b)) (s.dev.rdN (Reg.BK_DRIFT_PCT b) * sumMA / 100); ((bankMA : Int) - sumMA).natAbs ≤ tol)
    ∧ (∃ k : Fin 8, ∃ tempA : Int, ∃ tempB : Int, ∃ s : State, s.dev.rdN (Reg.DT_TEMP_DIFF k) < (tempA - tempB).natAbs ∧ s.dev.bit (Reg.FAULT_EN (pDT k)) 16 = true ∧ (s.dev.tile k).fault = false)
    ∧ (∃ k : Fin 8, ∃ tempA : Int, ∃ tempB : Int, ∃ s : State, (tempA - tempB).natAbs ≤ s.dev.rdN (Reg.DT_TEMP_DIFF k)) :=
  ⟨⟨0, 16001, ch0 1 (fun x => { x with phase := phPEAK }), by decide +kernel⟩,
   ⟨0, 16001, ch0 1 (fun x => { x with phase := phPEAK }) [(Reg.FAULT_EN (pBK 0), 0#32)], by decide +kernel⟩,
   ⟨0, ch0 1 (fun x => { x with phase := phDECAY }), by dsimp only; decide +kernel⟩,
   ⟨0, 29, ch0 1 (fun x => { x with phase := phHOLD }), by decide +kernel⟩,
   ⟨0, ch0 1 id, by dsimp only; decide +kernel⟩,
   ⟨0, .reset, by dsimp only; decide +kernel⟩,
   ⟨0, 151, .reset, by decide +kernel⟩,
   ⟨63, 201, 0, .reset, by dsimp only; decide +kernel⟩,
   ⟨63, 200, 0, .reset, by dsimp only; decide +kernel⟩,
   ⟨7, 0, 101, .reset, by decide +kernel⟩,
   ⟨7, 0, 100, .reset, by decide +kernel⟩⟩

theorem test_hypotheses_RailsAndClears :
    (∃ k : Fin 4, ∃ s : State, (s.dev.railState k = 1 ∨ s.dev.railState k = 3))
    ∧ (∃ k : Fin 4, ∃ s : State, s.dev.railState k = 2)
    ∧ (∃ k : Fin 4, ∃ why : RailFailure, ∃ s : State, (s.dev.railState k = 1 ∨ s.dev.railState k = 2 ∨ s.dev.railState k = 3) ∧ why ≠ .chargeTimeout)
    ∧ (∃ k : Fin 4, ∃ p : Nat, ∃ s : State, s.dev.railState k = 1 ∧ (s.dev.rail k).chargeFrom = some p)
    ∧ (∃ req : Requester, ∃ k : Fin 4, ∃ s : State, let u := arrived (Reg.VB_RAIL_CLR k) s; Accepts req (Reg.VB_RAIL_CLR k) 1#32 u ∧ u.dev.railState k = 4)
    ∧ (∃ req : Requester, ∃ k : Fin 4, ∃ s : State, let u := arrived (Reg.VB_RAIL_CLR k) s; Accepts req (Reg.VB_RAIL_CLR k) 1#32 u ∧ u.dev.railState k ≠ 4)
    ∧ (∃ req : Requester, ∃ b : Fin 64, ∃ mask : Fin 256, ∃ s : State, let u := arrived (Reg.BK_CHF_CLR b) s; Accepts req (Reg.BK_CHF_CLR b) (w32 mask) u)
    ∧ (∃ req : Requester, ∃ b : Fin 64, ∃ s : State, let u := arrived (Reg.BK_CHF_CLR b) s; Accepts req (Reg.BK_CHF_CLR b) 0x100#32 u)
    ∧ (∃ req : Requester, ∃ tl : Fin 8, ∃ s : State, let u := arrived (Reg.DT_TILE_CLR tl) s; Accepts req (Reg.DT_TILE_CLR tl) 1#32 u)
    ∧ (∃ b : Fin 64, ∃ s : State, ∃ c, c / 8 = b.val ∧ (s.dev.chan c).phase = phFAULT ∧ (s.dev.bank b).clr.testBit (c % 8) = true ∧ (s.dev.chan c).cause ≠ cBANK ∧ (s.dev.chan c).cause ≠ cTILE)
    ∧ (∃ b : Fin 64, ∃ s : State, ∃ c, c / 8 = b.val ∧ (s.dev.chan c).phase = phFAULT ∧ (s.dev.bank b).clr.testBit 8 = true ∧ (s.dev.chan c).cause = cBANK)
    ∧ (∃ b : Fin 64, ∃ s : State, ∃ c, c / 8 = b.val ∧ (s.dev.chan c).phase = phFAULT ∧ (s.dev.bank b).clr.testBit 8 = true ∧ (s.dev.chan c).cause = cBANK ∧ (s.dev.tile (c / 64)).fault = false)
    ∧ (∃ b : Fin 64, ∃ s : State, ∃ c, c / 8 = b.val ∧ (s.dev.chan c).phase = phFAULT ∧ (s.dev.bank b).clr.testBit 8 = true ∧ (s.dev.chan c).cause = cBANK ∧ (s.dev.tile (c / 64)).fault = true)
    ∧ (∃ b : Fin 64, ∃ s : State, ∃ c, c / 8 = b.val ∧ (s.dev.chan c).phase = phFAULT ∧ (s.dev.bank b).clr = 0)
    ∧ (∃ tl : Fin 8, ∃ s : State, ∃ c, c / 64 = tl.val ∧ (s.dev.tile tl).clr = true ∧ (s.dev.chan c).cause = cTILE)
    ∧ (∃ tl : Fin 8, ∃ s : State, ∃ c, c / 64 = tl.val ∧ (s.dev.tile tl).clr = true ∧ (s.dev.chan c).cause = cTILE ∧ (s.dev.bank (c / 8)).fault = false)
    ∧ (∃ tl : Fin 8, ∃ s : State, ∃ c, c / 64 = tl.val ∧ (s.dev.tile tl).clr = true ∧ (s.dev.chan c).cause = cTILE ∧ (s.dev.bank (c / 8)).fault = true) :=
  ⟨⟨3, rail 3 1, by decide +kernel⟩,
   ⟨3, rail 3 2, by decide +kernel⟩,
   ⟨0, .converter, rail 0 3, by decide +kernel⟩,
   ⟨0, 7, st (fun d => (d.wr (Reg.VB_RAIL_STATE 0) 1#32).modRail 0 (fun r => { r with chargeFrom := some 7 })), by decide +kernel⟩,
   ⟨.hsl, 0, rail 0 4, by dsimp only; decide +kernel⟩,
   ⟨.hsl, 0, rail 0 2, by dsimp only; decide +kernel⟩,
   ⟨.hsl, 63, 255, .reset, by dsimp only; decide +kernel⟩,
   ⟨.hsl, 63, .reset, by dsimp only; decide +kernel⟩,
   ⟨.hsl, 7, .reset, by dsimp only; decide +kernel⟩,
   ⟨0, st (fun d => (d.modBank 0 (fun x => { x with clr := 128 })).modChan 7 (fun x => { x with phase := phFAULT, cause := cINRUSH })), 7, by decide +kernel⟩,
   ⟨0, st (fun d => (d.modBank 0 (fun x => { x with clr := 256 })).modChan 7 (fun x => { x with phase := phFAULT, cause := cBANK })), 7, by decide +kernel⟩,
   ⟨0, st (fun d => (d.modBank 0 (fun x => { x with clr := 256 })).modChan 7 (fun x => { x with phase := phFAULT, cause := cBANK })), 7, by decide +kernel⟩,
   ⟨0, st (fun d => ((d.modTile 0 (fun x => { x with fault := true })).modBank 0 (fun x => { x with clr := 256 })).modChan 7 (fun x => { x with phase := phFAULT, cause := cBANK })), 7, by decide +kernel⟩,
   ⟨0, ch0 1 (fun x => { x with phase := phFAULT }), 0, by decide +kernel⟩,
   ⟨0, st (fun d => (d.modTile 0 (fun x => { x with clr := true })).modChan 63 (fun x => { x with phase := phFAULT, cause := cTILE })), 63, by decide +kernel⟩,
   ⟨0, st (fun d => (d.modTile 0 (fun x => { x with clr := true })).modChan 63 (fun x => { x with phase := phFAULT, cause := cTILE })), 63, by decide +kernel⟩,
   ⟨0, st (fun d => ((d.modBank 7 (fun x => { x with fault := true })).modTile 0 (fun x => { x with clr := true })).modChan 63 (fun x => { x with phase := phFAULT, cause := cTILE })), 63, by decide +kernel⟩⟩

theorem test_hypotheses_SwitchChannels :
    (∃ c : Fin 512, ∃ p : Nat, ∃ s : State, let x := s.dev.chan c; x.phase = phSWITCHED ∧ x.winEnd = some p)
    ∧ (∃ c : Fin 512, ∃ milliA : Nat, ∃ s : State, let x := s.dev.chan c; s.dev.mode c = mSWITCH ∧ x.phase = phSWITCHED ∧ s.dev.inWindow c = true ∧ x.winLim < milliA ∧ s.dev.clockLost 5 = false ∧ s.dev.diagOn c = true)
    ∧ (∃ c : Fin 512, ∃ milliA : Nat, ∃ s : State, let x := s.dev.chan c; s.dev.mode c = mSWITCH ∧ x.phase = phSWITCHED ∧ 2750 < milliA ∧ s.dev.clockLost 5 = false ∧ s.dev.diagOn c = true)
    ∧ (∃ b : Fin 64, ∃ bankMA : Nat, ∃ i : Nat, ∃ samples : List Nat, ∃ clamped : List (Fin 8), ∃ s : State, let culprits := (List.range 8).filter (fun i => s.dev.exceeds (8 * b + i) (s.dev.sampleOf samples i) (clamped.any (·.val = i))); let trips : Prop := (40000 < bankMA ∨ s.dev.fld (Reg.BK_BK_TRIP b) 11 0 * 10 < bankMA) ∧ (s.dev.bank b).fault = false ∧ (s.dev.bank b).sort = none ∧ (s.dev.bank b).reclose = none; trips ∧ culprits = [i] ∧ (s.dev.chan (8 * b + i)).phase ≠ phFAULT)
    ∧ (∃ b : Fin 64, ∃ bankMA : Nat, ∃ samples : List Nat, ∃ clamped : List (Fin 8), ∃ s : State, let culprits := (List.range 8).filter (fun i => s.dev.exceeds (8 * b + i) (s.dev.sampleOf samples i) (clamped.any (·.val = i))); let trips : Prop := (40000 < bankMA ∨ s.dev.fld (Reg.BK_BK_TRIP b) 11 0 * 10 < bankMA) ∧ (s.dev.bank b).fault = false ∧ (s.dev.bank b).sort = none ∧ (s.dev.bank b).reclose = none; trips ∧ culprits.length ≠ 1 ∧ (s.dev.bank b).sortEnd = none)
    ∧ (∃ b : Fin 64, ∃ bankMA : Nat, ∃ p : Nat, ∃ samples : List Nat, ∃ clamped : List (Fin 8), ∃ s : State, let culprits := (List.range 8).filter (fun i => s.dev.exceeds (8 * b + i) (s.dev.sampleOf samples i) (clamped.any (·.val = i))); let trips : Prop := (40000 < bankMA ∨ s.dev.fld (Reg.BK_BK_TRIP b) 11 0 * 10 < bankMA) ∧ (s.dev.bank b).fault = false ∧ (s.dev.bank b).sort = none ∧ (s.dev.bank b).reclose = none; trips ∧ culprits.length ≠ 1 ∧ (s.dev.bank b).sortEnd = some p ∧ s.dev.tick ≤ p + 1000000 * tUs)
    ∧ (∃ b : Fin 64, ∃ p : Nat, ∃ s : State, (s.dev.bank b).reclose = some p)
    ∧ (∃ b : Fin 64, ∃ bankMA : Nat, ∃ r : SortRun, ∃ s : State, (s.dev.bank b).sort = some r ∧ r.tested = false ∧ 150 < bankMA)
    ∧ (∃ b : Fin 64, ∃ bankMA : Nat, ∃ r : SortRun, ∃ s : State, (s.dev.bank b).sort = some r ∧ r.tested = false ∧ bankMA ≤ 150)
    ∧ (∃ b : Fin 64, ∃ r : SortRun, ∃ s : State, (s.dev.bank b).sort = some r ∧ r.tested = true ∧ r.step < 8)
    ∧ (∃ b : Fin 64, ∃ r : SortRun, ∃ s : State, (s.dev.bank b).sort = some r ∧ r.step = 8)
    ∧ (∃ c : Fin 512, ∃ p : Nat, ∃ s : State, let x := s.dev.chan c; x.lossEnd = some p)
    ∧ (∃ p : Nat, ∃ s : State, s.dev.drv.strobeStop = some p ∧ s.dev.drv.strobeLost = false) :=
  ⟨⟨0, 9, ch0 3 (fun x => { x with phase := phSWITCHED, winEnd := some 9 }), by dsimp only; decide +kernel⟩,
   ⟨0, 101, ch0 3 (fun x => { x with phase := phSWITCHED, winEnd := some 9, winLim := 100 }), by dsimp only; decide +kernel⟩,
   ⟨0, 2751, ch0 3 (fun x => { x with phase := phSWITCHED }), by dsimp only; decide +kernel⟩,
   ⟨0, 40001, 0, [2751, 0, 0, 0, 0, 0, 0, 0], [], ch0 3 (fun x => { x with phase := phSWITCHED }), by dsimp only; decide +kernel⟩,
   ⟨0, 40001, [0, 0, 0, 0, 0, 0, 0, 0], [], .reset, by dsimp only; decide +kernel⟩,
   ⟨0, 40001, 0, [0, 0, 0, 0, 0, 0, 0, 0], [], bank0 (fun x => { x with sortEnd := some 0 }), by dsimp only; decide +kernel⟩,
   ⟨0, 9, bank0 (fun x => { x with reclose := some 9 }), by decide +kernel⟩,
   ⟨0, 151, ⟨0, 0, false, []⟩, bank0 (fun x => { x with sort := some ⟨0, 0, false, []⟩ }), by decide +kernel⟩,
   ⟨0, 150, ⟨0, 0, false, []⟩, bank0 (fun x => { x with sort := some ⟨0, 0, false, []⟩ }), by decide +kernel⟩,
   ⟨0, ⟨0, 7, true, []⟩, bank0 (fun x => { x with sort := some ⟨0, 7, true, []⟩ }), by decide +kernel⟩,
   ⟨0, ⟨0, 8, true, []⟩, bank0 (fun x => { x with sort := some ⟨0, 8, true, []⟩ }), by decide +kernel⟩,
   ⟨0, 9, ch0 3 (fun x => { x with phase := phSWITCHED, lossEnd := some 9 }), by dsimp only; decide +kernel⟩,
   ⟨0, st (fun d => { d with drv := { d.drv with strobeStop := some 0 } }), by decide +kernel⟩⟩

theorem test_hypotheses_LedgerCommands :
    (∃ req : Requester, ∃ s : State, Accepts req Reg.LDG_LDG_CMD 1#32 s)
    ∧ (∃ req : Requester, ∃ s : State, Accepts req Reg.LDG_LDG_CMD 2#32 s)
    ∧ (∃ req : Requester, ∃ s : State, Accepts req Reg.LDG_LDG_CMD 3#32 s)
    ∧ (∃ s : State, s.dev.sup.sessReq = true ∧ s.dev.pow.pfAt = none ∧ s.dev.pow.pfBooked = false)
    ∧ (∃ s : State, s.dev.pow.pfAt.isSome = true ∧ s.dev.pow.pfBooked = false)
    ∧ (∃ s : State, s.dev.pow.pfAt.isSome = true ∧ s.dev.pow.pfBooked = false)
    ∧ (∃ s : State, s.dev.pow.pfBooked = true ∧ s.dev.pow.pfAt.isSome = true)
    ∧ (∃ s : State, s.dev.sup.snapReq = true ∧ s.dev.sup.sessReq = false)
    ∧ (∃ sec : Bool, ∃ s : State, s.dev.sup.snapReq = false ∧ s.dev.sup.sessReq = false ∧ s.dev.sup.flushReq = false ∧ sec = false ∧ s.dev.pow.pfAt = none)
    ∧ (∃ x : LedgerSlot, ∃ s : State, s.ldg.flushing = some x ∧ x.pf = true)
    ∧ (∃ x : LedgerSlot, ∃ s : State, s.ldg.flushing = some x ∧ x.pf = false ∧ s.dev.stat pREC 16 = false)
    ∧ (∃ x : LedgerSlot, ∃ s : State, s.ldg.flushing = some x ∧ x.pf = false)
    ∧ (∃ req : Requester, ∃ b : LedgerBook, ∃ s : State, Readable req Reg.LDG_SNAP_PORT s ∧ s.ldg.snap = some b)
    ∧ (∃ req : Requester, ∃ s : State, Readable req Reg.LDG_SNAP_PORT s ∧ s.ldg.snap = none) :=
  ⟨⟨.hsl, .reset, by decide +kernel⟩,
   ⟨.hsl, .reset, by decide +kernel⟩,
   ⟨.hsl, .reset, by decide +kernel⟩,
   ⟨lost (fun x => { x with sessReq := true }), by decide +kernel⟩,
   ⟨st (fun d => { d with pow := { d.pow with pfAt := some 5 } }), by decide +kernel⟩,
   ⟨st (fun d => { d with pow := { d.pow with pfAt := some 5 } }), by decide +kernel⟩,
   ⟨st (fun d => { d with pow := { d.pow with pfAt := some 5, pfBooked := true } }), by decide +kernel⟩,
   ⟨lost (fun x => { x with snapReq := true }), by decide +kernel⟩,
   ⟨false, .reset, by decide +kernel⟩,
   ⟨⟨{}, 5, [], true⟩, { State.reset with ldg := { flushing := some ⟨{}, 5, [], true⟩ } }, by decide +kernel⟩,
   ⟨⟨{}, 5, [], false⟩, { State.reset with ldg := { flushing := some ⟨{}, 5, [], false⟩ } }, by decide +kernel⟩,
   ⟨⟨{}, 5, [], false⟩, { State.reset with ldg := { flushing := some ⟨{}, 5, [], false⟩ } }, by decide +kernel⟩,
   ⟨.hsl, {}, { State.reset with ldg := { snap := some {} } }, by decide +kernel⟩,
   ⟨.hsl, .reset, by decide +kernel⟩⟩

theorem test_hypotheses_LoopEvaluations :
    (∃ loop : Fin 128, ∃ n : Nat, ∃ j : Nat, ∃ p : Nat, ∃ s : State, let l := loop.val; s.dev.nextInstant l = some (n, j, p) ∧ s.dev.lpeOn = true ∧ s.dev.lpEn l = true)
    ∧ (∃ loop : Fin 128, ∃ s : State, let l := loop.val; (s.dev.nextInstant l = none ∨ s.dev.lpeOn = false ∨ s.dev.lpEn l = false))
    ∧ (∃ loop : Fin 128, ∃ x : Latched, ∃ s : State, let l := loop.val; let d := (s.dev.modLoop l (fun y => { y with latched := none })).countEval; let k := d.derived l; let fr := d.front l x k; let res := d.autoEval l x k fr.2.1 fr.2.2.1 fr.2.2.2; (s.dev.loop l).latched = some x ∧ s.dev.lpeOn = true ∧ x.state = lsAUTO ∧ (s.dev.loop l).preset = 0 ∧ fIsZero (s.dev.rd (Reg.LPT_FE_LIMIT l)) = true ∧ res.2.2.2.all fFinite = true)
    ∧ (∃ loop : Fin 128, ∃ x : Latched, ∃ s : State, let l := loop.val; let d := (s.dev.modLoop l (fun y => { y with latched := none })).countEval; let k := d.derived l; let fr := d.front l x k; let res := d.autoEval l x k fr.2.1 fr.2.2.1 fr.2.2.2; (s.dev.loop l).latched = some x ∧ s.dev.lpeOn = true ∧ x.state = lsAUTO ∧ (s.dev.loop l).preset = 0 ∧ res.2.2.2.all fFinite = false)
    ∧ (∃ loop : Fin 128, ∃ x : Latched, ∃ s : State, let l := loop.val; let d := (s.dev.modLoop l (fun y => { y with latched := none })).countEval; let k := d.derived l; let fr := d.front l x k; let out := if x.state = lsMANUAL then s.dev.manualOut l k else s.dev.rd (Reg.LPT_HOLD_VAL l); (s.dev.loop l).latched = some x ∧ s.dev.lpeOn = true ∧ x.state ≠ lsAUTO ∧ [fr.2.1, fr.2.2.1, fr.2.2.2, fSub fr.2.2.1 fr.2.1, out].all fFinite = true)
    ∧ (∃ loop : Fin 128, ∃ x : Latched, ∃ s : State, let l := loop.val; let d := (s.dev.modLoop l (fun y => { y with latched := none })).countEval; let k := d.derived l; let fr := d.front l x k; let out := if x.state = lsMANUAL then s.dev.manualOut l k else s.dev.rd (Reg.LPT_HOLD_VAL l); (s.dev.loop l).latched = some x ∧ s.dev.lpeOn = true ∧ x.state ≠ lsAUTO ∧ [fr.2.1, fr.2.2.1, fr.2.2.2, fSub fr.2.2.1 fr.2.1, out].all fFinite = false)
    ∧ (∃ loop : Fin 128, ∃ s : State, let l := loop.val; ((s.dev.loop l).latched = none ∨ s.dev.lpeOn = false))
    ∧ (∃ loop : Fin 128, ∃ x : Latched, ∃ s : State, let l := loop.val; (s.dev.loop l).latched = some x)
    ∧ (∃ loop : Fin 128, ∃ s : State, let l := loop.val; (s.dev.loop l).latched = none)
    ∧ (∃ req : Requester, ∃ v : W32, ∃ s : State, let u := arrived Reg.LPE_LP_CLR s; Accepts req Reg.LPE_LP_CLR v u ∧ bitOf v 8 = true)
    ∧ (∃ v : W32, bitOf v 8 = false) :=
  ⟨⟨0, 0, 0, 0, loop0 id, by dsimp only; decide +kernel⟩,
   ⟨127, .reset, by dsimp only; decide +kernel⟩,
   ⟨0, latch 1, loop0 (fun y => { y with latched := some (latch 1) }) [(Reg.LPT_FB_SCALE 0, f1), (Reg.LPT_BQ1 0 0, f1), (Reg.LPT_BQ2 0 0, f1), (Reg.LPT_KP 0, f1)], by dsimp only; decide +kernel⟩,
   ⟨0, latch 1, loop0 (fun y => { y with latched := some (latch 1) }) [(Reg.LPT_FB_OFS 0, fInf)], by dsimp only; decide +kernel⟩,
   ⟨0, latch 2, loop0 (fun y => { y with latched := some (latch 2) }), by dsimp only; decide +kernel⟩,
   ⟨0, latch 3, loop0 (fun y => { y with latched := some (latch 3) }) [(Reg.LPT_FB_OFS 0, fInf)], by dsimp only; decide +kernel⟩,
   ⟨0, .reset, by dsimp only; decide +kernel⟩,
   ⟨0, latch 3, loop0 (fun y => { y with latched := some (latch 3) }), by dsimp only; decide +kernel⟩,
   ⟨0, .reset, by dsimp only; decide +kernel⟩,
   ⟨.hsl, 0x17F#32, .reset, by dsimp only; decide +kernel⟩,
   ⟨0#32, by decide +kernel⟩⟩

theorem test_hypotheses_Soundings :
    (∃ req : Requester, ∃ mask : Nat, ∃ s : State, let bad (s : State) := (List.range 16).any (fun c => mask.testBit c && s.dev.bit (Reg.SND_SND_SRC c) 24 && s.dev.fld (Reg.SND_SND_TRIG c) 29 16 ≠ 0); let u := arrived Reg.SND_SND_CMD s; Accepts req Reg.SND_SND_CMD (sndWord 1 mask) u ∧ bad u = false)
    ∧ (∃ req : Requester, ∃ mask : Nat, ∃ s : State, let bad (s : State) := (List.range 16).any (fun c => mask.testBit c && s.dev.bit (Reg.SND_SND_SRC c) 24 && s.dev.fld (Reg.SND_SND_TRIG c) 29 16 ≠ 0); let u := arrived Reg.SND_SND_CMD s; Accepts req Reg.SND_SND_CMD (sndWord 1 mask) u ∧ bad u = true)
    ∧ (∃ req : Requester, ∃ mask : Nat, ∃ s : State, let u := arrived Reg.SND_SND_CMD s; Accepts req Reg.SND_SND_CMD (sndWord 2 mask) u)
    ∧ (∃ req : Requester, ∃ mask : Nat, ∃ s : State, let u := arrived Reg.SND_SND_CMD s; Accepts req Reg.SND_SND_CMD (sndWord 3 mask) u)
    ∧ (∃ req : Requester, ∃ trace : Fin 16, ∃ s : State, let u := arrived Reg.SND_SND_RSEL s; Accepts req Reg.SND_SND_RSEL (w32 trace) u)
    ∧ (∃ req : Requester, ∃ s : State, let u := arrived Reg.SND_SND_PORT s; let tr := u.dev.trace (u.dev.fld Reg.SND_SND_RSEL 3 0); Readable req Reg.SND_SND_PORT u ∧ tr.state = 3)
    ∧ (∃ req : Requester, ∃ s : State, let u := arrived Reg.SND_SND_PORT s; let tr := u.dev.trace (u.dev.fld Reg.SND_SND_RSEL 3 0); Readable req Reg.SND_SND_PORT u ∧ tr.state ≠ 3) :=
  ⟨⟨.hsl, 65535, .reset, by dsimp only; decide +kernel⟩,
   ⟨.hsl, 32768, rg [(Reg.SND_SND_SRC 15, 0x1000000#32), (Reg.SND_SND_TRIG 15, 0x10000#32)], by dsimp only; decide +kernel⟩,
   ⟨.hsl, 1, .reset, by dsimp only; decide +kernel⟩,
   ⟨.hsl, 1, .reset, by dsimp only; decide +kernel⟩,
   ⟨.hsl, 15, .reset, by dsimp only; decide +kernel⟩,
   ⟨.hsl, st (·.modTrace 0 (fun t => { t with state := 3 })), by dsimp only; decide +kernel⟩,
   ⟨.hsl, .reset, by dsimp only; decide +kernel⟩⟩

theorem test_hypotheses_HostSupervision :
    (∃ req : Requester, ∃ data : W32, ∃ s : State, Accepts req Reg.HOST_HB_KICK data s ∧ s.dev.kicksFrom req = true)
    ∧ (∃ req : Requester, ∃ data : W32, ∃ s : State, Accepts req Reg.HOST_HB_KICK data s ∧ s.dev.kicksFrom req = false)
    ∧ (∃ s : State, s.dev.stat pHOST 17 = true ∧ s.dev.sup.lost = none)
    ∧ (∃ s : State, (s.dev.stat pHOST 17 = false ∨ s.dev.sup.lost.isSome = true))
    ∧ (∃ since : Nat, ∃ s : State, s.dev.sup.lost = some (1, since) ∧ s.dev.sup.kicked = false ∧ s.dev.sup.applied = false)
    ∧ (∃ since : Nat, ∃ s : State, ∃ c, s.dev.sup.lost = some (1, since) ∧ s.dev.sup.kicked = false ∧ s.dev.sup.applied = false ∧ s.dev.metered c = true)
    ∧ (∃ since : Nat, ∃ s : State, ∃ a, a ∈ s.dev.hostTurn.eds.acts ∧ s.dev.sup.lost = some (1, since) ∧ s.dev.sup.kicked = false ∧ s.dev.sup.applied = false)
    ∧ (∃ policy : Nat, ∃ since : Nat, ∃ s : State, s.dev.sup.lost = some (policy, since) ∧ s.dev.sup.kicked = true)
    ∧ (∃ since : Nat, ∃ s : State, s.dev.sup.lost = some (0, since) ∧ s.dev.sup.applied = true ∧ s.dev.sup.closes = false)
    ∧ (∃ s : State, (s.dev.sup.lost = none ∨ s.dev.sup.applied = false ∨ s.dev.sup.closes = true)) :=
  ⟨⟨.hsl, 0#32, .reset, by decide +kernel⟩,
   ⟨.ivy1, 0#32, .reset, by decide +kernel⟩,
   ⟨rg [(Reg.STATUS pHOST, 0x20000#32)], by decide +kernel⟩,
   ⟨.reset, by decide +kernel⟩,
   ⟨0, lost (fun x => { x with lost := some (1, 0) }), by decide +kernel⟩,
   ⟨0, st (fun d => { d.wr (Reg.CH_CFG 0) 1#32 with sup := { d.sup with lost := some (1, 0) } }), 0, by decide +kernel⟩,
   ⟨0, st (fun d => { d with sup := { d.sup with lost := some (1, 0) }, eds := { d.eds with acts := [⟨[0x20000000#32], none, 0, 0⟩] } }), ⟨[0x20000000#32], none, 0, 0⟩, by decide +kernel⟩,
   ⟨2, 0, lost (fun x => { x with lost := some (2, 0), kicked := true }), by decide +kernel⟩,
   ⟨5, lost (fun x => { x with lost := some (0, 5), applied := true }), by decide +kernel⟩,
   ⟨.reset, by decide +kernel⟩⟩

theorem test_hypotheses_MpSupervisionAndArming :
    (∃ req : Requester, ∃ data : W32, ∃ s : State, Accepts req Reg.WDG_MP_KICK data s)
    ∧ (∃ s : State, let late := s.dev.toTbm (s.dev.sup.mpAt + 20000000); s.dev.mpState = mpRUN ∧ s.dev.att.boot = 4 ∧ s.dev.powerState ≤ 1 ∧ late.mpRecent.length + 1 ≤ s.dev.rdN Reg.WDG_MP_RST_MAX)
    ∧ (∃ s : State, let late := s.dev.toTbm (s.dev.sup.mpAt + 20000000); s.dev.mpState = mpRUN ∧ s.dev.att.boot = 4 ∧ s.dev.powerState ≤ 1 ∧ s.dev.rdN Reg.WDG_MP_RST_MAX < late.mpRecent.length + 1)
    ∧ (∃ s : State, (s.dev.mpState ≠ mpRUN ∨ s.dev.att.boot ≠ 4 ∨ 1 < s.dev.powerState))
    ∧ (∃ req : Requester, ∃ s : State, Accepts req Reg.WDG_WDG_CMD 1#32 s ∧ s.dev.mpState = mpRUN ∧ s.dev.mpRecent.length + 1 ≤ s.dev.rdN Reg.WDG_MP_RST_MAX)
    ∧ (∃ req : Requester, ∃ s : State, Accepts req Reg.WDG_WDG_CMD 1#32 s ∧ s.dev.mpState = mpRUN ∧ s.dev.rdN Reg.WDG_MP_RST_MAX < s.dev.mpRecent.length + 1)
    ∧ (∃ req : Requester, ∃ s : State, Accepts req Reg.WDG_WDG_CMD 1#32 s ∧ s.dev.mpState ≠ mpRUN)
    ∧ (∃ req : Requester, ∃ s : State, Accepts req Reg.WDG_WDG_CMD 2#32 s ∧ s.dev.mpState = mpHALTED)
    ∧ (∃ req : Requester, ∃ s : State, Accepts req Reg.WDG_WDG_CMD 2#32 s ∧ s.dev.mpState ≠ mpHALTED)
    ∧ (∃ s : State, s.dev.mpState = mpRESTARTING)
    ∧ (∃ s : State, s.dev.mpState ≠ mpRESTARTING)
    ∧ (∃ req : Requester, ∃ s : State, Accepts req Reg.SYS_OUT_ARM keyArm s ∧ s.dev.pow.pfAt = none ∧ s.dev.armAllowed = true)
    ∧ (∃ req : Requester, ∃ s : State, Accepts req Reg.SYS_OUT_ARM keyArm s ∧ s.dev.pow.pfAt = none ∧ s.dev.armAllowed = false)
    ∧ (∃ req : Requester, ∃ s : State, Accepts req Reg.SYS_OUT_ARM keyArm s ∧ s.dev.pow.pfAt ≠ none)
    ∧ (∃ req : Requester, ∃ s : State, Accepts req Reg.SYS_OUT_ARM keyDisarm s) :=
  ⟨⟨.mp, 0#32, .reset, by decide +kernel⟩,
   ⟨st (fun d => { d with att := { d.att with boot := 4 }, sup := { d.sup with mpRuns := [0, 1] } }), by dsimp only; decide +kernel⟩,
   ⟨st (fun d => { d with att := { d.att with boot := 4 }, sup := { d.sup with mpRuns := [0, 1, 2] } }), by dsimp only; decide +kernel⟩,
   ⟨.reset, by decide +kernel⟩,
   ⟨.hsl, .reset, by decide +kernel⟩,
   ⟨.hsl, lost (fun x => { x with mpRuns := [0, 0, 0] }), by decide +kernel⟩,
   ⟨.hsl, rg [(Reg.WDG_MP_STATE, 2#32)], by decide +kernel⟩,
   ⟨.hsl, rg [(Reg.WDG_MP_STATE, 2#32)], by decide +kernel⟩,
   ⟨.hsl, .reset, by decide +kernel⟩,
   ⟨rg [(Reg.WDG_MP_STATE, 1#32)], by decide +kernel⟩,
   ⟨.reset, by decide +kernel⟩,
   ⟨.hsl, .reset, by decide +kernel⟩,
   ⟨.hsl, rg [(Reg.ATT_ARM_POLICY, 1#32)], by decide +kernel⟩,
   ⟨.hsl, st (fun d => { d with pow := { d.pow with pfAt := some 0 } }), by decide +kernel⟩,
   ⟨.hsl, .reset, by decide +kernel⟩⟩

theorem test_hypotheses_QueueIsKept :
    ∃ c : Instr, ∃ s : State, ∃ t : State, exec c s = .next t :=
  ⟨.hslAbort, .reset, nextOf (exec .hslAbort .reset), rfl⟩

theorem test_hypotheses_RecordIntake :
    (∃ e : Event, ∃ rest : List Event, ∃ s : State, let next := s.dev.advance 1; s.dev.rcf.intake = e :: rest ∧ s.dev.intakeFree = true ∧ (s.dev.rateEntry e.codeOf = 0xFFFF ∨ (next.bucketNow e.codeOf).tokens ≠ 0))
    ∧ (∃ e : Event, ∃ rest : List Event, ∃ s : State, let next := s.dev.advance 1; s.dev.rcf.intake = e :: rest ∧ s.dev.intakeFree = true ∧ s.dev.rateEntry e.codeOf ≠ 0xFFFF ∧ (next.bucketNow e.codeOf).tokens = 0)
    ∧ (∃ s : State, (s.dev.rcf.intake = [] ∨ s.dev.intakeFree = false))
    ∧ (∃ code : Fin 1024, ∃ s : State, let z : Suppressed := sget (fun _ => {}) s.dev.rcf.supp code.val; z.count = 0)
    ∧ (∃ code : Fin 1024, ∃ s : State, let z : Suppressed := sget (fun _ => {}) s.dev.rcf.supp code.val; z.count ≠ 0 ∧ s.dev.rcf.closed = false ∧ s.dev.pow.pfAt = none ∧ s.dev.rcf.intake.length < intakeDepth)
    ∧ (∃ req : Requester, ∃ index : Fin 512, ∃ data : W32, ∃ s : State, let limitOk (k : Nat) : Prop := field data (16 * k + 15) (16 * k) = 0xFFFF ∨ (field data (16 * k + 15) (16 * k) / 256 ≠ 0 ∧ field data (16 * k + 15) (16 * k) % 256 ≠ 0); Accepts req (Reg.REC_RL index.val) data s ∧ index.val < 480 ∧ limitOk 0 ∧ limitOk 1)
    ∧ (∃ req : Requester, ∃ index : Fin 512, ∃ data : W32, ∃ s : State, let limitOk (k : Nat) : Prop := field data (16 * k + 15) (16 * k) = 0xFFFF ∨ (field data (16 * k + 15) (16 * k) / 256 ≠ 0 ∧ field data (16 * k + 15) (16 * k) % 256 ≠ 0); Accepts req (Reg.REC_RL index.val) data s ∧ index.val < 480 ∧ (¬(limitOk 0 ∧ limitOk 1))) :=
  ⟨⟨ev, [], front (fun f => { f with intake := [ev] }), by dsimp only; decide +kernel⟩,
   ⟨ev, [ev], front (fun f => { f with intake := [ev, ev], buckets := [(ev.codeOf, ⟨0, 0, 0⟩)] }), by dsimp only; decide +kernel⟩,
   ⟨.reset, by decide +kernel⟩,
   ⟨1023, .reset, by dsimp only; decide +kernel⟩,
   ⟨0, front (fun f => { f with supp := [(0, { count := 1 })] }), by dsimp only; decide +kernel⟩,
   ⟨.hsl, 479, 0xFFFF0101#32, rg [(Reg.MODE 0x090, 1#32)], by dsimp only; decide +kernel⟩,
   ⟨.hsl, 479, 0xFFFF0100#32, rg [(Reg.MODE 0x090, 1#32)], by dsimp only; decide +kernel⟩⟩

theorem test_hypotheses_DrainAndReadOut :
    (∃ s : State, let up : Prop := s.dev.mpState = mpRUN ∧ s.dev.powerState ≤ 1 ∧ s.rcd.undrained ≠ [] ∧ s.dev.stat pREC 16 = false; up)
    ∧ (∃ s : State, let up : Prop := s.dev.mpState = mpRUN ∧ s.dev.powerState ≤ 1 ∧ s.rcd.undrained ≠ [] ∧ s.dev.stat pREC 16 = false; up ∧ s.dev.rdN Reg.REC_SPARE_LEFT ≠ 0)
    ∧ (∃ s : State, (s.dev.mpState ≠ mpRUN ∨ 1 < s.dev.powerState))
    ∧ (∃ req : Requester, ∃ s : State, Accepts req Reg.REC_REC_CMD 3#32 s)
    ∧ (∃ req : Requester, ∃ s : State, Accepts req Reg.REC_REC_CMD 4#32 s)
    ∧ (∃ req : Requester, ∃ s : State, Readable req Reg.REC_REC_PORT s ∧ s.rcd.readOpen = true)
    ∧ (∃ req : Requester, ∃ s : State, Readable req Reg.REC_REC_PORT s ∧ s.rcd.readOpen = false)
    ∧ (∃ req : Requester, ∃ s : State, Readable req Reg.REC_BR_PORT s) :=
  ⟨⟨store (fun r => { r with undrained := [rec0] }), by dsimp only; decide +kernel⟩,
   ⟨store (fun r => { r with undrained := [rec0] }), by dsimp only; decide +kernel⟩,
   ⟨rg [(Reg.WDG_MP_STATE, 1#32)], by decide +kernel⟩,
   ⟨.hsl, .reset, by decide +kernel⟩,
   ⟨.hsl, .reset, by decide +kernel⟩,
   ⟨.hsl, store (fun r => { r with readOpen := true }), by decide +kernel⟩,
   ⟨.hsl, .reset, by decide +kernel⟩,
   ⟨.hsl, .reset, by decide +kernel⟩⟩

theorem test_hypotheses_KeysAndAuthorisations :
    (∃ req : Requester, ∃ s : State, Accepts req Reg.REC_REC_CMD 1#32 s)
    ∧ (∃ req : Requester, ∃ s : State, Accepts req Reg.REC_REC_CMD 2#32 s ∧ s.dev.stat pREC 20 = true)
    ∧ (∃ req : Requester, ∃ s : State, Accepts req Reg.REC_REC_CMD 2#32 s ∧ s.dev.stat pREC 20 = false ∧ s.dev.mpState ≠ mpRUN)
    ∧ (∃ req : Requester, ∃ s : State, Accepts req Reg.REC_REC_CMD 2#32 s ∧ s.dev.stat pREC 20 = false ∧ s.dev.mpState = mpRUN)
    ∧ (∃ s : State, s.dev.stat pREC 20 = true ∧ s.dev.rcf.clearing = none ∧ s.authCode s.dev.rcf.auth ≠ 0)
    ∧ (∃ s : State, let w1 := s.dev.rcf.auth.getD 1 0; s.dev.stat pREC 20 = true ∧ s.dev.rcf.clearing = none ∧ s.authCode s.dev.rcf.auth = 0 ∧ field w1 31 24 = 1)
    ∧ (∃ s : State, let w1 := s.dev.rcf.auth.getD 1 0; s.dev.stat pREC 20 = true ∧ s.dev.rcf.clearing = none ∧ s.authCode s.dev.rcf.auth = 0 ∧ field w1 31 24 = 2)
    ∧ (∃ s : State, (s.dev.stat pREC 20 = false ∨ s.dev.rcf.clearing.isSome = true))
    ∧ (∃ slot : Nat, ∃ s : State, s.dev.rcf.clearing = some slot)
    ∧ (∃ s : State, s.dev.rcf.clearing = none)
    ∧ (∃ req : Requester, ∃ slot : Nat, ∃ s : State, Accepts req Reg.REC_KEY_CMD (w32 slot) s ∧ slot < 4 ∧ s.rcd.key slot = none ∧ s.dev.stat pREC 17 = false)
    ∧ (∃ req : Requester, ∃ slot : Nat, ∃ s : State, Accepts req Reg.REC_KEY_CMD (w32 slot) s ∧ slot < 4 ∧ ((s.rcd.key slot).isSome = true ∨ s.dev.stat pREC 17 = true)) :=
  ⟨⟨.hsl, .reset, by decide +kernel⟩,
   ⟨.hsl, verifying 0 0 [], by decide +kernel⟩,
   ⟨.hsl, rg [(Reg.WDG_MP_STATE, 1#32)], by decide +kernel⟩,
   ⟨.hsl, .reset, by decide +kernel⟩,
   ⟨verifying 0 0 [], by decide +kernel⟩,
   ⟨clearAuth, by refine ⟨by decide +kernel, by decide +kernel, test_clear_authorisation_verifies, by decide +kernel⟩⟩,
   ⟨keyAuth, by refine ⟨by decide +kernel, by decide +kernel, test_key_authorisation_verifies, by decide +kernel⟩⟩,
   ⟨.reset, by decide +kernel⟩,
   ⟨3, front (fun f => { f with clearing := some 3 }), by decide +kernel⟩,
   ⟨.reset, by decide +kernel⟩,
   ⟨.hsl, 3, .reset, by decide +kernel⟩,
   ⟨.hsl, 1, verifying 0 0 [], by decide +kernel⟩⟩

theorem test_hypotheses_MeasuredStartAndAttestation :
    (∃ stage : Fin 4, ∃ valid : Bool, ∃ s : State, stage.val = s.dev.att.boot ∧ (valid = true ∨ stage.val = 0))
    ∧ (∃ stage : Fin 4, ∃ valid : Bool, ∃ s : State, stage.val = s.dev.att.boot ∧ valid = false ∧ stage.val ≠ 0)
    ∧ (∃ stage : Fin 4, ∃ s : State, stage.val ≠ s.dev.att.boot)
    ∧ (∃ req : Requester, ∃ s : State, Accepts req Reg.ATT_BLOB_CMD 1#32 s ∧ s.dev.blobOpen = false ∧ s.dev.att.blobDone = false)
    ∧ (∃ req : Requester, ∃ s : State, Accepts req Reg.ATT_BLOB_CMD 1#32 s ∧ (s.dev.blobOpen = true ∨ s.dev.att.blobDone = true))
    ∧ (∃ req : Requester, ∃ data : List W32, ∃ s : State, Accepts req Reg.ATT_BLOB_PORT 0#32 s ∧ s.dev.blobOpen = true ∧ 4 * (s.dev.att.blob.length + data.length) < 2 ^ 32)
    ∧ (∃ req : Requester, ∃ data : List W32, ∃ s : State, Accepts req Reg.ATT_BLOB_PORT 0#32 s ∧ s.dev.blobOpen = false ∧ data ≠ [])
    ∧ (∃ req : Requester, ∃ s : State, Accepts req Reg.ATT_BLOB_CMD 2#32 s ∧ s.dev.blobOpen = true)
    ∧ (∃ req : Requester, ∃ s : State, Accepts req Reg.ATT_BLOB_CMD 2#32 s ∧ s.dev.blobOpen = false)
    ∧ (∃ req : Requester, ∃ which : Nat, ∃ s : State, Accepts req Reg.ATT_EXT_CMD (w32 which) s ∧ (which = 6 ∨ which = 7))
    ∧ (∃ req : Requester, ∃ s : State, Accepts req Reg.ATT_ATT_CMD 1#32 s ∧ s.dev.stat pATT 17 = false ∧ s.dev.mpState = mpRUN)
    ∧ (∃ req : Requester, ∃ s : State, Accepts req Reg.ATT_ATT_CMD 1#32 s ∧ s.dev.stat pATT 17 = false ∧ s.dev.mpState ≠ mpRUN)
    ∧ (∃ req : Requester, ∃ s : State, Accepts req Reg.ATT_ATT_CMD 1#32 s ∧ s.dev.stat pATT 17 = true)
    ∧ (∃ gen : Nat, ∃ body : List Byte, ∃ s : State, s.dev.att.req = some (body, gen))
    ∧ (∃ s : State, s.dev.att.req = none)
    ∧ (∃ req : Requester, ∃ s : State, Readable req Reg.ATT_ATT_PORT s)
    ∧ (∃ req : Requester, ∃ v : W32, ∃ s : State, Accepts req Reg.ATT_ATT_CONFIRM v s ∧ (v.toNat, s.dev.rdN Reg.ATT_MEAS_GEN) ∈ s.dev.att.issued)
    ∧ (∃ req : Requester, ∃ v : W32, ∃ s : State, Accepts req Reg.ATT_ATT_CONFIRM v s ∧ (v.toNat, s.dev.rdN Reg.ATT_MEAS_GEN) ∉ s.dev.att.issued)
    ∧ (∃ req : Requester, ∃ v : W32, ∃ s : State, Accepts req Reg.ATT_POLICY_SET v s ∧ field v 31 16 = 0x504C)
    ∧ (∃ req : Requester, ∃ v : W32, ∃ s : State, Accepts req Reg.ATT_POLICY_SET v s ∧ field v 31 16 ≠ 0x504C) :=
  ⟨⟨0, false, .reset, by decide +kernel⟩,
   ⟨3, false, attest (fun a => { a with boot := 3 }), by decide +kernel⟩,
   ⟨1, .reset, by decide +kernel⟩,
   ⟨.hsl, .reset, by decide +kernel⟩,
   ⟨.hsl, blob, by decide +kernel⟩,
   ⟨.hsl, [1#32], blob, by decide +kernel⟩,
   ⟨.hsl, [1#32], .reset, by decide +kernel⟩,
   ⟨.hsl, blob, by decide +kernel⟩,
   ⟨.hsl, .reset, by decide +kernel⟩,
   ⟨.hsl, 7, .reset, by decide +kernel⟩,
   ⟨.hsl, .reset, by decide +kernel⟩,
   ⟨.hsl, rg [(Reg.WDG_MP_STATE, 2#32)], by decide +kernel⟩,
   ⟨.hsl, st (·.setStat pATT 17 true), by decide +kernel⟩,
   ⟨2, [1#8], attest (fun a => { a with req := some ([1#8], 2) }), by decide +kernel⟩,
   ⟨.reset, by decide +kernel⟩,
   ⟨.hsl, .reset, by decide +kernel⟩,
   ⟨.hsl, 9#32, attest (fun a => { a with issued := [(9, 0)] }), by decide +kernel⟩,
   ⟨.hsl, 9#32, .reset, by decide +kernel⟩,
   ⟨.hsl, 0x504C0001#32, .reset, by decide +kernel⟩,
   ⟨.hsl, 0#32, .reset, by decide +kernel⟩⟩

theorem test_hypotheses_CanPorts :
    (∃ port : Fin 2, ∃ frame : CanFrame, ∃ i : Nat, ∃ s : State, let p := port.val; let c := s.dev.can p; let on : Prop := s.dev.canOn p = true ∧ c.busOff = false; on ∧ frame.remote = false ∧ (frame.fdf = true → s.dev.bit (Reg.CAN_CAN_CFG p) 1 = true) ∧ s.dev.canFilter p frame = some i ∧ s.dev.bit (Reg.CAN_FILT_ACT p i) 0 = true ∧ entriesIn 20 c.rx < 64)
    ∧ (∃ port : Fin 2, ∃ frame : CanFrame, ∃ i : Nat, ∃ s : State, let p := port.val; let c := s.dev.can p; let on : Prop := s.dev.canOn p = true ∧ c.busOff = false; on ∧ frame.remote = false ∧ (frame.fdf = true → s.dev.bit (Reg.CAN_CAN_CFG p) 1 = true) ∧ s.dev.canFilter p frame = some i ∧ s.dev.bit (Reg.CAN_FILT_ACT p i) 0 = true ∧ 64 ≤ entriesIn 20 c.rx)
    ∧ (∃ port : Fin 2, ∃ frame : CanFrame, ∃ s : State, let p := port.val; let c := s.dev.can p; (s.dev.canOn p = false ∨ c.busOff = true ∨ frame.remote = true ∨ s.dev.canFilter p frame = none))
    ∧ (∃ port : Fin 2, ∃ s : State, let p := port.val; let c := s.dev.can p; let on : Prop := s.dev.canOn p = true ∧ c.busOff = false; on)
    ∧ (∃ port : Fin 2, ∃ s : State, let p := port.val; let c := s.dev.can p; (s.dev.canOn p = false ∨ c.busOff = true))
    ∧ (∃ port : Fin 2, ∃ s : State, let p := port.val; let c := s.dev.can p; c.busOff = true)
    ∧ (∃ port : Fin 2, ∃ s : State, let p := port.val; let c := s.dev.can p; c.busOff = false)
    ∧ (∃ req : Requester, ∃ port : Fin 2, ∃ s : State, let p := port.val; let u := arrived (Reg.CAN_TX_PUSH p) s; Accepts req (Reg.CAN_TX_PUSH p) 0#32 u ∧ u.dev.canPushOk p = true)
    ∧ (∃ req : Requester, ∃ port : Fin 2, ∃ s : State, let p := port.val; let u := arrived (Reg.CAN_TX_PUSH p) s; Accepts req (Reg.CAN_TX_PUSH p) 0#32 u ∧ u.dev.canPushOk p = false)
    ∧ (∃ port : Fin 2, ∃ f : TxFrame, ∃ s : State, let p := port.val; let c := s.dev.can p; let on : Prop := s.dev.canOn p = true ∧ c.busOff = false; on ∧ s.dev.bit (Reg.CAN_CAN_CFG p) 3 = false ∧ c.nextOut = some f)
    ∧ (∃ port : Fin 2, ∃ s : State, let p := port.val; let c := s.dev.can p; c.nextOut = none)
    ∧ (∃ req : Requester, ∃ port : Fin 2, ∃ s : State, let p := port.val; let u := arrived (Reg.CAN_RX_PORT p) s; Readable req (Reg.CAN_RX_PORT p) u)
    ∧ (∃ port : Fin 2, ∃ slot : Fin 8, ∃ n : Nat, ∃ f : TxFrame, ∃ s : State, let p := port.val; let c := s.dev.can p; (c.slot slot).held = some f ∧ (c.slot slot).sentAt = some n)
    ∧ (∃ port : Fin 2, ∃ slot : Fin 8, ∃ s : State, let p := port.val; let c := s.dev.can p; (c.slot slot).held = none) :=
  ⟨⟨0, canFrame0, 0, st (fun d => d.wr (Reg.CAN_CAN_CFG 0) 1#32 |>.wr (Reg.CAN_FILT_ACT 0 0) 1#32), by dsimp only; decide +kernel⟩,
   ⟨0, canFrame0, 0, st (fun d => (d.wr (Reg.CAN_CAN_CFG 0) 1#32 |>.wr (Reg.CAN_FILT_ACT 0 0) 1#32).modCan 0 (fun c => { c with rx := List.replicate 1280 0#32 })), by dsimp only; decide +kernel⟩,
   ⟨1, canFrame0, rg [(Reg.CAN_CAN_CFG 1, 0#32)], by dsimp only; decide +kernel⟩,
   ⟨0, can0 id, by dsimp only; decide +kernel⟩,
   ⟨0, rg [(Reg.CAN_CAN_CFG 0, 0#32)], by dsimp only; decide +kernel⟩,
   ⟨0, can0 (fun c => { c with busOff := true }), by dsimp only; decide +kernel⟩,
   ⟨1, .reset, by dsimp only; decide +kernel⟩,
   ⟨.hsl, 0, can0 (fun c => { c with tx := [0#32, 0#32] }), by dsimp only; decide +kernel⟩,
   ⟨.hsl, 0, can0 (fun c => { c with tx := [0#32, 1#32] }), by dsimp only; decide +kernel⟩,
   ⟨0, {}, can0 (fun c => { c with queue := [{}] }), by dsimp only; decide +kernel⟩,
   ⟨0, .reset, by dsimp only; decide +kernel⟩,
   ⟨.hsl, 1, .reset, by dsimp only; decide +kernel⟩,
   ⟨0, 7, 5, {}, can0 (fun c => { c with slots := [(7, { held := some {}, sentAt := some 5 })] }), by dsimp only; decide +kernel⟩,
   ⟨0, 7, .reset, by dsimp only; decide +kernel⟩⟩

theorem test_hypotheses_EthernetPort :
    (∃ frame : List Byte, ∃ s : State, let mp : Prop := s.dev.rdN Reg.WDG_MP_STATE = 0; s.dev.ethOn = true ∧ s.dev.isArp frame = true ∧ mp)
    ∧ (∃ frame : List Byte, ∃ s : State, let mp : Prop := s.dev.rdN Reg.WDG_MP_STATE = 0; s.dev.ethOn = true ∧ s.dev.isArp frame = false ∧ s.dev.isEcho frame = true ∧ mp)
    ∧ (∃ frame : List Byte, ∃ s : State, let mp : Prop := s.dev.rdN Reg.WDG_MP_STATE = 0; s.dev.ethOn = true ∧ (s.dev.isArp frame = true ∨ s.dev.isEcho frame = true) ∧ (¬mp))
    ∧ (∃ frame : List Byte, ∃ s : State, let other : Prop := s.dev.isArp frame = false ∧ s.dev.isEcho frame = false; s.dev.ethOn = true ∧ other ∧ s.dev.isIvyth frame = true)
    ∧ (∃ frame : List Byte, ∃ s : State, let other : Prop := s.dev.isArp frame = false ∧ s.dev.isEcho frame = false; s.dev.ethOn = true ∧ other ∧ s.dev.isIvyth frame = false ∧ s.dev.bit Reg.NET_NET_CFG 2 = false)
    ∧ (∃ frame : List Byte, ∃ s : State, let other : Prop := s.dev.isArp frame = false ∧ s.dev.isEcho frame = false; let entry := w32 (frame.length % 2048) :: wordsBE frame; s.dev.ethOn = true ∧ other ∧ s.dev.isIvyth frame = false ∧ s.dev.bit Reg.NET_NET_CFG 2 = true ∧ 4 * (s.dev.net.rx.length + entry.length) ≤ 16384)
    ∧ (∃ frame : List Byte, ∃ s : State, let other : Prop := s.dev.isArp frame = false ∧ s.dev.isEcho frame = false; let entry := w32 (frame.length % 2048) :: wordsBE frame; s.dev.ethOn = true ∧ other ∧ s.dev.isIvyth frame = false ∧ s.dev.bit Reg.NET_NET_CFG 2 = true ∧ 16384 < 4 * (s.dev.net.rx.length + entry.length))
    ∧ (∃ fcsOk : Bool, ∃ s : State, (s.dev.ethOn = false ∨ fcsOk = false))
    ∧ (∃ req : Requester, ∃ v : W32, ∃ s : State, let u := arrived Reg.NET_TX_PUSH s; Accepts req Reg.NET_TX_PUSH v u ∧ u.dev.ethPushOk = true)
    ∧ (∃ req : Requester, ∃ v : W32, ∃ s : State, let u := arrived Reg.NET_TX_PUSH s; Accepts req Reg.NET_TX_PUSH v u ∧ u.dev.ethPushOk = false)
    ∧ (∃ req : Requester, ∃ s : State, let u := arrived Reg.NET_RX_PORT s; Readable req Reg.NET_RX_PORT u)
    ∧ (∃ up : Bool, ∃ s : State, s.dev.bit Reg.NET_LINK 0 ≠ up)
    ∧ (∃ up : Bool, ∃ s : State, s.dev.bit Reg.NET_LINK 0 = up) :=
  ⟨⟨arpFrame, eth [], by dsimp only; decide +kernel⟩,
   ⟨echoFrame, eth [], by dsimp only; decide +kernel⟩,
   ⟨echoFrame, eth [(Reg.WDG_MP_STATE, 1#32)], by dsimp only; decide +kernel⟩,
   ⟨ivythFrame, eth [], by dsimp only; decide +kernel⟩,
   ⟨plainFrame, eth [], by dsimp only; decide +kernel⟩,
   ⟨plainFrame, eth [(Reg.NET_NET_CFG, 5#32)] (fun n => { n with rx := List.replicate 4091 0#32 }), by dsimp only; decide +kernel⟩,
   ⟨plainFrame, eth [(Reg.NET_NET_CFG, 5#32)] (fun n => { n with rx := List.replicate 4092 0#32 }), by dsimp only; decide +kernel⟩,
   ⟨false, eth [], by decide +kernel⟩,
   ⟨.hsl, 1#32, eth [(Reg.NET_TX_LEN, 14#32)] (fun n => { n with tx := [0, 0, 0, 0] }), by dsimp only; decide +kernel⟩,
   ⟨.hsl, 1#32, eth [(Reg.NET_TX_LEN, 13#32)] (fun n => { n with tx := [0, 0, 0, 0] }), by dsimp only; decide +kernel⟩,
   ⟨.hsl, .reset, by dsimp only; decide +kernel⟩,
   ⟨true, .reset, by decide +kernel⟩,
   ⟨false, .reset, by decide +kernel⟩⟩

theorem test_hypotheses_SensorInputsAndSupplies :
    (∃ i : Nat, ∃ s : State, s.dev.powerState ≤ 1 ∧ i < 48)
    ∧ (∃ s : State, 1 < s.dev.powerState)
    ∧ (∃ input : Fin 48, ∃ n : Nat, ∃ s : State, (s.dev.ain input).offAt = some n)
    ∧ (∃ input : Fin 48, ∃ s : State, (s.dev.ain input).offAt = none)
    ∧ (∃ fi : Fin 96, ∃ s : State, let fcfg := s.dev.rd (Reg.FIN_FIN_CFG fi); s.dev.powerState ≤ 1 ∧ s.dev.finSecond fi = false ∧ bitOf fcfg 0 = true)
    ∧ (∃ fi : Fin 96, ∃ s : State, let fcfg := s.dev.rd (Reg.FIN_FIN_CFG fi); s.dev.powerState = 0 ∧ s.dev.finSecond fi = false ∧ bitOf fcfg 0 = false)
    ∧ (∃ port : Fin 2, ∃ s : State, let icfg := s.dev.rd (Reg.IMU_IMU_CFG port); bitOf icfg 0 = true ∧ s.dev.powerState ≤ 1)
    ∧ (∃ port : Fin 2, ∃ s : State, let icfg := s.dev.rd (Reg.IMU_IMU_CFG port); (bitOf icfg 0 = false ∨ 1 < s.dev.powerState))
    ∧ (∃ port : Fin 2, ∃ s : State, let icfg := s.dev.rd (Reg.IMU_IMU_CFG port); bitOf icfg 0 = true ∧ (s.dev.imu port).stale = false)
    ∧ (∃ port : Fin 2, ∃ s : State, let icfg := s.dev.rd (Reg.IMU_IMU_CFG port); (bitOf icfg 0 = false ∨ (s.dev.imu port).stale = true))
    ∧ (∃ rising : Bool, ∃ pin : Fin 4, ∃ s : State, let tm := s.dev.rd Reg.GPIO_TM_CFG; let marked : Prop := bitOf tm (4 * pin.val) = true ∧ (field tm (4 * pin.val + 2) (4 * pin.val + 1)).testBit (if rising then 0 else 1) = true ∧ s.dev.powerState ≤ 1; marked ∧ entriesIn 6 s.dev.net.marks < 64)
    ∧ (∃ rising : Bool, ∃ pin : Fin 4, ∃ s : State, let tm := s.dev.rd Reg.GPIO_TM_CFG; let marked : Prop := bitOf tm (4 * pin.val) = true ∧ (field tm (4 * pin.val + 2) (4 * pin.val + 1)).testBit (if rising then 0 else 1) = true ∧ s.dev.powerState ≤ 1; marked ∧ 64 ≤ entriesIn 6 s.dev.net.marks)
    ∧ (∃ rising : Bool, ∃ pin : Fin 4, ∃ s : State, let tm := s.dev.rd Reg.GPIO_TM_CFG; let marked : Prop := bitOf tm (4 * pin.val) = true ∧ (field tm (4 * pin.val + 2) (4 * pin.val + 1)).testBit (if rising then 0 else 1) = true ∧ s.dev.powerState ≤ 1; (¬marked))
    ∧ (∃ req : Requester, ∃ s : State, let u := arrived Reg.GPIO_TM_PORT s; Readable req Reg.GPIO_TM_PORT u)
    ∧ (∃ milliV : Nat, ∃ s : State, milliV < 12000 ∧ s.dev.drv.vbatLow = false)
    ∧ (∃ milliV : Nat, ∃ s : State, (12000 ≤ milliV ∨ s.dev.drv.vbatLow = true))
    ∧ (∃ milliV : Nat, ∃ s : State, 12000 ≤ milliV ∧ s.dev.drv.vbatLow = true)
    ∧ (∃ milliV : Nat, ∃ s : State, (milliV < 12000 ∨ s.dev.drv.vbatLow = false))
    ∧ (∃ output : SupplyOutput, ∃ s : State, supplyOnIn s.dev.powerState output = true ∧ s.dev.rcf.closed = false ∧ s.dev.pow.pfAt = none ∧ s.dev.rcf.intake.length < intakeDepth)
    ∧ (∃ output : SupplyOutput, ∃ s : State, supplyOnIn s.dev.powerState output = false) :=
  ⟨⟨47, .reset, by decide +kernel⟩,
   ⟨rg [(Reg.PWR_PWR_STATE, 2#32)], by decide +kernel⟩,
   ⟨47, 5, net (fun x => { x with ain := [(47, { offAt := some 5 })] }), by decide +kernel⟩,
   ⟨47, .reset, by decide +kernel⟩,
   ⟨95, rg [(Reg.FIN_FIN_CFG 95, 1#32)], by dsimp only; decide +kernel⟩,
   ⟨95, rg [(Reg.FIN_FIN_CFG 95, 0#32)], by dsimp only; decide +kernel⟩,
   ⟨1, rg [(Reg.IMU_IMU_CFG 1, 1#32)], by dsimp only; decide +kernel⟩,
   ⟨1, .reset, by dsimp only; decide +kernel⟩,
   ⟨1, rg [(Reg.IMU_IMU_CFG 1, 1#32)], by dsimp only; decide +kernel⟩,
   ⟨1, .reset, by dsimp only; decide +kernel⟩,
   ⟨true, 3, net (fun x => { x with marks := List.replicate 378 0#32 }) [(Reg.GPIO_TM_CFG, 0x3000#32)], by dsimp only; decide +kernel⟩,
   ⟨true, 3, net (fun x => { x with marks := List.replicate 384 0#32 }) [(Reg.GPIO_TM_CFG, 0x3000#32)], by dsimp only; decide +kernel⟩,
   ⟨true, 3, .reset, by dsimp only; decide +kernel⟩,
   ⟨.hsl, .reset, by dsimp only; decide +kernel⟩,
   ⟨11999, .reset, by decide +kernel⟩,
   ⟨12000, .reset, by decide +kernel⟩,
   ⟨12000, st (fun d => { d with drv := { d.drv with vbatLow := true } }), by decide +kernel⟩,
   ⟨12000, .reset, by decide +kernel⟩,
   ⟨.host5v, rg [(Reg.PWR_PWR_STATE, 2#32)], by decide +kernel⟩,
   ⟨.imu5v 0, rg [(Reg.PWR_PWR_STATE, 2#32)], by decide +kernel⟩⟩

theorem test_hypotheses_LedgerIdentityKept :
    ∃ s : State, ∃ t : State, s.ldg.Balanced ∧ step s = .next t :=
  ⟨.reset, nextOf (step .reset), ⟨by unfold Ledgers.Balanced LedgerBook.Balanced; simp [State.reset], rfl⟩⟩

theorem test_hypotheses_RecordNumbersKept :
    ∃ s : State, ∃ t : State, s.rcd.Numbered ∧ step s = .next t :=
  ⟨.reset, nextOf (step .reset), ⟨by unfold RecStore.Numbered RecStore.held; simp [State.reset], rfl⟩⟩

end Sys2Proof.Tests
end

section
/-! PROOFS. The host serial link given up and stalled (R48, R49), and the commit that a page refuses (R26). -/

namespace Sys2Proof.Machine

/-! A page refused (R26) -/

@[simp] theorem Dev.refusePage_pend (d : Dev) (p : Nat) : (d.refusePage p).pend = d.pend := by simp [Dev.refusePage]
@[simp] theorem Dev.refusePage_cross (d : Dev) (p : Nat) : (d.refusePage p).cross = d.cross := by simp [Dev.refusePage]
@[simp] theorem Dev.refusePage_conf (d : Dev) (p : Nat) : (d.refusePage p).conf = d.conf := by simp [Dev.refusePage]
@[simp] theorem Dev.refusePage_imp (d : Dev) (p : Nat) : (d.refusePage p).imp = d.imp := by simp [Dev.refusePage]

/-- A refusal writes the page's TURN_ARM, STATUS, FAULT and IRQ_RAW only. -/
theorem Dev.rd_refusePage_ne (d : Dev) (p : Nat) {a : Nat}
    (h : a ∉ [Reg.TURN_ARM p, Reg.STATUS p, Reg.FAULT p, Reg.IRQ_RAW p]) : (d.refusePage p).rd a = d.rd a := by
  simp only [List.mem_cons, List.not_mem_nil, or_false, not_or] at h
  obtain ⟨harm, hstat, hfault, hirq⟩ := h
  unfold Dev.refusePage
  rw [Dev.rd_irq_ne _ _ _ hirq, Dev.rd_fault_ne _ _ _ hfault hirq]
  exact (Dev.rd_setBit_ne _ _ _ hstat).trans (Dev.rd_wr_ne _ _ harm)

theorem Dev.bit_refusePage_arm (d : Dev) (p : Nat) : (d.refusePage p).bit (Reg.TURN_ARM p) 0 = false := by
  have hrd : (d.refusePage p).rd (Reg.TURN_ARM p) = 0#32 := by
    unfold Dev.refusePage
    rw [Dev.rd_irq_ne _ _ _ (by simp [Reg.TURN_ARM, Reg.IRQ_RAW]),
      Dev.rd_fault_ne _ _ _ (by simp [Reg.TURN_ARM, Reg.FAULT]) (by simp [Reg.TURN_ARM, Reg.IRQ_RAW])]
    exact (Dev.rd_setBit_ne _ _ _ (by simp [Reg.TURN_ARM, Reg.STATUS])).trans (Dev.rd_wr_same _ _ _)
  rw [Dev.bit, hrd]
  decide

theorem Dev.bit_refusePage_rejected (d : Dev) (p : Nat) : (d.refusePage p).bit (Reg.STATUS p) sREJECTED = true := by
  unfold Dev.refusePage
  rw [Dev.bit, Dev.rd_irq_ne _ _ _ (by simp [Reg.STATUS, Reg.IRQ_RAW]),
    Dev.rd_fault_ne _ _ _ (by simp [Reg.STATUS, Reg.FAULT]) (by simp [Reg.STATUS, Reg.IRQ_RAW])]
  exact (Dev.bit_setBit _ _ _ _ _ (by decide) (by decide)).trans (if_pos rfl)

theorem Dev.bit_refusePage_cfg (d : Dev) (p : Nat) : (d.refusePage p).bit (Reg.FAULT p) fCFG = true := by
  unfold Dev.refusePage
  rw [Dev.bit, Dev.rd_irq_ne _ _ _ (by simp [Reg.FAULT, Reg.IRQ_RAW])]
  exact (Dev.fault_spec _ _ _ (by decide)).1

theorem Dev.bit_refusePage_turn (d : Dev) (p : Nat) : (d.refusePage p).bit (Reg.IRQ_RAW p) 0 = true := by
  unfold Dev.refusePage
  rw [Dev.bit_irq _ _ _ _ (by decide) (by decide)]
  rfl

/-- A commit that is refused ends in the refusal of its page; a refused activation first puts its cause into the page's STATUS (R115). -/
theorem Dev.commitOne_refused (d : Dev) (cs : List Commit) (fit : Bool) (p k : Nat)
    (h : (d.activates p = true ∧ d.actCause (!fit && d.fitRefuses cs (d.commitOf p)) ≠ 0)
      ∨ (!fit && d.fitRefuses cs (d.commitOf p) || !d.commitOk [d.commitOf p] (d.commitOf p)) = true) :
    ∃ e : Dev, d.commitOne cs fit p k = e.refusePage p ∧ (e = d ∨ ∃ cause, e = d.setFld (Reg.STATUS p) 27 24 cause) := by
  unfold Dev.commitOne
  dsimp only
  split
  next hact =>
    have hp : p = pIMP := of_decide_eq_true (Bool.and_eq_true_iff.mp hact.1).1
    exact ⟨_, rfl, .inr ⟨_, by rw [← hp]⟩⟩
  next hact =>
    rw [if_pos (h.resolve_left hact)]
    exact ⟨d, rfl, .inl rfl⟩

/-- Settles O23: a refused commit ends in the refusal of its page, which writes four words of its header. -/
theorem refusedCommits : Obligations.RefusedCommits := by
  intro d cs fit p k _ h
  obtain ⟨e, hc, he⟩ := d.commitOne_refused cs fit p k h
  dsimp only
  rw [hc]
  refine ⟨e.bit_refusePage_arm p, e.bit_refusePage_rejected p, e.bit_refusePage_cfg p, e.bit_refusePage_turn p, ?_⟩
  rw [Dev.refusePage_pend, Dev.refusePage_cross, Dev.refusePage_conf, Dev.refusePage_imp]
  obtain rfl | ⟨cause, rfl⟩ := he
  · exact ⟨rfl, rfl, rfl, rfl, fun a ha => Dev.rd_refusePage_ne _ _ ha⟩
  · refine ⟨rfl, rfl, rfl, rfl, fun a ha => (Dev.rd_refusePage_ne _ _ ha).trans (Dev.rd_wr_ne _ _ ?_)⟩
    rintro rfl
    simp at ha

/-! A transaction of the host serial link given up (R48) -/

/-- Where the fabric answers, giving up counts one abandoned transaction and drives nothing. -/
theorem onDev_hslGivenUp_up (u : State) (h : u.dev.fabricUp = true) :
    onDev (·.hslGivenUp) u = { u with dev := { (u.dev.wr Reg.HOST_HSL_ABORT (u.dev.rd Reg.HOST_HSL_ABORT + 1#32)) with
      fab := { u.dev.fab with hslOut := [] } } } := by
  unfold Dev.hslGivenUp
  simp only [onDev, h, if_true]
  rfl

/-- Where the fabric answers and the host check holds, a transaction acts in the state in which the link is touched (R46). -/
theorem hslRun_checked {cmd addr : W32} {chk : HslCheck} {data : List W32} {s : State} (write : Bool) (act : State → State)
    (hup : s.dev.fabricUp = true) (hck : checkOk (cmd :: addr :: data) chk.word = true) :
    hslRun cmd addr chk data write act s = act (atFabric .hsl write s) := by
  have htouch : (atFabric .hsl write s).dev.fabricUp = true := (hslTouch_fabricUp _ _ _).trans hup
  unfold hslRun
  change (if !(atFabric .hsl write s).dev.fabricUp then _ else if checkOk (cmd :: addr :: data) chk.word = false then _ else _) = _
  rw [htouch, hck, if_neg (by decide), if_neg (by decide)]
  rfl

/-- A read given up after `n` of its words is the burst of `n` words, given up. -/
theorem hslReads_cut {cmd addr word : W32} {n : Nat} {s : State} (hup : s.dev.fabricUp = true)
    (hck : checkOk [cmd, addr] word = true) (hn : n ≤ cmdLen cmd) (hop : cmdOp cmd = 1 ∨ cmdOp cmd = 3) :
    hslReads cmd addr ⟨word, some n⟩ s
      = onDev (·.hslGivenUp) (burstRead .hsl addr.toNat n (cmdOp cmd = 3) (atFabric .hsl false s)).2.2 := by
  unfold hslReads
  rw [hslRun_checked _ _ hup hck, if_pos hop]
  dsimp only
  rw [Nat.min_eq_left hn]

/-- A write whose addresses are accepted, given up after `n` of its words, is the burst of those words, given up. -/
theorem hslWrites_cut {cmd addr word : W32} {data : List W32} {n : Nat} {s : State} (hup : s.dev.fabricUp = true)
    (hck : checkOk (cmd :: addr :: data) word = true) (hlen : data.length = cmdLen cmd) (hop : cmdOp cmd = 2 ∨ cmdOp cmd = 4)
    (hok : ((atFabric .hsl true s).dev.burstCheck .hsl addr.toNat data.length (cmdOp cmd = 4)).1 = .ok) :
    hslWrites cmd addr data ⟨word, some n⟩ s
      = onDev (·.hslGivenUp) (burstWrite .hsl addr.toNat (data.take n) (cmdOp cmd = 4) (atFabric .hsl true s)).2.2 := by
  unfold hslWrites
  rw [if_neg (not_not_intro hlen), hslRun_checked _ _ hup hck, if_pos hop]
  simp [hok]

theorem exec_hslAbort_up (s : State) (h : s.dev.fabricUp = true) : exec .hslAbort s = .next (onDev (·.hslGivenUp) s) := by
  change execHslAbort s = _
  simp only [execHslAbort, onDev, h, if_true]

theorem exec_hslRead (cmd addr : W32) (chk : HslCheck) (s : State) :
    exec (.hslRead cmd addr chk) s = .next (hslReads cmd addr chk s) := rfl

theorem exec_hslReadFixed (cmd addr : W32) (chk : HslCheck) (s : State) :
    exec (.hslReadFixed cmd addr chk) s = .next (hslReads cmd addr chk s) := rfl

theorem exec_hslWrite (cmd addr : W32) (data : List W32) (chk : HslCheck) (s : State) :
    exec (.hslWrite cmd addr data chk) s = .next (hslWrites cmd addr data chk s) := rfl

theorem exec_hslWriteFixed (cmd addr : W32) (data : List W32) (chk : HslCheck) (s : State) :
    exec (.hslWriteFixed cmd addr data chk) s = .next (hslWrites cmd addr data chk s) := rfl

/-- Settles O13: the words that a transaction ran before it was given up are a burst, and giving up counts and silences. -/
theorem hslAbort : Obligations.HslAbort := by
  intro cmd addr word data n s hup
  refine ⟨?_, fun hck hn => ⟨fun hop hu => ?_, fun hop hu => ?_⟩, fun hck hlen => ⟨fun hop hok hu => ?_, fun hop hok hu => ?_⟩⟩
  · rw [exec_hslAbort_up s hup, onDev_hslGivenUp_up s hup]
  · rw [exec_hslRead, hslReads_cut hup hck hn (.inl hop), decide_eq_false (by omega), onDev_hslGivenUp_up _ hu]
  · rw [exec_hslReadFixed, hslReads_cut hup hck hn (.inr hop), decide_eq_true hop, onDev_hslGivenUp_up _ hu]
  · have hfixed : decide (cmdOp cmd = 4) = false := decide_eq_false (by omega)
    rw [exec_hslWrite, hslWrites_cut hup hck hlen (.inl hop) (by rwa [hfixed]), hfixed, onDev_hslGivenUp_up _ hu]
  · have hfixed : decide (cmdOp cmd = 4) = true := decide_eq_true hop
    rw [exec_hslWriteFixed, hslWrites_cut hup hck hlen (.inr hop) (by rwa [hfixed]), hfixed, onDev_hslGivenUp_up _ hu]

/-! The link stalled (R49) -/

/-- Where the fabric answers, CK_SYS runs. -/
theorem Dev.sysStopped_of_fabricUp (d : Dev) (h : d.fabricUp = true) : d.sysStopped = false := by
  simp only [Dev.fabricUp, Bool.and_eq_true, decide_eq_true_eq] at h
  simp only [Dev.sysStopped, decide_eq_false_iff_not]
  omega

/-- Each cycle of CK_SYS moves TB-M by 10 ns. -/
theorem Dev.advance_tbm_of_running (d : Dev) (n : Nat) (h : d.sysStopped = false) : (d.advance n).tm.tbm = d.tm.tbm + 10 * n := by
  simp [Dev.advance, h, Dev.counted]

theorem exec_hslStall_up (s : State) (h : s.dev.fabricUp = true) :
    exec .hslStall s
      = .next (onDev (fun d => ((d.advance (100 * d.rdN Reg.HOST_HSL_STALL_TO)).inc Reg.HOST_HSL_ABORT).hslSilent) s) := by
  change execHslStall s = _
  simp only [execHslStall, onDev, h, if_true]

/-- Settles O14: the stall is the clock moved on, the count and the silenced lines. -/
theorem hslStall : Obligations.HslStall := by
  intro s hup
  refine ⟨_, exec_hslStall_up s hup, ?_, Dev.rd_wr_same _ _ _, fun a ha => Dev.rd_wr_ne _ _ ha, rfl⟩
  have hclock := s.dev.advance_tbm_of_running (100 * s.dev.rdN Reg.HOST_HSL_STALL_TO) (s.dev.sysStopped_of_fabricUp hup)
  exact hclock.trans (by omega)

end Sys2Proof.Machine
end

section
/-! PROOFS. The gathering that is not released ends (R72), over what a fault with its record leaves. -/

namespace Sys2Proof.Machine

/-! A fault bit with its record (R23, R424, R426) -/

/-- A fault bit changes register words at most. -/
theorem Dev.fault_regs (d : Dev) (p b : Nat) : ∃ rs, d.fault p b = { d with regs := rs } := by
  unfold Dev.fault
  dsimp only
  split
  · exact ⟨_, rfl⟩
  · exact ⟨_, rfl⟩

/-- An event handed to the recorder changes register words and the recorder's front end at most. -/
theorem Dev.emit_regs_rcf (d : Dev) (e : Event) : ∃ rs f, d.emit e = { d with regs := rs, rcf := f } := by
  obtain h | h | h := d.emit_cases e
  · exact ⟨d.regs, _, h⟩
  · exact ⟨_, _, h⟩
  · exact ⟨d.regs, _, h⟩

theorem Dev.faultRec_regs_rcf (d : Dev) (p b : Nat) (vs : List W32) (o i : Nat) :
    ∃ rs f, d.faultRec p b vs o i = { d with regs := rs, rcf := f } := by
  unfold Dev.faultRec Dev.recFault
  obtain ⟨rs, hfault⟩ := d.fault_regs p b
  rw [hfault]
  exact Dev.emit_regs_rcf _ _

/-- A fault with its record touches the page's FAULT and IRQ_RAW and, where the intake is full, SUPP_TOTAL. -/
theorem Dev.rd_faultRec_ne (d : Dev) (p b : Nat) {vs : List W32} {o i a : Nat} (hfault : a ≠ Reg.FAULT p) (hirq : a ≠ Reg.IRQ_RAW p)
    (hsupp : a ≠ Reg.REC_SUPP_TOTAL) : (d.faultRec p b vs o i).rd a = d.rd a :=
  (Dev.rd_emit_ne _ _ hsupp).trans (Dev.rd_fault_ne d p b hfault hirq)

theorem Dev.bit_faultRec (d : Dev) (p : Nat) {b : Nat} {vs : List W32} {o i : Nat} (hb : b < 32) :
    (d.faultRec p b vs o i).bit (Reg.FAULT p) b = true := by
  have hne : Reg.FAULT p ≠ Reg.REC_SUPP_TOTAL := by unfold Reg.FAULT Reg.REC_SUPP_TOTAL; omega
  unfold Dev.faultRec Dev.recFault
  rw [Dev.bit, Dev.rd_emit_ne _ _ hne]
  exact (d.fault_spec p b hb).1

/-- Where the intake is open and has room, the record of a fault waits there, at the instant of the fault. -/
theorem Dev.faultRec_intake (d : Dev) (p b : Nat) (vs : List W32) (o i : Nat) (hopen : d.rcf.closed = false)
    (hpf : d.pow.pfAt = none) (hroom : d.rcf.intake.length < intakeDepth) :
    (d.faultRec p b vs o i).rcf.intake = enqueueEvent d.rcf.intake ⟨false, 0, p, 1, b, o, i, vs, d.tm.tbm⟩ := by
  unfold Dev.faultRec Dev.recFault
  rw [Dev.emit_open _ _ (by simpa using hopen) (by simpa using hpf) (by simpa using hroom)]
  simp

/-! The arms of the held pages cleared -/

theorem Dev.mem_armedPages (d : Dev) (p : Nat) : p ∈ d.armedPages ↔ p ∈ allPages ∧ d.bit (Reg.TURN_ARM p) 0 = true := by
  unfold Dev.armedPages
  cases h : d.activates p <;> simp [h]

/-- The arms of the pages `ps` cleared, one after another, as `Dev.gatherEnds` does. -/
def Dev.clearArms (d : Dev) (ps : List Nat) : Dev := ps.foldl (fun d p => d.wrN (Reg.TURN_ARM p) 0) d

theorem Dev.clearArms_regs (d : Dev) (ps : List Nat) : ∃ rs, d.clearArms ps = { d with regs := rs } := by
  induction ps generalizing d with
  | nil => exact ⟨d.regs, rfl⟩
  | cons p ps ih => exact ih (d.wrN (Reg.TURN_ARM p) 0)

theorem Dev.rd_clearArms_ne (d : Dev) {ps : List Nat} {a : Nat} (h : a ∉ ps.map Reg.TURN_ARM) : (d.clearArms ps).rd a = d.rd a := by
  induction ps generalizing d with
  | nil => rfl
  | cons p ps ih =>
    rw [List.map_cons, List.mem_cons, not_or] at h
    exact (ih _ h.2).trans (Dev.rd_wr_ne d _ h.1)

theorem Dev.rd_clearArms_of_mem (d : Dev) {ps : List Nat} {p : Nat} (h : p ∈ ps) : (d.clearArms ps).rd (Reg.TURN_ARM p) = 0#32 := by
  induction ps generalizing d with
  | nil => cases h
  | cons q ps ih =>
    by_cases hp : p ∈ ps
    · exact ih _ hp
    · obtain rfl := (List.mem_cons.mp h).resolve_right hp
      have hlast : Reg.TURN_ARM p ∉ ps.map Reg.TURN_ARM := by simpa [Reg.TURN_ARM] using hp
      exact (Dev.rd_clearArms_ne (d.wrN (Reg.TURN_ARM p) 0) hlast).trans (Dev.rd_wr_same d _ _)

/-- With the arms of the armed pages cleared, no page is armed. -/
theorem Dev.bit_clearArms_armedPages (d : Dev) {p : Nat} (hp : p ∈ allPages) : (d.clearArms d.armedPages).bit (Reg.TURN_ARM p) 0 = false := by
  by_cases h : p ∈ d.armedPages
  · rw [Dev.bit, d.rd_clearArms_of_mem h]
    decide
  · have hkept : Reg.TURN_ARM p ∉ d.armedPages.map Reg.TURN_ARM := by simpa [Reg.TURN_ARM] using h
    rw [Dev.bit, d.rd_clearArms_ne hkept]
    exact Bool.eq_false_iff.mpr fun harm => h ((d.mem_armedPages p).mpr ⟨hp, harm⟩)

/-! The end of a gathering (R72) -/

/-- The hold and the arms of a gathering cleared: its end before the fault is raised. -/
def Dev.ungathered (d : Dev) : Dev :=
  { (d.clearArms d.armedPages).wrN Reg.FRM_GLOBAL_HOLD 0 with frm := { (d.clearArms d.armedPages).frm with holdTurns := 0 } }

theorem Dev.gatherEnds_eq (d : Dev) : d.gatherEnds = d.ungathered.faultRec pFRM 18 := rfl

theorem Dev.ungathered_regs_frm (d : Dev) : ∃ rs, d.ungathered = { d with regs := rs, frm := { d.frm with holdTurns := 0 } } := by
  unfold Dev.ungathered
  obtain ⟨rs, hcleared⟩ := d.clearArms_regs d.armedPages
  rw [hcleared]
  exact ⟨_, rfl⟩

theorem Dev.rd_ungathered (d : Dev) (a : Nat) :
    d.ungathered.rd a = if a = Reg.FRM_GLOBAL_HOLD then 0#32 else (d.clearArms d.armedPages).rd a := by
  change ((d.clearArms d.armedPages).wrN Reg.FRM_GLOBAL_HOLD 0).rd a = _
  exact Dev.rd_wr _ _ _ _

/-- The end of a gathering changes register words, the recorder's front end and the count of held turns at most. -/
theorem Dev.gatherEnds_changes (d : Dev) :
    ∃ rs f, d.gatherEnds = { d with regs := rs, rcf := f, frm := { d.frm with holdTurns := 0 } } := by
  obtain ⟨rs, f, hrec⟩ := d.ungathered.faultRec_regs_rcf pFRM 18 [] 0 0
  obtain ⟨rs', hcleared⟩ := d.ungathered_regs_frm
  exact ⟨rs, f, by rw [Dev.gatherEnds_eq, hrec, hcleared]⟩

theorem Dev.rd_gatherEnds_hold (d : Dev) : d.gatherEnds.rd Reg.FRM_GLOBAL_HOLD = 0#32 := by
  rw [Dev.gatherEnds_eq, Dev.rd_faultRec_ne _ _ _ (by decide) (by decide) (by decide), Dev.rd_ungathered, if_pos rfl]

theorem Dev.bit_gatherEnds_arm (d : Dev) {p : Nat} (hp : p ∈ allPages) : d.gatherEnds.bit (Reg.TURN_ARM p) 0 = false := by
  have hfault : Reg.TURN_ARM p ≠ Reg.FAULT pFRM := by unfold Reg.TURN_ARM Reg.FAULT; omega
  have hirq : Reg.TURN_ARM p ≠ Reg.IRQ_RAW pFRM := by unfold Reg.TURN_ARM Reg.IRQ_RAW; omega
  have hsupp : Reg.TURN_ARM p ≠ Reg.REC_SUPP_TOTAL := by unfold Reg.TURN_ARM Reg.REC_SUPP_TOTAL; omega
  have hhold : Reg.TURN_ARM p ≠ Reg.FRM_GLOBAL_HOLD := by unfold Reg.TURN_ARM Reg.FRM_GLOBAL_HOLD; omega
  rw [Dev.bit, Dev.gatherEnds_eq, Dev.rd_faultRec_ne _ _ _ hfault hirq hsupp, Dev.rd_ungathered, if_neg hhold]
  exact d.bit_clearArms_armedPages hp

/-- The end of a gathering writes GLOBAL_HOLD, the arms, and what its fault and record write. -/
theorem Dev.rd_gatherEnds_ne (d : Dev) {a : Nat}
    (h : a ∉ [Reg.FRM_GLOBAL_HOLD, Reg.FAULT pFRM, Reg.IRQ_RAW pFRM, Reg.REC_SUPP_TOTAL] ++ allPages.map Reg.TURN_ARM) :
    d.gatherEnds.rd a = d.rd a := by
  simp only [List.mem_append, List.mem_cons, List.not_mem_nil, or_false, not_or] at h
  obtain ⟨⟨hhold, hfault, hirq, hsupp⟩, harm⟩ := h
  have hheld : a ∉ d.armedPages.map Reg.TURN_ARM := fun ha =>
    harm (List.map_subset _ (fun p hp => ((d.mem_armedPages p).mp hp).1) ha)
  rw [Dev.gatherEnds_eq, Dev.rd_faultRec_ne _ _ _ hfault hirq hsupp, Dev.rd_ungathered, if_neg hhold, Dev.rd_clearArms_ne _ hheld]

theorem Dev.gatherEnds_intake (d : Dev) (hopen : d.rcf.closed = false) (hpf : d.pow.pfAt = none)
    (hroom : d.rcf.intake.length < intakeDepth) :
    d.gatherEnds.rcf.intake = enqueueEvent d.rcf.intake ⟨false, 0, pFRM, 1, 18, 0, 0, [], d.tm.tbm⟩ := by
  obtain ⟨rs, hcleared⟩ := d.ungathered_regs_frm
  rw [Dev.gatherEnds_eq, hcleared]
  exact Dev.faultRec_intake _ pFRM 18 [] 0 0 hopen hpf hroom

theorem exec_gatherTimeout_expired (s : State) (h : s.dev.gatherExpired = true) :
    exec .gatherTimeout s = .next (onDev Dev.gatherEnds s) := by
  change execGatherTimeout s = _
  simp only [execGatherTimeout, onDev, h, if_true]

/-- Settles O25: the gathering has expired, so its end is the hold and the armed pages cleared and one fault with its record. -/
theorem gatherTimeout : Obligations.GatherTimeout := by
  intro s hhold hgo hturns
  have hexp : s.dev.gatherExpired = true := by simp [Dev.gatherExpired, hhold, hgo, hturns]
  obtain ⟨rs, f, hends⟩ := s.dev.gatherEnds_changes
  refine ⟨_, exec_gatherTimeout_expired s hexp, s.dev.rd_gatherEnds_hold, fun p hp => s.dev.bit_gatherEnds_arm hp,
    ?_, Dev.bit_faultRec _ pFRM (by decide), fun hopen hpf hroom => ?_, ⟨?_, rfl, rfl, rfl⟩, fun a ha => s.dev.rd_gatherEnds_ne ha⟩
  · rw [onDev_dev, hends]
  · have hintake := s.dev.gatherEnds_intake hopen hpf hroom
    refine ⟨⟨false, 0, pFRM, 1, 18, 0, 0, [], s.dev.tm.tbm⟩, ?_, rfl, rfl, rfl, rfl⟩
    rw [onDev_dev, hintake, mem_enqueueEvent]
    exact .inl rfl
  · rw [onDev_dev, hends]

end Sys2Proof.Machine
end

section
/-! PROOFS. The increment of TB-N (R91): a value taken, a value refused, and what the next CK_SYS cycle adds. -/

namespace Sys2Proof.Machine

/-! A 64-bit register written whole (R39) -/

theorem Dev.rd64_wr64_same (d : Dev) (a : Nat) {n : Nat} (h : n < 2 ^ 64) : (d.wr64 a n).rd64 a = n := by
  have hhigh : (d.wr64 a n).rd (a + 4) = hi32 n := Dev.rd_wr_same _ _ _
  have hlow : (d.wr64 a n).rd a = lo32 n := (Dev.rd_wr_ne _ _ (by omega)).trans (Dev.rd_wr_same _ _ _)
  rw [Dev.rd64, hhigh, hlow, hi32, lo32, BitVec.toNat_ofNat, BitVec.toNat_ofNat]
  omega

theorem Dev.rd_wr64_ne (d : Dev) {a b : Nat} (n : Nat) (hlow : b ≠ a) (hhigh : b ≠ a + 4) : (d.wr64 a n).rd b = d.rd b :=
  (Dev.rd_wr_ne _ _ hhigh).trans (Dev.rd_wr_ne _ _ hlow)

theorem Dev.rd64_congr {d e : Dev} {a : Nat} (hlow : d.rd a = e.rd a) (hhigh : d.rd (a + 4) = e.rd (a + 4)) : d.rd64 a = e.rd64 a := by
  rw [Dev.rd64, Dev.rd64, hlow, hhigh]

/-! A change that can move the wall time (R425, R434) -/

/-- The change is made, with at most a WALL_SRC record after it. -/
theorem Dev.withWall_cases (d : Dev) (f : Dev → Dev) : d.withWall f = f d ∨ ∃ vs, d.withWall f = (f d).recOwn 0x3C4 vs := by
  unfold Dev.withWall
  dsimp only
  split
  · exact .inl rfl
  · exact .inr ⟨_, rfl⟩

theorem Dev.withWall_regs_rcf (d : Dev) (f : Dev → Dev) : ∃ rs g, d.withWall f = { f d with regs := rs, rcf := g } := by
  obtain h | ⟨vs, h⟩ := d.withWall_cases f
  · exact ⟨(f d).regs, (f d).rcf, h⟩
  · rw [h]
    exact Dev.emit_regs_rcf _ _

theorem Dev.rd_withWall_ne (d : Dev) (f : Dev → Dev) {a : Nat} (h : a ≠ Reg.REC_SUPP_TOTAL) : (d.withWall f).rd a = (f d).rd a := by
  obtain hw | ⟨vs, hw⟩ := d.withWall_cases f
  · rw [hw]
  · rw [hw]
    exact Dev.rd_emit_ne _ _ h

/-! A discipline write (R94) -/

/-- A discipline write restarts the timeout; beyond that it changes register words and the recorder's front end at most. -/
theorem Dev.disciplined_changes (d : Dev) :
    ∃ rs f, d.disciplined = { d with regs := rs, rcf := f, tm := { d.tm with tbnWrite := d.tm.tbm, tbnOut := false } } :=
  Dev.withWall_regs_rcf _ _

theorem Dev.rd_disciplined_ne (d : Dev) {a : Nat} (hstat : a ≠ Reg.STATUS pTIME1) (hsupp : a ≠ Reg.REC_SUPP_TOTAL) :
    d.disciplined.rd a = d.rd a :=
  (Dev.rd_withWall_ne _ _ hsupp).trans (Dev.rd_setBit_ne _ _ _ hstat)

/-! What a cycle adds to TB-N (R91, R92) -/

theorem clampI_zero {m : Int} (h : 0 ≤ m) : clampI (-m) m 0 = 0 := by
  rw [clampI, if_neg (by omega), if_neg (by omega)]

/-- With no offset left to slew, a CK_SYS cycle adds the increment alone. -/
theorem Dev.advance_one_tbnU (d : Dev) (hrun : d.sysStopped = false) (hadj : d.tm.adjU = 0) :
    (d.advance 1).tm.tbnU = d.tm.tbnU + d.incr * 1000000 := by
  have hslew : capMag d.tm.adjU (1 * d.incr * d.rdN Reg.TIME1_ADJ_PPM) = 0 := by
    rw [hadj]
    exact clampI_zero (Int.natCast_nonneg _)
  simp only [Dev.advance, hrun, Dev.counted, hslew]
  push_cast
  omega

theorem Dev.incr_of_rd64 (d : Dev) {n : Nat} (h : d.rd64 Reg.TIME1_INCR = n) (hn : n < 2 ^ 40) : d.incr = n := by
  rw [Dev.incr, h, Nat.mod_eq_of_lt hn]

/-- CK_SYS is judged by PWR_STATE alone. -/
theorem Dev.sysStopped_congr {d e : Dev} (h : d.rd Reg.PWR_PWR_STATE = e.rd Reg.PWR_PWR_STATE) : d.sysStopped = e.sysStopped := by
  rw [Dev.sysStopped, Dev.sysStopped, Dev.powerState, Dev.powerState, Dev.fld, Dev.fld, h]

/-! INCR taken, and INCR refused (R91) -/

/-- The part with the increment `n` taken. -/
def Dev.incrTaken (d : Dev) (n : Nat) : Dev := (d.wr64 Reg.TIME1_INCR n).disciplined

theorem Dev.incrTaken_changes (d : Dev) (n : Nat) :
    ∃ rs f, d.incrTaken n = { d with regs := rs, rcf := f, tm := { d.tm with tbnWrite := d.tm.tbm, tbnOut := false } } :=
  Dev.disciplined_changes _

theorem Dev.tbnU_incrTaken (d : Dev) (n : Nat) : (d.incrTaken n).tm.tbnU = d.tm.tbnU := by
  obtain ⟨rs, f, h⟩ := d.incrTaken_changes n
  rw [h]

theorem Dev.rd64_incrTaken (d : Dev) {n : Nat} (h : n < 2 ^ 64) : (d.incrTaken n).rd64 Reg.TIME1_INCR = n :=
  (Dev.rd64_congr (Dev.rd_disciplined_ne _ (by decide) (by decide)) (Dev.rd_disciplined_ne _ (by decide) (by decide))).trans
    (d.rd64_wr64_same _ h)

theorem Dev.rd_incrTaken_ne (d : Dev) (n : Nat) {a : Nat}
    (h : a ∉ [Reg.TIME1_INCR, Reg.TIME1_INCR + 4, Reg.STATUS pTIME1, Reg.REC_SUPP_TOTAL]) : (d.incrTaken n).rd a = d.rd a := by
  simp only [List.mem_cons, List.not_mem_nil, or_false, not_or] at h
  obtain ⟨hlow, hhigh, hstat, hsupp⟩ := h
  exact (Dev.rd_disciplined_ne _ hstat hsupp).trans (Dev.rd_wr64_ne _ _ hlow hhigh)

theorem incrOk_iff (n : Nat) : incrOk n = true ↔ 0x9FEB851EC ≤ n ∧ n ≤ 0xA0147AE14 := by simp [incrOk]

theorem exec_incrWrite_taken {req : Requester} {v : W64} {s : State} (h : Accepts req Reg.TIME1_INCR (lo32 v.toNat) s)
    (hok : incrOk v.toNat = true) :
    exec (.incrWrite req v) s = .next (acceptedWrite req Reg.TIME1_INCR (·.incrTaken v.toNat) s) := by
  have hact : actIncr v.toNat (atFabric req true s) = (.ok, onDev (·.incrTaken v.toNat) (atFabric req true s)) := if_pos hok
  change execIncrWrite req v s = _
  rw [execIncrWrite, hostCmd_ok h hact, acceptedWrite]

theorem exec_incrWrite_refused {req : Requester} {v : W64} {s : State} (h : Accepts req Reg.TIME1_INCR (lo32 v.toNat) s)
    (hok : ¬ incrOk v.toNat = true) :
    exec (.incrWrite req v) s
      = .next (onDev (·.respond req Reg.TIME1_INCR .len 0 []) (onDev (·.fault pTIME1 16) (atFabric req true s))) := by
  have hact : actIncr v.toNat (atFabric req true s) = (.len, onDev (·.fault pTIME1 16) (atFabric req true s)) := if_neg hok
  change execIncrWrite req v s = _
  rw [execIncrWrite, hostCmd_accepted h, hact]
  rfl

/-! What an accepted write leaves of the state it starts from -/

theorem Accepts.rd_start {q : Requester} {a : Nat} {v : W32} {s : State} (h : Accepts q a v s) (b : Nat) :
    (atFabric q true s).dev.rd b = s.dev.rd b := by
  obtain ⟨k, hstart⟩ := h.start
  rw [hstart]
  rfl

@[simp] theorem atFabric_tm (q : Requester) (w : Bool) (s : State) : (atFabric q w s).dev.tm = s.dev.tm := Dev.hslTouch_tm _ _ _

theorem acceptedWrite_rd (q : Requester) (a : Nat) (f : Dev → Dev) (s : State) (b : Nat) :
    (acceptedWrite q a f s).dev.rd b = (f (atFabric q true s).dev).rd b := rfl

theorem acceptedWrite_tm (q : Requester) (a : Nat) (f : Dev → Dev) (s : State) :
    (acceptedWrite q a f s).dev.tm = (f (atFabric q true s).dev).tm := Dev.respond_tm _ _ _ _ _ _

/-- An answer changes register words and the access state at most. -/
theorem Dev.respond_regs_fab (d : Dev) (q : Requester) (a : Nat) (st : Status) (n : Nat) (ws : List W32) :
    ∃ rs f, d.respond q a st n ws = { d with regs := rs, fab := f } := by
  unfold Dev.respond
  dsimp only
  split
  · exact ⟨d.regs, _, rfl⟩
  · exact ⟨_, _, rfl⟩

/-! The two outcomes (R91) -/

theorem incrTaken_regsKept {req : Requester} {v : W32} {s : State} (h : Accepts req Reg.TIME1_INCR v s) (n : Nat) :
    regsKept [Reg.TIME1_INCR, Reg.TIME1_INCR + 4, Reg.STATUS pTIME1, Reg.REC_SUPP_TOTAL] s
      (acceptedWrite req Reg.TIME1_INCR (·.incrTaken n) s) := fun a ha =>
  (acceptedWrite_rd _ _ _ _ _).trans ((Dev.rd_incrTaken_ne _ _ ha).trans (h.rd_start a))

theorem incrTaken_differOnly {req : Requester} {v : W32} {s : State} (h : Accepts req Reg.TIME1_INCR v s) (n : Nat) :
    differOnly (fun d => { d with tm := {}, rcf := {}, fab := {}, pow := {} }) s
      (acceptedWrite req Reg.TIME1_INCR (·.incrTaken n) s) := by
  obtain ⟨k, hstart⟩ := h.start
  obtain ⟨rs, f, htaken⟩ := Dev.incrTaken_changes { s.dev with pow := { s.dev.pow with wake := k } } n
  refine ⟨?_, rfl, rfl, rfl⟩
  simp only [acceptedWrite, answeredOk, hstart, onDev_dev, htaken]
  rfl

theorem rangeRefused_differOnly {req : Requester} {v : W32} {s : State} (h : Accepts req Reg.TIME1_INCR v s) :
    differOnly (fun d => { d with fab := {}, pow := {} }) s
      (onDev (·.respond req Reg.TIME1_INCR .len 0 []) (onDev (·.fault pTIME1 16) (atFabric req true s))) := by
  obtain ⟨k, hstart⟩ := h.start
  obtain ⟨rs, hfault⟩ := (atFabric req true s).dev.fault_regs pTIME1 16
  obtain ⟨rs', f, hresp⟩ := Dev.respond_regs_fab { (atFabric req true s).dev with regs := rs } req Reg.TIME1_INCR .len 0 []
  refine ⟨?_, rfl, rfl, rfl⟩
  rw [onDev_dev, onDev_dev, hfault, hresp, hstart]

/-- Settles O17: a value in range is taken as a discipline write, and any other raises FAULT.RANGE and is answered LEN. -/
theorem incrementOfTbn : Obligations.IncrementOfTbn := by
  intro req v s hacc
  refine ⟨fun hlo hhi => ?_, fun hout => ?_⟩
  case refine_1 =>
    have hn : v.toNat < 2 ^ 40 := by omega
    have hkept := incrTaken_regsKept hacc v.toNat
    have hincr : (acceptedWrite req Reg.TIME1_INCR (·.incrTaken v.toNat) s).dev.rd64 Reg.TIME1_INCR = v.toNat :=
      (Dev.rd64_congr (acceptedWrite_rd _ _ _ _ _) (acceptedWrite_rd _ _ _ _ _)).trans (Dev.rd64_incrTaken _ v.isLt)
    have hrun := (Dev.sysStopped_congr (hkept Reg.PWR_PWR_STATE (by decide))).trans (s.dev.sysStopped_of_fabricUp hacc.up)
    refine ⟨_, exec_incrWrite_taken hacc ((incrOk_iff _).mpr ⟨hlo, hhi⟩), answerTo_answeredOk _ _ _, hincr, ?_, fun hadj => ?_,
      incrTaken_differOnly hacc _, hkept⟩
    · rw [acceptedWrite_tm, Dev.tbnU_incrTaken, atFabric_tm]
    · rw [Dev.advance_one_tbnU _ hrun hadj, Dev.incr_of_rd64 _ hincr hn]
  case refine_2 =>
    have hok : ¬ incrOk v.toNat = true := by
      rw [incrOk_iff]
      omega
    refine ⟨_, exec_incrWrite_refused hacc hok, answerTo_respond _ _ _ _ _ _, ?_, ?_, rangeRefused_differOnly hacc, fun a ha => ?_⟩
    · rw [onDev_dev, onDev_dev, Dev.bit, Dev.rd_respond_ne _ _ _ _ _ _ (by decide) (by decide)]
      exact (Dev.fault_spec _ _ _ (by decide)).1
    · simp only [onDev_dev, Dev.respond_tm, Dev.fault_tm, atFabric_tm]
    · simp only [List.mem_cons, List.not_mem_nil, or_false, not_or] at ha
      obtain ⟨hfault, hirq, herr, haddr⟩ := ha
      exact (Dev.rd_respond_ne _ _ _ _ _ _ herr haddr).trans ((Dev.rd_fault_ne _ _ _ hfault hirq).trans (hacc.rd_start a))

end Sys2Proof.Machine
end

section
/-! PROOFS. The identity of the ledger (R352) over its operations: an entry, a book, the memory with its flush, slots and snapshot. -/

namespace Sys2Proof.Machine

/-! An entry -/

theorem LedgerEntry.balanced_empty : ({} : LedgerEntry).Balanced := rfl

/-- Requested time that is booked to an account stands on both sides of the identity. -/
theorem LedgerEntry.Balanced.toAccount {e : LedgerEntry} (h : e.Balanced) (a : Account) (n : Nat) :
    ({ e with req := e.req + n }.toAccount a n).Balanced := by
  unfold LedgerEntry.Balanced at h ⊢
  cases a <;> simp only [LedgerEntry.toAccount, Nat.cast_add] <;> omega

/-- A settlement moves time between two terms of the same side. -/
theorem LedgerEntry.Balanced.settle {e : LedgerEntry} (h : e.Balanced) (a : Account) (n : Nat) : (e.settle a n).Balanced := by
  unfold LedgerEntry.Balanced at h ⊢
  have hle : min n e.infl ≤ e.infl := min_le_right _ _
  unfold LedgerEntry.settle
  generalize min n e.infl = m at hle
  cases a <;> simp only [LedgerEntry.toAccount, Nat.cast_add] <;> omega

theorem LedgerEntry.Balanced.settleAll {e : LedgerEntry} (h : e.Balanced) (parts : List (Account × Nat)) (rest : Account) :
    (e.settleAll parts rest).Balanced :=
  (List.foldlRecOn (motive := LedgerEntry.Balanced) parts _ h fun _ he p _ => he.settle p.1 p.2).settle _ _

theorem LedgerEntry.Balanced.elapse {e : LedgerEntry} (h : e.Balanced) (asked given moved : Bool) (why : Option Account) (n : Nat) :
    (e.elapse asked given moved why n).Balanced := by
  cases asked <;> cases given
  case false.false => exact h
  case true.true =>
    unfold LedgerEntry.Balanced LedgerEntry.elapse at *
    simp only [Nat.cast_add]
    omega
  case true.false =>
    cases why with
    | some a => exact h.toAccount a n
    | none =>
      unfold LedgerEntry.Balanced LedgerEntry.elapse at *
      simp only [Nat.cast_add]
      omega
  case false.true =>
    have hle : (if moved then min n e.infl else 0) ≤ n ∧ (if moved then min n e.infl else 0) ≤ e.infl := by
      split <;> omega
    unfold LedgerEntry.Balanced LedgerEntry.elapse at *
    generalize (if moved then min n e.infl else 0) = m at hle ⊢
    simp only [Nat.cast_add]
    omega

theorem LedgerEntry.Balanced.meter {e : LedgerEntry} (h : e.Balanced) (req del : Nat) (out : Bool) : (e.meter req del out).Balanced := by
  unfold LedgerEntry.Balanced at *
  cases out <;> simp only [LedgerEntry.meter] <;> simp <;> omega

/-! A channel's frame -/

theorem LedgerEntry.Balanced.settleEach {e : LedgerEntry} (h : e.Balanced) (l : List (Nat × List (Account × Nat) × Account)) :
    (l.foldl (fun e s => e.settleAll s.2.1 s.2.2) e).Balanced :=
  List.foldlRecOn (motive := LedgerEntry.Balanced) l _ h fun _ he x _ => he.settleAll x.2.1 x.2.2

theorem LedgerEntry.Balanced.walk (b : Book) {ticks : List Nat} {e : LedgerEntry} (h : e.Balanced) : (b.walk ticks e).Balanced := by
  induction ticks generalizing e with
  | nil => exact h
  | cons x r ih =>
    cases r with
    | nil => exact h
    | cons y r => exact ih ((h.settleEach _).elapse _ _ _ _ _)

theorem LedgerEntry.Balanced.bookFrame {e : LedgerEntry} (h : e.Balanced) (b : Book) (t0 t1 : Nat) : (b.bookFrame t0 t1 e).Balanced :=
  (LedgerEntry.Balanced.walk b (h.settleEach _)).settleEach _

/-! The book of all channels -/

theorem LedgerBook.balanced_of_entries_nil {b : LedgerBook} (h : b.entries = []) : b.Balanced := by
  intro p hp
  rw [h] at hp
  cases hp

theorem sget_mem {α : Type} (d : Nat → α) (m : SMap α) (k : Nat) : sget d m k = d k ∨ (k, sget d m k) ∈ m := by
  induction m with
  | nil => exact .inl rfl
  | cons p r ih =>
    unfold sget
    split_ifs with h
    · exact .inr (by rw [h]; exact List.mem_cons_self)
    · exact ih.imp_right (List.mem_cons_of_mem _)

theorem LedgerBook.Balanced.entry {b : LedgerBook} (h : b.Balanced) (c : Nat) : (b.entry c).Balanced := by
  unfold LedgerBook.entry
  obtain hd | hm := sget_mem (fun _ => ({} : LedgerEntry)) b.entries c
  · rw [hd]
    exact LedgerEntry.balanced_empty
  · exact h _ hm

theorem LedgerBook.Balanced.setEntry {b : LedgerBook} (h : b.Balanced) (c : Nat) {e : LedgerEntry} (he : e.Balanced) :
    (b.setEntry c e).Balanced := by
  intro p hp
  obtain rfl | hm := mem_sset (fun _ => ({} : LedgerEntry)) b.entries c e p hp
  · exact he
  · exact h p hm

theorem LedgerBook.Balanced.bookFrame {b : LedgerBook} (h : b.Balanced) (d : Dev) (t0 t1 : Nat) : (d.bookFrame t0 t1 b).Balanced := by
  refine List.foldlRecOn (motive := LedgerBook.Balanced) _ _ ?_ fun b hb p _ => hb.setEntry _ ((hb.entry p.1).meter _ _ _)
  exact List.foldlRecOn (motive := LedgerBook.Balanced) _ _ h fun b hb p _ => hb.setEntry _ ((hb.entry p.1).bookFrame _ _ _)

theorem LedgerBook.Balanced.resetFlight {b : LedgerBook} (h : b.Balanced) : b.resetFlight.Balanced := by
  intro p hp
  obtain ⟨q, hq, rfl⟩ := List.mem_map.mp (List.mem_of_mem_filter hp)
  exact (h q hq).settle _ _

/-! The ledger memory -/

theorem Ledgers.newest_mem {l : Ledgers} {x : LedgerSlot} (h : l.newest = some x) : some x ∈ l.slots := by
  unfold Ledgers.newest at h
  split at h
  case h_1 hs =>
    rw [hs]
    split at h <;> simp_all
  all_goals simp_all

theorem Ledgers.Balanced.writeSlot {l : Ledgers} (h : l.Balanced) {x : LedgerSlot} (hx : x.book.Balanced) (ok : Bool) :
    Ledgers.Balanced { l.writeSlot x ok with flushing := none } := by
  obtain ⟨hbook, -, hslots, hsnap⟩ := h
  refine ⟨hbook, fun _ hf => (nomatch (show none = some _ from hf)), fun y hy => ?_, hsnap⟩
  obtain hm | he := List.mem_or_eq_of_mem_set hy
  · exact hslots y hm
  · cases ok
    · cases he
    · cases he
      exact hx

theorem Ledgers.Balanced.bookTurn {l : Ledgers} (h : l.Balanced) (d : Dev) (t0 t1 : Nat) : (d.bookTurn t0 t1 l).Balanced := by
  obtain ⟨hbook, hflush, hslots, hsnap⟩ := h
  unfold Dev.bookTurn
  split
  · exact ⟨hbook, hflush, hslots, hsnap⟩
  · refine ⟨?_, hflush, hslots, hsnap⟩
    have hbooked : (if d.sup.rebook then l.book.resetFlight else d.bookFrame t0 t1 l.book).Balanced := by
      split
      · exact hbook.resetFlight
      · exact hbook.bookFrame d t0 t1
    dsimp only
    split
    · exact hbooked.resetFlight
    · exact hbooked

theorem Ledgers.Balanced.flushTurn {l : Ledgers} (h : l.Balanced) (d : Dev) (sec : Bool) : (d.flushTurn sec l).Balanced := by
  have hset : ∀ pf, Ledgers.Balanced { l with flushing := some (l.slot l.book pf) } := fun pf =>
    ⟨h.1, fun x hx => by cases hx; exact h.1, h.2.2.1, h.2.2.2⟩
  unfold Dev.flushTurn
  split_ifs
  · exact h
  · exact hset true
  · exact hset false
  · exact h

theorem LedgerBook.balanced_newSession (b : LedgerBook) : b.newSession.Balanced := LedgerBook.balanced_of_entries_nil rfl

theorem Ledgers.Balanced.ledgerTurn {l : Ledgers} (h : l.Balanced) (t0 t1 : Nat) (sec supplyOk tempOk : Bool) (d : Dev) :
    (ledgerTurn t0 t1 sec supplyOk tempOk d l).2.Balanced := by
  unfold Sys2Proof.Machine.ledgerTurn
  extract_lets _ m b _ _ _ _ _ _ _ _ l1 _
  have hm : m.Balanced := (h.bookTurn d t0 t1).flushTurn d sec
  obtain ⟨hbook, hflush, hslots, hsnap⟩ := hm
  have hl1 : l1.Balanced := by
    unfold l1
    split
    · exact ⟨hbook, hflush, hslots, fun b hb => by cases hb; exact hbook⟩
    · exact ⟨hbook, hflush, hslots, hsnap⟩
  split
  · exact ⟨b.balanced_newSession, hl1.2⟩
  · exact hl1

theorem Ledgers.Balanced.resumeLedger {l : Ledgers} (h : l.Balanced) (d : Dev) : (d.resumeLedger l).1.Balanced := by
  obtain ⟨-, -, hslots, -⟩ := h
  have hnone : ∀ x : LedgerSlot, none = some x → x.book.Balanced := fun _ hx => by cases hx
  have hnoneB : ∀ x : LedgerBook, none = some x → x.Balanced := fun _ hx => by cases hx
  unfold Dev.resumeLedger
  split
  next => exact ⟨LedgerBook.balanced_of_entries_nil rfl, hnone, hslots, hnoneB⟩
  next x hx =>
    have hb : x.book.Balanced := hslots x (Ledgers.newest_mem hx)
    dsimp only
    split
    · exact ⟨hb, hnone, hslots, hnoneB⟩
    · exact ⟨hb, hnone, hslots, hnoneB⟩

end Sys2Proof.Machine
end

section
/-! PROOFS. The numbering of records (R428) over the operations of the record store. -/

namespace Sys2Proof.Machine

/-- Every record of a list has a SEQ below a bound. -/
def seqsBelow (n : Nat) (l : List Record) : Prop := ∀ x ∈ l, x.seq < n

/-- The numbering of a record store, place by place. -/
theorem RecStore.numbered_iff (r : RecStore) :
    r.Numbered ↔ seqsBelow r.nextSeq (r.ring.flatMap (·.recs)) ∧ seqsBelow r.nextSeq r.kept ∧ seqsBelow r.nextSeq r.undrained
      ∧ (∀ a, r.pf = some a → seqsBelow r.nextSeq a.recs) ∧ r.nextSeq ≤ r.reserved
      ∧ r.undrained.Pairwise (fun x y => x.seq < y.seq) := by
  have hpf : seqsBelow r.nextSeq (match r.pf with | some a => a.recs | none => []) ↔ ∀ a, r.pf = some a → seqsBelow r.nextSeq a.recs := by
    cases r.pf <;> simp [seqsBelow]
  rw [← hpf]
  unfold RecStore.Numbered RecStore.held
  simp only [seqsBelow, List.mem_append, or_imp, forall_and]
  tauto

/-- The numbering looks at the records, the next SEQ and its block alone. -/
theorem RecStore.Numbered.congr {r s : RecStore} (h : r.Numbered) (hring : s.ring = r.ring) (hkept : s.kept = r.kept)
    (hund : s.undrained = r.undrained) (hpf : s.pf = r.pf) (hnext : s.nextSeq = r.nextSeq) (hres : s.reserved = r.reserved) : s.Numbered := by
  rw [RecStore.numbered_iff] at h ⊢
  rwa [hring, hkept, hund, hpf, hnext, hres]

theorem seqsBelow.mono {n m : Nat} {l : List Record} (h : seqsBelow n l) (hnm : n ≤ m) : seqsBelow m l :=
  fun x hx => (h x hx).trans_le hnm

theorem seqsBelow.subset {n : Nat} {l k : List Record} (h : seqsBelow n l) (hkl : k ⊆ l) : seqsBelow n k :=
  fun x hx => h x (hkl hx)

theorem seqsBelow_nil (n : Nat) : seqsBelow n [] := fun _ hx => (List.not_mem_nil hx).elim

theorem seqsBelow_append {n : Nat} {l k : List Record} : seqsBelow n (l ++ k) ↔ seqsBelow n l ∧ seqsBelow n k :=
  List.forall_mem_append

/-! The ring (R431) -/

theorem ringAdd_trim_subset (l : List Sector) : (ringAdd.trim l) ⊆ l := by
  unfold ringAdd.trim
  split
  · exact List.drop_subset _ _
  · exact List.Subset.refl _

/-- A record added to the ring is the only one that was not there before. -/
theorem mem_ringAdd {epoch : Nat} {ring : List Sector} {r x : Record} (h : x ∈ (ringAdd epoch ring r).flatMap (·.recs)) :
    x = r ∨ x ∈ ring.flatMap (·.recs) := by
  obtain ⟨z, hz, hx⟩ := List.mem_flatMap.mp h
  unfold ringAdd at hz
  split at hz
  next y hy =>
    have hlast : y ∈ ring := List.mem_of_getLast? hy
    split at hz
    · obtain hz | hz := List.mem_append.mp hz
      · exact .inr (List.mem_flatMap.mpr ⟨z, List.dropLast_subset _ hz, hx⟩)
      · obtain rfl := List.mem_singleton.mp hz
        obtain hx | hx := List.mem_append.mp hx
        · exact .inr (List.mem_flatMap.mpr ⟨y, hlast, hx⟩)
        · exact .inl (List.mem_singleton.mp hx)
    · obtain hz | hz := List.mem_append.mp (ringAdd_trim_subset _ hz)
      · exact .inr (List.mem_flatMap.mpr ⟨z, hz, hx⟩)
      · obtain rfl := List.mem_singleton.mp hz
        exact .inl (List.mem_singleton.mp hx)
  next =>
    obtain rfl := List.mem_singleton.mp hz
    exact .inl (List.mem_singleton.mp hx)

theorem seqsBelow_ringAdd {n epoch : Nat} {ring : List Sector} {r : Record} (h : seqsBelow n (ring.flatMap (·.recs))) (hr : r.seq < n) :
    seqsBelow n ((ringAdd epoch ring r).flatMap (·.recs)) := by
  intro x hx
  obtain rfl | hx := mem_ringAdd hx
  · exact hr
  · exact h x hx

theorem seqsBelow_ringAddAll {n epoch : Nat} {ring : List Sector} {l : List Record} (h : seqsBelow n (ring.flatMap (·.recs)))
    (hl : seqsBelow n l) : seqsBelow n ((l.foldl (ringAdd epoch) ring).flatMap (·.recs)) :=
  List.foldlRecOn (motive := fun z : List Sector => seqsBelow n (z.flatMap (·.recs))) l _ h fun _ hz r hr => seqsBelow_ringAdd hz (hl r hr)

/-! The buffer (R432) -/

theorem trimKept_sublist (room : Nat) (l : List Record) : (trimKept room l).Sublist l := by
  induction l with
  | nil => exact .slnil
  | cons r l ih =>
    unfold trimKept
    split
    · exact .refl _
    · exact ih.cons _

/-- What gives way and what stays are the buffer's records in their order. -/
theorem overwrite_append (room : Nat) (l : List Record) : (overwrite room l).1 ++ (overwrite room l).2 = l := by
  induction l with
  | nil => rfl
  | cons r l ih =>
    unfold overwrite
    split
    · rfl
    · simp [ih]

theorem overwrite_sublist (room : Nat) (l : List Record) : (overwrite room l).2.Sublist l := by
  conv_rhs => rw [← overwrite_append room l]
  exact List.sublist_append_right _ _

/-- A record with the next SEQ joins the buffer, and the next SEQ moves on. -/
theorem RecStore.Numbered.buffer {s : RecStore} (h : s.Numbered) {r : Record} (hr : r.seq = s.nextSeq) (l : Nat × Nat) :
    RecStore.Numbered { (s.takeSeq.buffer r).1 with lostLo := l.1, lostHi := l.2 } := by
  obtain ⟨hring, hkept, hund, hpf, hres, hrise⟩ := s.numbered_iff.mp h
  have hsub := overwrite_sublist bufferBytes (s.undrained ++ [r])
  have hall : seqsBelow (s.nextSeq + 1) (s.undrained ++ [r]) := by
    refine seqsBelow_append.mpr ⟨hund.mono (Nat.le_succ _), fun x hx => ?_⟩
    rw [List.mem_singleton.mp hx, hr]
    exact Nat.lt_succ_self _
  refine (RecStore.numbered_iff _).mpr ⟨hring.mono (Nat.le_succ _), ?_, hall.subset hsub.subset, fun a ha => (hpf a ha).mono (Nat.le_succ _), ?_, ?_⟩
  · exact (hkept.mono (Nat.le_succ _)).subset (trimKept_sublist _ _).subset
  · show s.nextSeq + 1 ≤ if s.nextSeq ≥ s.reserved then s.reserved + 65536 else s.reserved
    split <;> omega
  · refine List.Pairwise.sublist hsub (List.pairwise_append.mpr ⟨hrise, List.pairwise_singleton _ _, fun x hx y hy => ?_⟩)
    rw [List.mem_singleton.mp hy, hr]
    exact hund x hx

/-- The buffer drained into the ring (R431). -/
theorem RecStore.Numbered.drain {s : RecStore} (h : s.Numbered) (epoch : Nat) : (s.drain epoch).Numbered := by
  obtain ⟨hring, hkept, hund, hpf, hres, -⟩ := s.numbered_iff.mp h
  exact (RecStore.numbered_iff _).mpr ⟨seqsBelow_ringAddAll hring hund, seqsBelow_append.mpr ⟨hkept, hund⟩, seqsBelow_nil _, hpf, hres, List.Pairwise.nil⟩

/-- EPOCH_START takes the next SEQ into the ring of a drained store (R439). -/
theorem RecStore.Numbered.ringTakes {s : RecStore} (h : s.Numbered) (epoch : Nat) {r : Record} (hr : r.seq = s.nextSeq) :
    RecStore.Numbered { s.takeSeq with ring := ringAdd epoch s.ring r } := by
  obtain ⟨hring, hkept, hund, hpf, hres, hrise⟩ := s.numbered_iff.mp h
  refine (RecStore.numbered_iff _).mpr ⟨seqsBelow_ringAdd (hring.mono (Nat.le_succ _)) (by rw [hr]; exact Nat.lt_succ_self _),
    hkept.mono (Nat.le_succ _), hund.mono (Nat.le_succ _), fun a ha => (hpf a ha).mono (Nat.le_succ _), ?_, hrise⟩
  show s.nextSeq + 1 ≤ if s.nextSeq ≥ s.reserved then s.reserved + 65536 else s.reserved
  split <;> omega

/-- The power-fail area takes the undrained records, or none (R433). -/
theorem RecStore.Numbered.areaWritten {s : RecStore} (h : s.Numbered) (good : Bool) (n : Nat) :
    RecStore.Numbered { s with pf := if good then some ⟨s.undrained, n⟩ else none } := by
  obtain ⟨hring, hkept, hund, -, hres, hrise⟩ := s.numbered_iff.mp h
  refine (RecStore.numbered_iff _).mpr ⟨hring, hkept, hund, fun a ha => ?_, hres, hrise⟩
  cases good <;> cases ha
  exact hund

/-- The area imported into the ring (R433). -/
theorem RecStore.Numbered.importPf {s : RecStore} (h : s.Numbered) (epoch : Nat) : (s.importPf epoch).1.Numbered := by
  obtain ⟨hring, hkept, hund, hpf, hres, hrise⟩ := s.numbered_iff.mp h
  unfold RecStore.importPf
  split
  next => exact h
  next a ha =>
    have hnew : ∀ p : Record → Bool, seqsBelow s.nextSeq (a.recs.filter p) := fun p => (hpf a ha).subset ((List.filter_subset_self _))
    exact (RecStore.numbered_iff _).mpr ⟨seqsBelow_ringAddAll hring (hnew _), hkept, hund, fun _ hb => (nomatch hb), hres, hrise⟩

/-- Undrained records that the area held count as drained (R433). -/
theorem RecStore.Numbered.keepsDrained {s : RecStore} (h : s.Numbered) (p : Record → Bool) :
    RecStore.Numbered { s with kept := s.kept ++ s.undrained.filter p, undrained := s.undrained.filter (fun x => !p x) } := by
  obtain ⟨hring, hkept, hund, hpf, hres, hrise⟩ := s.numbered_iff.mp h
  exact (RecStore.numbered_iff _).mpr ⟨hring, seqsBelow_append.mpr ⟨hkept, hund.subset ((List.filter_subset_self _))⟩,
    hund.subset ((List.filter_subset_self _)), hpf, hres, hrise.filter _⟩

/-- What the stores hold without power (R413). -/
theorem RecStore.Numbered.unpowered {s : RecStore} (h : s.Numbered) :
    RecStore.Numbered { ring := s.ring, pf := s.pf, failLog := s.failLog, keys := s.keys, nextSeq := s.nextSeq, reserved := s.reserved } := by
  obtain ⟨hring, -, -, hpf, hres, -⟩ := s.numbered_iff.mp h
  exact (RecStore.numbered_iff _).mpr ⟨hring, seqsBelow_nil _, seqsBelow_nil _, hpf, hres, List.Pairwise.nil⟩

/-- After a loss of power the next SEQ is the end of the reserved block (R428). -/
theorem RecStore.Numbered.fromReserved {s : RecStore} (h : s.Numbered) : RecStore.Numbered { s with nextSeq := s.reserved } := by
  obtain ⟨hring, hkept, hund, hpf, hres, hrise⟩ := s.numbered_iff.mp h
  exact (RecStore.numbered_iff _).mpr ⟨hring.mono hres, hkept.mono hres, hund.mono hres, fun a ha => (hpf a ha).mono hres, le_refl _, hrise⟩

end Sys2Proof.Machine
end

section
/-! PROOFS. What every command keeps: the queue of those that wait, the identity of the ledger (R352) and the numbering of the
records (R428). One lemma for each operation on the whole state, then one case for each command. -/

namespace Sys2Proof.Machine

/-- The queue is the queue before, and the ledger and the records keep their invariants. -/
structure Keeps (s t : State) : Prop where
  queue : t.pending = s.pending
  ledger : s.ldg.Balanced → t.ldg.Balanced
  records : s.rcd.Numbered → t.rcd.Numbered

theorem Keeps.refl (s : State) : Keeps s s := ⟨rfl, id, id⟩
theorem Keeps.trans {s t u : State} (h : Keeps s t) (h' : Keeps t u) : Keeps s u :=
  ⟨h'.queue.trans h.queue, h'.ledger ∘ h.ledger, h'.records ∘ h.records⟩
/-- A change of the part alone. -/
theorem Keeps.ofDev (s : State) (d : Dev) : Keeps s { s with dev := d } := ⟨rfl, id, id⟩
theorem keeps_onDev (f : Dev → Dev) (s : State) : Keeps s (onDev f s) := ⟨rfl, id, id⟩
theorem Keeps.onDev {s t : State} (h : Keeps s t) (f : Dev → Dev) : Keeps s (onDev f t) := h.trans (keeps_onDev f t)
theorem Keeps.withDev {s t : State} (h : Keeps s t) (d : Dev) : Keeps s { t with dev := d } := h.trans (.ofDev t d)
/-- A change of the part and of the record store, of its session and logs alone. -/
theorem Keeps.ofRcd (s : State) (d : Dev) {r : RecStore} (h : s.rcd.Numbered → r.Numbered) : Keeps s { s with dev := d, rcd := r } := ⟨rfl, id, h⟩

/-! Accesses -/

/-- An action of an accepted write keeps what every command keeps. -/
def ActKeeps (act : Act) : Prop := ∀ s, Keeps s (act s).2
/-- A port keeps what every command keeps. -/
def PortKeeps (port : PortAct) : Prop := ∀ n s, Keeps s (port n s).2

@[simp] theorem actDev_keeps (f : Dev → Dev) : ActKeeps (actDev f) := fun s => keeps_onDev f s
theorem actIf_keeps (a : Nat) (ok : Dev → Bool) (f : Dev → Dev) : ActKeeps (actIf a ok f) := by
  intro s
  unfold actIf
  split
  · exact keeps_onDev f s
  · exact keeps_onDev (·.lenReject (targetPage a)) s
@[simp] theorem portDev_keeps (f : Nat → Dev → List W32 × Dev) : PortKeeps (portDev f) := fun _ s => Keeps.ofDev s _

theorem ActKeeps.checkedWrite {act : Act} (h : ActKeeps act) (q : Requester) (a : Nat) (v : W32) : ActKeeps (checkedWrite q a v act) := by
  intro s
  unfold Sys2Proof.Machine.checkedWrite
  split
  · exact h s
  · exact Keeps.ofDev s _

theorem ActKeeps.hostCmd {act : Act} (h : ActKeeps act) (q : Requester) (a : Nat) (v : W32) (s : State) : Keeps s (hostCmd q a v act s) := by
  rw [hostCmd_eq]
  exact ((keeps_onDev _ s).trans (h.checkedWrite q a v (atFabric q true s))).onDev _
theorem ActKeeps.farCmd {act : Act} (h : ActKeeps act) (q : Requester) (a : Nat) (v : W32) (s : State) : Keeps s (farCmd q a v act s) :=
  (keeps_onDev _ s).trans (h.hostCmd q a v _)

theorem PortKeeps.hostPort {port : PortAct} (h : PortKeeps port) (q : Requester) (a n : Nat) (s : State) : Keeps s (hostPort q a n port s) := by
  unfold Sys2Proof.Machine.hostPort
  dsimp only
  split
  · exact ((keeps_onDev _ s).trans (h n _)).onDev _
  · exact (keeps_onDev _ s).onDev _
theorem PortKeeps.farPort {port : PortAct} (h : PortKeeps port) (q : Requester) (a n : Nat) (s : State) : Keeps s (farPort q a n port s) :=
  (keeps_onDev _ s).trans (h.hostPort q a n _)

theorem hostBurst_keeps {act : BurstAct} (h : ∀ ws s, Keeps s (act ws s).2.2) (q : Requester) (a : Nat) (ws : List W32) (s : State) :
    Keeps s (hostBurst q a ws act s) := by
  unfold hostBurst
  dsimp only
  split
  · exact ((keeps_onDev _ s).trans (h ws _)).onDev _
  · exact (keeps_onDev _ s).onDev _

theorem ActKeeps.burstWords {act : W32 → Act} (h : ∀ w, ActKeeps (act w)) (ws : List W32) (s : State) : Keeps s (burstWords act ws s).2.2 := by
  induction ws generalizing s with
  | nil => exact Keeps.refl s
  | cons w r ih =>
    unfold Sys2Proof.Machine.burstWords
    have hw := h w s
    split
    next t ht => rw [ht] at hw; exact hw.trans (ih t)
    next t ht => simp_all

end Sys2Proof.Machine
end

section
/-! PROOFS. Each action of an accepted write, and each port, keeps what every command keeps. -/

namespace Sys2Proof.Machine

/-! Actions that change the part alone -/

@[simp] theorem actGlobalHold_keeps (v : W32) : ActKeeps (actGlobalHold v) := actDev_keeps _
@[simp] theorem actGlobalGo_keeps (v : W32) : ActKeeps (actGlobalGo v) := actDev_keeps _
@[simp] theorem actExtend_keeps (v : W32) : ActKeeps (actExtend v) := actDev_keeps _
@[simp] theorem actPolicySet_keeps (v : W32) : ActKeeps (actPolicySet v) := actDev_keeps _
@[simp] theorem actHbPeriod_keeps (v : W32) : ActKeeps (actHbPeriod v) := actDev_keeps _
@[simp] theorem actHbKick_keeps (q : Requester) : ActKeeps (actHbKick q) := actDev_keeps _
@[simp] theorem actPair_keeps (v : W32) : ActKeeps (actPair v) := actDev_keeps _
@[simp] theorem actAdj_keeps (v : W32) : ActKeeps (actAdj v) := actDev_keeps _
@[simp] theorem actStepAdd_keeps (q : Requester) : ActKeeps (actStepAdd q) := actDev_keeps _
@[simp] theorem actCapNow_keeps (q : Requester) : ActKeeps (actCapNow q) := actDev_keeps _
@[simp] theorem actPinCommit_keeps (b : Bool) : ActKeeps (actPinCommit b) := actDev_keeps _
@[simp] theorem actAcqFlush_keeps : ActKeeps actAcqFlush := actDev_keeps _
@[simp] theorem actAcceptClock_keeps : ActKeeps actAcceptClock := actDev_keeps _
@[simp] theorem actClearAdvisory_keeps : ActKeeps actClearAdvisory := actDev_keeps _
@[simp] theorem actTlSel_keeps (v : W32) : ActKeeps (actTlSel v) := actDev_keeps _
@[simp] theorem actActCancel_keeps (v : W32) : ActKeeps (actActCancel v) := actDev_keeps _
@[simp] theorem actLdgCmd_keeps (v : W32) : ActKeeps (actLdgCmd v) := actDev_keeps _
@[simp] theorem actRailClr_keeps (k : Nat) (v : W32) : ActKeeps (actRailClr k v) := actDev_keeps _
@[simp] theorem actLpClr_keeps (v : W32) : ActKeeps (actLpClr v) := actDev_keeps _
@[simp] theorem actSndSel_keeps (v : W32) : ActKeeps (actSndSel v) := actDev_keeps _
@[simp] theorem actNonce_keeps : ActKeeps actNonce := actDev_keeps _
@[simp] theorem actAuth_keeps : ActKeeps actAuth := actDev_keeps _
@[simp] theorem actDrainNow_keeps : ActKeeps actDrainNow := actDev_keeps _
@[simp] theorem actEthTxWord_keeps (v : W32) : ActKeeps (actEthTxWord v) := actDev_keeps _
@[simp] theorem actWdgCmd_keeps (v : W32) : ActKeeps (actWdgCmd v) := actDev_keeps _
@[simp] theorem actMpKick_keeps : ActKeeps actMpKick := actDev_keeps _
@[simp] theorem actTcStart_keeps (c : Nat) : ActKeeps (actTcStart c) := actDev_keeps _
@[simp] theorem actTcStop_keeps (c : Nat) : ActKeeps (actTcStop c) := actDev_keeps _
@[simp] theorem actTileClr_keeps (t : Nat) (v : W32) : ActKeeps (actTileClr t v) := actDev_keeps _
@[simp] theorem actChfClr_keeps (b : Nat) (v : W32) : ActKeeps (actChfClr b v) := actDev_keeps _
@[simp] theorem actCanTxWord_keeps (p : Nat) (v : W32) : ActKeeps (actCanTxWord p v) := actDev_keeps _
@[simp] theorem actWideHigh_keeps (q : Requester) (a : Nat) (v : W32) : ActKeeps (actWideHigh q a v) := actDev_keeps _
@[simp] theorem actMapStore_keeps (a : Nat) (v : W32) : ActKeeps (actMapStore a v) := actDev_keeps _
@[simp] theorem actHeader_keeps (q : Requester) (p o : Nat) (v : W32) : ActKeeps (actHeader q p o v) := actDev_keeps _
@[simp] theorem actAttCmd_keeps : ActKeeps actAttCmd := actIf_keeps _ _ _
@[simp] theorem actAttConfirm_keeps (v : W32) : ActKeeps (actAttConfirm v) := actIf_keeps _ _ _
@[simp] theorem actJobPush_keeps : ActKeeps actJobPush := actIf_keeps _ _ _
@[simp] theorem actRl_keeps (i : Nat) (v : W32) : ActKeeps (actRl i v) := actIf_keeps _ _ _

@[simp] theorem actBlobCmd_keeps (v : W32) : ActKeeps (actBlobCmd v) := by
  intro s
  unfold actBlobCmd
  dsimp only
  split_ifs
  · exact actIf_keeps _ _ _ s
  · exact Keeps.ofDev s _
  · exact Keeps.ofDev s _

@[simp] theorem actBlobPort_keeps (v : W32) : ActKeeps (actBlobPort v) := by
  intro s
  unfold actBlobPort
  split_ifs <;> exact Keeps.ofDev s _

theorem actStage_keeps (ws : List W32) (s : State) : Keeps s (actStage ws s).2.2 := by
  unfold actStage
  dsimp only
  split_ifs <;> exact Keeps.ofDev s _

@[simp] theorem actStageWord_keeps (v : W32) : ActKeeps (actStageWord v) := fun s => actStage_keeps [v] s

@[simp] theorem actIdiCmd_keeps (v : W32) : ActKeeps (actIdiCmd v) := by
  unfold actIdiCmd
  split <;> exact actIf_keeps _ _ _

@[simp] theorem actIncr_keeps (v : Nat) : ActKeeps (actIncr v) := by
  intro s
  unfold actIncr
  split_ifs <;> exact Keeps.ofDev s _

@[simp] theorem actSetNs_keeps (v : W32) : ActKeeps (actSetNs v) := by
  intro s
  unfold actSetNs
  split_ifs <;> exact Keeps.ofDev s _

@[simp] theorem actLoad_keeps (q : Requester) : ActKeeps (actLoad q) := by
  intro s
  unfold actLoad
  split_ifs <;> exact Keeps.ofDev s _

@[simp] theorem actCanPush_keeps (p : Nat) : ActKeeps (actCanPush p) := by
  intro s
  unfold actCanPush
  split_ifs <;> exact Keeps.ofDev s _

@[simp] theorem actEthPush_keeps : ActKeeps actEthPush := by
  intro s
  unfold actEthPush
  split_ifs <;> exact Keeps.ofDev s _

@[simp] theorem actJobCmd_keeps (v : W32) : ActKeeps (actJobCmd v) := by
  intro s
  unfold actJobCmd
  dsimp only
  split
  case h_5 => exact Keeps.ofDev s _
  all_goals split_ifs <;> exact Keeps.ofDev s _

@[simp] theorem actExpCmd_keeps (v : W32) : ActKeeps (actExpCmd v) := by
  intro s
  unfold actExpCmd
  dsimp only
  split_ifs <;> exact Keeps.ofDev s _

@[simp] theorem actExpPage_keeps (v : W32) : ActKeeps (actExpPage v) := by
  intro s
  unfold actExpPage
  split
  · split_ifs <;> exact Keeps.ofDev s _
  · exact Keeps.ofDev s _

@[simp] theorem actImpCmd_keeps : ActKeeps actImpCmd := by
  intro s
  unfold actImpCmd
  dsimp only
  split_ifs <;> exact Keeps.ofDev s _

@[simp] theorem actRxCmd_keeps : ActKeeps actRxCmd := by
  intro s
  unfold actRxCmd
  dsimp only
  split_ifs <;> exact Keeps.ofDev s _

@[simp] theorem actPush_keeps : ActKeeps actPush := by
  intro s
  unfold actPush
  split <;> exact Keeps.ofDev s _

@[simp] theorem actSndCmd_keeps (v : W32) : ActKeeps (actSndCmd v) := by
  intro s
  unfold actSndCmd
  dsimp only
  split
  · split_ifs <;> exact Keeps.ofDev s _
  all_goals exact Keeps.ofDev s _

@[simp] theorem actOutArm_keeps (v : W32) : ActKeeps (actOutArm v) := by
  intro s
  unfold actOutArm
  split_ifs <;> exact Keeps.ofDev s _

@[simp] theorem actPwrCmd_keeps : ActKeeps actPwrCmd := by
  intro s
  unfold actPwrCmd
  dsimp only
  split_ifs <;> exact Keeps.ofDev s _

/-! Actions on the record store's read sessions, keys and failure log -/

@[simp] theorem actReadStart_keeps : ActKeeps actReadStart := by
  intro s
  unfold actReadStart
  extract_lets
  exact Keeps.ofRcd s _ fun h => h.congr rfl rfl rfl rfl rfl rfl
@[simp] theorem actBrSel_keeps (v : W32) : ActKeeps (actBrSel v) := fun s => Keeps.ofRcd s _ id

theorem setKey_keeps (s : State) (slot : Nat) (k : List W32) : Keeps s (s.setKey slot k) := Keeps.ofRcd s _ id

@[simp] theorem actKeyCmd_keeps (v : W32) (written : Bool) : ActKeeps (actKeyCmd v written) := by
  intro s
  unfold actKeyCmd
  dsimp only
  split_ifs
  · exact Keeps.ofDev s _
  · exact setKey_keeps s _ _
  · exact Keeps.ofDev s _

theorem logFailure_keeps (s : State) (kind sector : Nat) (ok : Bool) : Keeps s (s.logFailure kind sector ok) := by
  unfold State.logFailure
  split_ifs
  · exact Keeps.ofRcd s _ id
  · exact Keeps.ofDev s _

theorem storeFails_keeps (s : State) (kind sector : Nat) (ok : Bool) : Keeps s (s.storeFails kind sector ok) := by
  unfold State.storeFails
  exact ((keeps_onDev _ s).trans (logFailure_keeps _ kind sector ok)).onDev _

theorem storeWrite_keeps (s : State) (o : DrainOutcome) : Keeps s (s.storeWrite o).2 := by
  unfold State.storeWrite
  split
  · exact Keeps.refl s
  · split
    · exact Keeps.refl s
    · split
      · exact storeFails_keeps s _ _ _
      · exact Keeps.ofDev s _
    · exact storeFails_keeps s _ _ _
    · exact storeFails_keeps s _ _ _

/-! Ports -/

@[simp] theorem portAtt_keeps : PortKeeps portAtt := portDev_keeps _
@[simp] theorem portMeas_keeps : PortKeeps portMeas := portDev_keeps _
@[simp] theorem portNavw_keeps : PortKeeps portNavw := portDev_keeps _
@[simp] theorem portAcqRes_keeps : PortKeeps portAcqRes := portDev_keeps _
@[simp] theorem portTl_keeps : PortKeeps portTl := portDev_keeps _
@[simp] theorem portDiag_keeps : PortKeeps portDiag := portDev_keeps _
@[simp] theorem portSnd_keeps : PortKeeps portSnd := portDev_keeps _
@[simp] theorem portEthRx_keeps : PortKeeps portEthRx := portDev_keeps _
@[simp] theorem portCanRx_keeps (p : Nat) : PortKeeps (portCanRx p) := portDev_keeps _
@[simp] theorem portMarks_keeps : PortKeeps portMarks := portDev_keeps _
@[simp] theorem portSnap_keeps : PortKeeps portSnap := fun _ _ => ⟨rfl, id, id⟩
@[simp] theorem portBr_keeps : PortKeeps portBr := fun _ s => Keeps.ofRcd s s.dev id
@[simp] theorem portRec_keeps : PortKeeps portRec := by
  intro n s
  unfold portRec
  dsimp only
  split_ifs
  · exact Keeps.refl s
  · exact Keeps.ofRcd s s.dev id
  · exact Keeps.ofRcd s s.dev id

/-- A port, where there is one, keeps what every command keeps. -/
def OptPortKeeps (port : Option PortAct) : Prop := ∀ p, port = some p → PortKeeps p
@[simp] theorem optPortKeeps_none : OptPortKeeps none := fun _ h => nomatch h
@[simp] theorem optPortKeeps_some (p : PortAct) : OptPortKeeps (some p) ↔ PortKeeps p :=
  ⟨fun h => h p rfl, fun h _ hp => Option.some.inj hp ▸ h⟩

theorem portOf_keeps (a : Nat) : OptPortKeeps (portOf a) := by
  unfold portOf
  repeat' refine iteInduction (fun _ => ?_) (fun _ => ?_)
  all_goals simp only [optPortKeeps_some, optPortKeeps_none, portAtt_keeps, portMeas_keeps, portNavw_keeps, portAcqRes_keeps, portTl_keeps,
    portSnap_keeps, portDiag_keeps, portSnd_keeps, portRec_keeps, portBr_keeps, portEthRx_keeps, portCanRx_keeps, portMarks_keeps]

/-! The ledger's flush -/

theorem flushLedger_keeps {s : State} {x : LedgerSlot} (hx : s.ldg.Balanced → x.book.Balanced) (ok : Bool) : Keeps s (s.flushLedger x ok) := by
  have hwrite : Keeps s { s with ldg := { s.ldg.writeSlot x ok with flushing := none } } := ⟨rfl, fun h => h.writeSlot (hx h) ok, id⟩
  unfold State.flushLedger
  dsimp only
  split_ifs
  · exact hwrite.onDev _
  · exact (hwrite.onDev _).trans (logFailure_keeps _ _ _ _)

theorem slot_balanced (l : Ledgers) (pf : Bool) (h : l.Balanced) : (l.slot l.book pf).book.Balanced := h.1
theorem slot_resetFlight_balanced (l : Ledgers) (pf : Bool) (h : l.Balanced) : (l.slot l.book.resetFlight pf).book.Balanced := h.1.resetFlight

/-! Intake (R426) -/

theorem putRecord_keeps {s : State} {r : Record} (hr : r.seq = s.rcd.nextSeq) : Keeps s (s.putRecord r) := by
  unfold State.putRecord
  dsimp only
  split
  · exact ⟨rfl, id, fun h => h.buffer hr (s.rcd.lostLo, s.rcd.lostHi)⟩
  next x rest _ =>
    exact ⟨rfl, id, fun h => h.buffer hr (if s.dev.rd Reg.REC_BUF_LOST = 0#32 then x.seq else s.rcd.lostLo, (rest.getLast?.getD x).seq)⟩

/-- RECORD_INTAKE as a function of the state. -/
def State.intakeOne (s : State) : State := match execRecordIntake s with | .next t => t | _ => s
theorem execRecordIntake_eq (s : State) : execRecordIntake s = .next s.intakeOne := rfl

theorem intakeOne_keeps (s : State) : Keeps s s.intakeOne := by
  unfold State.intakeOne execRecordIntake
  dsimp only
  split
  · exact Keeps.refl s
  · split_ifs
    · exact Keeps.refl s
    · exact (Keeps.ofDev s _).trans (putRecord_keeps rfl)
    · exact Keeps.ofDev s _

theorem intakeAll_keeps (s : State) : Keeps s s.intakeAll :=
  List.foldlRecOn (motive := Keeps s) _ _ (Keeps.refl s) fun t h _ _ => h.trans (intakeOne_keeps t)

/-! Resets (R411 to R417, R433) -/

theorem pfFlush_keeps (s : State) (inTime : Bool) : Keeps s (s.pfFlush inTime) := by
  unfold State.pfFlush
  extract_lets s1 good area slot _ s2 _ s3 now
  have harea : Keeps s s2 := (intakeAll_keeps s).trans (Keeps.ofRcd s1 s1.dev fun h => h.areaWritten good _)
  have hflush : Keeps s2 s3 := by
    unfold s3
    split
    · exact flushLedger_keeps (fun h => slot_resetFlight_balanced _ _ h) good
    · have hslot : Keeps s2 { s2 with ldg := { s2.ldg.writeSlot slot false with flushing := none } } :=
        ⟨rfl, fun h => h.writeSlot (slot_resetFlight_balanced _ _ h) false, id⟩
      exact hslot.trans (logFailure_keeps _ _ _ _)
  exact (harea.trans hflush).onDev _

theorem controllerReset_keeps (s : State) (cause : Nat) : Keeps s (s.controllerReset cause) := by
  unfold State.controllerReset
  split_ifs
  · exact Keeps.refl s
  · exact pfFlush_keeps s true
  · exact Keeps.ofDev s _
  · exact Keeps.ofDev s _

@[simp] theorem actRstCmd_keeps (v : W32) : ActKeeps (actRstCmd v) := by
  intro s
  unfold actRstCmd
  split_ifs
  · exact controllerReset_keeps s _
  · exact Keeps.ofDev s _

theorem importArea_keeps (s : State) : Keeps s s.importArea.1 := ⟨rfl, id, fun h => (h.importPf s.dev.epoch).keepsDrained _⟩

theorem resumeSession_keeps (s : State) : Keeps s s.resumeSession := ⟨rfl, fun h => h.resumeLedger s.dev, id⟩

theorem boot_keeps (s : State) (cause : Nat) : Keeps s (s.boot cause) :=
  ((importArea_keeps s).trans (resumeSession_keeps _)).trans (Keeps.ofDev _ _)

theorem unpowered_keeps (s : State) : Keeps s s.unpowered :=
  ⟨rfl, fun h => ⟨LedgerBook.balanced_of_entries_nil rfl, fun _ hx => (nomatch (show none = some _ from hx)), h.2.2.1,
    fun _ hx => (nomatch (show none = some _ from hx))⟩, fun h => h.unpowered⟩

theorem wakeReset_keeps (s : State) : Keeps s s.wakeReset := by
  unfold State.wakeReset
  extract_lets
  exact (((unpowered_keeps s).trans (Keeps.ofRcd s.unpowered _ id)).trans (boot_keeps _ rcWAKE)).onDev _

theorem newEpoch_keeps (s : State) (slot : Nat) : Keeps s (s.newEpoch slot) :=
  Keeps.ofRcd s _ fun h => (h.drain s.dev.epoch).ringTakes _ rfl

/-! The power ladder (R448 to R455) -/

theorem drainAll_keeps (s : State) : Keeps s s.drainAll := by
  unfold State.drainAll
  dsimp only
  split_ifs
  · exact intakeAll_keeps s
  · exact (intakeAll_keeps s).trans (Keeps.ofRcd _ s.intakeAll.dev fun h => h.drain _)

theorem toEbb_keeps (s : State) (stays : Bool) : Keeps s (s.toEbb stays) := by
  unfold State.toEbb
  extract_lets
  exact (flushLedger_keeps (fun h => slot_balanced _ _ h) _).onDev _
theorem toCove_keeps (s : State) : Keeps s s.toCove :=
  ((flushLedger_keeps (fun h => slot_balanced _ _ h) _).onDev _).trans (drainAll_keeps _)
theorem toStrand_keeps (s : State) : Keeps s s.toStrand := by
  unfold State.toStrand
  exact ((keeps_onDev _ s).trans (drainAll_keeps _)).onDev _

theorem exitPark_keeps (s : State) : Keeps s s.exitPark := by
  unfold State.exitPark
  dsimp only
  split_ifs
  · exact (resumeSession_keeps s).onDev _
  · exact keeps_onDev _ s
  · exact (resumeSession_keeps s).onDev _
  · exact keeps_onDev _ s

/-! Writes and reads over the fabric -/

/-- An action, where there is one, keeps what every command keeps. -/
def OptKeeps (o : Option Act) : Prop := ∀ act, o = some act → ActKeeps act

@[simp] theorem optKeeps_none : OptKeeps none := fun _ h => nomatch h
@[simp] theorem optKeeps_some (act : Act) : OptKeeps (some act) ↔ ActKeeps act :=
  ⟨fun h => h act rfl, fun h _ ha => by cases ha; exact h⟩

theorem commandOf_keeps (q : Requester) (a : Nat) (v : W32) : OptKeeps (commandOf q a v) := by
  unfold commandOf
  dsimp only
  split <;> split_ifs <;> simp

end Sys2Proof.Machine
end

section
/-! PROOFS. What every access over the fabric and the two links keeps. -/

namespace Sys2Proof.Machine

@[simp] theorem actWideLow_keeps (q : Requester) (a : Nat) (v : W32) : ActKeeps (actWideLow q a v) := by
  intro s
  unfold actWideLow
  extract_lets hi r
  have hr : Keeps s r.2 := by
    unfold r
    split_ifs
    · exact actIncr_keeps _ s
    · exact Keeps.ofDev s _
  split_ifs
  · exact hr.withDev _
  · exact hr

@[simp] theorem actStore_keeps (q : Requester) (a : Nat) (v : W32) : ActKeeps (actStore q a v) := by
  intro s
  unfold actStore
  split
  · exact Keeps.refl s
  · split_ifs
    · exact Keeps.refl s
    · exact actWideLow_keeps q a v s
    · exact actWideHigh_keeps q a v s
    · exact Keeps.ofDev s _

@[simp] theorem actWrite_keeps (q : Requester) (a : Nat) (v : W32) : ActKeeps (actWrite q a v) := by
  unfold actWrite
  split_ifs
  · exact actMapStore_keeps a v
  · exact actHeader_keeps q _ _ v
  all_goals split
  · next act hact => exact commandOf_keeps q a v act hact
  · exact actStore_keeps q a v
  · next hact => exact nomatch hact
  · exact actStore_keeps q a v

theorem hostWrite_keeps (q : Requester) (a : Nat) (v : W32) (s : State) : Keeps s (hostWrite q a v s) := (actWrite_keeps q a v).farCmd q a v s

theorem readReg_keeps (s : State) (q : Requester) (a : Nat) : Keeps s (s.readReg q a).2 := by
  unfold State.readReg
  split
  · exact Keeps.ofDev s _
  · extract_lets s'
    have h : Keeps s s' := List.foldlRecOn (motive := Keeps s) _ _ (Keeps.refl s) fun t h _ _ => h.onDev _
    exact h.withDev _

theorem readWord_keeps (s : State) (q : Requester) (a : Nat) : Keeps s (s.readWord q a).2 := by
  unfold State.readWord
  split
  · next p hp => exact portOf_keeps a p hp 1 s
  · split_ifs
    · exact Keeps.refl s
    · exact readReg_keeps s q a

theorem hostRead_keeps (q : Requester) (a : Nat) (s : State) : Keeps s (hostRead q a s) := by
  unfold hostRead
  extract_lets s' r
  have h : Keeps s s' := keeps_onDev _ s
  split
  · exact (h.trans (readWord_keeps s' q a)).onDev _
  · exact h.onDev _

theorem writeWords_keeps (q : Requester) (ws : List (Nat × W32)) (s : State) : Keeps s (writeWords q ws s).2.2 := by
  induction ws generalizing s with
  | nil => exact Keeps.refl s
  | cons w r ih =>
    have hw := (actWrite_keeps q w.1 w.2).checkedWrite q w.1 w.2 s
    rw [writeWords]
    split
    · next t ht => rw [ht] at hw; exact hw.trans (ih t)
    · next t _ ht => rw [ht] at hw; exact hw

theorem burstWrite_keeps (q : Requester) (a : Nat) (ws : List W32) (fixed : Bool) (s : State) : Keeps s (burstWrite q a ws fixed s).2.2 := by
  unfold burstWrite
  extract_lets s'
  have h : Keeps s s' := keeps_onDev _ s
  split
  · split_ifs
    · exact h.trans (actStage_keeps ws s')
    · exact h.trans (writeWords_keeps q _ s')
  · exact h.withDev _

theorem readWords_keeps (q : Requester) (l : List Nat) (s : State) : Keeps s (readWords q l s).2.2 := by
  induction l generalizing s with
  | nil => exact Keeps.refl s
  | cons a r ih =>
    rw [readWords]
    split
    · extract_lets x t
      have hx : Keeps s x.2 := readWord_keeps s q a
      split_ifs
      · exact hx
      · exact hx.trans (ih x.2)
    · exact Keeps.ofDev s _

theorem burstRead_keeps (q : Requester) (a n : Nat) (fixed : Bool) (s : State) : Keeps s (burstRead q a n fixed s).2.2 := by
  unfold burstRead
  extract_lets s' k r
  have h : Keeps s s' := keeps_onDev _ s
  split
  · have hr : Keeps s r.2.2 := by
      refine h.trans ?_
      unfold r
      split
      · next p hp =>
        split_ifs at hp
        exact portOf_keeps a p hp k s'
      · exact readWords_keeps q _ s'
    dsimp only
    split_ifs
    · exact hr.onDev _
    · exact hr
  · exact h.withDev _

theorem hslRun_keeps (cmd addr : W32) (chk : HslCheck) (data : List W32) (write : Bool) {act : State → State} (hact : ∀ t, Keeps t (act t)) (s : State) :
    Keeps s (hslRun cmd addr chk data write act s) := by
  unfold hslRun
  extract_lets s'
  have h : Keeps s s' := keeps_onDev _ s
  split
  · exact h.onDev _
  · split
    · exact h.onDev _
    · exact h.trans (hact s')

theorem hslReads_keeps (cmd addr : W32) (chk : HslCheck) (s : State) : Keeps s (hslReads cmd addr chk s) := by
  unfold hslReads
  refine hslRun_keeps cmd addr chk [] false (fun t => ?_) s
  split
  · split
    · exact (burstRead_keeps _ _ _ _ t).onDev _
    · exact (burstRead_keeps _ _ _ _ t).onDev _
  · exact keeps_onDev _ t

theorem hslWrites_keeps (cmd addr : W32) (data : List W32) (chk : HslCheck) (s : State) : Keeps s (hslWrites cmd addr data chk s) := by
  unfold hslWrites
  split
  · exact keeps_onDev _ s
  · refine hslRun_keeps cmd addr chk data true (fun t => ?_) s
    split
    · split
      · extract_lets whole
        split
        · exact (burstWrite_keeps _ _ _ _ t).onDev _
        · exact keeps_onDev _ t
      · exact (burstWrite_keeps _ _ _ _ t).onDev _
    · exact keeps_onDev _ t

theorem ivyRun_keeps (q : Requester) (o : IvyOp) (s : State) : Keeps s (ivyRun q o s).2.2 := by
  unfold ivyRun
  extract_lets record r w
  split_ifs
  · exact (burstRead_keeps q _ _ _ s).withDev _
  · exact (burstWrite_keeps q _ _ _ s).withDev _
  · exact Keeps.ofDev s _

theorem ivyRunAll_keeps (q : Requester) (ops : List IvyOp) (s : State) : Keeps s (ivyRunAll q ops s).2.2 := by
  induction ops generalizing s with
  | nil => exact Keeps.refl s
  | cons o r ih =>
    have ho := ivyRun_keeps q o s
    rw [ivyRunAll]
    split
    · next t ht => rw [ht] at ho; exact ho.trans (ih t)
    · next t _ ht => rw [ht] at ho; exact ho

theorem ivyExecute_keeps (q : Requester) (body : List Byte) (s : State) : Keeps s (ivyExecute q body s).2 := by
  unfold ivyExecute
  extract_lets reject
  have hreject : ∀ n, Keeps s (reject n).2 := fun _ => keeps_onDev (·.fault pHOST fLEN) s
  split
  · exact hreject 0
  · split_ifs
    · exact hreject _
    · exact ivyRunAll_keeps q _ s

theorem ivyRequest_keeps (bs : List Byte) (f : IvyFrame) (s : State) : Keeps s (ivyRequest bs f s) := by
  unfold ivyRequest
  split
  · exact keeps_onDev _ s
  · extract_lets s' r out
    split_ifs
    · exact keeps_onDev _ s
    · exact keeps_onDev _ s
    · exact keeps_onDev _ s
    · exact ((keeps_onDev _ s).trans (ivyExecute_keeps _ _ s')).onDev _

theorem ivyReceive_keeps (bs : List Byte) (s : State) : Keeps s (ivyReceive bs s) := by
  unfold ivyReceive
  split_ifs
  · exact Keeps.refl s
  · split
    · exact keeps_onDev _ s
    · split
      · exact keeps_onDev _ s
      · exact keeps_onDev _ s
      · exact ivyRequest_keeps bs _ s
      · exact keeps_onDev _ s
      · exact keeps_onDev _ s

end Sys2Proof.Machine
end

section
/-! PROOFS. O2, O3, O59, O60: every command completes and keeps the queue, the identity of the ledger and the numbering of the
records. The commands whose state after needs an argument come first; `exec_keeps` has one case for each kind of command. -/

namespace Sys2Proof.Machine

/-- The outcome is a next state that keeps what every command keeps. -/
def Completes (s : State) (o : Host.Outcome State Fault Refusal) : Prop := ∃ t, o = .next t ∧ Keeps s t

theorem Keeps.completes {s t : State} (h : Keeps s t) : Completes s (.next t) := ⟨t, rfl, h⟩

/-! Frames and clocks -/

theorem turn_keeps (s : State) (env : TurnEnv) : Keeps s (s.turn env) := by
  unfold State.turn
  extract_lets
  exact ⟨rfl, fun h => h.ledgerTurn _ _ _ _ _ _, id⟩

theorem execFrameTurn_completes (env : TurnEnv) (s : State) : Completes s (execFrameTurn env s) := by
  refine Keeps.completes ?_
  split
  · exact turn_keeps s env
  · exact Keeps.refl s

theorem execClockLoss_completes (dom : Domain) (s : State) : Completes s (execClockLoss dom s) := by
  refine Keeps.completes ?_
  extract_lets k s1 s2
  split
  · exact Keeps.refl s
  · split
    · exact (((keeps_onDev _ s).onDev _).trans (controllerReset_keeps s2 rcCLOCK)).onDev _
    · exact (keeps_onDev _ s).onDev _

/-! Host actions -/

theorem push_keeps (req : Requester) (s : State) (kind : Nat) :
    Keeps s (if s.dev.stagedKind = kind then hostCmd req Reg.EDS_ACT_PUSH 1#32 actPush s else s) := by
  split
  · exact actPush_keeps.hostCmd req _ _ s
  · exact Keeps.refl s

/-! The ledger -/

theorem execLedgerFlush_completes (ok : Bool) (s : State) : Completes s (execLedgerFlush ok s) := by
  refine Keeps.completes ?_
  split
  · exact Keeps.refl s
  · next x hx =>
    have hbook (h : s.ldg.Balanced) : x.book.Balanced := h.2.1 x hx
    split_ifs
    · exact Keeps.refl s
    · exact flushLedger_keeps hbook false
    · exact flushLedger_keeps hbook true
    · have hwrite : Keeps s { s with ldg := { s.ldg.writeSlot x false with flushing := none } } :=
        ⟨rfl, fun h => h.writeSlot (hbook h) false, id⟩
      exact (hwrite.onDev _).trans (storeFails_keeps _ 3 0 true)

theorem execLedgerEccError_completes (c : Fin 512) (s : State) : Completes s (execLedgerEccError c s) := by
  refine Keeps.completes ⟨rfl, fun ⟨hbook, hflush, hslots, hsnap⟩ => ⟨hbook, fun x hx => ?_, hslots, hsnap⟩, id⟩
  obtain ⟨y, hy, rfl⟩ := Option.map_eq_some_iff.mp hx
  exact hflush y hy

/-! Records -/

theorem execRecordIntake_completes (s : State) : Completes s (execRecordIntake s) := (intakeOne_keeps s).completes

theorem execBufferDrain_completes (outcome : DrainOutcome) (s : State) : Completes s (execBufferDrain outcome s) := by
  refine Keeps.completes ?_
  extract_lets s' t
  have ht : Keeps s t.2 := (keeps_onDev _ s).trans (storeWrite_keeps s' outcome)
  split_ifs
  · exact Keeps.refl s
  · exact keeps_onDev _ s
  · exact ht.trans (Keeps.ofRcd t.2 t.2.dev fun h => h.drain _)
  · exact ht

theorem execAuthComplete_completes (s : State) : Completes s (execAuthComplete s) := by
  refine Keeps.completes ?_
  extract_lets a w1 op slot code s1 target k erase s2 tag
  have h1 : Keeps s s1 := keeps_onDev _ s
  split
  · exact Keeps.refl s
  · split
    · exact h1.onDev _
    · split
      · exact h1.onDev _
      · exact (h1.trans (setKey_keeps s1 target _)).onDev _

theorem execClearComplete_completes (written : Bool) (s : State) : Completes s (execClearComplete written s) := by
  refine Keeps.completes ?_
  split
  · exact Keeps.refl s
  · extract_lets s1
    have h1 : Keeps s s1 := keeps_onDev _ s
    split
    · exact h1.trans (newEpoch_keeps s1 _)
    · exact h1.onDev _

/-! Resets and power -/

theorem execSysWatchdog_completes (s : State) : Completes s (execSysWatchdog s) := by
  refine Keeps.completes ?_
  split
  · exact (keeps_onDev _ s).trans (controllerReset_keeps _ rcWDG)
  · exact Keeps.refl s

theorem execPowerFailFlushDone_completes (inTime : Bool) (s : State) : Completes s (execPowerFailFlushDone inTime s) := by
  refine Keeps.completes ?_
  split
  · exact pfFlush_keeps s inTime
  · exact Keeps.refl s

theorem execPowerFailRecovery_completes (s : State) : Completes s (execPowerFailRecovery s) := by
  refine Keeps.completes ?_
  split
  · exact (importArea_keeps s).onDev _
  · exact Keeps.refl s

theorem execPowerOnReset_completes (s : State) : Completes s (execPowerOnReset s) :=
  Keeps.completes (((unpowered_keeps s).trans (Keeps.ofRcd s.unpowered s.unpowered.dev fun h => h.fromReserved)).trans (boot_keeps _ rcPOR))

theorem execPowerLoss_completes (s : State) : Completes s (execPowerLoss s) := ((unpowered_keeps s).onDev _).completes

theorem execPowerEntrySequence_completes (s : State) : Completes s (execPowerEntrySequence s) := by
  refine Keeps.completes ?_
  split
  · exact Keeps.refl s
  · next goal _ =>
    extract_lets st t
    clear_value st
    have ht : Keeps s t := by
      unfold t
      split
      · exact keeps_onDev _ s
      · exact toEbb_keeps s _
      · exact keeps_onDev _ s
      · exact toCove_keeps s
      · exact toStrand_keeps s
    split
    · exact keeps_onDev _ s
    · exact ht.onDev _

theorem execWakeExit_completes (s : State) : Completes s (execWakeExit s) := by
  refine Keeps.completes ?_
  extract_lets st p
  split
  · exact Keeps.refl s
  · split
    · exact keeps_onDev _ s
    · split
      · exact (wakeReset_keeps s).onDev _
      · exact exitPark_keeps s

/-! Every command -/

theorem exec_keeps (c : Instr) (s : State) : Completes s (exec c s) := by
  cases c
  case frameTurn env => exact execFrameTurn_completes env s
  case clockLoss dom => exact execClockLoss_completes dom s
  case actionOn | actionOff | actionRate | actionRelease => exact (push_keeps _ s _).completes
  case ledgerFlush ok => exact execLedgerFlush_completes ok s
  case ledgerEccError ch => exact execLedgerEccError_completes ch s
  case recordIntake => exact execRecordIntake_completes s
  case bufferDrain outcome => exact execBufferDrain_completes outcome s
  case authComplete => exact execAuthComplete_completes s
  case clearComplete written => exact execClearComplete_completes written s
  case hostPinReset => exact (controllerReset_keeps s rcPIN).completes
  case sysWatchdog => exact execSysWatchdog_completes s
  case powerFailFlushDone inTime => exact execPowerFailFlushDone_completes inTime s
  case powerFailRecovery => exact execPowerFailRecovery_completes s
  case powerOnReset => exact execPowerOnReset_completes s
  case powerLoss => exact execPowerLoss_completes s
  case powerEntrySequence => exact execPowerEntrySequence_completes s
  case wakeExit => exact execWakeExit_completes s
  case registerWrite | turnArm | turnDisarm | pageLock | pageUnlock | irqSet | irqAcknowledge | wideHighWrite | wideLowWrite =>
    exact (hostWrite_keeps _ _ _ s).completes
  case readClear | wideLowRead | ts80NsRead => exact (hostRead_keeps _ _ s).completes
  case hslRead cmd addr chk | hslReadFixed cmd addr chk => exact (hslReads_keeps cmd addr chk s).completes
  case hslWrite cmd addr data chk | hslWriteFixed cmd addr data chk => exact (hslWrites_keeps cmd addr data chk s).completes
  case ivyHello frame | ivyConfirm frame | ivyRequest frame | ivyClose frame => exact (ivyReceive_keeps frame s).completes
  case stageWrite => exact (hostBurst_keeps actStage_keeps _ _ _ s).completes
  case blobWrite => exact (hostBurst_keeps (ActKeeps.burstWords actBlobPort_keeps) _ _ _ s).completes
  case globalGo | pairStore | pairErase | incrWrite | adjWrite | tbnStepAdd | tbnLoad | capNow | idiEmpty | idiVerify | idiStore | idiErase
    | poseSample | jobOpen | jobLoad | jobClose | jobDiscard | exportFull | exportSince | exportAbandon | exportPageRequest | tileImport
    | prescriptionSubmit | timelineSelect | actionCancel | ledgerSnapshot | newSession | flushNow | hbKick | mpKick | mpRestart
    | mpRelease | softReset | outputArm | outputDisarm | drainNow | recNonce | recAuth | readStart | keyLoad | rateLimitWrite
    | blobOpen | blobFinish | measExtend | reportRequest | attConfirm | policySet => exact (ActKeeps.hostCmd (by simp) _ _ _ s).completes
  case jobPush | acqFlush | tcStart | tcStop | acceptClock | clearAdvisory | railClr | channelFaultClear | bankFaultClear | tileClear
    | loopClear | soundingArm | soundingForce | soundingStop | soundingSelect | powerEntry | canTxPush | ethTxPush =>
    exact (ActKeeps.farCmd (by simp) _ _ _ s).completes
  case timelineRead | diagStreamRead | snapshotRead | recordRead | failureLogRead | reportRead =>
    exact (PortKeeps.hostPort (by simp) _ _ _ s).completes
  case acqResultRead | measRead | navwRead | soundingRead | canRxRead | ethRxRead | timeMarkRead =>
    exact (PortKeeps.farPort (by simp) _ _ _ s).completes
  all_goals exact (keeps_onDev _ s).completes

theorem step_keeps {s t : State} (h : step s = .next t) : (s.ldg.Balanced → t.ldg.Balanced) ∧ (s.rcd.Numbered → t.rcd.Numbered) := by
  unfold step at h
  split at h
  · obtain rfl := Host.Outcome.next.inj h
    exact ⟨id, id⟩
  · next c rest _ =>
    obtain ⟨u, hu, hkeeps⟩ := exec_keeps c { s with pending := rest }
    obtain rfl := Host.Outcome.next.inj (hu.symm.trans h)
    exact ⟨hkeeps.ledger, hkeeps.records⟩

/-! The statements -/

/-- Settles O59: a step runs one command on the state with the rest of its queue, and every command keeps the identity. -/
theorem ledgerIdentityKept : Obligations.LedgerIdentityKept := fun _ _ hs h => (step_keeps h).1 hs

/-- Settles O60: a step runs one command on the state with the rest of its queue, and every command keeps the numbering. -/
theorem recordNumbersKept : Obligations.RecordNumbersKept := fun _ _ hs h => (step_keeps h).2 hs

/-- Settles O2: the queue is one of the three things that every command keeps. -/
theorem queueIsKept : Obligations.QueueIsKept := by
  intro c s t h
  obtain ⟨u, hu, hkeeps⟩ := exec_keeps c s
  obtain rfl := Host.Outcome.next.inj (hu.symm.trans h)
  exact hkeeps.queue

/-- Settles O3: every case of `exec_keeps` answers a next state, with both invariants kept. -/
theorem everyCommandCompletes : Obligations.EveryCommandCompletes := by
  intro c s
  obtain ⟨t, ht, hkeeps⟩ := exec_keeps c s
  exact ⟨t, ht, hkeeps.ledger, hkeeps.records⟩

end Sys2Proof.Machine
end

section
/-! PROOFS. O1, O4, O5: one step, the state at reset, and the register file. -/

namespace Sys2Proof.Machine

/-! One step -/

theorem Dev.advance_running {d : Dev} (h : d.powerState ≤ 1) (n : Nat) : (d.advance n).tm = d.counted n := by
  unfold Dev.advance
  dsimp only
  rw [if_neg (by simp [Dev.sysStopped]; omega)]

theorem Dev.advance_stopped {d : Dev} (h : 1 < d.powerState) (n : Nat) : (d.advance n).tm = d.carried n := by
  unfold Dev.advance
  dsimp only
  exact if_pos (decide_eq_true (p := 2 ≤ d.powerState) h)

theorem step_idle {s : State} (h : s.pending = []) : step s = .next (onDev (·.advance 1) s) := by
  unfold step
  rw [h]

/-- Settles O1: a step unfolds to `exec`, and the idle step to one cycle of the bases, counted or carried. -/
theorem stepRunsTheFront : Obligations.StepRunsTheFront := by
  refine ⟨fun _ _ _ => rfl, fun s hs => ⟨_, step_idle hs, fun hrun => ?_, fun hstop => ?_, rfl⟩⟩
  · simp [Dev.advance_running hrun, Dev.counted, Dev.tbsStep, pU]
  · simp [Dev.advance_stopped hstop, Dev.carried, Dev.carriedM, Dev.carriedS, aonTicks, aonPeriod, Dev.tbsStep, pU]

/-! The state at reset -/

theorem findReg_reset_reads : ∀ p ∈ allPages, resetWord (Reg.LOCK p) = 0#32 ∧ bitOf (resetWord (Reg.TURN_ARM p)) 0 = false := by
  decide +kernel

/-- Settles O4: the fields of the state at reset are its defaults, and each register named reads the reset value of its row. -/
theorem resetState : Obligations.ResetState := by
  have hled : State.reset.ldg.Balanced := by simp [Ledgers.Balanced, LedgerBook.Balanced, State.reset]
  have hrcd : State.reset.rcd.Numbered := ⟨fun _ h => (nomatch h), Nat.le_refl 0, List.Pairwise.nil⟩
  have hpages : ∀ p ∈ allPages, State.reset.dev.locked p = false ∧ State.reset.dev.bit (Reg.TURN_ARM p) 0 = false := fun p hp => by
    obtain ⟨hlock, harm⟩ := findReg_reset_reads p hp
    exact ⟨decide_eq_false (not_not_intro hlock), harm⟩
  exact ⟨by decide +kernel, by decide +kernel, rfl, rfl, rfl, rfl, rfl, rfl, hpages, by decide +kernel, by decide +kernel, by decide +kernel,
    by decide +kernel, by decide +kernel, by decide +kernel, by decide +kernel, by decide +kernel, hled, hrcd⟩

/-! The register file -/

/-- A sparse map in its form is determined by what its keys hold. -/
theorem swf_ext {α : Type} [DecidableEq α] {d : Nat → α} {m n : SMap α} (hm : swf d m = true) (hn : swf d n = true)
    (h : ∀ a, sget d m a = sget d n a) : m = n := by
  induction m generalizing n with
  | nil =>
    cases n with
    | nil => rfl
    | cons q t =>
      obtain ⟨-, -, hq⟩ := swf_tail hn
      exact absurd (by simpa [sget] using h q.1) (Ne.symm hq)
  | cons p r ih =>
    obtain ⟨hr, hlt, hp⟩ := swf_tail hm
    cases n with
    | nil => exact absurd (by simpa [sget] using h p.1) hp
    | cons q t =>
      obtain ⟨ht, hlt', hq⟩ := swf_tail hn
      have hkey : p.1 = q.1 := by
        by_contra hne
        rcases Nat.lt_or_gt_of_ne hne with hpq | hqp
        · have e := h p.1
          rw [sget_below d (q :: t) p.1 (by simpa using ⟨hpq, fun a b hab => hpq.trans (hlt' _ hab)⟩)] at e
          exact hp (by simpa [sget] using e)
        · have e := h q.1
          rw [sget_below d (p :: r) q.1 (by simpa using ⟨hqp, fun a b hab => hqp.trans (hlt _ hab)⟩)] at e
          exact hq (by simpa [sget] using e.symm)
      have hval : p.2 = q.2 := by simpa [sget, hkey] using h p.1
      have htail : r = t := ih hr ht fun a => by
        rcases eq_or_ne a p.1 with rfl | hne
        · rw [sget_below d r _ hlt, sget_below d t _ (hkey ▸ hlt')]
        · simpa [sget, hne, hkey ▸ hne] using h a
      rw [Prod.ext hkey hval, htail]

/-- Settles O5: reading after a write is `rd_wr`, the form is kept by `swf_sset`, and it determines the file by `swf_ext`. -/
theorem registerFile : Obligations.RegisterFile :=
  ⟨fun d a b v => Dev.rd_wr d a b v, fun _ a v h => swf_sset _ _ a v h, fun _ _ hd he h => swf_ext hd he h, rfl⟩

end Sys2Proof.Machine
end

section
/-! PROOFS. O21, O22: the turn of a frame by the model's own parts, and the instant of a turn. -/

namespace Sys2Proof.Machine

/-! The frame and the time of the part under the counts of the frequency inputs -/

/-- The frame's own state and the time bases are kept. -/
def Dev.SameFrame (d e : Dev) : Prop := e.frm = d.frm ∧ e.tm = d.tm

theorem Dev.SameFrame.trans {d e f : Dev} (h : d.SameFrame e) (h' : e.SameFrame f) : d.SameFrame f := ⟨h'.1.trans h.1, h'.2.trans h.2⟩

theorem Dev.finShow_sameFrame (d : Dev) (i : Nat) : d.SameFrame (d.finShow i) := ⟨rfl, rfl⟩

theorem Dev.finCause_sameFrame (d : Dev) (i cause : Nat) : d.SameFrame (d.finCause i cause) := by
  unfold Dev.finCause
  extract_lets was e
  have he : d.SameFrame e := ⟨rfl, rfl⟩
  split
  · exact he.trans ⟨by simp, by simp⟩
  · exact he

theorem Dev.finRange_sameFrame (d : Dev) (i : Nat) : d.SameFrame (d.finRange i) := by
  unfold Dev.finRange
  extract_lets ranged c
  split_ifs
  · exact d.finCause_sameFrame i 1
  · exact d.finCause_sameFrame i 0
  · exact d.finShow_sameFrame i

theorem Dev.finTurn_sameFrame (d : Dev) : d.SameFrame d.finTurn := by
  unfold Dev.finTurn
  refine List.foldlRecOn (motive := d.SameFrame) _ _ ⟨rfl, rfl⟩ fun e he i _ => he.trans ?_
  extract_lets n e'
  have hcount : e.SameFrame e' := ⟨rfl, rfl⟩
  split
  · exact hcount.trans (e'.finRange_sameFrame i)
  · exact hcount.trans (e'.finShow_sameFrame i)

theorem Dev.resumed_sameFrame (d : Dev) (was : Nat) : d.SameFrame (d.resumed was) := by
  unfold Dev.resumed
  extract_lets stop _ _ _ e
  have he : d.SameFrame e := by
    unfold e
    split <;> exact ⟨rfl, rfl⟩
  split
  · exact he.trans ⟨rfl, rfl⟩
  · exact he

/-- The frame begins with no stage done, at the instant of its turn. -/
theorem Dev.turnStart_begins (d : Dev) :
    d.turnStart.frm.turned = true ∧ d.turnStart.frm.stage = 0 ∧ d.turnStart.frm.committed = false
      ∧ d.turnStart.frm.turnTbm = d.turnStart.tm.tbm := by
  unfold Dev.turnStart
  extract_lets _ e was
  have hturn : e.toTurn.frm.turned = true ∧ e.toTurn.frm.turnTbm = e.toTurn.tm.tbm := ⟨rfl, rfl⟩
  obtain ⟨hfrm, htm⟩ := e.toTurn.resumed_sameFrame was
  obtain ⟨hfrm', htm'⟩ := ((e.toTurn.resumed was).beginFrame).finTurn_sameFrame
  rw [hfrm', htm']
  exact ⟨(congrArg FrameEngine.turned hfrm).trans hturn.1, rfl, rfl, (congrArg FrameEngine.turnTbm hfrm).trans (hturn.2.trans (congrArg TimeBases.tbm htm).symm)⟩

/-- The turn with TB-S of the turn before given in ns. -/
def State.turnFrom (s : State) (env : TurnEnv) (t0 : Nat) : State :=
  let x := s.dev.turnStart
  let t1 := x.rd64 Reg.FRM_TURN_TBS / 4
  let d := ((if x.sup.rebook then x else x.mapReport t0 t1 x.frameUnits).diagTurn t0 t1 env.banks).learnThermal
  let booked := ledgerTurn t0 t1 (decide (s.dev.frm.turnTbm / 1000000000 ≠ d.tm.tbm / 1000000000)) env.supplyOk env.tempOk d s.ldg
  let c := booked.1.clearFrame.hostTurn.entryBegins.applyClears
  let e := c.commits (c.rd64 Reg.FRM_FRAME_SEQX)
  { s with dev := e.afterCommits env (latencyWords c e), ldg := booked.2 }

theorem State.turn_eq (s : State) (env : TurnEnv) :
    s.turn env = s.turnFrom env (if s.dev.frm.turned then s.dev.rd64 Reg.FRM_TURN_TBS / 4 else s.dev.turnStart.rd64 Reg.FRM_TURN_TBS / 4) := by
  have hfirst : ∀ x y : Nat, (if (!s.dev.frm.turned) = true then y else x) = if s.dev.frm.turned = true then x else y := fun x y => by
    cases s.dev.frm.turned <;> rfl
  rw [← hfirst]
  rfl

/-- Settles O21: in RUN and SLACK the command is `State.turn`, elsewhere nothing. -/
theorem frameTurn : Obligations.FrameTurn := by
  intro env s
  refine ⟨fun hrun hheld => ?_, fun hpark => ?_⟩
  · have hexec : exec (.frameTurn env) s = .next (s.turn env) :=
      congrArg Host.Outcome.next (if_pos (by simp [hrun, hheld]))
    refine ⟨hexec.trans (congrArg Host.Outcome.next (s.turn_eq env)), s.dev.turnStart_begins⟩
  · refine congrArg Host.Outcome.next (if_neg ?_)
    rcases hpark with h | h
    · simp [show ¬ s.dev.powerState ≤ 1 by omega]
    · simp [h]

/-! The instant of a turn while CK_SYS is stopped -/

/-- A part in EBB whose turns have begun: TB-S is carried by CK_AON, whose period is longer than a cycle's step. -/
def ebbPart : Dev := { (({} : Dev).wr Reg.PWR_PWR_STATE 2#32) with frm := { turned := true } }

/-- TB-S stands at 0 and the grid of the next turn, number 1, at 500 us; the first CK_AON period at which TB-S has reached it lies
18.8 us, far more than a cycle's step, beyond it. -/
theorem ebbPart_turn :
    0 < ebbPart.tbsStep ∧ ebbPart.rd64 Reg.FRM_ORIGIN_SEQ ≤ ebbPart.rd64 Reg.FRM_FRAME_SEQX ∧ ebbPart.nextTurnNo < 2 ^ 64
      ∧ ebbPart.toTurn.tbs < 2 ^ 64
      ∧ ebbPart.tm.tbsP < (ebbPart.rd64 Reg.FRM_TF_ORIGIN + (ebbPart.nextTurnNo - ebbPart.rd64 Reg.FRM_ORIGIN_SEQ) * ebbPart.tf) * pU
      ∧ ¬ ebbPart.toTurn.tm.tbsP
          < (ebbPart.rd64 Reg.FRM_TF_ORIGIN + (ebbPart.nextTurnNo - ebbPart.rd64 Reg.FRM_ORIGIN_SEQ) * ebbPart.tf) * pU + ebbPart.tbsStep := by
  decide +kernel

/-- Refutes O22: the statement speaks of every part, and in one that stands in EBB TB-S comes to the grid with a CK_AON period, so that it
exceeds its place by more than a cycle's step. -/
theorem not_turnsFallOnTheGrid : ¬ Obligations.TurnsFallOnTheGrid := by
  intro h
  obtain ⟨hstep, horigin, hnext, htbs, hbefore, hbeyond⟩ := ebbPart_turn
  obtain ⟨-, -, -, -, -, hwithin⟩ := (h ebbPart hstep).1 rfl horigin hnext htbs
  exact hbeyond (hwithin hbefore)

end Sys2Proof.Machine
end

section
/-! PROOFS. O12: transactions of the host serial link. -/

namespace Sys2Proof.Machine

/-! A transaction whose check holds is a burst -/

theorem hslReads_checked {cmd addr : W32} {chk : HslCheck} {s : State} (hcut : chk.cut = none) (hup : s.dev.fabricUp = true)
    (hck : checkOk [cmd, addr] chk.word = true) (hop : cmdOp cmd = 1 ∨ cmdOp cmd = 3) :
    hslReads cmd addr chk s =
      let r := burstRead .hsl addr.toNat (cmdLen cmd) (cmdOp cmd = 3) (atFabric .hsl false s)
      onDev (·.hslEnd cmd addr.toNat r.1 r.2.1.length r.2.1) r.2.2 := by
  unfold hslReads
  rw [hslRun_checked _ _ hup hck, if_pos hop, hcut]

theorem hslWrites_checked {cmd addr : W32} {data : List W32} {chk : HslCheck} {s : State} (hcut : chk.cut = none) (hup : s.dev.fabricUp = true)
    (hck : checkOk (cmd :: addr :: data) chk.word = true) (hlen : data.length = cmdLen cmd) (hop : cmdOp cmd = 2 ∨ cmdOp cmd = 4) :
    hslWrites cmd addr data chk s =
      let r := burstWrite .hsl addr.toNat data (cmdOp cmd = 4) (atFabric .hsl true s)
      onDev (·.hslEnd cmd addr.toNat r.1 r.2.1 []) r.2.2 := by
  unfold hslWrites
  rw [if_neg (not_not_intro hlen), hslRun_checked _ _ hup hck, if_pos hop, hcut]

/-! A burst of one word -/

/-- A word that is no port and has no shadow is read as it stands. -/
theorem readWord_plain {s : State} {q : Requester} {a : Nat} (hport : portOf a = none) (hahead : s.dev.wordsAhead a ≠ 0)
    (hshadow : sfind s.dev.fab.shadow (shadowKey q a) = none) : (s.readWord q a).1 = [s.view a] := by
  unfold State.readWord
  rw [hport]
  simp only [if_neg hahead]
  unfold State.readReg
  rw [hshadow]

theorem burstRead_one {q : Requester} {a : Nat} {s : State} (hok : (arrived a s).dev.readStatus q a = .ok) (hport : portOf a = none)
    (hahead : (arrived a s).dev.wordsAhead a ≠ 0) (hshadow : sfind (arrived a s).dev.fab.shadow (shadowKey q a) = none) :
    (burstRead q a 1 false s).1 = .ok ∧ (burstRead q a 1 false s).2.1 = [(arrived a s).view a] := by
  have hwords : readWords q (burstAddrs a 1 false) (arrived a s) = (.ok, [(arrived a s).view a], ((arrived a s).readWord q a).2) := by
    change readWords q [a] (arrived a s) = _
    simp [readWords, hok, readWord_plain hport hahead hshadow]
  have hone : min 1 ((arrived a s).dev.wordsAhead a) = 1 := by omega
  unfold burstRead
  change (match (arrived a s).dev.readStatus q a with | .ok => _ | st => _ : Status × List W32 × State).1 = _
    ∧ (match (arrived a s).dev.readStatus q a with | .ok => _ | st => _ : Status × List W32 × State).2.1 = _
  rw [hok]
  change (readWords q (burstAddrs a (min 1 ((arrived a s).dev.wordsAhead a)) false) (arrived a s)).1 = _
    ∧ (readWords q (burstAddrs a (min 1 ((arrived a s).dev.wordsAhead a)) false) (arrived a s)).2.1 = _
  rw [hone, hwords]
  exact ⟨rfl, rfl⟩

/-! A transaction whose check fails -/

/-- Nothing is executed: CRC is answered and counted. -/
theorem hslRun_unchecked {cmd addr : W32} {chk : HslCheck} {data : List W32} {s : State} (write : Bool) (act : State → State)
    (hcut : chk.cut = none) (hup : s.dev.fabricUp = true) (hck : checkOk (cmd :: addr :: data) chk.word = false) :
    hslRun cmd addr chk data write act s
      = onDev (fun d => (d.inc Reg.HOST_HSL_CRC_ERR).hslEnd cmd addr.toNat .crc 0 []) (atFabric .hsl write s) := by
  have htouch : (atFabric .hsl write s).dev.fabricUp = true := (hslTouch_fabricUp _ _ _).trans hup
  unfold hslRun
  change (if !(atFabric .hsl write s).dev.fabricUp then _ else if checkOk (cmd :: addr :: data) chk.word = false then _ else _) = _
  rw [htouch, hck, hcut, if_neg (by decide), if_pos rfl]
  rfl

/-- A failed check leaves the part as it was but for the count, the transaction count and the last error. -/
theorem hslRun_unchecked_spec {cmd addr : W32} {chk : HslCheck} {data : List W32} {s : State} (write : Bool) (act : State → State)
    (hcut : chk.cut = none) (hup : s.dev.fabricUp = true) (hck : checkOk (cmd :: addr :: data) chk.word = false) :
    let t := hslRun cmd addr chk data write act s
    t.dev.fab.hslOut = hslAnswer cmd .crc 0 []
      ∧ t.dev.rd Reg.HOST_HSL_CRC_ERR = s.dev.rd Reg.HOST_HSL_CRC_ERR + 1#32
      ∧ (∀ a, a ∉ [Reg.HOST_HSL_CRC_ERR, Reg.HOST_HSL_FRAMES, Reg.HOST_LAST_ERR, Reg.HOST_LAST_ERR_ADDR] → t.dev.rd a = s.dev.rd a)
      ∧ t.dev.pend = s.dev.pend ∧ t.ldg = s.ldg ∧ t.rcd = s.rcd ∧ t.dev.drv = s.dev.drv := by
  obtain ⟨k, hk⟩ := hslTouch_up s.dev .hsl write hup
  have hrd : ∀ a, (s.dev.hslTouch .hsl write).rd a = s.dev.rd a := fun a => by rw [hk]; rfl
  dsimp only
  rw [hslRun_unchecked write act hcut hup hck]
  refine ⟨rfl, ?_, fun a ha => ?_, ?_, rfl, rfl, ?_⟩
  · refine (Dev.rd_wr_ne _ _ (by decide)).trans ?_
    refine (Dev.rd_respond_ne _ _ _ _ _ _ (by decide) (by decide)).trans ?_
    refine (Dev.rd_wr_same _ _ _).trans ?_
    exact congrArg (· + 1#32) (hrd _)
  · simp only [List.mem_cons, List.not_mem_nil, or_false, not_or] at ha
    obtain ⟨hcrc, hframes, herr, herrAddr⟩ := ha
    refine (Dev.rd_wr_ne _ _ hframes).trans ?_
    refine (Dev.rd_respond_ne _ _ _ _ _ _ herr herrAddr).trans ?_
    exact (Dev.rd_wr_ne _ _ hcrc).trans (hrd a)
  · simp [onDev, Dev.hslEnd, atFabric]
  · simp [onDev, Dev.hslEnd, atFabric]

/-- Settles O12: a checked transaction is the burst of its words with the answer, and a failed check is an answer alone. -/
theorem hslTransactions : Obligations.HslTransactions := by
  intro cmd addr chk data s
  refine ⟨fun hcut hup hck hop => ?_, fun hcut hup hck hop => ?_, fun hcut hup hck hlen hop => ?_, fun hcut hup hck hlen hop => ?_,
    fun hcut hup hck hop hlen hok hport hahead hshadow => ?_,
    fun hcut hup hck => ⟨_, rfl, hslRun_unchecked_spec false _ hcut hup hck⟩, fun hcut hup hlen hck => ?_⟩
  · rw [exec_hslRead, hslReads_checked hcut hup hck (.inl hop), decide_eq_false (by omega)]
  · rw [exec_hslReadFixed, hslReads_checked hcut hup hck (.inr hop), decide_eq_true hop]
  · rw [exec_hslWrite, hslWrites_checked hcut hup hck hlen (.inl hop), decide_eq_false (by omega)]
  · rw [exec_hslWriteFixed, hslWrites_checked hcut hup hck hlen (.inr hop), decide_eq_true hop]
  · obtain ⟨hst, hdata⟩ := burstRead_one hok hport hahead hshadow
    refine ⟨_, rfl, ?_⟩
    rw [hslReads_checked hcut hup hck (.inl hop), decide_eq_false (by omega), hlen]
    dsimp only
    rw [hst, hdata]
    rfl
  · refine ⟨_, rfl, ?_⟩
    unfold hslWrites
    rw [if_neg (not_not_intro hlen)]
    exact hslRun_unchecked_spec true _ hcut hup hck

end Sys2Proof.Machine
end

section
/-! PROOFS. O10, O11: the writes that the fabric refuses. -/

namespace Sys2Proof.Machine

/-! The status of a write -/

theorem Dev.writeStatus_timeout {d : Dev} {q : Requester} {a : Nat} {v : W32} (h : d.fabricUp = false) : d.writeStatus q a v = .timeout := by
  simp [Dev.writeStatus, h]

theorem Dev.writeStatus_addr {d : Dev} {q : Requester} {a : Nat} {v : W32} (hup : d.fabricUp = true) (h : addrExists a = false) :
    d.writeStatus q a v = .addr := by
  simp [Dev.writeStatus, hup, h]

/-- An access at an address that exists, past the authorisations, is left to the page's level, its lock and the value. -/
theorem Dev.writeStatus_authorised {d : Dev} {q : Requester} {a : Nat} {v : W32} (hup : d.fabricUp = true) (ha : addrExists a = true)
    (hauth : authFails q a = false) (hivy : ivyWriteFails q a = false) (hgeo : d.geoFails q a = false) :
    d.writeStatus q a v = if d.levelFails q a then .level else if d.locked (targetPage a) && !lockExempt a then .lockw
      else if !valueOk a v then .len else .ok := by
  simp [Dev.writeStatus, hup, ha, hauth, hivy, hgeo]

theorem addrExists_of_unaligned {a : Nat} (h : a % 4 ≠ 0) : addrExists a = false := by simp [addrExists, h]

/-- Settles O11: the branches of `writeStatus` in their order. -/
theorem lockedAndAbsent : Obligations.LockedAndAbsent := by
  intro q a v d
  refine ⟨Dev.writeStatus_timeout, Dev.writeStatus_addr, fun hup ha => Dev.writeStatus_addr hup (addrExists_of_unaligned ha),
    fun hup ha hauth hivy hgeo p hp hpage hlo hhi hq hmode => ?_, fun hup ha hauth hivy hgeo hlevel hlock hexempt => ?_⟩
  · have hlevel : d.levelFails q a = true := by
      unfold Dev.levelFails
      rw [hpage]
      simp [show a < 0x00100000 by omega, hlo, hhi, hq, hmode]
    rw [Dev.writeStatus_authorised hup ha hauth hivy hgeo, hlevel, if_pos rfl]
  · have hlocked : d.locked (targetPage a) = true := decide_eq_true hlock
    have hno : lockExempt a = false := by
      unfold lockExempt
      by_cases hpage : a < 0x00100000
      · obtain ⟨h38, h18, h20⟩ := hexempt hpage
        simp [h38, h18, h20]
      · simp [hpage]
    rw [Dev.writeStatus_authorised hup ha hauth hivy hgeo, hlevel, hlocked, hno]
    rfl

/-! What a refusal leaves -/

@[simp] theorem Dev.refuse_pend (d : Dev) (a : Nat) (st : Status) : (d.refuse a st).pend = d.pend := by cases st <;> simp [Dev.refuse]
@[simp] theorem Dev.refuse_tm (d : Dev) (a : Nat) (st : Status) : (d.refuse a st).tm = d.tm := by cases st <;> simp [Dev.refuse]
@[simp] theorem Dev.refuse_drv (d : Dev) (a : Nat) (st : Status) : (d.refuse a st).drv = d.drv := by cases st <;> simp [Dev.refuse]
@[simp] theorem Dev.refuse_rcf (d : Dev) (a : Nat) (st : Status) : (d.refuse a st).rcf = d.rcf := by cases st <;> simp [Dev.refuse]

theorem Dev.rd_lenReject_ne (d : Dev) (p : Nat) {b : Nat} (hf : b ≠ Reg.FAULT p) (hi : b ≠ Reg.IRQ_RAW p) (hl : b ≠ Reg.LEN_REJ p) :
    (d.lenReject p).rd b = d.rd b := (Dev.rd_fault_ne _ _ _ hf hi).trans (Dev.rd_wr_ne _ _ hl)

theorem Dev.rd_lenReject_count (d : Dev) (p : Nat) : (d.lenReject p).rd (Reg.LEN_REJ p) = sat32 (d.rdN (Reg.LEN_REJ p) + 1) :=
  (Dev.rd_fault_ne _ _ _ (by simp [Reg.LEN_REJ, Reg.FAULT]) (by simp [Reg.LEN_REJ, Reg.IRQ_RAW])).trans (Dev.rd_wr_same _ _ _)

/-- A refusal writes FAULT, IRQ_RAW and LEN_REJ of the target page only. -/
theorem Dev.rd_refuse_ne (d : Dev) (a : Nat) (st : Status) {b : Nat} (hf : b ≠ Reg.FAULT (targetPage a)) (hi : b ≠ Reg.IRQ_RAW (targetPage a))
    (hl : b ≠ Reg.LEN_REJ (targetPage a)) : (d.refuse a st).rd b = d.rd b := by
  cases st
  case level | lockw | ecc => exact Dev.rd_fault_ne _ _ _ hf hi
  case len => exact Dev.rd_lenReject_ne _ _ hf hi hl
  all_goals rfl

/-- The touch of a parked link counts an abandoned transaction at most. -/
theorem Dev.rd_hslTouch_ne (d : Dev) (q : Requester) (w : Bool) {b : Nat} (h : b ≠ Reg.HOST_HSL_ABORT) : (d.hslTouch q w).rd b = d.rd b := by
  have hwake : ∀ e : Dev, (e.wakeBy 1).rd b = e.rd b := fun e => by unfold Dev.wakeBy; split_ifs <;> rfl
  unfold Dev.hslTouch
  split
  · rfl
  · extract_lets e _ e'
    have he : e'.rd b = d.rd b := by
      refine Eq.trans ?_ (hwake d)
      unfold e'
      split <;> rfl
    split
    · exact (Dev.rd_wr_ne _ _ h).trans he
    · exact he

theorem header_ne_lastErr {p o : Nat} (ho : o < 0x60) :
    o + 0x1000 * p ≠ Reg.HOST_LAST_ERR ∧ o + 0x1000 * p ≠ Reg.HOST_LAST_ERR_ADDR := by
  simp only [Reg.HOST_LAST_ERR, Reg.HOST_LAST_ERR_ADDR]
  omega

/-- A header word below LAST_ERR is not touched by an answer. -/
theorem Dev.rd_respond_header (d : Dev) (q : Requester) (a n p : Nat) (st : Status) (ws : List W32) {o : Nat} (ho : o < 0x60) :
    (d.respond q a st n ws).rd (o + 0x1000 * p) = d.rd (o + 0x1000 * p) :=
  Dev.rd_respond_ne _ _ _ _ _ _ (header_ne_lastErr ho).1 (header_ne_lastErr ho).2

theorem Dev.bit_respond_fault (d : Dev) (q : Requester) (a n p b : Nat) (st : Status) (ws : List W32) :
    (d.respond q a st n ws).bit (Reg.FAULT p) b = d.bit (Reg.FAULT p) b :=
  congrArg (bitOf · b) (Dev.rd_respond_header d q a n p st ws (o := 0x18) (by decide))

/-- The part after a refused access, over the touch of its link. -/
def Dev.refusedAt (d : Dev) (q : Requester) (a : Nat) (st : Status) : Dev := ((d.hslTouch q true).refuse a st).respond q a st 0 []

theorem Dev.refusedAt_pend (d : Dev) (q : Requester) (a : Nat) (st : Status) : (d.refusedAt q a st).pend = d.pend := by simp [Dev.refusedAt]
theorem Dev.refusedAt_tm (d : Dev) (q : Requester) (a : Nat) (st : Status) : (d.refusedAt q a st).tm = d.tm := by simp [Dev.refusedAt]
theorem Dev.refusedAt_drv (d : Dev) (q : Requester) (a : Nat) (st : Status) : (d.refusedAt q a st).drv = d.drv := by simp [Dev.refusedAt]
theorem Dev.refusedAt_rcf (d : Dev) (q : Requester) (a : Nat) (st : Status) : (d.refusedAt q a st).rcf = d.rcf := by simp [Dev.refusedAt]

theorem Dev.rd_refusedAt_ne (d : Dev) (q : Requester) (a : Nat) (st : Status) {b : Nat}
    (hb : b ∉ [Reg.HOST_LAST_ERR, Reg.HOST_LAST_ERR_ADDR, Reg.HOST_HSL_ABORT, Reg.FAULT (targetPage a), Reg.IRQ_RAW (targetPage a),
      Reg.LEN_REJ (targetPage a)]) : (d.refusedAt q a st).rd b = d.rd b := by
  simp only [List.mem_cons, List.not_mem_nil, or_false, not_or] at hb
  obtain ⟨herr, herrAddr, habort, hf, hi, hl⟩ := hb
  exact (Dev.rd_respond_ne _ _ _ _ _ _ herr herrAddr).trans ((Dev.rd_refuse_ne _ _ _ hf hi hl).trans (Dev.rd_hslTouch_ne _ _ _ habort))

theorem Dev.bit_refusedAt_fault (d : Dev) (q : Requester) (a : Nat) :
    (d.refusedAt q a .level).bit (Reg.FAULT (targetPage a)) fLEVEL = true
      ∧ (d.refusedAt q a .lockw).bit (Reg.FAULT (targetPage a)) fLOCKW = true
      ∧ (d.refusedAt q a .len).bit (Reg.FAULT (targetPage a)) fLEN = true :=
  ⟨(Dev.bit_respond_fault ..).trans (Dev.fault_spec _ _ _ (by decide)).1, (Dev.bit_respond_fault ..).trans (Dev.fault_spec _ _ _ (by decide)).1,
    (Dev.bit_respond_fault ..).trans (Dev.fault_spec _ _ _ (by decide)).1⟩

theorem Dev.rd_refusedAt_lenRej (d : Dev) (q : Requester) (a : Nat) :
    (d.refusedAt q a .len).rd (Reg.LEN_REJ (targetPage a)) = sat32 (d.rdN (Reg.LEN_REJ (targetPage a)) + 1) := by
  have htouch : (d.hslTouch q true).rd (Reg.LEN_REJ (targetPage a)) = d.rd (Reg.LEN_REJ (targetPage a)) :=
    Dev.rd_hslTouch_ne _ _ _ (by simp only [Reg.LEN_REJ, Reg.HOST_HSL_ABORT]; omega)
  refine (Dev.rd_respond_header _ _ _ _ _ _ _ (o := 0x40) (by decide)).trans ((Dev.rd_lenReject_count _ _).trans ?_)
  unfold Dev.rdN
  rw [htouch]

/-- A refused write is its refusal, over the touch of the link, and its answer. -/
theorem hostWrite_refused {q : Requester} {a : Nat} {v : W32} {s0 : State} {st : Status}
    (hst : (atFabric q true (arrived a s0)).dev.writeStatus q a v = st) (hne : st ≠ .ok) :
    hostWrite q a v s0 = onDev (·.refusedAt q a st) (arrived a s0) :=
  (farCmd_arrived q a v (actWrite q a v) s0).trans (hostCmd_refused _ hst hne)

theorem answerTo_refusedAt (q : Requester) (a : Nat) (st : Status) (s : State) : answerTo q (onDev (·.refusedAt q a st) s) = ⟨st, 0, []⟩ :=
  answerTo_respond (onDev (fun d => (d.hslTouch q true).refuse a st) s) q a st 0 []

/-- Settles O10: a refused access is its refusal and its answer, over the touch of the link. -/
theorem refusedWrites : Obligations.RefusedWrites := by
  intro q a v s0 st s hst hne
  obtain ⟨hlevel, hlockw, hlen⟩ := s.dev.bit_refusedAt_fault q a
  refine ⟨_, congrArg Host.Outcome.next (hostWrite_refused hst hne), answerTo_refusedAt q a st s, ?_, ?_, ?_,
    fun _ hb => s.dev.rd_refusedAt_ne q a st hb, s.dev.refusedAt_pend q a st, s.dev.refusedAt_tm q a st, s.dev.refusedAt_drv q a st,
    s.dev.refusedAt_rcf q a st, rfl, rfl⟩
  · rintro rfl
    exact hlevel
  · rintro rfl
    exact hlockw
  · rintro rfl
    exact ⟨hlen, s.dev.rd_refusedAt_lenRej q a⟩

end Sys2Proof.Machine
end

section
/-! PROOFS. O6: writes to the page header, and the captures of an acknowledgement and of CAP_NOW. -/

namespace Sys2Proof.Machine

/-! A write to a header word -/

/-- Accesses at two words of one page arrive in the same state. -/
theorem arrived_congr {a b : Nat} (h : ownerPage a = ownerPage b) (s : State) : arrived a s = arrived b s := by
  unfold arrived Dev.strobed
  rw [h]

theorem ownerPage_header {o p : Nat} (ho : o < 0x1000) (hp : p < 256) : ownerPage (o + 0x1000 * p) = p := by
  unfold ownerPage
  rw [if_pos (by omega)]
  omega

theorem arrived_header {o : Nat} (page : Fin 256) (ho : o < 0x1000) (s : State) :
    arrived (o + 0x1000 * page) s = arrived (Reg.IRQ_RAW page) s :=
  arrived_congr ((ownerPage_header ho page.isLt).trans (ownerPage_header (o := 0x20) (by decide) page.isLt).symm) s

/-- An accepted write to a header word is the change that the header's table names. -/
theorem hostWrite_header {q : Requester} {o : Nat} {v : W32} {page : Fin 256} {s0 : State} (f : Dev → Dev) (ho : o < 0x44)
    (hf : actHeader q page o v = actDev f) (h : Accepts q (o + 0x1000 * page) v (arrived (Reg.IRQ_RAW page) s0)) :
    hostWrite q (o + 0x1000 * page) v s0 = acceptedWrite q (o + 0x1000 * page) f (arrived (Reg.IRQ_RAW page) s0) := by
  unfold hostWrite
  rw [farCmd_arrived, actWrite_header q page o v page.isLt ho, hf, arrived_header page (by omega) s0]
  exact hostCmd_actDev f h

/-! Captures -/

theorem Dev.rd_wrTs80 (d : Dev) (a ns : Nat) :
    [(d.wrTs80 a ns).rd a, (d.wrTs80 a ns).rd (a + 4), (d.wrTs80 a ns).rd (a + 8)] = ts80Words ns := by
  simp [Dev.wrTs80, Dev.wrN, Dev.rd_wr, ts80Words]

theorem Dev.rd_wrTs80_ne (d : Dev) (a ns : Nat) {b : Nat} (h0 : b ≠ a) (h4 : b ≠ a + 4) (h8 : b ≠ a + 8) : (d.wrTs80 a ns).rd b = d.rd b := by
  simp [Dev.wrTs80, Dev.wrN, Dev.rd_wr, h0, h4, h8]

/-- The cycle has had no capture and no step of TB-N. -/
def Dev.Fresh (d : Dev) : Prop := (∀ x, d.tm.capAt = some x → x.1 ≠ d.tm.tbm) ∧ (∀ x, d.tm.preStep = some x → x.1 ≠ d.tm.tbm)

theorem Dev.Fresh.unstepped {d : Dev} (h : d.Fresh) (q : Requester) : d.unstepped q = (d.tbn, d.rd Reg.TIME1_TBN_STEP_CNT) := by
  unfold Dev.unstepped
  split
  next t r n k hpre => simp [Dev.sameCycle, h.2 _ hpre]
  next => rfl

/-- The words of a capture, written. -/
def Dev.captureWords (d : Dev) (tbs tbn : Nat) (steps : W32) (src : Nat) : Dev :=
  (((((d.wr64 Reg.TIME1_CAP_TBS tbs).wrTs80 Reg.TIME1_CAP_TBN_NS tbn).wr Reg.TIME1_CAP_STEP_CNT steps).wrN Reg.TIME1_CAP_SRC src).inc
    Reg.TIME1_CAP_SEQ).irq pTIME1 17

/-- The part in the cycle of a capture. -/
def Dev.capturing (d : Dev) (q : Requester) : Dev := { d with tm := { d.tm with capAt := some (d.tm.tbm, q) } }

theorem Dev.Fresh.capture {d : Dev} (h : d.Fresh) (q : Requester) (page : Nat) :
    d.capture q page = (d.capturing q).captureWords (d.tbs % 2 ^ 64) d.tbn (d.rd Reg.TIME1_TBN_STEP_CNT) (reqNo q * 2 ^ 24 + page) := by
  have hcap : d.tm.capAt.any (d.sameCycle q) = false := by
    cases hc : d.tm.capAt with
    | none => rfl
    | some x => simp [Dev.sameCycle, h.1 x hc]
  unfold Dev.capture
  rw [hcap, if_neg (by decide), h.unstepped q]
  rfl

@[simp] theorem Dev.captureWords_tm (d : Dev) (tbs tbn : Nat) (k : W32) (src : Nat) : (d.captureWords tbs tbn k src).tm = d.tm := rfl
@[simp] theorem Dev.captureWords_drv (d : Dev) (tbs tbn : Nat) (k : W32) (src : Nat) : (d.captureWords tbs tbn k src).drv = d.drv := rfl

/-- The addresses of the words that a capture writes. -/
def captureAddrs : List Nat := [Reg.TIME1_CAP_TBS, Reg.TIME1_CAP_TBS + 4, Reg.TIME1_CAP_TBN_NS, Reg.TIME1_CAP_TBN_NS + 4,
  Reg.TIME1_CAP_TBN_NS + 8, Reg.TIME1_CAP_STEP_CNT, Reg.TIME1_CAP_SRC, Reg.TIME1_CAP_SEQ, Reg.IRQ_RAW pTIME1]

theorem Dev.rd_captureWords_ne (d : Dev) (tbs tbn : Nat) (k : W32) (src : Nat) {a : Nat} (ha : a ∉ captureAddrs) :
    (d.captureWords tbs tbn k src).rd a = d.rd a := by
  simp only [captureAddrs, List.mem_cons, List.not_mem_nil, or_false, not_or] at ha
  obtain ⟨htbs, htbs4, hns, hns4, hns8, hstep, hsrc, hseq, hirq⟩ := ha
  refine (Dev.rd_irq_ne _ _ _ hirq).trans ((Dev.rd_wr_ne _ _ hseq).trans ((Dev.rd_wr_ne _ _ hsrc).trans ((Dev.rd_wr_ne _ _ hstep).trans ?_)))
  exact (Dev.rd_wrTs80_ne _ _ _ hns hns4 hns8).trans (Dev.rd_wr64_ne _ _ htbs htbs4)

/-- A word of TB-N's value is written third from the last but two. -/
theorem Dev.rd_captureWords_tbn (d : Dev) (tbs tbn : Nat) (k : W32) (src : Nat) {a : Nat}
    (ha : a ∉ [Reg.TIME1_CAP_STEP_CNT, Reg.TIME1_CAP_SRC, Reg.TIME1_CAP_SEQ, Reg.IRQ_RAW pTIME1]) :
    (d.captureWords tbs tbn k src).rd a = ((d.wr64 Reg.TIME1_CAP_TBS tbs).wrTs80 Reg.TIME1_CAP_TBN_NS tbn).rd a := by
  simp only [List.mem_cons, List.not_mem_nil, or_false, not_or] at ha
  obtain ⟨hstep, hsrc, hseq, hirq⟩ := ha
  exact (Dev.rd_irq_ne _ _ _ hirq).trans ((Dev.rd_wr_ne _ _ hseq).trans ((Dev.rd_wr_ne _ _ hsrc).trans (Dev.rd_wr_ne _ _ hstep)))

/-- What the words of a capture read (R95): the bases, the step count, the source, the sequence and the interrupt. -/
structure Captured (tbs tbn : Nat) (steps : W32) (src : Nat) (seq : W32) (e : Dev) : Prop where
  tbs : e.rd64 Reg.TIME1_CAP_TBS = tbs
  tbn : [e.rd Reg.TIME1_CAP_TBN_NS, e.rd (Reg.TIME1_CAP_TBN_NS + 4), e.rd (Reg.TIME1_CAP_TBN_NS + 8)] = ts80Words tbn
  steps : e.rd Reg.TIME1_CAP_STEP_CNT = steps
  src : e.rdN Reg.TIME1_CAP_SRC = src
  seq : e.rd Reg.TIME1_CAP_SEQ = seq + 1#32
  irq : e.bit (Reg.IRQ_RAW pTIME1) 17 = true

theorem Dev.captured_captureWords (d : Dev) {tbs : Nat} (tbn : Nat) (k : W32) {src : Nat} (htbs : tbs < 2 ^ 64) (hsrc : src < 2 ^ 32) :
    Captured tbs tbn k src (d.rd Reg.TIME1_CAP_SEQ) (d.captureWords tbs tbn k src) where
  tbs := (Dev.rd64_congr
    ((Dev.rd_captureWords_tbn _ _ _ _ _ (by decide)).trans (Dev.rd_wrTs80_ne _ _ _ (by decide) (by decide) (by decide)))
    ((Dev.rd_captureWords_tbn _ _ _ _ _ (by decide)).trans (Dev.rd_wrTs80_ne _ _ _ (by decide) (by decide) (by decide)))).trans
      (Dev.rd64_wr64_same d _ htbs)
  tbn := by
    rw [Dev.rd_captureWords_tbn _ _ _ _ _ (by decide), Dev.rd_captureWords_tbn _ _ _ _ _ (by decide),
      Dev.rd_captureWords_tbn _ _ _ _ _ (by decide), Dev.rd_wrTs80]
  steps := (Dev.rd_irq_ne _ _ _ (by decide)).trans ((Dev.rd_wr_ne _ _ (by decide)).trans ((Dev.rd_wr_ne _ _ (by decide)).trans (Dev.rd_wr_same _ _ _)))
  src := (congrArg BitVec.toNat ((Dev.rd_irq_ne _ _ _ (by decide)).trans ((Dev.rd_wr_ne _ _ (by decide)).trans (Dev.rd_wr_same _ _ _)))).trans
    ((BitVec.toNat_ofNat _ _).trans (Nat.mod_eq_of_lt hsrc))
  seq := by
    refine (Dev.rd_irq_ne _ _ _ (by decide)).trans ((Dev.rd_wr_same _ _ _).trans (congrArg (· + 1#32) ?_))
    refine (Dev.rd_wr_ne _ _ (by decide)).trans ((Dev.rd_wr_ne _ _ (by decide)).trans ?_)
    exact (Dev.rd_wrTs80_ne _ _ _ (by decide) (by decide) (by decide)).trans (Dev.rd_wr64_ne _ _ (by decide) (by decide))
  irq := (Dev.bit_irq _ _ _ _ (by decide) (by decide)).trans rfl

/-- A change before a capture that leaves what the capture takes. -/
structure BeforeCapture (g : Dev → Dev) : Prop where
  tm : ∀ d, (g d).tm = d.tm
  drv : ∀ d, (g d).drv = d.drv
  steps : ∀ d, (g d).rd Reg.TIME1_TBN_STEP_CNT = d.rd Reg.TIME1_TBN_STEP_CNT
  seq : ∀ d, (g d).rd Reg.TIME1_CAP_SEQ = d.rd Reg.TIME1_CAP_SEQ

theorem BeforeCapture.id : BeforeCapture id := ⟨fun _ => rfl, fun _ => rfl, fun _ => rfl, fun _ => rfl⟩

/-- The clearing of bits of a page's IRQ_RAW. -/
def Dev.clearIrq (d : Dev) (p : Nat) (v : W32) : Dev := d.wr (Reg.IRQ_RAW p) (d.rd (Reg.IRQ_RAW p) &&& ~~~v)

theorem BeforeCapture.clearIrq (p : Nat) (v : W32) : BeforeCapture (·.clearIrq p v) :=
  ⟨fun _ => rfl, fun _ => rfl, fun _ => Dev.rd_wr_ne _ _ (by simp only [Reg.TIME1_TBN_STEP_CNT, Reg.IRQ_RAW]; omega),
    fun _ => Dev.rd_wr_ne _ _ (by simp only [Reg.TIME1_CAP_SEQ, Reg.IRQ_RAW]; omega)⟩

/-- An accepted write that ends in a capture: what the capture's words read, the answer, and what stays. -/
theorem acceptedWrite_capture {q : Requester} {a page : Nat} {v : W32} {s : State} {g : Dev → Dev} (hg : BeforeCapture g)
    (h : Accepts q a v s) (hfresh : s.dev.Fresh) (hpage : page < 2 ^ 24) :
    let t := acceptedWrite q a (fun d => (g d).capture q page) s
    Captured (s.dev.tbs % 2 ^ 64) s.dev.tbn (s.dev.rd Reg.TIME1_TBN_STEP_CNT) (reqNo q * 2 ^ 24 + page) (s.dev.rd Reg.TIME1_CAP_SEQ) t.dev
      ∧ answerTo q t = ⟨.ok, 1, []⟩ ∧ t.dev.tm = { s.dev.tm with capAt := some (s.dev.tm.tbm, q) } ∧ t.dev.drv = s.dev.drv
      ∧ ∀ b, b ∉ captureAddrs → t.dev.rd b = (g (atFabric q true s).dev).rd b := by
  have hsrc : reqNo q * 2 ^ 24 + page < 2 ^ 32 := by cases q <;> simp only [reqNo] <;> omega
  have htm : (g (atFabric q true s).dev).tm = s.dev.tm := (hg.tm _).trans (atFabric_tm q true s)
  have hdrv : (g (atFabric q true s).dev).drv = s.dev.drv := (hg.drv _).trans (Dev.hslTouch_drv _ _ _)
  have hsteps := (hg.steps (atFabric q true s).dev).trans (h.rd_start Reg.TIME1_TBN_STEP_CNT)
  have hseq := (hg.seq (atFabric q true s).dev).trans (h.rd_start Reg.TIME1_CAP_SEQ)
  intro t
  have ht : ∃ e, e = g (atFabric q true s).dev := ⟨_, rfl⟩
  obtain ⟨e, he⟩ := ht
  have hcap : (g (atFabric q true s).dev).capture q page
      = (e.capturing q).captureWords (s.dev.tbs % 2 ^ 64) s.dev.tbn (s.dev.rd Reg.TIME1_TBN_STEP_CNT) (reqNo q * 2 ^ 24 + page) := by
    rw [← he] at htm hsteps ⊢
    have hfresh' : e.Fresh := by unfold Dev.Fresh; rw [htm]; exact hfresh
    rw [hfresh'.capture, hsteps]
    unfold Dev.tbs Dev.tbn
    rw [htm]
  rw [← he] at htm hdrv hseq
  have hrd : ∀ b, t.dev.rd b = ((g (atFabric q true s).dev).capture q page).rd b := fun b => acceptedWrite_rd q a _ s b
  have hwords := (e.capturing q).captured_captureWords s.dev.tbn (s.dev.rd Reg.TIME1_TBN_STEP_CNT) (Nat.mod_lt s.dev.tbs (by decide : 0 < 2 ^ 64)) hsrc
  rw [← hcap, show (e.capturing q).rd Reg.TIME1_CAP_SEQ = _ from hseq] at hwords
  refine ⟨⟨?_, ?_, ?_, ?_, ?_, ?_⟩, answerTo_answeredOk q a _, ?_, ?_, fun b hb => ?_⟩
  · exact (Dev.rd64_congr (hrd _) (hrd _)).trans hwords.tbs
  · rw [hrd, hrd, hrd]; exact hwords.tbn
  · rw [hrd]; exact hwords.steps
  · exact (congrArg BitVec.toNat (hrd _)).trans hwords.src
  · rw [hrd]; exact hwords.seq
  · exact (congrArg (bitOf · 17) (hrd _)).trans hwords.irq
  · refine (acceptedWrite_tm q a _ s).trans ?_
    dsimp only
    rw [hcap, Dev.captureWords_tm, ← htm]
    rfl
  · refine (Dev.respond_drv _ _ _ _ _ _).trans ?_
    dsimp only [onDev]
    rw [hcap, Dev.captureWords_drv, ← hdrv]
    rfl
  · rw [hrd, hcap, Dev.rd_captureWords_ne _ _ _ _ _ hb, he]
    rfl

/-! Acknowledgements -/

theorem acceptedWrite_congr {q : Requester} {a : Nat} {f g : Dev → Dev} {s : State} (h : f (atFabric q true s).dev = g (atFabric q true s).dev) :
    acceptedWrite q a f s = acceptedWrite q a g s := by
  unfold acceptedWrite onDev
  rw [h]

theorem Dev.acknowledge_some {d : Dev} {p : Nat} {v : W32} (h : d.rd (Reg.IRQ_RAW p) &&& v ≠ 0#32) (q : Requester) :
    d.acknowledge q p v = (d.clearIrq p v).capture q p := if_neg h

theorem Dev.acknowledge_none {d : Dev} {p : Nat} {v : W32} (h : d.rd (Reg.IRQ_RAW p) &&& v = 0#32) (q : Requester) :
    d.acknowledge q p v = d := if_pos h

/-- IRQ_RAW of another page than TIME1 is none of the capture's words. -/
theorem irqRaw_not_mem_captureAddrs {p : Nat} (h : p ≠ pTIME1) : Reg.IRQ_RAW p ∉ captureAddrs := by
  simp only [captureAddrs, List.mem_cons, List.not_mem_nil, or_false, not_or, Reg.IRQ_RAW, pTIME1, Reg.TIME1_CAP_TBS, Reg.TIME1_CAP_TBN_NS,
    Reg.TIME1_CAP_STEP_CNT, Reg.TIME1_CAP_SRC, Reg.TIME1_CAP_SEQ] at h ⊢
  omega

/-- Settles O6: each header write is one entry of the header's table, and a capture writes its nine words over it. -/
theorem headerWritesAndCaptures : Obligations.HeaderWritesAndCaptures := by
  intro q page mask v s0 s fresh captured others
  refine ⟨fun h hbits hfresh => ?_, fun h hbits => ?_, fun h hfresh => ?_, fun h => ?_, fun h => ?_, fun h => ?_, fun h => ?_, fun h => ?_⟩
  · have hack : acceptedWrite q (Reg.IRQ_RAW page) (·.acknowledge q page mask) s
        = acceptedWrite q (Reg.IRQ_RAW page) (fun d => (d.clearIrq page mask).capture q page) s :=
      acceptedWrite_congr (Dev.acknowledge_some (by rw [h.rd_start]; exact hbits) q)
    obtain ⟨hwords, hans, htm, hdrv, hrd⟩ := acceptedWrite_capture (BeforeCapture.clearIrq page mask) h hfresh (page := page) (by omega)
    refine ⟨_, congrArg Host.Outcome.next ((hostWrite_header (o := 0x20) _ (by decide) rfl h).trans hack),
      ⟨hwords.tbs, hwords.tbn, hwords.steps, hwords.src, hwords.seq, hwords.irq, hans, htm, rfl, rfl, hdrv⟩, fun a ha => ?_, fun hpage => ?_⟩
    · rw [hrd a fun hmem => ha (List.mem_append_left [Reg.IRQ_RAW page] hmem)]
      exact (Dev.rd_wr_ne _ _ fun e => ha (by simp [e])).trans (h.rd_start a)
    · rw [hrd _ (irqRaw_not_mem_captureAddrs hpage)]
      refine (Dev.rd_wr_same _ _ _).trans ?_
      rw [h.rd_start]
  · exact congrArg Host.Outcome.next ((hostWrite_header (o := 0x20) _ (by decide) rfl h).trans
      (acceptedWrite_congr (Dev.acknowledge_none (by rw [h.rd_start]; exact hbits) q)))
  · obtain ⟨hwords, hans, htm, hdrv, hrd⟩ := acceptedWrite_capture BeforeCapture.id h hfresh (page := 0xFFFF) (by decide)
    exact ⟨_, congrArg Host.Outcome.next (hostCmd_actDev _ h),
      ⟨hwords.tbs, hwords.tbn, hwords.steps, hwords.src, hwords.seq, hwords.irq, hans, htm, rfl, rfl, hdrv⟩,
      fun a ha => (hrd a ha).trans (h.rd_start a)⟩
  · exact congrArg Host.Outcome.next (hostWrite_header (o := 0x30) _ (by decide) rfl h)
  · exact congrArg Host.Outcome.next (hostWrite_header (o := 0x30) _ (by decide) rfl h)
  · exact congrArg Host.Outcome.next (hostWrite_header (o := 0x38) _ (by decide) rfl h)
  · exact congrArg Host.Outcome.next (hostWrite_header (o := 0x38) _ (by decide) rfl h)
  · exact congrArg Host.Outcome.next (hostWrite_header (o := 0x2C) _ (by decide) rfl h)

end Sys2Proof.Machine
end

section
/-! PROOFS. O7, O8: which copy a register write goes to, and the two words of a 64-bit register. -/

namespace Sys2Proof.Machine

/-! The listed entry of a key -/

theorem sfind_cons {α : Type} (p : Nat × α) (m : SMap α) (k : Nat) : sfind (p :: m) k = if p.1 = k then some p.2 else sfind m k := by
  unfold sfind
  rw [List.find?_cons]
  by_cases h : p.1 = k <;> simp [h]

@[simp] theorem sfind_sinsert_same {α : Type} (m : SMap α) (k : Nat) (v : α) : sfind (sinsert m k v) k = some v := by
  induction m with
  | nil => simp [sinsert, sfind_cons]
  | cons p r ih =>
    obtain ⟨k', v'⟩ := p
    unfold sinsert
    split_ifs with hlt heq
    · simp [sfind_cons]
    · simp [sfind_cons]
    · simpa [sfind_cons, Ne.symm heq] using ih

theorem sfind_sinsert_ne {α : Type} (m : SMap α) {j k : Nat} (v : α) (h : j ≠ k) : sfind (sinsert m k v) j = sfind m j := by
  induction m with
  | nil => simp [sinsert, sfind_cons, h.symm]
  | cons p r ih =>
    obtain ⟨k', v'⟩ := p
    unfold sinsert
    split_ifs with hlt heq
    · simp [sfind_cons, h.symm]
    · subst heq; simp [sfind_cons, h.symm]
    · simp [sfind_cons, ih]

@[simp] theorem sfind_serase_same {α : Type} (m : SMap α) (k : Nat) : sfind (serase m k) k = none := by
  simp [sfind, serase, List.find?_eq_none]

theorem sfind_serase_ne {α : Type} (m : SMap α) {j k : Nat} (h : j ≠ k) : sfind (serase m k) j = sfind m j := by
  induction m with
  | nil => rfl
  | cons p r ih =>
    unfold serase at ih ⊢
    rw [List.filter_cons]
    by_cases hp : p.1 = k
    · rw [if_neg (by simpa using hp), ih, sfind_cons, if_neg (by rw [hp]; exact h.symm)]
    · rw [if_pos (by simpa using hp), sfind_cons, sfind_cons, ih]

/-! The pending copy -/

theorem Dev.pending_congr {d e : Dev} {a : Nat} (hpend : sfind d.pend a = sfind e.pend a) (hcross : d.cross = e.cross) (hrd : d.rd a = e.rd a) :
    d.pending a = e.pending a := by
  unfold Dev.pending Dev.cut
  rw [hpend, hcross, hrd]

theorem Dev.pending_setPending (d : Dev) (a b : Nat) (v : W32) : (d.setPending a v).pending b = if b = a then v else d.pending b := by
  split_ifs with h
  · subst h
    unfold Dev.setPending Dev.pending
    dsimp only
    split_ifs with hcut
    · rw [sfind_serase_same]; exact hcut.1.symm
    · rw [sfind_sinsert_same]
  · refine Dev.pending_congr ?_ rfl rfl
    unfold Dev.setPending
    dsimp only
    split_ifs
    · exact sfind_serase_ne _ h
    · exact sfind_sinsert_ne _ _ h

/-! A write to a register of a map -/

theorem Dev.mend_fab (d : Dev) (a : Nat) : ∃ f, d.mend a = { d with fab := f } ∧ f.held = d.fab.held := by
  unfold Dev.mend
  split
  · exact ⟨_, rfl, rfl⟩
  · exact ⟨d.fab, rfl, rfl⟩

theorem Dev.noteHostInput_lpe (d : Dev) (a : Nat) : ∃ l, d.noteHostInput a = { d with lpe := l } := by
  unfold Dev.noteHostInput
  extract_lets l o now
  split_ifs
  · exact ⟨d.lpe, rfl⟩
  · exact ⟨_, rfl⟩
  · exact ⟨_, rfl⟩
  · exact ⟨d.lpe, rfl⟩

theorem Dev.store_rwt {d : Dev} {a : Nat} {h : RegHit} (hreg : findReg a = some h) (hacc : h.row.acc = .rwt) (v : W32) :
    d.store a v = (d.mend a).setPending a (v &&& w32 h.row.mask) := by
  unfold Dev.store
  simp only [hreg, hacc]

theorem Dev.store_rw {d : Dev} {a : Nat} {h : RegHit} (hreg : findReg a = some h) (hacc : h.row.acc = .rw ∨ h.row.acc = .wo) (v : W32) :
    d.store a v = (d.mend a).wr a (((d.mend a).rd a &&& ~~~(w32 h.row.mask)) ||| (v &&& w32 h.row.mask)) := by
  unfold Dev.store
  rcases hacc with hacc | hacc <;> simp only [hreg, hacc]

theorem maskOf_eq {a : Nat} {h : RegHit} (hreg : findReg a = some h) : maskOf a = w32 h.row.mask := by
  unfold maskOf
  rw [hreg]

/-- A word of a map that is no header word, command register or store word is stored. -/
theorem actWrite_store {q : Requester} {a : Nat} {v : W32} (hstore : inStore a = false)
    (hplain : a < 0x00100000 → 0x44 ≤ a % 0x1000 ∧ (commandOf q a v).isNone = true) : actWrite q a v = actStore q a v := by
  unfold actWrite
  rw [if_neg (by simp [hstore])]
  by_cases hlow : a < 0x00100000
  · obtain ⟨hoff, hcmd⟩ := hplain hlow
    rw [if_neg (by omega), if_pos hlow, Option.isNone_iff_eq_none.mp hcmd]
  · rw [if_neg (by omega), if_neg hlow]

theorem actStore_plain {q : Requester} {a : Nat} {v : W32} {h : RegHit} (hreg : findReg a = some h) (hwide : h.row.wide = false)
    (hw : writable h.row.acc = true) : actStore q a v = actDev (fun d => (d.store a v).noteHostInput a) := by
  funext s
  simp only [actStore, hreg, hwide, hw]
  rfl

theorem actStore_ignored {q : Requester} {a : Nat} {v : W32} {h : RegHit} (hreg : findReg a = some h) (hw : writable h.row.acc = false) :
    actStore q a v = actDev id := by
  funext s
  simp only [actStore, hreg, hw]
  rfl

/-- An accepted write of a word whose action changes the part by `f`. -/
theorem hostWrite_actDev {q : Requester} {a : Nat} {v : W32} {s0 : State} {f : Dev → Dev} (hact : actWrite q a v = actDev f)
    (h : Accepts q a v (arrived a s0)) : hostWrite q a v s0 = acceptedWrite q a f (arrived a s0) := by
  unfold hostWrite
  rw [farCmd_arrived, hact]
  exact hostCmd_actDev f h

theorem atFabric_cross (q : Requester) (w : Bool) (s : State) : (atFabric q w s).dev.cross = s.dev.cross := Dev.hslTouch_cross _ _ _
theorem atFabric_pend (q : Requester) (w : Bool) (s : State) : (atFabric q w s).dev.pend = s.dev.pend := Dev.hslTouch_pend _ _ _

theorem Dev.rd_of_regs {d e : Dev} (h : d.regs = e.regs) (a : Nat) : d.rd a = e.rd a := by unfold Dev.rd; rw [h]

theorem Dev.pending_of_copies {d e : Dev} (hregs : d.regs = e.regs) (hpend : d.pend = e.pend) (hcross : d.cross = e.cross) (a : Nat) :
    d.pending a = e.pending a := Dev.pending_congr (congrArg (sfind · a) hpend) hcross (Dev.rd_of_regs hregs a)

/-- A store changes the two copies of a word and the access state at most. -/
theorem Dev.store_beyond (d : Dev) (a : Nat) (v : W32) : ∃ rs p f, d.store a v = { d with regs := rs, pend := p, fab := f } := by
  obtain ⟨f, hf, -⟩ := d.mend_fab a
  unfold Dev.store
  rw [hf]
  split
  · exact ⟨d.regs, d.pend, f, rfl⟩
  · split
    · exact ⟨d.regs, _, f, rfl⟩
    · exact ⟨_, d.pend, f, rfl⟩
    · exact ⟨_, d.pend, f, rfl⟩
    all_goals exact ⟨d.regs, d.pend, f, rfl⟩

/-- What an accepted write that stores leaves in the part: the copies after the store, and nothing else but the access state and the
loops' instants. -/
theorem acceptedWrite_store (q : Requester) (a : Nat) (v : W32) (s : State) :
    let t := acceptedWrite q a (fun d => (d.store a v).noteHostInput a) s
    let e := (atFabric q true s).dev.store a v
    t.dev.regs = e.regs ∧ t.dev.pend = e.pend ∧ t.dev.tm = s.dev.tm ∧ t.dev.drv = s.dev.drv ∧ t.dev.cross = s.dev.cross
      ∧ t.dev.rcf = s.dev.rcf := by
  intro t e
  obtain ⟨l, hl⟩ := e.noteHostInput_lpe a
  have ht : t.dev = (e.noteHostInput a).respond q a .ok 1 [] := rfl
  obtain ⟨rs, p, f, hstore⟩ := (atFabric q true s).dev.store_beyond a v
  have he : e = { (atFabric q true s).dev with regs := rs, pend := p, fab := f } := hstore
  rw [ht, hl, he]
  exact ⟨rfl, rfl, atFabric_tm q true s, Dev.hslTouch_drv _ _ _, atFabric_cross q true s, Dev.hslTouch_rcf _ _ _⟩

theorem Accepts.regs_start {q : Requester} {a : Nat} {v : W32} {s : State} (h : Accepts q a v s) : (atFabric q true s).dev.regs = s.dev.regs := by
  obtain ⟨k, hk⟩ := h.start
  rw [hk]

/-- Settles O7: the store of a word by its access code. -/
theorem pendingAndActiveCopies : Obligations.PendingAndActiveCopies := by
  intro q a v s0 h s hacc hreg hstore hplain hwide
  have hstart := hacc.regs_start
  cases hw : writable h.row.acc with
  | false =>
    refine ⟨_, congrArg Host.Outcome.next (hostWrite_actDev ((actWrite_store hstore hplain).trans (actStore_ignored hreg hw)) hacc),
      answerTo_answeredOk q a _, ?_, ?_, fun _ => ⟨hstart, atFabric_pend q true s⟩, rfl, rfl, atFabric_tm q true s, Dev.hslTouch_drv _ _ _,
      atFabric_cross q true s, Dev.hslTouch_rcf _ _ _⟩
    · intro hr; simp [hr, writable] at hw
    · rintro (hr | hr) <;> simp [hr, writable] at hw
  | true =>
    obtain ⟨f, hmend, -⟩ := (atFabric q true s).dev.mend_fab a
    obtain ⟨hregs, hpend, htm, hdrv, hcross, hrcf⟩ := acceptedWrite_store q a v s
    refine ⟨_, congrArg Host.Outcome.next (hostWrite_actDev ((actWrite_store hstore hplain).trans (actStore_plain hreg hwide hw)) hacc),
      answerTo_answeredOk q a _, fun hr => ?_, fun hr => ?_, ?_, rfl, rfl, htm, hdrv, hcross, hrcf⟩
    · rw [Dev.store_rwt hreg hr, hmend] at hregs hpend
      have hpending : ∀ b, (acceptedWrite q a (fun d => (d.store a v).noteHostInput a) s).dev.pending b
          = if b = a then v &&& maskOf a else s.dev.pending b := fun b => by
        rw [Dev.pending_of_copies hregs hpend (hcross.trans (atFabric_cross q true s).symm) b, Dev.pending_setPending, maskOf_eq hreg]
        congr 1
        exact Dev.pending_of_copies hstart (atFabric_pend q true s) (atFabric_cross q true s) b
      exact ⟨(hpending a).trans (if_pos rfl), fun b hb => (hpending b).trans (if_neg hb), hregs.trans hstart⟩
    · rw [Dev.store_rw hreg hr, hmend] at hregs hpend
      refine ⟨?_, fun b hb => ?_, hpend.trans (atFabric_pend q true s)⟩
      · rw [Dev.rd_of_regs hregs, Dev.rd_wr_same, maskOf_eq hreg]
        congr 2
        exact hacc.rd_start a
      · rw [Dev.rd_of_regs hregs, Dev.rd_wr_ne _ _ hb]
        exact hacc.rd_start b
    · rintro (hr | hr | hr) <;> simp [hr, writable] at hw

/-! The two words of a 64-bit register -/

theorem actStore_wide {q : Requester} {a : Nat} {v : W32} {h : RegHit} (hreg : findReg a = some h) (hwide : h.row.wide = true)
    (hw : writable h.row.acc = true) : actStore q a v = if h.word = 0 then actWideLow q a v else actWideHigh q a v := by
  funext s
  simp only [actStore, hreg, hwide, hw]
  by_cases h0 : h.word = 0 <;> simp [h0]

/-- The low word of a 64-bit register, with the high word that its requester holds (R39). -/
def Dev.storePair (d : Dev) (q : Requester) (a : Nat) (lo : W32) : Dev :=
  ((d.store a lo).store (a + 4) (d.heldHigh q (a + 4))).dropHigh q (a + 4)

theorem actWideLow_plain {q : Requester} {a : Nat} {v : W32} (ha : a ≠ Reg.TIME1_INCR) : actWideLow q a v = actDev (·.storePair q a v) := by
  funext s
  simp only [actWideLow, if_neg ha]
  rfl

/-- A word of which every bit is defined is stored whole. -/
theorem Dev.store_whole {d : Dev} {a : Nat} {h : RegHit} (hreg : findReg a = some h) (hacc : h.row.acc = .rw) (hmask : h.row.mask = 0xFFFFFFFF)
    (v : W32) : ∃ f, d.store a v = ({ d with fab := f } : Dev).wr a v ∧ f.held = d.fab.held := by
  obtain ⟨f, hf, hheld⟩ := d.mend_fab a
  refine ⟨f, ?_, hheld⟩
  have hall : w32 0xFFFFFFFF = BitVec.allOnes 32 := by decide
  have hval : ∀ w : W32, (w &&& ~~~(w32 0xFFFFFFFF)) ||| (v &&& w32 0xFFFFFFFF) = v := fun w => by
    rw [hall, BitVec.and_allOnes, BitVec.not_allOnes, BitVec.and_zero, BitVec.zero_or]
  rw [Dev.store_rw hreg (.inl hacc), hmask, hf, hval]

theorem Dev.storePair_whole {d : Dev} {a : Nat} {y z : RegHit} (hreg : findReg a = some y) (hregz : findReg (a + 4) = some z)
    (hrow : z.row = y.row) (hacc : y.row.acc = .rw) (hmask : y.row.mask = 0xFFFFFFFF) (q : Requester) (lo : W32) :
    ∃ f, d.storePair q a lo = (({ d with fab := f } : Dev).wr a lo).wr (a + 4) (d.heldHigh q (a + 4))
      ∧ f.held = serase d.fab.held (shadowKey q (a + 4)) := by
  obtain ⟨f, hlow, hheld⟩ := Dev.store_whole (d := d) hreg hacc hmask lo
  obtain ⟨f', hhigh, hheld'⟩ := Dev.store_whole (d := ({ d with fab := f } : Dev).wr a lo) hregz (hrow ▸ hacc) (hrow ▸ hmask)
    (d.heldHigh q (a + 4))
  refine ⟨{ f' with held := serase f'.held (shadowKey q (a + 4)) }, ?_, congrArg (serase · _) (hheld'.trans hheld)⟩
  unfold Dev.storePair
  rw [hlow, hhigh]
  rfl

theorem shadowKey_ne {q r : Requester} (h : r ≠ q) (a : Nat) : shadowKey r a ≠ shadowKey q a := by
  unfold shadowKey
  cases q <;> cases r <;> simp [reqNo] at h ⊢

/-- Settles O8: the high word waits in its requester's place, and the low word stores both. -/
theorem wideRegisters : Obligations.WideRegisters := by
  intro q other a hi lo s0 x y
  refine ⟨fun hacc hreg hwide hword hw hstore hplain => ?_, fun hacc hreg hwide hword hrw ha hstore hplain hz hmask => ?_⟩
  · have hact : actWrite q (a + 4) hi = actDev (·.holdHigh q (a + 4) hi) :=
      ((actWrite_store hstore hplain).trans (actStore_wide hreg hwide hw)).trans (if_neg (by omega))
    refine ⟨_, congrArg Host.Outcome.next (hostWrite_actDev hact hacc), answerTo_answeredOk q _ _, ?_, hacc.regs_start, atFabric_pend q true _, rfl,
      rfl, Dev.hslTouch_drv _ _ _⟩
    have hheld : sfind (acceptedWrite q (a + 4) (·.holdHigh q (a + 4) hi) (arrived (a + 4) s0)).dev.fab.held (shadowKey q (a + 4)) = some hi :=
      sfind_sinsert_same _ _ _
    unfold Dev.heldHigh
    rw [hheld]
  · obtain ⟨z, hregz, hrow⟩ := hz
    have hact : actWrite q a lo = actDev (·.storePair q a lo) :=
      ((actWrite_store hstore hplain).trans (actStore_wide hreg hwide (by rw [hrw]; rfl))).trans ((if_pos hword).trans (actWideLow_plain ha))
    obtain ⟨f, hpair, hheld⟩ := Dev.storePair_whole (d := (atFabric q true (arrived a s0)).dev) hreg hregz hrow hrw hmask q lo
    have hhigh : (atFabric q true (arrived a s0)).dev.heldHigh q (a + 4) = (arrived a s0).dev.heldHigh q (a + 4) := by
      unfold Dev.heldHigh
      rw [Dev.pending_of_copies hacc.regs_start (atFabric_pend q true _) (atFabric_cross q true _),
        show (atFabric q true (arrived a s0)).dev.fab = (arrived a s0).dev.fab from Dev.hslTouch_fab _ _ _]
    have hrd : ∀ b, (acceptedWrite q a (·.storePair q a lo) (arrived a s0)).dev.rd b
        = if b = a + 4 then (arrived a s0).dev.heldHigh q (a + 4) else if b = a then lo else (arrived a s0).dev.rd b := fun b => by
      rw [acceptedWrite_rd, hpair, Dev.rd_wr, Dev.rd_wr, hhigh]
      congr 2
      exact hacc.rd_start b
    refine ⟨_, congrArg Host.Outcome.next (hostWrite_actDev hact hacc), answerTo_answeredOk q _ _, ?_, ?_, fun b hb hb4 => ?_, ?_, fun hne => ?_, rfl, rfl,
      ?_⟩
    · rw [hrd, if_neg (by omega), if_pos rfl]
    · rw [hrd, if_pos rfl]
    · rw [hrd, if_neg hb4, if_neg hb]
    · exact (congrArg Dev.pend hpair).trans (atFabric_pend q true _)
    · have hfab : (acceptedWrite q a (·.storePair q a lo) (arrived a s0)).dev.fab.held = f.held := congrArg (fun d : Dev => d.fab.held) hpair
      rw [hfab, hheld, sfind_serase_ne _ (shadowKey_ne hne _)]
      exact congrArg (fun g : Fabric => sfind g.held _) (Dev.hslTouch_fab _ _ _)
    · exact (congrArg Dev.drv hpair).trans (Dev.hslTouch_drv _ _ _)

end Sys2Proof.Machine
end

section
/-! PROOFS. O9: reads and their effects. -/

namespace Sys2Proof.Machine

theorem Readable.up {q : Requester} {a : Nat} {s : State} (h : Readable q a s) : s.dev.fabricUp = true := by
  rw [← hslTouch_fabricUp s.dev q false]
  cases e : (s.dev.hslTouch q false).fabricUp with
  | true => rfl
  | false => simp [Readable, atFabric, Dev.readStatus, e] at h

theorem Readable.start {q : Requester} {a : Nat} {s : State} (h : Readable q a s) :
    ∃ k, atFabric q false s = { s with dev := { s.dev with pow := { s.dev.pow with wake := k } } } := by
  obtain ⟨k, hk⟩ := hslTouch_up s.dev q false (Readable.up h)
  exact ⟨k, by simp only [atFabric, onDev, hk]⟩

/-- The state after a read has latched the words that go with it. -/
def State.latched (s : State) (q : Requester) (a : Nat) : State :=
  (latchedWords a).foldl (fun (t : State) (b : Nat) => onDev (·.latchShadow q b (s.view b)) t) s

theorem State.latched_kept (s : State) (q : Requester) (a : Nat) :
    (s.latched q a).dev.regs = s.dev.regs ∧ (s.latched q a).ldg = s.ldg ∧ (s.latched q a).rcd = s.rcd ∧ (s.latched q a).dev.tm = s.dev.tm :=
  List.foldlRecOn (motive := fun t : State => t.dev.regs = s.dev.regs ∧ t.ldg = s.ldg ∧ t.rcd = s.rcd ∧ t.dev.tm = s.dev.tm) _ _
    ⟨rfl, rfl, rfl, rfl⟩ fun _ h _ _ => h

/-- The state after a plain read over the fabric of a touched state. -/
def State.plainRead (s : State) (q : Requester) (a : Nat) : State :=
  onDev (fun d => (d.readClears a).respond q a .ok 1 [s.view a]) (s.latched q a)

/-- A readable word that is no port and has no shadow is answered as it stands; what it latches and clears follows. -/
theorem hostRead_plain {q : Requester} {a : Nat} {s0 : State} (h : Readable q a (arrived a s0))
    (hshadow : sfind (arrived a s0).dev.fab.shadow (shadowKey q a) = none) (hport : portOf a = none)
    (hahead : (arrived a s0).dev.wordsAhead a ≠ 0) :
    hostRead q a s0 = (atFabric q false (arrived a s0)).plainRead q a := by
  obtain ⟨k, hk⟩ := Readable.start h
  have hword : (atFabric q false (arrived a s0)).readWord q a
      = ([(atFabric q false (arrived a s0)).view a], onDev (·.readClears a) ((atFabric q false (arrived a s0)).latched q a)) := by
    unfold State.readWord
    rw [hport]
    simp only [if_neg (show (atFabric q false (arrived a s0)).dev.wordsAhead a ≠ 0 by rw [hk]; exact hahead)]
    unfold State.readReg
    rw [show sfind (atFabric q false (arrived a s0)).dev.fab.shadow (shadowKey q a) = none by rw [hk]; exact hshadow]
    rfl
  have hread : hostRead q a s0 = match (atFabric q false (arrived a s0)).dev.readStatus q a with
      | .ok => onDev (fun d => (d.shortRead a 1 ((atFabric q false (arrived a s0)).readWord q a).1.length).respond q a .ok
          ((atFabric q false (arrived a s0)).readWord q a).1.length ((atFabric q false (arrived a s0)).readWord q a).1)
          ((atFabric q false (arrived a s0)).readWord q a).2
      | st => onDev (fun d => (d.refuse a st).respond q a st 0 []) (atFabric q false (arrived a s0)) := rfl
  rw [hread, show (atFabric q false (arrived a s0)).dev.readStatus q a = .ok from h]
  dsimp only
  rw [hword]
  rfl

/-- A word that is neither STATUS of a page nor RC is not cleared by its read. -/
theorem Dev.readClears_kept {d : Dev} {a : Nat} {h : RegHit} (hreg : findReg a = some h) (hacc : h.row.acc ≠ .rc)
    (hstat : a < 0x00100000 → a % 0x1000 ≠ 0x14) : d.readClears a = d := by
  unfold Dev.readClears
  rw [if_neg fun h => hstat h.1 h.2, hreg]
  simp only [if_neg hacc]

theorem Dev.readClears_rc {d : Dev} {a : Nat} {h : RegHit} (hreg : findReg a = some h) (hacc : h.row.acc = .rc)
    (hstat : a < 0x00100000 → a % 0x1000 ≠ 0x14) : d.readClears a = d.wr a 0#32 := by
  unfold Dev.readClears
  rw [if_neg fun h => hstat h.1 h.2, hreg]
  simp only [if_pos hacc]

/-- The six registers whose read latches the two words of its seconds. -/
def ts80Regs : List Nat := [Reg.TIME_TBG_NS, Reg.TIME1_TBN_NS, Reg.TIME1_CAP_TBN_NS, Reg.TIME1_SET_NS, Reg.LDG_LOSS_FROM_NS, Reg.LDG_LOSS_TO_NS]

theorem ts80Regs_plain : ∀ b ∈ ts80Regs, (b < 0x00100000 ∧ b % 0x1000 ≠ 0x14 ∧ b % 0x1000 < 0xFFC) ∧ (portOf b).isNone = true
    ∧ latchedWords b = [b + 4, b + 8] ∧ (findReg b).any (fun h => decide (h.row.acc ≠ .rc)) = true := by
  decide +kernel

/-- A latch holds its word; a latch of another word leaves it. -/
theorem shadow_latchShadow_same (d : Dev) (q : Requester) (a : Nat) (v : W32) :
    sfind (d.latchShadow q a v).fab.shadow (shadowKey q a) = some v := sfind_sinsert_same _ _ _

theorem shadow_latchShadow_ne (d : Dev) (q : Requester) {a b : Nat} (v : W32) (h : b ≠ a) :
    sfind (d.latchShadow q a v).fab.shadow (shadowKey q b) = sfind d.fab.shadow (shadowKey q b) :=
  sfind_sinsert_ne _ _ (by unfold shadowKey; omega)

theorem Readable.regs_start {q : Requester} {a : Nat} {s : State} (h : Readable q a s) : (atFabric q false s).dev.regs = s.dev.regs := by
  obtain ⟨k, hk⟩ := Readable.start h
  rw [hk]

theorem answerTo_plainRead (s : State) (q : Requester) (a : Nat) : answerTo q (s.plainRead q a) = ⟨.ok, 1, [s.view a]⟩ :=
  answerTo_respond (onDev (·.readClears a) (s.latched q a)) q a .ok 1 [s.view a]

/-- A plain read of a word that its read does not clear leaves what the latches leave. -/
theorem State.plainRead_kept {s : State} {a : Nat} {h : RegHit} (hreg : findReg a = some h) (hacc : h.row.acc ≠ .rc)
    (hstat : a < 0x00100000 → a % 0x1000 ≠ 0x14) (q : Requester) :
    (s.plainRead q a).dev.fab.shadow = (s.latched q a).dev.fab.shadow ∧ (s.plainRead q a).dev.regs = s.dev.regs
      ∧ (s.plainRead q a).ldg = s.ldg ∧ (s.plainRead q a).rcd = s.rcd ∧ (s.plainRead q a).dev.tm = s.dev.tm := by
  obtain ⟨hregs, hldg, hrcd, htm⟩ := s.latched_kept q a
  have hdev : (s.plainRead q a).dev = (s.latched q a).dev.respond q a .ok 1 [s.view a] := by
    unfold State.plainRead onDev
    dsimp only
    rw [Dev.readClears_kept hreg hacc hstat]
  rw [hdev]
  exact ⟨rfl, hregs, hldg, hrcd, htm⟩

theorem State.plainRead_cleared {s : State} {a : Nat} {h : RegHit} (hreg : findReg a = some h) (hacc : h.row.acc = .rc)
    (hstat : a < 0x00100000 → a % 0x1000 ≠ 0x14) (q : Requester) :
    (∀ b, (s.plainRead q a).dev.rd b = if b = a then 0#32 else s.dev.rd b) ∧ (s.plainRead q a).ldg = s.ldg ∧ (s.plainRead q a).rcd = s.rcd
      ∧ (s.plainRead q a).dev.tm = s.dev.tm := by
  obtain ⟨hregs, hldg, hrcd, htm⟩ := s.latched_kept q a
  have hdev : (s.plainRead q a).dev = ((s.latched q a).dev.wr a 0#32).respond q a .ok 1 [s.view a] := by
    unfold State.plainRead onDev
    dsimp only
    rw [Dev.readClears_rc hreg hacc hstat]
  rw [hdev]
  refine ⟨fun b => ?_, hldg, hrcd, htm⟩
  rw [Dev.rd_respond_ok, Dev.rd_wr, Dev.rd_of_regs hregs]

/-- Settles O9: a plain read answers the word, latches what goes with it, and clears an RC word. -/
theorem readsAndTheirEffects : Obligations.ReadsAndTheirEffects := by
  intro q a s0 h s
  refine ⟨fun hread hshadow hport hahead hlatch hreg hacc hstat => ?_, fun hread hshadow hport hahead hlatch hreg hacc hstat => ?_, ?_,
    ⟨_, rfl, answerTo_respond _ _ _ _ _ _, fun b hb => ?_, rfl, rfl, Dev.respond_tm _ _ _ _ _ _⟩⟩
  · obtain ⟨hrd, hldg, hrcd, htm⟩ := (atFabric q false s).plainRead_cleared hreg hacc hstat q
    exact ⟨_, congrArg Host.Outcome.next (hostRead_plain hread hshadow hport hahead), answerTo_plainRead _ _ _,
      (hrd a).trans (if_pos rfl), fun b hb => ((hrd b).trans (if_neg hb)).trans (Dev.rd_of_regs (Readable.regs_start hread) b), hldg, hrcd,
      htm.trans (atFabric_tm q false s)⟩
  · obtain ⟨hsh, hregs, hldg, hrcd, htm⟩ := (atFabric q false s).plainRead_kept hreg hacc hstat q
    refine ⟨_, congrArg Host.Outcome.next (hostRead_plain hread hshadow hport hahead), answerTo_plainRead _ _ _, ?_,
      hregs.trans (Readable.regs_start hread), hldg, hrcd, htm.trans (atFabric_tm q false s)⟩
    rw [hsh, State.latched, hlatch]
    exact shadow_latchShadow_same _ _ _ _
  · intro b hb s hread hshadow
    obtain ⟨⟨hlow, hstat, hoff⟩, hport, hlatch, hreg⟩ := ts80Regs_plain b hb
    obtain ⟨x, hreg, hacc⟩ := (Option.any_eq_true _ _).mp hreg
    have hahead : s.dev.wordsAhead b ≠ 0 := by
      unfold Dev.wordsAhead
      rw [if_pos hlow]
      omega
    obtain ⟨hsh, hregs, hldg, hrcd, htm⟩ := (atFabric q false s).plainRead_kept hreg (of_decide_eq_true hacc) (fun _ => hstat) q
    refine ⟨_, congrArg Host.Outcome.next (hostRead_plain hread hshadow (Option.isNone_iff_eq_none.mp hport) hahead), answerTo_plainRead _ _ _, ?_, ?_,
      hregs.trans (Readable.regs_start hread), hldg, hrcd, htm.trans (atFabric_tm q false s)⟩
    all_goals rw [hsh, State.latched, hlatch]
    · exact (shadow_latchShadow_ne _ q _ (by omega)).trans (shadow_latchShadow_same _ _ _ _)
    · exact shadow_latchShadow_same _ _ _ _
  · simp only [List.mem_cons, List.not_mem_nil, or_false, not_or] at hb
    exact Dev.rd_respond_ne _ _ _ _ _ _ hb.1 hb.2

end Sys2Proof.Machine
end

section
/-! PROOFS. What a chain of updates of the part leaves: two relations between parts, each with one rule for each update, that are
put together along the chain. -/

namespace Sys2Proof.Machine

/-! Nothing differs but register words and what `blank` takes out -/

/-- The two parts agree but for their register words and for what `blank` takes out. -/
def Dev.SameBut (blank : Dev → Dev) (d e : Dev) : Prop := blank { e with regs := [] } = blank { d with regs := [] }

theorem Dev.SameBut.refl (blank : Dev → Dev) (d : Dev) : Dev.SameBut blank d d := rfl
theorem Dev.SameBut.trans {blank : Dev → Dev} {d e f : Dev} (h : Dev.SameBut blank d e) (h' : Dev.SameBut blank e f) : Dev.SameBut blank d f :=
  Eq.trans h' h

theorem Dev.SameBut.differOnly {blank : Dev → Dev} {s t : State} (h : Dev.SameBut blank s.dev t.dev) (hldg : t.ldg = s.ldg) (hrcd : t.rcd = s.rcd)
    (hpending : t.pending = s.pending) : differOnly blank s t := ⟨h, hldg, hrcd, hpending⟩

theorem Dev.SameBut.onDev {blank : Dev → Dev} {f : Dev → Dev} {s : State} (h : Dev.SameBut blank s.dev (f s.dev)) :
    Sys2Proof.Machine.differOnly blank s (Sys2Proof.Machine.onDev f s) := ⟨h, rfl, rfl, rfl⟩

/-- A change of register words alone. -/
theorem Dev.SameBut.ofRegs (blank : Dev → Dev) {d e : Dev} (h : ∃ rs, e = { d with regs := rs }) : Dev.SameBut blank d e := by
  obtain ⟨rs, rfl⟩ := h
  rfl

section
variable {blank : Dev → Dev} {d e : Dev} (h : Dev.SameBut blank d e)
include h

theorem Dev.SameBut.wr (a : Nat) (v : W32) : Dev.SameBut blank d (e.wr a v) := h
theorem Dev.SameBut.setBit (a b : Nat) (v : Bool) : Dev.SameBut blank d (e.setBit a b v) := h
theorem Dev.SameBut.setStat (p b : Nat) (v : Bool) : Dev.SameBut blank d (e.setStat p b v) := h
theorem Dev.SameBut.irq (p b : Nat) : Dev.SameBut blank d (e.irq p b) := h
theorem Dev.SameBut.fault (p b : Nat) : Dev.SameBut blank d (e.fault p b) := h.trans (.ofRegs blank (Dev.fault_regs e p b))

/-- `blank` takes the recorder's front end out. -/
def ForgetsRcf (blank : Dev → Dev) : Prop := ∀ (d : Dev) (f : RecFront), blank { d with rcf := f } = blank d

omit h in
theorem Dev.SameBut.ofRegsRcf (hb : ForgetsRcf blank) (he : ∃ rs f, e = { d with regs := rs, rcf := f }) : Dev.SameBut blank d e := by
  obtain ⟨rs, f, rfl⟩ := he
  exact hb { d with regs := [] } f

theorem Dev.SameBut.emit (hb : ForgetsRcf blank) (x : Event) : Dev.SameBut blank d (e.emit x) := h.trans (.ofRegsRcf hb (Dev.emit_regs_rcf e x))
theorem Dev.SameBut.faultRec (hb : ForgetsRcf blank) (p b : Nat) (vs : List W32) (o i : Nat) : Dev.SameBut blank d (e.faultRec p b vs o i) :=
  (h.fault p b).emit hb _
end

theorem Dev.SameBut.withWall {blank : Dev → Dev} {d e : Dev} {f : Dev → Dev} (hb : ForgetsRcf blank) (h : Dev.SameBut blank d (f e)) :
    Dev.SameBut blank d (e.withWall f) := h.trans (.ofRegsRcf hb (Dev.withWall_regs_rcf e f))

/-- `blank` takes the time bases out. -/
def ForgetsTm (blank : Dev → Dev) : Prop := ∀ (d : Dev) (m : TimeBases), blank { d with tm := m } = blank d

theorem Dev.SameBut.tm {blank : Dev → Dev} {d e : Dev} (hb : ForgetsTm blank) (h : Dev.SameBut blank d e) (m : TimeBases) :
    Dev.SameBut blank d { e with tm := m } := h.trans (hb { e with regs := [] } m)
theorem Dev.SameBut.advance {blank : Dev → Dev} {d e : Dev} (hb : ForgetsTm blank) (h : Dev.SameBut blank d e) (n : Nat) :
    Dev.SameBut blank d (e.advance n) := h.tm hb _

/-! Every register word reads as before but for some -/

/-- Every register word outside `l` reads the same in the two parts. -/
def Dev.RdKept (l : List Nat) (d e : Dev) : Prop := ∀ a, a ∉ l → e.rd a = d.rd a

theorem Dev.RdKept.refl (l : List Nat) (d : Dev) : Dev.RdKept l d d := fun _ _ => rfl
theorem Dev.RdKept.trans {l : List Nat} {d e f : Dev} (h : Dev.RdKept l d e) (h' : Dev.RdKept l e f) : Dev.RdKept l d f :=
  fun a ha => (h' a ha).trans (h a ha)
theorem Dev.RdKept.mono {l m : List Nat} {d e : Dev} (h : Dev.RdKept l d e) (hlm : ∀ a ∈ l, a ∈ m) : Dev.RdKept m d e :=
  fun a ha => h a fun hl => ha (hlm a hl)
/-- A change of the part that leaves the register file. -/
theorem Dev.RdKept.ofRegs (l : List Nat) {d e : Dev} (h : e.regs = d.regs) : Dev.RdKept l d e := fun a _ => Dev.rd_of_regs h a

section
variable {l : List Nat} {d e : Dev} (h : Dev.RdKept l d e)
include h

theorem Dev.RdKept.wr {a : Nat} (ha : a ∈ l) (v : W32) : Dev.RdKept l d (e.wr a v) :=
  fun b hb => (Dev.rd_wr_ne _ _ (ne_of_mem_of_not_mem ha hb).symm).trans (h b hb)
theorem Dev.RdKept.setBit {a : Nat} (ha : a ∈ l) (b : Nat) (v : Bool) : Dev.RdKept l d (e.setBit a b v) := h.wr ha _
theorem Dev.RdKept.setStat {p : Nat} (hp : Reg.STATUS p ∈ l) (b : Nat) (v : Bool) : Dev.RdKept l d (e.setStat p b v) := h.wr hp _
theorem Dev.RdKept.irq {p : Nat} (hp : Reg.IRQ_RAW p ∈ l) (b : Nat) : Dev.RdKept l d (e.irq p b) := h.wr hp _
theorem Dev.RdKept.fault {p : Nat} (hf : Reg.FAULT p ∈ l) (hi : Reg.IRQ_RAW p ∈ l) (b : Nat) : Dev.RdKept l d (e.fault p b) :=
  fun a ha => (Dev.rd_fault_ne _ _ _ (ne_of_mem_of_not_mem hf ha).symm (ne_of_mem_of_not_mem hi ha).symm).trans (h a ha)
theorem Dev.RdKept.emit (hs : Reg.REC_SUPP_TOTAL ∈ l) (x : Event) : Dev.RdKept l d (e.emit x) :=
  fun a ha => (Dev.rd_emit_ne _ _ (ne_of_mem_of_not_mem hs ha).symm).trans (h a ha)
theorem Dev.RdKept.faultRec {p : Nat} (hf : Reg.FAULT p ∈ l) (hi : Reg.IRQ_RAW p ∈ l) (hs : Reg.REC_SUPP_TOTAL ∈ l) (b : Nat) (vs : List W32)
    (o i : Nat) : Dev.RdKept l d (e.faultRec p b vs o i) := (h.fault hf hi b).emit hs _
theorem Dev.RdKept.struct {e' : Dev} (he : e'.regs = e.regs) : Dev.RdKept l d e' := h.trans (.ofRegs l he)
end

theorem Dev.RdKept.withWall {l : List Nat} {d e : Dev} {f : Dev → Dev} (hs : Reg.REC_SUPP_TOTAL ∈ l) (h : Dev.RdKept l d (f e)) :
    Dev.RdKept l d (e.withWall f) := fun a ha => (Dev.rd_withWall_ne e f (ne_of_mem_of_not_mem hs ha).symm).trans (h a ha)

theorem Dev.RdKept.bit {l : List Nat} {d e : Dev} (h : Dev.RdKept l d e) {a : Nat} (ha : a ∉ l) (b : Nat) : e.bit a b = d.bit a b :=
  congrArg (bitOf · b) (h a ha)
theorem Dev.RdKept.fld {l : List Nat} {d e : Dev} (h : Dev.RdKept l d e) {a : Nat} (ha : a ∉ l) (hi lo : Nat) : e.fld a hi lo = d.fld a hi lo :=
  congrArg (field · hi lo) (h a ha)

end Sys2Proof.Machine
end

section
/-! PROOFS. O16, O18, O20: the steering of TB-S, the discipline of TB-N, PPS and the RTC. -/

namespace Sys2Proof.Machine

/-! The clock moved to an instant -/

theorem ceilDiv_mul {a b : Nat} (hb : 0 < b) : a ≤ ceilDiv a b * b := by
  unfold ceilDiv
  rw [if_neg (by omega)]
  have hdiv := Nat.div_add_mod (a + b - 1) b
  have hmod := Nat.mod_lt (a + b - 1) hb
  rw [Nat.mul_comm] at hdiv
  omega

/-- The cycles to a CK_AON period carry the count of CK_AON's time that far. -/
theorem Dev.cyclesToTick_reaches (d : Dev) (k : Nat) : k ≤ aonTicks (d.tm.aon + 640 * d.cyclesToTick k) := by
  have hreach := ceilDiv_mul (a := k * aonPeriod - d.tm.aon) (b := 640) (by decide)
  unfold Dev.cyclesToTick aonTicks
  rw [Nat.le_div_iff_mul_le (by decide)]
  omega

/-- The clock moved to an instant of TB-M stands at it or beyond. -/
theorem Dev.toTbm_reaches (d : Dev) (due : Nat) : due ≤ (d.toTbm due).tm.tbm := by
  unfold Dev.toTbm Dev.cyclesTbm Dev.advance
  dsimp only
  split
  · next hstop =>
    change due ≤ d.carriedM (aonTicks _)
    have hticks := d.cyclesToTick_reaches (ceilDiv ((due - d.tm.parkM) * 64) aonPeriod)
    have hreach := ceilDiv_mul (a := (due - d.tm.parkM) * 64) (b := aonPeriod) (by decide)
    have hns : due - d.tm.parkM ≤ aonTicks (d.tm.aon + 640 * d.cyclesToTick (ceilDiv ((due - d.tm.parkM) * 64) aonPeriod)) * aonPeriod / 64 := by
      rw [Nat.le_div_iff_mul_le (by decide)]
      exact hreach.trans (Nat.mul_le_mul_right _ hticks)
    unfold Dev.carriedM
    omega
  · change due ≤ d.tm.tbm + 10 * cyclesTo d.tm.tbm due 10
    have hreach := ceilDiv_mul (a := due - d.tm.tbm) (b := 10) (by decide)
    unfold cyclesTo
    omega

/-! PPS and the RTC -/

theorem onDev_congr {f g : Dev → Dev} {s : State} (h : f s.dev = g s.dev) : onDev f s = onDev g s := by
  unfold onDev
  rw [h]

theorem Dev.bit_irq_same (d : Dev) (p : Nat) {i : Nat} (hi : i < 32) : (d.irq p i).bit (Reg.IRQ_RAW p) i = true := by
  rw [Dev.bit_irq _ _ _ _ hi hi, decide_eq_true rfl, Bool.true_or]

/-- The part with the pulse of second `k` out. -/
def Dev.pulseOut (d : Dev) (k : Nat) : Dev := { d with tm := { d.tm with ppsLast := some k, ppsSince := some d.tm.tbm } }

/-- The part at the second of its next pulse, the pulse out. -/
def Dev.pulseBegins (d : Dev) : Dev := ((d.toTbg (d.ppsSecond * 1000000000)).pulseOut d.ppsSecond).irq pTIME 16

theorem Dev.pulseBegins_tm (d : Dev) : d.pulseBegins.tm = ((d.toTbg (d.ppsSecond * 1000000000)).pulseOut d.ppsSecond).tm := rfl
theorem Dev.pulseOut_sinceLast (d : Dev) (k : Nat) :
    (d.pulseOut k).tm.ppsSince = some (d.pulseOut k).tm.tbm ∧ (d.pulseOut k).tm.ppsLast = some k := ⟨rfl, rfl⟩

theorem Dev.pulseBegins_regs (d : Dev) : Dev.RdKept [Reg.IRQ_RAW pTIME] d d.pulseBegins := Dev.RdKept.irq (.ofRegs _ rfl) (by decide) 16

theorem forgetsTm_tm : ForgetsTm (fun d => { d with tm := {} }) := fun _ _ => rfl

theorem Dev.pulseOut_sameBut (d : Dev) (k : Nat) : Dev.SameBut (fun d => { d with tm := {} }) d (d.pulseOut k) := rfl

theorem Dev.pulseBegins_sameBut (d : Dev) : Dev.SameBut (fun d => { d with tm := {} }) d d.pulseBegins :=
  (((Dev.SameBut.refl _ d).advance forgetsTm_tm _).trans (Dev.pulseOut_sameBut _ _)).irq pTIME 16

/-- The part at the end of a pulse that began at `b`. -/
def Dev.pulseEnds (d : Dev) (b : Nat) : Dev :=
  let e := d.toTbm (b + d.fld Reg.TIME_PPS_CTRL 24 16 * 1000000)
  { e with tm := { e.tm with ppsSince := none } }

/-- Settles O20: the clock moved to the second or to the pulse's end, and the fields of the pulse and of the RTC. -/
theorem ppsAndRtc : Obligations.PpsAndRtc := by
  intro b s
  refine ⟨fun hrun hen hvalid hsq hstep => ?_, fun hsince => ?_, fun hsrc => ?_⟩
  · have hon : s.dev.ppsOn = true := by
      simp only [Dev.ppsOn, hen, hsq, Dev.sysStopped]
      simp [hvalid, show ¬ 2 ≤ s.dev.powerState by omega]
    have hexec : exec .ppsPulse s = .next (onDev Dev.pulseBegins s) := congrArg Host.Outcome.next (onDev_congr (if_pos ⟨hon, hstep⟩))
    obtain ⟨hsince, hlast⟩ := (s.dev.toTbg (s.dev.ppsSecond * 1000000000)).pulseOut_sinceLast s.dev.ppsSecond
    rw [← Dev.pulseBegins_tm] at hsince hlast
    exact ⟨_, hexec, by rw [Dev.ppsActive, onDev_dev, hsince]; rfl, Dev.bit_irq_same _ _ (by decide), hsince, hlast,
      s.dev.pulseBegins_sameBut.onDev, s.dev.pulseBegins_regs⟩
  · have hexec : exec .ppsPulseEnd s = .next (onDev (·.pulseEnds b) s) := by
      change execPpsPulseEnd s = _
      simp only [execPpsPulseEnd, onDev, hsince]
      rfl
    exact ⟨_, hexec, rfl, s.dev.toTbm_reaches _, rfl,
      Dev.SameBut.onDev (((Dev.SameBut.refl _ s.dev).advance forgetsTm_tm _).tm forgetsTm_tm _)⟩
  · exact congrArg (fun d => Host.Outcome.next { s with dev := d }) (if_pos hsrc)

end Sys2Proof.Machine
end

section
/-! PROOFS. O18: the discipline of TB-N (R91 to R95). -/

namespace Sys2Proof.Machine

/-- What the statements about TB-N leave out. -/
def forgetTbn (d : Dev) : Dev := { d with tm := {}, rcf := {}, fab := {}, pow := {} }
theorem forgetTbn_rcf : ForgetsRcf forgetTbn := fun _ _ => rfl
theorem forgetTbn_tm : ForgetsTm forgetTbn := fun _ _ => rfl

@[simp] theorem Dev.withWall_tm (d : Dev) (f : Dev → Dev) : (d.withWall f).tm = (f d).tm := by
  obtain ⟨rs, g, h⟩ := d.withWall_regs_rcf f
  rw [h]

/-- The touch of a link and the answer of an accepted write differ from the state before by the access state and a wake source. -/
theorem acceptedWrite_sameBut {blank : Dev → Dev} (hfab : ∀ (d : Dev) f, blank { d with fab := f } = blank d)
    (hpow : ∀ (d : Dev) p, blank { d with pow := p } = blank d) {q : Requester} {a : Nat} {v : W32} {s : State} {f : Dev → Dev}
    (h : Accepts q a v s) (hf : ∀ d, Dev.SameBut blank d (f d)) : differOnly blank s (acceptedWrite q a f s) := by
  obtain ⟨k, hstart⟩ := h.start
  have hin : Dev.SameBut blank s.dev (atFabric q true s).dev := by
    rw [hstart]
    exact hpow { s.dev with regs := [] } _
  have hans : ∀ d : Dev, Dev.SameBut blank d (d.respond q a .ok 1 []) := fun d => hfab { d with regs := [] } _
  exact ⟨(hin.trans (hf _)).trans (hans _), rfl, rfl, rfl⟩

theorem acceptedWrite_regsKept {l : List Nat} {q : Requester} {a : Nat} {v : W32} {s : State} {f : Dev → Dev} (h : Accepts q a v s)
    (hf : ∀ d, Dev.RdKept l d (f d)) : regsKept l s (acceptedWrite q a f s) :=
  fun b hb => (acceptedWrite_rd q a f s b).trans ((hf _ b hb).trans (h.rd_start b))

/-! ADJ -/

/-- The offset to slew taken (R92). -/
def Dev.adjTaken (d : Dev) (v : W32) : Dev := ({ (d.wr Reg.TIME1_ADJ v) with tm := { d.tm with adjU := v.toInt * nU } }).disciplined

theorem Dev.disciplined_tm (d : Dev) : d.disciplined.tm = { d.tm with tbnWrite := d.tm.tbm, tbnOut := false } := by
  obtain ⟨rs, f, h⟩ := d.disciplined_changes
  rw [h]

theorem Dev.tbnFree_disciplined (d : Dev) : d.disciplined.tbnFree = false := by
  have hrd : d.disciplined.rd (Reg.STATUS pTIME1)
      = (({ d with tm := { d.tm with tbnWrite := d.tm.tbm, tbnOut := false } } : Dev).setStat pTIME1 16 false).rd (Reg.STATUS pTIME1) :=
    Dev.rd_withWall_ne _ _ (by decide)
  unfold Dev.tbnFree Dev.stat Dev.bit
  rw [hrd]
  exact (Dev.bit_setBit _ _ _ _ _ (by decide) (by decide)).trans (if_pos rfl)

theorem Dev.disciplined_sameBut (d : Dev) : Dev.SameBut forgetTbn d d.disciplined :=
  Dev.SameBut.withWall forgetTbn_rcf (((Dev.SameBut.refl _ d).tm forgetTbn_tm _).setStat pTIME1 16 false)

theorem Dev.disciplined_rdKept (d : Dev) : Dev.RdKept [Reg.STATUS pTIME1, Reg.REC_SUPP_TOTAL] d d.disciplined := fun a ha => by
  simp only [List.mem_cons, List.not_mem_nil, or_false, not_or] at ha
  exact Dev.rd_disciplined_ne d ha.1 ha.2

theorem Dev.adjTaken_sameBut (d : Dev) (v : W32) : Dev.SameBut forgetTbn d (d.adjTaken v) :=
  (((Dev.SameBut.refl _ d).wr Reg.TIME1_ADJ v).tm forgetTbn_tm _).trans (Dev.disciplined_sameBut _)

theorem Dev.adjTaken_rdKept (d : Dev) (v : W32) : Dev.RdKept [Reg.TIME1_ADJ, Reg.STATUS pTIME1, Reg.REC_SUPP_TOTAL] d (d.adjTaken v) :=
  (((Dev.RdKept.refl _ d).wr (by decide) v).struct rfl).trans ((Dev.disciplined_rdKept _).mono fun _ h => List.mem_cons_of_mem _ h)

theorem Dev.adjTaken_tm (d : Dev) (v : W32) : (d.adjTaken v).tm.adjU = v.toInt * nU ∧ (d.adjTaken v).tm.tbnU = d.tm.tbnU := by
  unfold Dev.adjTaken
  rw [Dev.disciplined_tm]
  exact ⟨rfl, rfl⟩

/-! A step -/

/-- The step itself: TB-N at `u`, counted, set and disciplined (R93). -/
def Dev.stepApplied (d : Dev) (u : Nat) : Dev :=
  ((({ d with tm := { d.tm with tbnU := u, adjU := 0 } }).inc Reg.TIME1_TBN_STEP_CNT).setStat pTIME1 17 true).setStat pTIME1 16 false

/-- The cycle of a step, marked. -/
def Dev.stepMarked (d : Dev) (was : Nat × Requester × Nat × W32) : Dev :=
  { d with tm := { d.tm with tbnWrite := d.tm.tbm, tbnOut := false, preStep := some was } }

theorem Dev.stepTbn_eq (d : Dev) (q : Requester) (u : Nat) :
    ∃ was vs, d.stepTbn q u = ((d.stepMarked was).withWall (·.stepApplied u)).recOwn 0x3C3 vs := ⟨_, _, rfl⟩

theorem Dev.stepApplied_sameBut (d : Dev) (u : Nat) : Dev.SameBut forgetTbn d (d.stepApplied u) :=
  ((((Dev.SameBut.refl _ d).tm forgetTbn_tm _).wr _ _).setStat _ _ _).setStat _ _ _

/-- The words that a step of TB-N writes. -/
def stepWords : List Nat := [Reg.TIME1_TBN_STEP_CNT, Reg.STATUS pTIME1, Reg.REC_SUPP_TOTAL]

theorem Dev.stepApplied_rdKept (d : Dev) (u : Nat) : Dev.RdKept stepWords d (d.stepApplied u) :=
  ((((Dev.RdKept.refl _ d).struct rfl).wr (by decide) _).setStat (by decide) 17 true).setStat (by decide) 16 false

theorem Dev.stepTbn_rd (d : Dev) (q : Requester) (u : Nat) {a : Nat} (ha : a ≠ Reg.REC_SUPP_TOTAL) : (d.stepTbn q u).rd a = (d.stepApplied u).rd a := by
  obtain ⟨was, vs, h⟩ := d.stepTbn_eq q u
  rw [h]
  exact (Dev.rd_emit_ne _ _ ha).trans (Dev.rd_withWall_ne _ _ ha)

theorem Dev.stepTbn_tm (d : Dev) (q : Requester) (u : Nat) :
    (d.stepTbn q u).tm.tbnU = u ∧ (d.stepTbn q u).tm.adjU = 0 ∧ (d.stepTbn q u).tm.tbm = d.tm.tbm ∧ (d.stepTbn q u).tm.tbsP = d.tm.tbsP := by
  obtain ⟨was, vs, h⟩ := d.stepTbn_eq q u
  rw [h, Dev.recOwn_tm, Dev.withWall_tm]
  exact ⟨rfl, rfl, rfl, rfl⟩

theorem Dev.stepMarked_sameBut (d : Dev) (was : Nat × Requester × Nat × W32) : Dev.SameBut forgetTbn d (d.stepMarked was) :=
  forgetTbn_tm { d with regs := [] } _

theorem Dev.stepTbn_sameBut (d : Dev) (q : Requester) (u : Nat) : Dev.SameBut forgetTbn d (d.stepTbn q u) := by
  obtain ⟨was, vs, h⟩ := d.stepTbn_eq q u
  rw [h]
  have happlied : Dev.SameBut forgetTbn d ((d.stepMarked was).stepApplied u) := (d.stepMarked_sameBut was).trans (Dev.stepApplied_sameBut _ u)
  exact (Dev.SameBut.withWall forgetTbn_rcf happlied).emit forgetTbn_rcf _

theorem Dev.stepTbn_rdKept (d : Dev) (q : Requester) (u : Nat) : Dev.RdKept stepWords d (d.stepTbn q u) := fun a ha =>
  (d.stepTbn_rd q u (ne_of_mem_of_not_mem (by decide : Reg.REC_SUPP_TOTAL ∈ stepWords) ha).symm).trans (d.stepApplied_rdKept u a ha)

theorem Dev.stepTbn_flags (d : Dev) (q : Requester) (u : Nat) :
    (d.stepTbn q u).tbnSet = true ∧ (d.stepTbn q u).tbnFree = false
      ∧ (d.stepTbn q u).rd Reg.TIME1_TBN_STEP_CNT = d.rd Reg.TIME1_TBN_STEP_CNT + 1#32 := by
  have hstat := d.stepTbn_rd q u (a := Reg.STATUS pTIME1) (by decide)
  have hcnt := d.stepTbn_rd q u (a := Reg.TIME1_TBN_STEP_CNT) (by decide)
  refine ⟨?_, ?_, hcnt.trans ?_⟩
  · unfold Dev.tbnSet Dev.stat Dev.bit
    rw [hstat]
    refine (Dev.bit_setBit _ _ _ _ _ (by decide) (by decide)).trans ((if_neg (by decide)).trans ?_)
    exact (Dev.bit_setBit _ _ _ _ _ (by decide) (by decide)).trans (if_pos rfl)
  · unfold Dev.tbnFree Dev.stat Dev.bit
    rw [hstat]
    exact (Dev.bit_setBit _ _ _ _ _ (by decide) (by decide)).trans (if_pos rfl)
  · exact (Dev.rd_setBit_ne _ _ _ (by decide)).trans ((Dev.rd_setBit_ne _ _ _ (by decide)).trans (Dev.rd_wr_same _ _ _))

/-- What the answer to an accepted step says and what the step leaves. -/
theorem acceptedWrite_stepTbn {q : Requester} {v : W32} {s : State} (h : Accepts q Reg.TIME1_STEP_CMD v s) (u : Dev → Nat) :
    let t := acceptedWrite q Reg.TIME1_STEP_CMD (fun d => d.stepTbn q (u d)) s
    (answerTo q t = ⟨.ok, 1, []⟩ ∧ t.dev.tm.adjU = 0 ∧ t.dev.tbnSet = true ∧ t.dev.tbnFree = false
        ∧ t.dev.rd Reg.TIME1_TBN_STEP_CNT = s.dev.rd Reg.TIME1_TBN_STEP_CNT + 1#32 ∧ t.dev.tm.tbm = s.dev.tm.tbm ∧ t.dev.tm.tbsP = s.dev.tm.tbsP
        ∧ differOnly (fun d => { d with tm := {}, rcf := {}, fab := {}, pow := {} }) s t
        ∧ regsKept [Reg.TIME1_TBN_STEP_CNT, Reg.STATUS pTIME1, Reg.REC_SUPP_TOTAL] s t)
      ∧ t.dev.tm.tbnU = u (atFabric q true s).dev := by
  intro t
  have htm : t.dev.tm = ((atFabric q true s).dev.stepTbn q (u (atFabric q true s).dev)).tm := acceptedWrite_tm q _ _ s
  obtain ⟨htbn, hadj, htbm, htbs⟩ := (atFabric q true s).dev.stepTbn_tm q (u (atFabric q true s).dev)
  obtain ⟨hset, hfree, hcnt⟩ := (atFabric q true s).dev.stepTbn_flags q (u (atFabric q true s).dev)
  rw [← htm] at htbn hadj htbm htbs
  refine ⟨⟨answerTo_answeredOk q _ _, hadj, hset, hfree, hcnt.trans (congrArg (· + 1#32) (h.rd_start _)), htbm.trans ?_, htbs.trans ?_, ?_, ?_⟩, htbn⟩
  · rw [atFabric_tm]
  · rw [atFabric_tm]
  · exact acceptedWrite_sameBut (blank := forgetTbn) (fun _ _ => rfl) (fun _ _ => rfl) h fun d => d.stepTbn_sameBut q _
  · exact acceptedWrite_regsKept h fun d => d.stepTbn_rdKept q _

theorem actLoad_taken {q : Requester} {s : State} (h : s.dev.rdN Reg.TIME1_SET_NS ≤ 999999999) :
    actLoad q s = (.ok, onDev (fun d => d.stepTbn q (d.setTime * nU)) s) := if_neg (by omega)

theorem actLoad_refused {q : Requester} {s : State} (h : 999999999 < s.dev.rdN Reg.TIME1_SET_NS) : actLoad q s = tbnRange s := if_pos h

/-- SET_NS, or INCR, refused: LEN is answered, FAULT.RANGE set, and nothing else differs. -/
theorem tbnRange_answered {q : Requester} {a : Nat} {v : W32} {s : State} (h : Accepts q a v s) :
    let t := onDev (·.respond q a .len 0 []) (onDev (·.fault pTIME1 16) (atFabric q true s))
    answerTo q t = ⟨.len, 0, []⟩ ∧ t.dev.bit (Reg.FAULT pTIME1) 16 = true ∧ t.dev.tm = s.dev.tm
      ∧ differOnly (fun d => { d with fab := {}, pow := {} }) s t
      ∧ regsKept [Reg.FAULT pTIME1, Reg.IRQ_RAW pTIME1, Reg.HOST_LAST_ERR, Reg.HOST_LAST_ERR_ADDR] s t := by
  intro t
  refine ⟨answerTo_respond _ _ _ _ _ _, (Dev.bit_respond_fault ..).trans (Dev.fault_spec _ _ _ (by decide)).1, ?_, ?_, fun b hb => ?_⟩
  · exact (Dev.respond_tm _ _ _ _ _ _).trans ((Dev.fault_tm _ _ _).trans (atFabric_tm q true s))
  · obtain ⟨k, hstart⟩ := h.start
    obtain ⟨rs, hfault⟩ := Dev.fault_regs (atFabric q true s).dev pTIME1 16
    obtain ⟨rs', f, hresp⟩ := Dev.respond_regs_fab { (atFabric q true s).dev with regs := rs } q a .len 0 []
    refine ⟨?_, rfl, rfl, rfl⟩
    rw [show t.dev = _ from onDev_dev _ _, onDev_dev, hfault, hresp, hstart]
  · simp only [List.mem_cons, List.not_mem_nil, or_false, not_or] at hb
    obtain ⟨hf, hi, herr, haddr⟩ := hb
    exact (Dev.rd_respond_ne _ _ _ _ _ _ herr haddr).trans ((Dev.rd_fault_ne _ _ _ hf hi).trans (h.rd_start b))

/-! The end of the discipline -/

/-- TB-N runs free from here on (R94). -/
def Dev.runsFree (d : Dev) : Dev := { d with tm := { d.tm with adjU := 0, tbnOut := true } }

/-- The part at the end of its discipline. -/
def Dev.tbnEnds (d : Dev) : Dev := (((d.toTbm d.tbnDue).runsFree.withWall (·.setStat pTIME1 16 true)).irq pTIME1 16).recIrq pTIME1 16

/-- What the statement about the end of the discipline leaves out. -/
def forgetTime (d : Dev) : Dev := { d with tm := {}, rcf := {} }
theorem forgetTime_rcf : ForgetsRcf forgetTime := fun _ _ => rfl
theorem forgetTime_tm : ForgetsTm forgetTime := fun _ _ => rfl

theorem Dev.runsFree_sameBut (d : Dev) : Dev.SameBut forgetTime d d.runsFree := forgetTime_tm { d with regs := [] } _

theorem Dev.tbnEnds_sameBut (d : Dev) : Dev.SameBut forgetTime d d.tbnEnds := by
  have hfree : Dev.SameBut forgetTime d (d.toTbm d.tbnDue).runsFree := ((Dev.SameBut.refl _ d).advance forgetTime_tm _).trans (Dev.runsFree_sameBut _)
  exact ((Dev.SameBut.withWall (f := (·.setStat pTIME1 16 true)) forgetTime_rcf (hfree.setStat pTIME1 16 true)).irq pTIME1 16).emit forgetTime_rcf _

theorem Dev.tbnEnds_rdKept (d : Dev) : Dev.RdKept [Reg.STATUS pTIME1, Reg.IRQ_RAW pTIME1, Reg.REC_SUPP_TOTAL] d d.tbnEnds :=
  ((Dev.RdKept.withWall (by decide) ((Dev.RdKept.ofRegs _ (e := (d.toTbm d.tbnDue).runsFree) rfl).setStat (by decide) 16 true)).irq (by decide)
    16).emit (by decide) _

theorem Dev.tbnEnds_tm (d : Dev) : d.tbnEnds.tm = (d.toTbm d.tbnDue).runsFree.tm := by
  unfold Dev.tbnEnds
  rw [Dev.recIrq_tm, Dev.irq_tm, Dev.withWall_tm]
  rfl

theorem Dev.tbnEnds_flags (d : Dev) : d.tbnEnds.tbnFree = true ∧ d.tbnEnds.bit (Reg.IRQ_RAW pTIME1) 16 = true := by
  constructor
  · have hrd : d.tbnEnds.rd (Reg.STATUS pTIME1) = ((d.toTbm d.tbnDue).runsFree.setStat pTIME1 16 true).rd (Reg.STATUS pTIME1) :=
      (Dev.rd_emit_ne _ _ (by decide)).trans ((Dev.rd_irq_ne _ _ _ (by decide)).trans (Dev.rd_withWall_ne _ _ (by decide)))
    unfold Dev.tbnFree Dev.stat Dev.bit
    rw [hrd]
    exact (Dev.bit_setBit _ _ _ _ _ (by decide) (by decide)).trans (if_pos rfl)
  · exact (congrArg (bitOf · 16) (Dev.rd_emit_ne _ _ (by decide))).trans (Dev.bit_irq_same _ _ (by decide))

theorem exec_tbnTimeout (s : State) : exec .tbnTimeout s = .next (onDev (fun d => if d.tm.tbnOut then d else d.tbnEnds) s) := rfl

/-- Settles O18: each write is one change of TB-N under the record of the wall time, and the end of the discipline one after the clock. -/
theorem tbnDiscipline : Obligations.TbnDiscipline := by
  intro q v s stepped
  refine ⟨fun h => ?_, fun h => ?_, fun h hns => ?_, fun h hns => ?_, fun hout => ?_, fun hout => ?_⟩
  · refine ⟨_, congrArg Host.Outcome.next (hostCmd_actDev (·.adjTaken v) h), answerTo_answeredOk q _ _, ?_, ?_, Dev.tbnFree_disciplined _, ?_, ?_⟩
    · exact (congrArg TimeBases.adjU (acceptedWrite_tm q _ _ s)).trans (Dev.adjTaken_tm _ v).1
    · refine (congrArg TimeBases.tbnU (acceptedWrite_tm q _ _ s)).trans ((Dev.adjTaken_tm _ v).2.trans ?_)
      rw [atFabric_tm]
    · exact acceptedWrite_sameBut (blank := forgetTbn) (fun _ _ => rfl) (fun _ _ => rfl) h fun d => d.adjTaken_sameBut v
    · exact acceptedWrite_regsKept h fun d => d.adjTaken_rdKept v
  · obtain ⟨hstep, htbn⟩ := acceptedWrite_stepTbn h fun d => tbnWrap ((d.tm.tbnU : Int) + signed64 (d.rd64 Reg.TIME1_STEP_OFS) * nU)
    refine ⟨_, congrArg Host.Outcome.next (hostCmd_actDev _ h), hstep, ?_⟩
    rw [htbn, atFabric_tm, Dev.rd64_congr (h.rd_start _) (h.rd_start _), tbnWrap]
    exact Int.toNat_of_nonneg (Int.emod_nonneg _ (by decide))
  · have hset : (atFabric q true s).dev.rdN Reg.TIME1_SET_NS ≤ 999999999 := by
      unfold Dev.rdN
      rw [h.rd_start]
      exact hns
    obtain ⟨hstep, htbn⟩ := acceptedWrite_stepTbn h fun d => d.setTime * nU
    refine ⟨_, congrArg Host.Outcome.next (hostCmd_ok h (actLoad_taken hset)), hstep, ?_⟩
    refine (congrArg (· / nU) htbn).trans ((Nat.mul_div_cancel _ (by decide)).trans ?_)
    unfold Dev.setTime Dev.rdN
    rw [h.rd_start, h.rd_start, h.rd_start]
  · have hset : 999999999 < (atFabric q true s).dev.rdN Reg.TIME1_SET_NS := by
      unfold Dev.rdN
      rw [h.rd_start]
      exact hns
    refine ⟨_, congrArg Host.Outcome.next ((hostCmd_accepted h _).trans (by rw [actLoad_refused hset]; rfl)), tbnRange_answered h⟩
  · exact (exec_tbnTimeout s).trans (congrArg Host.Outcome.next (onDev_congr (g := id) (if_pos hout)))
  · obtain ⟨hfree, hirq⟩ := s.dev.tbnEnds_flags
    refine ⟨_, (exec_tbnTimeout s).trans (congrArg Host.Outcome.next (onDev_congr (g := Dev.tbnEnds) (if_neg (by simp [hout])))), hfree, ?_, hirq, ?_,
      s.dev.tbnEnds_sameBut.onDev, s.dev.tbnEnds_rdKept⟩
    · rw [onDev_dev, Dev.tbnEnds_tm]
      rfl
    · rw [onDev_dev, Dev.tbnEnds_tm]
      exact s.dev.toTbm_reaches _

end Sys2Proof.Machine
end

section
/-! PROOFS. O16: the steering of TB-S (R85, R86). -/

namespace Sys2Proof.Machine

theorem capMag_eq (x : Int) (m : Nat) : capMag x m = clampI (-m) m x := rfl

theorem clampI_mem {m : Int} (hm : 0 ≤ m) (x : Int) : -m ≤ clampI (-m) m x ∧ clampI (-m) m x ≤ m := by
  unfold clampI
  split_ifs <;> constructor <;> omega

/-- A value is held where it lies beyond the limit. -/
theorem ne_clampI_iff {m : Int} (_ : 0 ≤ m) (x : Int) : x ≠ clampI (-m) m x ↔ x < -m ∨ m < x := by
  unfold clampI
  split_ifs <;> omega

theorem toInt_w32i {n : Int} (hlo : -(2 ^ 31) ≤ n) (hhi : n < 2 ^ 31) : (w32i n).toInt = n := by
  rw [w32i, BitVec.toInt_ofInt]
  exact Int.bmod_eq_of_le (by omega) (by omega)

/-- What TBS_PPB is moved to (R85). -/
def Dev.steerNext (d : Dev) : Int :=
  capMag (d.rdI Reg.TIME_TBS_PPB + capMag (-(d.rdI Reg.CLK_XO_PPB) - d.rdI Reg.TIME_TBS_PPB)
    (d.rdN Reg.TIME_TBS_SLEW_PPB * (d.tm.tbm - d.tm.steerAt) / 1000000000)) 200000

/-- More is asked for than the limit lets through, and TBS_PPB is held there (R86). -/
def Dev.AtLimit (d : Dev) : Prop :=
  (-(d.rdI Reg.CLK_XO_PPB) < -200000 ∨ 200000 < -(d.rdI Reg.CLK_XO_PPB)) ∧ d.steerNext = clampI (-200000) 200000 (-(d.rdI Reg.CLK_XO_PPB))


/-- The adjustment is noted, where its slew is not 0. -/
def Dev.steerNoted (d : Dev) : Dev :=
  if d.rdN Reg.TIME_TBS_SLEW_PPB * (d.tm.tbm - d.tm.steerAt) / 1000000000 = 0 then d else { d with tm := { d.tm with steerAt := d.tm.tbm } }

/-- TBS_PPB moved, under TBS_STEERED. -/
def Dev.steered (d : Dev) : Dev := (d.steerNoted.wrI Reg.TIME_TBS_PPB d.steerNext).setStat pTIME 16 true

theorem Dev.steerTbs_on {d : Dev} (hen : d.bit Reg.TIME_TBS_DISC 0 = true) (hlock : d.tbgState = tbgLocked) (hrun : d.powerState ≤ 1) :
    d.steerTbs = if -(d.rdI Reg.CLK_XO_PPB) ≠ capMag (-(d.rdI Reg.CLK_XO_PPB)) 200000 ∧ d.steerNext = capMag (-(d.rdI Reg.CLK_XO_PPB)) 200000 then
      (if d.steered.stat pTIME 17 then d.steered else (d.steered.setStat pTIME 17 true).faultRec pTIME 17) else d.steered.setStat pTIME 17 false := by
  have hstop : d.sysStopped = false := by
    unfold Dev.sysStopped
    exact decide_eq_false (by omega)
  exact if_pos (by simp [hen, hlock, hstop])

/-- At the limit: TBS_AT_LIMIT stands, with its fault as it becomes so. -/
theorem Dev.steerTbs_atLimit {d : Dev} (hen : d.bit Reg.TIME_TBS_DISC 0 = true) (hlock : d.tbgState = tbgLocked) (hrun : d.powerState ≤ 1)
    (h : d.AtLimit) : d.steerTbs = if d.steered.stat pTIME 17 then d.steered else (d.steered.setStat pTIME 17 true).faultRec pTIME 17 :=
  (Dev.steerTbs_on hen hlock hrun).trans (if_pos ⟨(ne_clampI_iff (by decide) _).mpr h.1, h.2⟩)

theorem Dev.steerTbs_within {d : Dev} (hen : d.bit Reg.TIME_TBS_DISC 0 = true) (hlock : d.tbgState = tbgLocked) (hrun : d.powerState ≤ 1)
    (h : ¬ d.AtLimit) : d.steerTbs = d.steered.setStat pTIME 17 false :=
  (Dev.steerTbs_on hen hlock hrun).trans (if_neg fun hlim => h ⟨(ne_clampI_iff (by decide) _).mp hlim.1, hlim.2⟩)

/-- The part with the discipline of TB-S off. -/
def Dev.unsteered (d : Dev) : Dev := ({ d with tm := { d.tm with steerAt := d.tm.tbm } }).setStat pTIME 16 false

theorem Dev.steerTbs_off {d : Dev} (h : d.bit Reg.TIME_TBS_DISC 0 = false ∨ d.tbgState ≠ tbgLocked ∨ 1 < d.powerState) :
    d.steerTbs = d.unsteered := by
  refine if_neg fun hon => ?_
  simp only [Bool.and_eq_true, decide_eq_true_eq, Bool.not_eq_true', Dev.sysStopped, decide_eq_false_iff_not] at hon
  obtain ⟨⟨hen, hlock⟩, hrun⟩ := hon
  rcases h with h | h | h
  · exact absurd (hen.symm.trans h) (by decide)
  · exact h hlock
  · omega

/-! What the steering leaves -/

/-- The time bases but for the instant of the adjustment, the other words and the other parts are as they were. -/
structure Dev.SteerKeeps (d e : Dev) : Prop where
  tbs : e.tm.tbsP = d.tm.tbsP
  tbm : e.tm.tbm = d.tm.tbm
  same : Dev.SameBut forgetTime d e
  regs : Dev.RdKept [Reg.TIME_TBS_PPB, Reg.STATUS pTIME, Reg.FAULT pTIME, Reg.IRQ_RAW pTIME, Reg.REC_SUPP_TOTAL] d e

theorem Dev.SteerKeeps.setStat {d e : Dev} (h : Dev.SteerKeeps d e) (b : Nat) (v : Bool) : Dev.SteerKeeps d (e.setStat pTIME b v) :=
  ⟨h.tbs, h.tbm, h.same.setStat pTIME b v, h.regs.setStat (by decide) b v⟩

theorem Dev.SteerKeeps.faultRec {d e : Dev} (h : Dev.SteerKeeps d e) (b : Nat) : Dev.SteerKeeps d (e.faultRec pTIME b) :=
  ⟨(congrArg TimeBases.tbsP (Dev.faultRec_tm _ _ _ _ _ _)).trans h.tbs, (congrArg TimeBases.tbm (Dev.faultRec_tm _ _ _ _ _ _)).trans h.tbm,
    h.same.faultRec forgetTime_rcf _ _ _ _ _, h.regs.faultRec (by decide) (by decide) (by decide) _ _ _ _⟩

theorem Dev.steerNoted_keeps (d : Dev) : Dev.SteerKeeps d d.steerNoted := by
  unfold Dev.steerNoted
  split
  · exact ⟨rfl, rfl, .refl _ d, .refl _ d⟩
  · exact ⟨rfl, rfl, (Dev.SameBut.refl _ d).tm forgetTime_tm _, .ofRegs _ rfl⟩

theorem Dev.steered_keeps (d : Dev) : Dev.SteerKeeps d d.steered := by
  obtain ⟨htbs, htbm, hsame, hregs⟩ := d.steerNoted_keeps
  have hrate : Dev.SteerKeeps d (d.steerNoted.wrI Reg.TIME_TBS_PPB d.steerNext) := ⟨htbs, htbm, hsame.wr _ _, hregs.wr (by decide) _⟩
  exact hrate.setStat 16 true

theorem Dev.unsteered_keeps (d : Dev) : Dev.SteerKeeps d d.unsteered :=
  ⟨rfl, rfl, (forgetTime_tm { d with regs := [] } _ : _), (Dev.RdKept.ofRegs _ (e := { d with tm := { d.tm with steerAt := d.tm.tbm } }) rfl).setStat
    (by decide) 16 false⟩

theorem Dev.steerTbs_keeps (d : Dev) : Dev.SteerKeeps d d.steerTbs := by
  by_cases hoff : d.bit Reg.TIME_TBS_DISC 0 = false ∨ d.tbgState ≠ tbgLocked ∨ 1 < d.powerState
  · rw [Dev.steerTbs_off hoff]
    exact d.unsteered_keeps
  · simp only [not_or, Bool.not_eq_false, not_not, Nat.not_lt] at hoff
    obtain ⟨hen, hlock, hrun⟩ := hoff
    rw [Dev.steerTbs_on hen hlock hrun]
    split_ifs
    · exact d.steered_keeps
    · exact (d.steered_keeps.setStat 17 true).faultRec 17
    · exact d.steered_keeps.setStat 17 false

/-! What the steering shows -/

theorem Dev.rd_steered (d : Dev) : d.steered.rd Reg.TIME_TBS_PPB = w32i d.steerNext :=
  (Dev.rd_setBit_ne _ _ _ (by decide)).trans (Dev.rd_wr_same _ _ _)

theorem Dev.steerNext_inRange (d : Dev) : (w32i d.steerNext).toInt = d.steerNext := by
  obtain ⟨hlo, hhi⟩ := clampI_mem (m := 200000) (by decide) (d.rdI Reg.TIME_TBS_PPB + capMag (-(d.rdI Reg.CLK_XO_PPB) - d.rdI Reg.TIME_TBS_PPB)
    (d.rdN Reg.TIME_TBS_SLEW_PPB * (d.tm.tbm - d.tm.steerAt) / 1000000000))
  have hnext : d.steerNext = clampI (-200000) 200000 (d.rdI Reg.TIME_TBS_PPB + capMag (-(d.rdI Reg.CLK_XO_PPB) - d.rdI Reg.TIME_TBS_PPB)
    (d.rdN Reg.TIME_TBS_SLEW_PPB * (d.tm.tbm - d.tm.steerAt) / 1000000000)) := rfl
  rw [← hnext] at hlo hhi
  exact toInt_w32i (by omega) (by omega)

theorem Dev.stat_steered (d : Dev) : d.steered.stat pTIME 16 = true ∧ d.steered.stat pTIME 17 = d.stat pTIME 17 := by
  refine ⟨(Dev.bit_setBit _ _ _ _ _ (by decide) (by decide)).trans (if_pos rfl), ?_⟩
  refine (Dev.bit_setBit _ _ _ _ _ (by decide) (by decide)).trans ((if_neg (by decide)).trans ?_)
  refine congrArg (bitOf · 17) ((Dev.rd_wr_ne _ _ (by decide)).trans ?_)
  unfold Dev.steerNoted
  split <;> rfl

/-- Steered, the part shows the new rate under TBS_STEERED, and TBS_AT_LIMIT as it stands. -/
theorem Dev.steerTbs_shows {d : Dev} (hen : d.bit Reg.TIME_TBS_DISC 0 = true) (hlock : d.tbgState = tbgLocked) (hrun : d.powerState ≤ 1) :
    d.steerTbs.rd Reg.TIME_TBS_PPB = w32i d.steerNext ∧ d.steerTbs.stat pTIME 16 = true
      ∧ (d.steerTbs.stat pTIME 17 = true ↔ d.AtLimit)
      ∧ (d.AtLimit → d.stat pTIME 17 = false → d.steerTbs.bit (Reg.FAULT pTIME) 17 = true) := by
  obtain ⟨h16, h17⟩ := d.stat_steered
  have hset : ∀ v, (d.steered.setStat pTIME 17 v).stat pTIME 16 = true ∧ (d.steered.setStat pTIME 17 v).stat pTIME 17 = v := fun v =>
    ⟨(Dev.bit_setBit _ _ _ _ _ (by decide) (by decide)).trans ((if_neg (by decide)).trans h16),
      (Dev.bit_setBit _ _ _ _ _ (by decide) (by decide)).trans (if_pos rfl)⟩
  by_cases hlim : d.AtLimit
  · rw [Dev.steerTbs_atLimit hen hlock hrun hlim, h17]
    cases hwas : d.stat pTIME 17 with
    | true => exact ⟨d.rd_steered, h16, iff_of_true (h17.trans hwas) hlim, fun _ h => nomatch h⟩
    | false =>
      have hstat : ((d.steered.setStat pTIME 17 true).faultRec pTIME 17).rd (Reg.STATUS pTIME) = (d.steered.setStat pTIME 17 true).rd (Reg.STATUS pTIME) :=
        Dev.rd_faultRec_ne _ _ _ (by decide) (by decide) (by decide)
      refine ⟨(Dev.rd_faultRec_ne _ _ _ (by decide) (by decide) (by decide)).trans ((Dev.rd_setBit_ne _ _ _ (by decide)).trans d.rd_steered),
        (congrArg (bitOf · 16) hstat).trans (hset true).1, iff_of_true ((congrArg (bitOf · 17) hstat).trans (hset true).2) hlim, fun _ _ => ?_⟩
      exact (congrArg (bitOf · 17) (Dev.rd_emit_ne _ _ (by decide))).trans (Dev.fault_spec _ _ _ (by decide)).1
  · rw [Dev.steerTbs_within hen hlock hrun hlim]
    exact ⟨(Dev.rd_setBit_ne _ _ _ (by decide)).trans d.rd_steered, (hset false).1, iff_of_false (by rw [(hset false).2]; decide) hlim,
      fun h => absurd h hlim⟩

/-- Settles O16: the branches of the steering, each of which writes TBS_PPB and STATUS, and FAULT as the limit is reached. -/
theorem tbsSteering : Obligations.TbsSteering := by
  intro s
  obtain ⟨htbs, htbm, hsame, hregs⟩ := s.dev.steerTbs_keeps
  refine ⟨_, rfl, htbs, htbm, hsame.onDev, hregs, fun hoff => ?_, fun hen hlock hrun => ?_⟩
  · rw [onDev_dev, Dev.steerTbs_off hoff]
    exact ⟨Dev.rd_setBit_ne _ _ _ (by decide), (Dev.bit_setBit _ _ _ _ _ (by decide) (by decide)).trans (if_pos rfl)⟩
  · obtain ⟨hppb, h16, h17, hfault⟩ := Dev.steerTbs_shows hen hlock hrun
    refine ⟨(congrArg BitVec.toInt hppb).trans s.dev.steerNext_inRange, h16, ?_, fun hwant hnext => hfault ⟨hwant, hnext⟩⟩
    rw [onDev_dev, Bool.eq_iff_iff, h17, decide_eq_true_iff]
    rfl

end Sys2Proof.Machine
end

section
/-! PROOFS. O19: the states of TB-G (R97 to R101, R185). -/

namespace Sys2Proof.Machine

theorem field_w32_state : ∀ st < 4, field (w32 st) 1 0 = st := by decide

theorem Dev.tbgState_congr {d e : Dev} (h : e.rd Reg.TIME_TBG_STATE = d.rd Reg.TIME_TBG_STATE) : e.tbgState = d.tbgState :=
  congrArg (field · 1 0) h

theorem Dev.tbgState_wrN (d : Dev) {st : Nat} (h : st < 4) : (d.wrN Reg.TIME_TBG_STATE st).tbgState = st :=
  (congrArg (field · 1 0) (Dev.rd_wr_same _ _ _)).trans (field_w32_state st h)

/-! A change of TBG_STATE -/

/-- The interrupt and the record of TBG_STATE (R97). -/
def Dev.tbgNoted (d : Dev) : Dev := (d.irq pTIME 17).recIrq pTIME 17

theorem Dev.rd_tbgNoted (d : Dev) {a : Nat} (hi : a ≠ Reg.IRQ_RAW pTIME) (hs : a ≠ Reg.REC_SUPP_TOTAL) : d.tbgNoted.rd a = d.rd a :=
  (Dev.rd_emit_ne _ _ hs).trans (Dev.rd_irq_ne _ _ _ hi)

theorem Dev.tbgNoted_irq (d : Dev) : d.tbgNoted.bit (Reg.IRQ_RAW pTIME) 17 = true :=
  (congrArg (bitOf · 17) (Dev.rd_emit_ne _ _ (by decide))).trans (Dev.bit_irq_same _ _ (by decide))

@[simp] theorem Dev.tbgNoted_tm (d : Dev) : d.tbgNoted.tm = d.tm := (Dev.recIrq_tm _ _ _ _ _ _).trans (Dev.irq_tm _ _ _)

theorem Dev.SameBut.tbgNoted {d e : Dev} (h : Dev.SameBut forgetTime d e) : Dev.SameBut forgetTime d e.tbgNoted :=
  (h.irq pTIME 17).emit forgetTime_rcf _

theorem Dev.setTbg_ne {d : Dev} {st : Nat} (h : d.tbgState ≠ st) : d.setTbg st = (d.withWall (·.wrN Reg.TIME_TBG_STATE st)).tbgNoted := if_neg h

/-- What a change of TBG_STATE shows and leaves. -/
theorem Dev.setTbg_spec {d : Dev} {st : Nat} (h : d.tbgState ≠ st) (hst : st < 4) :
    (d.setTbg st).tbgState = st ∧ (d.setTbg st).tm = d.tm ∧ (d.setTbg st).bit (Reg.IRQ_RAW pTIME) 17 = true
      ∧ Dev.SameBut forgetTime d (d.setTbg st) := by
  rw [Dev.setTbg_ne h]
  refine ⟨?_, ?_, Dev.tbgNoted_irq _, ?_⟩
  · refine (Dev.tbgState_congr ((Dev.rd_tbgNoted _ (by decide) (by decide)).trans (Dev.rd_withWall_ne _ _ (by decide)))).trans ?_
    exact Dev.tbgState_wrN d hst
  · rw [Dev.tbgNoted_tm, Dev.withWall_tm]
    rfl
  · exact (Dev.SameBut.withWall (f := (·.wrN Reg.TIME_TBG_STATE st)) forgetTime_rcf ((Dev.SameBut.refl _ d).wr _ _)).tbgNoted

theorem Dev.takeFix_sameBut (d : Dev) (f : TimeFix) : Dev.SameBut forgetTime d (d.takeFix f) :=
  (((Dev.SameBut.refl _ d).wr _ _).wr _ _).wr _ _

theorem Dev.takeFix_rdKept (d : Dev) (f : TimeFix) : Dev.RdKept [Reg.CLK_XO_PPB, Reg.CLK_TCXO_PPB, Reg.TIME_PPS_UNC] d (d.takeFix f) :=
  (((Dev.RdKept.refl _ d).wr (by decide) _).wr (by decide) _).wr (by decide) _

theorem Dev.rd_takeFix_xo (d : Dev) (f : TimeFix) : (d.takeFix f).rd Reg.CLK_XO_PPB = w32i f.xoPpb :=
  (Dev.rd_wr_ne _ _ (by decide)).trans ((Dev.rd_wr_ne _ _ (by decide)).trans (Dev.rd_wr_same _ _ _))

/-! The first lock (R97) -/

/-- TB-G at the time of a solution, LOCKED. -/
def Dev.tbgAt (d : Dev) (ns : Nat) : Dev :=
  { (d.wrN Reg.TIME_TBG_STATE tbgLocked) with tm := { d.tm with
      tbgP := ns * pU, tbgErrP := 0, burstStep := 0, stepTo := none, steerAt := d.tm.tbm } }

theorem Dev.tbgState_tbgAt (d : Dev) (ns : Nat) : (d.tbgAt ns).tbgState = tbgLocked := d.tbgState_wrN (st := tbgLocked) (by decide)
theorem Dev.rd_tbgAt_ne (d : Dev) (ns : Nat) {a : Nat} (h : a ≠ Reg.TIME_TBG_STATE) : (d.tbgAt ns).rd a = d.rd a :=
  Dev.rd_wr_ne d (w32 tbgLocked) h

theorem Dev.tbgAt_sameBut (d : Dev) (ns : Nat) : Dev.SameBut forgetTime d (d.tbgAt ns) := forgetTime_tm { d with regs := [] } _

theorem Dev.lockTbg_none {d : Dev} (h : d.tbgState = tbgNone) (f : TimeFix) :
    d.lockTbg f = (((d.takeFix f).withWall (·.tbgAt f.gpsNs)).setBit Reg.TIME_PPS_STATUS 2 false).tbgNoted := if_pos h

theorem Dev.lockTbg_spec {d : Dev} (h : d.tbgState = tbgNone) (f : TimeFix) :
    (d.lockTbg f).tbgState = tbgLocked ∧ (d.lockTbg f).tm.tbgP = f.gpsNs * pU ∧ (d.lockTbg f).tm.tbsP = d.tm.tbsP
      ∧ (d.lockTbg f).bit (Reg.IRQ_RAW pTIME) 17 = true ∧ (d.lockTbg f).rd Reg.CLK_XO_PPB = w32i f.xoPpb
      ∧ Dev.SameBut forgetTime d (d.lockTbg f) := by
  rw [Dev.lockTbg_none h]
  have hrd : ∀ {a : Nat}, a ≠ Reg.IRQ_RAW pTIME → a ≠ Reg.REC_SUPP_TOTAL → a ≠ Reg.TIME_PPS_STATUS →
      (((d.takeFix f).withWall (·.tbgAt f.gpsNs)).setBit Reg.TIME_PPS_STATUS 2 false).tbgNoted.rd a = ((d.takeFix f).tbgAt f.gpsNs).rd a :=
    fun hi hs hp => (Dev.rd_tbgNoted _ hi hs).trans ((Dev.rd_setBit_ne _ _ _ hp).trans (Dev.rd_withWall_ne _ _ hs))
  have htm : (((d.takeFix f).withWall (·.tbgAt f.gpsNs)).setBit Reg.TIME_PPS_STATUS 2 false).tbgNoted.tm = ((d.takeFix f).tbgAt f.gpsNs).tm := by
    rw [Dev.tbgNoted_tm, Dev.setBit_tm, Dev.withWall_tm]
  refine ⟨(Dev.tbgState_congr (hrd (by decide) (by decide) (by decide))).trans (Dev.tbgState_tbgAt _ _), ?_, ?_, Dev.tbgNoted_irq _, ?_, ?_⟩
  · rw [htm]; rfl
  · rw [htm]; rfl
  · exact (hrd (by decide) (by decide) (by decide)).trans ((Dev.rd_tbgAt_ne _ _ (by decide)).trans (Dev.rd_takeFix_xo d f))
  · have hat : Dev.SameBut forgetTime d ((d.takeFix f).tbgAt f.gpsNs) := (d.takeFix_sameBut f).trans (Dev.tbgAt_sameBut _ _)
    exact ((Dev.SameBut.withWall (f := (·.tbgAt f.gpsNs)) forgetTime_rcf hat).setBit _ _ _).tbgNoted

/-! Holdover and its expiry (R99, R100) -/

/-- The loss of the solution noted: a step or slew in hand ends. -/
def Dev.solutionLost (d : Dev) : Dev :=
  { d with tm := { d.tm with
    holdFrom := d.tm.tbm, holdExpired := false, uncLoss := d.rdN Reg.TIME_PPS_UNC, tbgErrP := 0, burstStep := 0, stepTo := none } }

theorem Dev.toHoldover_of {d : Dev} (h : d.tbgState = tbgLocked ∨ d.tbgState = tbgReturnS) :
    d.toHoldover = d.solutionLost.setTbg tbgHoldoverS := if_pos h

theorem Dev.solutionLost_spec {d : Dev} (h : d.tbgState = tbgLocked ∨ d.tbgState = tbgReturnS) :
    d.solutionLost.tbgState ≠ tbgHoldoverS ∧ Dev.SameBut forgetTime d d.solutionLost ∧ d.solutionLost.tm.stepTo = none
      ∧ d.solutionLost.tm.tbgErrP = 0 ∧ d.solutionLost.tm.holdFrom = d.tm.tbm ∧ d.solutionLost.tm.tbgP = d.tm.tbgP := by
  have hstate : d.solutionLost.tbgState = d.tbgState := rfl
  refine ⟨?_, forgetTime_tm { d with regs := [] } _, rfl, rfl, rfl, rfl⟩
  rw [hstate]
  rcases h with h | h <;> rw [h] <;> decide

/-- Holdover has run out. -/
def Dev.holdRunOut (d : Dev) : Dev := { d with tm := { d.tm with holdExpired := true } }

/-- The part at the end of HOLDOVER_MAX, the fault recorded. -/
def Dev.holdExpires (d : Dev) : Dev :=
  (d.toTbm (d.tm.holdFrom + d.rdN Reg.TIME_HOLDOVER_MAX * 1000000000)).holdRunOut.faultRec pTIME 16

theorem Dev.holdExpires_spec (d : Dev) :
    d.holdExpires.bit (Reg.FAULT pTIME) 16 = true ∧ d.holdExpires.tm.holdExpired = true
      ∧ d.tm.holdFrom + d.rdN Reg.TIME_HOLDOVER_MAX * 1000000000 ≤ d.holdExpires.tm.tbm ∧ Dev.SameBut forgetTime d d.holdExpires
      ∧ Dev.RdKept [Reg.FAULT pTIME, Reg.IRQ_RAW pTIME, Reg.REC_SUPP_TOTAL] d d.holdExpires := by
  have htm : d.holdExpires.tm = (d.toTbm (d.tm.holdFrom + d.rdN Reg.TIME_HOLDOVER_MAX * 1000000000)).holdRunOut.tm := Dev.faultRec_tm _ _ _ _ _ _
  have hrun : Dev.SameBut forgetTime d (d.toTbm (d.tm.holdFrom + d.rdN Reg.TIME_HOLDOVER_MAX * 1000000000)).holdRunOut :=
    ((Dev.SameBut.refl _ d).advance forgetTime_tm _).tm forgetTime_tm _
  refine ⟨(congrArg (bitOf · 16) (Dev.rd_emit_ne _ _ (by decide))).trans (Dev.fault_spec _ _ _ (by decide)).1, ?_, ?_,
    hrun.faultRec forgetTime_rcf _ _ _ _ _,
    (Dev.RdKept.ofRegs _ (e := (d.toTbm (d.tm.holdFrom + d.rdN Reg.TIME_HOLDOVER_MAX * 1000000000)).holdRunOut) rfl).faultRec (by decide) (by decide)
      (by decide) _ _ _ _⟩
  · rw [htm]; rfl
  · rw [htm]; exact d.toTbm_reaches _

/-! The return (R101, R185) -/

/-- The solution's rates taken, PPS no longer squelched. -/
def Dev.solutionBack (d : Dev) (f : TimeFix) : Dev := (d.takeFix f).setBit Reg.TIME_PPS_STATUS 2 false

/-- The error of TB-G against a solution. -/
def Dev.errTo (d : Dev) (f : TimeFix) : Int := (d.tm.tbgP : Int) - (f.gpsNs * pU : Nat)

/-- A step announced, an error to slew. -/
def Dev.announce (d : Dev) (delta : Int) : Dev := { d with tm := { d.tm with stepTo := some delta } }
def Dev.slewFrom (d : Dev) (err : Int) : Dev := { d with tm := { d.tm with tbgErrP := err } }

theorem Dev.announce_tm (d : Dev) (x : Int) : (d.announce x).tm = { d.tm with stepTo := some x } := rfl
theorem Dev.slewFrom_tm (d : Dev) (x : Int) : (d.slewFrom x).tm = { d.tm with tbgErrP := x } := rfl
theorem Dev.tbgState_announce (d : Dev) (x : Int) : (d.announce x).tbgState = d.tbgState := rfl
theorem Dev.tbgState_slewFrom (d : Dev) (x : Int) : (d.slewFrom x).tbgState = d.tbgState := rfl

theorem Dev.returnTbg_held {d : Dev} (h : d.tbgState = tbgHoldoverS) (f : TimeFix) :
    d.returnTbg f = if (d.solutionBack f).tm.stepTo.isSome then (d.solutionBack f).announce (-d.errTo f)
      else if (d.errTo f).natAbs ≤ 1000 * pU then ((d.solutionBack f).slewFrom (d.errTo f)).setTbg tbgReturnS
      else ((d.solutionBack f).announce (-d.errTo f)).irq pTIME 18 := if_pos h

theorem Dev.solutionBack_spec (d : Dev) (f : TimeFix) :
    (d.solutionBack f).tm = d.tm ∧ (d.solutionBack f).tbgState = d.tbgState ∧ Dev.SameBut forgetTime d (d.solutionBack f) := by
  refine ⟨rfl, Dev.tbgState_congr ((Dev.rd_setBit_ne _ _ _ (by decide)).trans (d.takeFix_rdKept f _ (by decide))), ?_⟩
  exact (d.takeFix_sameBut f).setBit _ _ _

theorem Dev.announce_sameBut (d : Dev) (x : Int) : Dev.SameBut forgetTime d (d.announce x) := forgetTime_tm { d with regs := [] } _
theorem Dev.slewFrom_sameBut (d : Dev) (x : Int) : Dev.SameBut forgetTime d (d.slewFrom x) := forgetTime_tm { d with regs := [] } _

/-! TBG_STEP and TBG_SLEW_DONE -/

/-- The announced step made: TB-G moved by `delta` and LOCKED. -/
def Dev.stepMade (d : Dev) (delta : Int) (before : Nat) : Dev :=
  { (d.wrN Reg.TIME_TBG_STATE tbgLocked) with tm := { d.tm with
      tbgP := ((d.tm.tbgP : Int) + delta).toNat, parkG := ((d.tm.parkG : Int) + delta).toNat, stepTo := none, steppedAt := some d.tm.tbm, steppedFrom := before } }

theorem Dev.stepMade_sameBut (d : Dev) (delta : Int) (before : Nat) : Dev.SameBut forgetTime d (d.stepMade delta before) :=
  forgetTime_tm { d with regs := [] } _

/-- A step at the next whole second, with its records. -/
def Dev.stepsTbg (d : Dev) (delta : Int) : Dev :=
  let e := d.toTbg (d.nextSecond * 1000000000)
  let x := e.withWall (·.stepMade delta e.tbg)
  (x.recOwn 0x3C3 ([0#32, lo32 x.tm.tbm, hi32 x.tm.tbm] ++ ts80Words e.tbg ++ ts80Words x.tbg)).tbgNoted

theorem exec_tbgStep {s : State} {delta : Int} (h : s.dev.tm.stepTo = some delta) : exec .tbgStep s = .next (onDev (·.stepsTbg delta) s) := by
  change execTbgStep s = _
  simp only [execTbgStep, onDev, h]
  rfl

theorem Dev.stepsTbg_spec (d : Dev) (delta : Int) :
    (d.stepsTbg delta).tm = ((d.toTbg (d.nextSecond * 1000000000)).stepMade delta (d.toTbg (d.nextSecond * 1000000000)).tbg).tm
      ∧ (d.stepsTbg delta).tbgState = tbgLocked ∧ (d.stepsTbg delta).bit (Reg.IRQ_RAW pTIME) 17 = true
      ∧ Dev.SameBut forgetTime d (d.stepsTbg delta) := by
  unfold Dev.stepsTbg
  extract_lets e x
  have hx : Dev.SameBut forgetTime d x :=
    Dev.SameBut.withWall (f := (·.stepMade delta e.tbg)) forgetTime_rcf (((Dev.SameBut.refl _ d).advance forgetTime_tm _).trans (e.stepMade_sameBut _ _))
  refine ⟨?_, ?_, Dev.tbgNoted_irq _, (hx.emit forgetTime_rcf _).tbgNoted⟩
  · rw [Dev.tbgNoted_tm, Dev.recOwn_tm]
    exact Dev.withWall_tm _ _
  · refine (Dev.tbgState_congr ((Dev.rd_tbgNoted _ (by decide) (by decide)).trans ((Dev.rd_emit_ne _ _ (by decide)).trans
      (Dev.rd_withWall_ne _ _ (by decide))))).trans ?_
    exact e.tbgState_wrN (st := tbgLocked) (by decide)

/-- The error is slewed out after the cycles that its slew takes. -/
theorem Dev.advance_slewed (d : Dev) (h : 0 < d.slewStep) : (d.advance (ceilDiv d.tm.tbgErrP.natAbs d.slewStep)).tm.tbgErrP = 0 := by
  have hreach := ceilDiv_mul (a := d.tm.tbgErrP.natAbs) h
  have hall : d.slewIn (ceilDiv d.tm.tbgErrP.natAbs d.slewStep) = d.tm.tbgErrP := by
    unfold Dev.slewIn capMag clampI
    split_ifs <;> omega
  unfold Dev.advance Dev.carried Dev.counted
  rw [hall]
  dsimp only
  split <;> exact sub_self _

theorem exec_tbgSlewDone {s : State} (h : s.dev.tbgState = tbgReturnS) : exec .tbgSlewDone s =
    .next (onDev (fun d => (d.advance (ceilDiv d.tm.tbgErrP.natAbs (10 * d.rdN Reg.TIME_RET_SLEW_NS))).setTbg tbgLocked) s) :=
  congrArg Host.Outcome.next (onDev_congr (if_pos h))

theorem Dev.clkSound_of {d : Dev} (hjump : d.integ ifJUMP = false) (hdrift : d.integ ifDRIFT = false) : d.clkSound = true := by
  simp [Dev.clkSound, hjump, hdrift]

/-- A solution that no flag stands against is given to the gate. -/
theorem exec_tbgReturn {s : State} (fix : TimeFix) (hspoof : s.dev.integ ifSPOOF = false) (hjump : s.dev.integ ifJUMP = false)
    (hdrift : s.dev.integ ifDRIFT = false) (hnav : s.dev.clockLost 6 = false) :
    exec (.tbgReturn fix) s = .next (onDev (·.gateReturn fix) s) :=
  congrArg Host.Outcome.next (onDev_congr (if_neg (by simp [hspoof, hnav, Dev.clkSound_of hjump hdrift])))

theorem exec_tbgLock {s : State} {fix : TimeFix} (hunc : fix.uncNs ≤ 100) (hspoof : s.dev.integ ifSPOOF = false) (hjump : s.dev.integ ifJUMP = false)
    (hdrift : s.dev.integ ifDRIFT = false) (hnav : s.dev.clockLost 6 = false) :
    exec (.tbgLock fix) s = .next (onDev (·.lockTbg fix) s) :=
  congrArg Host.Outcome.next (onDev_congr (if_pos ⟨hunc, hspoof, Dev.clkSound_of hjump hdrift, hnav⟩))

/-- The gate lets a solution through while a step is announced, or while the policy has no gate. -/
theorem Dev.gateReturn_through {d : Dev} (h : d.tbgState = tbgHoldoverS) (hgate : (d.bit Reg.INTEG_INTEG_POLICY 1 && d.tm.stepTo.isNone) = false)
    (f : TimeFix) : d.gateReturn f = d.returnTbg f := by
  unfold Dev.gateReturn
  rw [if_neg (not_not_intro h), if_neg (by simp [hgate])]

/-- A solution waits behind the gate. -/
def Dev.gateWaits (d : Dev) (f : TimeFix) : Dev :=
  { d with gps := { d.gps with gated := some (f, d.tbg), clkQuiet := if d.gps.gated.isSome then d.gps.clkQuiet else d.tm.tbm } }

theorem Dev.gateReturn_waits {d : Dev} (h : d.tbgState = tbgHoldoverS) (hgate : d.bit Reg.INTEG_INTEG_POLICY 1 = true) (hstep : d.tm.stepTo = none)
    (f : TimeFix) : d.gateReturn f = (d.gateWaits f).setInteg ifGATED true := by
  unfold Dev.gateReturn
  rw [if_neg (not_not_intro h), if_pos (by simp [hgate, hstep])]
  rfl

/-- A flag set reads set, and neither the clock nor the navigation state nor TBG_STATE moves. -/
theorem Dev.setInteg_spec (d : Dev) {b : Nat} (hb : b < 32) (v : Bool) :
    (d.setInteg b v).integ b = v ∧ (d.setInteg b v).gps = d.gps ∧ (d.setInteg b v).tm = d.tm ∧ (d.setInteg b v).tbgState = d.tbgState := by
  unfold Dev.setInteg
  split
  · next h => exact ⟨h, rfl, rfl, rfl⟩
  · extract_lets x y z
    have hz : ∀ a, a ≠ Reg.STATUS pINTEG → z.rd a = x.rd a := fun a ha => (Dev.rd_setBit_ne _ _ _ ha).trans (Dev.rd_setBit_ne _ _ _ ha)
    have hrd : ∀ a, a ∉ [Reg.STATUS pINTEG, Reg.IRQ_RAW pINTEG, Reg.REC_SUPP_TOTAL] → ((z.irq pINTEG 16).recIrq pINTEG 16).rd a = x.rd a := fun a ha => by
      simp only [List.mem_cons, List.not_mem_nil, or_false, not_or] at ha
      exact (Dev.rd_emit_ne _ _ ha.2.2).trans ((Dev.rd_irq_ne _ _ _ ha.2.1).trans (hz a ha.1))
    refine ⟨?_, ?_, ?_, ?_⟩
    · refine (congrArg (bitOf · b) ((hrd _ (by decide)).trans (Dev.rd_wr_ne _ _ (by decide)))).trans ?_
      exact (Dev.bit_setBit _ _ _ _ _ hb hb).trans (if_pos rfl)
    · rw [Dev.recIrq_gps, Dev.irq_gps]; rfl
    · rw [Dev.recIrq_tm, Dev.irq_tm]; rfl
    · exact Dev.tbgState_congr ((hrd _ (by decide)).trans ((Dev.rd_wr_ne _ _ (by decide)).trans (Dev.rd_setBit_ne _ _ _ (by decide))))

/-- The first lock: a solution in hand, with TB-G in none of its states. -/
theorem tbgLock_first {fix : TimeFix} {s : State} (hunc : fix.uncNs ≤ 100) (hspoof : s.dev.integ ifSPOOF = false) (hjump : s.dev.integ ifJUMP = false)
    (hdrift : s.dev.integ ifDRIFT = false) (hnav : s.dev.clockLost 6 = false)
    (hnone : s.dev.tbgState = tbgNone) :
    ∃ t, exec (.tbgLock fix) s = .next t ∧ t.dev.tbgState = tbgLocked ∧ t.dev.tm.tbgP = fix.gpsNs * pU ∧ t.dev.tm.tbsP = s.dev.tm.tbsP
      ∧ t.dev.bit (Reg.IRQ_RAW pTIME) 17 = true ∧ t.dev.rd Reg.CLK_XO_PPB = w32i fix.xoPpb ∧ differOnly (fun d => { d with tm := {}, rcf := {} }) s t := by
  obtain ⟨hstate, htbg, htbs, hirq, hxo, hsame⟩ := Dev.lockTbg_spec hnone fix
  exact ⟨_, exec_tbgLock hunc hspoof hjump hdrift hnav, hstate, htbg, htbs, hirq, hxo, hsame.onDev⟩

theorem tbgHoldover_begins {s : State} (hrun : s.dev.tbgState = tbgLocked ∨ s.dev.tbgState = tbgReturnS) :
    ∃ t, exec .tbgHoldover s = .next t ∧ t.dev.tbgState = tbgHoldoverS ∧ t.dev.tm.stepTo = none ∧ t.dev.tm.tbgErrP = 0
      ∧ t.dev.tm.holdFrom = s.dev.tm.tbm ∧ t.dev.tm.tbgP = s.dev.tm.tbgP ∧ t.dev.bit (Reg.IRQ_RAW pTIME) 17 = true ∧ differOnly (fun d => { d with tm := {}, rcf := {} }) s t := by
  obtain ⟨hne, hlost, hstep, herr, hfrom, htbg⟩ := Dev.solutionLost_spec hrun
  obtain ⟨hstate, htm, hirq, hsame⟩ := Dev.setTbg_spec hne (by decide)
  rw [← htm] at hstep herr hfrom htbg
  exact ⟨_, congrArg Host.Outcome.next (onDev_congr (g := fun d => d.solutionLost.setTbg tbgHoldoverS) (Dev.toHoldover_of hrun)), hstate, hstep, herr,
    hfrom, htbg, hirq, (hlost.trans hsame).onDev⟩

theorem holdoverExpiry_due {s : State} (hheld : s.dev.tbgState = tbgHoldoverS) (hexp : s.dev.tm.holdExpired = false) :
    ∃ t, exec .holdoverExpiry s = .next t ∧ t.dev.bit (Reg.FAULT pTIME) 16 = true ∧ t.dev.tm.holdExpired = true ∧ t.dev.tbgState = tbgHoldoverS
      ∧ s.dev.tm.holdFrom + s.dev.rdN Reg.TIME_HOLDOVER_MAX * 1000000000 ≤ t.dev.tm.tbm
      ∧ (s.dev.bit Reg.TIME_PPS_CTRL 1 = false → t.dev.bit Reg.TIME_PPS_STATUS 2 = true)
      ∧ (s.dev.bit Reg.TIME_PPS_CTRL 1 = true → t.dev.rd Reg.TIME_PPS_STATUS = s.dev.rd Reg.TIME_PPS_STATUS) ∧ differOnly (fun d => { d with tm := {}, rcf := {} }) s t := by
  obtain ⟨hfault, hexpired, hdue, hsame, hregs⟩ := s.dev.holdExpires_spec
  have hexec : exec .holdoverExpiry s = .next (onDev (fun d => if d.holdExpires.bit Reg.TIME_PPS_CTRL 1 then d.holdExpires
      else d.holdExpires.setBit Reg.TIME_PPS_STATUS 2 true) s) := congrArg Host.Outcome.next (onDev_congr (if_pos ⟨hheld, hexp⟩))
  have hkeep : s.dev.holdExpires.bit Reg.TIME_PPS_CTRL 1 = s.dev.bit Reg.TIME_PPS_CTRL 1 := hregs.bit (by decide) 1
  have hstate : s.dev.holdExpires.tbgState = tbgHoldoverS := (Dev.tbgState_congr (hregs _ (by decide))).trans hheld
  cases hk : s.dev.bit Reg.TIME_PPS_CTRL 1 with
  | true =>
    refine ⟨_, hexec.trans (congrArg Host.Outcome.next (onDev_congr (g := Dev.holdExpires) (if_pos (hkeep.trans hk)))), hfault, hexpired, hstate, hdue,
      fun h => (nomatch h), fun _ => hregs _ (by decide), hsame.onDev⟩
  | false =>
    refine ⟨_, hexec.trans (congrArg Host.Outcome.next (onDev_congr (g := fun d => d.holdExpires.setBit Reg.TIME_PPS_STATUS 2 true)
      (if_neg (by rw [hkeep, hk]; decide)))), ?_, hexpired, ?_, hdue, fun _ => ?_, fun h => (nomatch h), (hsame.setBit Reg.TIME_PPS_STATUS 2 true).onDev⟩
    · exact (Dev.bit_setBit_ne _ _ _ _ (by decide)).trans hfault
    · exact (Dev.tbgState_congr (Dev.rd_setBit_ne _ _ _ (by decide))).trans hstate
    · exact (Dev.bit_setBit _ _ _ _ _ (by decide) (by decide)).trans (if_pos rfl)

/-- While a step is announced a solution only corrects it. -/
theorem tbgReturn_corrects {fix : TimeFix} {delta : Int} {s : State} (hheld : s.dev.tbgState = tbgHoldoverS) (hspoof : s.dev.integ ifSPOOF = false) (hjump : s.dev.integ ifJUMP = false)
    (hdrift : s.dev.integ ifDRIFT = false) (hnav : s.dev.clockLost 6 = false)
    (hstep : s.dev.tm.stepTo = some delta) :
    ∃ t, exec (.tbgReturn fix) s = .next t ∧ t.dev.tm.tbgP = s.dev.tm.tbgP ∧ t.dev.tbgState = tbgHoldoverS
      ∧ t.dev.tm.stepTo = some ((fix.gpsNs * pU : Nat) - (s.dev.tm.tbgP : Int)) ∧ differOnly (fun d => { d with tm := {}, rcf := {} }) s t := by
  obtain ⟨htm, hstate, hsame⟩ := s.dev.solutionBack_spec fix
  have hret : s.dev.gateReturn fix = (s.dev.solutionBack fix).announce (-s.dev.errTo fix) :=
    (Dev.gateReturn_through hheld (by simp [hstep]) fix).trans ((Dev.returnTbg_held hheld fix).trans (if_pos (by rw [htm, hstep]; rfl)))
  refine ⟨_, (exec_tbgReturn fix hspoof hjump hdrift hnav).trans
    (congrArg Host.Outcome.next (onDev_congr (g := fun d => (d.solutionBack fix).announce (-d.errTo fix)) hret)), rfl, hstate.trans hheld, ?_,
    (hsame.trans (Dev.announce_sameBut _ _)).onDev⟩
  exact congrArg some (Int.neg_sub _ _)

/-- A small error is slewed out. -/
theorem Dev.returnTbg_slews {d : Dev} {fix : TimeFix} (hheld : d.tbgState = tbgHoldoverS) (hstep : d.tm.stepTo = none)
    (herr : (d.errTo fix).natAbs ≤ 1000 * pU) :
    (d.returnTbg fix).tbgState = tbgReturnS ∧ (d.returnTbg fix).tm.tbgErrP = d.errTo fix ∧ (d.returnTbg fix).tm.tbgP = d.tm.tbgP
      ∧ Dev.SameBut forgetTime d (d.returnTbg fix) := by
  obtain ⟨htm, hstate, hsame⟩ := d.solutionBack_spec fix
  rw [Dev.returnTbg_held hheld, if_neg (by rw [htm, hstep]; decide), if_pos herr]
  have hne : ((d.solutionBack fix).slewFrom (d.errTo fix)).tbgState ≠ tbgReturnS := by
    rw [Dev.tbgState_slewFrom, hstate, hheld]
    decide
  obtain ⟨hnow, htm', -, hsame'⟩ := Dev.setTbg_spec hne (by decide)
  refine ⟨hnow, ?_, ?_, (hsame.trans (Dev.slewFrom_sameBut _ _)).trans hsame'⟩
  · rw [htm', Dev.slewFrom_tm]
  · rw [htm', Dev.slewFrom_tm, htm]

/-- The step of a large error is announced. -/
theorem Dev.returnTbg_announces {d : Dev} {fix : TimeFix} (hheld : d.tbgState = tbgHoldoverS) (hstep : d.tm.stepTo = none)
    (herr : 1000 * pU < (d.errTo fix).natAbs) :
    (d.returnTbg fix).tm.stepTo = some (-d.errTo fix) ∧ (d.returnTbg fix).bit (Reg.IRQ_RAW pTIME) 18 = true
      ∧ (d.returnTbg fix).tbgState = tbgHoldoverS ∧ (d.returnTbg fix).tm.tbgP = d.tm.tbgP ∧ Dev.SameBut forgetTime d (d.returnTbg fix) := by
  obtain ⟨htm, hstate, hsame⟩ := d.solutionBack_spec fix
  rw [Dev.returnTbg_held hheld, if_neg (by rw [htm, hstep]; decide), if_neg (Nat.not_le.mpr herr)]
  refine ⟨?_, Dev.bit_irq_same _ _ (by decide), ?_, ?_, (hsame.trans (Dev.announce_sameBut _ _)).irq pTIME 18⟩
  · rw [Dev.irq_tm, Dev.announce_tm]
  · rw [Dev.tbgState_congr (Dev.rd_irq_ne _ _ _ (by decide)), Dev.tbgState_announce, hstate, hheld]
  · rw [Dev.irq_tm, Dev.announce_tm, htm]

/-- Without the gate a return slews a small error out and announces the step of a large one. -/
theorem tbgReturn_ungated {fix : TimeFix} {s : State} (hheld : s.dev.tbgState = tbgHoldoverS) (hspoof : s.dev.integ ifSPOOF = false)
    (hjump : s.dev.integ ifJUMP = false) (hdrift : s.dev.integ ifDRIFT = false) (hnav : s.dev.clockLost 6 = false)
    (hstep : s.dev.tm.stepTo = none) (hgate : s.dev.bit Reg.INTEG_INTEG_POLICY 1 = false) :
    ∃ t, exec (.tbgReturn fix) s = .next t ∧ t.dev.tm.tbgP = s.dev.tm.tbgP ∧ differOnly (fun d => { d with tm := {}, rcf := {} }) s t
      ∧ (((s.dev.tm.tbgP : Int) - (fix.gpsNs * pU : Nat)).natAbs ≤ 1000 * pU →
          t.dev.tbgState = tbgReturnS ∧ t.dev.tm.tbgErrP = (s.dev.tm.tbgP : Int) - (fix.gpsNs * pU : Nat))
      ∧ (1000 * pU < ((s.dev.tm.tbgP : Int) - (fix.gpsNs * pU : Nat)).natAbs →
          t.dev.tm.stepTo = some ((fix.gpsNs * pU : Nat) - (s.dev.tm.tbgP : Int)) ∧ t.dev.bit (Reg.IRQ_RAW pTIME) 18 = true
            ∧ t.dev.tbgState = tbgHoldoverS) := by
  have hexec : exec (.tbgReturn fix) s = .next (onDev (·.returnTbg fix) s) := (exec_tbgReturn fix hspoof hjump hdrift hnav).trans
    (congrArg Host.Outcome.next (onDev_congr (Dev.gateReturn_through hheld (by simp [hgate]) fix)))
  change ∃ t, _ ∧ _ ∧ _ ∧ ((s.dev.errTo fix).natAbs ≤ 1000 * pU → _) ∧ (1000 * pU < (s.dev.errTo fix).natAbs → _)
  rcases Nat.lt_or_ge (1000 * pU) (s.dev.errTo fix).natAbs with herr | herr
  · obtain ⟨hannounced, hirq, hstate, htbg, hsame⟩ := Dev.returnTbg_announces hheld hstep herr
    rw [Dev.errTo, Int.neg_sub] at hannounced
    exact ⟨_, hexec, htbg, hsame.onDev, fun h => absurd h (Nat.not_le.mpr herr), fun _ => ⟨hannounced, hirq, hstate⟩⟩
  · obtain ⟨hstate, hslew, htbg, hsame⟩ := Dev.returnTbg_slews hheld hstep herr
    exact ⟨_, hexec, htbg, hsame.onDev, fun _ => ⟨hstate, hslew⟩, fun h => absurd h (Nat.not_lt.mpr herr)⟩

/-- With the gate a return waits. -/
theorem tbgReturn_gated {fix : TimeFix} {s : State} (hheld : s.dev.tbgState = tbgHoldoverS) (hspoof : s.dev.integ ifSPOOF = false) (hjump : s.dev.integ ifJUMP = false)
    (hdrift : s.dev.integ ifDRIFT = false) (hnav : s.dev.clockLost 6 = false)
    (hstep : s.dev.tm.stepTo = none) (hgate : s.dev.bit Reg.INTEG_INTEG_POLICY 1 = true) :
    ∃ t, exec (.tbgReturn fix) s = .next t ∧ t.dev.integ ifGATED = true ∧ t.dev.gps.gated = some (fix, s.dev.tbg) ∧ t.dev.tm = s.dev.tm
      ∧ t.dev.tbgState = tbgHoldoverS := by
  obtain ⟨hflag, hgps, htm, hstate⟩ := (s.dev.gateWaits fix).setInteg_spec (b := ifGATED) (by decide) true
  exact ⟨_, (exec_tbgReturn fix hspoof hjump hdrift hnav).trans (congrArg Host.Outcome.next
    (onDev_congr (g := fun d => (d.gateWaits fix).setInteg ifGATED true) (Dev.gateReturn_waits hheld hgate hstep fix))), hflag,
    congrArg Gnss.gated hgps, htm, hstate.trans hheld⟩

theorem tbgStep_announced {delta : Int} {s : State} (hstep : s.dev.tm.stepTo = some delta) :
    ∃ t, exec .tbgStep s = .next t ∧ t.dev.tbgState = tbgLocked ∧ t.dev.tm.stepTo = none ∧ t.dev.tm.steppedAt = some t.dev.tm.tbm
      ∧ t.dev.tm.tbgP = (((s.dev.toTbg (s.dev.nextSecond * 1000000000)).tm.tbgP : Int) + delta).toNat
      ∧ t.dev.bit (Reg.IRQ_RAW pTIME) 17 = true ∧ differOnly (fun d => { d with tm := {}, rcf := {} }) s t := by
  obtain ⟨htm, hstate, hirq, hsame⟩ := s.dev.stepsTbg_spec delta
  refine ⟨_, exec_tbgStep hstep, hstate, ?_, ?_, ?_, hirq, hsame.onDev⟩
  all_goals rw [onDev_dev, htm]; rfl

theorem tbgSlewDone_returning {s : State} (hret : s.dev.tbgState = tbgReturnS) (hslew : 0 < s.dev.rdN Reg.TIME_RET_SLEW_NS) :
    ∃ t, exec .tbgSlewDone s = .next t ∧ t.dev.tbgState = tbgLocked ∧ t.dev.tm.tbgErrP = 0 ∧ differOnly (fun d => { d with tm := {}, rcf := {} }) s t := by
  have hslews : s.dev.slewStep = 10 * s.dev.rdN Reg.TIME_RET_SLEW_NS := if_pos hret
  have hdone := s.dev.advance_slewed (by omega)
  rw [hslews] at hdone
  have hne : (s.dev.advance (ceilDiv s.dev.tm.tbgErrP.natAbs (10 * s.dev.rdN Reg.TIME_RET_SLEW_NS))).tbgState ≠ tbgLocked := by
    rw [show (s.dev.advance (ceilDiv s.dev.tm.tbgErrP.natAbs (10 * s.dev.rdN Reg.TIME_RET_SLEW_NS))).tbgState = s.dev.tbgState from rfl, hret]
    decide
  obtain ⟨hnow, htm, -, hsame⟩ := Dev.setTbg_spec hne (by decide)
  exact ⟨_, exec_tbgSlewDone hret, hnow, (congrArg TimeBases.tbgErrP htm).trans hdone,
    (((Dev.SameBut.refl _ s.dev).advance forgetTime_tm _).trans hsame).onDev⟩

/-- Settles O19: one lemma for each branch of the states of TB-G. -/
theorem tbgStates : Obligations.TbgStates := by
  intro fix delta s quiet usable
  exact ⟨fun hunc ⟨hspoof, hjump, hdrift, hnav⟩ hnone => tbgLock_first hunc hspoof hjump hdrift hnav hnone, tbgHoldover_begins, holdoverExpiry_due,
    fun hheld ⟨hspoof, hjump, hdrift, hnav⟩ => tbgReturn_corrects hheld hspoof hjump hdrift hnav,
    fun hheld ⟨hspoof, hjump, hdrift, hnav⟩ => tbgReturn_ungated hheld hspoof hjump hdrift hnav,
    fun hheld ⟨hspoof, hjump, hdrift, hnav⟩ => tbgReturn_gated hheld hspoof hjump hdrift hnav, tbgStep_announced, tbgSlewDone_returning⟩

end Sys2Proof.Machine
end

section
/-! PROOFS. O28: the loss of a clock domain and its recovery (R79 to R82), with what an update of the boost rails leaves. -/

namespace Sys2Proof.Machine

/-! Relations between parts along a fold -/

/-- A relation that chains along `trans` and holds of each step holds of a fold. -/
theorem foldl_related {α β : Type} {R : β → β → Prop} (hrefl : ∀ d, R d d) (htrans : ∀ {d e f}, R d e → R e f → R d f) {f : β → α → β} :
    ∀ (xs : List α) (d : β), (∀ x ∈ xs, ∀ e, R e (f e x)) → R d (xs.foldl f d)
  | [], d, _ => hrefl d
  | x :: xs, d, h => htrans (h x (by simp) d) (foldl_related hrefl htrans xs (f d x) fun y hy => h y (by simp [hy]))

theorem Dev.RdKept.foldl {α : Type} {l : List Nat} {f : Dev → α → Dev} (xs : List α) (d : Dev) (h : ∀ x ∈ xs, ∀ e, Dev.RdKept l e (f e x)) :
    Dev.RdKept l d (xs.foldl f d) := foldl_related (.refl l) (fun a b => a.trans b) xs d h

theorem Dev.SameBut.foldl {α : Type} {blank : Dev → Dev} {f : Dev → α → Dev} (xs : List α) (d : Dev)
    (h : ∀ x ∈ xs, ∀ e, Dev.SameBut blank e (f e x)) : Dev.SameBut blank d (xs.foldl f d) :=
  foldl_related (.refl blank) (fun a b => a.trans b) xs d h

/-- What `f` reads is the same where nothing else than what `blank` takes out differs and `f` does not read that. -/
theorem Dev.SameBut.proj {α : Type} {blank : Dev → Dev} {d e : Dev} (h : Dev.SameBut blank d e) (f : Dev → α)
    (hf : ∀ x : Dev, f (blank { x with regs := [] }) = f x) : f e = f d := (hf e).symm.trans ((congrArg f h).trans (hf d))

/-! The boost rails -/

/-- The register words that a change of a rail's state touches. -/
def railWords : List Nat := [Reg.VB_RAIL_STATE 0, Reg.VB_RAIL_STATE 1, Reg.VB_RAIL_STATE 2, Reg.VB_RAIL_STATE 3, Reg.STATUS pVB, Reg.IRQ_RAW pVB]

theorem mem_railWords : ∀ k < 4, Reg.VB_RAIL_STATE k ∈ railWords := by decide

theorem Dev.RdKept.setFld {l : List Nat} {d e : Dev} (h : Dev.RdKept l d e) {a : Nat} (ha : a ∈ l) (hi lo v : Nat) : Dev.RdKept l d (e.setFld a hi lo v) :=
  h.wr ha _
theorem Dev.SameBut.setFld {blank : Dev → Dev} {d e : Dev} (h : Dev.SameBut blank d e) (a hi lo v : Nat) : Dev.SameBut blank d (e.setFld a hi lo v) := h

theorem Dev.setRail_rdKept (d : Dev) {k : Nat} (hk : k < 4) (st : Nat) : Dev.RdKept railWords d (d.setRail k st) := by
  have h := (Dev.RdKept.refl railWords d).setFld (mem_railWords k hk) 2 0 st
  unfold Dev.setRail
  extract_lets was e
  split
  · exact h
  · exact (h.setStat (by decide) _ _).irq (by decide) _

theorem Dev.setRail_sameBut (blank : Dev → Dev) (d : Dev) (k st : Nat) : Dev.SameBut blank d (d.setRail k st) := by
  unfold Dev.setRail
  extract_lets was e
  split <;> exact .refl _ d

/-- `blank` takes the drive outputs out. -/
def ForgetsDrv (blank : Dev → Dev) : Prop := ∀ (d : Dev) (x : Drive), blank { d with drv := x } = blank d

theorem Dev.SameBut.drv {blank : Dev → Dev} {d e : Dev} (hb : ForgetsDrv blank) (h : Dev.SameBut blank d e) (x : Drive) :
    Dev.SameBut blank d { e with drv := x } := h.trans (hb { e with regs := [] } x)

theorem mem_fours {k : Nat} (h : k ∈ [0, 1, 2, 3]) : k < 4 := by
  simp only [List.mem_cons, List.not_mem_nil, or_false] at h
  omega

theorem Dev.railUpdate_rdKept (d : Dev) : Dev.RdKept railWords d d.railUpdate := by
  refine .foldl _ _ fun k hk e => ?_
  split
  · exact (e.setRail_rdKept (mem_fours hk) 1).struct rfl
  · split
    · exact e.setRail_rdKept (mem_fours hk) 0
    · exact .refl _ e

theorem Dev.railUpdate_sameBut {blank : Dev → Dev} (hb : ForgetsDrv blank) (d : Dev) : Dev.SameBut blank d d.railUpdate := by
  refine .foldl _ _ fun k _ e => ?_
  split
  · exact (e.setRail_sameBut blank k 1).drv hb _
  · split
    · exact e.setRail_sameBut blank k 0
    · exact .refl _ e

/-! The loss -/

theorem execClockLoss_again {dom : Domain} {s : State} (h : s.dev.clockLost (domainNo dom) = true) : exec (.clockLoss dom) s = .next s :=
  congrArg Host.Outcome.next (if_pos h)

theorem execClockLoss_lost {dom : Domain} {s : State} (h : s.dev.clockLost (domainNo dom) = false) (hsys : dom ≠ .ckSys) :
    exec (.clockLoss dom) s = .next (onDev (fun d =>
      (if dom = .ckNav then (d.recFault pCLK (16 + domainNo dom)).withSmp (·.clockMark (domainNo dom))
        else (d.recFault pCLK (16 + domainNo dom)).clockMark (domainNo dom)).clockLossActs dom) s) := by
  refine congrArg Host.Outcome.next ((if_neg (by rw [h]; decide)).trans ((if_neg hsys).trans ?_))
  rw [onDev_onDev]

/-- The loss of a domain but CK_SYS and CK_NAV: the record, the marks, and what the domain does besides. -/
theorem execClockLoss_plain {dom : Domain} {s : State} (h : s.dev.clockLost (domainNo dom) = false) (hsys : dom ≠ .ckSys) (hnav : dom ≠ .ckNav) :
    exec (.clockLoss dom) s
      = .next (onDev (fun d => ((d.recFault pCLK (16 + domainNo dom)).clockMark (domainNo dom)).clockLossActs dom) s) :=
  (execClockLoss_lost h hsys).trans (congrArg Host.Outcome.next (onDev_congr (congrArg (Dev.clockLossActs · dom) (if_neg hnav))))

theorem execClockLoss_nav {dom : Domain} {s : State} (h : s.dev.clockLost (domainNo dom) = false) (hnav : dom = .ckNav) :
    exec (.clockLoss dom) s
      = .next (onDev (fun d => ((d.recFault pCLK (16 + domainNo dom)).withSmp (·.clockMark (domainNo dom))).clockLossActs dom) s) :=
  (execClockLoss_lost h (by rw [hnav]; decide)).trans (congrArg Host.Outcome.next (onDev_congr (congrArg (Dev.clockLossActs · dom) (if_pos hnav))))

theorem execClockLoss_sys {dom : Domain} {s : State} (h : s.dev.clockLost (domainNo dom) = false) (hsys : dom = .ckSys) :
    exec (.clockLoss dom) s = .next (onDev (·.clockMark 0) (State.controllerReset (onDev (fun d =>
      { d.recFault pCLK (16 + domainNo dom) with drv := { d.drv with strobeStop := some (d.drv.strobeStop.getD d.tm.tbm) } }) s) rcCLOCK)) := by
  have hcut : onDev (fun d => { d with drv := { d.drv with strobeStop := some (d.drv.strobeStop.getD d.tm.tbm) } })
        (onDev (fun d => d.recFault pCLK (16 + domainNo dom)) s)
      = onDev (fun d => { d.recFault pCLK (16 + domainNo dom) with
          drv := { d.drv with strobeStop := some (d.drv.strobeStop.getD d.tm.tbm) } }) s := by
    rw [onDev_onDev]
    refine onDev_congr ?_
    obtain ⟨rs, f, hrec⟩ := Dev.emit_regs_rcf s.dev ⟨false, 0, pCLK, 1, 16 + domainNo dom, 0, 0, [], s.dev.tm.tbm⟩
    rw [show s.dev.recFault pCLK (16 + domainNo dom) = _ from hrec]
  rw [← hcut]
  change execClockLoss dom s = _
  unfold execClockLoss
  extract_lets k u v
  rw [if_neg (by rw [h]; decide), if_pos hsys]

/-- The register words of the marks of a lost domain. -/
def clockWords : List Nat := [Reg.FAULT pCLK, Reg.IRQ_RAW pCLK, Reg.STATUS pCLK, Reg.CLK_CK_LOSS_CNT, Reg.REC_SUPP_TOTAL]

theorem Dev.clockMark_rdKept (d : Dev) (k : Nat) : Dev.RdKept clockWords d (d.clockMark k) :=
  (((Dev.RdKept.refl _ d).fault (by decide) (by decide) _).setStat (by decide) _ _).wr (by decide) _

theorem Dev.clockMark_sameBut (blank : Dev → Dev) (d : Dev) (k : Nat) : Dev.SameBut blank d (d.clockMark k) :=
  (((Dev.SameBut.refl blank d).fault _ _).setStat _ _ _).wr _ _

/-- The marks of a lost domain: its two bits and the count. -/
theorem Dev.clockMark_spec (d : Dev) {k : Nat} (hk : k < 8) :
    (d.clockMark k).clockLost k = true ∧ (d.clockMark k).bit (Reg.FAULT pCLK) (16 + k) = true
      ∧ (d.clockMark k).rd Reg.CLK_CK_LOSS_CNT = sat32 (d.rdN Reg.CLK_CK_LOSS_CNT + 1) := by
  have hcnt : ((d.fault pCLK (16 + k)).setStat pCLK (16 + k) true).rd Reg.CLK_CK_LOSS_CNT = d.rd Reg.CLK_CK_LOSS_CNT :=
    (Dev.rd_setBit_ne _ _ _ (by decide)).trans (Dev.rd_fault_ne _ _ _ (by decide) (by decide))
  refine ⟨?_, ?_, ?_⟩
  · refine (congrArg (bitOf · (16 + k)) (Dev.rd_wr_ne _ _ (by decide))).trans ?_
    exact (Dev.bit_setBit _ _ _ _ _ (by omega) (by omega)).trans (if_pos rfl)
  · refine (congrArg (bitOf · (16 + k)) ((Dev.rd_wr_ne _ _ (by decide)).trans (Dev.rd_setBit_ne _ _ _ (by decide)))).trans ?_
    exact (Dev.fault_spec _ _ _ (by omega)).1
  · refine (Dev.rd_wr_same _ _ _).trans ?_
    unfold Dev.rdN
    rw [hcnt]

theorem domainNo_lt : ∀ dom : Domain, domainNo dom < 8 := fun dom => by cases dom <;> decide

/-- The loss of a domain in which the part has nothing to stop. -/
theorem execClockLoss_marks {dom : Domain} {s : State} (h : s.dev.clockLost (domainNo dom) = false)
    (hdom : dom = .ckNet ∨ dom = .ckCan ∨ dom = .ckAon) :
    exec (.clockLoss dom) s = .next (onDev (fun d => (d.recFault pCLK (16 + domainNo dom)).clockMark (domainNo dom)) s) := by
  have hne : dom ≠ .ckSys ∧ dom ≠ .ckNav := by rcases hdom with rfl | rfl | rfl <;> decide
  refine (execClockLoss_plain h hne.1 hne.2).trans (congrArg Host.Outcome.next (onDev_congr ?_))
  rcases hdom with rfl | rfl | rfl <;> rfl

/-! The recovery -/

theorem execClockRecovery_idle {dom : Domain} {s : State} (h : s.dev.clockLost (domainNo dom) = true) (hedge : dom ≠ .ckEdge) (hnav : dom ≠ .ckNav) :
    exec (.clockRecovery dom) s = .next (onDev (·.setStat pCLK (16 + domainNo dom) false) s) :=
  congrArg Host.Outcome.next (onDev_congr ((if_pos h).trans ((if_neg hedge).trans ((if_neg hnav).trans (if_neg hnav)))))

theorem execClockRecovery_edge {dom : Domain} {s : State} (h : s.dev.clockLost (domainNo dom) = true) (hedge : dom = .ckEdge) :
    exec (.clockRecovery dom) s = .next (onDev (fun d => (d.setStat pCLK (16 + domainNo dom) false).railUpdate) s) :=
  congrArg Host.Outcome.next (onDev_congr ((if_pos h).trans ((if_pos hedge).trans
    (congrArg Dev.railUpdate (if_neg (by rw [hedge]; decide))))))

theorem execClockRecovery_nav {dom : Domain} {s : State} (h : s.dev.clockLost (domainNo dom) = true) (hnav : dom = .ckNav) :
    exec (.clockRecovery dom) s = .next (onDev (fun d => (d.withSmp (·.setStat pCLK (16 + domainNo dom) false)).acqNext) s) :=
  congrArg Host.Outcome.next (onDev_congr ((if_pos h).trans ((if_neg (by rw [hnav]; decide)).trans ((if_pos hnav).trans
    (congrArg Dev.acqNext (if_pos hnav))))))

theorem Dev.clockLost_setStat_same (d : Dev) {k : Nat} (hk : k < 8) : (d.setStat pCLK (16 + k) false).clockLost k = false :=
  (Dev.bit_setBit _ _ _ _ _ (by omega) (by omega)).trans (if_pos rfl)

/-- The first queued job started where none runs (R188), before ACQ_STATE shows it. -/
def Dev.acqTaken (d : Dev) : Dev :=
  match d.gps.running, d.gps.waiting, d.gps.jobs with
  | none, none, j :: r =>
    if d.clockLost 6 || d.powerState > 1 then d
    else if r = [] then ({ d with gps := { d.gps with running := some (j, d.smp), jobs := r } }).irq pACQ 17
    else { d with gps := { d.gps with running := some (j, d.smp), jobs := r } }
  | _, _, _ => d

theorem Dev.acqNext_eq (d : Dev) : d.acqNext = d.acqTaken.acqShow := rfl

theorem Dev.acqTaken_cases (d : Dev) : ∃ r j, d.acqTaken = { d with gps := { d.gps with running := r, jobs := j } }
    ∨ d.acqTaken = ({ d with gps := { d.gps with running := r, jobs := j } }).irq pACQ 17 := by
  unfold Dev.acqTaken
  split
  · split
    · exact ⟨_, _, .inl rfl⟩
    · split
      · exact ⟨_, _, .inr rfl⟩
      · exact ⟨_, _, .inl rfl⟩
  · exact ⟨_, _, .inl rfl⟩

def acqTouched : List Nat := [Reg.ACQ_ACQ_STATE, Reg.IRQ_RAW pACQ]

theorem Dev.acqNext_spec (d : Dev) : Dev.RdKept acqTouched d d.acqNext ∧ ∃ rs r j, d.acqNext = { d with regs := rs, gps := { d.gps with running := r, jobs := j } } := by
  rw [Dev.acqNext_eq]
  obtain ⟨r, j, h | h⟩ := d.acqTaken_cases
  · rw [h]
    exact ⟨((Dev.RdKept.refl _ d).struct (e' := { d with gps := _ }) rfl).wr (by decide) _, _, _, _, rfl⟩
  · rw [h]
    exact ⟨(((Dev.RdKept.refl _ d).struct (e' := { d with gps := _ }) rfl).irq (by decide) _).wr (by decide) _, _, _, _, rfl⟩

/-- The sample count does not depend on the queue of the acquisition. -/
theorem Dev.acqNext_smp (d : Dev) : d.acqNext.smp = d.smp := by
  obtain ⟨hrd, rs, r, j, h⟩ := d.acqNext_spec
  have hp : d.acqNext.powerState = d.powerState := hrd.fld (by decide) 2 0
  have hc : d.acqNext.clockLost 6 = d.clockLost 6 := hrd.bit (by decide) 22
  have htm : d.acqNext.tm = d.tm := by rw [h]
  have hb : d.acqNext.gps.smpBase = d.gps.smpBase ∧ d.acqNext.gps.smpAt = d.gps.smpAt := by rw [h]; exact ⟨rfl, rfl⟩
  unfold Dev.smp Dev.smpRuns Dev.fineNs Dev.sysStopped
  rw [hp, hc, htm, hb.1, hb.2]

/-- What keeps the count of samples across a change of what clocks it. -/
theorem Dev.withSmp_smp {d : Dev} {f : Dev → Dev} : (d.withSmp f).smp = d.smp := by
  unfold Dev.withSmp
  extract_lets n e
  have hf : ({ e with gps := { e.gps with smpBase := n, smpAt := e.fineNs } } : Dev).fineNs = e.fineNs := rfl
  unfold Dev.smp
  rw [hf]
  simp [n, Dev.smp]

theorem clockRecovery_nav {s : State} (h : s.dev.clockLost 6 = true) :
    ∃ t, exec (.clockRecovery .ckNav) s = .next t ∧ t.dev.clockLost 6 = false ∧ t.dev.smp = s.dev.smp
        ∧ differOnly (fun d => { d with gps := {} }) s t := by
  refine ⟨_, execClockRecovery_nav (dom := .ckNav) h rfl, ?_, ?_, Dev.SameBut.onDev ?_⟩
  · refine ((Dev.acqNext_spec _).1.bit (by decide) 22).trans ?_
    exact Dev.clockLost_setStat_same s.dev (k := 6) (by decide)
  · exact (Dev.acqNext_smp _).trans Dev.withSmp_smp
  · obtain ⟨-, rs, r, j, hn⟩ := Dev.acqNext_spec (s.dev.withSmp (·.setStat pCLK (16 + domainNo .ckNav) false))
    unfold Dev.SameBut
    rw [hn]
    rfl

theorem clockRecovery_edge {s : State} (h : s.dev.clockLost 4 = true) :
    ∃ t, exec (.clockRecovery .ckEdge) s = .next t ∧ t.dev.clockLost 4 = false ∧ t.ldg = s.ldg ∧ t.rcd = s.rcd ∧ t.dev.tm = s.dev.tm := by
  refine ⟨_, execClockRecovery_edge (dom := .ckEdge) h rfl, ?_, rfl, rfl, ?_⟩
  · refine ((Dev.railUpdate_rdKept _).bit (by decide) 20).trans ?_
    exact Dev.clockLost_setStat_same s.dev (k := 4) (by decide)
  · exact (Dev.railUpdate_sameBut (blank := fun d => { d with drv := {} }) (fun _ _ => rfl) _).proj (·.tm) (fun _ => rfl)

theorem clockRecovery_idle {dom : Domain} {s : State} (h : s.dev.clockLost (domainNo dom) = true) (hedge : dom ≠ .ckEdge) (hnav : dom ≠ .ckNav) :
    ∃ t, exec (.clockRecovery dom) s = .next t ∧ t.dev.clockLost (domainNo dom) = false
        ∧ differOnly (fun d => { d with gps := {} }) s t ∧ regsKept [Reg.STATUS pCLK] s t :=
  ⟨_, execClockRecovery_idle h hedge hnav, Dev.clockLost_setStat_same _ (domainNo_lt dom), Dev.SameBut.onDev ((Dev.SameBut.refl _ _).setStat _ _ _),
    (Dev.RdKept.refl _ s.dev).setStat (by decide) _ _⟩

theorem clockLoss_marks {dom : Domain} {s : State} (h : s.dev.clockLost (domainNo dom) = false) (hdom : dom = .ckNet ∨ dom = .ckCan ∨ dom = .ckAon) :
    ∃ t, exec (.clockLoss dom) s = .next t ∧ t.dev.clockLost (domainNo dom) = true ∧ t.dev.bit (Reg.FAULT pCLK) (16 + domainNo dom) = true
        ∧ t.dev.rd Reg.CLK_CK_LOSS_CNT = sat32 (s.dev.rdN Reg.CLK_CK_LOSS_CNT + 1)
        ∧ differOnly (fun d => { d with rcf := {} }) s t
        ∧ regsKept [Reg.FAULT pCLK, Reg.IRQ_RAW pCLK, Reg.STATUS pCLK, Reg.CLK_CK_LOSS_CNT, Reg.REC_SUPP_TOTAL] s t := by
  obtain ⟨hlost, hfault, hcnt⟩ := Dev.clockMark_spec (s.dev.recFault pCLK (16 + domainNo dom)) (domainNo_lt dom)
  refine ⟨_, execClockLoss_marks h hdom, hlost, hfault, hcnt.trans ?_, Dev.SameBut.onDev ?_, ?_⟩
  · exact congrArg (fun v : W32 => sat32 (v.toNat + 1)) (Dev.rd_emit_ne _ _ (by decide))
  · exact ((Dev.SameBut.refl _ _).emit (fun _ _ => rfl) _).trans (Dev.clockMark_sameBut _ _ _)
  · exact ((Dev.RdKept.refl clockWords s.dev).emit (by decide) _).trans (Dev.clockMark_rdKept _ _)

/-- Settles O28. -/
theorem clockLossAndRecovery : Obligations.ClockLossAndRecovery := by
  unfold Obligations.ClockLossAndRecovery
  intro dom s
  refine ⟨clockLoss_marks, ?_, ?_, ?_, execClockLoss_again, clockRecovery_nav, clockRecovery_idle, clockRecovery_edge⟩
  · exact fun h => execClockLoss_nav (dom := .ckNav) h rfl
  · intro h hdom
    have hne : dom ≠ .ckSys ∧ dom ≠ .ckNav := by rcases hdom with rfl | rfl | rfl <;> decide
    exact execClockLoss_plain h hne.1 hne.2
  · exact fun h => execClockLoss_sys (dom := .ckSys) h rfl

end Sys2Proof.Machine
end

section
/-! PROOFS. The fields of a word: what a replaced field reads, bit by bit, and the fields of a register after it. -/

namespace Sys2Proof.Machine

/-- A replaced field, bit by bit: the value's bits inside the field, the word's own outside. -/
theorem bitOf_putField (w : W32) {hi : Nat} (lo v j : Nat) (hhi : hi < 32) :
    bitOf (putField w hi lo v) j = if lo ≤ j ∧ j ≤ hi then v.testBit (j - lo) else bitOf w j := by
  rw [bitOf_eq, bitOf_eq]
  unfold putField
  simp only [BitVec.getLsbD_or, BitVec.getLsbD_and, BitVec.getLsbD_not, BitVec.getLsbD_ofNat, Nat.testBit_shiftLeft, Nat.testBit_two_pow_sub_one,
    Nat.testBit_mod_two_pow]
  by_cases hj : j < 32
  · by_cases hin : lo ≤ j ∧ j ≤ hi
    · have hlt : j - lo < hi + 1 - lo := by omega
      simp [hj, hin, hlt]
    · have hout : ¬(lo ≤ j ∧ j - lo < hi + 1 - lo) := by omega
      have hz : (decide (lo ≤ j) && decide (j - lo < hi + 1 - lo)) = false := by simpa using hout
      rw [if_neg hin]
      simp only [hj, ← Bool.and_assoc, hz]
      simp
  · rw [if_neg (by omega)]
    simp [hj, BitVec.getLsbD_of_ge w j (by omega)]

theorem testBit_field (w : W32) (hi lo i : Nat) : (field w hi lo).testBit i = (decide (i < hi + 1 - lo) && bitOf w (lo + i)) := by
  unfold field bitOf
  rw [Nat.testBit_mod_two_pow, Nat.testBit_shiftRight]

theorem field_putField_same (w : W32) {hi : Nat} (lo v : Nat) (hhi : hi < 32) : field (putField w hi lo v) hi lo = v % 2 ^ (hi + 1 - lo) := by
  refine Nat.eq_of_testBit_eq fun i => ?_
  rw [testBit_field, bitOf_putField _ _ _ _ hhi, Nat.testBit_mod_two_pow]
  by_cases hi' : i < hi + 1 - lo
  · rw [if_pos (by omega), Nat.add_sub_cancel_left]
  · simp [hi']

/-- A field reads as before where another field or bit apart from it is replaced. -/
theorem field_putField_apart (w : W32) {hi lo h l : Nat} (v : Nat) (hhi : hi < 32) (hap : h < lo ∨ hi < l) :
    field (putField w hi lo v) h l = field w h l := by
  refine Nat.eq_of_testBit_eq fun i => ?_
  rw [testBit_field, testBit_field, bitOf_putField _ _ _ _ hhi]
  by_cases hi' : i < h + 1 - l
  · rw [if_neg (by omega)]
  · simp [hi']

theorem field_lt (w : W32) (hi lo : Nat) : field w hi lo < 2 ^ (hi + 1 - lo) := Nat.mod_lt _ (by positivity)

/-- A field determined bit by bit. -/
theorem field_congr {w v : W32} {hi lo : Nat} (h : ∀ j, lo ≤ j → j ≤ hi → bitOf w j = bitOf v j) : field w hi lo = field v hi lo := by
  refine Nat.eq_of_testBit_eq fun i => ?_
  rw [testBit_field, testBit_field]
  by_cases hi' : i < hi + 1 - lo
  · rw [h _ (by omega) (by omega)]
  · simp [hi']

theorem Dev.fld_setFld_same (d : Dev) (a : Nat) {hi : Nat} (lo v : Nat) (hhi : hi < 32) : (d.setFld a hi lo v).fld a hi lo = v % 2 ^ (hi + 1 - lo) :=
  (congrArg (field · hi lo) (Dev.rd_wr_same _ _ _)).trans (field_putField_same _ _ _ hhi)
theorem Dev.fld_setFld_apart (d : Dev) (a : Nat) {hi lo h l : Nat} (v : Nat) (hhi : hi < 32) (hap : h < lo ∨ hi < l) :
    (d.setFld a hi lo v).fld a h l = d.fld a h l :=
  (congrArg (field · h l) (Dev.rd_wr_same _ _ _)).trans (field_putField_apart _ _ hhi hap)
theorem Dev.rd_setFld_ne (d : Dev) {a b : Nat} (hi lo v : Nat) (h : b ≠ a) : (d.setFld a hi lo v).rd b = d.rd b := Dev.rd_wr_ne _ _ h
theorem Dev.fld_setBit_apart (d : Dev) (a : Nat) {b h l : Nat} (v : Bool) (hb : b < 32) (hap : h < b ∨ b < l) :
    (d.setBit a b v).fld a h l = d.fld a h l := Dev.fld_setFld_apart d a _ hb hap
theorem Dev.bit_setFld_apart (d : Dev) (a : Nat) {hi lo j : Nat} (v : Nat) (hhi : hi < 32) (hap : j < lo ∨ hi < j) :
    (d.setFld a hi lo v).bit a j = d.bit a j :=
  (congrArg (bitOf · j) (Dev.rd_wr_same _ _ _)).trans ((bitOf_putField _ _ _ _ hhi).trans (if_neg (by omega)))

/-- A bit that is set stays set where bits are only set. -/
theorem Dev.bit_setBit_true (d : Dev) {a b c i : Nat} (hi : i < 32) (hc : c < 32) (h : d.bit b c = true) : (d.setBit a i true).bit b c = true := by
  by_cases hab : b = a
  · subst hab
    rw [Dev.bit_setBit _ _ _ _ _ hi hc]
    split
    · rfl
    · exact h
  · rw [Dev.bit_setBit_ne _ _ _ _ hab, h]
theorem Dev.bit_irq_true (d : Dev) {p b c i : Nat} (hi : i < 32) (hc : c < 32) (h : d.bit b c = true) : (d.irq p i).bit b c = true :=
  d.bit_setBit_true hi hc h
theorem Dev.bit_fault_true (d : Dev) {p b c i : Nat} (hi : i < 32) (hc : c < 32) (h : d.bit b c = true) : (d.fault p i).bit b c = true := by
  unfold Dev.fault
  extract_lets rises e
  split
  · exact e.bit_irq_true (by decide) hc (d.bit_setBit_true hi hc h)
  · exact d.bit_setBit_true hi hc h

end Sys2Proof.Machine
end

section
/-! PROOFS. O24: local turns, and the release of a group (R67, R69 to R73), with what words that become active can change. -/

namespace Sys2Proof.Machine

/-! What committed words change beside the registers: the outputs, the loop engine, the inputs -/

def ForgetsLpe (blank : Dev → Dev) : Prop := ∀ (d : Dev) (x : LoopEngine), blank { d with lpe := x } = blank d
def ForgetsNet (blank : Dev → Dev) : Prop := ∀ (d : Dev) (x : Net), blank { d with net := x } = blank d

theorem Dev.SameBut.lpe {blank : Dev → Dev} {d e : Dev} (hb : ForgetsLpe blank) (h : Dev.SameBut blank d e) (x : LoopEngine) :
    Dev.SameBut blank d { e with lpe := x } := h.trans (hb { e with regs := [] } x)
theorem Dev.SameBut.net {blank : Dev → Dev} {d e : Dev} (hb : ForgetsNet blank) (h : Dev.SameBut blank d e) (x : Net) :
    Dev.SameBut blank d { e with net := x } := h.trans (hb { e with regs := [] } x)

section
variable {blank : Dev → Dev}

theorem Dev.cantxPublish_sameBut (hn : ForgetsNet blank) (d : Dev) (j : Nat) (u : W32) : Dev.SameBut blank d (d.cantxPublish j u) := by
  unfold Dev.cantxPublish
  extract_lets p i fr x now inPeriod
  split
  · exact .refl _ d
  · split
    · exact (Dev.SameBut.refl _ d).net hn _
    · split <;> exact (Dev.SameBut.refl _ d).net hn _

theorem Dev.publish_sameBut (hd : ForgetsDrv blank) (hn : ForgetsNet blank) (d : Dev) (l : Nat) (u : W32) : Dev.SameBut blank d (d.publish l u) := by
  unfold Dev.publish
  extract_lets e b
  have he : Dev.SameBut blank d e := (Dev.SameBut.refl _ d).wr _ _
  split
  · exact he.drv hd _
  · split
    · exact he.trans (Dev.cantxPublish_sameBut hn _ _ _)
    · exact he

theorem Dev.showLoop_sameBut (blank : Dev → Dev) (d : Dev) (l : Nat) : Dev.SameBut blank d (d.showLoop l) := by
  unfold Dev.showLoop
  exact ((((Dev.SameBut.refl blank d).wr _ _).setBit _ _ _).setBit _ _ _).setStat _ _ _

theorem Dev.loopOff_sameBut (hd : ForgetsDrv blank) (hl : ForgetsLpe blank) (hn : ForgetsNet blank) (d : Dev) (l : Nat) :
    Dev.SameBut blank d (d.loopOff l) := by
  unfold Dev.loopOff
  split
  · exact .refl _ d
  · exact ((((Dev.SameBut.refl _ d).lpe hl _).trans (Dev.publish_sameBut hd hn _ _ _))).trans (Dev.showLoop_sameBut _ _ _)

theorem Dev.showTrace_sameBut (blank : Dev → Dev) (d : Dev) (c : Nat) : Dev.SameBut blank d (d.showTrace c) := .refl _ d

theorem Dev.endTrace_sameBut (hl : ForgetsLpe blank) (d : Dev) (c : Nat) (b : Bool) : Dev.SameBut blank d (d.endTrace c b) :=
  (((Dev.SameBut.refl _ d).lpe hl _).irq _ _).trans (Dev.showTrace_sameBut _ _ _)

theorem Dev.periodChanged_sameBut (hl : ForgetsLpe blank) (d : Dev) (l : Nat) : Dev.SameBut blank d (d.periodChanged l) := by
  refine .foldl _ _ fun c _ e => ?_
  extract_lets t
  split
  · exact e.endTrace_sameBut hl c true
  · exact .refl _ e

theorem Dev.lpeCommitted_sameBut (hd : ForgetsDrv blank) (hl : ForgetsLpe blank) (hn : ForgetsNet blank) (d : Dev) (ws : List (Nat × W32)) :
    Dev.SameBut blank d (d.lpeCommitted ws) := by
  refine .foldl _ _ fun p _ e => ?_
  extract_lets a l o period f
  split
  · exact .refl _ e
  · split
    · split
      · exact .refl _ e
      · exact e.loopOff_sameBut hd hl hn _
    · have hf : Dev.SameBut blank e f := by
        subst f
        split
        · exact e.periodChanged_sameBut hl _
        · exact .refl _ e
      split
      · exact hf.lpe hl _
      · exact hf

theorem Dev.ainCommitted_sameBut (hn : ForgetsNet blank) (d : Dev) (ws : List (Nat × W32)) : Dev.SameBut blank d (d.ainCommitted ws) := by
  unfold Dev.ainCommitted
  split
  · exact .refl _ d
  · split
    · exact .refl _ d
    · exact (Dev.SameBut.refl _ d).net hn _

theorem Dev.finRestart_sameBut (hn : ForgetsNet blank) (d : Dev) (i : Nat) : Dev.SameBut blank d (d.finRestart i) := ((Dev.SameBut.refl _ d).net hn _).wr _ _

theorem Dev.putWords_sameBut (hd : ForgetsDrv blank) (hl : ForgetsLpe blank) (hn : ForgetsNet blank) (d : Dev) (ws : List (Nat × W32)) :
    Dev.SameBut blank d (d.putWords ws) := by
  unfold Dev.putWords Dev.committed
  extract_lets olds f quads g x
  have he : Dev.SameBut blank d (ws.foldl (fun d (p : Nat × W32) => d.wr p.1 p.2) d) :=
    .foldl ws d fun p _ y => (Dev.SameBut.refl blank y).wr p.1 p.2
  have hf : Dev.SameBut blank d f := he.trans (Dev.lpeCommitted_sameBut hd hl hn _ _)
  have hg : Dev.SameBut blank d g := hf.trans (.foldl _ _ fun i _ y => (y.finRestart_sameBut hn i).trans (Dev.finRestart_sameBut hn _ _))
  have hx : Dev.SameBut blank d x := hg.trans (Dev.ainCommitted_sameBut hn _ _)
  split
  · exact hx.trans (Dev.railUpdate_sameBut hd _)
  · exact hx

theorem Dev.groupShow_sameBut (blank : Dev → Dev) (d : Dev) : Dev.SameBut blank d d.groupShow := by
  unfold Dev.groupShow
  split <;> exact .refl _ d

end

/-! A crossing ends (R67) -/

/-- The outputs, the loop engine and the inputs taken out. -/
def forgetBlocks (d : Dev) : Dev := { d with drv := {}, lpe := {}, net := {} }

/-- A crossing that ends is gone, with every equal one, and leaves the pending copies and the time bases. -/
theorem Dev.cross1_sameBut (d : Dev) (x : Crossing) :
    Dev.SameBut forgetBlocks { d with cross := d.cross.filter (fun y => y ≠ x) } (d.cross1 x) := by
  unfold Dev.cross1
  extract_lets e f
  have he : Dev.SameBut forgetBlocks { d with cross := d.cross.filter (fun y => y ≠ x) } e :=
    Dev.putWords_sameBut (fun _ _ => rfl) (fun _ _ => rfl) (fun _ _ => rfl) _ _
  have hf : Dev.SameBut forgetBlocks { d with cross := d.cross.filter (fun y => y ≠ x) } f := by
    subst f
    split
    · exact he.irq _ _
    · exact he
  split
  · exact hf.trans (Dev.groupShow_sameBut _ _)
  · exact hf

theorem Dev.cross1_cross (d : Dev) (x : Crossing) : (d.cross1 x).cross = d.cross.filter (fun y => y ≠ x) :=
  (d.cross1_sameBut x).proj (·.cross) (fun _ => rfl)

theorem Dev.foldl_cross1_cross : ∀ (xs : List Crossing) (d : Dev), (xs.foldl (fun d x => d.cross1 x) d).cross = d.cross.filter (fun y => y ∉ xs)
  | [], d => by simp
  | x :: xs, d => by
    rw [List.foldl_cons, Dev.foldl_cross1_cross xs, Dev.cross1_cross, List.filter_filter]
    refine List.filter_congr fun y _ => ?_
    simp [not_or, Bool.and_comm]

/-- Every crossing into the domain, and no other, is gone. -/
theorem Dev.crossDomain_cross (d : Dev) (dom : Domain) : (d.crossDomain dom).cross = d.cross.filter (fun y => y.domain ≠ dom) := by
  refine (Dev.foldl_cross1_cross _ d).trans (List.filter_congr fun y hy => ?_)
  simp [List.mem_filter, hy]

/-- The blocks that committed words act on, and the list of crossings, taken out. -/
def forgetCross (d : Dev) : Dev := { d with drv := {}, lpe := {}, net := {}, cross := [] }

theorem Dev.crossDomain_sameBut (d : Dev) (dom : Domain) : Dev.SameBut forgetCross d (d.crossDomain dom) :=
  .foldl _ _ fun x _ e =>
    congrArg (fun y : Dev => ({ y with cross := [] } : Dev)) (show forgetBlocks _ = forgetBlocks _ from e.cross1_sameBut x)

/-! The tiles' swap (R5) -/

theorem Dev.queueEdge_sameBut {blank : Dev → Dev} (hd : ForgetsDrv blank) (d : Dev) (c : Nat) (e : Edge) : Dev.SameBut blank d (d.queueEdge c e) := by
  unfold Dev.queueEdge Dev.peak
  extract_lets f
  have hf : Dev.SameBut blank d f := (Dev.SameBut.refl _ d).drv hd _
  split
  · exact hf.wr _ _
  · exact hf

theorem Dev.swapEdges_sameBut {blank : Dev → Dev} (hd : ForgetsDrv blank) (d : Dev) (due : Edge → Bool) : Dev.SameBut blank d (d.swapEdges due) := by
  refine .foldl _ _ fun c _ e => ?_
  unfold Dev.swapChannel
  extract_lets es f
  have hf : Dev.SameBut blank e f := (Dev.SameBut.refl _ e).drv hd _
  split
  · exact .refl _ e
  · split
    · exact hf
    · exact hf.trans (.foldl _ _ fun x _ y => y.queueEdge_sameBut hd c x)

theorem execLocalTurn_eq {dom : Domain} {s : State} (h : dom ≠ .ckEdge) : exec (.localTurn dom) s = .next (onDev (·.crossDomain dom) s) :=
  congrArg Host.Outcome.next (onDev_congr (if_neg h))

theorem execLocalTurn_edge {dom : Domain} {s : State} (h : dom = .ckEdge) :
    exec (.localTurn dom) s = .next (onDev (fun d => (d.crossDomain dom).swapEdges (fun x => decide (x.t < (d.crossDomain dom).eds.winFrom))) s) :=
  congrArg Host.Outcome.next (onDev_congr (if_pos h))

theorem localTurn_completes (dom : Domain) (s : State) :
    ∃ t, exec (.localTurn dom) s = .next t ∧ t.dev.cross = s.dev.cross.filter (fun y => y.domain ≠ dom) ∧ t.ldg = s.ldg ∧ t.rcd = s.rcd
      ∧ t.dev.tm = s.dev.tm ∧ t.dev.pend = s.dev.pend := by
  have hsame := s.dev.crossDomain_sameBut dom
  by_cases hdom : dom = .ckEdge
  · have hswap := Dev.swapEdges_sameBut (blank := forgetBlocks) (fun _ _ => rfl) (s.dev.crossDomain dom)
      (fun x => decide (x.t < (s.dev.crossDomain dom).eds.winFrom))
    exact ⟨_, execLocalTurn_edge hdom, (hswap.proj (·.cross) (fun _ => rfl)).trans (Dev.crossDomain_cross _ _), rfl, rfl,
      (hswap.proj (·.tm) (fun _ => rfl)).trans (hsame.proj (·.tm) (fun _ => rfl)),
      (hswap.proj (·.pend) (fun _ => rfl)).trans (hsame.proj (·.pend) (fun _ => rfl))⟩
  · exact ⟨_, execLocalTurn_eq hdom, Dev.crossDomain_cross _ _, rfl, rfl, hsame.proj (·.tm) (fun _ => rfl), hsame.proj (·.pend) (fun _ => rfl)⟩

/-! One word of the NET page becomes active -/

/-- Words beside the loops' own act on no loop. -/
theorem Dev.lpeCommitted_beside (d : Dev) {ws : List (Nat × W32)} (h : ∀ p ∈ ws, p.1 < 0x01008000) : d.lpeCommitted ws = d := by
  refine List.foldlRecOn (motive := fun y => y = d) ws _ rfl fun y hy p hp => ?_
  rw [hy]
  exact if_pos (.inl (h p hp))

/-- Words beside AIN_CFG change nothing of the analog inputs. -/
theorem Dev.ainCommitted_beside (d : Dev) {ws : List (Nat × W32)} (h : ∀ p ∈ ws, p.1 / 0x1000 ≠ 0xA3) : d.ainCommitted ws = d := by
  have hnone : ∀ i < 48, ws.find? (fun p => decide (p.1 = Reg.AIN_AIN_CFG i)) = none := by
    intro i hi
    refine List.find?_eq_none.mpr fun p hp hc => h p hp ?_
    rw [of_decide_eq_true hc, Reg.AIN_AIN_CFG]
    omega
  unfold Dev.ainCommitted
  split
  · rfl
  · split
    · rfl
    · extract_lets moved
      have hmoved : moved = [] := by
        refine List.filterMap_eq_nil_iff.mpr fun i hi => ?_
        rw [hnone i (List.mem_range.mp hi)]
        rfl
      rw [hmoved]
      rfl

/-- A word of the NET page acts on no block when it becomes active. -/
theorem Dev.putWords_net (d : Dev) {a : Nat} (v : W32) (ha : a / 0x1000 = 0xA0) : d.putWords [(a, v)] = d.wr a v := by
  have hall : ∀ p ∈ ([(a, d.rd a)] : List (Nat × W32)), p.1 = a := by simp
  have hsome : ∀ (q : Nat × W32 → Bool), ∀ p ∈ ([(a, d.rd a)] : List (Nat × W32)).filter q, p.1 = a := fun q p hp => hall p (List.mem_filter.mp hp).1
  unfold Dev.putWords Dev.committed
  extract_lets olds f quads g x
  have hf : f = d.wr a v := Dev.lpeCommitted_beside _ fun p hp => by rw [hsome _ p hp]; omega
  have hquads : quads = [] := by
    refine List.filter_eq_nil_iff.mpr fun i hi => ?_
    have hlt : i < 96 := by
      obtain ⟨k, hk, rfl⟩ := List.mem_map.mp hi
      have := List.mem_range.mp hk
      omega
    have hne : a ≠ Reg.FIN_FIN_CFG i := by
      simp only [Reg.FIN_FIN_CFG]
      omega
    simp [olds, hne]
  have hg : g = d.wr a v := by
    subst g
    rw [hquads, hf]
    rfl
  have hx : x = d.wr a v := (Dev.ainCommitted_beside g fun p hp => by rw [hsome _ p hp]; omega).trans hg
  have hvb : olds.any (fun p => decide (p.1 / 0x1000 = pVB)) = false := by
    have hne : a / 0x1000 ≠ pVB := by rw [ha]; decide
    simp [olds, hne]
  rw [if_neg (by rw [hvb]; decide), hx]

theorem localTurn_net {x : Crossing} {a : Nat} {v : W32} {s : State} (hcross : s.dev.cross = [x]) (hdom : x.domain = .ckNet) (hpage : x.page = 0xA0)
    (hmain : x.main = true) (hgroup : x.group = false) (hwords : x.words = [(a, v)]) (ha : a / 0x1000 = 0xA0) (hne : a ≠ Reg.IRQ_RAW 0xA0) :
    ∃ t, exec (.localTurn .ckNet) s = .next t ∧ t.dev.rd a = v ∧ t.dev.bit (Reg.IRQ_RAW 0xA0) 0 = true ∧ regsKept [a, Reg.IRQ_RAW 0xA0] s t := by
  have hone : s.dev.crossDomain .ckNet = (({ s.dev with cross := [] } : Dev).wr a v).irq 0xA0 0 := by
    unfold Dev.crossDomain
    rw [hcross, List.filter_cons_of_pos (by simp [hdom])]
    change Dev.cross1 s.dev x = _
    unfold Dev.cross1
    rw [hgroup, hmain, hpage, hwords, Dev.putWords_net _ v ha, hcross, List.filter_cons_of_neg (by simp)]
    rfl
  refine ⟨_, (execLocalTurn_eq (by decide)).trans (congrArg Host.Outcome.next
    (onDev_congr (g := fun d => (({ d with cross := [] } : Dev).wr a v).irq 0xA0 0) hone)), ?_, Dev.bit_irq_same _ _ (by decide), ?_⟩
  · exact (Dev.rd_irq_ne _ _ _ hne).trans (Dev.rd_wr_same _ _ _)
  · exact (((Dev.RdKept.refl [a, Reg.IRQ_RAW 0xA0] s.dev).struct (e' := { s.dev with cross := [] }) rfl).wr (by simp) _).irq (by simp) _

/-! GLOBAL_GO and the turn after it (R70 to R73) -/

theorem execGlobalGo_accepted {req : Requester} {s : State} (h : Accepts req Reg.FRM_GLOBAL_GO 1#32 s) :
    exec (.globalGo req) s = .next (acceptedWrite req Reg.FRM_GLOBAL_GO (fun d => { d with frm := { d.frm with goPending := true } }) s) :=
  congrArg Host.Outcome.next (hostCmd_actDev _ h)

theorem Dev.gatherExpired_of_go {d : Dev} (h : d.frm.goPending = true) : d.gatherExpired = false := by
  simp [Dev.gatherExpired, h]

theorem Dev.commits_go {d : Dev} (h : d.frm.goPending = true) (k : Nat) : d.commits k = d.commitGroup k := by
  unfold Dev.commits
  rw [Dev.gatherExpired_of_go h]
  exact if_pos h

theorem Dev.commits_held {d : Dev} (hgo : d.frm.goPending = false) (hhold : d.bit Reg.FRM_GLOBAL_HOLD 0 = true)
    (hmax : d.frm.holdTurns < d.rdN Reg.FRM_GATHER_MAX) (k : Nat) :
    d.commits k = { d with frm := { d.frm with holdTurns := d.frm.holdTurns + 1 } } := by
  have hexp : d.gatherExpired = false := by simp [Dev.gatherExpired, hmax]
  unfold Dev.commits
  rw [hexp]
  exact (if_neg (by rw [show (if false = true then d.gatherEnds else d) = d from rfl, hgo]; decide)).trans (if_pos hhold)

/-- What the fold of a step that keeps a property and makes it for one member leaves. -/
theorem foldl_makes {α β : Type} {P : β → Prop} {f : β → α → β} {p : α} (hkeep : ∀ e x, P e → P (f e x)) (hmake : ∀ e, P (f e p)) :
    ∀ (xs : List α) (d : β), p ∈ xs → P (xs.foldl f d)
  | x :: xs, d, h => by
    rcases List.mem_cons.mp h with rfl | h
    · exact List.foldlRecOn (motive := P) xs f (hmake d) fun e he y _ => hkeep e y he
    · exact foldl_makes hkeep hmake xs (f d x) h

/-- A page's refusal stands: disarmed, REJECTED, FAULT.CFG. -/
def Dev.pageRefused (d : Dev) (p : Nat) : Prop := d.bit (Reg.TURN_ARM p) 0 = false ∧ d.stat p sREJECTED = true ∧ d.bit (Reg.FAULT p) fCFG = true

/-- The refusal of another page leaves that of this one, and so does its own. -/
theorem Dev.pageRefused_refusePage {d : Dev} {p : Nat} (q : Nat) (h : d.pageRefused p) : (d.refusePage q).pageRefused p := by
  by_cases hpq : p = q
  · subst hpq
    exact ⟨d.bit_refusePage_arm p, d.bit_refusePage_rejected p, d.bit_refusePage_cfg p⟩
  · obtain ⟨harm, hrej, hcfg⟩ := h
    refine ⟨(congrArg (bitOf · 0) (d.rd_refusePage_ne q ?_)).trans harm, (congrArg (bitOf · sREJECTED) (d.rd_refusePage_ne q ?_)).trans hrej,
      (congrArg (bitOf · fCFG) (d.rd_refusePage_ne q ?_)).trans hcfg⟩ <;>
    · simp only [Reg.TURN_ARM, Reg.STATUS, Reg.FAULT, Reg.IRQ_RAW, List.mem_cons, List.not_mem_nil, or_false]
      omega

/-- The pages of a group refused, before the frame page shows it. -/
def Dev.refusePages (d : Dev) (ps : List Nat) : Dev := ps.foldl (fun d p => d.refusePage p) d

theorem Dev.refusePages_spec (d : Dev) {ps : List Nat} {p : Nat} (hp : p ∈ ps) : (d.refusePages ps).pageRefused p :=
  foldl_makes (fun e q h => Dev.pageRefused_refusePage (d := e) q h)
    (fun e => ⟨e.bit_refusePage_arm p, e.bit_refusePage_rejected p, e.bit_refusePage_cfg p⟩) ps d hp

theorem Dev.refusePage_sameBut (blank : Dev → Dev) (d : Dev) (p : Nat) : Dev.SameBut blank d (d.refusePage p) :=
  ((((Dev.SameBut.refl blank d).wr _ _).setStat _ _ _).fault _ _).irq _ _

theorem Dev.refusePages_sameBut (blank : Dev → Dev) (d : Dev) (ps : List Nat) : Dev.SameBut blank d (d.refusePages ps) :=
  .foldl _ _ fun p _ e => e.refusePage_sameBut blank p

/-- Header words beside those four. -/
theorem Dev.rd_refusePages_ne (d : Dev) (ps : List Nat) {a : Nat} (ha : a % 0x1000 ∉ [0x30, 0x14, 0x18, 0x20]) : (d.refusePages ps).rd a = d.rd a := by
  refine List.foldlRecOn (motive := fun e : Dev => e.rd a = d.rd a) ps _ rfl fun e he p _ => (e.rd_refusePage_ne p ?_).trans he
  simp only [List.mem_cons, List.not_mem_nil, or_false] at ha
  simp only [Reg.TURN_ARM, Reg.STATUS, Reg.FAULT, Reg.IRQ_RAW, List.mem_cons, List.not_mem_nil, or_false]
  omega

/-- A group's refusal as the frame page shows it. -/
def Dev.groupRefused (d : Dev) (p : Nat) : Dev :=
  ((((d.setStat pFRM sREJECTED true).fault pFRM fCFG).irq pFRM 0).irq pFRM 16).recOther pFRM [w32 p]

theorem Dev.refuseGroup_eq (d : Dev) (ps : List Nat) (why : Nat × Nat) :
    d.refuseGroup ps why
      = (if why.2 ≠ 0 then (d.refusePages ps).setFld (Reg.STATUS pIMP) 27 24 why.2 else d.refusePages ps).groupRefused why.1 := rfl

/-- Header words of the frame page and the count of suppressed records are all that showing the refusal touches. -/
theorem Dev.rd_groupRefused_ne (d : Dev) (p : Nat) {a : Nat}
    (ha : a ∉ [Reg.STATUS pFRM, Reg.FAULT pFRM, Reg.IRQ_RAW pFRM, Reg.REC_SUPP_TOTAL]) : (d.groupRefused p).rd a = d.rd a := by
  simp only [List.mem_cons, List.not_mem_nil, or_false, not_or] at ha
  obtain ⟨hstat, hfault, hirq, hsupp⟩ := ha
  unfold Dev.groupRefused Dev.recOther
  rw [Dev.rd_emit_ne _ _ hsupp, Dev.rd_irq_ne _ _ _ hirq, Dev.rd_irq_ne _ _ _ hirq, Dev.rd_fault_ne _ _ _ hfault hirq]
  exact Dev.rd_setBit_ne _ _ _ hstat

theorem Dev.groupRefused_sameBut (d : Dev) (p : Nat) : Dev.SameBut (fun x => { x with rcf := {} }) d (d.groupRefused p) :=
  (((((Dev.SameBut.refl _ d).setStat _ _ _).fault _ _).irq _ _).irq _ _).emit (fun _ _ => rfl) _

/-- A bit that stands outside the count of suppressed records stands after the refusal is shown. -/
theorem Dev.bit_groupRefused_true (d : Dev) (p : Nat) {a b : Nat} (hb : b < 32) (ha : a ≠ Reg.REC_SUPP_TOTAL) (h : d.bit a b = true) :
    (d.groupRefused p).bit a b = true := by
  refine (congrArg (bitOf · b) (Dev.rd_emit_ne _ _ ha)).trans ?_
  exact Dev.bit_irq_true _ (by decide) hb (Dev.bit_irq_true _ (by decide) hb (Dev.bit_fault_true _ (by decide) hb
    (Dev.bit_setBit_true _ (by decide) hb h)))

theorem Dev.groupRefused_shows (d : Dev) (p : Nat) :
    (d.groupRefused p).bit (Reg.FAULT pFRM) fCFG = true ∧ (d.groupRefused p).bit (Reg.IRQ_RAW pFRM) 16 = true := by
  constructor
  · refine (congrArg (bitOf · fCFG) (Dev.rd_emit_ne _ _ (by decide))).trans ?_
    exact Dev.bit_irq_true _ (by decide) (by decide) (Dev.bit_irq_true _ (by decide) (by decide) (Dev.fault_spec _ _ _ (by decide)).1)
  · exact (congrArg (bitOf · 16) (Dev.rd_emit_ne _ _ (by decide))).trans (Dev.bit_irq_same _ _ (by decide))

theorem Dev.pageRefused_groupRefused {d : Dev} {p : Nat} (q : Nat) (h : d.pageRefused p) : (d.groupRefused q).pageRefused p := by
  obtain ⟨harm, hrej, hcfg⟩ := h
  refine ⟨(congrArg (bitOf · 0) (d.rd_groupRefused_ne q ?_)).trans harm, d.bit_groupRefused_true q (by decide) ?_ hrej,
    d.bit_groupRefused_true q (by decide) ?_ hcfg⟩
  · simp only [Reg.TURN_ARM, Reg.STATUS, Reg.FAULT, Reg.IRQ_RAW, Reg.REC_SUPP_TOTAL, List.mem_cons, List.not_mem_nil, or_false]
    omega
  · simp only [Reg.STATUS, Reg.REC_SUPP_TOTAL]
    omega
  · simp only [Reg.FAULT, Reg.REC_SUPP_TOTAL]
    omega

theorem Dev.pageRefused_cause {d : Dev} {p : Nat} (v : Nat) (h : d.pageRefused p) : (d.setFld (Reg.STATUS pIMP) 27 24 v).pageRefused p := by
  obtain ⟨harm, hrej, hcfg⟩ := h
  refine ⟨(congrArg (bitOf · 0) (Dev.rd_setFld_ne _ _ _ _ ?_)).trans harm, ?_, (congrArg (bitOf · fCFG) (Dev.rd_setFld_ne _ _ _ _ ?_)).trans hcfg⟩
  · simp only [Reg.TURN_ARM, Reg.STATUS]
    omega
  · by_cases hp : p = pIMP
    · rw [hp] at hrej ⊢
      exact (Dev.bit_setFld_apart _ _ _ (by decide) (by decide)).trans hrej
    · refine (congrArg (bitOf · sREJECTED) (Dev.rd_setFld_ne _ _ _ _ ?_)).trans hrej
      simp only [Reg.STATUS]
      omega
  · simp only [Reg.FAULT, Reg.STATUS]
    omega

/-- A refused group: each page refused, the frame page showing it, and nothing else than these header words changed. -/
theorem Dev.refuseGroup_spec (d : Dev) (ps : List Nat) (why : Nat × Nat) :
    (∀ p ∈ ps, (d.refuseGroup ps why).pageRefused p)
      ∧ (d.refuseGroup ps why).bit (Reg.FAULT pFRM) fCFG = true ∧ (d.refuseGroup ps why).bit (Reg.IRQ_RAW pFRM) 16 = true
      ∧ (∀ a, a % 0x1000 ∉ [0x30, 0x14, 0x18, 0x20] → a ≠ Reg.REC_SUPP_TOTAL → (d.refuseGroup ps why).rd a = d.rd a)
      ∧ Dev.SameBut (fun x => { x with rcf := {} }) d (d.refuseGroup ps why) := by
  rw [Dev.refuseGroup_eq]
  have hpages : ∀ e : Dev, e = (if why.2 ≠ 0 then (d.refusePages ps).setFld (Reg.STATUS pIMP) 27 24 why.2 else d.refusePages ps) →
      (∀ p ∈ ps, e.pageRefused p) ∧ (∀ a, a % 0x1000 ∉ [0x30, 0x14, 0x18, 0x20] → e.rd a = d.rd a)
        ∧ Dev.SameBut (fun x => { x with rcf := {} }) d e := by
    rintro e rfl
    split
    · refine ⟨fun p hp => Dev.pageRefused_cause _ (d.refusePages_spec hp), fun a ha => ?_, (d.refusePages_sameBut _ ps).setFld _ _ _ _⟩
      refine (Dev.rd_setFld_ne _ _ _ _ ?_).trans (d.rd_refusePages_ne ps ha)
      rintro rfl
      exact ha (by decide)
    · exact ⟨fun p hp => d.refusePages_spec hp, fun a ha => d.rd_refusePages_ne ps ha, d.refusePages_sameBut _ ps⟩
  obtain ⟨href, hrd, hsame⟩ := hpages _ rfl
  obtain ⟨hfault, hirq⟩ := Dev.groupRefused_shows
    (if why.2 ≠ 0 then (d.refusePages ps).setFld (Reg.STATUS pIMP) 27 24 why.2 else d.refusePages ps) why.1
  refine ⟨fun p hp => Dev.pageRefused_groupRefused _ (href p hp), hfault, hirq, fun a ha hs => ?_, hsame.trans (Dev.groupRefused_sameBut _ _)⟩
  refine (Dev.rd_groupRefused_ne _ _ ?_).trans (hrd a ha)
  simp only [List.mem_cons, List.not_mem_nil, or_false, not_or]
  exact ⟨by rintro rfl; exact ha (by decide), by rintro rfl; exact ha (by decide), by rintro rfl; exact ha (by decide), hs⟩

/-! The fit check of a group (R75) -/

theorem Dev.fitCheck_sameBut (blank : Dev → Dev) (d : Dev) (cs : List Commit) : Dev.SameBut blank d (d.fitCheck cs).1 :=
  (Dev.SameBut.foldl _ _ fun _ _ e => (Dev.SameBut.refl blank e).wr _ _).wr _ _

/-- FIT_STATUS and the five FIT_COST are all that the check writes. -/
theorem Dev.rd_fitCheck_ne (d : Dev) (cs : List Commit) {a : Nat} (ha : a < 0x2110 ∨ 0x2128 ≤ a) : (d.fitCheck cs).1.rd a = d.rd a := by
  refine (Dev.rd_wr_ne _ _ ?_).trans ?_
  · simp only [Reg.FRM_FIT_STATUS]
    omega
  · refine List.foldlRecOn (motive := fun e : Dev => e.rd a = d.rd a) _ _ rfl fun e he p hp => (Dev.rd_wr_ne _ _ ?_).trans he
    have hlen : p.2 < 5 := by simpa [Cand.costs] using List.snd_lt_of_mem_zipIdx hp
    simp only [Reg.FRM_FIT_COST]
    omega

/-- The part as the release of a group begins. -/
def Dev.released (d : Dev) : Dev := { d.wrN Reg.FRM_GLOBAL_HOLD 0 with frm := { d.frm with goPending := false, holdTurns := 0 } }

theorem Dev.rd_released_hold (d : Dev) : d.released.rd Reg.FRM_GLOBAL_HOLD = 0#32 :=
  Dev.rd_wr_same d Reg.FRM_GLOBAL_HOLD (w32 0)
theorem Dev.rd_released_ne (d : Dev) {a : Nat} (h : a ≠ Reg.FRM_GLOBAL_HOLD) : d.released.rd a = d.rd a :=
  Dev.rd_wr_ne d (w32 0) h

/-- The commits of the armed pages, judged together. -/
def Dev.groupFit (d : Dev) : Dev × Bool := d.fitCheck (d.armedPages.map d.commitOf)

theorem Dev.commitGroup_none {d : Dev} (k : Nat) (h : d.released.armedPages = []) : d.commitGroup k = d.released.irq pFRM 16 :=
  if_pos (by change d.released.armedPages.isEmpty = true; rw [h]; rfl)

theorem Dev.commitGroup_refused {d : Dev} (k : Nat) (h : d.released.armedPages ≠ []) {why : Nat × Nat}
    (hwhy : d.released.groupFit.1.groupRefuser (d.released.armedPages.map d.released.commitOf) d.released.groupFit.2 = some why) :
    d.commitGroup k = d.released.groupFit.1.refuseGroup d.released.armedPages why := by
  refine (if_neg (by change ¬ d.released.armedPages.isEmpty = true; simpa using h)).trans ?_
  change (match d.released.groupFit.1.groupRefuser (d.released.armedPages.map d.released.commitOf) d.released.groupFit.2 with
    | some why => d.released.groupFit.1.refuseGroup d.released.armedPages why
    | none => _) = _
  rw [hwhy]

theorem Dev.commitGroup_accepted {d : Dev} (k : Nat) (h : d.released.armedPages ≠ [])
    (hwhy : d.released.groupFit.1.groupRefuser (d.released.armedPages.map d.released.commitOf) d.released.groupFit.2 = none) :
    d.commitGroup k = ((d.released.armedPages.map d.released.commitOf).foldl
      (fun d c => d.acceptPage (if c.image.isSome then c else d.commitOf c.page) true k) d.released.groupFit.1).groupShow := by
  refine (if_neg (by change ¬ d.released.armedPages.isEmpty = true; simpa using h)).trans ?_
  change (match d.released.groupFit.1.groupRefuser (d.released.armedPages.map d.released.commitOf) d.released.groupFit.2 with
    | some why => d.released.groupFit.1.refuseGroup d.released.armedPages why
    | none => _) = _
  rw [hwhy]
  rfl

/-- A group that one page refuses (R71). -/
theorem Dev.commitGroup_refused_spec {d : Dev} (k : Nat) (h : d.released.armedPages ≠ []) {why : Nat × Nat}
    (hwhy : d.released.groupFit.1.groupRefuser (d.released.armedPages.map d.released.commitOf) d.released.groupFit.2 = some why) :
    (d.commitGroup k).rd Reg.FRM_GLOBAL_HOLD = 0#32 ∧ (d.commitGroup k).frm.goPending = false ∧ (d.commitGroup k).pend = d.pend
      ∧ (d.commitGroup k).cross = d.cross ∧ (d.commitGroup k).conf = d.conf
      ∧ (∀ p ∈ d.released.armedPages, (d.commitGroup k).bit (Reg.TURN_ARM p) 0 = false ∧ (d.commitGroup k).stat p sREJECTED = true
          ∧ (d.commitGroup k).bit (Reg.FAULT p) fCFG = true ∧ (d.commitGroup k).rd (Reg.TURN_SEQ p) = d.rd (Reg.TURN_SEQ p))
      ∧ (d.commitGroup k).bit (Reg.FAULT pFRM) fCFG = true ∧ (d.commitGroup k).bit (Reg.IRQ_RAW pFRM) 16 = true := by
  rw [Dev.commitGroup_refused k h hwhy]
  obtain ⟨hpages, hfault, hirq, hrd, hsame⟩ := d.released.groupFit.1.refuseGroup_spec d.released.armedPages why
  have hrec : Dev.SameBut (fun x => { x with rcf := {} }) d.released (d.released.groupFit.1.refuseGroup d.released.armedPages why) :=
    (Dev.fitCheck_sameBut _ _ _).trans hsame
  refine ⟨?_, hrec.proj (·.frm.goPending) (fun _ => rfl), hrec.proj (·.pend) (fun _ => rfl), hrec.proj (·.cross) (fun _ => rfl),
    hrec.proj (·.conf) (fun _ => rfl), fun p hp => ?_, hfault, hirq⟩
  · rw [hrd _ (by decide) (by decide)]
    exact (Dev.rd_fitCheck_ne _ _ (by decide)).trans d.rd_released_hold
  · obtain ⟨harm, hrej, hcfg⟩ := hpages p hp
    refine ⟨harm, hrej, hcfg, (hrd _ ?_ ?_).trans ((Dev.rd_fitCheck_ne _ _ ?_).trans (d.rd_released_ne ?_))⟩
    · simp only [Reg.TURN_SEQ, List.mem_cons, List.not_mem_nil, or_false]
      omega
    · simp only [Reg.TURN_SEQ, Reg.REC_SUPP_TOTAL]
      omega
    · simp only [Reg.TURN_SEQ]
      omega
    · simp only [Reg.TURN_SEQ, Reg.FRM_GLOBAL_HOLD]
      omega

/-- Settles O24. -/
theorem localTurnsAndGroups : Obligations.LocalTurnsAndGroups := by
  unfold Obligations.LocalTurnsAndGroups
  intro dom req x a k v why s
  refine ⟨localTurn_completes dom s, ?_, execLocalTurn_eq, execLocalTurn_edge rfl, execGlobalGo_accepted, fun hgo hhold hmax => Dev.commits_held hgo hhold hmax k, ?_⟩
  · intro hcross hx hdom hpage hmain hgroup hwords ha hne
    rw [hdom]
    exact localTurn_net hcross hx hpage hmain hgroup hwords ha hne
  · intro hgo
    rw [Dev.commits_go hgo]
    exact ⟨Dev.commitGroup_none (d := s.dev) k, fun h hwhy => Dev.commitGroup_refused_spec (d := s.dev) k h hwhy, Dev.commitGroup_accepted (d := s.dev) k⟩

end Sys2Proof.Machine
end

section
/-! PROOFS. What a host access leaves, in one form for all commands: the touch of the link, the action, the answer. -/

namespace Sys2Proof.Machine

def ForgetsFab (blank : Dev → Dev) : Prop := ∀ (d : Dev) (x : Fabric), blank { d with fab := x } = blank d
def ForgetsPow (blank : Dev → Dev) : Prop := ∀ (d : Dev) (x : Power), blank { d with pow := x } = blank d

/-- The state with another set of wake sources: what the touch of the link makes of it where the fabric answers (R452). -/
def State.woken (s : State) (k : Nat) : State := { s with dev := { s.dev with pow := { s.dev.pow with wake := k } } }

theorem State.woken_sameBut {blank : Dev → Dev} (hpow : ForgetsPow blank) (s : State) (k : Nat) : Dev.SameBut blank s.dev (s.woken k).dev :=
  hpow { s.dev with regs := [] } _

/-- An accepted write that acts on the part alone. -/
theorem hostCmd_dev {q : Requester} {a : Nat} {v : W32} {s : State} (h : Accepts q a v s) (f : Dev → Dev) :
    ∃ k, hostCmd q a v (actDev f) s = answeredOk q a (onDev f (s.woken k)) := by
  obtain ⟨k, hk⟩ := h.start
  exact ⟨k, (hostCmd_actDev f h).trans (congrArg (fun t => answeredOk q a (onDev f t)) hk)⟩

theorem acceptedWrite_dev {q : Requester} {a : Nat} {v : W32} {s : State} (h : Accepts q a v s) (f : Dev → Dev) :
    ∃ k, acceptedWrite q a f s = answeredOk q a (onDev f (s.woken k)) := by
  obtain ⟨k, hk⟩ := h.start
  exact ⟨k, congrArg (fun t => answeredOk q a (onDev f t)) hk⟩

/-- An accepted write whose own condition holds. -/
theorem hostCmd_taken {q : Requester} {a b : Nat} {v : W32} {s : State} (h : Accepts q a v s) {ok : Dev → Bool} (f : Dev → Dev)
    (hok : ∀ k, ok (s.woken k).dev = true) : ∃ k, hostCmd q a v (actIf b ok f) s = answeredOk q a (onDev f (s.woken k)) := by
  obtain ⟨k, hk⟩ := h.start
  exact ⟨k, (hostCmd_actIf f h (by rw [hk]; exact hok k)).trans (congrArg (fun t => answeredOk q a (onDev f t)) hk)⟩

/-- A write that its chapter refuses with LEN (R36). -/
def lenRefused (q : Requester) (a p : Nat) (s : State) : State := onDev (fun d => (d.lenReject p).respond q a .len 0 []) s

theorem hostCmd_len {q : Requester} {a b : Nat} {v : W32} {s : State} (h : Accepts q a v s) {ok : Dev → Bool} (f : Dev → Dev)
    (hok : ∀ k, ok (s.woken k).dev = false) : ∃ k, hostCmd q a v (actIf b ok f) s = lenRefused q a (targetPage b) (s.woken k) := by
  obtain ⟨k, hk⟩ := h.start
  refine ⟨k, ?_⟩
  have hact : actIf b ok f (s.woken k) = (.len, onDev (·.lenReject (targetPage b)) (s.woken k)) := if_neg (by rw [hok k]; decide)
  rw [hostCmd_accepted h, hk]
  change onDev (·.respond q a (actIf b ok f (s.woken k)).1 (if (actIf b ok f (s.woken k)).1 = .ok then 1 else 0) []) (actIf b ok f (s.woken k)).2 = _
  rw [hact]
  rfl

theorem answerTo_lenRefused (q : Requester) (a p : Nat) (s : State) : answerTo q (lenRefused q a p s) = ⟨.len, 0, []⟩ :=
  answerTo_respond (onDev (·.lenReject p) s) q a .len 0 []

theorem Dev.lenReject_regs (d : Dev) (p : Nat) : ∃ rs, d.lenReject p = { d with regs := rs } := by
  obtain ⟨rs, h⟩ := Dev.fault_regs (d.incSat (Reg.LEN_REJ p)) p fLEN
  exact ⟨rs, h⟩

/-- A refusal leaves the whole part but register words and the answer. -/
theorem lenRefused_dev (q : Requester) (a p : Nat) (s : State) : ∃ rs f, (lenRefused q a p s).dev = { s.dev with regs := rs, fab := f } := by
  obtain ⟨rs, h⟩ := s.dev.lenReject_regs p
  obtain ⟨rs', f, h'⟩ := Dev.respond_regs_fab (s.dev.lenReject p) q a .len 0 []
  refine ⟨rs', f, h'.trans ?_⟩
  rw [h]

/-- The register words that a refusal touches. -/
def lenWords (p : Nat) : List Nat := [Reg.LEN_REJ p, Reg.FAULT p, Reg.IRQ_RAW p, Reg.HOST_LAST_ERR, Reg.HOST_LAST_ERR_ADDR]

theorem lenRefused_regsKept (q : Requester) (a p k : Nat) (s : State) : regsKept (lenWords p) s (lenRefused q a p (s.woken k)) := by
  intro b hb
  simp only [lenWords, List.mem_cons, List.not_mem_nil, or_false, not_or] at hb
  obtain ⟨hlen, hfault, hirq, herr, haddr⟩ := hb
  exact (Dev.rd_respond_ne _ _ _ _ _ _ herr haddr).trans (Dev.rd_lenReject_ne _ _ hfault hirq hlen)

theorem lenRefused_differOnly {blank : Dev → Dev} (hfab : ForgetsFab blank) (hpow : ForgetsPow blank) (q : Requester) (a p k : Nat) (s : State) :
    differOnly blank s (lenRefused q a p (s.woken k)) := by
  obtain ⟨rs, f, h⟩ := lenRefused_dev q a p (s.woken k)
  refine Dev.SameBut.differOnly ((s.woken_sameBut hpow k).trans ?_) rfl rfl rfl
  unfold Dev.SameBut
  rw [h]
  exact hfab { (s.woken k).dev with regs := [] } f

/-- What an accepted write leaves, over what its action leaves. -/
theorem answeredOk_differOnly {blank : Dev → Dev} (hfab : ForgetsFab blank) (hpow : ForgetsPow blank) (q : Requester) (a k : Nat) {s : State} {f : Dev → Dev}
    (h : ∀ d, Dev.SameBut blank d (f d)) : differOnly blank s (answeredOk q a (onDev f (s.woken k))) :=
  Dev.SameBut.differOnly (((s.woken_sameBut hpow k).trans (h _)).trans (hfab { (onDev f (s.woken k)).dev with regs := [] } _)) rfl rfl rfl

theorem answeredOk_regsKept {l : List Nat} (q : Requester) (a k : Nat) {s : State} {f : Dev → Dev} (h : ∀ d, Dev.RdKept l d (f d)) :
    regsKept l s (answeredOk q a (onDev f (s.woken k))) := h (s.woken k).dev

/-! Reads of ports -/

/-- A port read: the words that `f` gives, with SHORT where they are fewer than asked for. -/
def portRead (q : Requester) (a n : Nat) (r : List W32 × Dev) (s : State) : State :=
  { s with dev := (r.2.shortRead a n r.1.length).respond q a .ok r.1.length r.1 }

theorem hostPort_dev {q : Requester} {a n : Nat} {s : State} (h : Readable q a s) (f : Nat → Dev → List W32 × Dev) :
    ∃ k, hostPort q a n (portDev f) s = portRead q a n (f n (s.woken k).dev) (s.woken k) := by
  obtain ⟨k, hk⟩ := Readable.start h
  refine ⟨k, (hostPort_readable _ h).trans ?_⟩
  rw [hk]
  rfl

theorem answerTo_portRead (q : Requester) (a n : Nat) (r : List W32 × Dev) (s : State) : answerTo q (portRead q a n r s) = ⟨.ok, r.1.length, r.1⟩ :=
  answerTo_respond { s with dev := r.2.shortRead a n r.1.length } q a .ok r.1.length r.1

theorem Dev.shortRead_regs (d : Dev) (a n got : Nat) : ∃ rs, d.shortRead a n got = { d with regs := rs } := by
  unfold Dev.shortRead
  split <;> exact ⟨_, rfl⟩

theorem Dev.shortRead_rdKept {l : List Nat} {a : Nat} (h : Reg.STATUS (targetPage a) ∈ l) (d : Dev) (n got : Nat) :
    Dev.RdKept l d (d.shortRead a n got) := by
  unfold Dev.shortRead
  split
  · exact (Dev.RdKept.refl l d).setStat h _ _
  · exact .refl l d

theorem portRead_dev (q : Requester) (a n : Nat) (r : List W32 × Dev) (s : State) : ∃ rs f, (portRead q a n r s).dev = { r.2 with regs := rs, fab := f } := by
  obtain ⟨rs, h⟩ := r.2.shortRead_regs a n r.1.length
  obtain ⟨rs', f, h'⟩ := Dev.respond_regs_fab (r.2.shortRead a n r.1.length) q a .ok r.1.length r.1
  refine ⟨rs', f, h'.trans ?_⟩
  rw [h]

theorem portRead_regsKept {l : List Nat} {a : Nat} (h : Reg.STATUS (targetPage a) ∈ l) (q : Requester) (n k : Nat) {r : List W32 × Dev} {s : State}
    (hr : Dev.RdKept l s.dev r.2) : regsKept l s (portRead q a n r (s.woken k)) := hr.trans (Dev.shortRead_rdKept h _ _ _)

theorem portRead_differOnly {blank : Dev → Dev} (hfab : ForgetsFab blank) (q : Requester) (a n k : Nat) {r : List W32 × Dev} {s : State}
    (hr : Dev.SameBut blank s.dev r.2) : differOnly blank s (portRead q a n r (s.woken k)) := by
  obtain ⟨rs, f, h⟩ := portRead_dev q a n r (s.woken k)
  refine Dev.SameBut.differOnly (hr.trans ?_) rfl rfl rfl
  unfold Dev.SameBut
  rw [h]
  exact hfab { r.2 with regs := [] } f

end Sys2Proof.Machine
end

section
/-! PROOFS. O30: the host's pose samples (R119, R120). -/

namespace Sys2Proof.Machine

/-- What a host's sample comes with. -/
def Dev.pinInfo (d : Dev) (tbase : Bool) : SampleInfo := ⟨0, tbase && d.tbgState = tbgNone, d.fld Reg.POSE_PIN_QUAL 3 0, false⟩

/-- The sample of the PIN words, submitted. -/
def Dev.pinCommit (d : Dev) (tbase : Bool) : Dev := d.submit (d.pinSample tbase) (d.pinInfo tbase)

theorem poseSample_dev {req : Requester} {tbase : Bool} {s : State} (h : Accepts req Reg.POSE_PIN_COMMIT (if tbase then 1#32 else 0#32) s) :
    ∃ k, exec (.poseSample req tbase) s = .next (answeredOk req Reg.POSE_PIN_COMMIT (onDev (·.pinCommit tbase) (s.woken k))) := by
  obtain ⟨k, hk⟩ := hostCmd_dev h (·.pinCommit tbase)
  exact ⟨k, congrArg Host.Outcome.next hk⟩

theorem sampleCode_lt (d : Dev) (x : Sample) (i : SampleInfo) : d.sampleCode x i < 10 := by
  unfold Dev.sampleCode
  dsimp only
  split_ifs <;> decide

/-- A refusal with what LAST_REFUSE shows of it. -/
def Dev.sampleRefused (d : Dev) (shown : Nat) : Dev := ((d.inc Reg.POSE_POSE_REF_CNT).wrN Reg.POSE_LAST_REFUSE shown).irq pPOSE 17

theorem Dev.sampleRefused_rdKept (d : Dev) (shown : Nat) :
    Dev.RdKept [Reg.POSE_POSE_REF_CNT, Reg.POSE_LAST_REFUSE, Reg.IRQ_RAW pPOSE] d (d.sampleRefused shown) :=
  (((Dev.RdKept.refl _ d).wr (by decide) _).wr (by decide) _).irq (by decide) _

theorem Dev.submit_refused {d : Dev} {x : Sample} {i : SampleInfo} (h : d.sampleCode x i ≠ 0) :
    d.submit x i = d.sampleRefused (i.src * 2 ^ 8 + d.sampleCode x i) := if_neg h

/-- A sample that no test refuses is the newest. -/
theorem Dev.submit_taken {d : Dev} {x : Sample} {i : SampleInfo} (h : d.sampleCode x i = 0) :
    ∃ y : PoseEngine, d.submit x i = ({ d with pose := y }).inc Reg.POSE_POSE_ACC_CNT ∧ y.newest = some x ∧ y.before = d.pose.newest ∧ y.fresh = true :=
  ⟨_, if_pos h, rfl, rfl, rfl⟩

/-- Settles O30. -/
theorem poseSamples : Obligations.PoseSamples := by
  unfold Obligations.PoseSamples
  intro req tbase s hacc code
  obtain ⟨k, hk⟩ := poseSample_dev hacc
  have hcode : (s.woken k).dev.sampleCode ((s.woken k).dev.pinSample tbase) ((s.woken k).dev.pinInfo tbase) = code := rfl
  refine ⟨fun h0 => ?_, fun hne => ?_⟩
  · obtain ⟨y, hy, hnew, hbefore, hfresh⟩ := Dev.submit_taken (hcode.trans h0)
    have hpin : onDev (·.pinCommit tbase) (s.woken k) = onDev (fun d => ({ d with pose := y }).inc Reg.POSE_POSE_ACC_CNT) (s.woken k) := onDev_congr hy
    rw [hpin] at hk
    refine ⟨_, hk, answerTo_answeredOk _ _ _, hnew, hbefore, hfresh, Dev.rd_wr_same _ _ _, ?_, ?_⟩
    · exact answeredOk_differOnly (fun _ _ => rfl) (fun _ _ => rfl) _ _ _ fun d => rfl
    · exact answeredOk_regsKept _ _ _ fun d => ((Dev.RdKept.refl _ d).struct (e' := { d with pose := y }) rfl).wr (by decide) _
  · have hpin : onDev (·.pinCommit tbase) (s.woken k)
        = onDev (·.sampleRefused code) (s.woken k) :=
      onDev_congr ((Dev.submit_refused (by rw [hcode]; exact hne)).trans (congrArg _ (by rw [hcode]; simp [Dev.pinInfo])))
    rw [hpin] at hk
    refine ⟨_, hk, answerTo_answeredOk _ _ _, ?_, ?_, Dev.bit_irq_same _ _ (by decide), ?_, ?_⟩
    · exact (Dev.rd_irq_ne _ _ _ (by decide)).trans ((Dev.rd_wr_ne _ _ (by decide)).trans (Dev.rd_wr_same _ _ _))
    · have hlt : code < 10 := sampleCode_lt _ _ _
      refine (congrArg BitVec.toNat ((Dev.rd_irq_ne _ _ _ (by decide)).trans (Dev.rd_wr_same _ _ _))).trans ?_
      simp only [w32, BitVec.toNat_ofNat]
      omega
    · exact answeredOk_differOnly (fun _ _ => rfl) (fun _ _ => rfl) _ _ _ fun d => rfl
    · exact answeredOk_regsKept _ _ _ fun d => d.sampleRefused_rdKept code

end Sys2Proof.Machine
end

section
/-! PROOFS. O49: the commands of the soundings (R393 to R396). -/

namespace Sys2Proof.Machine

/-! Folds over the members of a mask -/

/-- A view that a step changes by `g` at its own member and leaves at every other is changed by `g` exactly where the member is in the list. -/
theorem foldl_at {α β γ : Type} {f : β → α → β} {view : β → γ} {g : γ → γ} {c : α} (hsame : ∀ e, view (f e c) = g (view e))
    (hne : ∀ e x, x ≠ c → view (f e x) = view e) : ∀ (xs : List α), xs.Nodup → ∀ d : β,
    (c ∈ xs → view (xs.foldl f d) = g (view d)) ∧ (c ∉ xs → view (xs.foldl f d) = view d)
  | [], _, d => ⟨by simp, fun _ => rfl⟩
  | x :: xs, hnd, d => by
    obtain ⟨hx, hnd⟩ := List.nodup_cons.mp hnd
    obtain ⟨hin, hout⟩ := foldl_at hsame hne xs hnd (f d x)
    refine ⟨fun h => ?_, fun h => ?_⟩
    · by_cases hxc : x = c
      · subst hxc
        exact (hout hx).trans (hsame d)
      · have hc : c ∈ xs := (List.mem_cons.mp h).resolve_left (Ne.symm hxc)
        exact (hin hc).trans (congrArg g (hne d x hxc))
    · obtain ⟨hxc, hc⟩ := not_or.mp (mt List.mem_cons.mpr h)
      exact (hout hc).trans (hne d x (Ne.symm hxc))

/-- What a step makes at its member holds after the fold, where what it starts from stays and no step undoes it. -/
theorem foldl_makes_from {α β : Type} {P Q : β → Prop} {f : β → α → β} {p : α} (hfrom : ∀ e x, Q e → Q (f e x))
    (hkeep : ∀ e x, Q e → P e → P (f e x)) (hmake : ∀ e, Q e → P (f e p)) : ∀ (xs : List α) (d : β), Q d → p ∈ xs → P (xs.foldl f d)
  | x :: xs, d, hd, hp => by
    rcases List.mem_cons.mp hp with rfl | hp
    · exact (List.foldlRecOn (motive := fun e => Q e ∧ P e) xs f ⟨hfrom d _ hd, hmake d hd⟩
        fun e he y _ => ⟨hfrom e y he.1, hkeep e y he.1 he.2⟩).2
    · exact foldl_makes_from hfrom hkeep hmake xs (f d x) (hfrom d x hd) hp

theorem mem_maskTraces {mask c : Nat} : c ∈ maskTraces mask ↔ c < 16 ∧ mask.testBit c = true := by
  simp [maskTraces]

theorem maskTraces_nodup (mask : Nat) : (maskTraces mask).Nodup := List.nodup_range.filter _

/-! The word of SND_CMD -/

theorem field_sndWord (mask : Nat) : ∀ op < 4, field (sndWord op mask) 17 16 = op := by
  intro op hop
  have hlt : mask % 2 ^ 16 < 2 ^ 16 := Nat.mod_lt _ (by decide)
  simp only [field, sndWord, w32, BitVec.toNat_ofNat, Nat.shiftRight_eq_div_pow]
  omega

theorem field_sndWord_mask (mask : Nat) : ∀ op < 4, field (sndWord op mask) 15 0 = mask % 2 ^ 16 := by
  intro op hop
  have hlt : mask % 2 ^ 16 < 2 ^ 16 := Nat.mod_lt _ (by decide)
  simp only [field, sndWord, w32, BitVec.toNat_ofNat, Nat.shiftRight_eq_div_pow]
  omega

theorem maskTraces_mod (mask : Nat) : maskTraces (mask % 2 ^ 16) = maskTraces mask := by
  refine List.filter_congr fun c hc => ?_
  have hlt : c < 16 := List.mem_range.mp hc
  rw [Nat.testBit_mod_two_pow]
  simp [hlt]

/-- ARM with PACK and a pre-trigger on one trace of the mask (R395). -/
def Dev.packsEarly (d : Dev) (mask : Nat) : Bool :=
  (List.range 16).any (fun c => mask.testBit c && d.bit (Reg.SND_SND_SRC c) 24 && d.fld (Reg.SND_SND_TRIG c) 29 16 ≠ 0)

def Dev.armTraces (d : Dev) (mask : Nat) : Dev := (maskTraces mask).foldl Dev.armTrace d
def Dev.forceTraces (d : Dev) (mask : Nat) : Dev := (maskTraces mask).foldl (fun d c => if (d.trace c).state = 1 then d.trigger c else d) d
def Dev.stopTraces (d : Dev) (mask : Nat) : Dev :=
  (maskTraces mask).foldl (fun d c => if (d.trace c).state = 1 ∨ (d.trace c).state = 2 then d.endTrace c false else d) d

theorem actSndCmd_arm (mask : Nat) :
    actSndCmd (sndWord 1 mask) = actIf Reg.SND_SND_CMD (fun d => !d.packsEarly mask) (·.armTraces mask) := by
  funext s
  have hany : (maskTraces mask).any (fun c => s.dev.bit (Reg.SND_SND_SRC c) 24 && s.dev.fld (Reg.SND_SND_TRIG c) 29 16 ≠ 0) = s.dev.packsEarly mask := by
    simp [maskTraces, Dev.packsEarly, List.any_filter, Bool.and_assoc]
  unfold actSndCmd
  rw [field_sndWord mask 1 (by decide), field_sndWord_mask mask 1 (by decide), maskTraces_mod]
  simp only [hany]
  change _ = if (!s.dev.packsEarly mask) = true then _ else _
  cases s.dev.packsEarly mask <;> rfl

theorem actSndCmd_force (mask : Nat) : actSndCmd (sndWord 2 mask) = actDev (·.forceTraces mask) := by
  funext s
  unfold actSndCmd
  rw [field_sndWord mask 2 (by decide), field_sndWord_mask mask 2 (by decide), maskTraces_mod]
  rfl

theorem actSndCmd_stop (mask : Nat) : actSndCmd (sndWord 3 mask) = actDev (·.stopTraces mask) := by
  funext s
  unfold actSndCmd
  rw [field_sndWord mask 3 (by decide), field_sndWord_mask mask 3 (by decide), maskTraces_mod]
  rfl

/-! What showing a trace writes (R396) -/

/-- The register words that one trace shows. -/
def traceWords (c : Nat) : List Nat := [Reg.SND_SND_STAT c, Reg.SND_SND_T0 c, Reg.SND_SND_T0 c + 4, Reg.SND_SND_TRIG_IDX c]

theorem Dev.rd_showTrace_ne (d : Dev) (c : Nat) {a : Nat} (ha : a ∉ traceWords c) : (d.showTrace c).rd a = d.rd a := by
  simp only [traceWords, List.mem_cons, List.not_mem_nil, or_false, not_or] at ha
  obtain ⟨hstat, hlo, hhi, hidx⟩ := ha
  exact (Dev.rd_wr_ne _ _ hidx).trans ((Dev.rd_wr64_ne _ _ hlo hhi).trans (Dev.rd_wr_ne _ _ hstat))

@[simp] theorem Dev.showTrace_lpe (d : Dev) (c : Nat) : (d.showTrace c).lpe = d.lpe := rfl

theorem Dev.rd_showTrace_stat (d : Dev) (c : Nat) : (d.showTrace c).rd (Reg.SND_SND_STAT c)
    = w32 ((d.trace c).state + (if (d.trace c).sat then 8 else 0) + (if (d.trace c).period then 16 else 0) + (d.trace c).samples.length * 2 ^ 16) := by
  refine (Dev.rd_wr_ne _ _ ?_).trans ((Dev.rd_wr64_ne _ _ ?_ ?_).trans (Dev.rd_wr_same _ _ _)) <;>
  · simp only [Reg.SND_SND_STAT, Reg.SND_SND_T0, Reg.SND_SND_TRIG_IDX]
    omega

/-- The words that one trace shows are not those of another, nor the configuration of any. -/
theorem traceWords_apart {c j : Nat} (h : c ≠ j) :
    Reg.SND_SND_STAT j ∉ traceWords c := by
  simp only [traceWords, Reg.SND_SND_STAT, Reg.SND_SND_T0, Reg.SND_SND_TRIG_IDX, List.mem_cons, List.not_mem_nil, or_false]
  omega

theorem configWords_apart (c j : Nat) :
    Reg.SND_SND_SRC j ∉ traceWords c ∧ Reg.SND_SND_TRIG j ∉ traceWords c ∧ Reg.SND_SND_LEVEL j ∉ traceWords c := by
  simp only [traceWords, Reg.SND_SND_SRC, Reg.SND_SND_TRIG, Reg.SND_SND_LEVEL, Reg.SND_SND_STAT, Reg.SND_SND_T0, Reg.SND_SND_TRIG_IDX,
    List.mem_cons, List.not_mem_nil, or_false]
  omega

/-! One trace of a mask -/

theorem Dev.trace_showTrace (d : Dev) (c j : Nat) : (d.showTrace c).trace j = d.trace j := rfl

theorem Dev.trigger_trace (d : Dev) (c j : Nat) : (d.trigger c).trace j
    = if j = c then { d.trace c with state := 2, trigIdx := (d.trace c).samples.length } else d.trace j := by
  split
  next h =>
    subst h
    exact Dev.trace_modTrace_same d j fun t => { t with state := 2, trigIdx := t.samples.length }
  next h => exact Dev.trace_modTrace_ne d (fun t => { t with state := 2, trigIdx := t.samples.length }) h

theorem Dev.endTrace_trace (d : Dev) (c j : Nat) (b : Bool) : (d.endTrace c b).trace j
    = if j = c then { d.trace c with state := 3, period := b } else d.trace j := by
  split
  next h =>
    subst h
    exact Dev.trace_modTrace_same d j fun t => { t with state := 3, period := b }
  next h => exact Dev.trace_modTrace_ne d (fun t => { t with state := 3, period := b }) h

/-- What the commands of the soundings leave out: the traces. -/
def forgetTraces (d : Dev) : Dev := { d with lpe := { d.lpe with trace := [] } }

theorem Dev.modTrace_sameBut (d : Dev) (c : Nat) (f : Trace → Trace) : Dev.SameBut forgetTraces d (d.modTrace c f) := rfl

theorem Dev.trigger_sameBut (d : Dev) (c : Nat) : Dev.SameBut forgetTraces d (d.trigger c) :=
  (d.modTrace_sameBut c _).trans (Dev.showTrace_sameBut _ _ _)

theorem Dev.stopTrace_sameBut (d : Dev) (c : Nat) (b : Bool) : Dev.SameBut forgetTraces d (d.endTrace c b) :=
  ((d.modTrace_sameBut c _).irq _ _).trans (Dev.showTrace_sameBut _ _ _)

/-! FORCE and STOP -/

theorem Dev.forceTraces_trace (d : Dev) {c : Nat} (hc : c < 16) (mask : Nat) : (d.forceTraces mask).trace c
    = if mask.testBit c = true ∧ (d.trace c).state = 1 then { d.trace c with state := 2, trigIdx := (d.trace c).samples.length } else d.trace c := by
  have hstep := foldl_at (view := fun e : Dev => e.trace c) (c := c)
    (f := fun (e : Dev) c => if (e.trace c).state = 1 then e.trigger c else e)
    (g := fun t => if t.state = 1 then { t with state := 2, trigIdx := t.samples.length } else t)
    (fun e => by
      split
      · exact (e.trigger_trace c c).trans (if_pos rfl)
      · rfl)
    (fun e x hx => by
      split
      · exact (e.trigger_trace x c).trans (if_neg hx.symm)
      · rfl)
    (maskTraces mask) (maskTraces_nodup mask) d
  by_cases hm : mask.testBit c = true
  · refine (hstep.1 (mem_maskTraces.mpr ⟨hc, hm⟩)).trans ?_
    simp [hm]
  · refine (hstep.2 fun h => hm (mem_maskTraces.mp h).2).trans ?_
    simp [hm]

theorem Dev.forceTraces_sameBut (d : Dev) (mask : Nat) : Dev.SameBut forgetTraces d (d.forceTraces mask) := by
  refine .foldl _ _ fun c _ e => ?_
  split
  · exact e.trigger_sameBut c
  · exact .refl _ e

theorem Dev.stopTraces_trace (d : Dev) {c : Nat} (hc : c < 16) (mask : Nat) : (d.stopTraces mask).trace c
    = if mask.testBit c = true ∧ ((d.trace c).state = 1 ∨ (d.trace c).state = 2) then { d.trace c with state := 3, period := false } else d.trace c := by
  have hstep := foldl_at (view := fun e : Dev => e.trace c) (c := c)
    (f := fun (e : Dev) c => if (e.trace c).state = 1 ∨ (e.trace c).state = 2 then e.endTrace c false else e)
    (g := fun t => if t.state = 1 ∨ t.state = 2 then { t with state := 3, period := false } else t)
    (fun e => by
      split
      · exact (e.endTrace_trace c c false).trans (if_pos rfl)
      · rfl)
    (fun e x hx => by
      split
      · exact (e.endTrace_trace x c false).trans (if_neg hx.symm)
      · rfl)
    (maskTraces mask) (maskTraces_nodup mask) d
  by_cases hm : mask.testBit c = true
  · refine (hstep.1 (mem_maskTraces.mpr ⟨hc, hm⟩)).trans ?_
    simp [hm]
  · refine (hstep.2 fun h => hm (mem_maskTraces.mp h).2).trans ?_
    simp [hm]

theorem Dev.stopTraces_sameBut (d : Dev) (mask : Nat) : Dev.SameBut forgetTraces d (d.stopTraces mask) := by
  refine .foldl _ _ fun c _ e => ?_
  split
  · exact e.stopTrace_sameBut c false
  · exact .refl _ e

theorem Dev.endTrace_irq (d : Dev) (c : Nat) (b : Bool) : (d.endTrace c b).bit (Reg.IRQ_RAW pSND) 16 = true := by
  refine (congrArg (bitOf · 16) (Dev.rd_showTrace_ne _ _ ?_)).trans (Dev.bit_irq_same _ _ (by decide))
  simp only [traceWords, Reg.SND_SND_STAT, Reg.SND_SND_T0, Reg.SND_SND_TRIG_IDX, Reg.IRQ_RAW, pSND, List.mem_cons, List.not_mem_nil, or_false]
  omega

/-- A stopped trace raises the interrupt, and no other trace takes it away. -/
theorem Dev.stopTraces_irq (d : Dev) {c mask : Nat} (hc : c < 16) (hm : mask.testBit c = true) (hrun : (d.trace c).state = 1 ∨ (d.trace c).state = 2) :
    (d.stopTraces mask).bit (Reg.IRQ_RAW pSND) 16 = true := by
  refine foldl_makes_from (p := c) (P := fun e : Dev => e.bit (Reg.IRQ_RAW pSND) 16 = true)
    (Q := fun e : Dev => ((e.trace c).state = 1 ∨ (e.trace c).state = 2) ∨ e.bit (Reg.IRQ_RAW pSND) 16 = true)
    (fun e x h => ?_) (fun e x _ h => ?_) (fun e h => ?_) (maskTraces mask) d (.inl hrun) (mem_maskTraces.mpr ⟨hc, hm⟩)
  · split
    · exact .inr (e.endTrace_irq x false)
    · exact h
  · split
    · exact e.endTrace_irq x false
    · exact h
  · split
    · exact e.endTrace_irq c false
    next hn => exact h.resolve_left hn

/-! ARM -/

/-- The trace of an armed channel (R393). -/
def Dev.armedAs (d : Dev) (c : Nat) : Trace :=
  { state := 1, src := d.rd (Reg.SND_SND_SRC c), trig := d.rd (Reg.SND_SND_TRIG c), level := d.rd (Reg.SND_SND_LEVEL c), armTurn := d.turnNo
    prevState := (d.loop (field (d.rd (Reg.SND_SND_SRC c)) 6 0)).state, prevFe := (d.loop (field (d.rd (Reg.SND_SND_SRC c)) 6 0)).fe }

theorem Dev.armTrace_eq (d : Dev) (c : Nat) : d.armTrace c
    = if d.fld (Reg.SND_SND_TRIG c) 2 0 = 0 then ((d.modTrace c (fun _ => d.armedAs c)).showTrace c).trigger c
      else (d.modTrace c (fun _ => d.armedAs c)).showTrace c := rfl

theorem Dev.armTrace_sameBut (d : Dev) (c : Nat) : Dev.SameBut forgetTraces d (d.armTrace c) := by
  have h : Dev.SameBut forgetTraces d ((d.modTrace c (fun _ => d.armedAs c)).showTrace c) :=
    (d.modTrace_sameBut c _).trans (Dev.showTrace_sameBut _ _ _)
  rw [Dev.armTrace_eq]
  split
  · exact h.trans (Dev.trigger_sameBut _ _)
  · exact h

theorem Dev.armTraces_sameBut (d : Dev) (mask : Nat) : Dev.SameBut forgetTraces d (d.armTraces mask) := .foldl _ _ fun c _ e => e.armTrace_sameBut c

theorem Dev.armTrace_trace_ne (d : Dev) {c j : Nat} (h : j ≠ c) : (d.armTrace c).trace j = d.trace j := by
  have hmod : ((d.modTrace c (fun _ => d.armedAs c)).showTrace c).trace j = d.trace j :=
    Dev.trace_modTrace_ne d (fun _ => d.armedAs c) h
  rw [Dev.armTrace_eq]
  split
  · rw [Dev.trigger_trace, if_neg h, hmod]
  · exact hmod

theorem Dev.rd_armTrace_ne (d : Dev) (c : Nat) {a : Nat} (ha : a ∉ traceWords c) : (d.armTrace c).rd a = d.rd a := by
  have hshow : ((d.modTrace c (fun _ => d.armedAs c)).showTrace c).rd a = d.rd a := Dev.rd_showTrace_ne _ c ha
  rw [Dev.armTrace_eq]
  split
  · exact (Dev.rd_showTrace_ne _ c ha).trans hshow
  · exact hshow

/-- A channel armed with the configuration in its registers. -/
structure Dev.Armed (d : Dev) (c : Nat) (src trig level : W32) : Prop where
  state : (d.trace c).state = if field trig 2 0 = 0 then 2 else 1
  samples : (d.trace c).samples = []
  src : (d.trace c).src = src
  trig : (d.trace c).trig = trig
  level : (d.trace c).level = level
  shown : d.fld (Reg.SND_SND_STAT c) 31 16 = 0

theorem Dev.rd_trigger_stat (d : Dev) (c : Nat) : (d.trigger c).rd (Reg.SND_SND_STAT c)
    = w32 (((d.trigger c).trace c).state + (if ((d.trigger c).trace c).sat then 8 else 0) + (if ((d.trigger c).trace c).period then 16 else 0)
        + ((d.trigger c).trace c).samples.length * 2 ^ 16) := Dev.rd_showTrace_stat _ c

theorem Dev.armTrace_armed (d : Dev) (c : Nat) :
    (d.armTrace c).Armed c (d.rd (Reg.SND_SND_SRC c)) (d.rd (Reg.SND_SND_TRIG c)) (d.rd (Reg.SND_SND_LEVEL c)) := by
  have htr : (d.modTrace c (fun _ => d.armedAs c)).trace c = d.armedAs c := Dev.trace_modTrace_same d c _
  have htr' : ((d.modTrace c (fun _ => d.armedAs c)).showTrace c).trace c = d.armedAs c := htr
  rw [Dev.armTrace_eq]
  split
  next h0 =>
    have hg : (((d.modTrace c (fun _ => d.armedAs c)).showTrace c).trigger c).trace c = { d.armedAs c with state := 2, trigIdx := 0 } := by
      rw [Dev.trigger_trace, if_pos rfl, htr']
      rfl
    refine ⟨?_, ?_, ?_, ?_, ?_, ?_⟩
    · rw [hg]
      exact (if_pos h0).symm
    · rw [hg]
      rfl
    · rw [hg]
      rfl
    · rw [hg]
      rfl
    · rw [hg]
      rfl
    · refine (congrArg (field · 31 16) (Dev.rd_trigger_stat _ c)).trans ?_
      rw [hg]
      have hz : field (w32 2) 31 16 = 0 := by decide
      simpa [Dev.armedAs] using hz
  next h0 =>
    refine ⟨?_, ?_, ?_, ?_, ?_, ?_⟩
    · rw [htr']
      exact (if_neg h0).symm
    · rw [htr']
      rfl
    · rw [htr']
      rfl
    · rw [htr']
      rfl
    · rw [htr']
      rfl
    · refine (congrArg (field · 31 16) (Dev.rd_showTrace_stat _ c)).trans ?_
      rw [htr]
      have hz : field (w32 1) 31 16 = 0 := by decide
      simpa [Dev.armedAs] using hz

theorem Dev.armTraces_armed (d : Dev) {c mask : Nat} (hc : c < 16) (hm : mask.testBit c = true) :
    (d.armTraces mask).Armed c (d.rd (Reg.SND_SND_SRC c)) (d.rd (Reg.SND_SND_TRIG c)) (d.rd (Reg.SND_SND_LEVEL c)) := by
  have hsrc := fun x => (configWords_apart x c).1
  have htrig := fun x => (configWords_apart x c).2.1
  have hlevel := fun x => (configWords_apart x c).2.2
  refine foldl_makes_from (p := c)
    (P := fun e : Dev => e.Armed c (d.rd (Reg.SND_SND_SRC c)) (d.rd (Reg.SND_SND_TRIG c)) (d.rd (Reg.SND_SND_LEVEL c)))
    (Q := fun e : Dev => e.rd (Reg.SND_SND_SRC c) = d.rd (Reg.SND_SND_SRC c) ∧ e.rd (Reg.SND_SND_TRIG c) = d.rd (Reg.SND_SND_TRIG c)
      ∧ e.rd (Reg.SND_SND_LEVEL c) = d.rd (Reg.SND_SND_LEVEL c))
    (fun e x h => ?_) (fun e x hq h => ?_) (fun e h => ?_) (maskTraces mask) d ⟨rfl, rfl, rfl⟩ (mem_maskTraces.mpr ⟨hc, hm⟩)
  · exact ⟨(e.rd_armTrace_ne x (hsrc x)).trans h.1, (e.rd_armTrace_ne x (htrig x)).trans h.2.1, (e.rd_armTrace_ne x (hlevel x)).trans h.2.2⟩
  · by_cases hx : c = x
    · subst hx
      have harm := e.armTrace_armed c
      rwa [hq.1, hq.2.1, hq.2.2] at harm
    · have htr := e.armTrace_trace_ne hx
      exact ⟨htr ▸ h.state, htr ▸ h.samples, htr ▸ h.src, htr ▸ h.trig, htr ▸ h.level,
        (congrArg (field · 31 16) (e.rd_armTrace_ne x (traceWords_apart (Ne.symm hx)))).trans h.shown⟩
  · have harm := e.armTrace_armed c
    rwa [h.1, h.2.1, h.2.2] at harm

theorem Dev.armTraces_trace_out (d : Dev) {c mask : Nat} (hm : mask.testBit c = false) : (d.armTraces mask).trace c = d.trace c := by
  refine List.foldlRecOn (motive := fun e : Dev => e.trace c = d.trace c) _ _ rfl fun e he x hx => (e.armTrace_trace_ne ?_).trans he
  rintro rfl
  have := (mem_maskTraces.mp hx).2
  simp [hm] at this

/-! The commands -/

theorem exec_soundingArm (req : Requester) (mask : Nat) (s : State) : exec (.soundingArm req mask) s
    = .next (hostCmd req Reg.SND_SND_CMD (sndWord 1 mask) (actIf Reg.SND_SND_CMD (fun d => !d.packsEarly mask) (·.armTraces mask))
        (arrived Reg.SND_SND_CMD s)) := by
  rw [← actSndCmd_arm]
  rfl

theorem exec_soundingForce (req : Requester) (mask : Nat) (s : State) : exec (.soundingForce req mask) s
    = .next (hostCmd req Reg.SND_SND_CMD (sndWord 2 mask) (actDev (·.forceTraces mask)) (arrived Reg.SND_SND_CMD s)) := by
  rw [← actSndCmd_force]
  rfl

theorem exec_soundingStop (req : Requester) (mask : Nat) (s : State) : exec (.soundingStop req mask) s
    = .next (hostCmd req Reg.SND_SND_CMD (sndWord 3 mask) (actDev (·.stopTraces mask)) (arrived Reg.SND_SND_CMD s)) := by
  rw [← actSndCmd_stop]
  rfl

/-- What the statements about the soundings leave out. -/
def forgetLpe (d : Dev) : Dev := { d with lpe := {}, fab := {}, pow := {} }

theorem Dev.SameBut.toLpe {d e : Dev} (h : Dev.SameBut forgetTraces d e) : Dev.SameBut forgetLpe d e := by
  have hall := congrArg forgetLpe (show forgetTraces { e with regs := [] } = forgetTraces { d with regs := [] } from h)
  exact hall

theorem Dev.SameBut.loops {d e : Dev} (h : Dev.SameBut forgetTraces d e) : e.lpe.loop = d.lpe.loop := h.proj (·.lpe.loop) (fun _ => rfl)

theorem sounding_page {f : Dev → Dev} (hf : ∀ d, Dev.SameBut forgetTraces d (f d)) (q : Requester) (a k : Nat) (u : State) :
    (answeredOk q a (onDev f (u.woken k))).dev.lpe.loop = u.dev.lpe.loop
      ∧ differOnly forgetLpe u (answeredOk q a (onDev f (u.woken k))) :=
  ⟨(hf (u.woken k).dev).loops, answeredOk_differOnly (fun _ _ => rfl) (fun _ _ => rfl) q a k fun d => (hf d).toLpe⟩

theorem soundingArm_taken {req : Requester} {mask : Nat} {s : State} (h : Accepts req Reg.SND_SND_CMD (sndWord 1 mask) (arrived Reg.SND_SND_CMD s))
    (hok : (arrived Reg.SND_SND_CMD s).dev.packsEarly mask = false) :
    ∃ k, exec (.soundingArm req mask) s
      = .next (answeredOk req Reg.SND_SND_CMD (onDev (·.armTraces mask) ((arrived Reg.SND_SND_CMD s).woken k))) := by
  obtain ⟨k, hk⟩ := hostCmd_taken (b := Reg.SND_SND_CMD) h (ok := fun d => !d.packsEarly mask) (·.armTraces mask)
    fun k => congrArg Bool.not (show ((arrived Reg.SND_SND_CMD s).woken k).dev.packsEarly mask = false from hok)
  exact ⟨k, (exec_soundingArm req mask s).trans (congrArg Host.Outcome.next hk)⟩

theorem soundingArm_refused {req : Requester} {mask : Nat} {s : State} (h : Accepts req Reg.SND_SND_CMD (sndWord 1 mask) (arrived Reg.SND_SND_CMD s))
    (hbad : (arrived Reg.SND_SND_CMD s).dev.packsEarly mask = true) :
    ∃ k, exec (.soundingArm req mask) s = .next (lenRefused req Reg.SND_SND_CMD pSND ((arrived Reg.SND_SND_CMD s).woken k)) := by
  obtain ⟨k, hk⟩ := hostCmd_len (b := Reg.SND_SND_CMD) h (ok := fun d => !d.packsEarly mask) (·.armTraces mask)
    fun k => congrArg Bool.not (show ((arrived Reg.SND_SND_CMD s).woken k).dev.packsEarly mask = true from hbad)
  exact ⟨k, (exec_soundingArm req mask s).trans (congrArg Host.Outcome.next hk)⟩

theorem soundingForce_taken {req : Requester} {mask : Nat} {s : State} (h : Accepts req Reg.SND_SND_CMD (sndWord 2 mask) (arrived Reg.SND_SND_CMD s)) :
    ∃ k, exec (.soundingForce req mask) s
      = .next (answeredOk req Reg.SND_SND_CMD (onDev (·.forceTraces mask) ((arrived Reg.SND_SND_CMD s).woken k))) := by
  obtain ⟨k, hk⟩ := hostCmd_dev h (·.forceTraces mask)
  exact ⟨k, (exec_soundingForce req mask s).trans (congrArg Host.Outcome.next hk)⟩

theorem soundingStop_taken {req : Requester} {mask : Nat} {s : State} (h : Accepts req Reg.SND_SND_CMD (sndWord 3 mask) (arrived Reg.SND_SND_CMD s)) :
    ∃ k, exec (.soundingStop req mask) s
      = .next (answeredOk req Reg.SND_SND_CMD (onDev (·.stopTraces mask) ((arrived Reg.SND_SND_CMD s).woken k))) := by
  obtain ⟨k, hk⟩ := hostCmd_dev h (·.stopTraces mask)
  exact ⟨k, (exec_soundingStop req mask s).trans (congrArg Host.Outcome.next hk)⟩

/-- A trace selected from its first word (R396). -/
def Dev.selectTrace (d : Dev) (v : W32) : Dev := { d.store Reg.SND_SND_RSEL v with lpe := { (d.store Reg.SND_SND_RSEL v).lpe with readPos := 0 } }

theorem exec_soundingSelect (req : Requester) (trace : Fin 16) (s : State) : exec (.soundingSelect req trace) s
    = .next (hostCmd req Reg.SND_SND_RSEL (w32 trace) (actDev (·.selectTrace (w32 trace))) (arrived Reg.SND_SND_RSEL s)) := rfl

/-- A plain RW word takes its defined bits; nothing else of the part changes but the mark of a symbol error. -/
theorem Dev.store_masked {d : Dev} {a : Nat} {h : RegHit} (hreg : findReg a = some h) (hacc : h.row.acc = .rw ∨ h.row.acc = .wo) (v : W32) :
    ∃ f, d.store a v = ({ d with fab := f } : Dev).wr a ((d.rd a &&& ~~~(w32 h.row.mask)) ||| (v &&& w32 h.row.mask)) := by
  obtain ⟨f, hf, -⟩ := d.mend_fab a
  refine ⟨f, (Dev.store_rw hreg hacc v).trans ?_⟩
  rw [hf]
  rfl

theorem bitOf_masked (w v m : W32) {j : Nat} (hj : j < 32) : bitOf ((w &&& ~~~m) ||| (v &&& m)) j = if bitOf m j then bitOf v j else bitOf w j := by
  have hbits : bitOf ((w &&& ~~~m) ||| (v &&& m)) j = (bitOf w j && !bitOf m j || bitOf v j && bitOf m j) := by
    simp only [bitOf_eq, BitVec.getLsbD_or, BitVec.getLsbD_and, BitVec.getLsbD_not, hj, decide_true, Bool.true_and]
  rw [hbits]
  by_cases hm : bitOf m j = true
  · rw [if_pos hm, hm, Bool.not_true, Bool.and_false, Bool.false_or, Bool.and_true]
  · rw [if_neg hm, Bool.eq_false_of_not_eq_true hm, Bool.not_false, Bool.and_true, Bool.and_false, Bool.or_false]

theorem findReg_sndRsel : ∃ h, findReg Reg.SND_SND_RSEL = some h ∧ h.row.acc = .rw ∧ h.row.mask = 0xF := by
  refine ⟨_, rfl, ?_, ?_⟩ <;> decide

/-- SND_RSEL takes the number of the trace, and the read-out restarts. -/
theorem Dev.selectTrace_spec (d : Dev) (trace : Fin 16) :
    (d.selectTrace (w32 trace)).fld Reg.SND_SND_RSEL 3 0 = trace.val ∧ (d.selectTrace (w32 trace)).lpe = { d.lpe with readPos := 0 }
      ∧ Dev.SameBut forgetLpe d (d.selectTrace (w32 trace)) ∧ Dev.RdKept [Reg.SND_SND_RSEL] d (d.selectTrace (w32 trace)) := by
  obtain ⟨h, hreg, hacc, hmask⟩ := findReg_sndRsel
  obtain ⟨f, hf⟩ := Dev.store_masked (d := d) hreg (.inl hacc) (w32 trace)
  unfold Dev.selectTrace
  rw [hf]
  refine ⟨?_, rfl, rfl, fun a ha => Dev.rd_wr_ne _ _ (by simpa using ha)⟩
  refine (congrArg (field · 3 0) (Dev.rd_wr_same _ _ _)).trans ?_
  rw [hmask]
  refine (field_congr (v := w32 trace) fun j _ hj => (bitOf_masked _ _ _ (by omega)).trans (if_pos ?_)).trans ?_
  · exact (by decide : ∀ j ≤ 3, bitOf (w32 0xF) j = true) j hj
  · exact (by decide : ∀ t : Fin 16, field (w32 t.val) 3 0 = t.val) trace

theorem soundingSelect_taken {req : Requester} {trace : Fin 16} {s : State} (h : Accepts req Reg.SND_SND_RSEL (w32 trace) (arrived Reg.SND_SND_RSEL s)) :
    ∃ k, exec (.soundingSelect req trace) s
      = .next (answeredOk req Reg.SND_SND_RSEL (onDev (·.selectTrace (w32 trace)) ((arrived Reg.SND_SND_RSEL s).woken k))) := by
  obtain ⟨k, hk⟩ := hostCmd_dev h (·.selectTrace (w32 trace))
  exact ⟨k, (exec_soundingSelect req trace s).trans (congrArg Host.Outcome.next hk)⟩

/-- The next words of the selected trace. -/
def Dev.soundingWords (d : Dev) (n : Nat) : List W32 :=
  if (d.trace (d.fld Reg.SND_SND_RSEL 3 0)).state = 3 then ((d.trace (d.fld Reg.SND_SND_RSEL 3 0)).words.drop d.lpe.readPos).take n else []

/-- What a read of SND_PORT gives and leaves (R396). -/
def Dev.soundingRead (n : Nat) (d : Dev) : List W32 × Dev :=
  (d.soundingWords n, { d with lpe := { d.lpe with readPos := d.lpe.readPos + (d.soundingWords n).length } })

theorem soundingRead_taken {req : Requester} {words : Nat} {s : State} (h : Readable req Reg.SND_SND_PORT (arrived Reg.SND_SND_PORT s)) :
    ∃ k, exec (.soundingRead req words) s = .next (portRead req Reg.SND_SND_PORT words
      (((arrived Reg.SND_SND_PORT s).woken k).dev.soundingRead words) ((arrived Reg.SND_SND_PORT s).woken k)) := by
  obtain ⟨k, hk⟩ := hostPort_dev (n := words) h Dev.soundingRead
  exact ⟨k, congrArg Host.Outcome.next hk⟩

theorem soundingRead_leaves {req : Requester} {words k : Nat} {u : State} {ws : List W32} (hws : (u.woken k).dev.soundingWords words = ws) :
    let t := portRead req Reg.SND_SND_PORT words ((u.woken k).dev.soundingRead words) (u.woken k)
    answerTo req t = ⟨.ok, ws.length, ws⟩ ∧ t.dev.lpe = { u.dev.lpe with readPos := u.dev.lpe.readPos + ws.length }
      ∧ differOnly forgetLpe u t ∧ regsKept [Reg.STATUS pSND] u t := by
  intro t
  have hread : (u.woken k).dev.soundingRead words
      = (ws, { (u.woken k).dev with lpe := { u.dev.lpe with readPos := u.dev.lpe.readPos + ws.length } }) := by
    unfold Dev.soundingRead
    rw [hws]
    rfl
  have ht : t = portRead req Reg.SND_SND_PORT words
      (ws, { (u.woken k).dev with lpe := { u.dev.lpe with readPos := u.dev.lpe.readPos + ws.length } }) (u.woken k) := by rw [← hread]
  rw [ht]
  obtain ⟨rs, f, hdev⟩ := portRead_dev req Reg.SND_SND_PORT words
    (ws, { (u.woken k).dev with lpe := { u.dev.lpe with readPos := u.dev.lpe.readPos + ws.length } }) (u.woken k)
  refine ⟨answerTo_portRead _ _ _ _ _, by rw [hdev], portRead_differOnly (fun _ _ => rfl) _ _ _ _ ?_, portRead_regsKept ?_ _ _ _ ?_⟩
  · exact rfl
  · decide
  · exact .ofRegs _ rfl

/-- Settles O49. -/
theorem soundings : Obligations.Soundings := by
  unfold Obligations.Soundings
  intro req mask words trace s page bad
  refine ⟨fun h hok => ?_, fun h hbad => ?_, fun h => ?_, fun h => ?_, fun h => ?_, fun h => ?_⟩
  · obtain ⟨k, hk⟩ := soundingArm_taken h hok
    obtain ⟨hloop, hpage⟩ := sounding_page (fun d => d.armTraces_sameBut mask) req Reg.SND_SND_CMD k (arrived Reg.SND_SND_CMD s)
    refine ⟨_, hk, answerTo_answeredOk _ _ _, hloop, hpage, fun c _ hm => Dev.armTraces_trace_out _ hm, fun c hc hm => ?_⟩
    obtain ⟨hstate, hsamples, hsrc, htrig, hlevel, hshown⟩ := Dev.armTraces_armed ((arrived Reg.SND_SND_CMD s).woken k).dev hc hm
    exact ⟨hstate, hsamples, hsrc, htrig, hlevel, hshown⟩
  · obtain ⟨k, hk⟩ := soundingArm_refused h hbad
    obtain ⟨rs, f, hdev⟩ := lenRefused_dev req Reg.SND_SND_CMD pSND ((arrived Reg.SND_SND_CMD s).woken k)
    exact ⟨_, hk, answerTo_lenRefused _ _ _ _, by rw [hdev]; rfl, lenRefused_differOnly (fun _ _ => rfl) (fun _ _ => rfl) _ _ _ _ _,
      lenRefused_regsKept _ _ _ _ _⟩
  · obtain ⟨k, hk⟩ := soundingForce_taken h
    obtain ⟨hloop, hpage⟩ := sounding_page (fun d => d.forceTraces_sameBut mask) req Reg.SND_SND_CMD k (arrived Reg.SND_SND_CMD s)
    exact ⟨_, hk, answerTo_answeredOk _ _ _, hloop, hpage, fun c hc => Dev.forceTraces_trace _ hc mask⟩
  · obtain ⟨k, hk⟩ := soundingStop_taken h
    obtain ⟨hloop, hpage⟩ := sounding_page (fun d => d.stopTraces_sameBut mask) req Reg.SND_SND_CMD k (arrived Reg.SND_SND_CMD s)
    have htrace := fun c hc => Dev.stopTraces_trace ((arrived Reg.SND_SND_CMD s).woken k).dev (c := c) hc mask
    refine ⟨_, hk, answerTo_answeredOk _ _ _, hloop, hpage, fun c hc => ⟨fun hm hrun => ⟨(htrace c hc).trans (if_pos ⟨hm, hrun⟩),
      Dev.stopTraces_irq _ hc hm hrun⟩, fun hno => (htrace c hc).trans (if_neg ?_)⟩⟩
    rintro ⟨hm, hrun⟩
    rcases hno with hno | ⟨h1, h2⟩
    · simp [hm] at hno
    · exact hrun.elim h1 h2
  · obtain ⟨k, hk⟩ := soundingSelect_taken h
    obtain ⟨hsel, hlpe, -, -⟩ := ((arrived Reg.SND_SND_RSEL s).woken k).dev.selectTrace_spec trace
    exact ⟨_, hk, answerTo_answeredOk _ _ _, hsel, hlpe,
      answeredOk_differOnly (fun _ _ => rfl) (fun _ _ => rfl) _ _ _ fun d => (d.selectTrace_spec trace).2.2.1,
      answeredOk_regsKept _ _ _ fun d => (d.selectTrace_spec trace).2.2.2⟩
  · obtain ⟨k, hk⟩ := soundingRead_taken (words := words) h
    refine ⟨fun hdone => ?_, fun hnot => ?_⟩
    · obtain ⟨hans, hlpe, hpage, hregs⟩ := soundingRead_leaves (req := req) (k := k) (u := arrived Reg.SND_SND_PORT s) (words := words) (if_pos hdone)
      exact ⟨_, hk, hans, hlpe, hpage, hregs⟩
    · obtain ⟨hans, hlpe, hpage, hregs⟩ := soundingRead_leaves (req := req) (k := k) (u := arrived Reg.SND_SND_PORT s) (words := words) (if_neg hnot)
      exact ⟨_, hk, hans, hlpe, hpage, hregs⟩

end Sys2Proof.Machine
end

section
/-! PROOFS. The channels of the drive under the actions that turn them off: the low side, the safe state, the disarm. -/

namespace Sys2Proof.Machine

theorem mem_setInsert {l : List Nat} {k x : Nat} : x ∈ setInsert l k ↔ x = k ∨ x ∈ l := by
  induction l with
  | nil => simp [setInsert]
  | cons y r ih =>
    unfold setInsert
    split
    · simp
    · split
      next h => simp [h]
      next h =>
        simp only [List.mem_cons, ih]
        exact or_left_comm

theorem mem_foldl_setInsert (xs : List Nat) {l : List Nat} {x : Nat} : x ∈ xs.foldl setInsert l ↔ x ∈ l ∨ x ∈ xs := by
  induction xs generalizing l with
  | nil => simp
  | cons y ys ih =>
    rw [List.foldl_cons, ih, mem_setInsert, List.mem_cons]
    exact ⟨fun h => h.elim (fun h => h.elim (fun h => .inr (.inl h)) .inl) fun h => .inr (.inr h),
      fun h => h.elim (fun h => .inl (.inr h)) fun h => h.elim (fun h => .inl (.inl h)) .inr⟩

/-- A map without an entry at a key reads its default there. -/
theorem sget_of_absent {α : Type} (dflt : Nat → α) {m : SMap α} {k : Nat} (h : k ∉ m.map (·.1)) : sget dflt m k = dflt k := by
  induction m with
  | nil => rfl
  | cons p m ih =>
    rw [List.map_cons, List.mem_cons, not_or] at h
    exact (if_neg h.1).trans (ih h.2)

/-- A channel that no action has touched is idle. -/
theorem Dev.chan_idle {d : Dev} {c : Nat} (h : c ∉ d.busyChans) : d.chan c = {} := sget_of_absent _ h

theorem Dev.isOn_idle {d : Dev} {c : Nat} (h : c ∉ d.busyChans) : d.isOn c = false := by
  unfold Dev.isOn
  rw [Dev.chan_idle h]
  decide

theorem Dev.chan_of_ch {d e : Dev} (h : e.drv.ch = d.drv.ch) (c : Nat) : e.chan c = d.chan c := by
  unfold Dev.chan
  rw [h]
theorem Dev.isOn_of_ch {d e : Dev} (h : e.drv.ch = d.drv.ch) (c : Nat) : e.isOn c = d.isOn c :=
  congrArg (fun x : Chan => phaseOn x.phase) (Dev.chan_of_ch h c)

/-! The low side opens -/

/-- The phase in which the low side is open after one in which it may be closed. -/
def offPhase (p : Nat) : Nat :=
  if p = phWAIT then phOFF else if p = phBOOST ∨ p = phPEAK ∨ p = phHOLD then phDECAY else if p = phSWITCHED then phOFF else p

theorem phaseOn_offPhase (p : Nat) : phaseOn (offPhase p) = false := by
  unfold offPhase
  split
  · decide
  · split
    · decide
    · split
      · decide
      next hwait hdrive hsw =>
        obtain ⟨hb, hp, hh⟩ := not_or.mp hdrive |>.imp_right not_or.mp
        simp [phaseOn, hb, hp, hh, hsw]

theorem Dev.lowSideOff_phase (d : Dev) (c : Nat) : ((d.lowSideOff c).chan c).phase = offPhase (d.chan c).phase := by
  refine (congrArg Chan.phase (Dev.chan_modChan_same d c _)).trans ?_
  unfold offPhase
  extract_lets stop
  by_cases hwait : (d.chan c).phase = phWAIT
  · rw [if_pos hwait, if_pos hwait]
  · rw [if_neg hwait, if_neg hwait]
    by_cases hdrive : (d.chan c).phase = phBOOST ∨ (d.chan c).phase = phPEAK ∨ (d.chan c).phase = phHOLD
    · rw [if_pos hdrive, if_pos hdrive]
    · rw [if_neg hdrive, if_neg hdrive]
      by_cases hsw : (d.chan c).phase = phSWITCHED
      · rw [if_pos hsw, if_pos hsw]
      · rw [if_neg hsw, if_neg hsw]

theorem Dev.lowSideOff_off (d : Dev) (c : Nat) : (d.lowSideOff c).isOn c = false :=
  (congrArg phaseOn (d.lowSideOff_phase c)).trans (phaseOn_offPhase _)

theorem Dev.lowSideOff_chan_ne (d : Dev) {c j : Nat} (h : j ≠ c) : (d.lowSideOff c).chan j = d.chan j := Dev.chan_modChan_ne d _ h

@[simp] theorem Dev.lowSideOff_regs (d : Dev) (c : Nat) : (d.lowSideOff c).regs = d.regs := rfl

theorem Dev.lowSideOff_sameBut {blank : Dev → Dev} (hd : ForgetsDrv blank) (d : Dev) (c : Nat) : Dev.SameBut blank d (d.lowSideOff c) :=
  (Dev.SameBut.refl _ d).drv hd _

/-- A change of a channel that keeps its phase keeps whether it is on. -/
theorem Dev.isOn_modChan (d : Dev) (c j : Nat) {f : Chan → Chan} (hf : ∀ x, (f x).phase = x.phase) : (d.modChan c f).isOn j = d.isOn j := by
  unfold Dev.isOn
  by_cases h : j = c
  · subst h
    rw [Dev.chan_modChan_same, hf]
  · rw [Dev.chan_modChan_ne d f h]

/-! A safe-state action (R129, R257) -/

/-- The register words that safe-state actions touch. -/
def safeWords : List Nat := [Reg.LDG_SAFE_CNT, Reg.REC_SUPP_TOTAL]

/-- What a safe-state action makes of a channel on which it cancels something, of another one that is profiled, and of a METER channel. -/
def Chan.safed (t : Nat) (x : Chan) : Chan :=
  { x with queue := [], next := [], closed := true, book := (x.book.settle t [] x.book.held).release t }
def Chan.letGo (t : Nat) (x : Chan) : Chan := { x with closed := true, book := x.book.release t }
def Chan.shut (x : Chan) : Chan := { x with closed := true }

/-- The low side open with no edge and no request left, counted and recorded. -/
def Dev.safeCut (d : Dev) (c : Nat) : Dev :=
  (((d.lowSideOff c).modChan c (Chan.safed (d.lowSideOff c).tick)).inc Reg.LDG_SAFE_CNT).recOther 0x025 [] objIsChannel c

theorem Dev.safeCut_ch (d : Dev) (c : Nat) : (d.safeCut c).drv.ch = ((d.lowSideOff c).modChan c (Chan.safed (d.lowSideOff c).tick)).drv.ch :=
  congrArg Drive.ch (Dev.recOther_drv _ _ _ _ _)

/-- What a safe-state action can come to on a channel. -/
theorem Dev.safeChan_cases (d : Dev) (c : Nat) :
    (d.metered c = true ∧ d.safeChan c = d.safeCut c)
      ∨ ((d.metered c = true → phaseOn (d.chan c).phase = false)
          ∧ ∃ f : Chan → Chan, (∀ x, (f x).phase = x.phase) ∧ (d.safeChan c = d.modChan c f ∨ d.safeChan c = d)) := by
  unfold Dev.safeChan
  extract_lets x e t u t'
  split
  next h => exact .inl ⟨(Bool.and_eq_true_iff.mp h).1, rfl⟩
  next h =>
    refine .inr ⟨fun hm => ?_, ?_⟩
    · rw [hm, Bool.true_and] at h
      simp only [Bool.or_eq_true, not_or] at h
      exact Bool.eq_false_of_not_eq_true h.1.1.1
    · split
      · exact ⟨Chan.letGo t', fun _ => rfl, .inl rfl⟩
      · split
        · exact ⟨Chan.shut, fun _ => rfl, .inl rfl⟩
        · exact ⟨id, fun _ => rfl, .inr rfl⟩

theorem Dev.safeChan_off {d : Dev} {c : Nat} (h : d.metered c = true) : (d.safeChan c).isOn c = false := by
  rcases d.safeChan_cases c with ⟨-, hcut⟩ | ⟨hoff, f, hf, hmod | hsame⟩
  · rw [hcut, Dev.isOn_of_ch (d.safeCut_ch c), Dev.isOn_modChan _ c c (f := Chan.safed _) (fun _ => rfl)]
    exact d.lowSideOff_off c
  · rw [hmod, Dev.isOn_modChan d c c hf]
    exact hoff h
  · rw [hsame]
    exact hoff h

theorem Dev.safeChan_chan_ne (d : Dev) {c j : Nat} (h : j ≠ c) : (d.safeChan c).chan j = d.chan j := by
  rcases d.safeChan_cases c with ⟨-, hcut⟩ | ⟨-, f, -, hmod | hsame⟩
  · rw [hcut, Dev.chan_of_ch (d.safeCut_ch c), Dev.chan_modChan_ne _ _ h]
    exact d.lowSideOff_chan_ne h
  · rw [hmod]
    exact Dev.chan_modChan_ne d f h
  · rw [hsame]

theorem Dev.safeChan_rdKept (d : Dev) (c : Nat) : Dev.RdKept safeWords d (d.safeChan c) := by
  rcases d.safeChan_cases c with ⟨-, hcut⟩ | ⟨-, f, -, hmod | hsame⟩
  · rw [hcut]
    exact (((Dev.RdKept.refl _ d).struct (e' := (d.lowSideOff c).modChan c (Chan.safed (d.lowSideOff c).tick)) rfl).wr (by decide) _).emit (by decide) _
  · rw [hmod]
    exact .ofRegs _ rfl
  · rw [hsame]
    exact .refl _ d

theorem Dev.safeChan_sameBut {blank : Dev → Dev} (hd : ForgetsDrv blank) (hr : ForgetsRcf blank) (d : Dev) (c : Nat) :
    Dev.SameBut blank d (d.safeChan c) := by
  rcases d.safeChan_cases c with ⟨-, hcut⟩ | ⟨-, f, -, hmod | hsame⟩
  · rw [hcut]
    exact ((((d.lowSideOff_sameBut hd c).drv hd _)).wr _ _).emit hr _
  · rw [hmod]
    exact (Dev.SameBut.refl _ d).drv hd _
  · rw [hsame]
    exact .refl _ d

/-- The modes of the channels lie in words that `l` does not hold. -/
theorem Dev.RdKept.mode {l : List Nat} {d e : Dev} (h : Dev.RdKept l d e) (hl : ∀ a ∈ l, a < 0x01000000) (c : Nat) : e.mode c = d.mode c :=
  h.fld (fun hc => absurd (hl _ hc) (by simp only [Reg.CH_CFG]; omega)) 2 0

theorem Dev.metered_congr {d e : Dev} {c : Nat} (h : e.mode c = d.mode c) : e.metered c = d.metered c := by
  unfold Dev.metered Dev.profiled
  rw [h]

theorem safeWords_low : ∀ a ∈ safeWords, a < 0x01000000 := by decide

/-- The safe state leaves no metered channel on. -/
theorem Dev.safeState_off {d : Dev} {c : Nat} (h : d.metered c = true) : d.safeState.isOn c = false := by
  by_cases hbusy : c ∈ (d.busyChans ++ d.meterChans).foldl setInsert []
  · refine foldl_makes_from (p := c) (Q := fun e : Dev => e.metered c = true) (P := fun e : Dev => e.isOn c = false)
      (fun e x he => ?_) (fun e x he hoff => ?_) (fun e he => Dev.safeChan_off he) _ d h hbusy
    · exact (Dev.metered_congr ((e.safeChan_rdKept x).mode safeWords_low c)).trans he
    · by_cases hx : c = x
      · subst hx
        exact Dev.safeChan_off he
      · exact (congrArg (fun y : Chan => phaseOn y.phase) (e.safeChan_chan_ne hx)).trans hoff
  · have hidle : c ∉ d.busyChans := fun hb => hbusy ((mem_foldl_setInsert _).mpr (.inr (List.mem_append_left _ hb)))
    refine List.foldlRecOn (motive := fun e : Dev => e.isOn c = false) _ _ (Dev.isOn_idle hidle) fun e he x hx => ?_
    have hne : c ≠ x := fun hc => hbusy (hc ▸ hx)
    exact (congrArg (fun y : Chan => phaseOn y.phase) (e.safeChan_chan_ne hne)).trans he

theorem Dev.safeState_rdKept (d : Dev) : Dev.RdKept safeWords d d.safeState := .foldl _ _ fun c _ e => e.safeChan_rdKept c
theorem Dev.safeState_sameBut {blank : Dev → Dev} (hd : ForgetsDrv blank) (hr : ForgetsRcf blank) (d : Dev) : Dev.SameBut blank d d.safeState :=
  .foldl _ _ fun c _ e => e.safeChan_sameBut hd hr c

/-! The switches open, and the path disarmed (R415) -/

/-- A channel with nothing queued and nothing waited for. -/
def Chan.unqueued (x : Chan) : Chan := { x with queue := [], next := [], lossEnd := none, sortEdge := none }

/-- The step of `openSwitches` on one channel. -/
def Dev.openSwitch (d : Dev) (c : Nat) : Dev := if d.mode c = mSWITCH then (d.lowSideOff c).modChan c Chan.unqueued else d

theorem Dev.openSwitches_eq (d : Dev) : d.openSwitches = d.busyChans.foldl Dev.openSwitch d := rfl

theorem Dev.openSwitch_off {d : Dev} {c : Nat} (h : d.mode c = mSWITCH) : (d.openSwitch c).isOn c = false := by
  unfold Dev.openSwitch
  rw [if_pos h, Dev.isOn_modChan _ c c (f := Chan.unqueued) (fun _ => rfl)]
  exact d.lowSideOff_off c

theorem Dev.openSwitch_chan_ne (d : Dev) {c j : Nat} (h : j ≠ c) : (d.openSwitch c).chan j = d.chan j := by
  unfold Dev.openSwitch
  split
  · exact (Dev.chan_modChan_ne _ _ h).trans (d.lowSideOff_chan_ne h)
  · rfl

theorem Dev.openSwitch_regs (d : Dev) (c : Nat) : (d.openSwitch c).regs = d.regs := by
  unfold Dev.openSwitch
  split <;> rfl

theorem Dev.openSwitch_keeps_off {d : Dev} {x j : Nat} (h : d.isOn j = false) : (d.openSwitch x).isOn j = false := by
  by_cases hx : j = x
  · subst hx
    unfold Dev.openSwitch
    split
    · rw [Dev.isOn_modChan _ j j (f := Chan.unqueued) (fun _ => rfl)]
      exact d.lowSideOff_off j
    · exact h
  · exact (congrArg (fun y : Chan => phaseOn y.phase) (d.openSwitch_chan_ne hx)).trans h

theorem Dev.openSwitches_regs (d : Dev) : d.openSwitches.regs = d.regs :=
  List.foldlRecOn (motive := fun e : Dev => e.regs = d.regs) _ Dev.openSwitch rfl fun e he x _ => (e.openSwitch_regs x).trans he

/-- No SWITCH channel is on. -/
theorem Dev.openSwitches_off {d : Dev} {c : Nat} (h : d.mode c = mSWITCH) : d.openSwitches.isOn c = false := by
  rw [Dev.openSwitches_eq]
  by_cases hbusy : c ∈ d.busyChans
  · exact foldl_makes_from (p := c) (Q := fun e : Dev => e.mode c = mSWITCH) (P := fun e : Dev => e.isOn c = false)
      (fun e x he => (congrArg (field · 2 0) (Dev.rd_of_regs (e.openSwitch_regs x) _)).trans he) (fun e x _ hoff => Dev.openSwitch_keeps_off hoff)
      (fun e he => Dev.openSwitch_off he) _ d h hbusy
  · exact List.foldlRecOn (motive := fun e : Dev => e.isOn c = false) _ _ (Dev.isOn_idle hbusy) fun e he x _ => Dev.openSwitch_keeps_off he

/-- A channel that is off stays off. -/
theorem Dev.openSwitches_keeps_off {d : Dev} {c : Nat} (h : d.isOn c = false) : d.openSwitches.isOn c = false :=
  List.foldlRecOn (motive := fun e : Dev => e.isOn c = false) _ Dev.openSwitch h fun _ he _ _ => Dev.openSwitch_keeps_off he

theorem Dev.openSwitches_sameBut {blank : Dev → Dev} (hd : ForgetsDrv blank) (d : Dev) : Dev.SameBut blank d d.openSwitches := by
  refine .foldl _ _ fun c _ e => ?_
  split
  · exact (e.lowSideOff_sameBut hd c).drv hd _
  · exact .refl _ e

theorem Dev.setRail_drv (d : Dev) (k st : Nat) : (d.setRail k st).drv = d.drv := (d.setRail_sameBut id k st).proj (·.drv) (fun _ => rfl)

/-- The rails change no channel. -/
theorem Dev.railUpdate_ch (d : Dev) : d.railUpdate.drv.ch = d.drv.ch := by
  refine List.foldlRecOn (motive := fun e : Dev => e.drv.ch = d.drv.ch) _ _ rfl fun e he k _ => ?_
  split
  · exact (congrArg Drive.ch (e.setRail_drv k 1)).trans he
  · split
    · exact (congrArg Drive.ch (e.setRail_drv k 0)).trans he
    · exact he

end Sys2Proof.Machine
end

section
/-! PROOFS. O50: the supervision of the host (R403 to R407). -/

namespace Sys2Proof.Machine

/-! The kick (R403, R404) -/

theorem exec_hbKick (req : Requester) (data : W32) (s : State) : exec (.hbKick req data) s
    = .next (hostCmd req Reg.HOST_HB_KICK data (actDev (fun d => if d.kicksFrom req then d.hostKick else d)) s) := rfl

theorem hbKick_counted {req : Requester} {data : W32} {s : State} (h : Accepts req Reg.HOST_HB_KICK data s) (hk : s.dev.kicksFrom req = true) :
    ∃ k, exec (.hbKick req data) s = .next (answeredOk req Reg.HOST_HB_KICK (onDev (·.hostKick) (s.woken k))) := by
  obtain ⟨k, hcmd⟩ := hostCmd_dev h (fun d => if d.kicksFrom req then d.hostKick else d)
  refine ⟨k, (exec_hbKick req data s).trans (congrArg Host.Outcome.next (hcmd.trans ?_))⟩
  exact congrArg (answeredOk req Reg.HOST_HB_KICK) (onDev_congr (if_pos (show (s.woken k).dev.kicksFrom req = true from hk)))

theorem Accepts.woken {q : Requester} {a : Nat} {v : W32} {s : State} (h : Accepts q a v s) : ∃ k, atFabric q true s = s.woken k := h.start

/-- An accepted write on which its action does nothing. -/
theorem hostCmd_idle {q : Requester} {a : Nat} {v : W32} {s : State} (h : Accepts q a v s) {f : Dev → Dev}
    (hf : ∀ k, f (s.woken k).dev = (s.woken k).dev) : hostCmd q a v (actDev f) s = acceptedWrite q a id s := by
  obtain ⟨k, hk⟩ := h.woken
  refine (hostCmd_actDev f h).trans (acceptedWrite_congr ?_)
  rw [hk]
  exact hf k

theorem hbKick_uncounted {req : Requester} {data : W32} {s : State} (h : Accepts req Reg.HOST_HB_KICK data s) (hk : s.dev.kicksFrom req = false) :
    exec (.hbKick req data) s = .next (acceptedWrite req Reg.HOST_HB_KICK id s) :=
  (exec_hbKick req data s).trans (congrArg Host.Outcome.next (hostCmd_idle h fun k =>
    if_neg (by rw [show (s.woken k).dev.kicksFrom req = false from hk]; decide)))

/-! The loss (R405) -/

/-- The host taken for lost. -/
def Dev.hostGone (d : Dev) : Dev :=
  { ((d.setStat pHOST 16 true).irq pHOST 16).faultRec pHOST 16 with
    sup := { (((d.setStat pHOST 16 true).irq pHOST 16).faultRec pHOST 16).sup with
      lost := some (d.rdN Reg.HOST_HOSTLOST_POLICY, d.tm.tbm), applied := false, closes := false, kicked := false } }

theorem exec_hostLost_due {s : State} (hbeat : s.dev.stat pHOST 17 = true) (hlost : s.dev.sup.lost = none) :
    exec .hostLost s = .next (onDev (fun d => (d.toTbm (d.sup.hbAt + d.rdN Reg.HOST_HB_PERIOD * 1000000)).hostGone) s) :=
  congrArg Host.Outcome.next (onDev_congr (if_pos (by rw [hbeat, hlost]; rfl)))

theorem exec_hostLost_not {s : State} (h : s.dev.stat pHOST 17 = false ∨ s.dev.sup.lost.isSome = true) : exec .hostLost s = .next s := by
  refine congrArg Host.Outcome.next ((onDev_congr (g := id) (if_neg ?_)).trans rfl)
  rcases h with h | h
  · rw [h]
    simp
  · cases hl : s.dev.sup.lost with
    | none => simp [hl] at h
    | some x => simp

/-- The register words of the host page that the loss touches. -/
def hostLossWords : List Nat := [Reg.STATUS pHOST, Reg.FAULT pHOST, Reg.IRQ_RAW pHOST, Reg.REC_SUPP_TOTAL]

theorem Dev.hostGone_rdKept (d : Dev) : Dev.RdKept hostLossWords d d.hostGone :=
  ((((Dev.RdKept.refl _ d).setStat (by decide) _ _).irq (by decide) _).faultRec (by decide) (by decide) (by decide) _ _ _ _).struct rfl

/-- The supervision and the record intake taken out. -/
def forgetSup (d : Dev) : Dev := { d with sup := {}, rcf := {} }

theorem Dev.hostGone_sameBut (d : Dev) : Dev.SameBut forgetSup d d.hostGone := by
  have h : Dev.SameBut forgetSup d (((d.setStat pHOST 16 true).irq pHOST 16).faultRec pHOST 16) :=
    (((Dev.SameBut.refl _ d).setStat _ _ _).irq _ _).faultRec (fun _ _ => rfl) _ _ _ _ _
  exact h

theorem Dev.hostGone_shows (d : Dev) :
    d.hostGone.stat pHOST 16 = true ∧ d.hostGone.bit (Reg.FAULT pHOST) 16 = true ∧ d.hostGone.bit (Reg.IRQ_RAW pHOST) 16 = true := by
  refine ⟨?_, ?_, ?_⟩
  · refine (congrArg (bitOf · 16) ((Dev.rd_faultRec_ne _ _ _ (by decide) (by decide) (by decide)).trans (Dev.rd_irq_ne _ _ _ (by decide)))).trans ?_
    exact (Dev.bit_setBit _ _ _ _ _ (by decide) (by decide)).trans (if_pos rfl)
  · exact Dev.bit_faultRec _ _ (by decide)
  · refine (congrArg (bitOf · 16) (Dev.rd_emit_ne _ _ (by decide))).trans ?_
    exact Dev.bit_fault_true _ (by decide) (by decide) (Dev.bit_irq_same _ _ (by decide))

theorem hostLost_due {s : State} (hbeat : s.dev.stat pHOST 17 = true) (hlost : s.dev.sup.lost = none) :
    ∃ t, exec .hostLost s = .next t ∧ t.dev.sup.lost = some (s.dev.rdN Reg.HOST_HOSTLOST_POLICY, t.dev.tm.tbm)
      ∧ s.dev.sup.hbAt + s.dev.rdN Reg.HOST_HB_PERIOD * 1000000 ≤ t.dev.tm.tbm
      ∧ t.dev.sup.applied = false ∧ t.dev.sup.closes = false ∧ t.dev.sup.kicked = false
      ∧ t.dev.stat pHOST 16 = true ∧ t.dev.bit (Reg.FAULT pHOST) 16 = true ∧ t.dev.bit (Reg.IRQ_RAW pHOST) 16 = true
      ∧ t.dev.drv = s.dev.drv ∧ t.dev.eds = s.dev.eds ∧ (t.ldg = s.ldg ∧ t.rcd = s.rcd ∧ t.pending = s.pending)
      ∧ regsKept [Reg.STATUS pHOST, Reg.FAULT pHOST, Reg.IRQ_RAW pHOST, Reg.REC_SUPP_TOTAL] s t := by
  have hsame := Dev.hostGone_sameBut (s.dev.toTbm (s.dev.sup.hbAt + s.dev.rdN Reg.HOST_HB_PERIOD * 1000000))
  obtain ⟨hstat, hfault, hirq⟩ := Dev.hostGone_shows (s.dev.toTbm (s.dev.sup.hbAt + s.dev.rdN Reg.HOST_HB_PERIOD * 1000000))
  have htm := hsame.proj (·.tm) (fun _ => rfl)
  refine ⟨_, exec_hostLost_due hbeat hlost, ?_, ?_, rfl, rfl, rfl, hstat, hfault, hirq, hsame.proj (·.drv) (fun _ => rfl), hsame.proj (·.eds) (fun _ => rfl),
    ⟨rfl, rfl, rfl⟩, Dev.hostGone_rdKept _⟩
  · exact congrArg (fun m : TimeBases => some (s.dev.rdN Reg.HOST_HOSTLOST_POLICY, m.tbm)) htm.symm
  · exact (Dev.toTbm_reaches _ _).trans (le_of_eq (congrArg TimeBases.tbm htm.symm))

/-! The policies (R405, R406) -/

/-- The actions kept, as ACT_LEVEL shows them. -/
theorem Dev.keepActs_acts (d : Dev) (f : HostAct → Bool) : (d.keepActs f).eds.acts = d.eds.acts.filter f := rfl

theorem Dev.keepActs_rdKept (d : Dev) (f : HostAct → Bool) : Dev.RdKept [Reg.EDS_ACT_LEVEL, Reg.STATUS pEDS] d (d.keepActs f) :=
  (((Dev.RdKept.refl _ d).struct (e' := { d with eds := { d.eds with acts := d.eds.acts.filter f } }) rfl).wr (by decide) _).setStat (by decide) _ _

/-- The register words that CLOSE touches. -/
def closeWords : List Nat := [Reg.LDG_SAFE_CNT, Reg.REC_SUPP_TOTAL, Reg.EDS_ACT_LEVEL, Reg.STATUS pEDS]

/-- CLOSE before its record. -/
def Dev.hostShut (d : Dev) : Dev := ({ d with sup := { d.sup with closes := true } }).safeState.keepActs (fun a => a.kind ≠ haON)

theorem Dev.hostClose_eq (d : Dev) : d.hostClose = d.hostShut.recOther pHOST [w32 (d.eds.acts.filter (fun a => a.kind = haON)).length] := rfl

theorem Dev.hostClose_rdKept (d : Dev) : Dev.RdKept closeWords d d.hostClose := by
  have hsafe : Dev.RdKept closeWords d ({ d with sup := { d.sup with closes := true } }).safeState :=
    ((Dev.safeState_rdKept _).mono (by decide))
  have hshut : Dev.RdKept closeWords d d.hostShut := hsafe.trans ((Dev.keepActs_rdKept _ _).mono (by decide))
  rw [Dev.hostClose_eq]
  exact hshut.emit (by decide) _

/-- What the safe state and the actions change beside register words, taken out. -/
def forgetClose (d : Dev) : Dev := { d with drv := {}, rcf := {}, eds := {} }

theorem Dev.hostClose_sameBut (d : Dev) : Dev.SameBut forgetClose { d with sup := { d.sup with closes := true } } d.hostClose := by
  have hsafe : Dev.SameBut forgetClose { d with sup := { d.sup with closes := true } } ({ d with sup := { d.sup with closes := true } }).safeState :=
    Dev.safeState_sameBut (fun _ _ => rfl) (fun _ _ => rfl) _
  have hshut : Dev.SameBut forgetClose { d with sup := { d.sup with closes := true } } d.hostShut := hsafe
  rw [Dev.hostClose_eq]
  exact hshut.emit (fun _ _ => rfl) _

/-- CLOSE: no metered channel on, no host ON pending. -/
theorem Dev.hostClose_spec (d : Dev) :
    d.hostClose.sup = { d.sup with closes := true } ∧ (∀ c, d.metered c = true → d.hostClose.isOn c = false)
      ∧ (∀ a ∈ d.hostClose.eds.acts, a.kind ≠ haON) ∧ d.hostClose.tm = d.tm := by
  have hsame := d.hostClose_sameBut
  refine ⟨hsame.proj (·.sup) (fun _ => rfl), fun c hc => ?_, fun a ha => ?_, hsame.proj (·.tm) (fun _ => rfl)⟩
  · have hdrv : d.hostClose.drv.ch = ({ d with sup := { d.sup with closes := true } } : Dev).safeState.drv.ch := by
      rw [Dev.hostClose_eq, Dev.recOther_drv]
      rfl
    rw [Dev.isOn_of_ch hdrv]
    exact Dev.safeState_off hc
  · rw [Dev.hostClose_eq, Dev.recOther_eds] at ha
    exact of_decide_eq_true (List.mem_filter.mp ha).2

/-- The turn at which CLOSE comes into force. -/
theorem Dev.hostTurn_close {d : Dev} {since : Nat} (hlost : d.sup.lost = some (1, since)) (hkicked : d.sup.kicked = false)
    (happlied : d.sup.applied = false) : d.hostTurn = ({ d with sup := { d.sup with applied := true } }).hostClose := by
  unfold Dev.hostTurn
  rw [hlost]
  simp only [hkicked, happlied, Bool.false_eq_true, if_false, if_true]

theorem hostTurn_closes {d : Dev} {since : Nat} (hlost : d.sup.lost = some (1, since)) (hkicked : d.sup.kicked = false)
    (happlied : d.sup.applied = false) :
    d.hostTurn.sup.applied = true ∧ d.hostTurn.sup.closes = true
      ∧ (∀ c, d.metered c = true → d.hostTurn.isOn c = false) ∧ (∀ a ∈ d.hostTurn.eds.acts, a.kind ≠ haON) := by
  rw [Dev.hostTurn_close hlost hkicked happlied]
  obtain ⟨hsup, hoff, hacts, -⟩ := Dev.hostClose_spec { d with sup := { d.sup with applied := true } }
  exact ⟨by rw [hsup], by rw [hsup], hoff, hacts⟩

/-- The end of a loss, before its record (R407). -/
def Dev.hostBack (d : Dev) : Dev :=
  ((({ d with sup := { d.sup with lost := none, applied := false, closes := false, kicked := false } }.setStat pHOST 16 false).setStat pHOST 18 false).irq
    pHOST 17)

theorem Dev.hostTurn_return {d : Dev} {policy since : Nat} (hlost : d.sup.lost = some (policy, since)) (hkicked : d.sup.kicked = true) :
    d.hostTurn = d.hostBack.recIrq pHOST 17 := by
  unfold Dev.hostTurn
  rw [hlost]
  simp only [hkicked, if_true]
  rfl

theorem hostTurn_returns {d : Dev} {policy since : Nat} (hlost : d.sup.lost = some (policy, since)) (hkicked : d.sup.kicked = true) :
    d.hostTurn.sup.lost = none ∧ d.hostTurn.stat pHOST 16 = false ∧ d.hostTurn.bit (Reg.IRQ_RAW pHOST) 17 = true ∧ d.hostTurn.drv = d.drv := by
  rw [Dev.hostTurn_return hlost hkicked]
  refine ⟨?_, ?_, ?_, Dev.recIrq_drv _ _ _ _ _ _⟩
  · rw [Dev.recIrq_sup]
    rfl
  · refine (congrArg (bitOf · 16) ((Dev.rd_emit_ne _ _ (by decide)).trans (Dev.rd_irq_ne _ _ _ (by decide)))).trans ?_
    refine (Dev.bit_setBit _ _ _ _ _ (by decide) (by decide)).trans ((if_neg (by decide)).trans ?_)
    exact (Dev.bit_setBit _ _ _ _ _ (by decide) (by decide)).trans (if_pos rfl)
  · exact (congrArg (bitOf · 17) (Dev.rd_emit_ne _ _ (by decide))).trans (Dev.bit_irq_same _ _ (by decide))

/-! CONTINUE runs out (R406) -/

theorem exec_continueExpiry_due {s : State} {since : Nat} (hlost : s.dev.sup.lost = some (0, since)) (happlied : s.dev.sup.applied = true)
    (hcloses : s.dev.sup.closes = false) :
    exec .continueExpiry s = .next (onDev (fun d => (d.toTbm (since + d.rdN Reg.HOST_CONTINUE_MAX * 1000000000)).continueEnds) s) := by
  refine congrArg Host.Outcome.next (onDev_congr ?_)
  rw [hlost]
  exact if_pos (by rw [happlied, hcloses]; rfl)

theorem exec_continueExpiry_not {s : State} (h : s.dev.sup.lost = none ∨ s.dev.sup.applied = false ∨ s.dev.sup.closes = true) :
    exec .continueExpiry s = .next s := by
  refine congrArg Host.Outcome.next ((onDev_congr (g := id) ?_).trans rfl)
  split
  next since hlost =>
    refine if_neg ?_
    rcases h with h | h | h
    · simp [h] at hlost
    · simp [h]
    · simp [h]
  · rfl

theorem continueExpiry_due {s : State} {since : Nat} (hlost : s.dev.sup.lost = some (0, since)) (happlied : s.dev.sup.applied = true)
    (hcloses : s.dev.sup.closes = false) :
    ∃ t, exec .continueExpiry s = .next t ∧ since + s.dev.rdN Reg.HOST_CONTINUE_MAX * 1000000000 ≤ t.dev.tm.tbm
      ∧ t.dev.stat pHOST 18 = true ∧ t.dev.sup.closes = true ∧ (∀ c, s.dev.metered c = true → t.dev.isOn c = false)
      ∧ (∀ a ∈ t.dev.eds.acts, a.kind ≠ haON) ∧ (t.ldg = s.ldg ∧ t.rcd = s.rcd ∧ t.pending = s.pending) := by
  have hnoted : ∀ d : Dev, Dev.RdKept [Reg.STATUS pHOST, Reg.REC_SUPP_TOTAL] d ((d.setStat pHOST 18 true).recOther pHOST) := fun d =>
    ((Dev.RdKept.refl _ d).setStat (by decide) _ _).emit (by decide) _
  obtain ⟨hsup, hoff, hacts, htm⟩ := Dev.hostClose_spec
    (((s.dev.toTbm (since + s.dev.rdN Reg.HOST_CONTINUE_MAX * 1000000000)).setStat pHOST 18 true).recOther pHOST)
  refine ⟨_, exec_continueExpiry_due hlost happlied hcloses, ?_, ?_, ?_, fun c hc => ?_, hacts, rfl, rfl, rfl⟩
  · exact (Dev.toTbm_reaches _ _).trans (le_of_eq (congrArg TimeBases.tbm (htm.trans (Dev.recOther_tm _ _ _ _ _)).symm))
  · refine ((Dev.hostClose_rdKept _).bit (by decide) 18).trans ?_
    refine (congrArg (bitOf · 18) (Dev.rd_emit_ne _ _ (by decide))).trans ?_
    exact (Dev.bit_setBit _ _ _ _ _ (by decide) (by decide)).trans (if_pos rfl)
  · exact congrArg Supervision.closes hsup
  · exact hoff c ((Dev.metered_congr ((hnoted _).mode (by decide) c)).trans hc)

/-- Settles O50. -/
theorem hostSupervision : Obligations.HostSupervision := by
  unfold Obligations.HostSupervision
  intro req data policy since s kept
  refine ⟨fun h hk => ?_, hbKick_uncounted, hostLost_due, exec_hostLost_not, hostTurn_closes, hostTurn_returns, continueExpiry_due, exec_continueExpiry_not⟩
  obtain ⟨k, hcmd⟩ := hbKick_counted h hk
  refine ⟨_, hcmd, answerTo_answeredOk _ _ _, (Dev.bit_setBit _ _ _ _ _ (by decide) (by decide)).trans (if_pos rfl), rfl,
    answeredOk_differOnly (fun _ _ => rfl) (fun _ _ => rfl) _ _ _ fun _ => rfl,
    answeredOk_regsKept _ _ _ fun d => ((Dev.RdKept.refl _ d).setStat (by decide) _ _).struct rfl⟩

end Sys2Proof.Machine
end

section
/-! PROOFS. O51: the supervision of the MP and the arming of the output path (R408 to R410, R415, R467). -/

namespace Sys2Proof.Machine

theorem Dev.rd64_wr64_mod (d : Dev) (a n : Nat) : (d.wr64 a n).rd64 a = n % 2 ^ 64 := by
  have h : d.wr64 a n = d.wr64 a (n % 2 ^ 64) := by
    unfold Dev.wr64 lo32 hi32
    have hlo : BitVec.ofNat 32 n = BitVec.ofNat 32 (n % 2 ^ 64) := by
      apply BitVec.eq_of_toNat_eq
      simp only [BitVec.toNat_ofNat]
      omega
    have hhi : BitVec.ofNat 32 (n / 2 ^ 32) = BitVec.ofNat 32 (n % 2 ^ 64 / 2 ^ 32) := by
      apply BitVec.eq_of_toNat_eq
      simp only [BitVec.toNat_ofNat]
      omega
    rw [← hlo, ← hhi]
  rw [h]
  exact Dev.rd64_wr64_same d a (Nat.mod_lt _ (by decide))

/-! What ends with the firmware (R409) -/

theorem Dev.setTbg_sameBut {blank : Dev → Dev} (hr : ForgetsRcf blank) (d : Dev) (st : Nat) : Dev.SameBut blank d (d.setTbg st) := by
  unfold Dev.setTbg
  split
  · exact .refl _ d
  · exact ((Dev.SameBut.withWall (f := (·.wrN Reg.TIME_TBG_STATE st)) hr ((Dev.SameBut.refl _ d).wr _ _)).irq _ _).emit hr _

theorem Dev.setTbg_rdKept (d : Dev) (st : Nat) : Dev.RdKept [Reg.TIME_TBG_STATE, Reg.IRQ_RAW pTIME, Reg.REC_SUPP_TOTAL] d (d.setTbg st) := by
  unfold Dev.setTbg
  split
  · exact .refl _ d
  · exact ((Dev.RdKept.withWall (f := (·.wrN Reg.TIME_TBG_STATE st)) (by decide) ((Dev.RdKept.refl _ d).wr (by decide) _)).irq (by decide) _).emit
      (by decide) _

theorem Dev.toHoldover_sameBut {blank : Dev → Dev} (ht : ForgetsTm blank) (hr : ForgetsRcf blank) (d : Dev) : Dev.SameBut blank d d.toHoldover := by
  unfold Dev.toHoldover
  split
  · exact ((Dev.SameBut.refl _ d).tm ht _).trans (Dev.setTbg_sameBut hr _ _)
  · exact .refl _ d

theorem Dev.toHoldover_rdKept (d : Dev) : Dev.RdKept [Reg.TIME_TBG_STATE, Reg.IRQ_RAW pTIME, Reg.REC_SUPP_TOTAL] d d.toHoldover := by
  unfold Dev.toHoldover
  split
  · exact ((Dev.RdKept.refl _ d).struct (e' := { d with tm := _ }) rfl).trans (Dev.setTbg_rdKept _ _)
  · exact .refl _ d

def ForgetsGps (blank : Dev → Dev) : Prop := ∀ (d : Dev) (x : Gnss), blank { d with gps := x } = blank d
theorem Dev.SameBut.gps {blank : Dev → Dev} {d e : Dev} (hb : ForgetsGps blank) (h : Dev.SameBut blank d e) (x : Gnss) :
    Dev.SameBut blank d { e with gps := x } := h.trans (hb { e with regs := [] } x)

/-- The register words of the baselines. -/
def blWords : List Nat := [Reg.BSS_BL_STATE 0, Reg.BSS_BL_STATE 1, Reg.BSS_BL_STATE 2, Reg.IRQ_RAW pBSS, Reg.REC_SUPP_TOTAL]

theorem mem_blWords : ∀ k ∈ [1, 2, 3], Reg.BSS_BL_STATE (k - 1) ∈ blWords := by decide

theorem Dev.setBl_sameBut (blank : Dev → Dev) (d : Dev) (k st : Nat) : Dev.SameBut blank d (d.setBl k st) := by
  unfold Dev.setBl
  split <;> exact .refl _ d

theorem Dev.setBl_rdKept (d : Dev) {k : Nat} (hk : k ∈ [1, 2, 3]) (st : Nat) : Dev.RdKept blWords d (d.setBl k st) := by
  unfold Dev.setBl
  split
  · exact .refl _ d
  · exact ((Dev.RdKept.refl _ d).setFld (mem_blWords k hk) _ _ _).irq (by decide) _

theorem Dev.blLose_sameBut {blank : Dev → Dev} (hg : ForgetsGps blank) (hr : ForgetsRcf blank) (d : Dev) (k code st : Nat) :
    Dev.SameBut blank d (d.blLose k code st) := by
  unfold Dev.blLose
  split
  · exact ((((Dev.SameBut.refl _ d).setFld _ _ _ _).trans (Dev.setBl_sameBut _ _ _ _)).gps hg _).emit hr _
  · exact ((Dev.SameBut.refl _ d).gps hg _).trans (Dev.setBl_sameBut _ _ _ _)

theorem Dev.blLose_rdKept (d : Dev) {k : Nat} (hk : k ∈ [1, 2, 3]) (code st : Nat) : Dev.RdKept blWords d (d.blLose k code st) := by
  unfold Dev.blLose
  split
  · extract_lets e
    have he : Dev.RdKept blWords d e := (((Dev.RdKept.refl _ d).setFld (mem_blWords k hk) _ _ _).trans (Dev.setBl_rdKept _ hk _)).struct rfl
    exact he.emit (by decide) _
  · exact ((Dev.RdKept.refl _ d).struct (e' := d.modBl k (fun _ => {})) rfl).trans (Dev.setBl_rdKept _ hk _)

theorem Dev.blLoseAll_sameBut {blank : Dev → Dev} (hg : ForgetsGps blank) (hr : ForgetsRcf blank) (d : Dev) (code : Nat) :
    Dev.SameBut blank d (d.blLoseAll code) := by
  refine .foldl _ _ fun k _ e => ?_
  split
  · exact .refl _ e
  · exact e.blLose_sameBut hg hr _ _ _

theorem Dev.blLoseAll_rdKept (d : Dev) (code : Nat) : Dev.RdKept blWords d (d.blLoseAll code) := by
  refine .foldl _ _ fun k hk e => ?_
  split
  · exact .refl _ e
  · exact e.blLose_rdKept hk _ _

def ForgetsAtt (blank : Dev → Dev) : Prop := ∀ (d : Dev) (x : AttEngine), blank { d with att := x } = blank d
theorem Dev.SameBut.att {blank : Dev → Dev} {d e : Dev} (hb : ForgetsAtt blank) (h : Dev.SameBut blank d e) (x : AttEngine) :
    Dev.SameBut blank d { e with att := x } := h.trans (hb { e with regs := [] } x)

/-- The register words that the end of a report touches. -/
def attEndWords : List Nat := [Reg.ATT_ATT_RESULT, Reg.STATUS pATT, Reg.IRQ_RAW pATT]

theorem Dev.attResult_rdKept (d : Dev) (code : Nat) : Dev.RdKept attEndWords d (d.attResult code) :=
  (((Dev.RdKept.refl _ d).wr (by decide) _).setStat (by decide) _ _).irq (by decide) _

theorem Dev.reportAbandoned_sameBut {blank : Dev → Dev} (ha : ForgetsAtt blank) (d : Dev) : Dev.SameBut blank d d.reportAbandoned := by
  unfold Dev.reportAbandoned
  split
  · exact (Dev.SameBut.refl _ d).att ha _
  · exact .refl _ d

theorem Dev.reportAbandoned_rdKept (d : Dev) : Dev.RdKept attEndWords d d.reportAbandoned := by
  unfold Dev.reportAbandoned
  split
  · exact ((Dev.RdKept.refl _ d).struct (e' := { d with att := { d.att with req := none } }) rfl).trans (Dev.attResult_rdKept _ _)
  · exact .refl _ d

theorem Dev.authResult_sameBut {blank : Dev → Dev} (hr : ForgetsRcf blank) (d : Dev) (code op slot : Nat) :
    Dev.SameBut blank d (d.authResult code op slot) := by
  unfold Dev.authResult
  extract_lets e
  split
  · exact .refl _ d
  · exact Dev.SameBut.emit (e := e) (.refl _ d) hr _

/-- The register words that the end of an authorisation touches. -/
def authEndWords : List Nat := [Reg.REC_AUTH_RESULT, Reg.IRQ_RAW pREC, Reg.REC_SUPP_TOTAL]

theorem Dev.authResult_rdKept (d : Dev) (code op slot : Nat) : Dev.RdKept authEndWords d (d.authResult code op slot) := by
  unfold Dev.authResult
  extract_lets e
  have he : Dev.RdKept authEndWords d e := ((Dev.RdKept.refl _ d).wr (by decide) _).irq (by decide) _
  split
  · exact he
  · exact he.emit (by decide) _

/-- The work of the firmware given up: its solution, its baselines, its report, an authorisation under way. -/
def Dev.workLost (d : Dev) : Dev := ((d.toHoldover.blLoseAll 5).reportAbandoned).setStat 0x00A 18 false

/-- An authorisation under way ends with result 6. -/
def Dev.authAbandoned (d : Dev) : Dev :=
  (({ d with rcf := { d.rcf with auth := [] } }).authResult 6 (field (d.rcf.auth.getD 1 0) 31 24) (field (d.rcf.auth.getD 1 0) 23 16)).setStat pREC 20 false

theorem Dev.mpDown_eq (d : Dev) : d.mpDown
    = if d.sessionsClosed.workLost.stat pREC 20 && d.sessionsClosed.workLost.rcf.clearing.isNone then d.sessionsClosed.workLost.authAbandoned
      else d.sessionsClosed.workLost := rfl

/-- The register words that going down touches, beside the sessions. -/
def mpDownWords : List Nat :=
  [Reg.TIME_TBG_STATE, Reg.IRQ_RAW pTIME, Reg.REC_SUPP_TOTAL, Reg.STATUS pBSS, Reg.STATUS pREC] ++ blWords ++ attEndWords ++ authEndWords

theorem Dev.workLost_rdKept (d : Dev) : Dev.RdKept mpDownWords d d.workLost :=
  (((d.toHoldover_rdKept.mono (by decide)).trans ((Dev.blLoseAll_rdKept _ _).mono (by decide))).trans
    ((Dev.reportAbandoned_rdKept _).mono (by decide))).setStat (by decide) _ _

theorem Dev.authAbandoned_rdKept (d : Dev) : Dev.RdKept mpDownWords d d.authAbandoned :=
  ((((Dev.RdKept.refl _ d).struct (e' := { d with rcf := { d.rcf with auth := [] } }) rfl).trans
    ((Dev.authResult_rdKept _ _ _ _).mono (by decide)))).setStat (by decide) _ _

/-- What going down changes beside register words. -/
def forgetDown (d : Dev) : Dev := { d with tm := {}, rcf := {}, gps := {}, att := {} }

theorem Dev.workLost_sameBut (d : Dev) : Dev.SameBut forgetDown d d.workLost :=
  (((d.toHoldover_sameBut (fun _ _ => rfl) (fun _ _ => rfl)).trans (Dev.blLoseAll_sameBut (fun _ _ => rfl) (fun _ _ => rfl) _ _)).trans
    (Dev.reportAbandoned_sameBut (fun _ _ => rfl) _)).setStat _ _ _

theorem Dev.authAbandoned_sameBut (d : Dev) : Dev.SameBut forgetDown d d.authAbandoned := by
  have h : Dev.SameBut forgetDown d { d with rcf := { d.rcf with auth := [] } } := rfl
  exact (h.trans (Dev.authResult_sameBut (fun _ _ => rfl) _ _ _ _)).setStat _ _ _

theorem Dev.mpDown_spec (d : Dev) : Dev.RdKept mpDownWords d.sessionsClosed d.mpDown ∧ Dev.SameBut forgetDown d.sessionsClosed d.mpDown := by
  rw [Dev.mpDown_eq]
  split
  · exact ⟨d.sessionsClosed.workLost_rdKept.trans (Dev.authAbandoned_rdKept _), d.sessionsClosed.workLost_sameBut.trans (Dev.authAbandoned_sameBut _)⟩
  · exact ⟨d.sessionsClosed.workLost_rdKept, d.sessionsClosed.workLost_sameBut⟩

theorem Dev.rd_sessionsClosed_sess (d : Dev) : d.sessionsClosed.rd Reg.HOST_IVY_SESS = 0#32 := Dev.rd_wr_same d Reg.HOST_IVY_SESS (w32 0)
theorem Dev.rd_sessionsClosed_ne (d : Dev) {a : Nat} (h : a ≠ Reg.HOST_IVY_SESS) : d.sessionsClosed.rd a = d.rd a := Dev.rd_wr_ne d (w32 0) h

theorem Dev.mpDown_down (d : Dev) : d.mpDown.fab.sessions = [none, none] ∧ d.mpDown.rd Reg.HOST_IVY_SESS = 0#32 ∧ d.mpDown.drv = d.drv ∧ d.mpDown.sup = d.sup := by
  obtain ⟨hrd, hsame⟩ := d.mpDown_spec
  exact ⟨hsame.proj (·.fab.sessions) (fun _ => rfl), (hrd _ (by decide)).trans d.rd_sessionsClosed_sess, hsame.proj (·.drv) (fun _ => rfl),
    hsame.proj (·.sup) (fun _ => rfl)⟩

/-- The words of the watchdog page stay. -/
theorem Dev.rd_mpDown (d : Dev) {a : Nat} (h : a ∉ Reg.HOST_IVY_SESS :: mpDownWords) : d.mpDown.rd a = d.rd a := by
  obtain ⟨hsess, hdown⟩ := List.ne_and_not_mem_of_not_mem_cons h
  exact (d.mpDown_spec.1 a hdown).trans (d.rd_sessionsClosed_ne hsess)

/-! A restart begins (R409) -/

/-- MP_STATE and the count of the restart. -/
def Dev.mpTallied (d : Dev) : Dev := (d.wrN Reg.WDG_MP_STATE mpRESTARTING).inc Reg.WDG_MP_RST_CNT

/-- MP_STATE, the count and the time of the restart. -/
def Dev.mpMarked (d : Dev) : Dev := d.mpTallied.wr64 Reg.WDG_MP_LAST_RST d.tm.tbm

/-- The restarts of the window with the present one. -/
def Dev.mpRunAdded (d : Dev) : Dev := { d with sup := { d.sup with mpRuns := d.mpRecent ++ [d.tm.tbm] } }

def Dev.mpCounted (d : Dev) : Dev := d.mpMarked.mpRunAdded

/-- A restart shown, before the firmware is down. -/
def Dev.mpShown (d : Dev) (expired : Bool) : Dev := ((if expired then d.fault pWDG 16 else d).irq pWDG 16).recIrq pWDG 16

theorem Dev.mpRecent_congr {d e : Dev} (hsup : e.sup = d.sup) (htm : e.tm = d.tm) (hwin : e.rd Reg.WDG_MP_RST_WIN = d.rd Reg.WDG_MP_RST_WIN) :
    e.mpRecent = d.mpRecent := by
  unfold Dev.mpRecent Dev.rdN
  rw [hsup, htm, hwin]

theorem Dev.mpBegin_eq (d : Dev) (expired : Bool) : d.mpBegin expired = (d.mpCounted.mpShown expired).mpDown := rfl

theorem Dev.mpTallied_rdKept (d : Dev) : Dev.RdKept [Reg.WDG_MP_STATE, Reg.WDG_MP_RST_CNT] d d.mpTallied :=
  ((Dev.RdKept.refl _ d).wr (by decide) _).wr (by decide) _

theorem Dev.mpTallied_state (d : Dev) : d.mpTallied.rd Reg.WDG_MP_STATE = w32 mpRESTARTING :=
  (Dev.rd_wr_ne (d.wrN Reg.WDG_MP_STATE mpRESTARTING) _ (by decide)).trans (Dev.rd_wr_same d Reg.WDG_MP_STATE (w32 mpRESTARTING))

theorem Dev.mpTallied_count (d : Dev) : d.mpTallied.rd Reg.WDG_MP_RST_CNT = d.rd Reg.WDG_MP_RST_CNT + 1#32 :=
  (Dev.rd_wr_same (d.wrN Reg.WDG_MP_STATE mpRESTARTING) Reg.WDG_MP_RST_CNT _).trans
    (congrArg (· + 1#32) (Dev.rd_wr_ne d (w32 mpRESTARTING) (by decide)))

theorem Dev.mpMarked_ne (d : Dev) {a : Nat} (h : a ∉ [Reg.WDG_MP_LAST_RST, Reg.WDG_MP_LAST_RST + 4]) : d.mpMarked.rd a = d.mpTallied.rd a :=
  ((Dev.RdKept.refl _ d.mpTallied).wr (by decide) _).wr (by decide) _ a h

theorem Dev.mpMarked_rdKept (d : Dev) :
    Dev.RdKept [Reg.WDG_MP_STATE, Reg.WDG_MP_RST_CNT, Reg.WDG_MP_LAST_RST, Reg.WDG_MP_LAST_RST + 4] d d.mpMarked :=
  ((d.mpTallied_rdKept.mono (by decide)).wr (by decide) _).wr (by decide) _

theorem Dev.mpMarked_time (d : Dev) : d.mpMarked.rd64 Reg.WDG_MP_LAST_RST = d.tm.tbm % 2 ^ 64 :=
  Dev.rd64_wr64_mod d.mpTallied Reg.WDG_MP_LAST_RST d.tm.tbm

theorem Dev.mpCounted_runs (d : Dev) : d.mpCounted.sup.mpRuns = d.mpRecent ++ [d.tm.tbm] :=
  congrArg (· ++ [d.tm.tbm]) (Dev.mpRecent_congr (d := d) (e := d.mpMarked) rfl rfl (d.mpMarked_rdKept _ (by decide)))

theorem Dev.mpState_congr {d e : Dev} (h : e.rd Reg.WDG_MP_STATE = d.rd Reg.WDG_MP_STATE) : e.mpState = d.mpState := congrArg (field · 1 0) h

theorem Dev.mpCounted_spec (d : Dev) : d.mpCounted.mpState = mpRESTARTING ∧ d.mpCounted.rd Reg.WDG_MP_RST_CNT = d.rd Reg.WDG_MP_RST_CNT + 1#32
    ∧ d.mpCounted.rd64 Reg.WDG_MP_LAST_RST = d.tm.tbm % 2 ^ 64
    ∧ Dev.RdKept [Reg.WDG_MP_STATE, Reg.WDG_MP_RST_CNT, Reg.WDG_MP_LAST_RST, Reg.WDG_MP_LAST_RST + 4] d d.mpCounted := by
  have hrd (a : Nat) : d.mpCounted.rd a = d.mpMarked.rd a := Dev.rd_of_regs rfl a
  refine ⟨?_, (hrd _).trans ((d.mpMarked_ne (by decide)).trans d.mpTallied_count), (Dev.rd64_congr (hrd _) (hrd _)).trans d.mpMarked_time,
    d.mpMarked_rdKept.struct rfl⟩
  have hstate : d.mpCounted.rd Reg.WDG_MP_STATE = w32 mpRESTARTING := (hrd _).trans ((d.mpMarked_ne (by decide)).trans d.mpTallied_state)
  unfold Dev.mpState Dev.fld
  rw [hstate]
  decide

/-- The register words that showing a restart touches. -/
def mpShownWords : List Nat := [Reg.FAULT pWDG, Reg.IRQ_RAW pWDG, Reg.REC_SUPP_TOTAL]

theorem Dev.mpShown_rdKept (d : Dev) (expired : Bool) : Dev.RdKept mpShownWords d (d.mpShown expired) := by
  have h : Dev.RdKept mpShownWords d (if expired then d.fault pWDG 16 else d) := by
    split
    · exact (Dev.RdKept.refl _ d).fault (by decide) (by decide) _
    · exact .refl _ d
  exact (h.irq (by decide) _).emit (by decide) _

theorem Dev.mpShown_sameBut (d : Dev) (expired : Bool) : Dev.SameBut (fun x => { x with rcf := {} }) d (d.mpShown expired) := by
  have h : Dev.SameBut (fun x => { x with rcf := {} }) d (if expired then d.fault pWDG 16 else d) := by
    split
    · exact (Dev.SameBut.refl _ d).fault _ _
    · exact .refl _ d
  exact (h.irq _ _).emit (fun _ _ => rfl) _

theorem Dev.mpShown_spec (d : Dev) (expired : Bool) : (d.mpShown expired).bit (Reg.IRQ_RAW pWDG) 16 = true
    ∧ (d.mpShown expired).bit (Reg.FAULT pWDG) 16 = (expired || d.bit (Reg.FAULT pWDG) 16) := by
  constructor
  · exact (congrArg (bitOf · 16) (Dev.rd_emit_ne _ _ (by decide))).trans (Dev.bit_irq_same _ _ (by decide))
  · refine (congrArg (bitOf · 16) ((Dev.rd_emit_ne _ _ (by decide)).trans (Dev.rd_irq_ne _ _ _ (by decide)))).trans ?_
    cases expired
    · rfl
    · exact (Dev.fault_spec _ _ _ (by decide)).1

/-- What a restart that begins leaves, the firmware down. -/
structure Dev.MpBegun (d e : Dev) (expired : Bool) : Prop where
  state : e.mpState = mpRESTARTING
  count : e.rd Reg.WDG_MP_RST_CNT = d.rd Reg.WDG_MP_RST_CNT + 1#32
  time : e.rd64 Reg.WDG_MP_LAST_RST = d.tm.tbm % 2 ^ 64
  irq : e.bit (Reg.IRQ_RAW pWDG) 16 = true
  fault : e.bit (Reg.FAULT pWDG) 16 = (expired || d.bit (Reg.FAULT pWDG) 16)
  stat : e.stat pWDG 16 = d.stat pWDG 16
  runs : e.sup.mpRuns = d.mpRecent ++ [d.tm.tbm]
  sessions : e.fab.sessions = [none, none]
  shown : e.rd Reg.HOST_IVY_SESS = 0#32
  drv : e.drv = d.drv

theorem Dev.mpBegin_begun (d : Dev) (expired : Bool) : d.MpBegun (d.mpBegin expired) expired := by
  rw [Dev.mpBegin_eq]
  obtain ⟨hsessions, hsess, hdrv, hsup⟩ := (d.mpCounted.mpShown expired).mpDown_down
  obtain ⟨hstate, hcount, htime, hkept⟩ := d.mpCounted_spec
  obtain ⟨hirq, hfault⟩ := d.mpCounted.mpShown_spec expired
  have hshown := d.mpCounted.mpShown_rdKept expired
  have hsame := d.mpCounted.mpShown_sameBut expired
  refine ⟨?_, ?_, ?_, ?_, ?_, ?_, ?_, hsessions, hsess, hdrv.trans (hsame.proj (·.drv) (fun _ => rfl))⟩
  · exact (Dev.mpState_congr ((Dev.rd_mpDown _ (by decide)).trans (hshown _ (by decide)))).trans hstate
  · exact (Dev.rd_mpDown _ (by decide)).trans ((hshown _ (by decide)).trans hcount)
  · exact (Dev.rd64_congr ((Dev.rd_mpDown _ (by decide)).trans (hshown _ (by decide))) ((Dev.rd_mpDown _ (by decide)).trans (hshown _ (by decide)))).trans htime
  · exact (congrArg (bitOf · 16) (Dev.rd_mpDown _ (by decide))).trans hirq
  · exact (congrArg (bitOf · 16) (Dev.rd_mpDown _ (by decide))).trans (hfault.trans (congrArg (expired || ·) (hkept.bit (by decide) 16)))
  · exact congrArg (bitOf · 16) ((Dev.rd_mpDown _ (by decide)).trans ((hshown _ (by decide)).trans (hkept _ (by decide))))
  · exact (congrArg Supervision.mpRuns (hsup.trans (hsame.proj (·.sup) (fun _ => rfl)))).trans d.mpCounted_runs

/-! Too many restarts (R410) -/

/-- The MP halted, before the firmware is down. -/
def Dev.mpHalts (d : Dev) : Dev := ((d.wrN Reg.WDG_MP_STATE mpHALTED).setStat pWDG 16 true).faultRec pWDG 17

theorem Dev.mpHalts_spec (d : Dev) : d.mpHalts.mpState = mpHALTED ∧ d.mpHalts.stat pWDG 16 = true ∧ d.mpHalts.bit (Reg.FAULT pWDG) 17 = true
    ∧ d.mpHalts.drv = d.drv := by
  have hsame : Dev.SameBut (fun x => { x with rcf := {} }) d d.mpHalts :=
    ((((Dev.SameBut.refl _ d).wr _ _).setStat _ _ _).faultRec (fun _ _ => rfl) _ _ _ _ _)
  refine ⟨?_, ?_, Dev.bit_faultRec _ _ (by decide), hsame.proj (·.drv) (fun _ => rfl)⟩
  · refine (congrArg (field · 1 0) ((Dev.rd_faultRec_ne _ _ _ (by decide) (by decide) (by decide)).trans ((Dev.rd_setBit_ne _ _ _ (by decide)).trans
      (Dev.rd_wr_same _ _ _)))).trans ?_
    decide
  · refine (congrArg (bitOf · 16) (Dev.rd_faultRec_ne _ _ _ (by decide) (by decide) (by decide))).trans ?_
    exact (Dev.bit_setBit _ _ _ _ _ (by decide) (by decide)).trans (if_pos rfl)

structure Dev.MpHalted (d e : Dev) : Prop where
  state : e.mpState = mpHALTED
  stat : e.stat pWDG 16 = true
  fault : e.bit (Reg.FAULT pWDG) 17 = true
  sessions : e.fab.sessions = [none, none]
  shown : e.rd Reg.HOST_IVY_SESS = 0#32
  drv : e.drv = d.drv

theorem Dev.mpHalts_down (d : Dev) : d.MpHalted d.mpHalts.mpDown := by
  obtain ⟨hsessions, hsess, hdrv, -⟩ := d.mpHalts.mpDown_down
  obtain ⟨hstate, hstat, hfault, hdrv'⟩ := d.mpHalts_spec
  exact ⟨(Dev.mpState_congr (Dev.rd_mpDown _ (by decide))).trans hstate, (congrArg (bitOf · 16) (Dev.rd_mpDown _ (by decide))).trans hstat,
    (congrArg (bitOf · 17) (Dev.rd_mpDown _ (by decide))).trans hfault, hsessions, hsess, hdrv.trans hdrv'⟩

theorem Dev.mpRestart_begins {d : Dev} (h : d.mpRecent.length + 1 ≤ d.rdN Reg.WDG_MP_RST_MAX) (expired : Bool) :
    d.mpRestart expired = d.mpBegin expired := if_neg (by omega)

theorem Dev.mpRestart_halts {d : Dev} (h : d.rdN Reg.WDG_MP_RST_MAX < d.mpRecent.length + 1) (expired : Bool) :
    d.mpRestart expired = d.mpHalts.mpDown := if_pos h

/-! The commands of the watchdog -/

theorem exec_mpWatchdogExpiry_due {s : State} (hrun : s.dev.mpState = mpRUN) (hboot : s.dev.att.boot = 4) (hpow : s.dev.powerState ≤ 1) :
    exec .mpWatchdogExpiry s = .next (onDev (fun d => (d.toTbm (d.sup.mpAt + 20000000)).mpRestart true) s) :=
  congrArg Host.Outcome.next (onDev_congr (if_pos ⟨hrun, hboot, hpow⟩))

theorem exec_mpWatchdogExpiry_not {s : State} (h : s.dev.mpState ≠ mpRUN ∨ s.dev.att.boot ≠ 4 ∨ 1 < s.dev.powerState) :
    exec .mpWatchdogExpiry s = .next s := by
  refine congrArg Host.Outcome.next ((onDev_congr (g := id) (if_neg ?_)).trans rfl)
  rintro ⟨hrun, hboot, hpow⟩
  rcases h with h | h | h
  · exact h hrun
  · exact h hboot
  · omega

/-- WDG_CMD 1: a running MP restarts. -/
def Dev.wdgRestart (d : Dev) : Dev := if d.mpState = mpRUN then d.mpRestart false else d
/-- WDG_CMD 2: a halted MP is released into one restart. -/
def Dev.wdgRelease (d : Dev) : Dev :=
  if d.mpState = mpHALTED then ({ d with sup := { d.sup with mpRuns := [] } }.setStat pWDG 16 false).mpBegin false else d

theorem exec_mpRestart (req : Requester) (s : State) :
    exec (.mpRestart req) s = .next (hostCmd req Reg.WDG_WDG_CMD 1#32 (actDev (·.wdgRestart)) s) := rfl
theorem exec_mpRelease (req : Requester) (s : State) :
    exec (.mpRelease req) s = .next (hostCmd req Reg.WDG_WDG_CMD 2#32 (actDev (·.wdgRelease)) s) := rfl

theorem mpRestart_runs {req : Requester} {s : State} (h : Accepts req Reg.WDG_WDG_CMD 1#32 s) (hrun : s.dev.mpState = mpRUN) :
    ∃ k, exec (.mpRestart req) s = .next (answeredOk req Reg.WDG_WDG_CMD (onDev (·.mpRestart false) (s.woken k))) := by
  obtain ⟨k, hk⟩ := hostCmd_dev h (·.wdgRestart)
  refine ⟨k, (exec_mpRestart req s).trans (congrArg Host.Outcome.next (hk.trans (congrArg (answeredOk req Reg.WDG_WDG_CMD) (onDev_congr ?_))))⟩
  exact if_pos hrun

/-- A halted MP with its list of restarts begun afresh. -/
def Dev.mpFreed (d : Dev) : Dev := { d with sup := { d.sup with mpRuns := [] } }.setStat pWDG 16 false

theorem mpRelease_halted {req : Requester} {s : State} (h : Accepts req Reg.WDG_WDG_CMD 2#32 s) (hhalt : s.dev.mpState = mpHALTED) :
    ∃ k, exec (.mpRelease req) s = .next (answeredOk req Reg.WDG_WDG_CMD (onDev (fun d => d.mpFreed.mpBegin false) (s.woken k))) := by
  obtain ⟨k, hk⟩ := hostCmd_dev h (·.wdgRelease)
  refine ⟨k, (exec_mpRelease req s).trans (congrArg Host.Outcome.next (hk.trans (congrArg (answeredOk req Reg.WDG_WDG_CMD) (onDev_congr ?_))))⟩
  exact if_pos hhalt

theorem exec_mpRestartDone {s : State} (h : s.dev.mpState = mpRESTARTING) :
    exec .mpRestartDone s = .next (onDev (fun d => ((d.wrN Reg.WDG_MP_STATE mpRUN).irq pWDG 17).mpUp) s) :=
  congrArg Host.Outcome.next (onDev_congr (if_pos h))

theorem exec_mpRestartDone_not {s : State} (h : s.dev.mpState ≠ mpRESTARTING) : exec .mpRestartDone s = .next s :=
  congrArg Host.Outcome.next ((onDev_congr (g := id) (if_neg h)).trans rfl)

/-- What stays beside the module's own state. -/
def KeptBeside (s t : State) : Prop := t.ldg = s.ldg ∧ t.rcd = s.rcd ∧ t.pending = s.pending

/-- The state in which the watchdog's period has run out. -/
def Dev.mpLate (d : Dev) : Dev := d.toTbm (d.sup.mpAt + 20000000)

theorem Dev.rd_mpLate (d : Dev) (a : Nat) : d.mpLate.rd a = d.rd a := rfl

theorem mpWatchdogExpiry_restarts {s : State} (hrun : s.dev.mpState = mpRUN) (hboot : s.dev.att.boot = 4) (hpow : s.dev.powerState ≤ 1)
    (hmax : s.dev.mpLate.mpRecent.length + 1 ≤ s.dev.rdN Reg.WDG_MP_RST_MAX) :
    ∃ t, exec .mpWatchdogExpiry s = .next t ∧ s.dev.mpLate.MpBegun t.dev true ∧ KeptBeside s t := by
  refine ⟨_, exec_mpWatchdogExpiry_due hrun hboot hpow, ?_, rfl, rfl, rfl⟩
  change s.dev.mpLate.MpBegun (s.dev.mpLate.mpRestart true) true
  rw [Dev.mpRestart_begins hmax]
  exact s.dev.mpLate.mpBegin_begun true

theorem mpWatchdogExpiry_halts {s : State} (hrun : s.dev.mpState = mpRUN) (hboot : s.dev.att.boot = 4) (hpow : s.dev.powerState ≤ 1)
    (hmax : s.dev.rdN Reg.WDG_MP_RST_MAX < s.dev.mpLate.mpRecent.length + 1) :
    ∃ t, exec .mpWatchdogExpiry s = .next t ∧ s.dev.mpLate.MpHalted t.dev ∧ KeptBeside s t := by
  refine ⟨_, exec_mpWatchdogExpiry_due hrun hboot hpow, ?_, rfl, rfl, rfl⟩
  change s.dev.mpLate.MpHalted (s.dev.mpLate.mpRestart true)
  rw [Dev.mpRestart_halts hmax]
  exact s.dev.mpLate.mpHalts_down

/-- The answer to a host command leaves what the restart did. -/
theorem Dev.MpBegun.answered {s : State} {k : Nat} {e : Dev} {expired : Bool} (h : (s.woken k).dev.MpBegun e expired) (q : Requester) (a : Nat) :
    s.dev.MpBegun (e.respond q a .ok 1 []) expired :=
  ⟨h.state, h.count, h.time, h.irq, h.fault, h.stat, h.runs, h.sessions, h.shown, h.drv⟩

theorem Dev.MpHalted.answered {s : State} {k : Nat} {e : Dev} (h : (s.woken k).dev.MpHalted e) (q : Requester) (a : Nat) :
    s.dev.MpHalted (e.respond q a .ok 1 []) := ⟨h.state, h.stat, h.fault, h.sessions, h.shown, h.drv⟩

theorem mpRestart_restarts {req : Requester} {s : State} (h : Accepts req Reg.WDG_WDG_CMD 1#32 s) (hrun : s.dev.mpState = mpRUN)
    (hmax : s.dev.mpRecent.length + 1 ≤ s.dev.rdN Reg.WDG_MP_RST_MAX) :
    ∃ t, exec (.mpRestart req) s = .next t ∧ answerTo req t = ⟨.ok, 1, []⟩ ∧ s.dev.MpBegun t.dev false ∧ KeptBeside s t := by
  obtain ⟨k, hk⟩ := mpRestart_runs h hrun
  have hbegun := (Dev.mpRestart_begins (d := (s.woken k).dev) hmax false).symm ▸ (s.woken k).dev.mpBegin_begun false
  exact ⟨_, hk, answerTo_answeredOk _ _ _, hbegun.answered req Reg.WDG_WDG_CMD, rfl, rfl, rfl⟩

theorem mpRestart_halts {req : Requester} {s : State} (h : Accepts req Reg.WDG_WDG_CMD 1#32 s) (hrun : s.dev.mpState = mpRUN)
    (hmax : s.dev.rdN Reg.WDG_MP_RST_MAX < s.dev.mpRecent.length + 1) :
    ∃ t, exec (.mpRestart req) s = .next t ∧ answerTo req t = ⟨.ok, 1, []⟩ ∧ s.dev.MpHalted t.dev ∧ KeptBeside s t := by
  obtain ⟨k, hk⟩ := mpRestart_runs h hrun
  have hhalted := (Dev.mpRestart_halts (d := (s.woken k).dev) hmax false).symm ▸ (s.woken k).dev.mpHalts_down
  exact ⟨_, hk, answerTo_answeredOk _ _ _, hhalted.answered req Reg.WDG_WDG_CMD, rfl, rfl, rfl⟩

theorem mpRestart_idle {req : Requester} {s : State} (h : Accepts req Reg.WDG_WDG_CMD 1#32 s) (hrun : s.dev.mpState ≠ mpRUN) :
    exec (.mpRestart req) s = .next (acceptedWrite req Reg.WDG_WDG_CMD id s) :=
  (exec_mpRestart req s).trans (congrArg Host.Outcome.next (hostCmd_idle h fun _ => if_neg hrun))

theorem mpRelease_idle {req : Requester} {s : State} (h : Accepts req Reg.WDG_WDG_CMD 2#32 s) (hhalt : s.dev.mpState ≠ mpHALTED) :
    exec (.mpRelease req) s = .next (acceptedWrite req Reg.WDG_WDG_CMD id s) :=
  (exec_mpRelease req s).trans (congrArg Host.Outcome.next (hostCmd_idle h fun _ => if_neg hhalt))

/-- The list of restarts begun afresh holds the one restart of the release. -/
theorem mpRelease_restarts {req : Requester} {s : State} (h : Accepts req Reg.WDG_WDG_CMD 2#32 s) (hhalt : s.dev.mpState = mpHALTED) :
    ∃ t, exec (.mpRelease req) s = .next t ∧ answerTo req t = ⟨.ok, 1, []⟩ ∧ t.dev.mpState = mpRESTARTING
      ∧ t.dev.rd Reg.WDG_MP_RST_CNT = s.dev.rd Reg.WDG_MP_RST_CNT + 1#32 ∧ t.dev.rd64 Reg.WDG_MP_LAST_RST = s.dev.tm.tbm % 2 ^ 64
      ∧ t.dev.bit (Reg.IRQ_RAW pWDG) 16 = true ∧ t.dev.fab.sessions = [none, none] ∧ t.dev.rd Reg.HOST_IVY_SESS = 0#32
      ∧ t.dev.drv = s.dev.drv ∧ t.dev.sup.mpRuns = [s.dev.tm.tbm] ∧ t.dev.stat pWDG 16 = false ∧ KeptBeside s t := by
  obtain ⟨k, hk⟩ := mpRelease_halted h hhalt
  have hbegun := (s.woken k).dev.mpFreed.mpBegin_begun false
  have hstat : (s.woken k).dev.mpFreed.stat pWDG 16 = false := (Dev.bit_setBit _ _ _ _ _ (by decide) (by decide)).trans (if_pos rfl)
  have hcount : (s.woken k).dev.mpFreed.rd Reg.WDG_MP_RST_CNT = s.dev.rd Reg.WDG_MP_RST_CNT := Dev.rd_setBit_ne _ _ _ (by decide)
  exact ⟨_, hk, answerTo_answeredOk _ _ _, hbegun.state, hbegun.count.trans (congrArg (· + 1#32) hcount), hbegun.time, hbegun.irq, hbegun.sessions, hbegun.shown,
    hbegun.drv, hbegun.runs, hbegun.stat.trans hstat, rfl, rfl, rfl⟩

/-- MP_RESTART_DONE: the firmware runs. -/
def Dev.mpDone (d : Dev) : Dev := ((d.wrN Reg.WDG_MP_STATE mpRUN).irq pWDG 17).mpUp

theorem Dev.mpDone_rdKept (d : Dev) : Dev.RdKept [Reg.WDG_MP_STATE, Reg.IRQ_RAW pWDG] d d.mpDone :=
  (((Dev.RdKept.refl _ d).wr (by decide) _).irq (by decide) _).struct rfl

theorem Dev.mpDone_state (d : Dev) : d.mpDone.mpState = mpRUN := by
  have hstate : d.mpDone.rd Reg.WDG_MP_STATE = w32 mpRUN :=
    (Dev.rd_irq_ne (d.wrN Reg.WDG_MP_STATE mpRUN) pWDG 17 (by decide)).trans (Dev.rd_wr_same d Reg.WDG_MP_STATE (w32 mpRUN))
  unfold Dev.mpState Dev.fld
  rw [hstate]
  decide

theorem mpRestartDone_runs {s : State} (h : s.dev.mpState = mpRESTARTING) :
    ∃ t, exec .mpRestartDone s = .next t ∧ t.dev.mpState = mpRUN ∧ t.dev.bit (Reg.IRQ_RAW pWDG) 17 = true
      ∧ t.dev.sup = { s.dev.sup with mpAt := s.dev.tm.tbm } ∧ differOnly (fun d => { d with sup := {} }) s t
      ∧ regsKept [Reg.WDG_MP_STATE, Reg.IRQ_RAW pWDG] s t :=
  ⟨_, exec_mpRestartDone h, s.dev.mpDone_state, Dev.bit_irq_same (s.dev.wrN Reg.WDG_MP_STATE mpRUN) pWDG (by decide), rfl, ⟨rfl, rfl, rfl, rfl⟩,
    s.dev.mpDone_rdKept⟩

/-! The output path armed and disarmed (R415) -/

/-- The output path armed. -/
def Dev.pathArmed (d : Dev) : Dev := ((d.setBit Reg.SYS_OUT_STATE 0 true).setBit Reg.SYS_OUT_STATE 1 false).railUpdate

/-- What the arm key does. -/
def Dev.armKeyed (d : Dev) : Dev :=
  if d.pow.pfAt.isSome then d else if d.armAllowed then d.pathArmed else d.setBit Reg.SYS_OUT_STATE 1 true

/-- What the disarm key does. -/
def Dev.disarmKeyed (d : Dev) : Dev := (if d.armed then d.safeState else d).openSwitches.disarm 2

theorem exec_outputArm (req : Requester) (s : State) :
    exec (.outputArm req) s = .next (hostCmd req Reg.SYS_OUT_ARM keyArm (actDev Dev.armKeyed) s) := rfl

theorem exec_outputDisarm (req : Requester) (s : State) :
    exec (.outputDisarm req) s = .next (hostCmd req Reg.SYS_OUT_ARM keyDisarm (actDev Dev.disarmKeyed) s) := rfl

theorem Dev.pathArmed_spec (d : Dev) : d.pathArmed.armed = true ∧ d.pathArmed.bit Reg.SYS_OUT_STATE 1 = false ∧ d.pathArmed.drv.ch = d.drv.ch := by
  have hkept := ((d.setBit Reg.SYS_OUT_STATE 0 true).setBit Reg.SYS_OUT_STATE 1 false).railUpdate_rdKept
  refine ⟨(hkept.bit (by decide) 0).trans ?_, (hkept.bit (by decide) 1).trans ?_, Dev.railUpdate_ch _⟩
  · exact (Dev.bit_setBit _ _ _ _ _ (by decide) (by decide)).trans ((if_neg (by decide)).trans
      ((Dev.bit_setBit d _ _ _ _ (by decide) (by decide)).trans (if_pos rfl)))
  · exact (Dev.bit_setBit _ _ _ _ _ (by decide) (by decide)).trans (if_pos rfl)

theorem outputArm_allowed {req : Requester} {s : State} (h : Accepts req Reg.SYS_OUT_ARM keyArm s) (hpf : s.dev.pow.pfAt = none)
    (hallow : s.dev.armAllowed = true) :
    ∃ t, exec (.outputArm req) s = .next t ∧ answerTo req t = ⟨.ok, 1, []⟩ ∧ t.dev.armed = true ∧ t.dev.bit Reg.SYS_OUT_STATE 1 = false
      ∧ t.dev.drv.ch = s.dev.drv.ch ∧ KeptBeside s t := by
  obtain ⟨k, hk⟩ := hostCmd_dev h Dev.armKeyed
  have harm : (s.woken k).dev.armKeyed = (s.woken k).dev.pathArmed := by
    refine (if_neg ?_).trans (if_pos hallow)
    rw [show (s.woken k).dev.pow.pfAt = none from hpf]
    decide
  obtain ⟨harmed, hrefused, hch⟩ := (s.woken k).dev.pathArmed_spec
  refine ⟨_, (exec_outputArm req s).trans (congrArg Host.Outcome.next (hk.trans (congrArg (answeredOk req Reg.SYS_OUT_ARM) (onDev_congr harm)))),
    answerTo_answeredOk _ _ _, harmed, hrefused, hch, rfl, rfl, rfl⟩

theorem outputArm_refused {req : Requester} {s : State} (h : Accepts req Reg.SYS_OUT_ARM keyArm s) (hpf : s.dev.pow.pfAt = none)
    (hallow : s.dev.armAllowed = false) :
    exec (.outputArm req) s = .next (acceptedWrite req Reg.SYS_OUT_ARM (·.setBit Reg.SYS_OUT_STATE 1 true) s) := by
  obtain ⟨k, hk⟩ := h.woken
  refine (exec_outputArm req s).trans (congrArg Host.Outcome.next ((hostCmd_actDev Dev.armKeyed h).trans (acceptedWrite_congr ?_)))
  rw [hk]
  refine (if_neg ?_).trans (if_neg ?_)
  · rw [show (s.woken k).dev.pow.pfAt = none from hpf]
    decide
  · rw [show (s.woken k).dev.armAllowed = false from hallow]
    decide

theorem outputArm_warned {req : Requester} {s : State} (h : Accepts req Reg.SYS_OUT_ARM keyArm s) (hpf : s.dev.pow.pfAt ≠ none) :
    exec (.outputArm req) s = .next (acceptedWrite req Reg.SYS_OUT_ARM id s) :=
  (exec_outputArm req s).trans (congrArg Host.Outcome.next (hostCmd_idle h fun _ => if_pos (Option.isSome_iff_ne_none.mpr hpf)))

/-- The disarm key before the path is disarmed: the metered channels in their safe state where it was armed, the switches open. -/
def Dev.outputsOff (d : Dev) : Dev := (if d.armed then d.safeState else d).openSwitches

theorem Dev.outputsOff_switch {d : Dev} {c : Nat} (h : d.mode c = mSWITCH) : d.outputsOff.isOn c = false := by
  refine Dev.openSwitches_off ?_
  split
  · exact (d.safeState_rdKept.mode safeWords_low c).trans h
  · exact h

theorem Dev.outputsOff_metered {d : Dev} {c : Nat} (harmed : d.armed = true) (h : d.metered c = true) : d.outputsOff.isOn c = false := by
  unfold Dev.outputsOff
  rw [if_pos harmed]
  exact Dev.openSwitches_keeps_off (Dev.safeState_off h)

theorem Dev.disarm_spec (d : Dev) : (d.disarm 2).armed = false ∧ (d.disarm 2).fld Reg.SYS_OUT_STATE 7 4 = 2 ∧ (d.disarm 2).drv.ch = d.drv.ch := by
  have hkept := ((d.setFld Reg.SYS_OUT_STATE 7 4 2).setBit Reg.SYS_OUT_STATE 0 false).railUpdate_rdKept
  refine ⟨(hkept.bit (by decide) 0).trans ?_, (hkept.fld (by decide) 7 4).trans ?_, Dev.railUpdate_ch _⟩
  · exact (Dev.bit_setBit _ _ _ _ _ (by decide) (by decide)).trans (if_pos rfl)
  · exact (Dev.fld_setBit_apart (d.setFld Reg.SYS_OUT_STATE 7 4 2) Reg.SYS_OUT_STATE (b := 0) false (by decide) (by decide)).trans (Dev.fld_setFld_same d Reg.SYS_OUT_STATE 4 2 (by decide))

theorem outputDisarm_off {req : Requester} {s : State} (h : Accepts req Reg.SYS_OUT_ARM keyDisarm s) :
    ∃ t, exec (.outputDisarm req) s = .next t ∧ answerTo req t = ⟨.ok, 1, []⟩ ∧ t.dev.armed = false ∧ t.dev.fld Reg.SYS_OUT_STATE 7 4 = 2
      ∧ (∀ c, s.dev.mode c = mSWITCH → t.dev.isOn c = false) ∧ (s.dev.armed = true → ∀ c, s.dev.metered c = true → t.dev.isOn c = false)
      ∧ KeptBeside s t := by
  obtain ⟨k, hk⟩ := hostCmd_dev h Dev.disarmKeyed
  obtain ⟨harmed, hwhy, hch⟩ := (s.woken k).dev.outputsOff.disarm_spec
  refine ⟨_, (exec_outputDisarm req s).trans (congrArg Host.Outcome.next hk), answerTo_answeredOk _ _ _, harmed, hwhy, fun c hc => ?_, fun ha c hc => ?_,
    rfl, rfl, rfl⟩
  · exact (Dev.isOn_of_ch hch c).trans (Dev.outputsOff_switch (d := (s.woken k).dev) hc)
  · exact (Dev.isOn_of_ch hch c).trans (Dev.outputsOff_metered (d := (s.woken k).dev) ha hc)

/-- Settles O51. -/
theorem mpSupervisionAndArming : Obligations.MpSupervisionAndArming := by
  unfold Obligations.MpSupervisionAndArming
  intro req data s kept late down begun halted
  refine ⟨?_, fun hrun hboot hpow => ⟨fun hmax => ?_, fun hmax => ?_⟩, exec_mpWatchdogExpiry_not, fun h => ⟨fun hrun hmax => ?_, fun hrun hmax => ?_, mpRestart_idle h⟩,
    fun h => ⟨fun hhalt => ?_, mpRelease_idle h⟩, mpRestartDone_runs, exec_mpRestartDone_not,
    fun h => ⟨outputArm_allowed h, outputArm_refused h, outputArm_warned h⟩, outputDisarm_off⟩
  · exact fun h => congrArg Host.Outcome.next (hostCmd_actDev _ h)
  · obtain ⟨t, ht, hb, hkept⟩ := mpWatchdogExpiry_restarts hrun hboot hpow hmax
    exact ⟨t, ht, ⟨hb.state, hb.count, hb.time, hb.irq, hb.sessions, hb.shown, hb.drv, hkept⟩, hb.runs, hb.fault⟩
  · obtain ⟨t, ht, hh, hkept⟩ := mpWatchdogExpiry_halts hrun hboot hpow hmax
    exact ⟨t, ht, hh.state, hh.stat, hh.fault, hh.sessions, hh.shown, hh.drv, hkept⟩
  · obtain ⟨t, ht, hok, hb, hkept⟩ := mpRestart_restarts h hrun hmax
    exact ⟨t, ht, hok, ⟨hb.state, hb.count, hb.time, hb.irq, hb.sessions, hb.shown, hb.drv, hkept⟩, hb.runs, hb.fault⟩
  · obtain ⟨t, ht, hok, hh, hkept⟩ := mpRestart_halts h hrun hmax
    exact ⟨t, ht, hok, hh.state, hh.stat, hh.fault, hh.sessions, hh.shown, hh.drv, hkept⟩
  · obtain ⟨t, ht, hok, hstate, hcount, htime, hirq, hsess, hshown, hdrv, hruns, hstat, hkept⟩ := mpRelease_restarts h hhalt
    exact ⟨t, ht, hok, ⟨hstate, hcount, htime, hirq, hsess, hshown, hdrv, hkept⟩, hruns, hstat⟩

end Sys2Proof.Machine
end

section
/-! PROOFS. Record intake: a record's time in a part that is parked. -/
namespace Sys2Proof.Machine

/-- A part in EBB, CK_SYS stopped, with the summary of a code waiting at intake. -/
def ebbIntake : State :=
  { State.reset with dev := { ebbPart with rcf := { ebbPart.rcf with intake := [summaryEvent 0 {} 0] } } }

/-- The record is taken within one CK_AON period of the TB-M before, so that its time is that TB-M and not 10 ns more. -/
theorem ebbIntake_taken :
    ebbIntake.dev.intakeFree = true ∧ ebbIntake.dev.rateEntry (summaryEvent 0 {} 0).codeOf = 0xFFFF
      ∧ ebbIntake.intakeOne.rcd.undrained.getLast?.map Record.tbm ≠ some (ebbIntake.dev.tm.tbm + 10) := by
  decide +kernel

/-- Refutes O52: the statement speaks of every part, and where one stands in EBB its TB-M moves by CK_AON periods, so that the record
does not bear the time 10 ns on. -/
theorem not_recordIntake : ¬ Obligations.RecordIntake := by
  intro h
  obtain ⟨hfree, hrate, htime⟩ := ebbIntake_taken
  obtain ⟨t, ht, -, hlast, -⟩ := ((h .hsl 0 0 0#32 (summaryEvent 0 {} 0) [] ebbIntake).1 rfl hfree).1 (.inl hrate)
  have hnext : ebbIntake.intakeOne = t := Host.Outcome.next.inj ((execRecordIntake_eq ebbIntake).symm.trans ht)
  refine htime ?_
  rw [hnext]
  exact congrArg (Option.map Record.tbm) hlast

end Sys2Proof.Machine
end

section
/-! PROOFS. Keys and authorisations of the recorder (R436 to R439). -/
namespace Sys2Proof.Machine

/-! An accepted write by what its action answers -/

/-- An accepted write whose action completes. -/
theorem hostCmd_acts {q : Requester} {a : Nat} {v : W32} {s : State} (h : Accepts q a v s) {act : Act} {t : Nat → State}
    (hact : ∀ k, act (s.woken k) = (.ok, t k)) : ∃ k, hostCmd q a v act s = answeredOk q a (t k) := by
  obtain ⟨k, hk⟩ := h.woken
  exact ⟨k, hostCmd_ok h (by rw [hk]; exact hact k)⟩

/-- An accepted write whose action refuses with LEN. -/
theorem hostCmd_lens {q : Requester} {a p : Nat} {v : W32} {s : State} (h : Accepts q a v s) {act : Act}
    (hact : ∀ k, act (s.woken k) = (.len, onDev (·.lenReject p) (s.woken k))) : ∃ k, hostCmd q a v act s = lenRefused q a p (s.woken k) := by
  obtain ⟨k, hk⟩ := h.woken
  refine ⟨k, ?_⟩
  rw [hostCmd_accepted h, hk, hact k]
  rfl

theorem Dev.bit_setBit_same (d : Dev) (a : Nat) {b : Nat} (v : Bool) (hb : b < 32) : (d.setBit a b v).bit a b = v :=
  (Dev.bit_setBit d a b b v hb hb).trans (if_pos rfl)

/-- An event leaves the recorder's front end but for its queue and its counts. -/
theorem Dev.emit_rcf (d : Dev) (e : Event) : ∃ i r p, (d.emit e).rcf = { d.rcf with intake := i, refused := r, supp := p } := by
  rcases d.emit_cases e with h | h | h
  · exact ⟨d.rcf.intake, d.rcf.refused + 1, d.rcf.supp, congrArg Dev.rcf h⟩
  · exact ⟨d.rcf.intake, d.rcf.refused, (d.suppress e.codeOf).rcf.supp, (congrArg Dev.rcf h).trans rfl⟩
  · exact ⟨enqueueEvent d.rcf.intake e, d.rcf.refused, d.rcf.supp, congrArg Dev.rcf h⟩

theorem Dev.emit_rdKept (d : Dev) (e : Event) : Dev.RdKept [Reg.REC_SUPP_TOTAL] d (d.emit e) := (Dev.RdKept.refl _ d).emit (by decide) e

/-! Nonces (R436) -/

/-- The words of a nonce shown. -/
def Dev.nonceShown (d : Dev) (ws : List W32) : Dev := ws.zipIdx.foldl (fun d (p : W32 × Nat) => d.wr (Reg.REC_NONCE p.2) p.1) d

/-- The words of a nonce by its number, and those of the nonce that is issued next. -/
def nonceWordsOf (n : Nat) : List W32 := wordsBE (natBE 16 (Config.recorderNonce n).toNat)
def Dev.nonceWords (d : Dev) : List W32 := nonceWordsOf d.rcf.nonceCnt

/-- A nonce noted as issued. -/
def Dev.nonceNoted (d : Dev) (t : Nat) : Dev := { d with rcf := { d.rcf with nonceAt := some t, nonceCnt := d.rcf.nonceCnt + 1 } }

theorem Dev.nonceNoted_rd (d : Dev) (t a : Nat) : (d.nonceNoted t).rd a = d.rd a := rfl

/-- REC_CMD 1: a fresh nonce. -/
def Dev.nonceIssued (d : Dev) : Dev := (d.nonceShown d.nonceWords).nonceNoted d.tm.tbm

theorem exec_recNonce (req : Requester) (s : State) :
    exec (.recNonce req) s = .next (hostCmd req Reg.REC_REC_CMD 1#32 (actDev Dev.nonceIssued) s) := rfl

theorem Dev.nonceWords_four (d : Dev) : ∃ w x y z, d.nonceWords = [w, x, y, z] := ⟨_, _, _, _, rfl⟩

theorem Dev.nonceShown_four (d : Dev) (w x y z : W32) : d.nonceShown [w, x, y, z]
    = (((d.wr (Reg.REC_NONCE 0) w).wr (Reg.REC_NONCE 1) x).wr (Reg.REC_NONCE 2) y).wr (Reg.REC_NONCE 3) z := rfl

theorem Dev.nonceShown_sameBut (blank : Dev → Dev) (d : Dev) (ws : List W32) : Dev.SameBut blank d (d.nonceShown ws) :=
  .foldl _ _ fun _ _ e => (Dev.SameBut.refl blank e).wr _ _

theorem Dev.nonceShown_rcf (d : Dev) (ws : List W32) : (d.nonceShown ws).rcf = d.rcf := (d.nonceShown_sameBut id ws).proj (·.rcf) (fun _ => rfl)

theorem Dev.nonceIssued_rcf (d : Dev) : d.nonceIssued.rcf = { d.rcf with nonceAt := some d.tm.tbm, nonceCnt := d.rcf.nonceCnt + 1 } :=
  congrArg (fun r : RecFront => { r with nonceAt := some d.tm.tbm, nonceCnt := r.nonceCnt + 1 }) (d.nonceShown_rcf d.nonceWords)

theorem Dev.nonceIssued_sameBut {blank : Dev → Dev} (hr : ForgetsRcf blank) (d : Dev) : Dev.SameBut blank d d.nonceIssued :=
  (d.nonceShown_sameBut blank d.nonceWords).trans (hr { d.nonceShown d.nonceWords with regs := [] } _)

theorem Dev.nonceIssued_rdKept (d : Dev) : Dev.RdKept ((List.range 4).map Reg.REC_NONCE) d d.nonceIssued := by
  obtain ⟨w, x, y, z, hw⟩ := d.nonceWords_four
  refine Dev.RdKept.struct (e := d.nonceShown d.nonceWords) ?_ rfl
  rw [hw, Dev.nonceShown_four]
  exact ((((Dev.RdKept.refl _ d).wr (by decide) w).wr (by decide) x).wr (by decide) y).wr (by decide) z

theorem Dev.nonceShown_reads (d : Dev) (w x y z : W32) {k : Nat} (hk : k < 4) :
    (d.nonceShown [w, x, y, z]).rd (Reg.REC_NONCE k) = [w, x, y, z].getD k 0 := by
  rw [Dev.nonceShown_four]
  obtain rfl | rfl | rfl | rfl : k = 0 ∨ k = 1 ∨ k = 2 ∨ k = 3 := by omega
  all_goals simp [Dev.rd_wr, Reg.REC_NONCE]

theorem Dev.nonceIssued_reads (d : Dev) {k : Nat} (hk : k < 4) : d.nonceIssued.rd (Reg.REC_NONCE k) = d.nonceWords.getD k 0 := by
  obtain ⟨w, x, y, z, hw⟩ := d.nonceWords_four
  unfold Dev.nonceIssued
  rw [Dev.nonceNoted_rd, hw]
  exact d.nonceShown_reads w x y z hk

/-! An authorisation submitted (R438) -/

/-- The words of the authorisation written. -/
def Dev.authWritten (d : Dev) : List W32 := (List.range 41).map (fun i => d.rd (Reg.REC_AUTH i))

/-- Its nonce is the one issued, and not too old. -/
def Dev.authFresh (d : Dev) : Bool :=
  d.rcf.nonceAt.any (fun t => decide (d.tm.tbm ≤ t + 300000000000))
    && (d.authWritten.drop 4).take 4 = (List.range 4).map (fun i => d.rd (Reg.REC_NONCE i))

/-- The nonce spent. -/
def Dev.nonceSpent (d : Dev) : Dev := { d with rcf := { d.rcf with nonceAt := none } }

/-- The result of an authorisation that was written. -/
def Dev.authAnswered (d : Dev) (code : Nat) : Dev :=
  d.nonceSpent.authResult code (field (d.authWritten.getD 1 0) 31 24) (field (d.authWritten.getD 1 0) 23 16)

/-- The authorisation handed to the firmware. -/
def Dev.authHanded (d : Dev) : Dev :=
  { d.nonceSpent.setStat pREC 20 true with rcf := { d.nonceSpent.rcf with auth := d.authWritten, authNonce := d.authFresh } }

/-- REC_CMD 2: the authorisation submitted. -/
def Dev.authSubmitted (d : Dev) : Dev :=
  if d.nonceSpent.stat pREC 20 then d.authAnswered 7 else if d.nonceSpent.mpState ≠ mpRUN then d.authAnswered 6 else d.authHanded

theorem exec_recAuth (req : Requester) (s : State) :
    exec (.recAuth req) s = .next (hostCmd req Reg.REC_REC_CMD 2#32 (actDev Dev.authSubmitted) s) := rfl

theorem Dev.authSubmitted_busy {d : Dev} (h : d.stat pREC 20 = true) : d.authSubmitted = d.authAnswered 7 := if_pos h
theorem Dev.authSubmitted_down {d : Dev} (h : d.stat pREC 20 = false) (hmp : d.mpState ≠ mpRUN) : d.authSubmitted = d.authAnswered 6 :=
  (if_neg (Bool.eq_false_iff.mp h)).trans (if_pos hmp)
theorem Dev.authSubmitted_handed {d : Dev} (h : d.stat pREC 20 = false) (hmp : d.mpState = mpRUN) : d.authSubmitted = d.authHanded :=
  (if_neg (Bool.eq_false_iff.mp h)).trans (if_neg (fun hne => hne hmp))

/-- What ends an authorisation: its result and the interrupt; nothing else of the recorder's but its queue and counts. -/
theorem Dev.authResult_ends (d : Dev) {code : Nat} (op slot : Nat) (hcode : code < 2 ^ 32) :
    (d.authResult code op slot).rdN Reg.REC_AUTH_RESULT = code ∧ (d.authResult code op slot).bit (Reg.IRQ_RAW pREC) 17 = true
      ∧ ∃ i r p, (d.authResult code op slot).rcf = { d.rcf with intake := i, refused := r, supp := p } := by
  unfold Dev.authResult
  extract_lets e
  have hresult : e.rd Reg.REC_AUTH_RESULT = w32 code :=
    (Dev.rd_irq_ne (d.wrN Reg.REC_AUTH_RESULT code) pREC 17 (by decide)).trans (Dev.rd_wr_same d Reg.REC_AUTH_RESULT (w32 code))
  have hvalue : (w32 code).toNat = code := Nat.mod_eq_of_lt hcode
  have hirq : e.bit (Reg.IRQ_RAW pREC) 17 = true := Dev.bit_irq_same (d.wrN Reg.REC_AUTH_RESULT code) pREC (by decide)
  split
  · exact ⟨(congrArg BitVec.toNat hresult).trans hvalue, hirq, _, _, _, rfl⟩
  · have hkept := e.emit_rdKept ⟨true, 0x3C9, 0, 0, 0, 0, 0, [w32 code, w32 op, w32 slot], e.tm.tbm⟩
    exact ⟨(congrArg BitVec.toNat ((hkept _ (by decide)).trans hresult)).trans hvalue, (hkept.bit (by decide) 17).trans hirq,
      e.emit_rcf ⟨true, 0x3C9, 0, 0, 0, 0, 0, [w32 code, w32 op, w32 slot], e.tm.tbm⟩⟩

theorem recAuth_answered {req : Requester} {s : State} (h : Accepts req Reg.REC_REC_CMD 2#32 s) {code : Nat} (hcode : code < 2 ^ 32)
    (hsub : ∀ k, (s.woken k).dev.authSubmitted = (s.woken k).dev.authAnswered code) :
    ∃ t, exec (.recAuth req) s = .next t ∧ answerTo req t = ⟨.ok, 1, []⟩ ∧ t.dev.rdN Reg.REC_AUTH_RESULT = code
      ∧ t.dev.bit (Reg.IRQ_RAW pREC) 17 = true ∧ t.ldg = s.ldg ∧ t.pending = s.pending ∧ t.dev.rcf.nonceAt = none ∧ t.dev.rcf.auth = s.dev.rcf.auth
      ∧ t.rcd = s.rcd ∧ t.dev.stat pREC 20 = s.dev.stat pREC 20 := by
  obtain ⟨k, hk⟩ := hostCmd_dev h Dev.authSubmitted
  rw [onDev_congr (g := fun d => d.authAnswered code) (hsub k)] at hk
  obtain ⟨hresult, hirq, i, r, p, hrcf⟩ := (s.woken k).dev.nonceSpent.authResult_ends (field ((s.woken k).dev.authWritten.getD 1 0) 31 24)
    (field ((s.woken k).dev.authWritten.getD 1 0) 23 16) hcode
  refine ⟨_, (exec_recAuth req s).trans (congrArg Host.Outcome.next hk), answerTo_answeredOk _ _ _, hresult, hirq, rfl, rfl, ?_, ?_, rfl, ?_⟩
  · exact (congrArg RecFront.nonceAt hrcf).trans rfl
  · exact (congrArg RecFront.auth hrcf).trans rfl
  · exact (Dev.authResult_rdKept _ _ _ _).bit (by decide) 20

theorem recAuth_handed {req : Requester} {s : State} (h : Accepts req Reg.REC_REC_CMD 2#32 s) (hidle : s.dev.stat pREC 20 = false)
    (hmp : s.dev.mpState = mpRUN) :
    ∃ t, exec (.recAuth req) s = .next t ∧ answerTo req t = ⟨.ok, 1, []⟩ ∧ t.dev.stat pREC 20 = true
      ∧ t.dev.rcf = { s.dev.rcf with nonceAt := none, auth := s.dev.authWritten, authNonce := s.dev.authFresh }
      ∧ differOnly (fun d => { d with rcf := {}, fab := {}, pow := {} }) s t ∧ regsKept [Reg.STATUS pREC] s t := by
  obtain ⟨k, hk⟩ := hostCmd_dev h Dev.authSubmitted
  rw [onDev_congr (g := Dev.authHanded) (Dev.authSubmitted_handed (d := (s.woken k).dev) hidle hmp)] at hk
  refine ⟨_, (exec_recAuth req s).trans (congrArg Host.Outcome.next hk), answerTo_answeredOk _ _ _, ?_, rfl, ⟨rfl, rfl, rfl, rfl⟩, ?_⟩
  · exact Dev.bit_setBit_same (s.woken k).dev.nonceSpent (Reg.STATUS pREC) true (by decide)
  · exact ((Dev.RdKept.refl _ (s.woken k).dev.nonceSpent).setStat (by decide) 20 true).struct rfl

/-! The firmware's check (R438) -/

/-- The result of the authorisation under way, whose words are gone. -/
def Dev.authEnded (d : Dev) (code : Nat) : Dev :=
  { d.authResult code (field (d.rcf.auth.getD 1 0) 31 24) (field (d.rcf.auth.getD 1 0) 23 16) with
    rcf := { (d.authResult code (field (d.rcf.auth.getD 1 0) 31 24) (field (d.rcf.auth.getD 1 0) 23 16)).rcf with auth := [] } }

/-- An accepted CLEAR begins. -/
def Dev.clearBegun (d : Dev) (slot : Nat) : Dev := { d.setStat pREC 18 true with rcf := { d.rcf with clearing := some slot } }

/-- The key of an authorisation to change one; none where all its words are 0. -/
def authKey (a : List W32) : List W32 :=
  if ((a.drop 9).take 16).all (fun x => decide (x = 0#32)) then [] else (a.drop 9).take 16

/-- The record of a changed key. -/
def keyRecord (a : List W32) : List W32 :=
  [w32 (field (a.getD 1 0) 15 8)]
    ++ (if ((a.drop 9).take 16).all (fun x => decide (x = 0#32)) then [0#32, 0#32, 0#32, 0#32] else keyTag ((a.drop 9).take 16))
    ++ [w32 (field (a.getD 1 0) 23 16)]

section
variable {s : State} (hunder : s.dev.stat pREC 20 = true) (hclear : s.dev.rcf.clearing = none)
include hunder hclear

theorem authComplete_goes : ¬((!s.dev.stat pREC 20) = true ∨ s.dev.rcf.clearing.isSome = true) := by simp [hunder, hclear]

theorem exec_authComplete_refused (hcode : s.authCode s.dev.rcf.auth ≠ 0) :
    exec .authComplete s = .next (onDev (fun d => (d.authEnded (s.authCode s.dev.rcf.auth)).setStat pREC 20 false) s) :=
  congrArg Host.Outcome.next ((if_neg (authComplete_goes hunder hclear)).trans (if_pos hcode))

theorem exec_authComplete_clears (hcode : s.authCode s.dev.rcf.auth = 0) (hop : field (s.dev.rcf.auth.getD 1 0) 31 24 = 1) :
    exec .authComplete s = .next (onDev (fun d => (d.authEnded (s.authCode s.dev.rcf.auth)).clearBegun (field (s.dev.rcf.auth.getD 1 0) 23 16)) s) :=
  congrArg Host.Outcome.next ((if_neg (authComplete_goes hunder hclear)).trans ((if_neg (fun hne => hne hcode)).trans (if_pos hop)))

theorem exec_authComplete_changes (hcode : s.authCode s.dev.rcf.auth = 0) (hop : field (s.dev.rcf.auth.getD 1 0) 31 24 = 2) :
    exec .authComplete s = .next (onDev (fun d => (d.setStat pREC 20 false).recOwn 0x3CA (keyRecord s.dev.rcf.auth))
      ((onDev (·.authEnded (s.authCode s.dev.rcf.auth)) s).setKey (field (s.dev.rcf.auth.getD 1 0) 15 8) (authKey s.dev.rcf.auth))) :=
  congrArg Host.Outcome.next ((if_neg (authComplete_goes hunder hclear)).trans ((if_neg (fun hne => hne hcode)).trans
    (if_neg (by rw [hop]; decide))))
end

theorem Dev.authEnded_spec (d : Dev) {code : Nat} (hcode : code < 2 ^ 32) :
    (d.authEnded code).rdN Reg.REC_AUTH_RESULT = code ∧ (d.authEnded code).bit (Reg.IRQ_RAW pREC) 17 = true
      ∧ Dev.RdKept authEndWords d (d.authEnded code) := by
  obtain ⟨hresult, hirq, -⟩ := d.authResult_ends (field (d.rcf.auth.getD 1 0) 31 24) (field (d.rcf.auth.getD 1 0) 23 16) hcode
  exact ⟨hresult, hirq, (d.authResult_rdKept code (field (d.rcf.auth.getD 1 0) 31 24) (field (d.rcf.auth.getD 1 0) 23 16)).struct rfl⟩

/-- An authorisation to change a key that the check accepts names a slot below 4. -/
theorem State.authCode_target {s : State} {a : List W32} (hcode : s.authCode a = 0) (hop : field (a.getD 1 0) 31 24 = 2) :
    field (a.getD 1 0) 15 8 ≤ 3 := by
  by_contra hbig
  have hone : s.authCode a = 1 := if_pos (.inr (.inr (.inr (.inr (.inr (.inl ⟨hop, fun hin => hbig hin.2⟩))))))
  rw [hone] at hcode
  exact absurd hcode (by decide)

theorem State.authCode_lt (s : State) (a : List W32) : s.authCode a < 2 ^ 32 := by
  unfold State.authCode
  extract_lets w op slot target newKey zero big
  refine iteInduction (motive := (· < 2 ^ 32)) (fun _ => by decide) fun _ => ?_
  refine iteInduction (motive := (· < 2 ^ 32)) (fun _ => by decide) fun _ => ?_
  refine iteInduction (motive := (· < 2 ^ 32)) (fun _ => by decide) fun _ => ?_
  split
  · decide
  · exact iteInduction (motive := (· < 2 ^ 32)) (fun _ => by decide) fun _ =>
      iteInduction (motive := (· < 2 ^ 32)) (fun _ => by decide) fun _ => by decide

theorem authComplete_refused {s : State} (hunder : s.dev.stat pREC 20 = true) (hclear : s.dev.rcf.clearing = none) (hcode : s.authCode s.dev.rcf.auth ≠ 0) :
    ∃ t, exec .authComplete s = .next t ∧ t.dev.rdN Reg.REC_AUTH_RESULT = s.authCode s.dev.rcf.auth ∧ t.dev.bit (Reg.IRQ_RAW pREC) 17 = true
      ∧ t.ldg = s.ldg ∧ t.pending = s.pending ∧ t.dev.stat pREC 20 = false ∧ t.rcd = s.rcd := by
  obtain ⟨hresult, hirq, -⟩ := s.dev.authEnded_spec (s.authCode_lt s.dev.rcf.auth)
  refine ⟨_, exec_authComplete_refused hunder hclear hcode, ?_, ?_, rfl, rfl, ?_, rfl⟩
  · exact (congrArg BitVec.toNat (Dev.rd_setBit_ne (s.dev.authEnded (s.authCode s.dev.rcf.auth)) 20 false (by decide))).trans hresult
  · exact (Dev.bit_setBit_ne (s.dev.authEnded (s.authCode s.dev.rcf.auth)) 20 17 false (by decide)).trans hirq
  · exact Dev.bit_setBit_same (s.dev.authEnded (s.authCode s.dev.rcf.auth)) (Reg.STATUS pREC) false (by decide)

theorem authComplete_clears {s : State} (hunder : s.dev.stat pREC 20 = true) (hclear : s.dev.rcf.clearing = none) (hcode : s.authCode s.dev.rcf.auth = 0)
    (hop : field (s.dev.rcf.auth.getD 1 0) 31 24 = 1) :
    ∃ t, exec .authComplete s = .next t ∧ t.dev.rdN Reg.REC_AUTH_RESULT = 0 ∧ t.dev.bit (Reg.IRQ_RAW pREC) 17 = true
      ∧ t.ldg = s.ldg ∧ t.pending = s.pending ∧ t.dev.stat pREC 18 = true ∧ t.dev.stat pREC 20 = true
      ∧ t.dev.rcf.clearing = some (field (s.dev.rcf.auth.getD 1 0) 23 16) ∧ t.dev.rd Reg.REC_EPOCH = s.dev.rd Reg.REC_EPOCH ∧ t.rcd = s.rcd := by
  have hexec := exec_authComplete_clears hunder hclear hcode hop
  rw [hcode] at hexec
  obtain ⟨hresult, hirq, hkept⟩ := s.dev.authEnded_spec (code := 0) (by decide)
  refine ⟨_, hexec, ?_, ?_, rfl, rfl, ?_, ?_, rfl, ?_, rfl⟩
  · exact (congrArg BitVec.toNat (Dev.rd_setBit_ne (s.dev.authEnded 0) 18 true (by decide))).trans hresult
  · exact (Dev.bit_setBit_ne (s.dev.authEnded 0) 18 17 true (by decide)).trans hirq
  · exact Dev.bit_setBit_same (s.dev.authEnded 0) (Reg.STATUS pREC) true (by decide)
  · exact (Dev.bit_setBit (s.dev.authEnded 0) (Reg.STATUS pREC) 18 20 true (by decide) (by decide)).trans
      ((if_neg (by decide)).trans ((hkept.bit (by decide) 20).trans hunder))
  · exact (Dev.rd_setBit_ne (s.dev.authEnded 0) 18 true (by decide)).trans (hkept _ (by decide))

theorem authKey_none {a : List W32} (h : ∀ x ∈ (a.drop 9).take 16, x = 0#32) : authKey a = [] := if_pos (by simpa using h)
theorem authKey_some {a : List W32} (h : ∃ x ∈ (a.drop 9).take 16, x ≠ 0#32) : authKey a = (a.drop 9).take 16 := by
  refine if_neg fun hall => ?_
  obtain ⟨x, hx, hne⟩ := h
  exact hne (of_decide_eq_true (List.all_eq_true.mp hall x hx))

theorem authComplete_changes {s : State} (hunder : s.dev.stat pREC 20 = true) (hclear : s.dev.rcf.clearing = none) (hcode : s.authCode s.dev.rcf.auth = 0)
    (hop : field (s.dev.rcf.auth.getD 1 0) 31 24 = 2) :
    ∃ t, exec .authComplete s = .next t ∧ t.dev.rdN Reg.REC_AUTH_RESULT = 0 ∧ t.dev.bit (Reg.IRQ_RAW pREC) 17 = true
      ∧ t.ldg = s.ldg ∧ t.pending = s.pending ∧ t.dev.stat pREC 20 = false
      ∧ t.rcd = { s.rcd with keys := setAt s.rcd.keys (field (s.dev.rcf.auth.getD 1 0) 15 8) (authKey s.dev.rcf.auth) }
      ∧ t.dev.bit Reg.REC_KEY_STAT (field (s.dev.rcf.auth.getD 1 0) 15 8) = !(authKey s.dev.rcf.auth).isEmpty := by
  have hexec := exec_authComplete_changes hunder hclear hcode hop
  have htarget := State.authCode_target hcode hop
  rw [hcode] at hexec
  obtain ⟨hresult, hirq, -⟩ := s.dev.authEnded_spec (code := 0) (by decide)
  generalize field (s.dev.rcf.auth.getD 1 0) 15 8 = target at hexec htarget ⊢
  generalize authKey s.dev.rcf.auth = k at hexec ⊢
  let e := (s.dev.authEnded 0).setBit Reg.REC_KEY_STAT target (!k.isEmpty)
  have hkept : Dev.RdKept [Reg.STATUS pREC, Reg.REC_SUPP_TOTAL] e ((e.setStat pREC 20 false).recOwn 0x3CA (keyRecord s.dev.rcf.auth)) :=
    ((Dev.RdKept.refl _ e).setStat (by decide) _ _).emit (by decide) _
  refine ⟨_, hexec, ?_, ?_, rfl, rfl, ?_, rfl, ?_⟩
  · exact (congrArg BitVec.toNat ((hkept _ (by decide)).trans (Dev.rd_setBit_ne (s.dev.authEnded 0) target (!k.isEmpty) (by decide)))).trans hresult
  · exact (hkept.bit (by decide) 17).trans ((Dev.bit_setBit_ne (s.dev.authEnded 0) target 17 (!k.isEmpty) (by decide)).trans hirq)
  · exact ((e.setStat pREC 20 false).emit_rdKept _).bit (by decide) 20 |>.trans (Dev.bit_setBit_same e (Reg.STATUS pREC) false (by decide))
  · exact (hkept.bit (by decide) target).trans (Dev.bit_setBit_same (s.dev.authEnded 0) Reg.REC_KEY_STAT (!k.isEmpty) (by omega))

theorem exec_authComplete_not {s : State} (h : s.dev.stat pREC 20 = false ∨ s.dev.rcf.clearing.isSome = true) : exec .authComplete s = .next s := by
  refine congrArg Host.Outcome.next (if_pos ?_)
  rcases h with h | h
  · exact .inl (by rw [h]; rfl)
  · exact .inr h

/-! A CLEAR completed (R439) -/

/-- The CLEAR is over: intake is released, and so is the firmware. -/
def Dev.clearOver (d : Dev) : Dev := { (d.setStat pREC 18 false).setStat pREC 20 false with rcf := { d.rcf with clearing := none } }

theorem exec_clearComplete {s : State} {slot : Nat} (h : s.dev.rcf.clearing = some slot) (written : Bool) :
    exec (.clearComplete written) s
      = .next (if written then (onDev Dev.clearOver s).newEpoch slot else onDev Dev.bedrockFails (onDev Dev.clearOver s)) := by
  change execClearComplete written s = _
  unfold execClearComplete
  rw [h]
  rfl

theorem exec_clearComplete_not {s : State} (h : s.dev.rcf.clearing = none) (written : Bool) : exec (.clearComplete written) s = .next s := by
  change execClearComplete written s = _
  unfold execClearComplete
  rw [h]

theorem Dev.clearOver_spec (d : Dev) : d.clearOver.stat pREC 18 = false ∧ d.clearOver.stat pREC 20 = false ∧ Dev.RdKept [Reg.STATUS pREC] d d.clearOver := by
  refine ⟨?_, Dev.bit_setBit_same (d.setStat pREC 18 false) (Reg.STATUS pREC) false (by decide), ?_⟩
  · exact (Dev.bit_setBit (d.setStat pREC 18 false) (Reg.STATUS pREC) 20 18 false (by decide) (by decide)).trans
      ((if_neg (by decide)).trans (Dev.bit_setBit_same d (Reg.STATUS pREC) false (by decide)))
  · exact (((Dev.RdKept.refl _ d).setStat (by decide) 18 false).setStat (by decide) 20 false).struct rfl

/-- A record added to the ring is the last of its last sector, which bears the epoch. -/
theorem ringAdd_last (epoch : Nat) (ring : List Sector) (r : Record) :
    ∃ z, (ringAdd epoch ring r).getLast? = some z ∧ z.epoch = epoch ∧ z.recs.getLast? = some r := by
  unfold ringAdd
  split
  next z _ =>
    split
    next h => exact ⟨{ z with recs := z.recs ++ [r] }, List.getLast?_concat, h.1, List.getLast?_concat⟩
    next =>
      refine ⟨⟨epoch, [r]⟩, ?_, rfl, rfl⟩
      unfold ringAdd.trim
      split
      · rw [List.getLast?_drop, if_neg (by grind), List.getLast?_concat]
      · exact List.getLast?_concat
  next => exact ⟨⟨epoch, [r]⟩, rfl, rfl, rfl⟩

theorem clearComplete_written {s : State} {slot : Nat} (h : s.dev.rcf.clearing = some slot) :
    ∃ t, exec (.clearComplete true) s = .next t ∧ t.dev.epoch = (s.dev.epoch + 1) % 65536 ∧ t.dev.rcf.clearing = none
      ∧ t.dev.stat pREC 18 = false ∧ t.dev.stat pREC 20 = false ∧ t.dev.bit (Reg.IRQ_RAW pREC) 18 = true
      ∧ t.rcd.undrained = [] ∧ t.rcd.kept = s.rcd.kept ++ s.rcd.undrained ∧ t.rcd.keys = s.rcd.keys ∧ t.rcd.nextSeq = s.rcd.nextSeq + 1
      ∧ t.ldg = s.ldg ∧ t.pending = s.pending
      ∧ ∃ z r, t.rcd.ring.getLast? = some z ∧ z.epoch = t.dev.epoch ∧ z.recs.getLast? = some r ∧ r.code = 0x3C1 ∧ r.seq = s.rcd.nextSeq
          ∧ r.payload.take 2 = [w32 ((s.dev.epoch + 1) % 65536), w32 s.dev.epoch] := by
  obtain ⟨h18, h20, hkept⟩ := s.dev.clearOver_spec
  have hold : s.dev.clearOver.epoch = s.dev.epoch := hkept.fld (by decide) 15 0
  let new := (s.dev.clearOver.epoch + 1) % 65536
  let e := s.dev.clearOver.advance 1
  have hshown : Dev.RdKept [Reg.REC_EPOCH, Reg.IRQ_RAW pREC] s.dev.clearOver ((e.wrN Reg.REC_EPOCH new).irq pREC 18) :=
    (((Dev.RdKept.refl _ s.dev.clearOver).struct (e' := e) rfl).wr (by decide) (w32 new)).irq (by decide) 18
  have hepoch : ((e.wrN Reg.REC_EPOCH new).irq pREC 18).epoch = new := by
    have hrd : ((e.wrN Reg.REC_EPOCH new).irq pREC 18).rd Reg.REC_EPOCH = w32 new :=
      (Dev.rd_irq_ne (e.wrN Reg.REC_EPOCH new) pREC 18 (by decide)).trans (Dev.rd_wr_same e Reg.REC_EPOCH (w32 new))
    unfold Dev.epoch Dev.fld
    rw [hrd]
    have hlt : new < 65536 := Nat.mod_lt _ (by decide)
    simp only [field, w32, BitVec.toNat_ofNat, Nat.shiftRight_zero]
    omega
  obtain ⟨z, hz, hzepoch, hzlast⟩ := ringAdd_last new ((onDev Dev.clearOver s).rcd.drain s.dev.clearOver.epoch).ring
    ⟨0x3C1, ((onDev Dev.clearOver s).rcd.drain s.dev.clearOver.epoch).nextSeq, e.tm.tbm, wallWords e.wall,
      [w32 new, w32 s.dev.clearOver.epoch, lo32 (((onDev Dev.clearOver s).rcd.drain s.dev.clearOver.epoch).nextSeq - 1),
        hi32 (((onDev Dev.clearOver s).rcd.drain s.dev.clearOver.epoch).nextSeq - 1), w32 slot]
        ++ keyTag ((((onDev Dev.clearOver s).rcd.drain s.dev.clearOver.epoch).key slot).getD [])⟩
  rw [← hold]
  exact ⟨_, exec_clearComplete h true, hepoch, rfl, (hshown.bit (by decide) 18).trans h18, (hshown.bit (by decide) 20).trans h20,
    Dev.bit_irq_same (e.wrN Reg.REC_EPOCH new) pREC (by decide), rfl, rfl, rfl, rfl, rfl, rfl, z, _, hz, hzepoch.trans hepoch.symm, hzlast, rfl, rfl, rfl⟩

/-- The bedrock store fails: its status and its fault, and no other register but the count of the suppressed. -/
theorem Dev.bedrockFails_spec (d : Dev) : d.bedrockFails.stat pREC 17 = true ∧ d.bedrockFails.bit (Reg.FAULT pREC) 17 = true
    ∧ (∀ b, b < 32 → b ≠ 17 → d.bedrockFails.stat pREC b = d.stat pREC b)
    ∧ Dev.RdKept [Reg.STATUS pREC, Reg.FAULT pREC, Reg.IRQ_RAW pREC, Reg.REC_SUPP_TOTAL] d d.bedrockFails := by
  have hkept : Dev.RdKept [Reg.FAULT pREC, Reg.IRQ_RAW pREC, Reg.REC_SUPP_TOTAL] (d.setStat pREC 17 true) d.bedrockFails :=
    ((Dev.RdKept.refl _ _).fault (by decide) (by decide) 17).emit (by decide) _
  refine ⟨(hkept.bit (by decide) 17).trans (Dev.bit_setBit_same d (Reg.STATUS pREC) true (by decide)), ?_, fun b hb hne => ?_, ?_⟩
  · exact Dev.bit_faultRec (d.setStat pREC 17 true) pREC (by decide)
  · exact (hkept.bit (by decide) b).trans ((Dev.bit_setBit d (Reg.STATUS pREC) 17 b true (by decide) hb).trans (if_neg hne))
  · exact ((Dev.RdKept.refl _ d).setStat (by decide) 17 true).trans (hkept.mono (by decide))

theorem clearComplete_failed {s : State} {slot : Nat} (h : s.dev.rcf.clearing = some slot) :
    ∃ t, exec (.clearComplete false) s = .next t ∧ t.rcd = s.rcd ∧ t.dev.epoch = s.dev.epoch ∧ t.dev.rcf.clearing = none
      ∧ t.dev.stat pREC 18 = false ∧ t.dev.stat pREC 20 = false ∧ t.dev.stat pREC 17 = true ∧ t.dev.bit (Reg.FAULT pREC) 17 = true
      ∧ t.ldg = s.ldg ∧ t.pending = s.pending := by
  obtain ⟨h18, h20, hover⟩ := s.dev.clearOver_spec
  obtain ⟨h17, hfault, hstat, hkept⟩ := s.dev.clearOver.bedrockFails_spec
  obtain ⟨i, r, p, hrcf⟩ := ((s.dev.clearOver.setStat pREC 17 true).fault pREC 17).emit_rcf ⟨false, 0, pREC, 1, 17, 0, 0, [], _⟩
  refine ⟨_, exec_clearComplete h false, rfl, ?_, ?_, (hstat 18 (by decide) (by decide)).trans h18, (hstat 20 (by decide) (by decide)).trans h20, h17, hfault,
    rfl, rfl⟩
  · exact (hkept.fld (by decide) 15 0).trans (hover.fld (by decide) 15 0)
  · exact (congrArg RecFront.clearing hrcf).trans (congrArg RecFront.clearing (Dev.fault_rcf _ _ _))

/-! Keys loaded (R437) -/

/-- The words of the key written. -/
def Dev.keyWritten (d : Dev) : List W32 := (List.range 16).map (fun i => d.rd (Reg.REC_KEY_W i))

theorem field_w32_slot {slot : Nat} (h : slot < 4) : field (w32 slot) 1 0 = slot := by
  obtain rfl | rfl | rfl | rfl : slot = 0 ∨ slot = 1 ∨ slot = 2 ∨ slot = 3 := by omega
  all_goals decide

theorem actKeyCmd_refused {slot : Nat} (hslot : slot < 4) (written : Bool) {s : State} (h : (s.rcd.key slot).isSome = true ∨ s.dev.stat pREC 17 = true) :
    actKeyCmd (w32 slot) written s = (.len, onDev (·.lenReject pREC) s) := by
  refine if_pos ?_
  rw [field_w32_slot hslot]
  exact Bool.or_eq_true_iff.mpr h

theorem actKeyCmd_goes {slot : Nat} (hslot : slot < 4) (written : Bool) {s : State} (hempty : s.rcd.key slot = none) (hstore : s.dev.stat pREC 17 = false) :
    actKeyCmd (w32 slot) written s = if written then (.ok, s.setKey slot s.dev.keyWritten) else (.ok, onDev Dev.bedrockFails s) := by
  unfold actKeyCmd
  extract_lets sl ks
  have hsl : sl = slot := field_w32_slot hslot
  rw [hsl, if_neg (by simp [hempty, hstore])]
  rfl

theorem keyLoad_loads {req : Requester} {slot : Nat} {s : State} (h : Accepts req Reg.REC_KEY_CMD (w32 slot) s) (hslot : slot < 4)
    (hempty : s.rcd.key slot = none) (hstore : s.dev.stat pREC 17 = false) :
    ∃ t, exec (.keyLoad req slot true) s = .next t ∧ answerTo req t = ⟨.ok, 1, []⟩ ∧ t.rcd = { s.rcd with keys := setAt s.rcd.keys slot s.dev.keyWritten }
      ∧ t.dev.bit Reg.REC_KEY_STAT slot = true ∧ regsKept [Reg.REC_KEY_STAT] s t ∧ t.ldg = s.ldg ∧ t.pending = s.pending := by
  obtain ⟨k, hk⟩ := hostCmd_acts h (t := fun k => (s.woken k).setKey slot (s.woken k).dev.keyWritten) fun k => actKeyCmd_goes hslot true hempty hstore
  refine ⟨_, congrArg Host.Outcome.next hk, answerTo_answeredOk _ _ _, rfl, ?_, ?_, rfl, rfl⟩
  · exact Dev.bit_setBit_same (s.woken k).dev Reg.REC_KEY_STAT (!(s.woken k).dev.keyWritten.isEmpty) (by omega)
  · exact (Dev.RdKept.refl _ (s.woken k).dev).setBit (by decide) slot _

theorem keyLoad_fails {req : Requester} {slot : Nat} {s : State} (h : Accepts req Reg.REC_KEY_CMD (w32 slot) s) (hslot : slot < 4)
    (hempty : s.rcd.key slot = none) (hstore : s.dev.stat pREC 17 = false) :
    ∃ t, exec (.keyLoad req slot false) s = .next t ∧ answerTo req t = ⟨.ok, 1, []⟩ ∧ t.rcd = s.rcd ∧ t.dev.stat pREC 17 = true
      ∧ t.dev.bit (Reg.FAULT pREC) 17 = true ∧ t.ldg = s.ldg ∧ t.pending = s.pending := by
  obtain ⟨k, hk⟩ := hostCmd_acts h (t := fun k => onDev Dev.bedrockFails (s.woken k)) fun k => actKeyCmd_goes hslot false hempty hstore
  obtain ⟨h17, hfault, -⟩ := (s.woken k).dev.bedrockFails_spec
  exact ⟨_, congrArg Host.Outcome.next hk, answerTo_answeredOk _ _ _, rfl, h17, hfault, rfl, rfl⟩

theorem keyLoad_refused {req : Requester} {slot : Nat} {s : State} (h : Accepts req Reg.REC_KEY_CMD (w32 slot) s) (hslot : slot < 4) (written : Bool)
    (hfull : (s.rcd.key slot).isSome = true ∨ s.dev.stat pREC 17 = true) :
    ∃ t, exec (.keyLoad req slot written) s = .next t ∧ answerTo req t = ⟨.len, 0, []⟩ ∧ t.rcd = s.rcd
      ∧ t.dev.rd Reg.REC_KEY_STAT = s.dev.rd Reg.REC_KEY_STAT ∧ t.ldg = s.ldg ∧ t.pending = s.pending := by
  obtain ⟨k, hk⟩ := hostCmd_lens (p := pREC) h fun k => actKeyCmd_refused hslot written (s := s.woken k) hfull
  exact ⟨_, congrArg Host.Outcome.next hk, answerTo_lenRefused _ _ _ _, rfl, lenRefused_regsKept req Reg.REC_KEY_CMD pREC k s _ (by decide), rfl, rfl⟩

theorem recNonce_issues {req : Requester} {s : State} (h : Accepts req Reg.REC_REC_CMD 1#32 s) :
    ∃ t, exec (.recNonce req) s = .next t ∧ answerTo req t = ⟨.ok, 1, []⟩ ∧ t.dev.rcf.nonceAt = some s.dev.tm.tbm
      ∧ t.dev.rcf.nonceCnt = s.dev.rcf.nonceCnt + 1 ∧ (∀ k, k < 4 → t.dev.rd (Reg.REC_NONCE k) = (nonceWordsOf s.dev.rcf.nonceCnt).getD k 0)
      ∧ differOnly (fun d => { d with rcf := {}, fab := {}, pow := {} }) s t ∧ regsKept ((List.range 4).map Reg.REC_NONCE) s t := by
  obtain ⟨k, hk⟩ := hostCmd_dev h Dev.nonceIssued
  have hrcf := (s.woken k).dev.nonceIssued_rcf
  have hreads (j : Nat) (hj : j < 4) : (s.woken k).dev.nonceIssued.rd (Reg.REC_NONCE j) = (nonceWordsOf s.dev.rcf.nonceCnt).getD j 0 :=
    (s.woken k).dev.nonceIssued_reads hj
  exact ⟨_, (exec_recNonce req s).trans (congrArg Host.Outcome.next hk), answerTo_answeredOk _ _ _, congrArg RecFront.nonceAt hrcf,
    congrArg RecFront.nonceCnt hrcf,
    fun j hj => (Dev.rd_respond_ok (s.woken k).dev.nonceIssued req Reg.REC_REC_CMD 1 _ []).trans (hreads j hj),
    answeredOk_differOnly (fun _ _ => rfl) (fun _ _ => rfl) _ _ _ fun d => d.nonceIssued_sameBut fun _ _ => rfl,
    answeredOk_regsKept _ _ _ fun d => d.nonceIssued_rdKept⟩

/-- Settles O54. -/
theorem keysAndAuthorisations : Obligations.KeysAndAuthorisations := by
  unfold Obligations.KeysAndAuthorisations
  intro req slot written s a fresh w1 key loaded kept ended
  refine ⟨recNonce_issues, fun h => ⟨fun hbusy => ?_, fun hidle hmp => ?_, recAuth_handed h⟩, fun hunder hclear => ⟨fun hcode => ?_, fun hcode hop => ?_,
    fun hcode hop => ?_⟩, exec_authComplete_not, fun h => ⟨?_, clearComplete_failed h⟩, fun h => exec_clearComplete_not h written,
    fun h hslot => ⟨fun hempty hstore => ⟨keyLoad_loads h hslot hempty hstore, keyLoad_fails h hslot hempty hstore⟩, keyLoad_refused h hslot written⟩⟩
  · obtain ⟨t, ht, hok, hresult, hirq, hldg, hpending, hnonce, hauth, hrcd, -⟩ :=
      recAuth_answered h (code := 7) (by decide) fun k => Dev.authSubmitted_busy (d := (s.woken k).dev) hbusy
    exact ⟨t, ht, hok, ⟨hresult, hirq, hldg, hpending⟩, hnonce, hauth, hrcd⟩
  · obtain ⟨t, ht, hok, hresult, hirq, hldg, hpending, hnonce, -, hrcd, hstat⟩ :=
      recAuth_answered h (code := 6) (by decide) fun k => Dev.authSubmitted_down (d := (s.woken k).dev) hidle hmp
    exact ⟨t, ht, hok, ⟨hresult, hirq, hldg, hpending⟩, hnonce, hstat.trans hidle, hrcd⟩
  · obtain ⟨t, ht, hresult, hirq, hldg, hpending, hstat, hrcd⟩ := authComplete_refused hunder hclear hcode
    exact ⟨t, ht, ⟨hresult, hirq, hldg, hpending⟩, hstat, hrcd⟩
  · obtain ⟨t, ht, hresult, hirq, hldg, hpending, hrest⟩ := authComplete_clears hunder hclear hcode hop
    exact ⟨t, ht, ⟨hresult, hirq, hldg, hpending⟩, hrest⟩
  · obtain ⟨t, ht, hresult, hirq, hldg, hpending, hstat, hrcd, hshown⟩ := authComplete_changes hunder hclear hcode hop
    refine ⟨t, ht, ⟨hresult, hirq, hldg, hpending⟩, hstat, fun hzero => ?_, fun hsome => ?_⟩
    · rw [authKey_none hzero] at hrcd hshown
      exact ⟨hrcd, hshown⟩
    · rw [authKey_some hsome] at hrcd hshown
      obtain ⟨x, hx, -⟩ := hsome
      exact ⟨hrcd, hshown.trans (by rw [List.isEmpty_eq_false_iff.mpr (List.ne_nil_of_mem hx)]; rfl)⟩
  · obtain ⟨t, ht, hepoch, hclear, h18, h20, hirq, hund, hkeptr, hkeys, hseq, hldg, hpending, hlast⟩ := clearComplete_written h
    exact ⟨t, ht, hepoch, hclear, h18, h20, hirq, hund, hkeptr, hkeys, hseq, ⟨hldg, hpending⟩, hlast⟩

end Sys2Proof.Machine
end

section
/-! PROOFS. The drain of the buffer, and the reads of records and of the failure log (R432, R435, R442). -/
namespace Sys2Proof.Machine

/-! The store takes a write, or fails (R441) -/

/-- The store that fails shown: its status, fault and interrupt. -/
def Dev.storeMarked (d : Dev) : Dev := ((d.setStat pREC 16 true).fault pREC 16).irq pREC 16

/-- The entry of the failure log that a part writes. -/
def Dev.failEntry (d : Dev) (kind seq sector : Nat) : FailEntry := ⟨kind, d.tm.tbm, wallWords d.wall, seq, sector⟩

theorem Dev.storeMarked_spec (d : Dev) : d.storeMarked.stat pREC 16 = true ∧ d.storeMarked.bit (Reg.FAULT pREC) 16 = true
    ∧ d.storeMarked.bit (Reg.IRQ_RAW pREC) 16 = true ∧ Dev.RdKept [Reg.STATUS pREC, Reg.FAULT pREC, Reg.IRQ_RAW pREC] d d.storeMarked
    ∧ d.storeMarked.tm = d.tm := by
  have hkept : Dev.RdKept [Reg.FAULT pREC, Reg.IRQ_RAW pREC] (d.setStat pREC 16 true) d.storeMarked :=
    ((Dev.RdKept.refl _ _).fault (by decide) (by decide) 16).irq (by decide) 16
  refine ⟨(hkept.bit (by decide) 16).trans (Dev.bit_setBit_same d (Reg.STATUS pREC) true (by decide)), ?_, Dev.bit_irq_same _ pREC (by decide), ?_, ?_⟩
  · exact Dev.bit_irq_true _ (by decide) (by decide) (Dev.fault_spec (d.setStat pREC 16 true) pREC 16 (by decide)).1
  · exact ((Dev.RdKept.refl _ d).setStat (by decide) 16 true).trans (hkept.mono (by decide))
  · exact ((((Dev.SameBut.refl id d).setStat pREC 16 true).fault pREC 16).irq pREC 16).proj (·.tm) (fun _ => rfl)

/-- The wall time depends on the time bases and three words of the register file. -/
theorem Dev.wall_congr {l : List Nat} {d e : Dev} (h : Dev.RdKept l d e) (htm : e.tm = d.tm) (hstate : Reg.TIME_TBG_STATE ∉ l)
    (hset : Reg.STATUS pTIME1 ∉ l) (hsel : Reg.TIME_WALL_SEL ∉ l) : e.wall = d.wall := by
  unfold Dev.wall Dev.tbg Dev.tbn Dev.tbnFree Dev.tbnSet Dev.rtc Dev.tbgState Dev.rdN Dev.stat Dev.fld Dev.bit
  rw [htm, h _ hstate, h _ hset, h _ hsel]

/-- What a failure of the store leaves in the log where the bedrock store takes the entry. -/
def Dev.failCounted (d : Dev) : Dev := d.inc Reg.REC_BR_FAIL_CNT

/-- The failure log with an entry at the place that a count gives. -/
def RecStore.logged (r : RecStore) (count : Nat) (e : FailEntry) : RecStore :=
  { r with failLog := sset (fun _ => none) r.failLog (count % 64) (some e) }

theorem State.logFailure_taken (s : State) (kind sector : Nat) : s.logFailure kind sector true =
    { s with dev := s.dev.failCounted
             rcd := s.rcd.logged (s.dev.rdN Reg.REC_BR_FAIL_CNT) (s.dev.failCounted.failEntry kind s.rcd.nextSeq sector) } := rfl

theorem State.logFailure_lost (s : State) (kind sector : Nat) : s.logFailure kind sector false = onDev Dev.bedrockFails s := rfl

/-- The record of a failed store. -/
def Dev.storeLost (d : Dev) (kind sector : Nat) : Dev := d.recOwn 0x3C8 [w32 kind, w32 sector]

theorem State.storeFails_eq (s : State) (kind sector : Nat) (ok : Bool) :
    s.storeFails kind sector ok = onDev (·.storeLost kind sector) ((onDev Dev.storeMarked s).logFailure kind sector ok) := rfl

/-- The register words that a failing store touches, the entry of the log taken. -/
def storeFailWords : List Nat := [Reg.STATUS pREC, Reg.FAULT pREC, Reg.IRQ_RAW pREC, Reg.REC_BR_FAIL_CNT, Reg.REC_SUPP_TOTAL]

/-- A store that fails whose failure the bedrock store takes. -/
theorem State.storeFails_logged (s : State) (kind sector : Nat) : let t := s.storeFails kind sector true
    t.dev.stat pREC 16 = true ∧ t.dev.bit (Reg.FAULT pREC) 16 = true ∧ t.dev.bit (Reg.IRQ_RAW pREC) 16 = true
      ∧ t.dev.rd Reg.REC_BR_FAIL_CNT = s.dev.rd Reg.REC_BR_FAIL_CNT + 1#32
      ∧ t.rcd = s.rcd.logged (s.dev.rdN Reg.REC_BR_FAIL_CNT) (s.dev.failEntry kind s.rcd.nextSeq sector)
      ∧ t.ldg = s.ldg ∧ t.pending = s.pending ∧ Dev.RdKept storeFailWords s.dev t.dev := by
  obtain ⟨hstat, hfault, hirq, hkept, htm⟩ := s.dev.storeMarked_spec
  have hcounted : Dev.RdKept [Reg.REC_BR_FAIL_CNT] s.dev.storeMarked s.dev.storeMarked.failCounted := (Dev.RdKept.refl _ _).wr (by decide) _
  have hcount : s.dev.storeMarked.failCounted.rd Reg.REC_BR_FAIL_CNT = s.dev.rd Reg.REC_BR_FAIL_CNT + 1#32 :=
    (Dev.rd_wr_same s.dev.storeMarked Reg.REC_BR_FAIL_CNT _).trans (congrArg (· + 1#32) (hkept _ (by decide)))
  have hlost : Dev.RdKept [Reg.REC_SUPP_TOTAL] s.dev.storeMarked.failCounted (s.dev.storeMarked.failCounted.storeLost kind sector) := Dev.emit_rdKept _ _
  have hentry : s.dev.storeMarked.failCounted.failEntry kind s.rcd.nextSeq sector = s.dev.failEntry kind s.rcd.nextSeq sector := by
    have hwall : s.dev.storeMarked.failCounted.wall = s.dev.wall :=
      (Dev.wall_congr hcounted rfl (by decide) (by decide) (by decide)).trans (Dev.wall_congr hkept htm (by decide) (by decide) (by decide))
    unfold Dev.failEntry
    rw [hwall, ← htm]
    rfl
  refine ⟨?_, ?_, ?_, (hlost _ (by decide)).trans hcount, ?_, rfl, rfl, ?_⟩
  · exact (hlost.bit (by decide) 16).trans ((hcounted.bit (by decide) 16).trans hstat)
  · exact (hlost.bit (by decide) 16).trans ((hcounted.bit (by decide) 16).trans hfault)
  · exact (hlost.bit (by decide) 16).trans ((hcounted.bit (by decide) 16).trans hirq)
  · rw [State.storeFails_eq, State.logFailure_taken]
    change s.rcd.logged (s.dev.storeMarked.rdN Reg.REC_BR_FAIL_CNT) (s.dev.storeMarked.failCounted.failEntry kind s.rcd.nextSeq sector) = _
    rw [hentry, show s.dev.storeMarked.rdN Reg.REC_BR_FAIL_CNT = s.dev.rdN Reg.REC_BR_FAIL_CNT from congrArg BitVec.toNat (hkept _ (by decide))]
  · exact ((hkept.mono (by decide)).trans (hcounted.mono (by decide))).trans (hlost.mono (by decide))

/-- A store that fails whose failure the bedrock store does not take either. -/
theorem State.storeFails_unlogged (s : State) (kind sector : Nat) : let t := s.storeFails kind sector false
    t.dev.stat pREC 16 = true ∧ t.dev.bit (Reg.FAULT pREC) 16 = true ∧ t.dev.bit (Reg.IRQ_RAW pREC) 16 = true
      ∧ t.dev.stat pREC 17 = true ∧ t.dev.bit (Reg.FAULT pREC) 17 = true ∧ t.rcd = s.rcd ∧ t.ldg = s.ldg ∧ t.pending = s.pending := by
  obtain ⟨hstat, hfault, hirq, -⟩ := s.dev.storeMarked_spec
  obtain ⟨h17, hf17, hbits, -⟩ := s.dev.storeMarked.bedrockFails_spec
  have hlost : Dev.RdKept [Reg.REC_SUPP_TOTAL] s.dev.storeMarked.bedrockFails (s.dev.storeMarked.bedrockFails.storeLost kind sector) := Dev.emit_rdKept _ _
  have hmarked {p : Nat} (hp : p ≠ Reg.REC_SUPP_TOTAL) (h : s.dev.storeMarked.bit p 16 = true) : s.dev.storeMarked.bedrockFails.bit p 16 = true :=
    (congrArg (bitOf · 16) (Dev.rd_emit_ne ((s.dev.storeMarked.setStat pREC 17 true).fault pREC 17) _ hp)).trans
      (Dev.bit_fault_true _ (by decide) (by decide) (Dev.bit_setBit_true _ (by decide) (by decide) h))
  exact ⟨(hlost.bit (by decide) 16).trans ((hbits 16 (by decide) (by decide)).trans hstat), (hlost.bit (by decide) 16).trans (hmarked (by decide) hfault),
    (hlost.bit (by decide) 16).trans (hmarked (by decide) hirq), (hlost.bit (by decide) 17).trans h17, (hlost.bit (by decide) 17).trans hf17, rfl, rfl, rfl⟩

/-! The drain (R432) -/

/-- The request for a drain taken. -/
def Dev.drainTaken (d : Dev) : Dev := { d with rcf := { d.rcf with drainReq := false } }

/-- Every undrained record written into the ring. -/
def State.ringWritten (s : State) : State := { s with rcd := s.rcd.drain s.dev.epoch }

/-- A spare sector taken in place of one that failed. -/
def Dev.respared (d : Dev) (sector spare : Nat) : Dev :=
  (d.wrN Reg.REC_SPARE_LEFT (d.rdN Reg.REC_SPARE_LEFT - 1)).recOwn 0x3C5 [w32 sector, w32 spare]

theorem Dev.respared_spec (d : Dev) (sector spare : Nat) : (d.respared sector spare).rdN Reg.REC_SPARE_LEFT = d.rdN Reg.REC_SPARE_LEFT - 1
    ∧ Dev.RdKept [Reg.REC_SPARE_LEFT, Reg.REC_SUPP_TOTAL] d (d.respared sector spare)
    ∧ ∃ i r p, (d.respared sector spare).rcf = { d.rcf with intake := i, refused := r, supp := p } := by
  let e := d.wrN Reg.REC_SPARE_LEFT (d.rdN Reg.REC_SPARE_LEFT - 1)
  have hkept := e.emit_rdKept ⟨true, 0x3C5, 0, 0, 0, 0, 0, [w32 sector, w32 spare], e.tm.tbm⟩
  refine ⟨?_, ((Dev.RdKept.refl _ d).wr (by decide) _).trans (hkept.mono (by decide)), e.emit_rcf _⟩
  have hrd : (d.respared sector spare).rd Reg.REC_SPARE_LEFT = w32 (d.rdN Reg.REC_SPARE_LEFT - 1) :=
    (hkept _ (by decide)).trans (Dev.rd_wr_same d Reg.REC_SPARE_LEFT (w32 (d.rdN Reg.REC_SPARE_LEFT - 1)))
  have hlt : d.rdN Reg.REC_SPARE_LEFT < 2 ^ 32 := (d.rd Reg.REC_SPARE_LEFT).isLt
  exact (congrArg BitVec.toNat hrd).trans (Nat.mod_eq_of_lt (by omega))

section
variable {s : State} (hstore : s.dev.stat pREC 16 = false)
include hstore

theorem State.storeWrite_written (ok : Bool) : s.storeWrite ⟨.written, ok⟩ = (true, s) := if_neg (by rw [hstore]; decide)

theorem State.storeWrite_noAnswer (ok : Bool) : s.storeWrite ⟨.noAnswer, ok⟩ = (false, s.storeFails 2 0 ok) := if_neg (by rw [hstore]; decide)

theorem State.storeWrite_respared (hspare : s.dev.rdN Reg.REC_SPARE_LEFT ≠ 0) (sector spare : Nat) (ok : Bool) :
    s.storeWrite ⟨.respared sector spare, ok⟩ = (true, onDev (·.respared sector spare) s) :=
  (if_neg (by rw [hstore]; decide)).trans (if_neg hspare)
end

section
variable {s u : State} {o : DrainOutcome} (hrun : s.dev.mpState = mpRUN) (hpow : s.dev.powerState ≤ 1) (hwait : s.rcd.undrained ≠ [])
include hrun hpow hwait

theorem exec_bufferDrain (o : DrainOutcome) : exec (.bufferDrain o) s
    = .next (if ((onDev Dev.drainTaken s).storeWrite o).1 then ((onDev Dev.drainTaken s).storeWrite o).2.ringWritten
        else ((onDev Dev.drainTaken s).storeWrite o).2) := by
  refine congrArg Host.Outcome.next ((if_neg ?_).trans (if_neg ?_))
  · rintro (h | h)
    · exact h hrun
    · omega
  · exact fun h => hwait (List.isEmpty_iff.mp h)

theorem exec_bufferDrain_stored (hw : (onDev Dev.drainTaken s).storeWrite o = (true, u)) : exec (.bufferDrain o) s = .next u.ringWritten := by
  rw [exec_bufferDrain hrun hpow hwait, hw]
  rfl

theorem exec_bufferDrain_failed (hw : (onDev Dev.drainTaken s).storeWrite o = (false, u)) : exec (.bufferDrain o) s = .next u := by
  rw [exec_bufferDrain hrun hpow hwait, hw]
  rfl
end

theorem exec_bufferDrain_not {s : State} (h : s.dev.mpState ≠ mpRUN ∨ 1 < s.dev.powerState) (o : DrainOutcome) : exec (.bufferDrain o) s = .next s :=
  congrArg Host.Outcome.next (if_pos h)

/-- What a drain that the store takes leaves. -/
structure Drained (s t : State) : Prop where
  undrained : t.rcd.undrained = []
  buffer : t.rcd.kept = s.rcd.kept ++ s.rcd.undrained
  ring : t.rcd.ring = s.rcd.undrained.foldl (ringAdd s.dev.epoch) s.rcd.ring
  nextSeq : t.rcd.nextSeq = s.rcd.nextSeq
  keys : t.rcd.keys = s.rcd.keys
  request : t.dev.rcf.drainReq = false
  ldg : t.ldg = s.ldg
  pending : t.pending = s.pending

theorem bufferDrain_respared {s : State} (hrun : s.dev.mpState = mpRUN) (hpow : s.dev.powerState ≤ 1) (hwait : s.rcd.undrained ≠ [])
    (hstore : s.dev.stat pREC 16 = false) (hspare : s.dev.rdN Reg.REC_SPARE_LEFT ≠ 0) (sector spare : Nat) (ok : Bool) :
    ∃ t, exec (.bufferDrain ⟨.respared sector spare, ok⟩) s = .next t ∧ Drained s t
      ∧ t.dev.rdN Reg.REC_SPARE_LEFT = s.dev.rdN Reg.REC_SPARE_LEFT - 1 ∧ regsKept [Reg.REC_SPARE_LEFT, Reg.REC_SUPP_TOTAL] s t := by
  obtain ⟨hleft, hkept, i, r, p, hrcf⟩ := s.dev.drainTaken.respared_spec sector spare
  have hepoch : (s.dev.drainTaken.respared sector spare).epoch = s.dev.epoch := hkept.fld (by decide) 15 0
  refine ⟨_, exec_bufferDrain_stored hrun hpow hwait (State.storeWrite_respared (s := onDev Dev.drainTaken s) hstore hspare sector spare ok),
    ⟨rfl, rfl, ?_, rfl, rfl, ?_, rfl, rfl⟩, hleft, hkept⟩
  swap
  · exact congrArg RecFront.drainReq hrcf
  · exact congrArg (fun n => s.rcd.undrained.foldl (ringAdd n) s.rcd.ring) hepoch

theorem bufferDrain_noAnswer {s : State} (hrun : s.dev.mpState = mpRUN) (hpow : s.dev.powerState ≤ 1) (hwait : s.rcd.undrained ≠ [])
    (hstore : s.dev.stat pREC 16 = false) (ok : Bool) :
    ∃ t, exec (.bufferDrain ⟨.noAnswer, ok⟩) s = .next t ∧ t.rcd.undrained = s.rcd.undrained ∧ t.rcd.ring = s.rcd.ring
      ∧ t.dev.stat pREC 16 = true ∧ t.dev.bit (Reg.FAULT pREC) 16 = true ∧ t.dev.bit (Reg.IRQ_RAW pREC) 16 = true
      ∧ t.ldg = s.ldg ∧ t.pending = s.pending
      ∧ (ok = true → sget (fun _ => none) t.rcd.failLog (s.dev.rdN Reg.REC_BR_FAIL_CNT % 64)
          = some ⟨2, s.dev.tm.tbm, wallWords s.dev.wall, s.rcd.nextSeq, 0⟩)
      ∧ (ok = false → t.rcd = s.rcd ∧ t.dev.stat pREC 17 = true ∧ t.dev.bit (Reg.FAULT pREC) 17 = true) := by
  have hexec := exec_bufferDrain_failed hrun hpow hwait (State.storeWrite_noAnswer (s := onDev Dev.drainTaken s) hstore ok)
  cases ok with
  | true =>
    obtain ⟨hstat, hfault, hirq, -, hrcd, hldg, hpending, -⟩ := (onDev Dev.drainTaken s).storeFails_logged 2 0
    refine ⟨_, hexec, (congrArg RecStore.undrained hrcd).trans rfl, (congrArg RecStore.ring hrcd).trans rfl, hstat, hfault, hirq, hldg, hpending,
      fun _ => ?_, fun h => absurd h (by decide)⟩
    rw [hrcd]
    exact sget_sset_same (fun _ => none) s.rcd.failLog _ (some (s.dev.drainTaken.failEntry 2 s.rcd.nextSeq 0))
  | false =>
    obtain ⟨hstat, hfault, hirq, h17, hf17, hrcd, hldg, hpending⟩ := (onDev Dev.drainTaken s).storeFails_unlogged 2 0
    exact ⟨_, hexec, congrArg RecStore.undrained hrcd, congrArg RecStore.ring hrcd, hstat, hfault, hirq, hldg, hpending, fun h => absurd h (by decide),
      fun _ => ⟨hrcd, h17, hf17⟩⟩

/-! Read sessions (R435) -/

/-- A session opened at a SEQ, all ones for the oldest record. -/
def RecStore.opened (r : RecStore) (start count ep epoch code : Nat) : RecStore :=
  { r with readOpen := true, readWords := [], readLeft := count, readCode := code
           readEpoch := if ep = 0xFFFF then epoch else ep
           readPos := if start = 2 ^ 64 - 1 ∨ start < r.oldest then 0 else start }

/-- The record store with a session opened as the registers say. -/
def State.readOpened (s : State) : RecStore :=
  s.rcd.opened (s.dev.rd64 Reg.REC_RD_FROM) (s.dev.rdN Reg.REC_RD_COUNT) (s.dev.fld Reg.REC_RD_EPOCH 15 0) s.dev.epoch (s.dev.rdN Reg.REC_RD_CODE)

theorem State.readOpened_woken (s : State) (k : Nat) : (s.woken k).readOpened = s.readOpened := by
  have hfrom : (s.woken k).dev.rd64 Reg.REC_RD_FROM = s.dev.rd64 Reg.REC_RD_FROM := Dev.rd64_congr rfl rfl
  unfold State.readOpened
  rw [hfrom]
  rfl

/-- SHORT where the record that a session starts from is gone. -/
def State.readShort (s : State) : Dev :=
  if ¬ s.dev.rd64 Reg.REC_RD_FROM = 2 ^ 64 - 1 ∧ s.dev.rd64 Reg.REC_RD_FROM < s.rcd.oldest then s.dev.setStat pREC sSHORT true else s.dev

theorem actReadStart_eq (s : State) : actReadStart s = (.ok, { s with rcd := s.readOpened, dev := s.readShort }) := by
  unfold actReadStart State.readOpened RecStore.opened State.readShort
  simp only [Bool.not_eq_true', decide_eq_false_iff_not]

theorem State.readShort_rdKept (s : State) : Dev.RdKept [Reg.STATUS pREC] s.dev s.readShort := by
  unfold State.readShort
  split
  · exact (Dev.RdKept.refl _ _).setStat (by decide) _ _
  · exact .refl _ _

theorem State.readShort_set {s : State} (hall : s.dev.rd64 Reg.REC_RD_FROM ≠ 2 ^ 64 - 1) (hold : s.dev.rd64 Reg.REC_RD_FROM < s.rcd.oldest) :
    s.readShort.stat pREC sSHORT = true := by
  unfold State.readShort
  rw [if_pos ⟨hall, hold⟩]
  exact Dev.bit_setBit_same _ _ _ (by decide)

theorem State.rd64_woken (s : State) (k a : Nat) : (s.woken k).dev.rd64 a = s.dev.rd64 a := Dev.rd64_congr rfl rfl

theorem exec_readStart (req : Requester) (s : State) : exec (.readStart req) s = .next (hostCmd req Reg.REC_REC_CMD 4#32 actReadStart s) := by
  change execReadStart req s = _
  rfl

/-- An answer leaves everything beside the part. -/
theorem answeredOk_beside (q : Requester) (a : Nat) (s : State) :
    (answeredOk q a s).rcd = s.rcd ∧ (answeredOk q a s).ldg = s.ldg ∧ (answeredOk q a s).pending = s.pending := ⟨rfl, rfl, rfl⟩

/-- A state with another record store and part. -/
def State.withRecs (s : State) (r : RecStore) (d : Dev) : State := { s with rcd := r, dev := d }

theorem answeredOk_rd (q : Requester) (a : Nat) (s : State) (b : Nat) : (answeredOk q a s).dev.rd b = s.dev.rd b := rfl
theorem State.withRecs_dev (s : State) (r : RecStore) (d : Dev) : (s.withRecs r d).dev = d := rfl
theorem State.withRecs_beside (s : State) (r : RecStore) (d : Dev) : (s.withRecs r d).ldg = s.ldg ∧ (s.withRecs r d).pending = s.pending := ⟨rfl, rfl⟩

theorem readStart_opens {req : Requester} {s : State} (h : Accepts req Reg.REC_REC_CMD 4#32 s) :
    ∃ t, exec (.readStart req) s = .next t ∧ answerTo req t = ⟨.ok, 1, []⟩ ∧ t.rcd = s.readOpened
      ∧ (s.dev.rd64 Reg.REC_RD_FROM ≠ 2 ^ 64 - 1 → s.dev.rd64 Reg.REC_RD_FROM < s.rcd.oldest → t.dev.stat pREC sSHORT = true)
      ∧ regsKept [Reg.STATUS pREC] s t ∧ t.ldg = s.ldg ∧ t.pending = s.pending := by
  obtain ⟨k, hk⟩ := hostCmd_acts h (t := fun k => (s.woken k).withRecs (s.woken k).readOpened (s.woken k).readShort) fun k => actReadStart_eq (s.woken k)
  obtain ⟨hrcd, hldg, hpending⟩ := answeredOk_beside req Reg.REC_REC_CMD ((s.woken k).withRecs (s.woken k).readOpened (s.woken k).readShort)
  obtain ⟨hl, hp⟩ := (s.woken k).withRecs_beside (s.woken k).readOpened (s.woken k).readShort
  refine ⟨_, (exec_readStart req s).trans (congrArg Host.Outcome.next hk), answerTo_answeredOk _ _ _, hrcd.trans (s.readOpened_woken k),
    fun hall hold => ?_, fun a ha => ?_, hldg.trans hl, hpending.trans hp⟩
  swap
  · rw [answeredOk_rd, State.withRecs_dev]
    exact (s.woken k).readShort_rdKept a ha
  rw [← s.rd64_woken k] at hall hold
  unfold Dev.stat Dev.bit
  rw [answeredOk_rd, State.withRecs_dev]
  exact State.readShort_set (s := s.woken k) hall hold

/-- What a port gives its reader, with SHORT where it is fewer than asked for. -/
def portGave (q : Requester) (a n : Nat) (r : List W32 × State) : State :=
  onDev (fun d => (d.shortRead a n r.1.length).respond q a .ok r.1.length r.1) r.2

theorem hostPort_acts {q : Requester} {a n : Nat} {s : State} (h : Readable q a s) (port : PortAct) :
    ∃ k, hostPort q a n port s = portGave q a n (port n (s.woken k)) := by
  obtain ⟨k, hk⟩ := Readable.start h
  refine ⟨k, (hostPort_readable port h).trans ?_⟩
  rw [hk]
  rfl

theorem answerTo_portGave (q : Requester) (a n : Nat) (r : List W32 × State) : answerTo q (portGave q a n r) = ⟨.ok, r.1.length, r.1⟩ :=
  answerTo_respond (onDev (·.shortRead a n r.1.length) r.2) q a .ok r.1.length r.1

theorem portGave_regsKept {l : List Nat} {a : Nat} (h : Reg.STATUS (targetPage a) ∈ l) (q : Requester) (n : Nat) {r : List W32 × State} {s : State}
    (hr : Dev.RdKept l s.dev r.2.dev) : regsKept l s (portGave q a n r) := hr.trans (Dev.shortRead_rdKept h _ _ _)

/-- The words gathered for a reader of the session. -/
def State.gathered (s : State) (n : Nat) : List W32 × Nat × Nat := gather n s.matches_ s.rcd.readWords s.rcd.readPos 0

theorem portRec_open {s : State} (h : s.rcd.readOpen = true) (n : Nat) : ∃ o, portRec n s = ((s.gathered n).1.take n,
    { s with rcd := { s.rcd with readWords := (s.gathered n).1.drop n, readPos := (s.gathered n).2.1, readLeft := s.rcd.readLeft - (s.gathered n).2.2
                                 readOpen := o } }) := by
  unfold portRec
  rw [if_neg (by rw [h]; decide)]
  extract_lets g ws rest s'
  split
  · exact ⟨false, rfl⟩
  · exact ⟨s.rcd.readOpen, rfl⟩

theorem portRec_closed {s : State} (h : s.rcd.readOpen = false) (n : Nat) : portRec n s = ([], s) := if_pos (by rw [h]; rfl)

theorem recordRead_open {req : Requester} {s : State} (h : Readable req Reg.REC_REC_PORT s) (hopen : s.rcd.readOpen = true) (words : Nat) :
    ∃ t, exec (.recordRead req words) s = .next t ∧ answerTo req t = ⟨.ok, ((s.gathered words).1.take words).length, (s.gathered words).1.take words⟩
      ∧ t.rcd.readPos = (s.gathered words).2.1 ∧ t.rcd.readWords = (s.gathered words).1.drop words ∧ t.rcd.undrained = s.rcd.undrained
      ∧ t.rcd.ring = s.rcd.ring ∧ t.rcd.kept = s.rcd.kept ∧ t.ldg = s.ldg ∧ t.pending = s.pending ∧ regsKept [Reg.STATUS pREC] s t := by
  obtain ⟨k, hk⟩ := hostPort_acts (n := words) h portRec
  obtain ⟨o, ho⟩ := portRec_open (s := s.woken k) hopen words
  rw [ho] at hk
  exact ⟨_, congrArg Host.Outcome.next hk, answerTo_portGave _ _ _ _, rfl, rfl, rfl, rfl, rfl, rfl, rfl,
    portGave_regsKept (by decide) _ _ (Dev.RdKept.refl _ (s.woken k).dev)⟩

theorem recordRead_closed {req : Requester} {s : State} (h : Readable req Reg.REC_REC_PORT s) (hopen : s.rcd.readOpen = false) (words : Nat) :
    ∃ t, exec (.recordRead req words) s = .next t ∧ answerTo req t = ⟨.ok, 0, []⟩ ∧ t.rcd = s.rcd ∧ regsKept [Reg.STATUS pREC] s t := by
  obtain ⟨k, hk⟩ := hostPort_acts (n := words) h portRec
  rw [portRec_closed (s := s.woken k) hopen words] at hk
  exact ⟨_, congrArg Host.Outcome.next hk, answerTo_portGave _ _ _ _, rfl, portGave_regsKept (by decide) _ _ (Dev.RdKept.refl _ (s.woken k).dev)⟩

/-- The words of the failure log's selected entry that are left. -/
def State.failLeft (s : State) : List W32 :=
  (failWords (sget (fun _ => none) s.rcd.failLog (s.dev.fld Reg.REC_BR_SEL 5 0))).drop s.rcd.brPos

theorem failureLogRead_gives {req : Requester} {s : State} (h : Readable req Reg.REC_BR_PORT s) (words : Nat) :
    ∃ t, exec (.failureLogRead req words) s = .next t ∧ answerTo req t = ⟨.ok, (s.failLeft.take words).length, s.failLeft.take words⟩
      ∧ t.rcd = { s.rcd with brPos := s.rcd.brPos + (s.failLeft.take words).length } ∧ regsKept [Reg.STATUS pREC] s t ∧ t.ldg = s.ldg
      ∧ t.pending = s.pending := by
  obtain ⟨k, hk⟩ := hostPort_acts (n := words) h portBr
  exact ⟨_, congrArg Host.Outcome.next hk, answerTo_portGave _ _ _ _, rfl, portGave_regsKept (by decide) _ _ (Dev.RdKept.refl _ (s.woken k).dev), rfl, rfl⟩

/-- Settles O53. -/
theorem drainAndReadOut : Obligations.DrainAndReadOut := by
  unfold Obligations.DrainAndReadOut
  intro req outcome words sector spare ok s up from_ all ep g entry ws drained
  refine ⟨?_, ?_, ?_, fun h => exec_bufferDrain_not h outcome, fun h => congrArg Host.Outcome.next (hostCmd_actDev _ h), readStart_opens,
    fun h hopen => recordRead_open h hopen words, fun h hopen => recordRead_closed h hopen words, fun h => failureLogRead_gives h words⟩
  · rintro ⟨hrun, hpow, hwait, hstore⟩
    exact ⟨_, exec_bufferDrain_stored hrun hpow hwait (State.storeWrite_written (s := onDev Dev.drainTaken s) hstore ok),
      ⟨rfl, rfl, rfl, rfl, rfl, rfl, rfl, rfl⟩, rfl⟩
  · rintro ⟨hrun, hpow, hwait, hstore⟩ hspare
    obtain ⟨t, ht, hd, hleft, hkept⟩ := bufferDrain_respared hrun hpow hwait hstore hspare sector spare ok
    exact ⟨t, ht, ⟨hd.undrained, hd.buffer, hd.ring, hd.nextSeq, hd.keys, hd.request, hd.ldg, hd.pending⟩, hleft, hkept⟩
  · rintro ⟨hrun, hpow, hwait, hstore⟩
    exact bufferDrain_noAnswer hrun hpow hwait hstore ok

end Sys2Proof.Machine
end

section
/-! PROOFS. The ledger's commands, its part of a turn, its flush and its snapshot (R351 to R361). -/
namespace Sys2Proof.Machine

/-! The ledger's part of a turn, by its parts -/

/-- The part with the books of its channels gone on from the turn. -/
def Dev.booksTurned (d : Dev) (t1 : Nat) (b : LedgerBook) : Dev := if d.sup.rebook then d.booksCleared else d.carryUnits.booksNext t1 b

/-- What a turn notes: no booking of a reset waits, the power-fail's is done. -/
def Dev.turnNoted (d : Dev) (failing : Bool) : Dev :=
  { d with sup := { d.sup with rebook := false, diagCut := false }, pow := { d.pow with pfBooked := d.pow.pfBooked || failing } }

/-- COVERAGE shown. -/
def Dev.coverageShown (d : Dev) (cov : Nat) : Dev := (d.wrN Reg.LDG_COVERAGE cov).setStat pLDG 16 (cov = 7)

/-- The part before the commands that waited for the turn. -/
def Dev.ledgerMarked (d : Dev) (t1 : Nat) (supplyOk tempOk : Bool) (b : LedgerBook) : Dev :=
  ((d.booksTurned t1 b).turnNoted d.pow.pfAt.isSome).coverageShown ((d.booksTurned t1 b).coverageWord supplyOk tempOk)

/-- The ledger as booked, and its flush. -/
def Dev.turnBooked (d : Dev) (t0 t1 : Nat) (sec : Bool) (l : Ledgers) : Ledgers := d.flushTurn sec (d.bookTurn t0 t1 l)

/-- The head of a snapshot (R361). -/
def Dev.snapHeader (d : Dev) (b : LedgerBook) : List W32 :=
  [w32 (0x4C44 * 2 ^ 16 + 512), w32 b.sessId, lo32 (d.rd64 Reg.FRM_FRAME_SEQX), hi32 (d.rd64 Reg.FRM_FRAME_SEQX),
    lo32 d.tm.tbm, hi32 d.tm.tbm, b.statusWord, 0#32]

/-- The snapshot taken. -/
def Ledgers.snapTaken (l : Ledgers) (d : Dev) : Ledgers := { l with snap := some l.book, snapHead := d.snapHeader l.book, snapModes := allChans.map d.mode, snapPos := 0 }

/-- The snapshot where one is asked for. -/
def Ledgers.snapTurn (l : Ledgers) (d : Dev) : Ledgers := if d.sup.snapReq then l.snapTaken d else l
def Dev.snapTurn (d : Dev) : Dev := if d.sup.snapReq then d.irq pLDG 16 else d

/-- The requests that have been taken: those for a snapshot and a flush, and that for a session. -/
def Dev.requestsTaken (d : Dev) : Dev := { d with sup := { d.sup with snapReq := false, flushReq := false } }
def Dev.sessionTaken (d : Dev) (b : LedgerBook) : Dev :=
  { (d.recOther pLDG [w32 b.sessId]).irq pLDG 17 with
    sup := { ((d.recOther pLDG [w32 b.sessId]).irq pLDG 17).sup with snapReq := false, sessReq := false, flushReq := false } }

/-- The commands of a turn taken. -/
def Ledgers.turnEnded (l : Ledgers) (d : Dev) (failing : Bool) : Dev × Ledgers :=
  if d.snapTurn.sup.sessReq && !failing then (d.snapTurn.sessionTaken l.book, { l.snapTurn d with book := l.book.newSession })
  else (d.snapTurn.requestsTaken, l.snapTurn d)

theorem ledgerTurn_eq (t0 t1 : Nat) (sec supplyOk tempOk : Bool) (d : Dev) (l : Ledgers) :
    ledgerTurn t0 t1 sec supplyOk tempOk d l
      = (d.turnBooked t0 t1 sec l).turnEnded (d.ledgerMarked t1 supplyOk tempOk (d.turnBooked t0 t1 sec l).book) d.pow.pfAt.isSome := rfl

/-- What booking forgets of the part: the drive and the loop engine. -/
def forgetBooks (d : Dev) : Dev := { d with drv := {}, lpe := {} }

theorem Dev.booksTurned_sameBut (d : Dev) (t1 : Nat) (b : LedgerBook) : Dev.SameBut forgetBooks d (d.booksTurned t1 b) := by
  have hd : ForgetsDrv forgetBooks := fun _ _ => rfl
  have hl : ForgetsLpe forgetBooks := fun _ _ => rfl
  unfold Dev.booksTurned
  split
  · exact .foldl _ _ fun p _ e => (Dev.SameBut.refl _ e).drv hd _
  · have hcarry : Dev.SameBut forgetBooks d d.carryUnits := .foldl _ _ fun p _ e => (Dev.SameBut.refl _ e).lpe hl _
    exact hcarry.trans (.foldl _ _ fun p _ e => (Dev.SameBut.refl _ e).drv hd _)

theorem Dev.ledgerMarked_spec (d : Dev) (t1 : Nat) (supplyOk tempOk : Bool) (b : LedgerBook) :
    (d.ledgerMarked t1 supplyOk tempOk b).sup = { d.sup with rebook := false, diagCut := false }
      ∧ (d.ledgerMarked t1 supplyOk tempOk b).pow.pfBooked = (d.pow.pfBooked || d.pow.pfAt.isSome) := by
  have h := d.booksTurned_sameBut t1 b
  have hsup : (d.booksTurned t1 b).sup = d.sup := h.proj (·.sup) (fun _ => rfl)
  have hpow : (d.booksTurned t1 b).pow = d.pow := h.proj (·.pow) (fun _ => rfl)
  exact ⟨congrArg (fun x : Supervision => { x with rebook := false, diagCut := false }) hsup, congrArg (fun x : Power => x.pfBooked || d.pow.pfAt.isSome) hpow⟩

/-! The booking -/

/-- What booking keeps of a ledger's identity: the session and the bounds of the loss before it. -/
def LedgerBook.SameSession (b c : LedgerBook) : Prop := c.sessId = b.sessId ∧ c.lossFrom = b.lossFrom ∧ c.lossTo = b.lossTo

theorem Dev.bookFrame_session (d : Dev) (t0 t1 : Nat) (b : LedgerBook) : b.SameSession (d.bookFrame t0 t1 b) := by
  refine List.foldlRecOn (motive := b.SameSession) _ _ ?_ fun _ hc _ _ => hc
  exact List.foldlRecOn (motive := b.SameSession) _ _ ⟨rfl, rfl, rfl⟩ fun _ hc _ _ => hc

theorem Dev.bookTurn_session (d : Dev) (t0 t1 : Nat) (l : Ledgers) : l.book.SameSession (d.bookTurn t0 t1 l).book := by
  unfold Dev.bookTurn
  split
  · exact ⟨rfl, rfl, rfl⟩
  · extract_lets b c
    have hb : l.book.SameSession b := by
      unfold b
      split
      · exact ⟨rfl, rfl, rfl⟩
      · exact d.bookFrame_session t0 t1 l.book
    unfold c
    split <;> exact hb

/-- A flush leaves the book, the slots and the snapshot. -/
theorem Dev.flushTurn_keeps (d : Dev) (sec : Bool) (l : Ledgers) :
    (d.flushTurn sec l).book = l.book ∧ (d.flushTurn sec l).snap = l.snap ∧ (d.flushTurn sec l).slots = l.slots := by
  unfold Dev.flushTurn
  split_ifs <;> exact ⟨rfl, rfl, rfl⟩

theorem Dev.bookTurn_keeps (d : Dev) (t0 t1 : Nat) (l : Ledgers) : (d.bookTurn t0 t1 l).snap = l.snap ∧ (d.bookTurn t0 t1 l).slots = l.slots
    ∧ (d.bookTurn t0 t1 l).flushing = l.flushing := by
  unfold Dev.bookTurn
  split <;> exact ⟨rfl, rfl, rfl⟩

/-- After a reset of what is in flight, nothing is in flight. -/
theorem LedgerBook.resetFlight_infl (b : LedgerBook) (j : Nat) : (b.resetFlight.entry j).infl = 0 := by
  unfold LedgerBook.entry
  obtain hd | hm := sget_mem (fun _ => ({} : LedgerEntry)) b.resetFlight.entries j
  · rw [hd]
  · obtain ⟨q, -, hq⟩ := List.mem_map.mp (List.mem_of_mem_filter hm)
    have hentry : sget (fun _ => ({} : LedgerEntry)) b.resetFlight.entries j = q.2.settle .reset q.2.infl := (congrArg Prod.snd hq).symm
    rw [hentry]
    change q.2.infl - min q.2.infl q.2.infl = 0
    omega

/-! The commands of a turn -/

section
variable {l : Ledgers} {d : Dev}

theorem Dev.snapTurn_sup (d : Dev) : d.snapTurn.sup = d.sup := by
  unfold Dev.snapTurn
  split <;> rfl

theorem Dev.snapTurn_pow (d : Dev) : d.snapTurn.pow = d.pow := by
  unfold Dev.snapTurn
  split <;> rfl

theorem Ledgers.turnEnded_session (h : d.sup.sessReq = true) :
    l.turnEnded d false = (d.snapTurn.sessionTaken l.book, { l.snapTurn d with book := l.book.newSession }) :=
  if_pos (by rw [Dev.snapTurn_sup, h]; rfl)

theorem Ledgers.turnEnded_plain {failing : Bool} (h : d.sup.sessReq = false ∨ failing = true) :
    l.turnEnded d failing = (d.snapTurn.requestsTaken, l.snapTurn d) := by
  refine if_neg ?_
  rw [Dev.snapTurn_sup]
  rcases h with h | h <;> simp [h]

theorem Ledgers.snapTurn_keeps (l : Ledgers) (d : Dev) : (l.snapTurn d).book = l.book ∧ (l.snapTurn d).flushing = l.flushing := by
  unfold Ledgers.snapTurn
  split <;> exact ⟨rfl, rfl⟩

theorem Dev.sessionTaken_spec (d : Dev) (b : LedgerBook) :
    (d.sessionTaken b).sup.sessReq = false ∧ (d.sessionTaken b).bit (Reg.IRQ_RAW pLDG) 17 = true :=
  ⟨rfl, Dev.bit_irq_same (d.recOther pLDG [w32 b.sessId]) pLDG (by decide)⟩
end

section
variable (t0 t1 : Nat) (sec supplyOk tempOk : Bool) {d : Dev} (l : Ledgers)

theorem ledgerTurn_session (hsess : d.sup.sessReq = true) (hpf : d.pow.pfAt = none) (hbooked : d.pow.pfBooked = false) :
    (ledgerTurn t0 t1 sec supplyOk tempOk d l).2.book = { sessId := l.book.sessId + 1, lossFrom := l.book.lossFrom, lossTo := l.book.lossTo }
      ∧ (ledgerTurn t0 t1 sec supplyOk tempOk d l).1.sup.sessReq = false
      ∧ (ledgerTurn t0 t1 sec supplyOk tempOk d l).1.bit (Reg.IRQ_RAW pLDG) 17 = true
      ∧ ∃ z, (ledgerTurn t0 t1 sec supplyOk tempOk d l).2.flushing = some z ∧ z.book.sessId = l.book.sessId ∧ z.pf = false := by
  rw [ledgerTurn_eq]
  obtain ⟨hsup, -⟩ := d.ledgerMarked_spec t1 supplyOk tempOk (d.turnBooked t0 t1 sec l).book
  obtain ⟨hid, hfrom, hto⟩ := d.bookTurn_session t0 t1 l
  obtain ⟨hbook, -⟩ := d.flushTurn_keeps sec (d.bookTurn t0 t1 l)
  have hflush : (d.turnBooked t0 t1 sec l).flushing = some ((d.bookTurn t0 t1 l).slot (d.bookTurn t0 t1 l).book false) := by
    unfold Dev.turnBooked Dev.flushTurn
    rw [if_neg (by rw [hbooked]; decide), if_neg (by rw [hpf]; decide), if_pos (by rw [hsess]; simp)]
  rw [hpf, Option.isSome_none, Ledgers.turnEnded_session ((congrArg Supervision.sessReq hsup).trans hsess)]
  obtain ⟨hreq, hirq⟩ := (d.ledgerMarked t1 supplyOk tempOk (d.turnBooked t0 t1 sec l).book).snapTurn.sessionTaken_spec (d.turnBooked t0 t1 sec l).book
  refine ⟨?_, hreq, hirq, _, (Ledgers.snapTurn_keeps _ _).2.trans hflush, hid, rfl⟩
  change (d.turnBooked t0 t1 sec l).book.newSession = _
  unfold Dev.turnBooked LedgerBook.newSession
  rw [hbook, hid, hfrom, hto]

theorem ledgerTurn_warned (hpf : d.pow.pfAt.isSome = true) (hbooked : d.pow.pfBooked = false) :
    (ledgerTurn t0 t1 sec supplyOk tempOk d l).1.pow.pfBooked = true
      ∧ (ledgerTurn t0 t1 sec supplyOk tempOk d l).1.sup.sessReq = d.sup.sessReq
      ∧ (∀ j, ((ledgerTurn t0 t1 sec supplyOk tempOk d l).2.book.entry j).infl = 0)
      ∧ ∃ z, (ledgerTurn t0 t1 sec supplyOk tempOk d l).2.flushing = some z ∧ z.book = (ledgerTurn t0 t1 sec supplyOk tempOk d l).2.book ∧ z.pf = true := by
  rw [ledgerTurn_eq, Ledgers.turnEnded_plain (.inr hpf)]
  obtain ⟨hsup, hpow⟩ := d.ledgerMarked_spec t1 supplyOk tempOk (d.turnBooked t0 t1 sec l).book
  obtain ⟨hbook, hflushing⟩ := (d.turnBooked t0 t1 sec l).snapTurn_keeps (d.ledgerMarked t1 supplyOk tempOk (d.turnBooked t0 t1 sec l).book)
  have hflush : d.turnBooked t0 t1 sec l
      = { d.bookTurn t0 t1 l with flushing := some ((d.bookTurn t0 t1 l).slot (d.bookTurn t0 t1 l).book true) } := by
    unfold Dev.turnBooked Dev.flushTurn
    rw [if_neg (by rw [hbooked]; decide), if_pos hpf]
  refine ⟨?_, ?_, fun j => ?_, _, hflushing.trans (congrArg Ledgers.flushing hflush), ?_, rfl⟩
  · refine (congrArg Power.pfBooked (Dev.snapTurn_pow _)).trans (hpow.trans ?_)
    rw [hpf, Bool.or_true]
  · exact (congrArg Supervision.sessReq (Dev.snapTurn_sup _)).trans ((congrArg Supervision.sessReq hsup).trans rfl)
  · rw [hbook, hflush]
    change ((d.bookTurn t0 t1 l).book.entry j).infl = 0
    unfold Dev.bookTurn
    rw [if_neg (by rw [hbooked]; decide)]
    dsimp only
    rw [if_pos hpf]
    exact LedgerBook.resetFlight_infl _ j
  · exact ((congrArg Ledgers.book hflush).symm.trans hbook.symm)

theorem ledgerTurn_booked (hbooked : d.pow.pfBooked = true) (hpf : d.pow.pfAt.isSome = true) :
    (ledgerTurn t0 t1 sec supplyOk tempOk d l).2.book = l.book ∧ (ledgerTurn t0 t1 sec supplyOk tempOk d l).2.flushing = l.flushing
      ∧ (ledgerTurn t0 t1 sec supplyOk tempOk d l).1.sup.sessReq = d.sup.sessReq := by
  rw [ledgerTurn_eq, Ledgers.turnEnded_plain (.inr hpf)]
  obtain ⟨hsup, -⟩ := d.ledgerMarked_spec t1 supplyOk tempOk (d.turnBooked t0 t1 sec l).book
  obtain ⟨hbook, hflushing⟩ := (d.turnBooked t0 t1 sec l).snapTurn_keeps (d.ledgerMarked t1 supplyOk tempOk (d.turnBooked t0 t1 sec l).book)
  have hsame : d.turnBooked t0 t1 sec l = l := by
    unfold Dev.turnBooked Dev.flushTurn Dev.bookTurn
    rw [if_pos hbooked, if_pos hbooked]
  exact ⟨hbook.trans (congrArg Ledgers.book hsame), hflushing.trans (congrArg Ledgers.flushing hsame),
    (congrArg Supervision.sessReq (Dev.snapTurn_sup _)).trans ((congrArg Supervision.sessReq hsup).trans rfl)⟩

theorem ledgerTurn_snapshot (hsnap : d.sup.snapReq = true) (hsess : d.sup.sessReq = false) :
    (ledgerTurn t0 t1 sec supplyOk tempOk d l).2.snap = some (ledgerTurn t0 t1 sec supplyOk tempOk d l).2.book
      ∧ (ledgerTurn t0 t1 sec supplyOk tempOk d l).2.snapPos = 0 ∧ (ledgerTurn t0 t1 sec supplyOk tempOk d l).1.sup.snapReq = false
      ∧ (ledgerTurn t0 t1 sec supplyOk tempOk d l).1.bit (Reg.IRQ_RAW pLDG) 16 = true := by
  obtain ⟨hsup, -⟩ := d.ledgerMarked_spec t1 supplyOk tempOk (d.turnBooked t0 t1 sec l).book
  have hsnap' := (congrArg Supervision.snapReq hsup).trans hsnap
  rw [ledgerTurn_eq, Ledgers.turnEnded_plain (.inl ((congrArg Supervision.sessReq hsup).trans hsess))]
  unfold Ledgers.snapTurn Dev.snapTurn
  rw [if_pos hsnap', if_pos hsnap']
  exact ⟨rfl, rfl, rfl, Dev.bit_irq_same (d.ledgerMarked t1 supplyOk tempOk (d.turnBooked t0 t1 sec l).book) pLDG (by decide)⟩

theorem ledgerTurn_quiet (hsnap : d.sup.snapReq = false) (hsess : d.sup.sessReq = false) (hflush : d.sup.flushReq = false) (hsec : sec = false)
    (hpf : d.pow.pfAt = none) :
    (ledgerTurn t0 t1 sec supplyOk tempOk d l).2.snap = l.snap ∧ (ledgerTurn t0 t1 sec supplyOk tempOk d l).2.flushing = l.flushing
      ∧ (ledgerTurn t0 t1 sec supplyOk tempOk d l).2.slots = l.slots := by
  obtain ⟨hsup, -⟩ := d.ledgerMarked_spec t1 supplyOk tempOk (d.turnBooked t0 t1 sec l).book
  have hsnap' := (congrArg Supervision.snapReq hsup).trans hsnap
  have hbooked : d.turnBooked t0 t1 sec l = d.bookTurn t0 t1 l := by
    unfold Dev.turnBooked Dev.flushTurn
    split
    · rfl
    · rw [if_neg (by rw [hpf]; decide), if_neg (by rw [hsec, hflush, hsess]; decide)]
  obtain ⟨hs, hsl, hf⟩ := d.bookTurn_keeps t0 t1 l
  rw [ledgerTurn_eq, Ledgers.turnEnded_plain (.inl ((congrArg Supervision.sessReq hsup).trans hsess))]
  unfold Ledgers.snapTurn
  rw [if_neg (by rw [hsnap']; decide), hbooked]
  exact ⟨hs, hf, hsl⟩
end

/-! The flush (R356) -/

theorem exec_ledgerFlush_pf {s : State} {x : LedgerSlot} (h : s.ldg.flushing = some x) (hpf : x.pf = true) (ok : Bool) : exec (.ledgerFlush ok) s = .next s := by
  change execLedgerFlush ok s = _
  unfold execLedgerFlush
  rw [h]
  exact congrArg Host.Outcome.next (if_pos hpf)

/-- The ledger with a flush written or lost. -/
def State.ledgerFlushed (s : State) (x : LedgerSlot) (ok : Bool) : State := { s with ldg := { s.ldg.writeSlot x ok with flushing := none } }

/-- A flush that fails shown. -/
def Dev.flushFailed (d : Dev) : Dev := d.faultRec pLDG 16

section
variable {s : State} {x : LedgerSlot} (h : s.ldg.flushing = some x) (hpf : x.pf = false)
include h hpf

theorem exec_ledgerFlush_written (hstore : s.dev.stat pREC 16 = false) :
    exec (.ledgerFlush true) s = .next (onDev (·.wr64 Reg.LDG_LAST_FLUSH x.seqx) (s.ledgerFlushed x true)) := by
  change execLedgerFlush true s = _
  unfold execLedgerFlush
  rw [h]
  exact congrArg Host.Outcome.next ((if_neg (by rw [hpf]; decide)).trans ((if_neg (by rw [hstore]; decide)).trans (if_pos rfl)))

theorem exec_ledgerFlush_failed (hstore : s.dev.stat pREC 16 = true) :
    exec (.ledgerFlush false) s = .next ((onDev Dev.flushFailed (s.ledgerFlushed x false)).logFailure 3 0 true) := by
  change execLedgerFlush false s = _
  unfold execLedgerFlush
  rw [h]
  exact congrArg Host.Outcome.next ((if_neg (by rw [hpf]; decide)).trans (if_pos hstore))

theorem exec_ledgerFlush_fails (hstore : s.dev.stat pREC 16 = false) :
    exec (.ledgerFlush false) s = .next ((onDev Dev.flushFailed (s.ledgerFlushed x false)).storeFails 3 0 true) := by
  change execLedgerFlush false s = _
  unfold execLedgerFlush
  rw [h]
  exact congrArg Host.Outcome.next ((if_neg (by rw [hpf]; decide)).trans ((if_neg (by rw [hstore]; decide)).trans (if_neg (by decide))))

theorem ledgerFlush_written (hstore : s.dev.stat pREC 16 = false) :
    ∃ t, exec (.ledgerFlush true) s = .next t
      ∧ t.ldg = { s.ldg with slots := setAt s.ldg.slots s.ldg.olderSlot (some x), lastSlot := s.ldg.olderSlot, flushing := none }
      ∧ t.dev.rd64 Reg.LDG_LAST_FLUSH = x.seqx % 2 ^ 64 ∧ (t.rcd = s.rcd ∧ t.pending = s.pending)
      ∧ { t.dev with regs := [] } = { s.dev with regs := [] } ∧ regsKept [Reg.LDG_LAST_FLUSH, Reg.LDG_LAST_FLUSH + 4] s t :=
  ⟨_, exec_ledgerFlush_written h hpf hstore, rfl, Dev.rd64_wr64_mod s.dev Reg.LDG_LAST_FLUSH x.seqx, ⟨rfl, rfl⟩, rfl,
    ((Dev.RdKept.refl _ s.dev).wr (by decide) _).wr (by decide) _⟩
end

theorem Dev.flushFailed_spec (d : Dev) : d.flushFailed.bit (Reg.FAULT pLDG) 16 = true ∧ d.flushFailed.tm = d.tm
    ∧ Dev.RdKept [Reg.FAULT pLDG, Reg.IRQ_RAW pLDG, Reg.REC_SUPP_TOTAL] d d.flushFailed :=
  ⟨Dev.bit_faultRec d pLDG (by decide), ((Dev.SameBut.refl (fun x => { x with rcf := {} }) d).faultRec (fun _ _ => rfl) _ _ _ _ _).proj (·.tm) (fun _ => rfl),
    ((Dev.RdKept.refl _ d).fault (by decide) (by decide) 16).emit (by decide) _⟩

theorem Dev.failEntry_congr {l : List Nat} {d e : Dev} (h : Dev.RdKept l d e) (htm : e.tm = d.tm) (hstate : Reg.TIME_TBG_STATE ∉ l)
    (hset : Reg.STATUS pTIME1 ∉ l) (hsel : Reg.TIME_WALL_SEL ∉ l) (kind seq sector : Nat) : e.failEntry kind seq sector = d.failEntry kind seq sector := by
  unfold Dev.failEntry
  rw [Dev.wall_congr h htm hstate hset hsel, htm]

/-- The register words that a flush that fails touches. -/
def flushFailWords : List Nat := [Reg.FAULT pLDG, Reg.IRQ_RAW pLDG, Reg.REC_BR_FAIL_CNT, Reg.REC_SUPP_TOTAL, Reg.STATUS pREC, Reg.FAULT pREC, Reg.IRQ_RAW pREC]

/-- A failure of kind 3 logged behind a flush that has failed. -/
theorem Dev.flushEntry (s : State) (x : LedgerSlot) : let u := onDev Dev.flushFailed (s.ledgerFlushed x false)
    u.rcd.logged (u.dev.rdN Reg.REC_BR_FAIL_CNT) (u.dev.failEntry 3 u.rcd.nextSeq 0)
      = s.rcd.logged (s.dev.rdN Reg.REC_BR_FAIL_CNT) ⟨3, s.dev.tm.tbm, wallWords s.dev.wall, s.rcd.nextSeq, 0⟩ := by
  obtain ⟨-, htm, hkept⟩ := s.dev.flushFailed_spec
  have hentry := Dev.failEntry_congr hkept htm (by decide) (by decide) (by decide) 3 s.rcd.nextSeq 0
  have hcount : s.dev.flushFailed.rdN Reg.REC_BR_FAIL_CNT = s.dev.rdN Reg.REC_BR_FAIL_CNT := congrArg BitVec.toNat (hkept _ (by decide))
  change s.rcd.logged (s.dev.flushFailed.rdN Reg.REC_BR_FAIL_CNT) (s.dev.flushFailed.failEntry 3 s.rcd.nextSeq 0) = _
  rw [hentry, hcount]
  rfl

theorem RecStore.logged_get (r : RecStore) (count : Nat) (e : FailEntry) : sget (fun _ => none) (r.logged count e).failLog (count % 64) = some e :=
  sget_sset_same (fun _ => none) r.failLog (count % 64) (some e)

theorem ledgerFlush_lost {s : State} {x : LedgerSlot} (h : s.ldg.flushing = some x) (hpf : x.pf = false) :
    ∃ t, exec (.ledgerFlush false) s = .next t ∧ t.ldg = { s.ldg with slots := setAt s.ldg.slots s.ldg.olderSlot none, flushing := none }
      ∧ t.dev.bit (Reg.FAULT pLDG) 16 = true ∧ t.dev.stat pREC 16 = true ∧ t.pending = s.pending
      ∧ (s.dev.stat pREC 16 = false → t.dev.bit (Reg.FAULT pREC) 16 = true ∧ t.dev.bit (Reg.IRQ_RAW pREC) 16 = true)
      ∧ t.dev.rd Reg.REC_BR_FAIL_CNT = s.dev.rd Reg.REC_BR_FAIL_CNT + 1#32
      ∧ sget (fun _ => none) t.rcd.failLog (s.dev.rdN Reg.REC_BR_FAIL_CNT % 64) = some ⟨3, s.dev.tm.tbm, wallWords s.dev.wall, s.rcd.nextSeq, 0⟩
      ∧ regsKept flushFailWords s t := by
  obtain ⟨hfault, htm, hkept⟩ := s.dev.flushFailed_spec
  have hcnt : s.dev.flushFailed.rd Reg.REC_BR_FAIL_CNT = s.dev.rd Reg.REC_BR_FAIL_CNT := hkept _ (by decide)
  have hentry := Dev.flushEntry s x
  by_cases hstore : s.dev.stat pREC 16 = true
  · have hcounted : Dev.RdKept [Reg.REC_BR_FAIL_CNT] s.dev.flushFailed s.dev.flushFailed.failCounted := (Dev.RdKept.refl _ _).wr (by decide) _
    have hlog : s.dev.flushFailed.failCounted.failEntry 3 s.rcd.nextSeq 0 = s.dev.flushFailed.failEntry 3 s.rcd.nextSeq 0 :=
      Dev.failEntry_congr hcounted rfl (by decide) (by decide) (by decide) 3 s.rcd.nextSeq 0
    refine ⟨_, exec_ledgerFlush_failed h hpf hstore, rfl, (hcounted.bit (by decide) 16).trans hfault,
      (hcounted.bit (by decide) 16).trans ((hkept.bit (by decide) 16).trans hstore), rfl, fun hn => absurd (hstore.symm.trans hn) (by decide), ?_, ?_,
      (hkept.mono (by decide)).trans (hcounted.mono (by decide))⟩
    · exact (Dev.rd_wr_same s.dev.flushFailed Reg.REC_BR_FAIL_CNT _).trans (congrArg (· + 1#32) hcnt)
    · rw [State.logFailure_taken]
      change sget (fun _ => none) (s.rcd.logged (s.dev.flushFailed.rdN Reg.REC_BR_FAIL_CNT) (s.dev.flushFailed.failCounted.failEntry 3 s.rcd.nextSeq 0)).failLog _ = _
      rw [hlog]
      exact (congrArg (fun r : RecStore => sget (fun _ => none) r.failLog (s.dev.rdN Reg.REC_BR_FAIL_CNT % 64)) hentry).trans (RecStore.logged_get _ _ _)
  · obtain ⟨hstat, hf, hirq, hcount, hrcd, hldg, hpending, hwords⟩ := (onDev Dev.flushFailed (s.ledgerFlushed x false)).storeFails_logged 3 0
    refine ⟨_, exec_ledgerFlush_fails h hpf (Bool.eq_false_iff.mpr hstore), hldg, (hwords.bit (by decide) 16).trans hfault, hstat, hpending, fun _ => ⟨hf, hirq⟩,
      hcount.trans (congrArg (· + 1#32) hcnt), ?_, (hkept.mono (by decide)).trans (hwords.mono (by decide))⟩
    rw [hrcd, hentry]
    exact RecStore.logged_get _ _ _

/-! The snapshot read, and a symbol error of an entry (R360, R361) -/

theorem snapshotRead_gives {req : Requester} {s : State} (h : Readable req Reg.LDG_SNAP_PORT s) (words : Nat) :
    ∃ t, exec (.snapshotRead req words) s = .next t
      ∧ answerTo req t = ⟨.ok, min words s.ldg.snapLevel, (List.range (min words s.ldg.snapLevel)).map (fun i => s.ldg.snapWord (s.ldg.snapPos + i))⟩
      ∧ t.ldg = { s.ldg with snapPos := s.ldg.snapPos + min words s.ldg.snapLevel } ∧ (t.rcd = s.rcd ∧ t.pending = s.pending)
      ∧ (min words s.ldg.snapLevel < words → words ≠ readAll → t.dev.stat pLDG sSHORT = true) ∧ regsKept [Reg.STATUS pLDG] s t := by
  obtain ⟨k, hk⟩ := hostPort_acts (n := words) h portSnap
  have hlen : (portSnap words (s.woken k)).1.length = min words s.ldg.snapLevel := by
    change ((List.range (min words s.ldg.snapLevel)).map (fun i => s.ldg.snapWord (s.ldg.snapPos + i))).length = _
    rw [List.length_map, List.length_range]
  refine ⟨_, congrArg Host.Outcome.next hk, (answerTo_portGave _ _ _ _).trans ?_, rfl, ⟨rfl, rfl⟩, fun hlt hall => ?_,
    portGave_regsKept (by decide) _ _ (Dev.RdKept.refl _ (s.woken k).dev)⟩
  · rw [hlen]
    rfl
  · have hshort : (s.woken k).dev.shortRead Reg.LDG_SNAP_PORT words (portSnap words (s.woken k)).1.length = (s.woken k).dev.setStat pLDG sSHORT true :=
      if_pos ⟨by rw [hlen]; exact hlt, hall⟩
    change ((s.woken k).dev.shortRead Reg.LDG_SNAP_PORT words (portSnap words (s.woken k)).1.length).stat pLDG sSHORT = true
    rw [hshort]
    exact Dev.bit_setBit_same (s.woken k).dev (Reg.STATUS pLDG) true (by decide)

theorem snapshotRead_none {req : Requester} {s : State} (h : Readable req Reg.LDG_SNAP_PORT s) (words : Nat) (hnone : s.ldg.snap = none) :
    ∃ t, exec (.snapshotRead req words) s = .next t ∧ answerTo req t = ⟨.ok, 0, []⟩ ∧ t.ldg = s.ldg ∧ (t.rcd = s.rcd ∧ t.pending = s.pending) := by
  obtain ⟨t, ht, hanswer, hldg, hkept, -⟩ := snapshotRead_gives h words
  have hlevel : min words s.ldg.snapLevel = 0 := by
    unfold Ledgers.snapLevel
    rw [hnone]
    exact Nat.min_zero words
  rw [hlevel] at hanswer hldg
  exact ⟨t, ht, hanswer, hldg, hkept⟩

/-- A symbol error of an entry shown. -/
def Dev.entryLost (d : Dev) (c : Nat) : Dev := ((d.fault pLDG fECC).irq pLDG 18).recFault pLDG fECC [] objIsChannel c

theorem Dev.entryLost_spec (d : Dev) (c : Nat) : (d.entryLost c).bit (Reg.FAULT pLDG) fECC = true ∧ (d.entryLost c).bit (Reg.IRQ_RAW pLDG) 18 = true
    ∧ Dev.SameBut (fun x => { x with rcf := {} }) d (d.entryLost c) ∧ Dev.RdKept [Reg.FAULT pLDG, Reg.IRQ_RAW pLDG, Reg.REC_SUPP_TOTAL] d (d.entryLost c) := by
  have hrecord : Dev.RdKept [Reg.REC_SUPP_TOTAL] ((d.fault pLDG fECC).irq pLDG 18) (d.entryLost c) := Dev.emit_rdKept _ _
  refine ⟨(hrecord.bit (by decide) _).trans ?_, (hrecord.bit (by decide) 18).trans (Dev.bit_irq_same _ pLDG (by decide)), ?_, ?_⟩
  · exact Dev.bit_irq_true _ (by decide) (by decide) (Dev.fault_spec d pLDG fECC (by decide)).1
  · exact ((((Dev.SameBut.refl _ d).fault _ _).irq _ _).emit (fun _ _ => rfl) _)
  · exact (((Dev.RdKept.refl _ d).fault (by decide) (by decide) fECC).irq (by decide) 18).trans (hrecord.mono (by decide))

/-- Settles O47. -/
theorem ledgerCommands : Obligations.LedgerCommands := by
  unfold Obligations.LedgerCommands
  intro req words c x b t0 t1 sec supplyOk tempOk s kept turn
  obtain ⟨hfault, hirq, hsame, hregs⟩ := s.dev.entryLost_spec c.val
  exact ⟨fun h => congrArg Host.Outcome.next (hostCmd_actDev _ h), fun h => congrArg Host.Outcome.next (hostCmd_actDev _ h),
    fun h => congrArg Host.Outcome.next (hostCmd_actDev _ h), ledgerTurn_session t0 t1 sec supplyOk tempOk s.ldg,
    ledgerTurn_warned t0 t1 sec supplyOk tempOk s.ldg, ledgerTurn_booked t0 t1 sec supplyOk tempOk s.ldg,
    ledgerTurn_snapshot t0 t1 sec supplyOk tempOk s.ldg, ledgerTurn_quiet t0 t1 sec supplyOk tempOk s.ldg,
    fun h hpf => exec_ledgerFlush_pf h hpf sec, ledgerFlush_written, ledgerFlush_lost, fun h _ => snapshotRead_gives h words,
    fun h hnone => snapshotRead_none h words hnone, _, rfl, rfl, hfault, hirq, ⟨rfl, rfl⟩, hsame, hregs⟩

end Sys2Proof.Machine
end

section
/-! PROOFS. Measured start, the blob, the extensions and the reports of the attestation (chapter 19). -/
namespace Sys2Proof.Machine

/-! A digest has eight words -/

theorem shaRound_length (v : List W32) (kw : W32 × W32) : (shaRound v kw).length = v.length := by
  unfold shaRound
  split <;> rfl

theorem shaBlock_length {h : List W32} (hlen : h.length = 8) (block : List W32) : (shaBlock h block).length = 8 := by
  have hrounds (l : List (W32 × W32)) : (l.foldl shaRound h).length = 8 :=
    List.foldlRecOn (motive := fun v : List W32 => v.length = 8) l shaRound hlen fun v hv kw _ => (shaRound_length v kw).trans hv
  unfold shaBlock
  rw [List.length_zipWith, hrounds, hlen]
  rfl

theorem shaBlocks_length (n : Nat) {h : List W32} (hlen : h.length = 8) (ws : List W32) : (shaBlocks n h ws).length = 8 := by
  induction n generalizing h ws with
  | zero => exact hlen
  | succ n ih =>
    unfold shaBlocks
    split
    · exact hlen
    · exact ih (shaBlock_length hlen _) _

theorem sha256_length (bs : List Byte) : (sha256 bs).length = 8 := shaBlocks_length _ rfl _

/-! Words written one after the other -/

/-- The words of a list written to the addresses of a window. -/
def Dev.listWritten (d : Dev) (base : Nat → Nat) (ws : List W32) (n : Nat) : Dev := (ws.zipIdx n).foldl (fun d (p : W32 × Nat) => d.wr (base p.2) p.1) d

theorem Dev.listWritten_cons (d : Dev) (base : Nat → Nat) (w : W32) (ws : List W32) (n : Nat) :
    d.listWritten base (w :: ws) n = (d.wr (base n) w).listWritten base ws (n + 1) := rfl

theorem Dev.listWritten_ne (d : Dev) (base : Nat → Nat) (ws : List W32) (n : Nat) {a : Nat} (h : ∀ i, n ≤ i → i < n + ws.length → a ≠ base i) :
    (d.listWritten base ws n).rd a = d.rd a := by
  induction ws generalizing d n with
  | nil => rfl
  | cons w ws ih =>
    rw [Dev.listWritten_cons, ih _ _ fun i hi hlt => h i (by omega) (by simp only [List.length_cons]; omega)]
    exact Dev.rd_wr_ne _ _ (h n (le_refl n) (by simp only [List.length_cons]; omega))

theorem Dev.listWritten_get (d : Dev) {base : Nat → Nat} (hbase : ∀ i j, base i = base j → i = j) (ws : List W32) (n : Nat) {i : Nat} (hi : i < ws.length) :
    (d.listWritten base ws n).rd (base (n + i)) = ws[i] := by
  induction ws generalizing d n i with
  | nil => exact absurd hi (by simp)
  | cons w ws ih =>
    rw [Dev.listWritten_cons]
    cases i with
    | zero =>
      refine (Dev.listWritten_ne _ _ _ _ fun j hj _ he => ?_).trans (Dev.rd_wr_same d (base n) w)
      have := hbase _ _ he
      omega
    | succ i =>
      have hi' : i < ws.length := by simpa using hi
      rw [show n + (i + 1) = n + 1 + i by omega]
      exact ih (d.wr (base n) w) (n + 1) hi'

theorem Dev.listWritten_sameBut (blank : Dev → Dev) (d : Dev) (base : Nat → Nat) (ws : List W32) (n : Nat) : Dev.SameBut blank d (d.listWritten base ws n) :=
  .foldl _ _ fun _ _ e => (Dev.SameBut.refl blank e).wr _ _

/-! A measurement (R459, R464) -/

/-- The eight words of a measurement register. -/
def measAt (k i : Nat) : Nat := Reg.ATT_MEAS (8 * k + i)

theorem Dev.setMeas_same {d : Dev} {k : Nat} {h : List W32} (heq : d.meas k = h) : d.setMeas k h = d := if_pos heq

/-- A measurement counted: MEAS_GEN, and the confirmation ended. -/
def Dev.measCounted (d : Dev) : Dev := (d.inc Reg.ATT_MEAS_GEN).setStat pATT 16 false

theorem Dev.setMeas_new {d : Dev} {k : Nat} {h : List W32} (hne : d.meas k ≠ h) (hlen : h.length = 8) :
    d.setMeas k h = (d.listWritten (measAt k) h 0).measCounted := by
  have htake : h.take 8 = h := List.take_of_length_le (le_of_eq hlen)
  refine (if_neg hne).trans ?_
  rw [htake]
  rfl

theorem Dev.meas_congr {d e : Dev} {k : Nat} (h : ∀ i, i < 8 → e.rd (measAt k i) = d.rd (measAt k i)) : e.meas k = d.meas k :=
  List.map_congr_left fun i hi => h i (List.mem_range.mp hi)

/-- The two parts agree on all that belongs to the measurements. -/
structure Dev.SameMeas (d e : Dev) : Prop where
  meas : ∀ j, j < 8 → e.meas j = d.meas j
  gen : e.rd Reg.ATT_MEAS_GEN = d.rd Reg.ATT_MEAS_GEN
  confirmed : e.stat pATT 16 = d.stat pATT 16

theorem Dev.SameMeas.trans {d e f : Dev} (h : d.SameMeas e) (h' : e.SameMeas f) : d.SameMeas f :=
  ⟨fun j hj => (h'.meas j hj).trans (h.meas j hj), h'.gen.trans h.gen, h'.confirmed.trans h.confirmed⟩

/-- An address of no measurement. -/
def offMeas (a : Nat) : Bool := decide (a < 0x4100) || decide (0x4200 ≤ a)

theorem measAt_ne {a k i : Nat} (ha : offMeas a = true) (hk : k < 8) (hi : i < 8) : measAt k i ≠ a := by
  unfold offMeas at ha
  unfold measAt Reg.ATT_MEAS
  simp only [Bool.or_eq_true, decide_eq_true_eq] at ha
  omega

/-- The measurements stay where none of their words is touched, nor the bit of the confirmation. -/
theorem Dev.SameMeas.of_rdKept {l : List Nat} {d e : Dev} (h : Dev.RdKept l d e) (hl : ∀ a ∈ l, offMeas a = true) (hgen : Reg.ATT_MEAS_GEN ∉ l)
    (hstat : e.stat pATT 16 = d.stat pATT 16) : d.SameMeas e :=
  ⟨fun _ hj => Dev.meas_congr fun _ hi => h _ fun hmem => measAt_ne (hl _ hmem) hj hi rfl, h _ hgen, hstat⟩

theorem Dev.SameMeas.of_regs {d e : Dev} (h : e.regs = d.regs) : d.SameMeas e :=
  .of_rdKept (Dev.RdKept.ofRegs [] h) (by simp) (by simp) (congrArg (bitOf · 16) (Dev.rd_of_regs h _))

theorem Dev.SameMeas.setStat (d : Dev) {b : Nat} (hb : b < 32) (hne : b ≠ 16) (v : Bool) : d.SameMeas (d.setStat pATT b v) :=
  .of_rdKept ((Dev.RdKept.refl [Reg.STATUS pATT] d).setStat (by decide) b v) (by decide) (by decide)
    ((Dev.bit_setBit d _ b 16 v hb (by decide)).trans (if_neg (fun h => hne h.symm)))

/-- A register measured: it bears the digest, the others stay; a change counts and ends the confirmation. -/
structure Dev.Measured (d e : Dev) (k : Nat) (h : List W32) : Prop where
  value : e.meas k = h
  others : ∀ j, j < 8 → j ≠ k → e.meas j = d.meas j
  changed : d.meas k ≠ h → e.rd Reg.ATT_MEAS_GEN = d.rd Reg.ATT_MEAS_GEN + 1#32 ∧ e.stat pATT 16 = false
  same : d.meas k = h → e.rd Reg.ATT_MEAS_GEN = d.rd Reg.ATT_MEAS_GEN ∧ e.stat pATT 16 = d.stat pATT 16

/-- What is measured is measured behind and before what leaves the measurements. -/
theorem Dev.Measured.congr {d d' e e' : Dev} {k : Nat} {h : List W32} (hm : d.Measured e k h) (hk : k < 8) (hd : d'.SameMeas d) (he : e.SameMeas e') :
    d'.Measured e' k h where
  value := (he.meas k hk).trans hm.value
  others j hj hne := (he.meas j hj).trans ((hm.others j hj hne).trans (hd.meas j hj))
  changed hne := by
    obtain ⟨hgen, hstat⟩ := hm.changed (by rw [hd.meas k hk]; exact hne)
    exact ⟨he.gen.trans (hgen.trans (congrArg (· + 1#32) hd.gen)), he.confirmed.trans hstat⟩
  same heq := by
    obtain ⟨hgen, hstat⟩ := hm.same ((hd.meas k hk).trans heq)
    exact ⟨he.gen.trans (hgen.trans hd.gen), he.confirmed.trans (hstat.trans hd.confirmed)⟩

theorem Dev.measCounted_rdKept (d : Dev) : Dev.RdKept [Reg.ATT_MEAS_GEN, Reg.STATUS pATT] d d.measCounted :=
  ((Dev.RdKept.refl _ d).wr (by decide) _).setStat (by decide) 16 false

theorem measAt_inj (k : Nat) : ∀ i j, measAt k i = measAt k j → i = j := by
  intro i j h
  unfold measAt Reg.ATT_MEAS at h
  omega

theorem Dev.setMeas_measured (d : Dev) {k : Nat} (hk : k < 8) {h : List W32} (hlen : h.length = 8) : d.Measured (d.setMeas k h) k h := by
  by_cases heq : d.meas k = h
  · rw [Dev.setMeas_same heq]
    exact ⟨heq, fun _ _ _ => rfl, fun hne => absurd heq hne, fun _ => ⟨rfl, rfl⟩⟩
  · rw [Dev.setMeas_new heq hlen]
    let e := d.listWritten (measAt k) h 0
    have hcount := e.measCounted_rdKept
    have hmeas {j i : Nat} (hj : j < 8) (hi : i < 8) : e.measCounted.rd (measAt j i) = e.rd (measAt j i) := by
      refine hcount _ fun hmem => ?_
      simp only [List.mem_cons, List.not_mem_nil, or_false] at hmem
      rcases hmem with hm | hm
      · exact measAt_ne (by decide) hj hi hm
      · exact measAt_ne (by decide) hj hi hm
    have hgen : e.rd Reg.ATT_MEAS_GEN = d.rd Reg.ATT_MEAS_GEN :=
      d.listWritten_ne (measAt k) h 0 fun i _ hi => (measAt_ne (by decide) hk (by omega)).symm
    refine ⟨?_, fun j hj hne => Dev.meas_congr fun i hi => (hmeas hj hi).trans (d.listWritten_ne _ _ _ fun i' _ hi' he => ?_), fun _ => ⟨?_, ?_⟩,
      fun hsame => absurd hsame heq⟩
    · change (List.range 8).map (fun i => e.measCounted.rd (measAt k i)) = h
      refine List.ext_getElem (by simp [hlen]) fun i hi hi' => ?_
      have hi8 : i < 8 := hlen ▸ hi'
      have hget := d.listWritten_get (measAt_inj k) h 0 hi'
      rw [Nat.zero_add] at hget
      rw [List.getElem_map, List.getElem_range]
      exact (hmeas hk hi8).trans hget
    · unfold measAt Reg.ATT_MEAS at he
      omega
    · exact (Dev.rd_setBit_ne (e.inc Reg.ATT_MEAS_GEN) 16 false (by decide)).trans
        ((Dev.rd_wr_same e Reg.ATT_MEAS_GEN _).trans (congrArg (· + 1#32) hgen))
    · exact Dev.bit_setBit_same (e.inc Reg.ATT_MEAS_GEN) (Reg.STATUS pATT) false (by decide)

/-- The register words of the measurements. -/
def measWords : List Nat := Reg.ATT_MEAS_GEN :: Reg.STATUS pATT :: (List.range 64).map Reg.ATT_MEAS

theorem measAt_mem {k i : Nat} (hk : k < 8) (hi : i < 8) : measAt k i ∈ measWords :=
  List.mem_cons_of_mem _ (List.mem_cons_of_mem _ (List.mem_map.mpr ⟨8 * k + i, List.mem_range.mpr (by omega), rfl⟩))

theorem Dev.setMeas_rdKept (d : Dev) {k : Nat} (hk : k < 8) {h : List W32} (hlen : h.length = 8) : Dev.RdKept measWords d (d.setMeas k h) := by
  by_cases heq : d.meas k = h
  · rw [Dev.setMeas_same heq]
    exact .refl _ d
  · rw [Dev.setMeas_new heq hlen]
    have hw : Dev.RdKept measWords d (d.listWritten (measAt k) h 0) :=
      fun a ha => d.listWritten_ne _ _ _ fun i _ hi he => ha (he ▸ measAt_mem hk (by omega))
    exact hw.trans ((Dev.measCounted_rdKept _).mono (by decide))

theorem Dev.setMeas_sameBut (blank : Dev → Dev) (d : Dev) (k : Nat) {h : List W32} (hlen : h.length = 8) : Dev.SameBut blank d (d.setMeas k h) := by
  by_cases heq : d.meas k = h
  · rw [Dev.setMeas_same heq]
    exact .refl _ d
  · rw [Dev.setMeas_new heq hlen]
    exact ((d.listWritten_sameBut blank (measAt k) h 0).wr _ _).setStat _ _ _

/-- Of the page's status, a measurement changes the bit of the confirmation alone. -/
theorem Dev.setMeas_stat (d : Dev) {k : Nat} (hk : k < 8) {h : List W32} (hlen : h.length = 8) {b : Nat} (hb : b < 32) (hne : b ≠ 16) :
    (d.setMeas k h).stat pATT b = d.stat pATT b := by
  by_cases heq : d.meas k = h
  · rw [Dev.setMeas_same heq]
  · rw [Dev.setMeas_new heq hlen]
    refine (Dev.bit_setBit _ _ 16 b false (by decide) hb).trans ((if_neg hne).trans ?_)
    refine congrArg (bitOf · b) ((Dev.rd_wr_ne _ _ (by decide)).trans ?_)
    exact d.listWritten_ne (measAt k) h 0 fun i _ hi => (measAt_ne (by decide) hk (by omega)).symm

/-! What the commands of the page leave beside its own -/

/-- A part of the module that a change leaves out stays. -/
theorem differOnly.proj {α : Type} {blank : Dev → Dev} {s t : State} (h : differOnly blank s t) (f : Dev → α)
    (hf : ∀ d, f (blank { d with regs := [] }) = f d) : f t.dev = f s.dev := Dev.SameBut.proj h.1 f hf

/-- What the attestation's commands change of the part beside register words. -/
def forgetAtt (d : Dev) : Dev := { d with att := {}, sup := {}, rcf := {}, fab := {}, pow := {} }

/-- The ledger, the record store, the queue, the drive and the time bases stay. -/
def KeptPart (s t : State) : Prop := t.ldg = s.ldg ∧ t.rcd = s.rcd ∧ t.pending = s.pending ∧ t.dev.drv = s.dev.drv ∧ t.dev.tm = s.dev.tm

theorem differOnly.keptPart {s t : State} (h : differOnly forgetAtt s t) : KeptPart s t :=
  ⟨h.2.1, h.2.2.1, h.2.2.2, h.proj (·.drv) (fun _ => rfl), h.proj (·.tm) (fun _ => rfl)⟩

theorem keptPart_onDev {s : State} (f : Dev → Dev) (h : Dev.SameBut forgetAtt s.dev (f s.dev)) : KeptPart s (onDev f s) := differOnly.keptPart h.onDev

theorem answeredOk_keptPart (q : Requester) (a k : Nat) {s : State} {f : Dev → Dev} (h : ∀ d, Dev.SameBut forgetAtt d (f d)) :
    KeptPart s (answeredOk q a (onDev f (s.woken k))) := (answeredOk_differOnly (fun _ _ => rfl) (fun _ _ => rfl) q a k h).keptPart

theorem lenRefused_keptPart (q : Requester) (a p k : Nat) (s : State) : KeptPart s (lenRefused q a p (s.woken k)) :=
  (lenRefused_differOnly (blank := forgetAtt) (fun _ _ => rfl) (fun _ _ => rfl) q a p k s).keptPart

/-- A refusal of the page leaves its state, its measurements and the openness of the blob. -/
theorem lenRefused_att (q : Requester) (a k : Nat) (s : State) :
    (lenRefused q a pATT (s.woken k)).dev.att = s.dev.att ∧ s.dev.SameMeas (lenRefused q a pATT (s.woken k)).dev
      ∧ ∀ b, (lenRefused q a pATT (s.woken k)).dev.stat pATT b = s.dev.stat pATT b := by
  have hregs := lenRefused_regsKept q a pATT k s
  have hstat (b : Nat) : (lenRefused q a pATT (s.woken k)).dev.stat pATT b = s.dev.stat pATT b := congrArg (bitOf · b) (hregs _ (by decide))
  refine ⟨?_, .of_rdKept (l := lenWords pATT) hregs (by decide) (by decide) (hstat 16), hstat⟩
  exact (lenRefused_differOnly (blank := fun d => { d with fab := {}, pow := {} }) (fun _ _ => rfl) (fun _ _ => rfl) q a pATT k s).proj (·.att) (fun _ => rfl)

theorem Dev.SameMeas.woken (s : State) (k : Nat) : s.dev.SameMeas (s.woken k).dev := .of_regs rfl
theorem Dev.SameMeas.respond (d : Dev) (q : Requester) (a n : Nat) (ws : List W32) : d.SameMeas (d.respond q a .ok n ws) := .of_regs rfl

theorem Dev.respond_stat (d : Dev) (q : Requester) (a n : Nat) (ws : List W32) (p b : Nat) : (d.respond q a .ok n ws).stat p b = d.stat p b := rfl

/-! The measured start (R459, R460) -/

/-- A stage measured, and the chain at the next one. -/
def Dev.stageDone (d : Dev) (k : Nat) (h : List W32) : Dev :=
  { d.setMeas k h with att := { (d.setMeas k h).att with boot := (d.setMeas k h).att.boot + 1 }
                       sup := { (d.setMeas k h).sup with mpAt := (d.setMeas k h).tm.tbm } }

/-- A stage that cannot run: the chain at its end. -/
def Dev.chainEnded (d : Dev) : Dev := { d.wrN Reg.WDG_MP_STATE mpHALTED with att := { d.att with boot := 4 } }

theorem exec_stage_runs {s : State} {stage : Fin 4} (image : List Byte) {valid : Bool} (h : stage.val = s.dev.att.boot) (hv : valid = true ∨ stage.val = 0) :
    exec (.measuredStartStage stage image valid) s = .next (onDev (·.stageDone stage.val (sha256 image)) s) :=
  congrArg Host.Outcome.next (onDev_congr ((if_pos h).trans (if_pos hv)))

theorem exec_stage_halts {s : State} {stage : Fin 4} (image : List Byte) {valid : Bool} (h : stage.val = s.dev.att.boot) (hv : valid = false)
    (hs : stage.val ≠ 0) :
    exec (.measuredStartStage stage image valid) s = .next (onDev (fun d => (d.setMeas stage.val (sha256 image)).chainEnded.faultRec pATT 16) s) := by
  refine congrArg Host.Outcome.next (onDev_congr ((if_pos h).trans (if_neg ?_)))
  rintro (hv' | hs')
  · rw [hv] at hv'
    exact absurd hv' (by decide)
  · exact hs hs'

theorem exec_stage_not {s : State} {stage : Fin 4} (image : List Byte) (valid : Bool) (h : stage.val ≠ s.dev.att.boot) :
    exec (.measuredStartStage stage image valid) s = .next s :=
  congrArg Host.Outcome.next ((onDev_congr (g := id) (if_neg h)).trans rfl)

theorem measWords_mpState : Reg.WDG_MP_STATE ∉ measWords := by decide

theorem Dev.setMeas_att (d : Dev) (k : Nat) {h : List W32} (hlen : h.length = 8) : (d.setMeas k h).att = d.att :=
  (d.setMeas_sameBut id k hlen).proj (·.att) (fun _ => rfl)

theorem stage_runs {s : State} {stage : Fin 4} (image : List Byte) {valid : Bool} (h : stage.val = s.dev.att.boot) (hv : valid = true ∨ stage.val = 0) :
    ∃ t, exec (.measuredStartStage stage image valid) s = .next t ∧ s.dev.Measured t.dev stage.val (sha256 image)
      ∧ t.dev.att = { s.dev.att with boot := s.dev.att.boot + 1 } ∧ t.dev.mpState = s.dev.mpState ∧ KeptPart s t := by
  have hlen := sha256_length image
  have hk : stage.val < 8 := by omega
  have hrd (a : Nat) : (s.dev.stageDone stage.val (sha256 image)).rd a = (s.dev.setMeas stage.val (sha256 image)).rd a := rfl
  refine ⟨_, exec_stage_runs image h hv, (s.dev.setMeas_measured hk hlen).congr hk (.of_regs rfl) (.of_regs rfl), ?_, ?_, ?_⟩
  · exact congrArg (fun x : AttEngine => { x with boot := x.boot + 1 }) (s.dev.setMeas_att stage.val hlen)
  · exact Dev.mpState_congr ((hrd _).trans (s.dev.setMeas_rdKept hk hlen _ measWords_mpState))
  · have hsame : Dev.SameBut forgetAtt s.dev (s.dev.stageDone stage.val (sha256 image)) := s.dev.setMeas_sameBut forgetAtt stage.val hlen
    exact keptPart_onDev (·.stageDone stage.val (sha256 image)) hsame

theorem stage_halts {s : State} {stage : Fin 4} (image : List Byte) {valid : Bool} (h : stage.val = s.dev.att.boot) (hv : valid = false)
    (hs : stage.val ≠ 0) :
    ∃ t, exec (.measuredStartStage stage image valid) s = .next t ∧ s.dev.Measured t.dev stage.val (sha256 image)
      ∧ t.dev.att.boot = 4 ∧ t.dev.mpState = mpHALTED ∧ t.dev.bit (Reg.FAULT pATT) 16 = true ∧ KeptPart s t := by
  have hlen := sha256_length image
  have hk : stage.val < 8 := by omega
  let e := (s.dev.setMeas stage.val (sha256 image)).chainEnded
  have hended : Dev.RdKept [Reg.WDG_MP_STATE] (s.dev.setMeas stage.val (sha256 image)) e :=
    ((Dev.RdKept.refl _ (s.dev.setMeas stage.val (sha256 image))).wr (a := Reg.WDG_MP_STATE) (by decide) (w32 mpHALTED)).struct rfl
  have hfault : Dev.RdKept [Reg.FAULT pATT, Reg.IRQ_RAW pATT, Reg.REC_SUPP_TOTAL] e (e.faultRec pATT 16) :=
    ((Dev.RdKept.refl _ e).fault (by decide) (by decide) 16).emit (by decide) _
  have hmeas : (s.dev.setMeas stage.val (sha256 image)).SameMeas (e.faultRec pATT 16) :=
    (Dev.SameMeas.of_rdKept hended (by decide) (by decide) (hended.bit (by decide) 16)).trans
      (.of_rdKept hfault (by decide) (by decide) (hfault.bit (by decide) 16))
  have hsame : Dev.SameBut (fun x => { x with rcf := {} }) e (e.faultRec pATT 16) := (Dev.SameBut.refl _ e).faultRec (fun _ _ => rfl) _ _ _ _ _
  refine ⟨_, exec_stage_halts image h hv hs, (s.dev.setMeas_measured hk hlen).congr hk (.of_regs rfl) hmeas, ?_, ?_, Dev.bit_faultRec e pATT (by decide), ?_⟩
  · exact congrArg AttEngine.boot (hsame.proj (·.att) (fun _ => rfl))
  · have hstate : (e.faultRec pATT 16).rd Reg.WDG_MP_STATE = w32 mpHALTED :=
      (hfault _ (by decide)).trans (Dev.rd_wr_same (s.dev.setMeas stage.val (sha256 image)) Reg.WDG_MP_STATE (w32 mpHALTED))
    change (e.faultRec pATT 16).mpState = mpHALTED
    unfold Dev.mpState Dev.fld
    rw [hstate]
    decide
  · have hmeasured : Dev.SameBut forgetAtt s.dev e := s.dev.setMeas_sameBut forgetAtt stage.val hlen
    have hwhole : Dev.SameBut forgetAtt s.dev (e.faultRec pATT 16) := hmeasured.faultRec (fun _ _ => rfl) _ _ _ _ _
    exact keptPart_onDev (fun d => (d.setMeas stage.val (sha256 image)).chainEnded.faultRec pATT 16) hwhole

/-! The blob (R462) -/

theorem Dev.setBlob_open (d : Dev) (v : Bool) (ws : List W32) : (d.setBlob v ws).blobOpen = v := Dev.bit_setBit_same d (Reg.STATUS pATT) v (by decide)
theorem Dev.setBlob_att (d : Dev) (v : Bool) (ws : List W32) : (d.setBlob v ws).att = { d.att with blob := ws } := rfl
theorem Dev.setBlob_sameMeas (d : Dev) (v : Bool) (ws : List W32) : d.SameMeas (d.setBlob v ws) :=
  (Dev.SameMeas.setStat d (b := 18) (by decide) (by decide) v).trans (.of_regs rfl)
theorem Dev.setBlob_sameBut (d : Dev) (v : Bool) (ws : List W32) : Dev.SameBut forgetAtt d (d.setBlob v ws) := rfl

/-- A bit set that is set already leaves its word. -/
theorem Dev.rd_setBit_set {d : Dev} {a b : Nat} (hb : b < 32) (h : d.bit a b = true) : (d.setBit a b true).rd a = d.rd a := by
  refine (Dev.rd_wr_same _ _ _).trans (BitVec.eq_of_getLsbD_eq fun i hi => ?_)
  rw [← bitOf_eq, ← bitOf_eq]
  refine (bitOf_putField (d.rd a) b _ i hb).trans ?_
  by_cases hib : b ≤ i ∧ i ≤ b
  · obtain rfl : i = b := by omega
    rw [if_pos hib, Nat.sub_self]
    exact h.symm
  · exact if_neg hib

theorem Dev.setBlob_rdKept {d : Dev} (h : d.blobOpen = true) (ws : List W32) : Dev.RdKept [] d (d.setBlob true ws) := by
  intro a _
  refine (Dev.rd_of_regs (d := d.setStat pATT 18 true) rfl a).trans ?_
  by_cases ha : a = Reg.STATUS pATT
  · rw [ha]
    exact Dev.rd_setBit_set (by decide) h
  · exact Dev.rd_setBit_ne d 18 true ha

theorem blobOpen_opens {req : Requester} {s : State} (h : Accepts req Reg.ATT_BLOB_CMD 1#32 s) (hclosed : s.dev.blobOpen = false)
    (hfirst : s.dev.att.blobDone = false) :
    exec (.blobOpen req) s = .next (acceptedWrite req Reg.ATT_BLOB_CMD (·.setBlob true []) s) := by
  obtain ⟨k, hk⟩ := h.woken
  refine congrArg Host.Outcome.next (hostCmd_ok h ?_)
  rw [hk]
  exact if_pos (show (!s.dev.blobOpen && !s.dev.att.blobDone) = true by rw [hclosed, hfirst]; rfl)

theorem blobOpen_refused {req : Requester} {s : State} (h : Accepts req Reg.ATT_BLOB_CMD 1#32 s)
    (hbusy : s.dev.blobOpen = true ∨ s.dev.att.blobDone = true) :
    ∃ t, exec (.blobOpen req) s = .next t ∧ answerTo req t = ⟨.len, 0, []⟩ ∧ t.dev.att = s.dev.att ∧ t.dev.blobOpen = s.dev.blobOpen ∧ KeptPart s t := by
  obtain ⟨k, hk⟩ := hostCmd_lens (p := pATT) (act := actBlobCmd 1#32) h fun k =>
    if_neg (show ¬(!s.dev.blobOpen && !s.dev.att.blobDone) = true by rcases hbusy with hb | hb <;> simp [hb])
  obtain ⟨hatt, -, hstat⟩ := lenRefused_att req Reg.ATT_BLOB_CMD k s
  exact ⟨_, congrArg Host.Outcome.next hk, answerTo_lenRefused _ _ _ _, hatt, hstat 18, lenRefused_keptPart _ _ _ _ _⟩

/-- A burst of writes that the fabric accepts. -/
theorem hostBurst_accepted {q : Requester} {a : Nat} {s : State} (h : Accepts q a 0#32 s) (ws : List W32) (act : BurstAct) :
    ∃ k, hostBurst q a ws act s
      = onDev (·.respond q a (act ws (s.woken k)).1 (act ws (s.woken k)).2.1 []) (act ws (s.woken k)).2.2 := by
  obtain ⟨k, hk⟩ := h.woken
  refine ⟨k, ?_⟩
  unfold hostBurst
  extract_lets s'
  have hs' : s' = s.woken k := hk
  have hst : s'.dev.writeStatus q a 0#32 = .ok := h
  rw [hst]
  change onDev (·.respond q a (act ws s').1 (act ws s').2.1 []) (act ws s').2.2 = _
  rw [hs']

/-- Words taken into the open blob. -/
def Dev.blobTaken (d : Dev) (ws : List W32) : Dev := ws.foldl (fun d v => d.setBlob true (v :: d.att.blob)) d

theorem Dev.blobTaken_cons (d : Dev) (v : W32) (ws : List W32) : d.blobTaken (v :: ws) = (d.setBlob true (v :: d.att.blob)).blobTaken ws := rfl

/-- The words of a burst join the blob in order. -/
theorem Dev.blobTaken_spec {d : Dev} (h : d.blobOpen = true) (ws : List W32) :
    (d.blobTaken ws).att = { d.att with blob := ws.reverse ++ d.att.blob } ∧ (d.blobTaken ws).blobOpen = true ∧ Dev.RdKept [] d (d.blobTaken ws)
      ∧ Dev.SameBut forgetAtt d (d.blobTaken ws) := by
  induction ws generalizing d with
  | nil => exact ⟨rfl, h, .refl _ d, .refl _ d⟩
  | cons v ws ih =>
    obtain ⟨hatt, hopen, hrd, hsame⟩ := ih (d.setBlob_open true (v :: d.att.blob))
    rw [Dev.blobTaken_cons]
    refine ⟨hatt.trans ?_, hopen, (Dev.setBlob_rdKept h _).trans hrd, (d.setBlob_sameBut true _).trans hsame⟩
    rw [Dev.setBlob_att, List.reverse_cons, List.append_assoc]
    rfl

theorem burstWords_blob {s : State} (h : s.dev.blobOpen = true) (ws : List W32) (hroom : 4 * (s.dev.att.blob.length + ws.length) < 2 ^ 32) :
    burstWords actBlobPort ws s = (.ok, ws.length, onDev (·.blobTaken ws) s) := by
  induction ws generalizing s with
  | nil => rfl
  | cons v ws ih =>
    have hact : actBlobPort v s = (.ok, onDev (fun d => d.setBlob true (v :: d.att.blob)) s) := by
      unfold actBlobPort
      rw [if_neg (by rw [h]; decide), if_neg (by simp only [List.length_cons] at hroom; omega)]
    have hrest := ih (s := onDev (fun d => d.setBlob true (v :: d.att.blob)) s) (s.dev.setBlob_open true _)
      (by rw [onDev_dev, Dev.setBlob_att]; simp only [List.length_cons] at hroom ⊢; omega)
    unfold burstWords
    rw [hact]
    dsimp only
    rw [hrest]
    rfl

theorem blobWrite_takes {req : Requester} {data : List W32} {s : State} (h : Accepts req Reg.ATT_BLOB_PORT 0#32 s) (hopen : s.dev.blobOpen = true)
    (hroom : 4 * (s.dev.att.blob.length + data.length) < 2 ^ 32) :
    ∃ t, exec (.blobWrite req data) s = .next t ∧ answerTo req t = ⟨.ok, data.length, []⟩
      ∧ t.dev.att = { s.dev.att with blob := data.reverse ++ s.dev.att.blob } ∧ t.dev.blobOpen = true ∧ KeptPart s t ∧ regsKept [] s t := by
  obtain ⟨k, hk⟩ := hostBurst_accepted h data (burstWords actBlobPort)
  rw [burstWords_blob (s := s.woken k) hopen data hroom] at hk
  obtain ⟨hatt, ho, hrd, hsame⟩ := Dev.blobTaken_spec (d := (s.woken k).dev) hopen data
  exact ⟨_, congrArg Host.Outcome.next hk, answerTo_respond _ _ _ _ _ _, hatt, ho,
    ⟨rfl, rfl, rfl, hsame.proj (·.drv) (fun _ => rfl), hsame.proj (·.tm) (fun _ => rfl)⟩, hrd⟩

theorem blobWrite_refused {req : Requester} {data : List W32} {s : State} (h : Accepts req Reg.ATT_BLOB_PORT 0#32 s) (hclosed : s.dev.blobOpen = false)
    (hdata : data ≠ []) :
    ∃ t, exec (.blobWrite req data) s = .next t ∧ answerTo req t = ⟨.len, 0, []⟩ ∧ t.dev.att = s.dev.att ∧ t.dev.blobOpen = false ∧ KeptPart s t := by
  obtain ⟨v, ws, rfl⟩ := List.exists_cons_of_ne_nil hdata
  obtain ⟨k, hk⟩ := hostBurst_accepted h (v :: ws) (burstWords actBlobPort)
  have hact : actBlobPort v (s.woken k) = (.len, onDev (·.lenReject pATT) (s.woken k)) :=
    if_pos (by rw [show (s.woken k).dev.blobOpen = false from hclosed]; rfl)
  have hburst : burstWords actBlobPort (v :: ws) (s.woken k) = (.len, 0, onDev (·.lenReject pATT) (s.woken k)) := by
    unfold burstWords
    rw [hact]
  rw [hburst] at hk
  obtain ⟨hatt, -, hstat⟩ := lenRefused_att req Reg.ATT_BLOB_PORT k s
  exact ⟨lenRefused req Reg.ATT_BLOB_PORT pATT (s.woken k), congrArg Host.Outcome.next hk, answerTo_lenRefused _ _ _ _, hatt, (hstat 18).trans hclosed,
    lenRefused_keptPart _ _ _ _ _⟩

/-- The digest of the open blob. -/
def Dev.blobDigest (d : Dev) : List W32 := sha256 (blobBytes (d.rdN Reg.ATT_BLOB_LEN_SET) d.att.blob.reverse)

/-- A blob noted as measured. -/
def Dev.blobNoted (d : Dev) : Dev := { d with att := { d.att with blobDone := true } }

theorem Dev.blobNoted_att (d : Dev) : d.blobNoted.att = { d.att with blobDone := true } := rfl
theorem Dev.blobNoted_open (d : Dev) : d.blobNoted.blobOpen = d.blobOpen := rfl
theorem Dev.blobNoted_sameMeas (d : Dev) : d.SameMeas d.blobNoted := .of_regs rfl
theorem Dev.blobNoted_sameBut (d : Dev) : Dev.SameBut forgetAtt d d.blobNoted := rfl

/-- BLOB_CMD 2: the open blob measured. -/
def Dev.blobMeasured (d : Dev) : Dev := ((d.setBlob false []).setMeas 5 d.blobDigest).blobNoted

theorem Dev.blobMeasured_spec (d : Dev) : d.Measured d.blobMeasured 5 d.blobDigest ∧ d.blobMeasured.att = { d.att with blob := [], blobDone := true }
    ∧ d.blobMeasured.blobOpen = false ∧ Dev.SameBut forgetAtt d d.blobMeasured := by
  have hlen : d.blobDigest.length = 8 := sha256_length _
  let e := (d.setBlob false []).setMeas 5 d.blobDigest
  have hatt : e.att = { d.att with blob := [] } := (d.setBlob false []).setMeas_att 5 hlen
  have hmeas : (d.setBlob false []).Measured e 5 d.blobDigest := (d.setBlob false []).setMeas_measured (by decide) hlen
  refine ⟨hmeas.congr (by decide) (d.setBlob_sameMeas false []) e.blobNoted_sameMeas, ?_, ?_, ?_⟩
  · exact e.blobNoted_att.trans (congrArg (fun x : AttEngine => { x with blobDone := true }) hatt)
  · exact e.blobNoted_open.trans (((d.setBlob false []).setMeas_stat (by decide) hlen (by decide) (by decide)).trans (d.setBlob_open false []))
  · exact ((d.setBlob_sameBut false []).trans ((d.setBlob false []).setMeas_sameBut forgetAtt 5 hlen)).trans e.blobNoted_sameBut

theorem actBlobCmd_finish (s : State) :
    actBlobCmd 2#32 s = if s.dev.blobOpen then (.ok, onDev Dev.blobMeasured s) else (.len, onDev (·.lenReject pATT) s) := by
  unfold actBlobCmd
  rw [if_neg (show ¬(2#32 : W32) = 1#32 by decide)]
  rfl

theorem blobFinish_measures {req : Requester} {s : State} (h : Accepts req Reg.ATT_BLOB_CMD 2#32 s) (hopen : s.dev.blobOpen = true) :
    ∃ t, exec (.blobFinish req) s = .next t ∧ answerTo req t = ⟨.ok, 1, []⟩ ∧ s.dev.Measured t.dev 5 s.dev.blobDigest
      ∧ t.dev.att = { s.dev.att with blob := [], blobDone := true } ∧ t.dev.blobOpen = false ∧ KeptPart s t := by
  obtain ⟨k, hk⟩ := hostCmd_acts (act := actBlobCmd 2#32) (t := fun k => onDev Dev.blobMeasured (s.woken k)) h fun k =>
    (actBlobCmd_finish (s.woken k)).trans (if_pos hopen)
  obtain ⟨hmeas, hatt, hshut, hsame⟩ := (s.woken k).dev.blobMeasured_spec
  refine ⟨_, congrArg Host.Outcome.next hk, answerTo_answeredOk _ _ _, ?_, ?_, ?_,
    answeredOk_keptPart req Reg.ATT_BLOB_CMD k (f := Dev.blobMeasured) fun d => d.blobMeasured_spec.2.2.2⟩
  · exact hmeas.congr (by decide) (.woken s k) (.respond (s.woken k).dev.blobMeasured req Reg.ATT_BLOB_CMD 1 [])
  · exact (Dev.respond_att (s.woken k).dev.blobMeasured req Reg.ATT_BLOB_CMD .ok 1 []).trans hatt
  · exact (Dev.respond_stat (s.woken k).dev.blobMeasured req Reg.ATT_BLOB_CMD 1 [] pATT 18).trans hshut

theorem blobFinish_refused {req : Requester} {s : State} (h : Accepts req Reg.ATT_BLOB_CMD 2#32 s) (hclosed : s.dev.blobOpen = false) :
    ∃ t, exec (.blobFinish req) s = .next t ∧ answerTo req t = ⟨.len, 0, []⟩ ∧ t.dev.att = s.dev.att
      ∧ (∀ j, j < 8 → t.dev.meas j = s.dev.meas j) ∧ KeptPart s t := by
  obtain ⟨k, hk⟩ := hostCmd_lens (p := pATT) (act := actBlobCmd 2#32) h fun k =>
    (actBlobCmd_finish (s.woken k)).trans (if_neg (Bool.eq_false_iff.mp hclosed))
  obtain ⟨hatt, hmeas, -⟩ := lenRefused_att req Reg.ATT_BLOB_CMD k s
  exact ⟨_, congrArg Host.Outcome.next hk, answerTo_lenRefused _ _ _ _, hatt, hmeas.meas, lenRefused_keptPart _ _ _ _ _⟩

/-! Extensions (R463) -/

/-- The low bit of a register's count in EXT_CNT. -/
def extLow (k : Nat) : Nat := if k = 6 then 0 else 16

/-- A register with the extension words. -/
def Dev.extDigest (d : Dev) (k : Nat) : List W32 :=
  sha256 ((d.meas k ++ (List.range 8).map (fun i => d.rd (Reg.ATT_EXT_W i))).flatMap bytesBE)

/-- EXT_CMD: a register extended and counted. -/
def Dev.extended (d : Dev) (k : Nat) : Dev :=
  (d.setMeas k (d.extDigest k)).setFld Reg.ATT_EXT_CNT (extLow k + 15) (extLow k) (min (d.fld Reg.ATT_EXT_CNT (extLow k + 15) (extLow k) + 1) 0xFFFF)

theorem exec_measExtend (req : Requester) {k : Nat} (hk : k = 6 ∨ k = 7) (s : State) :
    exec (.measExtend req k) s = .next (hostCmd req Reg.ATT_EXT_CMD (w32 k) (actDev (·.extended k)) s) := by
  rcases hk with rfl | rfl <;> rfl

theorem Dev.extended_spec (d : Dev) {k : Nat} (hk : k = 6 ∨ k = 7) : d.Measured (d.extended k) k (d.extDigest k)
    ∧ (d.extended k).fld Reg.ATT_EXT_CNT (extLow k + 15) (extLow k) = min (d.fld Reg.ATT_EXT_CNT (extLow k + 15) (extLow k) + 1) 0xFFFF
    ∧ Dev.SameBut id d (d.extended k) := by
  have hlen : (d.extDigest k).length = 8 := sha256_length _
  have hlt : k < 8 := by omega
  have hlow : extLow k + 15 < 32 := by
    rcases hk with rfl | rfl <;> decide
  let e := d.setMeas k (d.extDigest k)
  let n := min (d.fld Reg.ATT_EXT_CNT (extLow k + 15) (extLow k) + 1) 0xFFFF
  have hcount : Dev.RdKept [Reg.ATT_EXT_CNT] e (e.setFld Reg.ATT_EXT_CNT (extLow k + 15) (extLow k) n) := (Dev.RdKept.refl _ e).wr (by decide) _
  refine ⟨(d.setMeas_measured hlt hlen).congr hlt (.of_regs rfl)
    (.of_rdKept (e := e.setFld Reg.ATT_EXT_CNT (extLow k + 15) (extLow k) n) hcount (by decide) (by decide) (hcount.bit (by decide) 16)), ?_, ?_⟩
  · refine (Dev.fld_setFld_same e Reg.ATT_EXT_CNT (extLow k) n hlow).trans (Nat.mod_eq_of_lt ?_)
    rw [show extLow k + 15 + 1 - extLow k = 16 by omega]
    have hn : n ≤ 0xFFFF := Nat.min_le_right _ _
    omega
  · exact (d.setMeas_sameBut id k hlen).setFld _ _ _ _

theorem measExtend_extends {req : Requester} {k : Nat} {s : State} (h : Accepts req Reg.ATT_EXT_CMD (w32 k) s) (hk : k = 6 ∨ k = 7) :
    ∃ t, exec (.measExtend req k) s = .next t ∧ answerTo req t = ⟨.ok, 1, []⟩ ∧ s.dev.Measured t.dev k (s.dev.extDigest k)
      ∧ t.dev.fld Reg.ATT_EXT_CNT (extLow k + 15) (extLow k) = min (s.dev.fld Reg.ATT_EXT_CNT (extLow k + 15) (extLow k) + 1) 0xFFFF
      ∧ t.dev.att = s.dev.att ∧ KeptPart s t := by
  obtain ⟨j, hj⟩ := hostCmd_dev h (·.extended k)
  obtain ⟨hmeas, hcount, hsame⟩ := (s.woken j).dev.extended_spec hk
  have hrd (a : Nat) : ((s.woken j).dev.extended k |>.respond req Reg.ATT_EXT_CMD .ok 1 []).rd a = ((s.woken j).dev.extended k).rd a := rfl
  refine ⟨_, (exec_measExtend req hk s).trans (congrArg Host.Outcome.next hj), answerTo_answeredOk _ _ _,
    hmeas.congr (by omega) (.woken s j) (.respond ((s.woken j).dev.extended k) req Reg.ATT_EXT_CMD 1 []), ?_, ?_, ?_⟩
  · exact (congrArg (field · (extLow k + 15) (extLow k)) (hrd _)).trans hcount
  · exact (Dev.respond_att ((s.woken j).dev.extended k) req Reg.ATT_EXT_CMD .ok 1 []).trans (hsame.proj (·.att) (fun _ => rfl))
  · exact answeredOk_keptPart req Reg.ATT_EXT_CMD j (f := fun d => d.extended k) fun d => (congrArg forgetAtt (d.extended_spec hk).2.2 : _)

/-! Reports (R465, R466) -/

/-- A report requested of the running firmware. -/
def Dev.reportTaken (d : Dev) : Dev := { d.setStat pATT 17 true with att := { d.att with req := some (d.reportBody, d.rdN Reg.ATT_MEAS_GEN) } }

/-- ATT_CMD: a report requested. -/
def Dev.reportAsked (d : Dev) : Dev := if d.mpState ≠ mpRUN then d.attResult 1 else d.reportTaken

theorem exec_reportRequest (req : Requester) (s : State) :
    exec (.reportRequest req) s = .next (hostCmd req Reg.ATT_ATT_CMD 1#32 (actIf Reg.ATT_ATT_CMD (fun d => !d.stat pATT 17) Dev.reportAsked) s) := rfl

theorem Dev.attResult_spec (d : Dev) {code : Nat} : (d.attResult code).rd Reg.ATT_ATT_RESULT = w32 code ∧ (d.attResult code).stat pATT 17 = false
    ∧ (d.attResult code).bit (Reg.IRQ_RAW pATT) 16 = true ∧ Dev.SameBut id d (d.attResult code) := by
  let e := (d.wrN Reg.ATT_ATT_RESULT code).setStat pATT 17 false
  refine ⟨?_, ?_, Dev.bit_irq_same e pATT (by decide), rfl⟩
  · exact (Dev.rd_irq_ne e pATT 16 (by decide)).trans ((Dev.rd_setBit_ne (d.wrN Reg.ATT_ATT_RESULT code) 17 false (by decide)).trans
      (Dev.rd_wr_same d Reg.ATT_ATT_RESULT (w32 code)))
  · exact (congrArg (bitOf · 17) (Dev.rd_irq_ne e pATT 16 (by decide))).trans
      (Dev.bit_setBit_same (d.wrN Reg.ATT_ATT_RESULT code) (Reg.STATUS pATT) false (by decide))

theorem Dev.attResult_part (d : Dev) (code : Nat) : (d.attResult code).att = d.att := rfl

theorem reportRequest_asked {req : Requester} {s : State} (h : Accepts req Reg.ATT_ATT_CMD 1#32 s) (hidle : s.dev.stat pATT 17 = false) :
    ∃ k, exec (.reportRequest req) s = .next (answeredOk req Reg.ATT_ATT_CMD (onDev Dev.reportAsked (s.woken k))) := by
  obtain ⟨k, hk⟩ := hostCmd_taken h (b := Reg.ATT_ATT_CMD) (ok := fun d => !d.stat pATT 17) Dev.reportAsked fun k => by
    change (!s.dev.stat pATT 17) = true
    rw [hidle]
    rfl
  exact ⟨k, (exec_reportRequest req s).trans (congrArg Host.Outcome.next hk)⟩

theorem Dev.reportBody_woken (s : State) (k : Nat) : (s.woken k).dev.reportBody = s.dev.reportBody := by
  have hrd (a : Nat) : (s.woken k).dev.rd a = s.dev.rd a := rfl
  unfold Dev.reportBody Dev.rdN Dev.fld
  simp only [hrd]
  rfl

theorem reportRequest_taken {req : Requester} {s : State} (h : Accepts req Reg.ATT_ATT_CMD 1#32 s) (hidle : s.dev.stat pATT 17 = false)
    (hrun : s.dev.mpState = mpRUN) :
    ∃ t, exec (.reportRequest req) s = .next t ∧ answerTo req t = ⟨.ok, 1, []⟩ ∧ t.dev.stat pATT 17 = true
      ∧ t.dev.att = { s.dev.att with req := some (s.dev.reportBody, s.dev.rdN Reg.ATT_MEAS_GEN) } ∧ KeptPart s t ∧ regsKept [Reg.STATUS pATT] s t := by
  obtain ⟨k, hk⟩ := reportRequest_asked h hidle
  rw [onDev_congr (g := Dev.reportTaken) (show (s.woken k).dev.reportAsked = (s.woken k).dev.reportTaken from if_neg fun hne => hne hrun)] at hk
  refine ⟨_, hk, answerTo_answeredOk _ _ _, ?_, ?_, answeredOk_keptPart req Reg.ATT_ATT_CMD k (f := Dev.reportTaken) fun d => rfl,
    answeredOk_regsKept req Reg.ATT_ATT_CMD k (f := Dev.reportTaken) fun d => ((Dev.RdKept.refl _ d).setStat (by decide) 17 true).struct rfl⟩
  · exact (Dev.respond_stat (s.woken k).dev.reportTaken req Reg.ATT_ATT_CMD 1 [] pATT 17).trans
      (Dev.bit_setBit_same (s.woken k).dev (Reg.STATUS pATT) true (by decide))
  · exact (Dev.respond_att (s.woken k).dev.reportTaken req Reg.ATT_ATT_CMD .ok 1 []).trans
      (congrArg (fun b => { s.dev.att with req := some (b, s.dev.rdN Reg.ATT_MEAS_GEN) }) (Dev.reportBody_woken s k))

theorem reportRequest_down {req : Requester} {s : State} (h : Accepts req Reg.ATT_ATT_CMD 1#32 s) (hidle : s.dev.stat pATT 17 = false)
    (hdown : s.dev.mpState ≠ mpRUN) :
    ∃ t, exec (.reportRequest req) s = .next t ∧ answerTo req t = ⟨.ok, 1, []⟩ ∧ t.dev.rd Reg.ATT_ATT_RESULT = 1#32
      ∧ t.dev.bit (Reg.IRQ_RAW pATT) 16 = true ∧ t.dev.att = s.dev.att ∧ KeptPart s t := by
  obtain ⟨k, hk⟩ := reportRequest_asked h hidle
  rw [onDev_congr (g := fun d => d.attResult 1) (show (s.woken k).dev.reportAsked = (s.woken k).dev.attResult 1 from if_pos hdown)] at hk
  obtain ⟨hresult, -, hirq, -⟩ := (s.woken k).dev.attResult_spec (code := 1)
  exact ⟨_, hk, answerTo_answeredOk _ _ _, hresult, hirq, rfl, answeredOk_keptPart req Reg.ATT_ATT_CMD k (f := fun d => d.attResult 1) fun d => rfl⟩

theorem reportRequest_busy {req : Requester} {s : State} (h : Accepts req Reg.ATT_ATT_CMD 1#32 s) (hbusy : s.dev.stat pATT 17 = true) :
    ∃ t, exec (.reportRequest req) s = .next t ∧ answerTo req t = ⟨.len, 0, []⟩ ∧ t.dev.att = s.dev.att ∧ KeptPart s t := by
  obtain ⟨k, hk⟩ := hostCmd_len h (b := Reg.ATT_ATT_CMD) (ok := fun d => !d.stat pATT 17) Dev.reportAsked fun k => by
    change (!s.dev.stat pATT 17) = false
    rw [hbusy]
    rfl
  obtain ⟨hatt, -⟩ := lenRefused_att req Reg.ATT_ATT_CMD k s
  exact ⟨_, (exec_reportRequest req s).trans (congrArg Host.Outcome.next hk), answerTo_lenRefused _ _ _ _, hatt, lenRefused_keptPart _ _ _ _ _⟩

/-- The request that runs taken off. -/
def Dev.requestDone (d : Dev) : Dev := { d with att := { d.att with req := none } }

/-- A report issued under the SEQ that stands. -/
def Dev.reportIssued (d : Dev) (body : List Byte) (gen : Nat) : Dev :=
  { d with att := { d.att with report := reportBytes (d.rd64 Reg.SYS_DEV_SERIAL) (d.rdN Reg.ATT_REPORT_SEQ) body, pos := 0
                               issued := d.att.issued ++ [(d.rdN Reg.ATT_REPORT_SEQ, gen)] } }

/-- A report under its number and in the buffer. -/
def Dev.reportNumbered (d : Dev) (body : List Byte) (gen : Nat) : Dev := (d.requestDone.inc Reg.ATT_REPORT_SEQ).reportIssued body gen

/-- A report ready: its length, and the result. -/
def Dev.reportSealed (d : Dev) (body : List Byte) (gen n : Nat) : Dev := ((d.reportNumbered body gen).wrN Reg.ATT_ATT_LEN n).attResult 0

theorem Dev.rd64_inc_ne (d : Dev) {a b : Nat} (h : b ≠ a) (h4 : b + 4 ≠ a) : (d.inc a).rd64 b = d.rd64 b :=
  Dev.rd64_congr (Dev.rd_wr_ne _ _ h) (Dev.rd_wr_ne _ _ h4)

/-- The number of a report, and what its buffer and its list then hold. -/
theorem Dev.reportNumbered_spec (d : Dev) (body : List Byte) (gen : Nat) : let seq := (d.rd Reg.ATT_REPORT_SEQ + 1#32).toNat
    (d.reportNumbered body gen).rdN Reg.ATT_REPORT_SEQ = seq
      ∧ (d.reportNumbered body gen).att = { d.att with req := none, pos := 0, issued := d.att.issued ++ [(seq, gen)]
                                                       report := reportBytes (d.rd64 Reg.SYS_DEV_SERIAL) seq body } := by
  intro seq
  have hseq : (d.requestDone.inc Reg.ATT_REPORT_SEQ).rdN Reg.ATT_REPORT_SEQ = seq := congrArg BitVec.toNat (Dev.rd_wr_same d.requestDone Reg.ATT_REPORT_SEQ _)
  have hserial : (d.requestDone.inc Reg.ATT_REPORT_SEQ).rd64 Reg.SYS_DEV_SERIAL = d.rd64 Reg.SYS_DEV_SERIAL :=
    (Dev.rd64_inc_ne d.requestDone (by decide) (by decide)).trans (Dev.rd64_congr rfl rfl)
  refine ⟨hseq, ?_⟩
  rw [← hseq, ← hserial]
  rfl

theorem Dev.reportSealed_sameBut (d : Dev) (body : List Byte) (gen n : Nat) : Dev.SameBut forgetAtt d (d.reportSealed body gen n) := by
  have hnumbered : Dev.SameBut forgetAtt d (d.reportNumbered body gen) := rfl
  exact ((hnumbered.wr _ _).wr _ _).setStat _ _ _ |>.irq _ _

theorem exec_reportReady_none {s : State} (h : s.dev.att.req = none) (keyOk : Bool) : exec (.reportReady keyOk) s = .next s := by
  have hd : s.dev.reportDone keyOk = s.dev := by
    unfold Dev.reportDone
    rw [h]
  exact congrArg Host.Outcome.next ((onDev_congr (g := id) hd).trans rfl)

section
variable {s : State} {body : List Byte} {gen : Nat} (h : s.dev.att.req = some (body, gen))
include h

theorem Dev.reportDone_sealed : ∃ n, s.dev.reportDone true = s.dev.reportSealed body gen n := by
  unfold Dev.reportDone
  rw [h]
  exact ⟨_, rfl⟩

theorem Dev.reportDone_keyless : s.dev.reportDone false = s.dev.requestDone.attResult 2 := by
  unfold Dev.reportDone
  rw [h]
  rfl

theorem reportReady_sealed : let seq := (s.dev.rd Reg.ATT_REPORT_SEQ + 1#32).toNat
    ∃ t, exec (.reportReady true) s = .next t ∧ t.dev.rdN Reg.ATT_REPORT_SEQ = seq ∧ t.dev.rd Reg.ATT_ATT_RESULT = 0#32
      ∧ t.dev.stat pATT 17 = false ∧ t.dev.bit (Reg.IRQ_RAW pATT) 16 = true ∧ KeptPart s t
      ∧ t.dev.att = { s.dev.att with req := none, pos := 0, issued := s.dev.att.issued ++ [(seq, gen)]
                                     report := reportBytes (s.dev.rd64 Reg.SYS_DEV_SERIAL) seq body } := by
  obtain ⟨n, hn⟩ := Dev.reportDone_sealed h
  have hexec : exec (.reportReady true) s = .next (onDev (·.reportSealed body gen n) s) := congrArg Host.Outcome.next (onDev_congr hn)
  obtain ⟨hseq, hatt⟩ := s.dev.reportNumbered_spec body gen
  obtain ⟨hresult, hstat, hirq, -⟩ := ((s.dev.reportNumbered body gen).wrN Reg.ATT_ATT_LEN n).attResult_spec (code := 0)
  refine ⟨_, hexec, ?_, hresult, hstat, hirq, keptPart_onDev _ (s.dev.reportSealed_sameBut body gen n), hatt⟩
  refine (congrArg BitVec.toNat ((Dev.attResult_rdKept ((s.dev.reportNumbered body gen).wrN Reg.ATT_ATT_LEN n) 0 _ (by decide)).trans ?_)).trans hseq
  exact Dev.rd_wr_ne (s.dev.reportNumbered body gen) (w32 n) (by decide)

theorem reportReady_keyless :
    ∃ t, exec (.reportReady false) s = .next t ∧ t.dev.rd Reg.ATT_ATT_RESULT = 2#32 ∧ t.dev.stat pATT 17 = false
      ∧ t.dev.att = { s.dev.att with req := none } ∧ t.dev.rd Reg.ATT_REPORT_SEQ = s.dev.rd Reg.ATT_REPORT_SEQ ∧ KeptPart s t := by
  have hexec : exec (.reportReady false) s = .next (onDev (fun d => d.requestDone.attResult 2) s) :=
    congrArg Host.Outcome.next (onDev_congr (Dev.reportDone_keyless h))
  obtain ⟨hresult, hstat, -, -⟩ := s.dev.requestDone.attResult_spec (code := 2)
  exact ⟨_, hexec, hresult, hstat, rfl, s.dev.requestDone.attResult_rdKept 2 _ (by decide), keptPart_onDev _ rfl⟩
end

/-- The report's words for a reader. -/
def Dev.reportWords (d : Dev) (n : Nat) : List W32 := ((wordsBE d.att.report).drop d.att.pos).take n

/-- The read-out moved on. -/
def Dev.reportSkipped (d : Dev) (n : Nat) : Dev := { d with att := { d.att with pos := d.att.pos + n } }

theorem reportRead_gives {req : Requester} {s : State} (h : Readable req Reg.ATT_ATT_PORT s) (words : Nat) :
    ∃ t, exec (.reportRead req words) s = .next t ∧ answerTo req t = ⟨.ok, (s.dev.reportWords words).length, s.dev.reportWords words⟩
      ∧ t.dev.att = { s.dev.att with pos := s.dev.att.pos + (s.dev.reportWords words).length } ∧ KeptPart s t ∧ regsKept [Reg.STATUS pATT] s t := by
  obtain ⟨k, hk⟩ := hostPort_dev (n := words) h fun n d => (d.reportWords n, d.reportSkipped (d.reportWords n).length)
  have hdiff := portRead_differOnly (blank := fun d => { d with att := {}, fab := {}, pow := {} }) (fun _ _ => rfl) req Reg.ATT_ATT_PORT words k
    (r := ((s.woken k).dev.reportWords words, (s.woken k).dev.reportSkipped ((s.woken k).dev.reportWords words).length)) (s := s) rfl
  obtain ⟨rs, f, hdev⟩ := portRead_dev req Reg.ATT_ATT_PORT words
    ((s.woken k).dev.reportWords words, (s.woken k).dev.reportSkipped ((s.woken k).dev.reportWords words).length) (s.woken k)
  refine ⟨_, congrArg Host.Outcome.next hk, answerTo_portRead _ _ _ _ _, (congrArg Dev.att hdev).trans rfl,
    ⟨rfl, rfl, rfl, hdiff.proj (·.drv) (fun _ => rfl), hdiff.proj (·.tm) (fun _ => rfl)⟩, ?_⟩
  exact portRead_regsKept (by decide) req words k (Dev.RdKept.ofRegs _ rfl)

/-! Confirmation and policy (R467, R468) -/

/-- A report of this number was issued under the present MEAS_GEN. -/
def Dev.reportKnown (v : W32) (d : Dev) : Bool := d.att.issued.any (fun (p : Nat × Nat) => p.1 = v.toNat && p.2 = d.rdN Reg.ATT_MEAS_GEN)

theorem Dev.reportKnown_iff (v : W32) (d : Dev) : d.reportKnown v = true ↔ (v.toNat, d.rdN Reg.ATT_MEAS_GEN) ∈ d.att.issued := by
  unfold Dev.reportKnown
  rw [List.any_eq_true]
  constructor
  · rintro ⟨⟨a, b⟩, hmem, hp⟩
    simp only [Bool.and_eq_true, decide_eq_true_eq] at hp
    obtain ⟨rfl, rfl⟩ := hp
    exact hmem
  · exact fun hmem => ⟨_, hmem, by simp⟩

theorem attConfirm_confirms {req : Requester} {v : W32} {s : State} (h : Accepts req Reg.ATT_ATT_CONFIRM v s)
    (hmem : (v.toNat, s.dev.rdN Reg.ATT_MEAS_GEN) ∈ s.dev.att.issued) :
    exec (.attConfirm req v) s = .next (acceptedWrite req Reg.ATT_ATT_CONFIRM (·.setStat pATT 16 true) s) := by
  obtain ⟨k, hk⟩ := h.woken
  refine congrArg Host.Outcome.next (hostCmd_actIf (ok := Dev.reportKnown v) _ h ?_)
  rw [hk]
  exact ((s.woken k).dev.reportKnown_iff v).mpr hmem

theorem attConfirm_refused {req : Requester} {v : W32} {s : State} (h : Accepts req Reg.ATT_ATT_CONFIRM v s)
    (hmem : (v.toNat, s.dev.rdN Reg.ATT_MEAS_GEN) ∉ s.dev.att.issued) :
    ∃ t, exec (.attConfirm req v) s = .next t ∧ answerTo req t = ⟨.len, 0, []⟩ ∧ t.dev.stat pATT 16 = s.dev.stat pATT 16 ∧ KeptPart s t := by
  obtain ⟨k, hk⟩ := hostCmd_len h (b := Reg.ATT_ATT_CONFIRM) (ok := Dev.reportKnown v) (·.setStat pATT 16 true) fun k =>
    Bool.eq_false_iff.mpr fun hknown => hmem (((s.woken k).dev.reportKnown_iff v).mp hknown)
  obtain ⟨-, -, hstat⟩ := lenRefused_att req Reg.ATT_ATT_CONFIRM k s
  exact ⟨_, congrArg Host.Outcome.next hk, answerTo_lenRefused _ _ _ _, hstat 16, lenRefused_keptPart _ _ _ _ _⟩

/-- The policy of the next controller reset stored. -/
def Dev.policyStored (d : Dev) (v : W32) : Dev := (d.wrN Reg.ATT_ARM_POLICY_NEXT (field v 0 0)).recOther pATT

/-- POLICY_SET. -/
def Dev.policyKeyed (d : Dev) (v : W32) : Dev := if field v 31 16 = 0x504C then d.policyStored v else d

theorem exec_policySet (req : Requester) (v : W32) (s : State) :
    exec (.policySet req v) s = .next (hostCmd req Reg.ATT_POLICY_SET v (actDev (·.policyKeyed v)) s) := rfl

theorem Dev.policyStored_spec (d : Dev) (v : W32) : (d.policyStored v).rdN Reg.ATT_ARM_POLICY_NEXT = field v 0 0
    ∧ Dev.RdKept [Reg.ATT_ARM_POLICY_NEXT, Reg.REC_SUPP_TOTAL] d (d.policyStored v) ∧ Dev.SameBut forgetAtt d (d.policyStored v) := by
  have hrecord : Dev.RdKept [Reg.REC_SUPP_TOTAL] (d.wrN Reg.ATT_ARM_POLICY_NEXT (field v 0 0)) (d.policyStored v) := Dev.emit_rdKept _ _
  refine ⟨?_, ((Dev.RdKept.refl _ d).wr (by decide) (w32 (field v 0 0))).trans (hrecord.mono (by decide)), ?_⟩
  · refine (congrArg BitVec.toNat ((hrecord _ (by decide)).trans (Dev.rd_wr_same d Reg.ATT_ARM_POLICY_NEXT (w32 (field v 0 0))))).trans ?_
    exact Nat.mod_eq_of_lt (lt_trans (field_lt v 0 0) (by decide))
  · exact ((Dev.SameBut.refl forgetAtt d).wr _ _).emit (fun _ _ => rfl) _

theorem policySet_stores {req : Requester} {v : W32} {s : State} (h : Accepts req Reg.ATT_POLICY_SET v s) (hkey : field v 31 16 = 0x504C) :
    ∃ t, exec (.policySet req v) s = .next t ∧ answerTo req t = ⟨.ok, 1, []⟩ ∧ t.dev.rdN Reg.ATT_ARM_POLICY_NEXT = field v 0 0
      ∧ regsKept [Reg.ATT_ARM_POLICY_NEXT, Reg.REC_SUPP_TOTAL] s t ∧ KeptPart s t := by
  obtain ⟨k, hk⟩ := hostCmd_dev h (·.policyKeyed v)
  rw [onDev_congr (f := fun d => d.policyKeyed v) (g := fun d => d.policyStored v) (show (s.woken k).dev.policyKeyed v = (s.woken k).dev.policyStored v from if_pos hkey)] at hk
  exact ⟨_, (exec_policySet req v s).trans (congrArg Host.Outcome.next hk), answerTo_answeredOk _ _ _, ((s.woken k).dev.policyStored_spec v).1,
    answeredOk_regsKept req Reg.ATT_POLICY_SET k (f := fun d => d.policyStored v) fun d => (d.policyStored_spec v).2.1,
    answeredOk_keptPart req Reg.ATT_POLICY_SET k (f := fun d => d.policyStored v) fun d => (d.policyStored_spec v).2.2⟩

theorem policySet_idle {req : Requester} {v : W32} {s : State} (h : Accepts req Reg.ATT_POLICY_SET v s) (hkey : field v 31 16 ≠ 0x504C) :
    exec (.policySet req v) s = .next (acceptedWrite req Reg.ATT_POLICY_SET id s) :=
  (exec_policySet req v s).trans (congrArg Host.Outcome.next (hostCmd_idle h fun _ => if_neg hkey))

/-- Settles O55. -/
theorem measuredStartAndAttestation : Obligations.MeasuredStartAndAttestation := by
  unfold Obligations.MeasuredStartAndAttestation
  intro req stage image valid keyOk data which words gen body v s kept measured lo seq ws
  have hm {t : State} {k : Nat} {x : List W32} (h : s.dev.Measured t.dev k x) : measured k x t := ⟨h.value, h.others, h.changed, h.same⟩
  refine ⟨fun h hv => ?_, fun h hv hs => ?_, exec_stage_not image valid, fun h => ⟨blobOpen_opens h, blobOpen_refused h⟩,
    fun h => ⟨blobWrite_takes h, blobWrite_refused h⟩, fun h => ⟨fun hopen => ?_, blobFinish_refused h⟩, fun h hk => ?_,
    fun h => ⟨reportRequest_taken h, reportRequest_down h, reportRequest_busy h⟩, fun h => ⟨reportReady_sealed h, reportReady_keyless h⟩,
    fun h => exec_reportReady_none h keyOk, fun h => reportRead_gives h words, fun h => ⟨attConfirm_confirms h, attConfirm_refused h⟩,
    fun h => ⟨policySet_stores h, policySet_idle h⟩⟩
  · obtain ⟨t, ht, hmeas, hrest⟩ := stage_runs image h hv
    exact ⟨t, ht, hm hmeas, hrest⟩
  · obtain ⟨t, ht, hmeas, hrest⟩ := stage_halts image h hv hs
    exact ⟨t, ht, hm hmeas, hrest⟩
  · obtain ⟨t, ht, hok, hmeas, hrest⟩ := blobFinish_measures h hopen
    exact ⟨t, ht, hok, hm hmeas, hrest⟩
  · obtain ⟨t, ht, hok, hmeas, hrest⟩ := measExtend_extends h hk
    exact ⟨t, ht, hok, hm hmeas, hrest⟩

end Sys2Proof.Machine
end

section
/-! PROOFS. The Ethernet port (R478, R479, R494). -/
namespace Sys2Proof.Machine

/-! Refusals that leave the part changed -/

/-- An accepted write whose action changes the part and refuses with LEN. -/
theorem hostCmd_lenAfter {q : Requester} {a p : Nat} {v : W32} {s : State} (h : Accepts q a v s) {act : Act} (g : Dev → Dev)
    (hact : ∀ k, act (s.woken k) = (.len, onDev (fun d => (g d).lenReject p) (s.woken k))) :
    ∃ k, hostCmd q a v act s = lenRefused q a p (onDev g (s.woken k)) := by
  obtain ⟨k, hk⟩ := h.woken
  refine ⟨k, ?_⟩
  rw [hostCmd_accepted h, hk, hact k]
  rfl

/-- What a refusal behind a change of the part leaves. -/
theorem lenRefused_after {blank : Dev → Dev} (hfab : ForgetsFab blank) (hpow : ForgetsPow blank) (q : Requester) (a p k : Nat) {s : State} {g : Dev → Dev}
    (hg : ∀ d, Dev.SameBut blank d (g d)) : differOnly blank s (lenRefused q a p (onDev g (s.woken k))) := by
  obtain ⟨rs, f, h⟩ := lenRefused_dev q a p (onDev g (s.woken k))
  refine Dev.SameBut.differOnly (((s.woken_sameBut hpow k).trans (hg _)).trans ?_) rfl rfl rfl
  unfold Dev.SameBut
  rw [h]
  exact hfab { g (s.woken k).dev with regs := [] } f

theorem lenRefused_proj {α : Type} (f : Dev → α) (hf : ∀ (d : Dev) rs x, f { d with regs := rs, fab := x } = f d) (q : Requester) (a p : Nat) (s : State) :
    f (lenRefused q a p s).dev = f s.dev := by
  obtain ⟨rs, x, h⟩ := lenRefused_dev q a p s
  rw [h]
  exact hf _ _ _

/-! Frames received (R478) -/

/-- What the port does with a good frame: the firmware's answers, the Ivyth datagrams left alone, the rest to the host. -/
def Dev.ethTaken (d : Dev) (frame : List Byte) : Dev :=
  if d.isArp frame then (if d.rdN Reg.WDG_MP_STATE = 0 then d.ethSend (d.arpReply frame) else d)
  else if d.isEcho frame then (if d.rdN Reg.WDG_MP_STATE = 0 then d.ethSend (d.echoReply frame) else d)
  else if d.isIvyth frame then d
  else if d.bit Reg.NET_NET_CFG 2 then d.ethToHost frame else d

theorem exec_ethFrameReceive {s : State} (h : s.dev.ethOn = true) (frame : List Byte) :
    exec (.ethFrameReceive frame true) s = .next (onDev (·.ethTaken frame) s) :=
  congrArg Host.Outcome.next (onDev_congr (if_neg (by rw [h]; decide)))

theorem exec_ethFrameReceive_not {s : State} {fcsOk : Bool} (h : s.dev.ethOn = false ∨ fcsOk = false) (frame : List Byte) :
    exec (.ethFrameReceive frame fcsOk) s = .next s := by
  have hdown : (!s.dev.ethOn || !fcsOk) = true := by rcases h with h | h <;> simp [h]
  exact congrArg Host.Outcome.next ((onDev_congr (f := fun d => if (!d.ethOn || !fcsOk) = true then d else d.ethTaken frame) (g := id)
    (if_pos hdown)).trans rfl)

section
variable {d : Dev} {frame : List Byte}

theorem Dev.ethSend_on (h : d.ethOn = true) (fr : List Byte) : d.ethSend fr = { d with net := { d.net with sent := fr } } := if_pos h

theorem Dev.ethTaken_arp (h : d.isArp frame = true) (hmp : d.rdN Reg.WDG_MP_STATE = 0) : d.ethTaken frame = d.ethSend (d.arpReply frame) :=
  (if_pos h).trans (if_pos hmp)

theorem Dev.ethTaken_echo (harp : d.isArp frame = false) (h : d.isEcho frame = true) (hmp : d.rdN Reg.WDG_MP_STATE = 0) :
    d.ethTaken frame = d.ethSend (d.echoReply frame) := (if_neg (Bool.eq_false_iff.mp harp)).trans ((if_pos h).trans (if_pos hmp))

theorem Dev.ethTaken_unserved (h : d.isArp frame = true ∨ d.isEcho frame = true) (hmp : ¬d.rdN Reg.WDG_MP_STATE = 0) : d.ethTaken frame = d := by
  by_cases harp : d.isArp frame = true
  · exact (if_pos harp).trans (if_neg hmp)
  · exact (if_neg harp).trans ((if_pos (h.resolve_left harp)).trans (if_neg hmp))

theorem Dev.ethTaken_other (harp : d.isArp frame = false) (hecho : d.isEcho frame = false) :
    d.ethTaken frame = if d.isIvyth frame then d else if d.bit Reg.NET_NET_CFG 2 then d.ethToHost frame else d :=
  (if_neg (Bool.eq_false_iff.mp harp)).trans (if_neg (Bool.eq_false_iff.mp hecho))
end

/-- A frame sent last. -/
def Dev.ethSent (d : Dev) (fr : List Byte) : Dev := { d with net := { d.net with sent := fr } }

/-- The length word and the words of a frame in the host's queue. -/
def ethEntry (frame : List Byte) : List W32 := w32 (frame.length % 2048) :: wordsBE frame

/-- The host's queue with an entry more. -/
def Dev.ethQueued (d : Dev) (ws : List W32) : Dev := { d with net := { d.net with rx := d.net.rx ++ ws } }

/-- A frame in the host's queue shown. -/
def Dev.ethShown (d : Dev) : Dev := (d.wrN Reg.NET_RX_LEVEL d.ethRxBytes).irq pNET 16

theorem Dev.ethToHost_room {d : Dev} {frame : List Byte} (h : 4 * (d.net.rx.length + (ethEntry frame).length) ≤ 16384) :
    d.ethToHost frame = (d.ethQueued (ethEntry frame)).ethShown := by
  refine if_neg ?_
  change ¬4 * d.net.rx.length + 4 * (ethEntry frame).length > 16384
  omega

theorem Dev.ethToHost_full {d : Dev} {frame : List Byte} (h : 16384 < 4 * (d.net.rx.length + (ethEntry frame).length)) :
    d.ethToHost frame = (d.incSat Reg.NET_RX_DROP).fault pNET 16 := by
  refine if_pos ?_
  change 4 * d.net.rx.length + 4 * (ethEntry frame).length > 16384
  omega

/-- The ledger, the record store, the queue, the drive and the time bases stay where only networks and access state differ. -/
theorem keptPart_of_net {s t : State} (h : differOnly (fun d => { d with net := {}, fab := {}, pow := {}, rcf := {} }) s t) : KeptPart s t :=
  ⟨h.2.1, h.2.2.1, h.2.2.2, h.proj (·.drv) (fun _ => rfl), h.proj (·.tm) (fun _ => rfl)⟩

theorem Dev.ethShown_spec (d : Dev) (hroom : d.ethRxBytes ≤ 16384) : d.ethShown.rdN Reg.NET_RX_LEVEL = d.ethRxBytes
    ∧ d.ethShown.bit (Reg.IRQ_RAW pNET) 16 = true ∧ Dev.RdKept [Reg.NET_RX_LEVEL, Reg.IRQ_RAW pNET] d d.ethShown := by
  let e := d.wrN Reg.NET_RX_LEVEL d.ethRxBytes
  refine ⟨?_, Dev.bit_irq_same e pNET (by decide), ((Dev.RdKept.refl _ d).wr (by decide) (w32 d.ethRxBytes)).irq (by decide) 16⟩
  refine (congrArg BitVec.toNat ((Dev.rd_irq_ne e pNET 16 (by decide)).trans (Dev.rd_wr_same d Reg.NET_RX_LEVEL (w32 d.ethRxBytes)))).trans ?_
  exact Nat.mod_eq_of_lt (by omega)

section
variable {s : State} {frame : List Byte} (hon : s.dev.ethOn = true) (harp : s.dev.isArp frame = false) (hecho : s.dev.isEcho frame = false)
  (hivyth : s.dev.isIvyth frame = false) (hhost : s.dev.bit Reg.NET_NET_CFG 2 = true)
include hon harp hecho hivyth hhost

theorem exec_ethFrameReceive_host : exec (.ethFrameReceive frame true) s = .next (onDev (·.ethToHost frame) s) := by
  rw [exec_ethFrameReceive hon]
  refine congrArg Host.Outcome.next (onDev_congr ((Dev.ethTaken_other harp hecho).trans ?_))
  rw [if_neg (Bool.eq_false_iff.mp hivyth), if_pos hhost]

theorem ethFrameReceive_queued (hroom : 4 * (s.dev.net.rx.length + (ethEntry frame).length) ≤ 16384) :
    ∃ t, exec (.ethFrameReceive frame true) s = .next t ∧ t.dev.net = { s.dev.net with rx := s.dev.net.rx ++ ethEntry frame }
      ∧ t.dev.rdN Reg.NET_RX_LEVEL = 4 * (s.dev.net.rx.length + (ethEntry frame).length) ∧ t.dev.bit (Reg.IRQ_RAW pNET) 16 = true ∧ KeptPart s t
      ∧ regsKept [Reg.NET_RX_LEVEL, Reg.IRQ_RAW pNET] s t := by
  have hexec := exec_ethFrameReceive_host hon harp hecho hivyth hhost
  rw [onDev_congr (f := fun d => d.ethToHost frame) (g := fun d => (d.ethQueued (ethEntry frame)).ethShown) (Dev.ethToHost_room hroom)] at hexec
  have hbytes : (s.dev.ethQueued (ethEntry frame)).ethRxBytes = 4 * (s.dev.net.rx.length + (ethEntry frame).length) := by
    change 4 * (s.dev.net.rx ++ ethEntry frame).length = _
    rw [List.length_append]
  obtain ⟨hlevel, hirq, hkept⟩ := (s.dev.ethQueued (ethEntry frame)).ethShown_spec (hbytes.trans_le hroom)
  exact ⟨_, hexec, rfl, hlevel.trans hbytes, hirq, ⟨rfl, rfl, rfl, rfl, rfl⟩, hkept⟩

theorem ethFrameReceive_dropped (hfull : 16384 < 4 * (s.dev.net.rx.length + (ethEntry frame).length)) :
    ∃ t, exec (.ethFrameReceive frame true) s = .next t ∧ t.dev.net = s.dev.net ∧ t.dev.bit (Reg.FAULT pNET) 16 = true
      ∧ t.dev.rd Reg.NET_RX_DROP = sat32 (s.dev.rdN Reg.NET_RX_DROP + 1) ∧ KeptPart s t
      ∧ regsKept [Reg.NET_RX_DROP, Reg.FAULT pNET, Reg.IRQ_RAW pNET] s t := by
  have hexec := exec_ethFrameReceive_host hon harp hecho hivyth hhost
  rw [onDev_congr (f := fun d => d.ethToHost frame) (g := fun d => (d.incSat Reg.NET_RX_DROP).fault pNET 16) (Dev.ethToHost_full hfull)] at hexec
  have hsame : Dev.SameBut id s.dev ((s.dev.incSat Reg.NET_RX_DROP).fault pNET 16) := ((Dev.SameBut.refl id s.dev).wr _ _).fault _ _
  refine ⟨_, hexec, hsame.proj (·.net) (fun _ => rfl), (Dev.fault_spec _ pNET 16 (by decide)).1, ?_,
    ⟨rfl, rfl, rfl, hsame.proj (·.drv) (fun _ => rfl), hsame.proj (·.tm) (fun _ => rfl)⟩,
    ((Dev.RdKept.refl _ s.dev).wr (by decide) _).fault (by decide) (by decide) 16⟩
  exact (Dev.rd_fault_ne (s.dev.incSat Reg.NET_RX_DROP) pNET 16 (by decide) (by decide)).trans (Dev.rd_wr_same s.dev Reg.NET_RX_DROP _)
end

/-! Frames sent, and the host's queue read (R479) -/

/-- The words written for a frame gone. -/
def Dev.ethEmptied (d : Dev) : Dev := { d with net := { d.net with tx := [] } }

/-- TX_PUSH: the frame of the words written leaves. -/
def Dev.ethPushed (d : Dev) : Dev := d.ethEmptied.ethSend ((d.net.tx.flatMap bytesBE).take (d.rdN Reg.NET_TX_LEN))

theorem actEthPush_sends {s : State} (h : s.dev.ethPushOk = true) : actEthPush s = (.ok, onDev Dev.ethPushed s) := if_pos h

theorem actEthPush_refuses {s : State} (h : s.dev.ethPushOk = false) : actEthPush s = (.len, onDev (fun d => d.ethEmptied.lenReject pNET) s) :=
  if_neg (Bool.eq_false_iff.mp h)

theorem Dev.ethPushed_net (d : Dev) : d.ethPushed = { d with net := d.ethPushed.net }
    ∧ d.ethPushed.net = if d.ethOn then { d.net with tx := [], sent := (d.net.tx.flatMap bytesBE).take (d.rdN Reg.NET_TX_LEN) } else { d.net with tx := [] } := by
  have hon : d.ethEmptied.ethOn = d.ethOn := rfl
  unfold Dev.ethPushed Dev.ethSend
  rw [hon]
  split <;> exact ⟨rfl, rfl⟩

theorem ethTxPush_sends {req : Requester} {v : W32} {u : State} (h : Accepts req Reg.NET_TX_PUSH v u) (hok : u.dev.ethPushOk = true) :
    ∃ t, hostCmd req Reg.NET_TX_PUSH v actEthPush u = t ∧ answerTo req t = ⟨.ok, 1, []⟩ ∧ KeptPart u t ∧ regsKept [] u t
      ∧ t.dev.net = if u.dev.ethOn then { u.dev.net with tx := [], sent := (u.dev.net.tx.flatMap bytesBE).take (u.dev.rdN Reg.NET_TX_LEN) }
          else { u.dev.net with tx := [] } := by
  obtain ⟨k, hk⟩ := hostCmd_acts h (t := fun k => onDev Dev.ethPushed (u.woken k)) fun k => actEthPush_sends (s := u.woken k) hok
  obtain ⟨hdev, hnet⟩ := (u.woken k).dev.ethPushed_net
  refine ⟨_, hk, answerTo_answeredOk _ _ _, keptPart_of_net (answeredOk_differOnly (fun _ _ => rfl) (fun _ _ => rfl) _ _ _ fun d => ?_), ?_, hnet⟩
  · unfold Dev.SameBut
    rw [d.ethPushed_net.1]
  · exact answeredOk_regsKept _ _ _ fun d => Dev.RdKept.ofRegs [] ((congrArg Dev.regs d.ethPushed_net.1).trans rfl)

theorem ethTxPush_refuses {req : Requester} {v : W32} {u : State} (h : Accepts req Reg.NET_TX_PUSH v u) (hok : u.dev.ethPushOk = false) :
    ∃ t, hostCmd req Reg.NET_TX_PUSH v actEthPush u = t ∧ answerTo req t = ⟨.len, 0, []⟩ ∧ KeptPart u t ∧ t.dev.net = { u.dev.net with tx := [] } := by
  obtain ⟨k, hk⟩ := hostCmd_lenAfter h Dev.ethEmptied fun k => actEthPush_refuses (s := u.woken k) hok
  exact ⟨_, hk, answerTo_lenRefused _ _ _ _,
    keptPart_of_net (lenRefused_after (fun _ _ => rfl) (fun _ _ => rfl) _ _ _ _ fun _ => rfl),
    (lenRefused_proj (·.net) (fun _ _ _ => rfl) _ _ _ (onDev Dev.ethEmptied (u.woken k))).trans rfl⟩

/-- The host's queue with its first words read. -/
def Dev.ethRead (d : Dev) (n : Nat) : Dev := { d with net := { d.net with rx := d.net.rx.drop n } }

/-- RX_PORT: the first words of the host's queue. -/
def Dev.ethRxGives (n : Nat) (d : Dev) : List W32 × Dev := (d.net.rx.take n, (d.ethRead n).wrN Reg.NET_RX_LEVEL (d.ethRead n).ethRxBytes)

theorem ethRxRead_gives {req : Requester} {u : State} (h : Readable req Reg.NET_RX_PORT u) (words : Nat) :
    ∃ t, hostPort req Reg.NET_RX_PORT words portEthRx u = t ∧ answerTo req t = ⟨.ok, (u.dev.net.rx.take words).length, u.dev.net.rx.take words⟩
      ∧ t.dev.net = { u.dev.net with rx := u.dev.net.rx.drop words } ∧ KeptPart u t ∧ regsKept [Reg.NET_RX_LEVEL, Reg.STATUS pNET] u t := by
  obtain ⟨k, hk⟩ := hostPort_dev (n := words) h Dev.ethRxGives
  obtain ⟨rs, f, hdev⟩ := portRead_dev req Reg.NET_RX_PORT words (Dev.ethRxGives words (u.woken k).dev) (u.woken k)
  have hsame : Dev.SameBut (fun d => { d with net := {}, fab := {}, pow := {}, rcf := {} }) u.dev (Dev.ethRxGives words (u.woken k).dev).2 := rfl
  exact ⟨_, hk, answerTo_portRead _ _ _ _ _, (congrArg Dev.net hdev).trans rfl, keptPart_of_net (portRead_differOnly (fun _ _ => rfl) _ _ _ _ hsame),
    portRead_regsKept (by decide) _ _ _
      (((Dev.RdKept.refl _ (u.woken k).dev).struct (e' := (u.woken k).dev.ethRead words) rfl).wr (by decide) _)⟩

/-! The link (R494) -/

/-- The link's word. -/
def Dev.linkWord (d : Dev) (up : Bool) : Nat :=
  if up then 1 + (if d.bit Reg.NET_NET_CFG 1 then 2 else 0) + (Config.linkQuality d.net.links).toNat * 2 ^ 8 else 0

/-- A change of the link counted. -/
def Dev.linkCounted (d : Dev) : Dev := { d with net := { d.net with links := d.net.links + 1 } }

/-- LINK_CHANGE. -/
def Dev.linkChanged (d : Dev) (up : Bool) : Dev := ((d.linkCounted.wrN Reg.NET_LINK (d.linkWord up)).setStat pNET 16 up).irq pNET 17

theorem exec_linkChange {s : State} {up : Bool} (h : s.dev.bit Reg.NET_LINK 0 ≠ up) : exec (.linkChange up) s = .next (onDev (·.linkChanged up) s) :=
  congrArg Host.Outcome.next (onDev_congr (if_neg h))

theorem exec_linkChange_not {s : State} {up : Bool} (h : s.dev.bit Reg.NET_LINK 0 = up) : exec (.linkChange up) s = .next s :=
  congrArg Host.Outcome.next ((onDev_congr (f := fun d => if d.bit Reg.NET_LINK 0 = up then d else d.linkChanged up) (g := id) (if_pos h)).trans rfl)

theorem linkWord_bits (role : Bool) (q : Nat) : bitOf (w32 (1 + (if role then 2 else 0) + q * 2 ^ 8)) 0 = true
    ∧ bitOf (w32 (1 + (if role then 2 else 0) + q * 2 ^ 8)) 1 = role := by
  unfold bitOf w32
  rw [BitVec.toNat_ofNat, Nat.testBit_mod_two_pow, Nat.testBit_mod_two_pow, Nat.testBit_zero, Nat.testBit_succ, Nat.testBit_zero]
  cases role <;> refine ⟨?_, ?_⟩ <;> simp <;> omega

theorem Dev.linkChanged_spec (d : Dev) (up : Bool) : (d.linkChanged up).rd Reg.NET_LINK = w32 (d.linkWord up) ∧ (d.linkChanged up).stat pNET 16 = up
    ∧ (d.linkChanged up).bit (Reg.IRQ_RAW pNET) 17 = true ∧ Dev.RdKept [Reg.NET_LINK, Reg.STATUS pNET, Reg.IRQ_RAW pNET] d (d.linkChanged up) := by
  let e := d.linkCounted.wrN Reg.NET_LINK (d.linkWord up)
  refine ⟨?_, ?_, Dev.bit_irq_same (e.setStat pNET 16 up) pNET (by decide), ?_⟩
  · exact (Dev.rd_irq_ne (e.setStat pNET 16 up) pNET 17 (by decide)).trans ((Dev.rd_setBit_ne e 16 up (by decide)).trans
      (Dev.rd_wr_same d.linkCounted Reg.NET_LINK (w32 (d.linkWord up))))
  · exact (congrArg (bitOf · 16) (Dev.rd_irq_ne (e.setStat pNET 16 up) pNET 17 (by decide))).trans
      (Dev.bit_setBit_same e (Reg.STATUS pNET) up (by decide))
  · exact ((((Dev.RdKept.refl _ d).struct (e' := d.linkCounted) rfl).wr (by decide) _).setStat (by decide) 16 up).irq (by decide) 17

theorem linkChange_shows {s : State} {up : Bool} (h : s.dev.bit Reg.NET_LINK 0 ≠ up) :
    ∃ t, exec (.linkChange up) s = .next t ∧ t.dev.bit Reg.NET_LINK 0 = up ∧ t.dev.stat pNET 16 = up ∧ t.dev.bit (Reg.IRQ_RAW pNET) 17 = true
      ∧ (up = true → t.dev.bit Reg.NET_LINK 1 = s.dev.bit Reg.NET_NET_CFG 1) ∧ (up = false → t.dev.rd Reg.NET_LINK = 0#32)
      ∧ t.dev.net = { s.dev.net with links := s.dev.net.links + 1 } ∧ KeptPart s t ∧ regsKept [Reg.NET_LINK, Reg.STATUS pNET, Reg.IRQ_RAW pNET] s t := by
  obtain ⟨hword, hstat, hirq, hkept⟩ := s.dev.linkChanged_spec up
  have hbit (b : Nat) : (s.dev.linkChanged up).bit Reg.NET_LINK b = bitOf (w32 (s.dev.linkWord up)) b := congrArg (bitOf · b) hword
  refine ⟨_, exec_linkChange h, (hbit 0).trans ?_, hstat, hirq, fun hup => (hbit 1).trans ?_, fun hdown => hword.trans ?_, rfl,
    ⟨rfl, rfl, rfl, rfl, rfl⟩, hkept⟩
  · cases up
    · exact (congrArg (bitOf · 0) (rfl : w32 (s.dev.linkWord false) = 0#32)).trans (show bitOf 0#32 0 = false by decide)
    · exact (linkWord_bits _ _).1
  · subst hup
    exact (linkWord_bits _ _).2
  · subst hdown
    rfl

/-- Settles O57. -/
theorem ethernetPort : Obligations.EthernetPort := by
  unfold Obligations.EthernetPort
  intro req frame fcsOk up v words s other mp entry keptOf
  refine ⟨fun hon => ⟨fun harp hmp => ?_, fun harp hecho hmp => ?_, fun hask hmp => ?_, ?_, ?_, ?_⟩, fun h => exec_ethFrameReceive_not h frame,
    fun h => ⟨fun hok => ?_, fun hok => ?_⟩, fun h => ?_, linkChange_shows, exec_linkChange_not⟩
  · exact (exec_ethFrameReceive hon frame).trans (congrArg Host.Outcome.next
      ((onDev_congr (f := fun d => d.ethTaken frame) (g := fun d => d.ethSent (d.arpReply frame))
        ((Dev.ethTaken_arp harp hmp).trans (Dev.ethSend_on hon (s.dev.arpReply frame)))).trans rfl))
  · exact (exec_ethFrameReceive hon frame).trans (congrArg Host.Outcome.next
      ((onDev_congr (f := fun d => d.ethTaken frame) (g := fun d => d.ethSent (d.echoReply frame))
        ((Dev.ethTaken_echo harp hecho hmp).trans (Dev.ethSend_on hon (s.dev.echoReply frame)))).trans rfl))
  · exact (exec_ethFrameReceive hon frame).trans
      (congrArg Host.Outcome.next ((onDev_congr (f := fun d => d.ethTaken frame) (g := id) (Dev.ethTaken_unserved hask hmp)).trans rfl))
  · rintro ⟨harp, hecho⟩ hivyth
    exact (exec_ethFrameReceive hon frame).trans (congrArg Host.Outcome.next
      ((onDev_congr (f := fun d => d.ethTaken frame) (g := id) ((Dev.ethTaken_other harp hecho).trans (if_pos hivyth))).trans rfl))
  · rintro ⟨harp, hecho⟩ hivyth hhost
    exact (exec_ethFrameReceive hon frame).trans (congrArg Host.Outcome.next ((onDev_congr (f := fun d => d.ethTaken frame) (g := id)
      ((Dev.ethTaken_other harp hecho).trans ((if_neg (Bool.eq_false_iff.mp hivyth)).trans (if_neg (Bool.eq_false_iff.mp hhost))))).trans rfl))
  · rintro ⟨harp, hecho⟩ hivyth hhost
    exact ⟨ethFrameReceive_queued hon harp hecho hivyth hhost, ethFrameReceive_dropped hon harp hecho hivyth hhost⟩
  · obtain ⟨t, ht, hrest⟩ := ethTxPush_sends h hok
    exact ⟨t, congrArg Host.Outcome.next ht, hrest⟩
  · obtain ⟨t, ht, hrest⟩ := ethTxPush_refuses h hok
    exact ⟨t, congrArg Host.Outcome.next ht, hrest⟩
  · obtain ⟨t, ht, hrest⟩ := ethRxRead_gives h words
    exact ⟨t, congrArg Host.Outcome.next ht, hrest⟩

end Sys2Proof.Machine
end

section
/-! PROOFS. A timeline read out, and the host's actions (R269 to R272, R280). -/
namespace Sys2Proof.Machine

/-! The timeline -/

/-- A channel's timeline selected. -/
def Dev.timelineSelected (d : Dev) (v : W32) : Dev :=
  ((({ d with sde := { d.sde with pos := 0 } } : Dev).wrN Reg.SDE_TL_SEL (v.toNat % 512)).wrN Reg.SDE_TL_COUNT
    (sget (fun _ => []) d.sde.tlPub (v.toNat % 512)).length)

theorem timelineSelect_selects {req : Requester} {ch : Fin 512} {s : State} (h : Accepts req Reg.SDE_TL_SEL (w32 ch) s) :
    ∃ t, exec (.timelineSelect req ch) s = .next t ∧ t.dev.rdN Reg.SDE_TL_SEL = ch ∧ t.dev.sde = { s.dev.sde with pos := 0 }
      ∧ t.dev.rd Reg.SDE_TL_COUNT = w32 (sget (fun _ => []) s.dev.sde.tlPub ch).length
      ∧ differOnly (fun d => { d with sde := {}, fab := {}, pow := {} }) s t ∧ regsKept [Reg.SDE_TL_SEL, Reg.SDE_TL_COUNT] s t := by
  have hch : (w32 ch).toNat % 512 = ch := by
    change ch.val % 2 ^ 32 % 512 = ch.val
    omega
  obtain ⟨k, hk⟩ := hostCmd_dev h (·.timelineSelected (w32 ch))
  let u := s.woken k
  let e : Dev := ({ u.dev with sde := { u.dev.sde with pos := 0 } } : Dev).wrN Reg.SDE_TL_SEL ((w32 ch).toNat % 512)
  have hcount : (u.dev.timelineSelected (w32 ch)).rd Reg.SDE_TL_COUNT = w32 (sget (fun _ => []) u.dev.sde.tlPub ((w32 ch).toNat % 512)).length :=
    Dev.rd_wr_same e Reg.SDE_TL_COUNT (w32 (sget (fun _ => []) u.dev.sde.tlPub ((w32 ch).toNat % 512)).length)
  have hsel : (u.dev.timelineSelected (w32 ch)).rd Reg.SDE_TL_SEL = w32 ((w32 ch).toNat % 512) :=
    (Dev.rd_wr_ne e (w32 (sget (fun _ => []) u.dev.sde.tlPub ((w32 ch).toNat % 512)).length) (by decide)).trans
      (Dev.rd_wr_same ({ u.dev with sde := { u.dev.sde with pos := 0 } } : Dev) Reg.SDE_TL_SEL (w32 ((w32 ch).toNat % 512)))
  refine ⟨_, congrArg Host.Outcome.next hk, ?_, rfl, ?_, answeredOk_differOnly (fun _ _ => rfl) (fun _ _ => rfl) _ _ _ fun _ => rfl,
    answeredOk_regsKept _ _ _ fun d => (((Dev.RdKept.refl _ d).struct (e' := { d with sde := { d.sde with pos := 0 } }) rfl).wr
      (by decide) _).wr (by decide) _⟩
  · refine (congrArg BitVec.toNat ((answeredOk_rd req Reg.SDE_TL_SEL (onDev (·.timelineSelected (w32 ch)) u) Reg.SDE_TL_SEL).trans hsel)).trans ?_
    rw [hch]
    exact Nat.mod_eq_of_lt (by omega)
  · refine (answeredOk_rd req Reg.SDE_TL_SEL (onDev (·.timelineSelected (w32 ch)) u) Reg.SDE_TL_COUNT).trans (hcount.trans ?_)
    rw [hch]
    rfl

/-- The words of the selected timeline from where the last read ended. -/
def Dev.timelineWords (d : Dev) (n : Nat) : List W32 :=
  (((sget (fun _ => []) d.sde.tlPub (d.rdN Reg.SDE_TL_SEL)).flatMap transitionWords).drop d.sde.pos).take n

/-- TL_PORT. -/
def Dev.timelineGives (n : Nat) (d : Dev) : List W32 × Dev :=
  (d.timelineWords n, { d with sde := { d.sde with pos := d.sde.pos + (d.timelineWords n).length } })

theorem timelineRead_gives {req : Requester} {s : State} (h : Readable req Reg.SDE_TL_PORT s) (n : Nat) :
    ∃ t, exec (.timelineRead req n) s = .next t ∧ answerTo req t = ⟨.ok, (s.dev.timelineWords n).length, s.dev.timelineWords n⟩
      ∧ t.dev.sde = { s.dev.sde with pos := s.dev.sde.pos + (s.dev.timelineWords n).length } ∧ t.ldg = s.ldg ∧ t.rcd = s.rcd := by
  obtain ⟨k, hk⟩ := hostPort_dev (n := n) h Dev.timelineGives
  obtain ⟨rs, f, hdev⟩ := portRead_dev req Reg.SDE_TL_PORT n (Dev.timelineGives n (s.woken k).dev) (s.woken k)
  exact ⟨_, congrArg Host.Outcome.next hk, answerTo_portRead _ _ _ _ _, (congrArg Dev.sde hdev).trans rfl, rfl, rfl⟩

/-! An entry pushed (R269, R271) -/

theorem HostAct.tag_lt (a : HostAct) : a.tag < 65536 := field_lt _ 15 0

theorem HostAct.chan_lt (a : HostAct) : a.chan < 512 := field_lt _ 8 0

theorem Dev.actCode_lt (d : Dev) (a : HostAct) : d.actCode a < 7 := by
  unfold Dev.actCode
  repeat' refine iteInduction (motive := fun x => x < 7) (fun _ => by decide) fun _ => ?_
  decide

theorem Dev.rdN_actResult {d e : Dev} {v : Nat} (hv : v < 2 ^ 32) (h : e.rd Reg.EDS_ACT_RESULT = (d.wrN Reg.EDS_ACT_RESULT v).rd Reg.EDS_ACT_RESULT) :
    e.rdN Reg.EDS_ACT_RESULT = v := by
  refine (congrArg BitVec.toNat (h.trans (Dev.rd_wr_same d Reg.EDS_ACT_RESULT (w32 v)))).trans ?_
  exact Nat.mod_eq_of_lt hv

theorem HostAct.result_lt (a : HostAct) {code : Nat} (h : code < 7) : a.tag * 2 ^ 16 + code < 2 ^ 32 := by
  have := a.tag_lt
  omega

/-- The result of an accepted entry. -/
def Dev.resultOk (d : Dev) : Dev := d.wrN Reg.EDS_ACT_RESULT (d.stagedAct.tag * 2 ^ 16)

/-- The pending entries with one more. -/
def Dev.actQueued (d : Dev) (a : HostAct) : Dev := { d with eds := { d.eds with acts := d.eds.acts ++ [a], nextAct := d.eds.nextAct + 1 } }

/-- The staged entry put at the end of the pending ones. -/
def Dev.pushQueued (d : Dev) : Dev := (d.resultOk.actQueued { d.stagedAct with t := d.resultOk.actTime d.stagedAct }).actsShow

theorem Dev.pushAct_queued {d : Dev} (h : d.resultOk.actsNow d.stagedAct = false) : d.pushAct = d.pushQueued := if_neg (Bool.eq_false_iff.mp h)

theorem Dev.actTime_resultOk (d : Dev) (a : HostAct) : d.resultOk.actTime a = d.actTime a := rfl

theorem Dev.tf_congr {d e : Dev} (h : e.rd Reg.FRM_TF_SEL = d.rd Reg.FRM_TF_SEL) : e.tf = d.tf := by
  unfold Dev.tf Dev.rdN
  rw [h]

theorem Dev.actsNow_resultOk (d : Dev) (a : HostAct) : d.resultOk.actsNow a = d.actsNow a := by
  have htf : d.resultOk.tf = d.tf := Dev.tf_congr (Dev.rd_wr_ne d (w32 (d.stagedAct.tag * 2 ^ 16)) (by decide))
  unfold Dev.actsNow
  rw [htf]
  rfl

theorem actPush_ok {s : State} (h : s.dev.actCode s.dev.stagedAct = 0) : actPush s = (.ok, onDev Dev.pushAct s) := by
  unfold actPush
  rw [h]
  rfl

theorem actPush_full {s : State} (h : s.dev.actCode s.dev.stagedAct = 1) : actPush s = (.len, onDev (fun d => (d.refuseAct 1).lenReject pEDS) s) := by
  unfold actPush
  rw [h]
  rfl

theorem actPush_refused {s : State} {n : Nat} (h : s.dev.actCode s.dev.stagedAct = n) (h0 : n ≠ 0) (h1 : n ≠ 1) :
    actPush s = (.ok, onDev (·.refuseAct n) s) := by
  unfold actPush
  rw [h]
  match n, h0, h1 with
  | n + 2, _, _ => rfl

/-- A view that says nothing of edge scheduling. -/
def ForgetsEds (blank : Dev → Dev) : Prop := ∀ (d : Dev) (x : EdsEngine), blank { d with eds := x } = blank d

theorem Dev.SameBut.eds {blank : Dev → Dev} {d e : Dev} (hb : ForgetsEds blank) (h : Dev.SameBut blank d e) (x : EdsEngine) :
    Dev.SameBut blank d { e with eds := x } := h.trans (hb { e with regs := [] } x)

/-- What a push that waits leaves. -/
def ActQueued (req : Requester) (s t : State) : Prop :=
  t.dev.eds.acts = s.dev.eds.acts ++ [{ s.dev.stagedAct with t := s.dev.actTime s.dev.stagedAct }]
    ∧ t.dev.rdN Reg.EDS_ACT_RESULT = s.dev.stagedAct.tag * 2 ^ 16 ∧ answerTo req t = ⟨.ok, 1, []⟩ ∧ t.dev.drv = s.dev.drv
    ∧ (t.ldg = s.ldg ∧ t.rcd = s.rcd) ∧ differOnly (fun d => { d with eds := {}, fab := {}, pow := {} }) s t
    ∧ regsKept [Reg.EDS_ACT_RESULT, Reg.EDS_ACT_LEVEL, Reg.STATUS pEDS] s t

theorem Dev.actsShow_rdKept (d : Dev) : Dev.RdKept [Reg.EDS_ACT_LEVEL, Reg.STATUS pEDS] d d.actsShow :=
  ((Dev.RdKept.refl _ d).wr (by decide) _).setStat (by decide) 16 _

theorem Dev.actsShow_sameBut (blank : Dev → Dev) (d : Dev) : Dev.SameBut blank d d.actsShow := ((Dev.SameBut.refl blank d).wr _ _).setStat _ _ _

/-- The blocks that a push which waits may change. -/
def forgetActs (d : Dev) : Dev := { d with eds := {}, fab := {}, pow := {} }

theorem Dev.pushQueued_sameBut (d : Dev) : Dev.SameBut forgetActs d d.pushQueued := by
  let e := d.resultOk.actQueued { d.stagedAct with t := d.resultOk.actTime d.stagedAct }
  have he : Dev.SameBut forgetActs d e := ((Dev.SameBut.refl forgetActs d).wr _ _).eds (fun _ _ => rfl) e.eds
  exact he.trans (e.actsShow_sameBut _)

theorem Dev.pushQueued_rdKept (d : Dev) : Dev.RdKept [Reg.EDS_ACT_RESULT, Reg.EDS_ACT_LEVEL, Reg.STATUS pEDS] d d.pushQueued := by
  let e := d.resultOk.actQueued { d.stagedAct with t := d.resultOk.actTime d.stagedAct }
  exact (((Dev.RdKept.refl _ d).wr (by decide) _).struct (e' := e) rfl).trans (e.actsShow_rdKept.mono (by decide))

theorem Dev.pushQueued_result (d : Dev) : d.pushQueued.rdN Reg.EDS_ACT_RESULT = d.stagedAct.tag * 2 ^ 16 := by
  let e := d.resultOk.actQueued { d.stagedAct with t := d.resultOk.actTime d.stagedAct }
  have hlt : d.stagedAct.tag * 2 ^ 16 < 2 ^ 32 := by have := d.stagedAct.tag_lt; omega
  exact Dev.rdN_actResult (d := d) hlt (e.actsShow_rdKept Reg.EDS_ACT_RESULT (by decide))

section
variable {req : Requester} {s : State} (h : Accepts req Reg.EDS_ACT_PUSH 1#32 s)
include h

theorem push_queued (hcode : s.dev.actCode s.dev.stagedAct = 0) (hwait : s.dev.actsNow s.dev.stagedAct = false) :
    ∃ t, hostCmd req Reg.EDS_ACT_PUSH 1#32 actPush s = t ∧ ActQueued req s t := by
  have hpush (k : Nat) : (s.woken k).dev.pushAct = (s.woken k).dev.pushQueued :=
    Dev.pushAct_queued ((Dev.actsNow_resultOk (s.woken k).dev (s.woken k).dev.stagedAct).trans hwait)
  obtain ⟨k, hk⟩ := hostCmd_acts h (t := fun k => onDev Dev.pushQueued (s.woken k)) fun k =>
    (actPush_ok (s := s.woken k) hcode).trans (congrArg (Prod.mk Status.ok) (onDev_congr (f := Dev.pushAct) (g := Dev.pushQueued) (hpush k)))
  refine ⟨_, hk, rfl, ?_, answerTo_answeredOk _ _ _, rfl, ⟨rfl, rfl⟩,
    answeredOk_differOnly (blank := forgetActs) (fun _ _ => rfl) (fun _ _ => rfl) _ _ _ Dev.pushQueued_sameBut, answeredOk_regsKept _ _ _ Dev.pushQueued_rdKept⟩
  exact (congrArg BitVec.toNat (answeredOk_rd req Reg.EDS_ACT_PUSH (onDev Dev.pushQueued (s.woken k)) Reg.EDS_ACT_RESULT)).trans
    (s.woken k).dev.pushQueued_result
end

/-! An entry refused (R269) -/

/-- What a refused push leaves. -/
def ActRefused (req : Requester) (s t : State) : Prop :=
  t.dev.eds = s.dev.eds ∧ t.dev.drv = s.dev.drv ∧ t.dev.rd Reg.EDS_ACT_REF_CNT = s.dev.rd Reg.EDS_ACT_REF_CNT + 1#32
    ∧ t.dev.rdN Reg.EDS_ACT_RESULT = s.dev.stagedAct.tag * 2 ^ 16 + s.dev.actCode s.dev.stagedAct ∧ t.dev.bit (Reg.IRQ_RAW pEDS) 17 = true
    ∧ answerTo req t = (if s.dev.actCode s.dev.stagedAct = 1 then ⟨.len, 0, []⟩ else ⟨.ok, 1, []⟩) ∧ t.ldg = s.ldg ∧ t.rcd = s.rcd

theorem Dev.refuseAct_spec (d : Dev) {code : Nat} (hcode : code < 7) : (d.refuseAct code).rd Reg.EDS_ACT_REF_CNT = d.rd Reg.EDS_ACT_REF_CNT + 1#32
    ∧ (d.refuseAct code).rdN Reg.EDS_ACT_RESULT = d.stagedAct.tag * 2 ^ 16 + code ∧ (d.refuseAct code).bit (Reg.IRQ_RAW pEDS) 17 = true := by
  let e := (d.inc Reg.EDS_ACT_REF_CNT).wrN Reg.EDS_ACT_RESULT (d.stagedAct.tag * 2 ^ 16 + code)
  refine ⟨?_, ?_, Dev.bit_irq_same e pEDS (by decide)⟩
  · exact (Dev.rd_irq_ne e pEDS 17 (by decide)).trans ((Dev.rd_wr_ne (d.inc Reg.EDS_ACT_REF_CNT) _ (by decide)).trans
      (Dev.rd_wr_same d Reg.EDS_ACT_REF_CNT _))
  · exact Dev.rdN_actResult (d := d.inc Reg.EDS_ACT_REF_CNT) (d.stagedAct.result_lt hcode) (Dev.rd_irq_ne e pEDS 17 (by decide))

theorem rd_lenRefused_ne (q : Requester) (a p : Nat) (s : State) {b : Nat} (hb : b ∉ lenWords p) : (lenRefused q a p s).dev.rd b = s.dev.rd b := by
  simp only [lenWords, List.mem_cons, List.not_mem_nil, or_false, not_or] at hb
  obtain ⟨hlen, hfault, hirq, herr, haddr⟩ := hb
  exact (Dev.rd_respond_ne _ _ _ _ _ _ herr haddr).trans (Dev.rd_lenReject_ne _ _ hfault hirq hlen)

theorem bit_lenRefused_irq (q : Requester) (a p : Nat) {s : State} {b : Nat} (hb : b < 32) (hp : Reg.IRQ_RAW p ≠ Reg.HOST_LAST_ERR)
    (hp' : Reg.IRQ_RAW p ≠ Reg.HOST_LAST_ERR_ADDR) (h : s.dev.bit (Reg.IRQ_RAW p) b = true) : (lenRefused q a p s).dev.bit (Reg.IRQ_RAW p) b = true := by
  have hcount : (s.dev.incSat (Reg.LEN_REJ p)).bit (Reg.IRQ_RAW p) b = true :=
    (congrArg (bitOf · b) (Dev.rd_wr_ne s.dev _ (by simp only [Reg.IRQ_RAW, Reg.LEN_REJ]; omega))).trans h
  exact (congrArg (bitOf · b) (Dev.rd_respond_ne _ _ _ _ _ _ hp hp')).trans (Dev.bit_fault_true (s.dev.incSat (Reg.LEN_REJ p)) (by decide) hb hcount)

section
variable {req : Requester} {s : State} (h : Accepts req Reg.EDS_ACT_PUSH 1#32 s)
include h

theorem push_full (hcode : s.dev.actCode s.dev.stagedAct = 1) : ∃ t, hostCmd req Reg.EDS_ACT_PUSH 1#32 actPush s = t ∧ ActRefused req s t := by
  obtain ⟨k, hk⟩ := hostCmd_lenAfter h (fun d => d.refuseAct 1) fun k => actPush_full (s := s.woken k) hcode
  obtain ⟨hcnt, hres, hirq⟩ := (s.woken k).dev.refuseAct_spec (show 1 < 7 by decide)
  let u := onDev (fun d => d.refuseAct 1) (s.woken k)
  refine ⟨_, hk, (lenRefused_proj (·.eds) (fun _ _ _ => rfl) _ _ _ u).trans rfl, (lenRefused_proj (·.drv) (fun _ _ _ => rfl) _ _ _ u).trans rfl,
    (rd_lenRefused_ne req Reg.EDS_ACT_PUSH pEDS u (by decide)).trans hcnt, ?_,
    bit_lenRefused_irq req Reg.EDS_ACT_PUSH pEDS (s := u) (by decide) (by decide) (by decide) hirq, ?_, rfl, rfl⟩
  · rw [hcode]
    exact (congrArg BitVec.toNat (rd_lenRefused_ne req Reg.EDS_ACT_PUSH pEDS u (b := Reg.EDS_ACT_RESULT) (by decide))).trans hres
  · rw [if_pos hcode]
    exact answerTo_lenRefused _ _ _ _

theorem push_refused (hcode : s.dev.actCode s.dev.stagedAct ≠ 0) : ∃ t, hostCmd req Reg.EDS_ACT_PUSH 1#32 actPush s = t ∧ ActRefused req s t := by
  by_cases hfull : s.dev.actCode s.dev.stagedAct = 1
  · exact push_full h hfull
  let n := s.dev.actCode s.dev.stagedAct
  obtain ⟨k, hk⟩ := hostCmd_acts h (t := fun k => onDev (·.refuseAct n) (s.woken k)) fun k => actPush_refused (s := s.woken k) rfl hcode hfull
  obtain ⟨hcnt, hres, hirq⟩ := (s.woken k).dev.refuseAct_spec (s.dev.actCode_lt s.dev.stagedAct)
  let u := onDev (·.refuseAct n) (s.woken k)
  have hrd := answeredOk_rd req Reg.EDS_ACT_PUSH u
  refine ⟨_, hk, rfl, rfl, (hrd _).trans hcnt, (congrArg BitVec.toNat (hrd Reg.EDS_ACT_RESULT)).trans hres,
    (congrArg (bitOf · 17) (hrd (Reg.IRQ_RAW pEDS))).trans hirq, ?_, rfl, rfl⟩
  rw [if_neg hfull]
  exact answerTo_answeredOk _ _ _
end

/-! An OFF and a RELEASE that do not wait (R257, R270, R271) -/

/-- The edge of an OFF that goes directly to the tile, noted. -/
def Chan.offNoted (t : Nat) (x : Chan) : Chan := { x with fr := { x.fr with edges := x.fr.edges ++ [(t, false)] } }

/-- What is committed to a channel or held back in it cancelled; `decided` by a section. -/
def Chan.offCancelled (now : Nat) (decided : Bool) (x : Chan) : Chan :=
  let b := x.book.settle now [] x.book.held
  let runs := b.runs.filterMap (fun p =>
    if p.1 > now then (if decided then some p else none)
    else match p.2 with | some e => some (p.1, some (min e now)) | none => some (p.1, some now))
  let marks := b.marks.filter (fun m => m.1 ≤ now)
  { x with
    queue := [], next := [], commanded := false, sortEdge := none, runEnd := none, lossEnd := none
    book := { b with runs := runs, marks := if decided then marks ++ [(now, some .host)] else marks ++ [(now, none)] } }

/-- No train runs and no stop waits. -/
def EdsChan.stopped (e : EdsChan) : EdsChan := { e with train := false, stop := none }

/-- The channel of an OFF that goes directly to the tile, open. -/
def Dev.offOpened (d : Dev) (c : Nat) : Dev :=
  ((d.modChan c (Chan.offNoted d.tick)).lowSideOff c).modChan c (Chan.offCancelled d.tick (d.secOf c).isSome)

/-- The channel open, with no train. -/
def Dev.offChan (d : Dev) (c : Nat) : Dev := (d.offOpened c).modEdsChan c EdsChan.stopped

theorem Dev.offChan_ch (d : Dev) (c : Nat) : (d.offChan c).drv.ch = (d.offOpened c).drv.ch := rfl

/-- The pending entries that the channel holds back. -/
def Dev.heldActs (d : Dev) (c : Nat) : List Nat := (d.edsChan c).plan.filterMap (fun p => if p.booked then p.act else none)

/-- The OFF, with its entries gone. -/
def Dev.offCleared (d : Dev) (a : HostAct) : Dev :=
  (d.offChan a.chan).keepActs (fun b => !(b.chan = a.chan && (d.heldActs a.chan).contains b.num))

theorem Dev.offChan_regs (d : Dev) (c : Nat) : (d.offChan c).regs = d.regs := Dev.lowSideOff_regs (d.modChan c (Chan.offNoted d.tick)) c

theorem Dev.actTime_now (d : Dev) {a : HostAct} (h : a.ref = refNOW) : d.actTime a = none := by
  unfold Dev.actTime
  rw [h]
  rfl

theorem Dev.hostOffNow_now (d : Dev) {a : HostAct} (h : a.ref = refNOW) : d.hostOffNow a
    = (((d.offCleared a).hostOffInhibits a.chan).recOther pEDS [w32 a.tag] objIsChannel a.chan).actDone a.tag a.notify := by
  have hnone : (d.offCleared a).actTime a = none := Dev.actTime_now _ h
  change (((match (d.offCleared a).actTime a with
    | some t => if t < d.tick then (d.offCleared a).add64 Reg.EDS_LATE_MM
        (groundOf (d.tick - t) ((d.offCleared a).probeSpeed a.chan (d.offCleared a).pose.latchT) 1) else d.offCleared a
    | none => d.offCleared a).hostOffInhibits a.chan).recOther pEDS [w32 a.tag] objIsChannel a.chan).actDone a.tag a.notify = _
  rw [hnone]

theorem Dev.RdKept.recOther {l : List Nat} {d e : Dev} (h : Dev.RdKept l d e) (hs : Reg.REC_SUPP_TOTAL ∈ l) (p : Nat) (vs : List W32) (o i : Nat) :
    Dev.RdKept l d (e.recOther p vs o i) := h.emit hs ⟨false, 0, p, 3, 0, o, i, vs, e.tm.tbm⟩

/-- The register words of a host OFF that goes directly to the tile. -/
def offWords (c : Nat) : List Nat :=
  [Reg.EDS_ACT_LEVEL, Reg.STATUS pEDS, Reg.EDS_INHIBIT 0 + 4 * (c / 32), Reg.REC_SUPP_TOTAL, Reg.EDS_ACT_DONE_TAG, Reg.IRQ_RAW pEDS]

theorem Dev.hostOffInhibits_drv (d : Dev) (c : Nat) : (d.hostOffInhibits c).drv = d.drv := by
  unfold Dev.hostOffInhibits
  split <;> rfl

theorem Dev.hostOffInhibits_rdKept (d : Dev) (c : Nat) : Dev.RdKept (offWords c) d (d.hostOffInhibits c) := by
  unfold Dev.hostOffInhibits
  split
  · exact (Dev.RdKept.refl _ d).setBit (by simp [offWords]) _ true
  · exact Dev.RdKept.refl _ d

theorem Dev.actDone_drv (d : Dev) (tag : Nat) (n : Bool) : (d.actDone tag n).drv = d.drv := by
  unfold Dev.actDone
  split <;> rfl

theorem Dev.actDone_eds (d : Dev) (tag : Nat) (n : Bool) : (d.actDone tag n).eds = d.eds := by
  unfold Dev.actDone
  split <;> rfl

theorem Dev.actDone_rdKept (d : Dev) (tag : Nat) (n : Bool) : Dev.RdKept [Reg.EDS_ACT_DONE_TAG, Reg.IRQ_RAW pEDS] d (d.actDone tag n) := by
  unfold Dev.actDone
  split
  · exact ((Dev.RdKept.refl _ d).wr (by decide) _).irq (by decide) 16
  · exact Dev.RdKept.refl _ d

section
variable (d : Dev) {a : HostAct} (h : a.ref = refNOW)
include h

theorem Dev.hostOffNow_drv : (d.hostOffNow a).drv = (d.offCleared a).drv := by
  rw [d.hostOffNow_now h, Dev.actDone_drv]
  exact (Dev.recOther_drv _ _ _ _ _).trans (Dev.hostOffInhibits_drv _ _)

theorem Dev.hostOffNow_rdKept : Dev.RdKept (offWords a.chan) d (d.hostOffNow a) := by
  rw [d.hostOffNow_now h]
  have hchan : (d.offChan a.chan).regs = d.regs := Dev.offChan_regs d a.chan
  have hcleared : Dev.RdKept (offWords a.chan) d (d.offCleared a) :=
    (Dev.RdKept.ofRegs _ hchan).trans ((Dev.keepActs_rdKept (d.offChan a.chan) _).mono (by simp [offWords]))
  let e := (d.offCleared a).hostOffInhibits a.chan
  have he : Dev.RdKept (offWords a.chan) d e := hcleared.trans (Dev.hostOffInhibits_rdKept _ _)
  have hrec := he.recOther (by simp [offWords]) pEDS [w32 a.tag] objIsChannel a.chan
  exact hrec.trans ((Dev.actDone_rdKept (e.recOther pEDS [w32 a.tag] objIsChannel a.chan) a.tag a.notify).mono (by simp [offWords]))
end

theorem Dev.offChan_ne (d : Dev) {c j : Nat} (h : j ≠ c) : (d.offChan c).chan j = d.chan j := by
  rw [Dev.chan_of_ch (d.offChan_ch c), Dev.offOpened, Dev.chan_modChan_ne _ _ h, Dev.lowSideOff_chan_ne _ h, Dev.chan_modChan_ne _ _ h]

theorem Dev.offChan_same (d : Dev) (c : Nat) : (d.offChan c).isOn c = false ∧ ((d.offChan c).chan c).queue = [] ∧ ((d.offChan c).chan c).next = [] := by
  have hchan : (d.offChan c).chan c = Chan.offCancelled d.tick (d.secOf c).isSome (((d.modChan c (Chan.offNoted d.tick)).lowSideOff c).chan c) := by
    rw [Dev.chan_of_ch (d.offChan_ch c), Dev.offOpened, Dev.chan_modChan_same]
  exact ⟨(congrArg (fun x => phaseOn (Chan.phase x)) hchan).trans (Dev.lowSideOff_off _ c), congrArg Chan.queue hchan, congrArg Chan.next hchan⟩

theorem Dev.pushAct_now {d : Dev} (h : d.resultOk.actsNow d.stagedAct = true) :
    d.pushAct = if d.stagedAct.kind = haOFF then d.resultOk.hostOffNow d.stagedAct else d.resultOk.releaseNow d.stagedAct := if_pos h

theorem Dev.actsNow_off (d : Dev) {a : HostAct} (hkind : a.kind = haOFF) (href : a.ref = refNOW) : d.actsNow a = true := by
  unfold Dev.actsNow
  rw [hkind, href]
  rfl

theorem Dev.actsNow_release (d : Dev) {a : HostAct} (hkind : a.kind = haRELEASE) (href : a.ref = refNOW) : d.actsNow a = true := by
  unfold Dev.actsNow
  rw [hkind, href]
  rfl

theorem Dev.actsNow_later (d : Dev) {a : HostAct} (hoff : a.kind ≠ haOFF) (hrel : a.kind ≠ haRELEASE) : d.actsNow a = false := by
  unfold Dev.actsNow
  rw [decide_eq_false hoff, decide_eq_false hrel]
  rfl

theorem Dev.rdN_resultOk {d e : Dev} (h : e.rd Reg.EDS_ACT_RESULT = d.resultOk.rd Reg.EDS_ACT_RESULT) :
    e.rdN Reg.EDS_ACT_RESULT = d.stagedAct.tag * 2 ^ 16 := by
  have hlt : d.stagedAct.tag * 2 ^ 16 < 2 ^ 32 := by have := d.stagedAct.tag_lt; omega
  exact Dev.rdN_actResult (d := d) hlt h

theorem actResult_not_mem_offWords {c : Nat} (hc : c < 512) : Reg.EDS_ACT_RESULT ∉ offWords c := by
  simp only [offWords, List.mem_cons, List.not_mem_nil, or_false, Reg.EDS_ACT_RESULT, Reg.EDS_ACT_LEVEL, Reg.STATUS, Reg.EDS_INHIBIT,
    Reg.REC_SUPP_TOTAL, Reg.EDS_ACT_DONE_TAG, Reg.IRQ_RAW, pEDS]
  omega

/-- An OFF that does not wait. -/
def Dev.pushOff (d : Dev) (x : HostAct) : Dev := d.resultOk.hostOffNow x

/-- A RELEASE that does not wait. -/
def Dev.pushRelease (d : Dev) (x : HostAct) : Dev := d.resultOk.releaseNow x

section
variable {d : Dev} {x : HostAct} (hx : d.stagedAct = x)
include hx

theorem Dev.pushAct_off (hkind : x.kind = haOFF) (href : x.ref = refNOW) : d.pushAct = d.pushOff x := by
  rw [Dev.pushAct_now (by rw [hx]; exact Dev.actsNow_off _ hkind href), hx, if_pos hkind, Dev.pushOff]

theorem Dev.pushAct_release (hkind : x.kind = haRELEASE) (href : x.ref = refNOW) : d.pushAct = d.pushRelease x := by
  rw [Dev.pushAct_now (by rw [hx]; exact Dev.actsNow_release _ hkind href), hx, if_neg (by rw [hkind]; decide), Dev.pushRelease]
end

theorem Dev.offNow_spec (d : Dev) {x : HostAct} (href : x.ref = refNOW) : (d.pushOff x).isOn x.chan = false
    ∧ ((d.pushOff x).chan x.chan).queue = [] ∧ ((d.pushOff x).chan x.chan).next = []
    ∧ (∀ c, c ≠ x.chan → (d.pushOff x).chan c = d.chan c)
    ∧ (d.pushOff x).rdN Reg.EDS_ACT_RESULT = d.stagedAct.tag * 2 ^ 16 := by
  have hch : (d.pushOff x).drv.ch = (d.resultOk.offChan x.chan).drv.ch := congrArg Drive.ch (d.resultOk.hostOffNow_drv href)
  obtain ⟨hoff, hqueue, hnext⟩ := d.resultOk.offChan_same x.chan
  exact ⟨(Dev.isOn_of_ch hch x.chan).trans hoff, (congrArg Chan.queue (Dev.chan_of_ch hch x.chan)).trans hqueue,
    (congrArg Chan.next (Dev.chan_of_ch hch x.chan)).trans hnext, fun c hc => (Dev.chan_of_ch hch c).trans (d.resultOk.offChan_ne hc),
    Dev.rdN_resultOk (d.resultOk.hostOffNow_rdKept href Reg.EDS_ACT_RESULT (actResult_not_mem_offWords x.chan_lt))⟩

section
variable {req : Requester} {s : State} (h : Accepts req Reg.EDS_ACT_PUSH 1#32 s)
include h

theorem push_offNow (hkind : s.dev.stagedAct.kind = haOFF) (hcode : s.dev.actCode s.dev.stagedAct = 0) (href : s.dev.stagedAct.ref = refNOW) :
    ∃ t, hostCmd req Reg.EDS_ACT_PUSH 1#32 actPush s = t ∧ answerTo req t = ⟨.ok, 1, []⟩ ∧ t.dev.isOn s.dev.stagedAct.chan = false
      ∧ (t.dev.chan s.dev.stagedAct.chan).queue = [] ∧ (t.dev.chan s.dev.stagedAct.chan).next = []
      ∧ (∀ c, c ≠ s.dev.stagedAct.chan → t.dev.chan c = s.dev.chan c) ∧ t.dev.rdN Reg.EDS_ACT_RESULT = s.dev.stagedAct.tag * 2 ^ 16
      ∧ t.ldg = s.ldg ∧ t.rcd = s.rcd := by
  let x := s.dev.stagedAct
  have hstaged (k : Nat) : (s.woken k).dev.stagedAct = x := rfl
  obtain ⟨k, hk⟩ := hostCmd_acts h (t := fun k => onDev (·.pushOff x) (s.woken k)) fun k =>
    (actPush_ok (s := s.woken k) hcode).trans
      (congrArg (Prod.mk Status.ok) (onDev_congr (f := Dev.pushAct) (g := (·.pushOff x)) (Dev.pushAct_off (hstaged k) hkind href)))
  let u := onDev (·.pushOff x) (s.woken k)
  obtain ⟨hoff, hqueue, hnext, hch, hres⟩ := (s.woken k).dev.offNow_spec href
  have hdrv : (answeredOk req Reg.EDS_ACT_PUSH u).dev.drv.ch = u.dev.drv.ch := rfl
  obtain ⟨hrcd, hldg, -⟩ := answeredOk_beside req Reg.EDS_ACT_PUSH u
  exact ⟨_, hk, answerTo_answeredOk _ _ _, (Dev.isOn_of_ch hdrv x.chan).trans hoff, (congrArg Chan.queue (Dev.chan_of_ch hdrv x.chan)).trans hqueue,
    (congrArg Chan.next (Dev.chan_of_ch hdrv x.chan)).trans hnext, fun c hc => (Dev.chan_of_ch hdrv c).trans (hch c hc),
    (congrArg BitVec.toNat (answeredOk_rd req Reg.EDS_ACT_PUSH u Reg.EDS_ACT_RESULT)).trans hres, hldg, hrcd⟩

theorem push_releaseNow (hkind : s.dev.stagedAct.kind = haRELEASE) (hcode : s.dev.actCode s.dev.stagedAct = 0)
    (href : s.dev.stagedAct.ref = refNOW) :
    ∃ t, hostCmd req Reg.EDS_ACT_PUSH 1#32 actPush s = t ∧ answerTo req t = ⟨.ok, 1, []⟩
      ∧ t.dev.mapBit (Reg.EDS_INHIBIT 0) s.dev.stagedAct.chan = false ∧ t.dev.eds = s.dev.eds ∧ t.dev.drv = s.dev.drv
      ∧ t.ldg = s.ldg ∧ t.rcd = s.rcd := by
  let x := s.dev.stagedAct
  have hstaged (k : Nat) : (s.woken k).dev.stagedAct = x := rfl
  obtain ⟨k, hk⟩ := hostCmd_acts h (t := fun k => onDev (·.pushRelease x) (s.woken k)) fun k =>
    (actPush_ok (s := s.woken k) hcode).trans
      (congrArg (Prod.mk Status.ok) (onDev_congr (f := Dev.pushAct) (g := (·.pushRelease x)) (Dev.pushAct_release (hstaged k) hkind href)))
  let e := (s.woken k).dev.resultOk.setMapBit (Reg.EDS_INHIBIT 0) x.chan false
  have hbit : e.mapBit (Reg.EDS_INHIBIT 0) x.chan = false :=
    Dev.bit_setBit_same (s.woken k).dev.resultOk (Reg.EDS_INHIBIT 0 + 4 * (x.chan / 32)) false (by omega)
  have hapart : Reg.EDS_INHIBIT 0 + 4 * (x.chan / 32) ∉ [Reg.EDS_ACT_DONE_TAG, Reg.IRQ_RAW pEDS] := by
    have := x.chan_lt
    simp only [List.mem_cons, List.not_mem_nil, or_false, Reg.EDS_INHIBIT, Reg.EDS_ACT_DONE_TAG, Reg.IRQ_RAW, pEDS]
    omega
  let u := onDev (·.pushRelease x) (s.woken k)
  obtain ⟨hrcd, hldg, -⟩ := answeredOk_beside req Reg.EDS_ACT_PUSH u
  have hrd := (answeredOk_rd req Reg.EDS_ACT_PUSH u (Reg.EDS_INHIBIT 0 + 4 * (x.chan / 32))).trans
    (e.actDone_rdKept x.tag x.notify (Reg.EDS_INHIBIT 0 + 4 * (x.chan / 32)) hapart)
  exact ⟨_, hk, answerTo_answeredOk _ _ _, (congrArg (bitOf · (x.chan % 32)) hrd).trans hbit, (e.actDone_eds x.tag x.notify).trans rfl,
    (e.actDone_drv x.tag x.notify).trans rfl, hldg, hrcd⟩
end

/-! Entries that end (R271, R272) -/

theorem actionCancel_removes {req : Requester} {tag : Nat} {s : State} (h : Accepts req Reg.EDS_ACT_CANCEL (w32 tag) s) :
    ∃ t, exec (.actionCancel req tag) s = .next t ∧ answerTo req t = ⟨.ok, 1, []⟩
      ∧ t.dev.eds.acts = s.dev.eds.acts.filter (fun b => b.tag ≠ tag % 65536) ∧ t.dev.drv = s.dev.drv ∧ t.ldg = s.ldg ∧ t.rcd = s.rcd := by
  have htag : (w32 tag).toNat % 65536 = tag % 65536 := by
    change tag % 2 ^ 32 % 65536 = tag % 65536
    omega
  obtain ⟨k, hk⟩ := hostCmd_dev h (·.keepActs (fun a => a.tag ≠ (w32 tag).toNat % 65536))
  refine ⟨_, congrArg Host.Outcome.next hk, answerTo_answeredOk _ _ _, ?_, rfl, rfl, rfl⟩
  rw [← htag]
  rfl

/-- The oldest POSITION entry ended. -/
def Dev.positionEnds (d : Dev) (a : HostAct) : Dev :=
  (((d.toTbm (a.pushed + d.rdN Reg.EDS_POS_TTL * 1000000000)).keepActs (fun b => b.num ≠ a.num)).inc Reg.EDS_ACT_EXPIRED).recOther pEDS [w32 a.tag]
    objIsChannel a.chan

theorem exec_positionExpiry {s : State} {a : HostAct} (h : s.dev.eds.acts.find? (fun b => b.ref = refPOSITION) = some a) :
    exec .positionExpiry s = .next (onDev (·.positionEnds a) s) := by
  refine congrArg Host.Outcome.next (onDev_congr (f := fun d => match d.eds.acts.find? (fun a => a.ref = refPOSITION) with
    | none => d
    | some a => d.positionEnds a) ?_)
  change (match s.dev.eds.acts.find? (fun a => a.ref = refPOSITION) with | none => s.dev | some a => s.dev.positionEnds a) = _
  rw [h]

theorem positionExpiry_ends {s : State} {a : HostAct} (h : s.dev.eds.acts.find? (fun b => b.ref = refPOSITION) = some a) :
    ∃ t, exec .positionExpiry s = .next t ∧ t.dev.eds.acts = s.dev.eds.acts.filter (fun b => b.num ≠ a.num)
      ∧ t.dev.rd Reg.EDS_ACT_EXPIRED = s.dev.rd Reg.EDS_ACT_EXPIRED + 1#32
      ∧ a.pushed + s.dev.rdN Reg.EDS_POS_TTL * 1000000000 ≤ t.dev.tm.tbm ∧ t.dev.drv = s.dev.drv ∧ t.ldg = s.ldg ∧ t.rcd = s.rcd := by
  let e := s.dev.toTbm (a.pushed + s.dev.rdN Reg.EDS_POS_TTL * 1000000000)
  let f := e.keepActs (fun b => b.num ≠ a.num)
  have hsupp : Reg.EDS_ACT_EXPIRED ≠ Reg.REC_SUPP_TOTAL := by decide
  have hcnt : (f.inc Reg.EDS_ACT_EXPIRED).rd Reg.EDS_ACT_EXPIRED = f.rd Reg.EDS_ACT_EXPIRED + 1#32 := Dev.rd_wr_same f Reg.EDS_ACT_EXPIRED _
  have hkeep : f.rd Reg.EDS_ACT_EXPIRED = e.rd Reg.EDS_ACT_EXPIRED := Dev.keepActs_rdKept e _ Reg.EDS_ACT_EXPIRED (by decide)
  have hrec : (s.dev.positionEnds a).rd Reg.EDS_ACT_EXPIRED = (f.inc Reg.EDS_ACT_EXPIRED).rd Reg.EDS_ACT_EXPIRED :=
    Dev.emit_rdKept (f.inc Reg.EDS_ACT_EXPIRED) ⟨false, 0, pEDS, 3, 0, objIsChannel, a.chan, [w32 a.tag], (f.inc Reg.EDS_ACT_EXPIRED).tm.tbm⟩
      Reg.EDS_ACT_EXPIRED (by simpa using hsupp)
  refine ⟨_, exec_positionExpiry h, (congrArg EdsEngine.acts (Dev.recOther_eds _ _ _ _ _)).trans rfl, hrec.trans (hcnt.trans (congrArg (· + 1#32) hkeep)),
    ?_, (Dev.recOther_drv _ _ _ _ _).trans rfl, rfl, rfl⟩
  exact (s.dev.toTbm_reaches _).trans_eq (congrArg TimeBases.tbm (Dev.recOther_tm (f.inc Reg.EDS_ACT_EXPIRED) pEDS [w32 a.tag] objIsChannel a.chan)).symm

/-! The obligation -/

/-- Settles O41. -/
theorem timelineAndActions : Obligations.TimelineAndActions := by
  unfold Obligations.TimelineAndActions
  intro req ch n tag a s x kept queued refused
  have hqueued {f : State → Host.Outcome State Fault Refusal} {kind : Nat} (hkind : x.kind = kind)
      (hf : f s = .next (if s.dev.stagedKind = kind then hostCmd req Reg.EDS_ACT_PUSH 1#32 actPush s else s))
      {P : State → Prop} (h : ∃ t, hostCmd req Reg.EDS_ACT_PUSH 1#32 actPush s = t ∧ P t) : ∃ t, f s = .next t ∧ P t := by
    obtain ⟨t, ht, hp⟩ := h
    exact ⟨t, hf.trans (congrArg Host.Outcome.next ((if_pos hkind).trans ht)), hp⟩
  have hother {kind other : Nat} (hkind : x.kind = kind) (hne : kind ≠ other) :
      Host.Outcome.next (if s.dev.stagedKind = other then hostCmd req Reg.EDS_ACT_PUSH 1#32 actPush s else s)
        = (.next s : Host.Outcome State Fault Refusal) := congrArg Host.Outcome.next (if_neg fun h => hne (hkind.symm.trans h))
  have hlater {kind : Nat} (hkind : x.kind = kind) (hoff : kind ≠ haOFF) (hrel : kind ≠ haRELEASE) : s.dev.actsNow x = false :=
    Dev.actsNow_later s.dev (hkind.trans_ne hoff) (hkind.trans_ne hrel)
  refine ⟨timelineSelect_selects, fun h => timelineRead_gives h n, fun h hk => ⟨fun hc => ?_, fun hc => ?_, hother hk (by decide), hother hk (by decide),
    hother hk (by decide)⟩, fun h hk => ⟨fun hc => ?_, fun hc => ?_⟩, fun h hk => ⟨fun hc hw => ?_, fun hc hn => ?_, fun hc => ?_⟩,
    fun h hk => ⟨fun hc hw => ?_, fun hc hn => ?_, fun hc => ?_⟩, actionCancel_removes, positionExpiry_ends⟩
  · exact hqueued (f := exec (.actionOn req)) hk rfl (push_queued h hc (hlater hk (by decide) (by decide)))
  · exact hqueued (f := exec (.actionOn req)) hk rfl (push_refused h hc)
  · exact hqueued (f := exec (.actionRate req)) hk rfl (push_queued h hc (hlater hk (by decide) (by decide)))
  · exact hqueued (f := exec (.actionRate req)) hk rfl (push_refused h hc)
  · exact hqueued (f := exec (.actionOff req)) hk rfl (push_queued h hc hw)
  · exact hqueued (f := exec (.actionOff req)) hk rfl (push_offNow h hk hc hn)
  · exact hqueued (f := exec (.actionOff req)) hk rfl (push_refused h hc)
  · exact hqueued (f := exec (.actionRelease req)) hk rfl (push_queued h hc hw)
  · exact hqueued (f := exec (.actionRelease req)) hk rfl (push_releaseNow h hk hc hn)
  · exact hqueued (f := exec (.actionRelease req)) hk rfl (push_refused h hc)

end Sys2Proof.Machine
end

section
/-! PROOFS. The CAN ports (R472 to R476). -/
namespace Sys2Proof.Machine

/-! A port's own state -/

theorem Dev.can_of_net {d e : Dev} (h : e.net = d.net) (q : Nat) : e.can q = d.can q := congrArg (fun n => sget (fun _ => ({} : CanPort)) (Net.can n) q) h

theorem CanPort.slot_modSlot_same (c : CanPort) (j : Nat) (f : CtxSlot → CtxSlot) : (c.modSlot j f).slot j = f (c.slot j) := sget_sset_same _ _ _ _

/-- What the commands of a CAN port keep. -/
def KeptBesideCan (p : Nat) (u t : State) : Prop :=
  t.ldg = u.ldg ∧ t.rcd = u.rcd ∧ t.pending = u.pending ∧ t.dev.drv = u.dev.drv ∧ ∀ q, q ≠ p → t.dev.can q = u.dev.can q

/-! What a frame does besides its way to the host (R121, R452, R473) -/

/-- A view that says nothing of the pose. -/
def ForgetsPose (blank : Dev → Dev) : Prop := ∀ (d : Dev) (x : PoseEngine), blank { d with pose := x } = blank d

theorem Dev.SameBut.pose {blank : Dev → Dev} {d e : Dev} (hb : ForgetsPose blank) (h : Dev.SameBut blank d e) (x : PoseEngine) :
    Dev.SameBut blank d { e with pose := x } := h.trans (hb { e with regs := [] } x)

/-- The register words of a submitted sample. -/
def sampleWords : List Nat := [Reg.POSE_POSE_ACC_CNT, Reg.POSE_POSE_REF_CNT, Reg.POSE_LAST_REFUSE, Reg.IRQ_RAW pPOSE]

/-- A part with another pose and other words of submitted samples. -/
def Dev.PoseOnly (d e : Dev) : Prop := (∀ blank, ForgetsPose blank → Dev.SameBut blank d e) ∧ Dev.RdKept sampleWords d e

theorem Dev.PoseOnly.refl (d : Dev) : Dev.PoseOnly d d := ⟨fun _ _ => Dev.SameBut.refl _ d, Dev.RdKept.refl _ d⟩

theorem Dev.PoseOnly.ofPose (d : Dev) (x : PoseEngine) : Dev.PoseOnly d { d with pose := x } :=
  ⟨fun _ hb => (Dev.SameBut.refl _ d).pose hb x, (Dev.RdKept.refl _ d).struct rfl⟩

theorem Dev.submit_poseOnly (d : Dev) (x : Sample) (i : SampleInfo) : Dev.PoseOnly d (d.submit x i) := by
  by_cases h : d.sampleCode x i = 0
  · obtain ⟨y, hy, -, -, -⟩ := Dev.submit_taken h
    rw [hy]
    exact ⟨fun _ hb => ((Dev.SameBut.refl _ d).pose hb y).wr _ _, ((Dev.RdKept.refl _ d).struct (e' := { d with pose := y }) rfl).wr (by decide) _⟩
  · rw [Dev.submit_refused h]
    exact ⟨fun blank _ => (((Dev.SameBut.refl blank d).wr _ _).wr _ _).irq _ _, (d.sampleRefused_rdKept _).mono (by decide)⟩

theorem Dev.canFixFrame_poseOnly (d : Dev) (bs : List Byte) : Dev.PoseOnly d (d.canFixFrame bs) := by
  unfold Dev.canFixFrame
  extract_lets sq k
  split
  · exact .ofPose d _
  · split
    · exact .refl d
    · split
      · split
        · exact .ofPose d _
        · exact .ofPose d _
      · exact .ofPose d _

/-- The course of a frame of course and speed over ground. -/
def Dev.canCourse (d : Dev) (now : Int) (bs : List Byte) : Dev :=
  if leField bs 2 2 ≥ 0xFFFD ∨ leField bs 1 1 % 4 ≠ 0 then d else { d with pose := { d.pose with canCog := some (now, hdgOfRad (leField bs 2 2)) } }

/-- A frame of course and speed over ground. -/
def Dev.canCourseSpeed (d : Dev) (now : Int) (bs : List Byte) : Dev :=
  if leField bs 4 2 ≥ 0xFFFD then d.canCourse now bs
  else { d.canCourse now bs with pose := { (d.canCourse now bs).pose with canSpd := some (now, leField bs 4 2 * 10) } }

theorem Dev.canCourse_eq (d : Dev) (now : Int) (bs : List Byte) : ∃ x, d.canCourse now bs = { d with pose := x } := by
  unfold Dev.canCourse
  split <;> exact ⟨_, rfl⟩

theorem Dev.canCourseSpeed_poseOnly (d : Dev) (now : Int) (bs : List Byte) : Dev.PoseOnly d (d.canCourseSpeed now bs) := by
  obtain ⟨x, hx⟩ := d.canCourse_eq now bs
  unfold Dev.canCourseSpeed
  rw [hx]
  split <;> exact .ofPose d _

theorem Dev.canPose_poseOnly (d : Dev) (src : Nat) (f : CanFrame) : Dev.PoseOnly d (d.canPose src f) := by
  unfold Dev.canPose
  extract_lets now bs pgn
  refine iteInduction (motive := Dev.PoseOnly d) (fun _ => .refl d) fun _ => ?_
  refine iteInduction (motive := Dev.PoseOnly d) (fun _ => ?_) fun _ => ?_
  · exact iteInduction (motive := Dev.PoseOnly d) (fun _ => .refl d) fun _ => Dev.submit_poseOnly d _ _
  refine iteInduction (motive := Dev.PoseOnly d) (fun _ => ?_) fun _ => ?_
  · exact iteInduction (motive := Dev.PoseOnly d) (fun _ => .refl d) fun _ => .ofPose d _
  refine iteInduction (motive := Dev.PoseOnly d) (fun _ => d.canCourseSpeed_poseOnly now bs) fun _ => ?_
  refine iteInduction (motive := Dev.PoseOnly d) (fun _ => ?_) fun _ => ?_
  · exact iteInduction (motive := Dev.PoseOnly d) (fun _ => .refl d) fun _ => .ofPose d _
  exact iteInduction (motive := Dev.PoseOnly d) (fun _ => d.canFixFrame_poseOnly bs) fun _ => .refl d

/-- POSE takes the frame. -/
def Dev.canPosed (d : Dev) (p : Nat) (f : CanFrame) (act : W32) : Dev :=
  if bitOf act 1 && d.rdN Reg.POSE_POSE_SRC = p + 1 then (d.inc (Reg.CAN_POSE_CNT p)).canPose (p + 1) f else d

/-- The frame wakes the module. -/
def Dev.canWoken (d : Dev) (p : Nat) (act : W32) : Dev := if bitOf act 2 && d.powerState = 1 then d.wakeBy (3 + p) else d

/-- What the frame does besides its way to the host. -/
def Dev.canRest (d : Dev) (p : Nat) (f : CanFrame) (act : W32) : Dev := (d.canPosed p f act).canWoken p act

/-- The register words of what the frame does besides. -/
def canRestWords (p : Nat) : List Nat := Reg.CAN_POSE_CNT p :: sampleWords

theorem Dev.canWoken_eq (d : Dev) (p : Nat) (act : W32) : ∃ x, d.canWoken p act = { d with pow := x } := by
  unfold Dev.canWoken Dev.wakeBy
  split
  · split <;> exact ⟨_, rfl⟩
  · exact ⟨d.pow, rfl⟩

theorem Dev.canRest_rdKept (d : Dev) (p : Nat) (f : CanFrame) (act : W32) : Dev.RdKept (canRestWords p) d (d.canRest p f act) := by
  obtain ⟨x, hx⟩ := (d.canPosed p f act).canWoken_eq p act
  have hposed : Dev.RdKept (canRestWords p) d (d.canPosed p f act) := by
    unfold Dev.canPosed
    split
    · exact ((Dev.RdKept.refl _ d).wr (by simp [canRestWords]) _).trans ((Dev.canPose_poseOnly _ _ f).2.mono fun a ha => List.mem_cons_of_mem _ ha)
    · exact Dev.RdKept.refl _ d
  exact hposed.struct ((congrArg Dev.regs hx).trans rfl)

theorem Dev.canRest_sameBut {blank : Dev → Dev} (hp : ForgetsPose blank) (hw : ForgetsPow blank) (d : Dev) (p : Nat) (f : CanFrame) (act : W32) :
    Dev.SameBut blank d (d.canRest p f act) := by
  obtain ⟨x, hx⟩ := (d.canPosed p f act).canWoken_eq p act
  have hposed : Dev.SameBut blank d (d.canPosed p f act) := by
    unfold Dev.canPosed
    split
    · exact ((Dev.SameBut.refl _ d).wr _ _).trans ((Dev.canPose_poseOnly _ _ f).1 _ hp)
    · exact Dev.SameBut.refl _ d
  refine hposed.trans ?_
  unfold Dev.SameBut Dev.canRest
  rw [hx]
  exact hw { d.canPosed p f act with regs := [] } x

/-! A frame received (R473, R474) -/

theorem Dev.canFilter_lt {d : Dev} {p i : Nat} {f : CanFrame} (h : d.canFilter p f = some i) : i < 32 :=
  List.mem_range.mp (List.mem_of_find?_eq_some h)

theorem exec_canFrameReceive {port : Fin 2} {frame : CanFrame} {s : State} (hon : s.dev.canOn port = true) (hbus : (s.dev.can port).busOff = false) :
    exec (.canFrameReceive port frame) s = .next (onDev (·.canReceive port frame) s) :=
  congrArg Host.Outcome.next (onDev_congr (f := fun d => if d.canOn port && !(d.can port).busOff then d.canReceive port frame else d)
    (if_pos (by rw [hon, hbus]; rfl)))

theorem Dev.canReceive_host {d : Dev} {p i : Nat} {f : CanFrame} (hrem : f.remote = false) (hfd : f.fdf = true → d.bit (Reg.CAN_CAN_CFG p) 1 = true)
    (hfilt : d.canFilter p f = some i) (hact : d.bit (Reg.CAN_FILT_ACT p i) 0 = true) :
    d.canReceive p f = ((d.inc (Reg.CAN_FILT_HITS p i)).canToHost p f i).canRest p f (d.rd (Reg.CAN_FILT_ACT p i)) := by
  have hgo : ¬(f.remote || (f.fdf && !d.bit (Reg.CAN_CAN_CFG p) 1)) = true := by
    rw [hrem]
    cases hf : f.fdf
    · simp
    · simp [hfd hf]
  have hact' : bitOf (d.rd (Reg.CAN_FILT_ACT p i)) 0 = true := hact
  unfold Dev.canReceive
  rw [if_neg hgo, hfilt]
  change (if bitOf (d.rd (Reg.CAN_FILT_ACT p i)) 0 = true then (d.inc (Reg.CAN_FILT_HITS p i)).canToHost p f i
    else d.inc (Reg.CAN_FILT_HITS p i)).canRest p f (d.rd (Reg.CAN_FILT_ACT p i)) = _
  rw [if_pos hact']

/-- The port's FIFO with an entry more. -/
def Dev.canQueued (d : Dev) (p : Nat) (ws : List W32) : Dev := d.modCan p (fun c => { c with rx := c.rx ++ ws })

theorem Dev.canToHost_room {d : Dev} {p : Nat} (f : CanFrame) (filt : Nat) (h : entriesIn 20 (d.can p).rx < 64) :
    d.canToHost p f filt = ((d.canQueued p (rxEntry f filt d.tbs)).wrN (Reg.CAN_RX_LEVEL p)
      (entriesIn 20 ((d.canQueued p (rxEntry f filt d.tbs)).can p).rx)).irq (pCAN p) 16 := if_neg (by omega)

theorem Dev.canToHost_full {d : Dev} {p : Nat} (f : CanFrame) (filt : Nat) (h : 64 ≤ entriesIn 20 (d.can p).rx) :
    d.canToHost p f filt = (d.incSat (Reg.CAN_RX_DROP p)).fault (pCAN p) 17 := if_pos h

/-- The words of a CAN port that a received frame changes on its way to the host. -/
def canHostWords (p : Nat) : List Nat := [Reg.CAN_RX_LEVEL p, Reg.CAN_RX_DROP p, Reg.IRQ_RAW (pCAN p), Reg.FAULT (pCAN p)]

theorem canWords_apart {p i : Nat} (hp : p < 2) (hi : i < 32) : Reg.CAN_FILT_HITS p i ∉ canHostWords p ∧ Reg.CAN_FILT_HITS p i ∉ canRestWords p := by
  simp only [canHostWords, canRestWords, sampleWords, List.mem_cons, List.not_mem_nil, or_false, Reg.CAN_FILT_HITS, Reg.CAN_RX_LEVEL, Reg.CAN_RX_DROP,
    Reg.IRQ_RAW, Reg.FAULT, pCAN, Reg.CAN_POSE_CNT, Reg.POSE_POSE_ACC_CNT, Reg.POSE_POSE_REF_CNT, Reg.POSE_LAST_REFUSE, pPOSE]
  omega

theorem canHostWords_apart : ∀ p < 2, ∀ a ∈ canHostWords p, a ∉ canRestWords p := by decide

theorem Dev.canToHost_rdKept (d : Dev) (p : Nat) (f : CanFrame) (filt : Nat) : Dev.RdKept (canHostWords p) d (d.canToHost p f filt) := by
  rcases Nat.lt_or_ge (entriesIn 20 (d.can p).rx) 64 with h | h
  · rw [Dev.canToHost_room f filt h]
    exact (((Dev.RdKept.refl _ d).struct (e' := d.canQueued p (rxEntry f filt d.tbs)) rfl).wr (by simp [canHostWords]) _).irq
      (by simp [canHostWords]) 16
  · rw [Dev.canToHost_full f filt h]
    exact ((Dev.RdKept.refl _ d).wr (by simp [canHostWords]) _).fault (by simp [canHostWords]) (by simp [canHostWords]) 17

theorem Dev.canRest_net (d : Dev) (p : Nat) (f : CanFrame) (act : W32) : (d.canRest p f act).net = d.net :=
  (d.canRest_sameBut (blank := fun d => { d with pose := {}, pow := {} }) (fun _ _ => rfl) (fun _ _ => rfl) p f act).proj (·.net) (fun _ => rfl)

theorem Dev.canRest_drv (d : Dev) (p : Nat) (f : CanFrame) (act : W32) : (d.canRest p f act).drv = d.drv :=
  (d.canRest_sameBut (blank := fun d => { d with pose := {}, pow := {} }) (fun _ _ => rfl) (fun _ _ => rfl) p f act).proj (·.drv) (fun _ => rfl)

section
variable {port : Fin 2} {frame : CanFrame} {i : Nat} {s : State} (hon : s.dev.canOn port = true) (hbus : (s.dev.can port).busOff = false)
  (hrem : frame.remote = false) (hfd : frame.fdf = true → s.dev.bit (Reg.CAN_CAN_CFG port) 1 = true) (hfilt : s.dev.canFilter port frame = some i)
  (hact : s.dev.bit (Reg.CAN_FILT_ACT port i) 0 = true)
include hon hbus hrem hfd hfilt hact

/-- The frame counted at its filter. -/
theorem exec_canFrameReceive_host : exec (.canFrameReceive port frame) s
    = .next (onDev (fun d => ((d.inc (Reg.CAN_FILT_HITS port i)).canToHost port frame i).canRest port frame (d.rd (Reg.CAN_FILT_ACT port i))) s) := by
  rw [exec_canFrameReceive hon hbus]
  exact congrArg Host.Outcome.next (onDev_congr (f := (·.canReceive port frame)) (Dev.canReceive_host hrem hfd hfilt hact))

theorem canFrameReceive_queued (hroom : entriesIn 20 (s.dev.can port).rx < 64) :
    ∃ t, exec (.canFrameReceive port frame) s = .next t
      ∧ t.dev.can port = { s.dev.can port with rx := (s.dev.can port).rx ++ rxEntry frame i s.dev.tbs }
      ∧ t.dev.rd (Reg.CAN_FILT_HITS port i) = s.dev.rd (Reg.CAN_FILT_HITS port i) + 1#32 ∧ t.dev.bit (Reg.IRQ_RAW (pCAN port)) 16 = true
      ∧ KeptBesideCan port s t := by
  let d := s.dev.inc (Reg.CAN_FILT_HITS port i)
  let e := d.canToHost port frame i
  let q := d.canQueued port (rxEntry frame i d.tbs)
  have he : e = (q.wrN (Reg.CAN_RX_LEVEL port) (entriesIn 20 (q.can port).rx)).irq (pCAN port) 16 := Dev.canToHost_room frame i hroom
  have hnet : (e.canRest port frame (s.dev.rd (Reg.CAN_FILT_ACT port i))).net = q.net := (e.canRest_net _ _ _).trans ((congrArg Dev.net he).trans rfl)
  obtain ⟨hhost, hrest⟩ := canWords_apart port.isLt (Dev.canFilter_lt hfilt)
  refine ⟨_, exec_canFrameReceive_host hon hbus hrem hfd hfilt hact, ?_, ?_, ?_, rfl, rfl, rfl, ?_, fun j hj => ?_⟩
  · exact (Dev.can_of_net hnet port).trans (Dev.can_modCan_same d port _)
  · exact (e.canRest_rdKept port frame _ _ hrest).trans ((d.canToHost_rdKept port frame i _ hhost).trans (Dev.rd_wr_same s.dev _ _))
  · refine ((e.canRest_rdKept port frame _).bit (canHostWords_apart port port.isLt _ (by simp [canHostWords])) 16).trans ?_
    rw [he]
    exact Dev.bit_irq_same _ (pCAN port) (by decide)
  · exact (e.canRest_drv _ _ _).trans ((congrArg Dev.drv he).trans rfl)
  · exact (Dev.can_of_net hnet j).trans (Dev.can_modCan_ne d _ hj)

theorem canFrameReceive_dropped (hfull : 64 ≤ entriesIn 20 (s.dev.can port).rx) :
    ∃ t, exec (.canFrameReceive port frame) s = .next t ∧ t.dev.can port = s.dev.can port
      ∧ t.dev.rd (Reg.CAN_RX_DROP port) = sat32 (s.dev.rdN (Reg.CAN_RX_DROP port) + 1) ∧ t.dev.bit (Reg.FAULT (pCAN port)) 17 = true
      ∧ KeptBesideCan port s t := by
  let d := s.dev.inc (Reg.CAN_FILT_HITS port i)
  let e := d.canToHost port frame i
  have he : e = (d.incSat (Reg.CAN_RX_DROP port)).fault (pCAN port) 17 := Dev.canToHost_full frame i hfull
  have hsame : Dev.SameBut id d ((d.incSat (Reg.CAN_RX_DROP port)).fault (pCAN port) 17) := ((Dev.SameBut.refl id d).wr _ _).fault _ _
  have hnet : (e.canRest port frame (s.dev.rd (Reg.CAN_FILT_ACT port i))).net = s.dev.net :=
    (e.canRest_net _ _ _).trans ((congrArg Dev.net he).trans (hsame.proj (·.net) (fun _ => rfl)))
  have hapart := canHostWords_apart port port.isLt
  obtain ⟨hhost, -⟩ := canWords_apart port.isLt (Dev.canFilter_lt hfilt)
  have hdrop : Reg.CAN_RX_DROP port ≠ Reg.FAULT (pCAN port) ∧ Reg.CAN_RX_DROP port ≠ Reg.IRQ_RAW (pCAN port) := by
    simp only [Reg.CAN_RX_DROP, Reg.FAULT, Reg.IRQ_RAW, pCAN]
    omega
  have hcount : d.rd (Reg.CAN_RX_DROP port) = s.dev.rd (Reg.CAN_RX_DROP port) :=
    Dev.rd_wr_ne s.dev _ (fun h => hhost (h ▸ by simp [canHostWords]))
  refine ⟨_, exec_canFrameReceive_host hon hbus hrem hfd hfilt hact, Dev.can_of_net hnet port, ?_, ?_, rfl, rfl, rfl, ?_,
    fun j _ => Dev.can_of_net hnet j⟩
  · refine (e.canRest_rdKept port frame _ _ (hapart _ (by simp [canHostWords]))).trans ?_
    rw [he]
    refine (Dev.rd_fault_ne _ (pCAN port) 17 hdrop.1 hdrop.2).trans ((Dev.rd_wr_same d _ _).trans ?_)
    exact congrArg (fun w => sat32 (BitVec.toNat w + 1)) hcount
  · refine ((e.canRest_rdKept port frame _).bit (hapart _ (by simp [canHostWords])) 17).trans ?_
    rw [he]
    exact (Dev.fault_spec _ (pCAN port) 17 (by decide)).1
  · exact (e.canRest_drv _ _ _).trans ((congrArg Dev.drv he).trans (hsame.proj (·.drv) (fun _ => rfl)))
end

theorem canFrameReceive_not {port : Fin 2} {frame : CanFrame} {s : State}
    (h : s.dev.canOn port = false ∨ (s.dev.can port).busOff = true ∨ frame.remote = true ∨ s.dev.canFilter port frame = none) :
    exec (.canFrameReceive port frame) s = .next s := by
  have hrec (h : frame.remote = true ∨ s.dev.canFilter port frame = none) : s.dev.canReceive port frame = s.dev := by
    unfold Dev.canReceive
    split
    · rfl
    next hgo =>
      rcases h with h | h
      · simp [h] at hgo
      · rw [h]
  refine congrArg Host.Outcome.next ((onDev_congr (f := fun d => if d.canOn port && !(d.can port).busOff then d.canReceive port frame else d) (g := id) ?_).trans rfl)
  rcases h with h | h | h
  · exact if_neg (by simp [h])
  · exact if_neg (by simp [h])
  · by_cases hgo : (s.dev.canOn port && !(s.dev.can port).busOff) = true
    · exact (if_pos hgo).trans (hrec h)
    · exact if_neg hgo

/-! The bus off and back (R472) -/

/-- The port silent. -/
def Dev.canSilent (d : Dev) (p : Nat) : Dev := (d.modCan p (fun c => { c with busOff := true })).setFld (Reg.STATUS (pCAN p)) 17 16 2

/-- CAN_BUS_OFF. -/
def Dev.canBusGone (d : Dev) (p : Nat) : Dev :=
  (((d.canSilent p).inc (Reg.CAN_BUSOFF_CNT p)).setFld (Reg.CAN_ERR_CNT p) 7 0 255).irq (pCAN p) 17 |>.faultRec (pCAN p) 16

theorem exec_canBusOff {port : Fin 2} {s : State} (hon : s.dev.canOn port = true) (hbus : (s.dev.can port).busOff = false) :
    exec (.canBusOff port) s = .next (onDev (·.canBusGone port) s) :=
  congrArg Host.Outcome.next (onDev_congr (f := fun d => if d.canOn port && !(d.can port).busOff then d.canBusGone port else d)
    (if_pos (by rw [hon, hbus]; rfl)))

theorem canBusOff_not {port : Fin 2} {s : State} (h : s.dev.canOn port = false ∨ (s.dev.can port).busOff = true) :
    exec (.canBusOff port) s = .next s :=
  congrArg Host.Outcome.next ((onDev_congr (f := fun d => if d.canOn port && !(d.can port).busOff then d.canBusGone port else d) (g := id)
    (if_neg (by rcases h with h | h <;> simp [h]))).trans rfl)

theorem Dev.canBusGone_spec (d : Dev) {p : Nat} (hp : p < 2) : (d.canBusGone p).fld (Reg.STATUS (pCAN p)) 17 16 = 2
    ∧ (d.canBusGone p).rd (Reg.CAN_BUSOFF_CNT p) = d.rd (Reg.CAN_BUSOFF_CNT p) + 1#32 ∧ (d.canBusGone p).bit (Reg.FAULT (pCAN p)) 16 = true
    ∧ (d.canBusGone p).bit (Reg.IRQ_RAW (pCAN p)) 17 = true := by
  let a := d.canSilent p
  let b := a.inc (Reg.CAN_BUSOFF_CNT p)
  let c := b.setFld (Reg.CAN_ERR_CNT p) 7 0 255
  let e := c.irq (pCAN p) 17
  have hkept : Dev.RdKept [Reg.FAULT (pCAN p), Reg.IRQ_RAW (pCAN p), Reg.REC_SUPP_TOTAL] e (d.canBusGone p) :=
    (Dev.RdKept.refl _ e).faultRec (by simp) (by simp) (by simp) 16 _ _ _
  have hstat : Reg.STATUS (pCAN p) ∉ [Reg.FAULT (pCAN p), Reg.IRQ_RAW (pCAN p), Reg.REC_SUPP_TOTAL]
      ∧ Reg.STATUS (pCAN p) ≠ Reg.CAN_ERR_CNT p ∧ Reg.STATUS (pCAN p) ≠ Reg.CAN_BUSOFF_CNT p := by
    simp only [List.mem_cons, List.not_mem_nil, or_false, Reg.STATUS, Reg.FAULT, Reg.IRQ_RAW, Reg.REC_SUPP_TOTAL, pCAN, Reg.CAN_ERR_CNT, Reg.CAN_BUSOFF_CNT]
    omega
  have hcnt : Reg.CAN_BUSOFF_CNT p ∉ [Reg.FAULT (pCAN p), Reg.IRQ_RAW (pCAN p), Reg.REC_SUPP_TOTAL]
      ∧ Reg.CAN_BUSOFF_CNT p ≠ Reg.CAN_ERR_CNT p ∧ Reg.CAN_BUSOFF_CNT p ≠ Reg.STATUS (pCAN p) := by
    simp only [List.mem_cons, List.not_mem_nil, or_false, Reg.STATUS, Reg.FAULT, Reg.IRQ_RAW, Reg.REC_SUPP_TOTAL, pCAN, Reg.CAN_ERR_CNT, Reg.CAN_BUSOFF_CNT]
    omega
  obtain ⟨hs, hs1, hs2⟩ := hstat
  obtain ⟨hc, hc1, hc2⟩ := hcnt
  refine ⟨?_, ?_, ?_, ?_⟩
  · have hrd : (d.canBusGone p).rd (Reg.STATUS (pCAN p)) = a.rd (Reg.STATUS (pCAN p)) := by
      refine (hkept _ hs).trans ((Dev.rd_irq_ne c (pCAN p) 17 (fun h => hs (by simp [h]))).trans ?_)
      exact (Dev.rd_setFld_ne b 7 0 255 hs1).trans (Dev.rd_wr_ne a _ hs2)
    exact (congrArg (field · 17 16) hrd).trans
      (Dev.fld_setFld_same (d.modCan p (fun c => { c with busOff := true })) (Reg.STATUS (pCAN p)) 16 2 (by decide : 17 < 32))
  · refine (hkept _ hc).trans ((Dev.rd_irq_ne c (pCAN p) 17 (fun h => hc (by simp [h]))).trans ?_)
    refine (Dev.rd_setFld_ne b 7 0 255 hc1).trans ((Dev.rd_wr_same a _ _).trans ?_)
    exact congrArg (· + 1#32) (Dev.rd_setFld_ne (d.modCan p (fun c => { c with busOff := true })) 17 16 2 hc2)
  · exact Dev.bit_faultRec e (pCAN p) (by decide)
  · have hsupp : Reg.IRQ_RAW (pCAN p) ≠ Reg.REC_SUPP_TOTAL := by
      simp only [Reg.IRQ_RAW, Reg.REC_SUPP_TOTAL, pCAN]
      omega
    exact (congrArg (bitOf · 17) (Dev.rd_emit_ne (e.fault (pCAN p) 16) _ hsupp)).trans
      (Dev.bit_fault_true e (by decide) (by decide) (Dev.bit_irq_same c (pCAN p) (by decide)))

theorem Dev.canBusGone_sameBut {blank : Dev → Dev} (hr : ForgetsRcf blank) (d : Dev) (p : Nat) :
    Dev.SameBut blank (d.modCan p (fun c => { c with busOff := true })) (d.canBusGone p) :=
  (((((Dev.SameBut.refl _ _).setFld _ _ _ _).wr _ _).setFld _ _ _ _).irq _ _).faultRec hr _ _ _ _ _

theorem canBusOff_silences {port : Fin 2} {s : State} (hon : s.dev.canOn port = true) (hbus : (s.dev.can port).busOff = false) :
    ∃ t, exec (.canBusOff port) s = .next t ∧ t.dev.can port = { s.dev.can port with busOff := true } ∧ t.dev.fld (Reg.STATUS (pCAN port)) 17 16 = 2
      ∧ t.dev.rd (Reg.CAN_BUSOFF_CNT port) = s.dev.rd (Reg.CAN_BUSOFF_CNT port) + 1#32 ∧ t.dev.bit (Reg.FAULT (pCAN port)) 16 = true
      ∧ t.dev.bit (Reg.IRQ_RAW (pCAN port)) 17 = true ∧ KeptBesideCan port s t := by
  have hsame := s.dev.canBusGone_sameBut (blank := fun d => { d with rcf := {} }) (fun _ _ => rfl) port
  have hnet : (s.dev.canBusGone port).net = (s.dev.modCan port (fun c => { c with busOff := true })).net := hsame.proj (·.net) (fun _ => rfl)
  obtain ⟨hstat, hcnt, hfault, hirq⟩ := s.dev.canBusGone_spec port.isLt
  exact ⟨_, exec_canBusOff hon hbus, (Dev.can_of_net hnet port).trans (Dev.can_modCan_same s.dev port _), hstat, hcnt, hfault, hirq, rfl, rfl, rfl,
    (hsame.proj (·.drv) (fun _ => rfl)).trans rfl, fun j hj => (Dev.can_of_net hnet j).trans (Dev.can_modCan_ne s.dev _ hj)⟩

/-- A port error active again; its slots send their latest values from now on. -/
def CanPort.active (now : Nat) (c : CanPort) : CanPort :=
  { c with busOff := false, slots := c.slots.map (fun e => (e.1, if e.2.ready.isSome then { e.2 with sentAt := some now } else e.2)) }

/-- CAN_BUS_RECOVERY. -/
def Dev.canBusBack (d : Dev) (p : Nat) : Dev :=
  (((d.modCan p (CanPort.active d.tm.tbm)).setFld (Reg.STATUS (pCAN p)) 17 16 0).wr (Reg.CAN_ERR_CNT p) 0).irq (pCAN p) 17

theorem exec_canBusRecovery {port : Fin 2} {s : State} (hbus : (s.dev.can port).busOff = true) :
    exec (.canBusRecovery port) s = .next (onDev (·.canBusBack port) s) :=
  congrArg Host.Outcome.next (onDev_congr (f := fun d => if (d.can port).busOff then d.canBusBack port else d) (if_pos hbus))

theorem canBusRecovery_not {port : Fin 2} {s : State} (hbus : (s.dev.can port).busOff = false) : exec (.canBusRecovery port) s = .next s :=
  congrArg Host.Outcome.next ((onDev_congr (f := fun d => if (d.can port).busOff then d.canBusBack port else d) (g := id)
    (if_neg (by simp [hbus]))).trans rfl)

theorem canBusRecovery_active {port : Fin 2} {s : State} (hbus : (s.dev.can port).busOff = true) :
    ∃ t, exec (.canBusRecovery port) s = .next t ∧ (t.dev.can port).busOff = false ∧ (t.dev.can port).queue = (s.dev.can port).queue
      ∧ (t.dev.can port).rx = (s.dev.can port).rx ∧ t.dev.fld (Reg.STATUS (pCAN port)) 17 16 = 0 ∧ t.dev.rd (Reg.CAN_ERR_CNT port) = 0#32
      ∧ KeptBesideCan port s t ∧ differOnly (fun d => { d with net := {} }) s t := by
  let a := s.dev.modCan port (CanPort.active s.dev.tm.tbm)
  let b := a.setFld (Reg.STATUS (pCAN port)) 17 16 0
  let c := b.wr (Reg.CAN_ERR_CNT port) 0
  have hcan : (s.dev.canBusBack port).can port = CanPort.active s.dev.tm.tbm (s.dev.can port) := Dev.can_modCan_same s.dev port _
  have hirq : Reg.STATUS (pCAN port) ≠ Reg.IRQ_RAW (pCAN port) ∧ Reg.CAN_ERR_CNT port ≠ Reg.IRQ_RAW (pCAN port)
      ∧ Reg.STATUS (pCAN port) ≠ Reg.CAN_ERR_CNT port := by
    simp only [Reg.STATUS, Reg.IRQ_RAW, pCAN, Reg.CAN_ERR_CNT]
    omega
  obtain ⟨hstat, herr, hne⟩ := hirq
  refine ⟨_, exec_canBusRecovery hbus, congrArg CanPort.busOff hcan, (congrArg CanPort.queue hcan).trans rfl, (congrArg CanPort.rx hcan).trans rfl, ?_, ?_,
    ⟨rfl, rfl, rfl, rfl, fun j hj => Dev.can_modCan_ne s.dev _ hj⟩, rfl, rfl, rfl, rfl⟩
  · exact (congrArg (field · 17 16) ((Dev.rd_irq_ne c (pCAN port) 17 hstat).trans (Dev.rd_wr_ne b _ hne))).trans
      (Dev.fld_setFld_same a (Reg.STATUS (pCAN port)) 16 0 (by decide : 17 < 32))
  · exact (Dev.rd_irq_ne c (pCAN port) 17 herr).trans (Dev.rd_wr_same b _ _)

/-! The host's frames (R475) -/

/-- The frame of the words written. -/
def canFrameOf (ws : List W32) : TxFrame :=
  { w0 := ws.getD 0 0, w1 := ws.getD 1 0, data := ((ws.drop 2).flatMap bytesBE).take (frameBytes (bitOf (ws.getD 0 0) 30) (field (ws.getD 1 0) 3 0)) }

/-- The frame of the words written, queued. -/
def CanPort.pushed (c : CanPort) : CanPort := { c with tx := [], queue := c.queue ++ [canFrameOf c.tx] }

/-- The words written gone. -/
def CanPort.emptied (c : CanPort) : CanPort := { c with tx := [] }

/-- A port's transmit level shown. -/
def Dev.canTxShown (d : Dev) (p : Nat) : Dev := d.wrN (Reg.CAN_TX_LEVEL p) (d.can p).queue.length

/-- TX_PUSH of an accepted frame. -/
def Dev.canTaken (d : Dev) (p : Nat) : Dev := (d.modCan p CanPort.pushed).canTxShown p

theorem actCanPush_takes {p : Nat} {s : State} (h : s.dev.canPushOk p = true) : actCanPush p s = (.ok, onDev (·.canTaken p) s) := if_pos h

theorem actCanPush_refuses {p : Nat} {s : State} (h : s.dev.canPushOk p = false) :
    actCanPush p s = (.len, onDev (fun d => (d.modCan p CanPort.emptied).lenReject (pCAN p)) s) := if_neg (Bool.eq_false_iff.mp h)

/-- The networks and what an access leaves, aside. -/
def forgetNet (d : Dev) : Dev := { d with net := {}, fab := {}, pow := {} }

theorem keptBesideCan_of {p : Nat} {u t : State} (h : differOnly forgetNet u t) (hcan : ∀ q, q ≠ p → t.dev.can q = u.dev.can q) : KeptBesideCan p u t :=
  ⟨h.2.1, h.2.2.1, h.2.2.2, h.proj (·.drv) (fun _ => rfl), hcan⟩

theorem Dev.canTaken_level (d : Dev) {p : Nat} (h : d.canPushOk p = true) :
    (d.canTaken p).rdN (Reg.CAN_TX_LEVEL p) = (d.can p).queue.length + 1 := by
  have hroom : (d.can p).queue.length < 16 := by
    unfold Dev.canPushOk at h
    simp only [Bool.and_eq_true, decide_eq_true_eq] at h
    exact h.2
  have hcan : (d.modCan p CanPort.pushed).can p = (d.can p).pushed := Dev.can_modCan_same d p _
  have hlen : ((d.modCan p CanPort.pushed).can p).queue.length = (d.can p).queue.length + 1 := by
    rw [hcan]
    exact List.length_append
  refine (congrArg BitVec.toNat (Dev.rd_wr_same (d.modCan p CanPort.pushed) (Reg.CAN_TX_LEVEL p) _)).trans ?_
  rw [hlen]
  exact Nat.mod_eq_of_lt (by omega)

theorem canTxPush_takes {req : Requester} {port : Fin 2} {u : State} (h : Accepts req (Reg.CAN_TX_PUSH port) 0#32 u)
    (hok : u.dev.canPushOk port = true) :
    ∃ t, hostCmd req (Reg.CAN_TX_PUSH port) 0#32 (actCanPush port) u = t ∧ answerTo req t = ⟨.ok, 1, []⟩
      ∧ t.dev.can port = { u.dev.can port with tx := [], queue := (u.dev.can port).queue ++ [canFrameOf (u.dev.can port).tx] }
      ∧ t.dev.rdN (Reg.CAN_TX_LEVEL port) = (u.dev.can port).queue.length + 1 ∧ KeptBesideCan port u t ∧ regsKept [Reg.CAN_TX_LEVEL port] u t := by
  obtain ⟨k, hk⟩ := hostCmd_acts h (t := fun k => onDev (·.canTaken port) (u.woken k)) fun k => actCanPush_takes (s := u.woken k) hok
  let v := onDev (·.canTaken port) (u.woken k)
  have hnet : (answeredOk req (Reg.CAN_TX_PUSH port) v).dev.net = ((u.woken k).dev.modCan port CanPort.pushed).net := rfl
  refine ⟨_, hk, answerTo_answeredOk _ _ _, (Dev.can_of_net hnet port).trans (Dev.can_modCan_same (u.woken k).dev port _), ?_,
    keptBesideCan_of (answeredOk_differOnly (blank := forgetNet) (fun _ _ => rfl) (fun _ _ => rfl) _ _ _ fun _ => rfl) (fun j hj => ?_),
    answeredOk_regsKept _ _ _ fun d => ((Dev.RdKept.refl _ d).struct (e' := d.modCan port CanPort.pushed) rfl).wr (by simp) _⟩
  · exact (congrArg BitVec.toNat (answeredOk_rd req (Reg.CAN_TX_PUSH port) v (Reg.CAN_TX_LEVEL port))).trans ((u.woken k).dev.canTaken_level hok)
  · exact (Dev.can_of_net hnet j).trans (Dev.can_modCan_ne (u.woken k).dev _ hj)

theorem canTxPush_refuses {req : Requester} {port : Fin 2} {u : State} (h : Accepts req (Reg.CAN_TX_PUSH port) 0#32 u)
    (hok : u.dev.canPushOk port = false) :
    ∃ t, hostCmd req (Reg.CAN_TX_PUSH port) 0#32 (actCanPush port) u = t ∧ answerTo req t = ⟨.len, 0, []⟩
      ∧ t.dev.can port = { u.dev.can port with tx := [] } ∧ KeptBesideCan port u t := by
  obtain ⟨k, hk⟩ := hostCmd_lenAfter h (·.modCan port CanPort.emptied) fun k => actCanPush_refuses (s := u.woken k) hok
  let v := onDev (·.modCan port CanPort.emptied) (u.woken k)
  have hnet : (lenRefused req (Reg.CAN_TX_PUSH port) (pCAN port) v).dev.net = ((u.woken k).dev.modCan port CanPort.emptied).net :=
    lenRefused_proj (·.net) (fun _ _ _ => rfl) _ _ _ v
  exact ⟨_, hk, answerTo_lenRefused _ _ _ _, (Dev.can_of_net hnet port).trans (Dev.can_modCan_same (u.woken k).dev port _),
    keptBesideCan_of (lenRefused_after (blank := forgetNet) (fun _ _ => rfl) (fun _ _ => rfl) _ _ _ _ fun _ => rfl)
      fun j hj => (Dev.can_of_net hnet j).trans (Dev.can_modCan_ne (u.woken k).dev _ hj)⟩

/-- The first words of a port's FIFO read. -/
def CanPort.rxDropped (n : Nat) (c : CanPort) : CanPort := { c with rx := c.rx.drop n }

/-- RX_PORT of a CAN port. -/
def Dev.canRxGives (p n : Nat) (d : Dev) : List W32 × Dev :=
  ((d.can p).rx.take n, (d.modCan p (CanPort.rxDropped n)).wrN (Reg.CAN_RX_LEVEL p) (entriesIn 20 ((d.modCan p (CanPort.rxDropped n)).can p).rx))

theorem targetPage_canRx : ∀ p < 2, targetPage (Reg.CAN_RX_PORT p) = pCAN p := by decide

theorem canRxRead_gives {req : Requester} {port : Fin 2} {u : State} (h : Readable req (Reg.CAN_RX_PORT port) u) (words : Nat) :
    ∃ t, hostPort req (Reg.CAN_RX_PORT port) words (portCanRx port) u = t
      ∧ answerTo req t = ⟨.ok, ((u.dev.can port).rx.take words).length, (u.dev.can port).rx.take words⟩
      ∧ t.dev.can port = { u.dev.can port with rx := (u.dev.can port).rx.drop words } ∧ KeptBesideCan port u t
      ∧ regsKept [Reg.CAN_RX_LEVEL port, Reg.STATUS (pCAN port)] u t := by
  obtain ⟨k, hk⟩ := hostPort_dev (n := words) h (Dev.canRxGives port)
  let d := (u.woken k).dev
  obtain ⟨rs, f, hdev⟩ := portRead_dev req (Reg.CAN_RX_PORT port) words (d.canRxGives port words) (u.woken k)
  have hnet : (portRead req (Reg.CAN_RX_PORT port) words (d.canRxGives port words) (u.woken k)).dev.net = (d.modCan port (CanPort.rxDropped words)).net :=
    (congrArg Dev.net hdev).trans rfl
  have hpage : Reg.STATUS (targetPage (Reg.CAN_RX_PORT port)) ∈ [Reg.CAN_RX_LEVEL port, Reg.STATUS (pCAN port)] := by
    rw [targetPage_canRx port port.isLt]
    simp
  exact ⟨_, hk, answerTo_portRead _ _ _ _ _, (Dev.can_of_net hnet port).trans (Dev.can_modCan_same d port _),
    keptBesideCan_of (portRead_differOnly (blank := forgetNet) (fun _ _ => rfl) _ _ _ _ rfl)
      (fun j hj => (Dev.can_of_net hnet j).trans (Dev.can_modCan_ne d _ hj)),
    portRead_regsKept hpage _ _ _
      (((Dev.RdKept.refl _ d).struct (e' := d.modCan port (CanPort.rxDropped words)) rfl).wr (by simp) _)⟩

/-! Frames sent (R475, R476) -/

/-- A slot with nothing ready. -/
def CanPort.slotGone (j : Nat) (c : CanPort) : CanPort := c.modSlot j (fun x => { x with ready := none })

/-- A port without the host's oldest frame. -/
def CanPort.oldestGone (c : CanPort) : CanPort := { c with queue := c.queue.drop 1 }

/-- The frame next in line gone: a slot's, or the host's oldest. -/
def Dev.canOut (d : Dev) (p : Nat) (f : TxFrame) : Dev :=
  match f.slot with
  | some j => d.modCan p (CanPort.slotGone j)
  | none => d.modCan p CanPort.oldestGone

/-- The frame sent last. -/
def CanPort.sentLast (f : TxFrame) (c : CanPort) : CanPort := { c with sent := some f }

/-- CAN_FRAME_SENT of a frame. -/
def Dev.canSent (d : Dev) (p : Nat) (f : TxFrame) : Dev := ((d.canOut p f).modCan p (CanPort.sentLast f)).canTxShown p

/-- CAN_FRAME_SENT. -/
def Dev.canSends (d : Dev) (p : Nat) : Dev :=
  match (d.can p).nextOut with
  | none => d
  | some f => d.canSent p f

theorem exec_canFrameSent_eq (port : Fin 2) (s : State) : exec (.canFrameSent port) s
    = .next (onDev (fun d => if d.canOn port && !(d.can port).busOff && !d.bit (Reg.CAN_CAN_CFG port) 3 then d.canSends port else d) s) := rfl

theorem Dev.canSends_some {d : Dev} {p : Nat} {f : TxFrame} (h : (d.can p).nextOut = some f) : d.canSends p = d.canSent p f := by
  unfold Dev.canSends
  rw [h]

theorem Dev.canSends_none {d : Dev} {p : Nat} (h : (d.can p).nextOut = none) : d.canSends p = d := by
  unfold Dev.canSends
  rw [h]

theorem exec_canFrameSent {port : Fin 2} {f : TxFrame} {s : State} (hon : s.dev.canOn port = true) (hbus : (s.dev.can port).busOff = false)
    (hsilent : s.dev.bit (Reg.CAN_CAN_CFG port) 3 = false) (hnext : (s.dev.can port).nextOut = some f) :
    exec (.canFrameSent port) s = .next (onDev (·.canSent port f) s) :=
  (exec_canFrameSent_eq port s).trans (congrArg Host.Outcome.next
    (onDev_congr ((if_pos (by rw [hon, hbus, hsilent]; rfl)).trans (Dev.canSends_some hnext))))

theorem canFrameSent_not {port : Fin 2} {s : State} (hnext : (s.dev.can port).nextOut = none) : exec (.canFrameSent port) s = .next s := by
  refine (exec_canFrameSent_eq port s).trans (congrArg Host.Outcome.next ((onDev_congr (g := id) ?_).trans rfl))
  rw [Dev.canSends_none hnext, ite_self]
  rfl

/-- A port after the frame that went out of it. -/
def CanPort.outGone (f : TxFrame) (c : CanPort) : CanPort :=
  match f.slot with
  | some j => c.slotGone j
  | none => c.oldestGone

theorem Dev.canOut_eq (d : Dev) (p : Nat) (f : TxFrame) : d.canOut p f = d.modCan p (CanPort.outGone f) := by
  obtain ⟨slot, w0, w1, data⟩ := f
  cases slot <;> rfl

theorem Dev.canSent_can (d : Dev) (p : Nat) (f : TxFrame) : (d.canSent p f).can p = CanPort.sentLast f (CanPort.outGone f (d.can p)) := by
  refine (Dev.can_modCan_same (d.canOut p f) p _).trans (congrArg (CanPort.sentLast f) ?_)
  rw [d.canOut_eq]
  exact Dev.can_modCan_same d p _

theorem Dev.canSent_can_ne (d : Dev) {p q : Nat} (f : TxFrame) (h : q ≠ p) : (d.canSent p f).can q = d.can q := by
  refine (Dev.can_modCan_ne (d.canOut p f) _ h).trans ?_
  rw [d.canOut_eq]
  exact Dev.can_modCan_ne d _ h

theorem Dev.canSent_drv (d : Dev) (p : Nat) (f : TxFrame) : (d.canSent p f).drv = d.drv := by
  have hout : (d.canSent p f).drv = (d.canOut p f).drv := rfl
  rw [hout, d.canOut_eq]
  rfl

theorem CanPort.outGone_host {f : TxFrame} (h : f.slot = none) (c : CanPort) : c.outGone f = c.oldestGone := by
  unfold CanPort.outGone
  rw [h]

theorem CanPort.outGone_slot {f : TxFrame} {j : Nat} (h : f.slot = some j) (c : CanPort) : c.outGone f = c.slotGone j := by
  unfold CanPort.outGone
  rw [h]

theorem CanPort.outGone_rx (f : TxFrame) (c : CanPort) : (c.outGone f).rx = c.rx := by
  cases h : f.slot with
  | none => rw [CanPort.outGone_host h]; rfl
  | some j => rw [CanPort.outGone_slot h]; rfl

theorem canFrameSent_sends {port : Fin 2} {f : TxFrame} {s : State} (hon : s.dev.canOn port = true) (hbus : (s.dev.can port).busOff = false)
    (hsilent : s.dev.bit (Reg.CAN_CAN_CFG port) 3 = false) (hnext : (s.dev.can port).nextOut = some f) :
    ∃ t, exec (.canFrameSent port) s = .next t ∧ (t.dev.can port).sent = some f ∧ (t.dev.can port).rx = (s.dev.can port).rx ∧ KeptBesideCan port s t
      ∧ (f.slot = none → (t.dev.can port).queue = (s.dev.can port).queue.drop 1)
      ∧ (∀ j, f.slot = some j → (t.dev.can port).queue = (s.dev.can port).queue ∧ ((t.dev.can port).slot j).ready = none) := by
  have hcan := s.dev.canSent_can port f
  refine ⟨_, exec_canFrameSent hon hbus hsilent hnext, (congrArg CanPort.sent hcan).trans rfl, (congrArg CanPort.rx hcan).trans (CanPort.outGone_rx f _),
    ⟨rfl, rfl, rfl, s.dev.canSent_drv port f, fun j hj => s.dev.canSent_can_ne f hj⟩,
    fun hslot => (congrArg CanPort.queue hcan).trans ?_, fun j hslot => ⟨(congrArg CanPort.queue hcan).trans ?_, ?_⟩⟩
  · rw [CanPort.outGone_host hslot]
    rfl
  · rw [CanPort.outGone_slot hslot]
    rfl
  · refine (congrArg (fun c => (CanPort.slot c j).ready) hcan).trans ?_
    rw [CanPort.outGone_slot hslot]
    exact congrArg CtxSlot.ready (CanPort.slot_modSlot_same (s.dev.can port) j (fun x => { x with ready := none }))

/-! The end of a slot's period (R476) -/

/-- A slot's held value ready. -/
def Dev.slotReady (d : Dev) (p j : Nat) (f : TxFrame) : Dev :=
  d.modCan p (·.modSlot j (fun _ => { sentAt := some d.tm.tbm, ready := some f, held := none }))

/-- CANTX_PERIOD_END. -/
def Dev.slotPeriodEnds (d : Dev) (p j : Nat) : Dev :=
  match ((d.can p).slot j).held, ((d.can p).slot j).sentAt with
  | some f, some t => (d.toTbm (t + d.ctxPeriod p j)).slotReady p j f
  | _, _ => d

theorem exec_cantxPeriodEnd (port : Fin 2) (slot : Fin 8) (s : State) :
    exec (.cantxPeriodEnd port slot) s = .next (onDev (·.slotPeriodEnds port slot) s) := rfl

theorem cantxPeriodEnd_not {port : Fin 2} {slot : Fin 8} {s : State} (hheld : ((s.dev.can port).slot slot).held = none) :
    exec (.cantxPeriodEnd port slot) s = .next s := by
  rw [exec_cantxPeriodEnd]
  refine congrArg Host.Outcome.next ((onDev_congr (f := (·.slotPeriodEnds port slot)) (g := id) ?_).trans rfl)
  unfold Dev.slotPeriodEnds
  rw [hheld]
  rfl

theorem cantxPeriodEnd_ends {port : Fin 2} {slot : Fin 8} {f : TxFrame} {n : Nat} {s : State} (hheld : ((s.dev.can port).slot slot).held = some f)
    (hsent : ((s.dev.can port).slot slot).sentAt = some n) :
    ∃ t, exec (.cantxPeriodEnd port slot) s = .next t ∧ n + s.dev.ctxPeriod port slot ≤ t.dev.tm.tbm ∧ KeptBesideCan port s t
      ∧ (t.dev.can port).slot slot = { sentAt := some t.dev.tm.tbm, ready := some f, held := none } ∧ (t.dev.can port).queue = (s.dev.can port).queue
      ∧ t.dev.regs = s.dev.regs := by
  let e := s.dev.toTbm (n + s.dev.ctxPeriod port slot)
  have hends : s.dev.slotPeriodEnds port slot = e.slotReady port slot f := by
    unfold Dev.slotPeriodEnds
    rw [hheld, hsent]
  have hcan : (e.slotReady port slot f).can port = (e.can port).modSlot slot (fun _ => { sentAt := some e.tm.tbm, ready := some f, held := none }) :=
    Dev.can_modCan_same e port _
  refine ⟨onDev (fun _ => e.slotReady port slot f) s, ?_, s.dev.toTbm_reaches _, ⟨rfl, rfl, rfl, rfl, fun j hj => Dev.can_modCan_ne e _ hj⟩, ?_,
    (congrArg CanPort.queue hcan).trans rfl, rfl⟩
  · rw [exec_cantxPeriodEnd]
    exact congrArg Host.Outcome.next (onDev_congr (f := (·.slotPeriodEnds port slot)) (g := fun _ => e.slotReady port slot f) hends)
  · exact (congrArg (CanPort.slot · slot) hcan).trans (CanPort.slot_modSlot_same (e.can port) slot _)

/-- Settles O56. -/
theorem canPorts : Obligations.CanPorts := by
  unfold Obligations.CanPorts
  intro req port frame slot words i n f s p c on keptOf made
  refine ⟨fun ⟨hon, hbus⟩ hrem hfd hfilt hact => ⟨canFrameReceive_queued hon hbus hrem hfd hfilt hact, canFrameReceive_dropped hon hbus hrem hfd hfilt hact⟩,
    canFrameReceive_not, fun ⟨hon, hbus⟩ => canBusOff_silences hon hbus, canBusOff_not, canBusRecovery_active, canBusRecovery_not,
    fun h => ⟨fun hok => ?_, fun hok => ?_⟩, fun ⟨hon, hbus⟩ => canFrameSent_sends hon hbus, canFrameSent_not, fun h => ?_, cantxPeriodEnd_ends,
    cantxPeriodEnd_not⟩
  · obtain ⟨t, ht, hrest⟩ := canTxPush_takes h hok
    exact ⟨t, congrArg Host.Outcome.next ht, hrest⟩
  · obtain ⟨t, ht, hrest⟩ := canTxPush_refuses h hok
    exact ⟨t, congrArg Host.Outcome.next ht, hrest⟩
  · obtain ⟨t, ht, hrest⟩ := canRxRead_gives h words
    exact ⟨t, congrArg Host.Outcome.next ht, hrest⟩

end Sys2Proof.Machine
end

section
/-! PROOFS. The boost rails and the clears of the drive's fault states (R299, R300, R302). -/
namespace Sys2Proof.Machine

/-! A rail's state -/

/-- The words that a change of a rail's state touches. -/
def railOwn (k : Nat) : List Nat := [Reg.VB_RAIL_STATE k, Reg.STATUS pVB, Reg.IRQ_RAW pVB]

/-- A rail's state field set. -/
def Dev.railPut (d : Dev) (k st : Nat) : Dev := d.setFld (Reg.VB_RAIL_STATE k) 2 0 st

theorem Dev.railPut_state (d : Dev) (k : Nat) {st : Nat} (hst : st < 8) : (d.railPut k st).railState k = st :=
  (Dev.fld_setFld_same d (Reg.VB_RAIL_STATE k) 0 st (by decide : 2 < 32)).trans (Nat.mod_eq_of_lt (by omega))

theorem Dev.setRail_changed {d : Dev} {k st : Nat} (hst : st < 8) (h : d.railReadyNow k ≠ decide (st = 2)) :
    d.setRail k st = ((d.railPut k st).setStat pVB (16 + k) (st = 2)).irq pVB (16 + k) := by
  have hready : (d.railPut k st).railReadyNow k = decide (st = 2) := congrArg (fun n => decide (n = 2)) (d.railPut_state k hst)
  exact if_neg fun he => h (he.trans hready)

theorem Dev.setRail_cases (d : Dev) (k : Nat) {st : Nat} :
    d.setRail k st = d.railPut k st ∨ d.setRail k st = ((d.railPut k st).setStat pVB (16 + k) (st = 2)).irq pVB (16 + k) := by
  unfold Dev.setRail
  extract_lets was e
  split
  · exact .inl rfl
  · exact .inr rfl

theorem railState_apart {k : Nat} : Reg.VB_RAIL_STATE k ≠ Reg.STATUS pVB ∧ Reg.VB_RAIL_STATE k ≠ Reg.IRQ_RAW pVB := by
  simp only [Reg.VB_RAIL_STATE, Reg.STATUS, Reg.IRQ_RAW, pVB]
  omega

theorem Dev.setRail_own (d : Dev) (k st : Nat) : Dev.RdKept (railOwn k) d (d.setRail k st) := by
  have h : Dev.RdKept (railOwn k) d (d.railPut k st) := (Dev.RdKept.refl _ d).setFld (by simp [railOwn]) 2 0 st
  rcases d.setRail_cases k (st := st) with he | he
  · rw [he]; exact h
  · rw [he]; exact (h.setStat (by simp [railOwn]) _ _).irq (by simp [railOwn]) _

theorem Dev.rd_setRail_state (d : Dev) (k st : Nat) : (d.setRail k st).rd (Reg.VB_RAIL_STATE k) = (d.railPut k st).rd (Reg.VB_RAIL_STATE k) := by
  obtain ⟨hs, hi⟩ := railState_apart (k := k)
  rcases d.setRail_cases k (st := st) with he | he
  · rw [he]
  · rw [he]
    exact (Dev.rd_irq_ne _ pVB _ hi).trans (Dev.rd_setBit_ne (d.railPut k st) _ _ hs)

theorem Dev.setRail_state (d : Dev) (k : Nat) {st : Nat} (hst : st < 8) : (d.setRail k st).railState k = st :=
  (congrArg (field · 2 0) (d.rd_setRail_state k st)).trans (d.railPut_state k hst)

theorem Dev.setRail_measured (d : Dev) (k st : Nat) :
    (d.setRail k st).fld (Reg.VB_RAIL_STATE k) 31 16 = d.fld (Reg.VB_RAIL_STATE k) 31 16 :=
  (congrArg (field · 31 16) (d.rd_setRail_state k st)).trans
    (Dev.fld_setFld_apart d (Reg.VB_RAIL_STATE k) st (by decide : 2 < 32) (.inr (by decide)))

theorem Dev.setRail_shows {d : Dev} {k st : Nat} (hk : k < 4) (hst : st < 8) (h : d.railReadyNow k ≠ decide (st = 2)) :
    (d.setRail k st).stat pVB (16 + k) = decide (st = 2) ∧ (d.setRail k st).bit (Reg.IRQ_RAW pVB) (16 + k) = true := by
  rw [Dev.setRail_changed hst h]
  refine ⟨?_, Dev.bit_irq_same _ pVB (by omega)⟩
  exact (congrArg (bitOf · (16 + k)) (Dev.rd_irq_ne _ pVB (16 + k) (by decide))).trans
    (Dev.bit_setBit_same (d.railPut k st) (Reg.STATUS pVB) (decide (st = 2)) (by omega))

theorem Dev.setRail_tm (d : Dev) (k st : Nat) : (d.setRail k st).tm = d.tm := (d.setRail_sameBut id k st).proj (·.tm) (fun _ => rfl)

/-- The words of a rail's commands. -/
def railCmdWords (k : Nat) : List Nat := railOwn k ++ [Reg.VB_RAIL_V k, Reg.VB_NR_CNT k, Reg.FAULT pVB, Reg.REC_SUPP_TOTAL]

theorem railOwn_cmd {k a : Nat} (h : a ∈ railOwn k) : a ∈ railCmdWords k := List.mem_append_left _ h

theorem rails_apart {j k : Nat} (hj : j < 4) (hk : k < 4) (h : j ≠ k) : Reg.VB_RAIL_STATE j ∉ railCmdWords k := by
  simp only [railCmdWords, railOwn, List.cons_append, List.nil_append, List.mem_cons, List.not_mem_nil, or_false, Reg.VB_RAIL_STATE, Reg.STATUS,
    Reg.IRQ_RAW, Reg.FAULT, pVB, Reg.VB_RAIL_V, Reg.VB_NR_CNT, Reg.REC_SUPP_TOTAL]
  omega

/-- What a rail's commands keep: the channels and the other rails. -/
def KeptBesideRail (k : Nat) (u t : State) : Prop :=
  t.dev.drv.ch = u.dev.drv.ch ∧ t.ldg = u.ldg ∧ t.rcd = u.rcd ∧ ∀ j, j < 4 → j ≠ k → t.dev.railState j = u.dev.railState j

theorem Dev.RdKept.otherRails {k : Nat} {d e : Dev} (h : Dev.RdKept (railCmdWords k) d e) (hk : k < 4) :
    ∀ j, j < 4 → j ≠ k → e.railState j = d.railState j := fun _ hj hne => h.fld (rails_apart hj hk hne) 2 0

/-! READY, and out of the window -/

/-- The capacitance measured by a charge. -/
def Dev.railMeasured (d : Dev) (k : Nat) (microF : Option Nat) : Dev :=
  match microF with
  | some f => d.setFld (Reg.VB_RAIL_STATE k) 31 16 f
  | none => d

theorem exec_railReady {k : Fin 4} {s : State} (h : s.dev.railState k = 1 ∨ s.dev.railState k = 3) (microF : Option Nat) :
    exec (.railReady k microF) s = .next (onDev (fun d => (d.railMeasured k microF).setRail k 2) s) :=
  congrArg Host.Outcome.next (onDev_congr (f := fun d => if d.railState k = 1 ∨ d.railState k = 3 then (d.railMeasured k microF).setRail k 2 else d)
    (if_pos h))

theorem Dev.railMeasured_own (d : Dev) (k : Nat) (microF : Option Nat) : Dev.RdKept (railOwn k) d (d.railMeasured k microF) := by
  cases microF with
  | none => exact .refl _ d
  | some f => exact (Dev.RdKept.refl _ d).setFld (by simp [railOwn]) 31 16 f

theorem Dev.railMeasured_sameBut (blank : Dev → Dev) (d : Dev) (k : Nat) (microF : Option Nat) : Dev.SameBut blank d (d.railMeasured k microF) := by
  cases microF with
  | none => exact .refl _ d
  | some f => exact (Dev.SameBut.refl _ d).setFld _ 31 16 f

theorem Dev.railMeasured_state (d : Dev) (k : Nat) (microF : Option Nat) : (d.railMeasured k microF).railState k = d.railState k := by
  cases microF with
  | none => rfl
  | some f => exact Dev.fld_setFld_apart d (Reg.VB_RAIL_STATE k) f (by decide : 31 < 32) (.inl (by decide))

theorem railReady_readies {k : Fin 4} {s : State} (h : s.dev.railState k = 1 ∨ s.dev.railState k = 3) (microF : Option Nat) (f : Nat) :
    ∃ t, exec (.railReady k microF) s = .next t ∧ t.dev.railReadyNow k = true ∧ t.dev.stat pVB (16 + k) = true
      ∧ t.dev.bit (Reg.IRQ_RAW pVB) (16 + k) = true ∧ (microF = some f → f < 65536 → t.dev.fld (Reg.VB_RAIL_STATE k) 31 16 = f)
      ∧ t.dev.drv = s.dev.drv ∧ t.dev.tm = s.dev.tm ∧ KeptBesideRail k s t := by
  let e := s.dev.railMeasured k microF
  have hwas : e.railReadyNow k ≠ decide (2 = 2) := by
    have hst : e.railState k = s.dev.railState k := s.dev.railMeasured_state k microF
    have hne : e.railState k ≠ 2 := by omega
    simp [Dev.railReadyNow, hne]
  have hsame : Dev.SameBut id s.dev (e.setRail k 2) := (s.dev.railMeasured_sameBut id k microF).trans (e.setRail_sameBut id k 2)
  have hown : Dev.RdKept (railOwn k) s.dev (e.setRail k 2) := (s.dev.railMeasured_own k microF).trans (e.setRail_own k 2)
  obtain ⟨hstat, hirq⟩ := Dev.setRail_shows (st := 2) k.isLt (by decide) hwas
  have hdrv : (e.setRail k 2).drv = s.dev.drv := hsame.proj (·.drv) (fun _ => rfl)
  refine ⟨_, exec_railReady h microF, decide_eq_true (e.setRail_state k (by decide)), hstat, hirq, fun hf hlt => ?_, hdrv,
    hsame.proj (·.tm) (fun _ => rfl), congrArg Drive.ch hdrv, rfl, rfl, (hown.mono fun _ ha => railOwn_cmd ha).otherRails k.isLt⟩
  have he : e = s.dev.setFld (Reg.VB_RAIL_STATE k) 31 16 f := by
    change s.dev.railMeasured k microF = _
    rw [hf]
    rfl
  refine (e.setRail_measured k 2).trans ?_
  rw [he]
  exact (Dev.fld_setFld_same s.dev (Reg.VB_RAIL_STATE k) 16 f (by decide : 31 < 32)).trans (Nat.mod_eq_of_lt hlt)

/-- RAIL_NOT_READY. -/
def Dev.railLeft (d : Dev) (k centiV : Nat) : Dev :=
  (((d.wrN (Reg.VB_RAIL_V k) centiV).setRail k 3).inc (Reg.VB_NR_CNT k)).faultRec pVB (16 + k) [] objIsRail k

theorem exec_railNotReady {k : Fin 4} {s : State} (h : s.dev.railState k = 2) (centiV : Nat) :
    exec (.railNotReady k centiV) s = .next (onDev (·.railLeft k centiV) s) :=
  congrArg Host.Outcome.next (onDev_congr (f := fun d => if d.railState k = 2 then d.railLeft k centiV else d) (if_pos h))

theorem railWords_apart {k : Nat} (hk : k < 4) : Reg.VB_RAIL_V k ∉ railOwn k ∧ Reg.VB_RAIL_V k ≠ Reg.VB_NR_CNT k
    ∧ Reg.VB_RAIL_STATE k ≠ Reg.VB_NR_CNT k ∧ Reg.VB_RAIL_STATE k ≠ Reg.VB_RAIL_V k ∧ Reg.VB_NR_CNT k ∉ railOwn k
    ∧ Reg.STATUS pVB ≠ Reg.VB_NR_CNT k ∧ Reg.VB_NR_CNT k ≠ Reg.VB_RAIL_V k := by
  simp only [railOwn, List.mem_cons, List.not_mem_nil, or_false, Reg.VB_RAIL_STATE, Reg.STATUS, Reg.IRQ_RAW, pVB, Reg.VB_RAIL_V, Reg.VB_NR_CNT]
  omega

theorem railWords_faultRec {k : Nat} (hk : k < 4) : ∀ a ∈ [Reg.VB_RAIL_V k, Reg.VB_RAIL_STATE k, Reg.VB_NR_CNT k, Reg.STATUS pVB],
    a ≠ Reg.FAULT pVB ∧ a ≠ Reg.IRQ_RAW pVB ∧ a ≠ Reg.REC_SUPP_TOTAL := by
  simp only [List.mem_cons, List.not_mem_nil, or_false, forall_eq_or_imp, forall_eq, Reg.VB_RAIL_STATE, Reg.STATUS, Reg.IRQ_RAW, Reg.FAULT, pVB,
    Reg.VB_RAIL_V, Reg.VB_NR_CNT, Reg.REC_SUPP_TOTAL]
  omega

theorem railNotReady_leaves {k : Fin 4} {s : State} (h : s.dev.railState k = 2) (centiV : Nat) :
    ∃ t, exec (.railNotReady k centiV) s = .next t ∧ t.dev.railState k = 3 ∧ t.dev.rd (Reg.VB_RAIL_V k) = w32 centiV
      ∧ t.dev.rd (Reg.VB_NR_CNT k) = s.dev.rd (Reg.VB_NR_CNT k) + 1#32 ∧ t.dev.bit (Reg.FAULT pVB) (16 + k) = true
      ∧ t.dev.stat pVB (16 + k) = false ∧ t.dev.drv = s.dev.drv ∧ KeptBesideRail k s t := by
  let a := s.dev.wrN (Reg.VB_RAIL_V k) centiV
  let b := a.setRail k 3
  let c := b.inc (Reg.VB_NR_CNT k)
  obtain ⟨hvown, hvcnt, hscnt, hsv, hcown, hstcnt, hcv⟩ := railWords_apart k.isLt
  have hrec (x : Nat) (hx : x ∈ [Reg.VB_RAIL_V k, Reg.VB_RAIL_STATE k, Reg.VB_NR_CNT k, Reg.STATUS pVB]) : (s.dev.railLeft k centiV).rd x = c.rd x := by
    obtain ⟨hf, hi, hs⟩ := railWords_faultRec k.isLt x hx
    exact Dev.rd_faultRec_ne c pVB (16 + k) hf hi hs
  have hwas : a.railReadyNow k ≠ decide (3 = 2) := by
    have hst : a.railState k = 2 := (congrArg (field · 2 0) (Dev.rd_wr_ne s.dev (w32 centiV) hsv)).trans h
    simp [Dev.railReadyNow, hst]
  have hsame : Dev.SameBut (fun d => { d with rcf := {} }) s.dev (s.dev.railLeft k centiV) :=
    ((((Dev.SameBut.refl _ s.dev).wr _ _).trans (a.setRail_sameBut _ k 3)).wr _ _).faultRec (fun _ _ => rfl) _ _ _ _ _
  have hkept : Dev.RdKept (railCmdWords k) s.dev (s.dev.railLeft k centiV) :=
    ((((Dev.RdKept.refl _ s.dev).wr (by simp [railCmdWords]) _).trans ((a.setRail_own k 3).mono fun _ ha => railOwn_cmd ha)).wr
      (by simp [railCmdWords]) _).faultRec (by simp [railCmdWords]) (by simp [railCmdWords, railOwn]) (by simp [railCmdWords]) _ _ _ _
  have hdrv : (s.dev.railLeft k centiV).drv = s.dev.drv := hsame.proj (·.drv) (fun _ => rfl)
  refine ⟨_, exec_railNotReady h centiV, ?_, ?_, ?_, Dev.bit_faultRec c pVB (by omega), ?_, hdrv, congrArg Drive.ch hdrv, rfl, rfl,
    hkept.otherRails k.isLt⟩
  · exact (congrArg (field · 2 0) ((hrec _ (by simp)).trans (Dev.rd_wr_ne b _ hscnt))).trans (a.setRail_state k (by decide))
  · exact (hrec _ (by simp)).trans ((Dev.rd_wr_ne b _ hvcnt).trans ((a.setRail_own k 3 _ hvown).trans (Dev.rd_wr_same s.dev _ _)))
  · refine (hrec _ (by simp)).trans ((Dev.rd_wr_same b _ _).trans (congrArg (· + 1#32) ?_))
    exact (a.setRail_own k 3 _ hcown).trans (Dev.rd_wr_ne s.dev _ hcv)
  · refine (congrArg (bitOf · (16 + k)) ((hrec _ (by simp)).trans (Dev.rd_wr_ne b _ hstcnt))).trans ?_
    exact (Dev.setRail_shows (st := 3) k.isLt (by decide) hwas).1

/-! A rail in its fault state -/

/-- A rail in FAULT. -/
def Dev.railFails (d : Dev) (k : Nat) : Dev := (d.setRail k 4).faultRec pVB (20 + k) [] objIsRail k

theorem exec_railFault {k : Fin 4} {why : RailFailure} {s : State} (h : s.dev.railState k = 1 ∨ s.dev.railState k = 2 ∨ s.dev.railState k = 3)
    (hwhy : why ≠ .chargeTimeout) : exec (.railFault k why) s = .next (onDev (·.railFails k) s) := by
  cases why with
  | chargeTimeout => exact absurd rfl hwhy
  | overVoltage => exact congrArg Host.Outcome.next (onDev_congr (if_pos h))
  | converter => exact congrArg Host.Outcome.next (onDev_congr (if_pos h))

theorem exec_railFault_timeout {k : Fin 4} {p : Nat} {s : State} (h : s.dev.railState k = 1) (hfrom : (s.dev.rail k).chargeFrom = some p) :
    exec (.railFault k .chargeTimeout) s = .next (onDev (fun d => (d.toTbm (p + 50000000)).railFails k) s) := by
  refine congrArg Host.Outcome.next (onDev_congr (f := fun d => match decide (d.railState k = 1), (d.rail k).chargeFrom with
    | true, some t => (d.toTbm (t + 50000000)).railFails k
    | _, _ => d) ?_)
  change (match decide (s.dev.railState k = 1), (s.dev.rail k).chargeFrom with
    | true, some t => (s.dev.toTbm (t + 50000000)).railFails k
    | _, _ => s.dev) = _
  rw [hfrom, decide_eq_true h]

theorem Dev.railFails_spec (d : Dev) {k : Nat} (hk : k < 4) : (d.railFails k).railState k = 4 ∧ (d.railFails k).bit (Reg.FAULT pVB) (20 + k) = true
    ∧ Dev.SameBut (fun d => { d with rcf := {} }) d (d.railFails k) ∧ Dev.RdKept (railCmdWords k) d (d.railFails k) := by
  obtain ⟨hf, hi, hs⟩ := railWords_faultRec hk (Reg.VB_RAIL_STATE k) (by simp)
  refine ⟨?_, Dev.bit_faultRec _ pVB (by omega), (d.setRail_sameBut _ k 4).faultRec (fun _ _ => rfl) _ _ _ _ _,
    ((d.setRail_own k 4).mono fun _ ha => railOwn_cmd ha).faultRec (by simp [railCmdWords]) (by simp [railCmdWords, railOwn])
      (by simp [railCmdWords]) _ _ _ _⟩
  exact (congrArg (field · 2 0) (Dev.rd_faultRec_ne (d.setRail k 4) pVB (20 + k) hf hi hs)).trans (d.setRail_state k (by decide))

theorem railFault_fails {k : Fin 4} {why : RailFailure} {s : State} (h : s.dev.railState k = 1 ∨ s.dev.railState k = 2 ∨ s.dev.railState k = 3)
    (hwhy : why ≠ .chargeTimeout) :
    ∃ t, exec (.railFault k why) s = .next t ∧ t.dev.railState k = 4 ∧ t.dev.bit (Reg.FAULT pVB) (20 + k) = true ∧ t.dev.tm = s.dev.tm
      ∧ KeptBesideRail k s t := by
  obtain ⟨hst, hfault, hsame, hkept⟩ := s.dev.railFails_spec k.isLt
  exact ⟨_, exec_railFault h hwhy, hst, hfault, hsame.proj (·.tm) (fun _ => rfl), hsame.proj (·.drv.ch) (fun _ => rfl), rfl, rfl, hkept.otherRails k.isLt⟩

theorem railFault_timesOut {k : Fin 4} {p : Nat} {s : State} (h : s.dev.railState k = 1) (hfrom : (s.dev.rail k).chargeFrom = some p) :
    ∃ t, exec (.railFault k .chargeTimeout) s = .next t ∧ t.dev.railState k = 4 ∧ t.dev.bit (Reg.FAULT pVB) (20 + k) = true
      ∧ p + 50000000 ≤ t.dev.tm.tbm ∧ KeptBesideRail k s t := by
  let e := s.dev.toTbm (p + 50000000)
  obtain ⟨hst, hfault, hsame, hkept⟩ := e.railFails_spec k.isLt
  exact ⟨_, exec_railFault_timeout h hfrom, hst, hfault,
    (s.dev.toTbm_reaches _).trans_eq (hsame.proj (·.tm.tbm) (fun _ => rfl)).symm, (hsame.proj (·.drv.ch) (fun _ => rfl)).trans rfl, rfl, rfl,
    fun j hj hne => (hkept.otherRails k.isLt j hj hne).trans rfl⟩

/-! The clear of a rail (R300) -/

/-- A rail that charges from the return of its supply. -/
def Dev.railCharges (d : Dev) (k : Nat) : Dev := (d.setRail k 1).modRail k (fun r => { r with chargeFrom := some (d.tm.tbm + 20000000) })

/-- RAIL_CLR of a rail in FAULT. -/
def Dev.railCleared (d : Dev) (k : Nat) : Dev := if d.railWanted k then d.railCharges k else d.setRail k 0

/-- RAIL_CLR. -/
def Dev.railClr (d : Dev) (k : Nat) : Dev := if bitOf 1#32 0 ∧ d.railState k = 4 then d.railCleared k else d

theorem exec_railClr (req : Requester) (k : Fin 4) (s : State) : exec (.railClr req k) s
    = .next (hostCmd req (Reg.VB_RAIL_CLR k) 1#32 (actDev (·.railClr k)) (arrived (Reg.VB_RAIL_CLR k) s)) := rfl

theorem Dev.railClr_fault {d : Dev} {k : Nat} (h : d.railState k = 4) : d.railClr k = d.railCleared k := if_pos ⟨by decide, h⟩

theorem Dev.railClr_not {d : Dev} {k : Nat} (h : d.railState k ≠ 4) : d.railClr k = d := if_neg fun hx => h hx.2

theorem Dev.railCharges_spec (d : Dev) (k : Nat) : (d.railCharges k).railState k = 1
    ∧ ((d.railCharges k).rail k).chargeFrom = some (d.tm.tbm + 20000000) ∧ (d.railCharges k).drv.ch = d.drv.ch
    ∧ Dev.RdKept (railOwn k) d (d.railCharges k) := by
  have hrail : (d.railCharges k).rail k = _ := Dev.rail_modRail_same (d.setRail k 1) k _
  exact ⟨d.setRail_state k (by decide), congrArg Rail.chargeFrom hrail, (d.setRail_sameBut id k 1).proj (·.drv.ch) (fun _ => rfl),
    (d.setRail_own k 1).struct rfl⟩

theorem Dev.railCleared_spec (d : Dev) (k : Nat) : (d.railCleared k).railState k = (if d.railWanted k then 1 else 0)
    ∧ (d.railWanted k = true → ((d.railCleared k).rail k).chargeFrom = some (d.tm.tbm + 20000000)) ∧ (d.railCleared k).drv.ch = d.drv.ch
    ∧ Dev.RdKept (railOwn k) d (d.railCleared k) := by
  unfold Dev.railCleared
  split
  · obtain ⟨hst, hfrom, hch, hkept⟩ := d.railCharges_spec k
    exact ⟨hst, fun _ => hfrom, hch, hkept⟩
  next hw =>
    exact ⟨d.setRail_state k (by decide), fun h => absurd h hw, (d.setRail_sameBut id k 0).proj (·.drv.ch) (fun _ => rfl), d.setRail_own k 0⟩

theorem railClr_clears {req : Requester} {k : Fin 4} {u : State} (h : Accepts req (Reg.VB_RAIL_CLR k) 1#32 u) (hst : u.dev.railState k = 4) :
    ∃ t, hostCmd req (Reg.VB_RAIL_CLR k) 1#32 (actDev (·.railClr k)) u = t ∧ answerTo req t = ⟨.ok, 1, []⟩
      ∧ t.dev.railState k = (if u.dev.railWanted k then 1 else 0)
      ∧ (u.dev.railWanted k = true → (t.dev.rail k).chargeFrom = some (u.dev.tm.tbm + 20000000)) ∧ KeptBesideRail k u t := by
  obtain ⟨j, hj⟩ := hostCmd_acts h (act := actDev (·.railClr k)) (t := fun j => onDev (·.railCleared k) (u.woken j)) fun j =>
    congrArg (Prod.mk Status.ok) (onDev_congr (f := (·.railClr k)) (g := (·.railCleared k)) (Dev.railClr_fault (d := (u.woken j).dev) hst))
  obtain ⟨hstate, hfrom, hch, hkept⟩ := (u.woken j).dev.railCleared_spec k
  exact ⟨_, hj, answerTo_answeredOk _ _ _, hstate, hfrom, hch, rfl, rfl, (hkept.mono fun _ ha => railOwn_cmd ha).otherRails k.isLt⟩

theorem railClr_idle {req : Requester} {k : Fin 4} {s : State}
    (h : Accepts req (Reg.VB_RAIL_CLR k) 1#32 (arrived (Reg.VB_RAIL_CLR k) s)) (hst : (arrived (Reg.VB_RAIL_CLR k) s).dev.railState k ≠ 4) :
    exec (.railClr req k) s = .next (acceptedWrite req (Reg.VB_RAIL_CLR k) id (arrived (Reg.VB_RAIL_CLR k) s)) :=
  (exec_railClr req k s).trans (congrArg Host.Outcome.next (hostCmd_idle h fun j =>
    Dev.railClr_not (d := ((arrived (Reg.VB_RAIL_CLR k) s).woken j).dev) hst))

/-! The clears of channels, banks and tiles (R302) -/

/-- A clear asked for in a bank. -/
def Bank.clearAsked (m : Nat) (x : Bank) : Bank := { x with clr := x.clr ||| m }

theorem channelFaultClear_asks {req : Requester} {b : Fin 64} {mask : Fin 256} {s : State}
    (h : Accepts req (Reg.BK_CHF_CLR b) (w32 mask) (arrived (Reg.BK_CHF_CLR b) s)) : exec (.channelFaultClear req b mask) s
      = .next (acceptedWrite req (Reg.BK_CHF_CLR b) (·.modBank b (Bank.clearAsked mask)) (arrived (Reg.BK_CHF_CLR b) s)) := by
  have hmask : (w32 mask).toNat % 512 = mask.val := by
    change mask.val % 2 ^ 32 % 512 = mask.val
    omega
  have hexec : exec (.channelFaultClear req b mask) s = .next (hostCmd req (Reg.BK_CHF_CLR b) (w32 mask)
      (actDev (·.modBank b (Bank.clearAsked ((w32 mask).toNat % 512)))) (arrived (Reg.BK_CHF_CLR b) s)) := rfl
  rw [hexec, hmask]
  exact congrArg Host.Outcome.next (hostCmd_actDev _ h)

theorem bankFaultClear_asks {req : Requester} {b : Fin 64} {s : State}
    (h : Accepts req (Reg.BK_CHF_CLR b) 0x100#32 (arrived (Reg.BK_CHF_CLR b) s)) : exec (.bankFaultClear req b) s
      = .next (acceptedWrite req (Reg.BK_CHF_CLR b) (·.modBank b (Bank.clearAsked 256)) (arrived (Reg.BK_CHF_CLR b) s)) :=
  congrArg Host.Outcome.next (hostCmd_actDev (·.modBank b (Bank.clearAsked 256)) h)

/-- A clear asked for in a tile. -/
def Tile.clearAsked (x : Tile) : Tile := { x with clr := true }

theorem tileClear_asks {req : Requester} {tl : Fin 8} {s : State}
    (h : Accepts req (Reg.DT_TILE_CLR tl) 1#32 (arrived (Reg.DT_TILE_CLR tl) s)) : exec (.tileClear req tl) s
      = .next (acceptedWrite req (Reg.DT_TILE_CLR tl) (·.modTile tl Tile.clearAsked) (arrived (Reg.DT_TILE_CLR tl) s)) :=
  congrArg Host.Outcome.next ((hostCmd_actDev (fun d => if bitOf 1#32 0 then d.modTile tl Tile.clearAsked else d) h).trans
    (acceptedWrite_congr (f := fun d => if bitOf 1#32 0 then d.modTile tl Tile.clearAsked else d) (if_pos (by decide))))

theorem mem_bankChans {b c : Nat} (h : c / 8 = b) : c ∈ bankChans b :=
  List.mem_map.mpr ⟨c % 8, List.mem_range.mpr (Nat.mod_lt _ (by decide)), by omega⟩

theorem bankChans_nodup (b : Nat) : (bankChans b).Nodup := List.Nodup.map (fun _ _ h => by simpa using h) List.nodup_range

theorem mem_tileChans {t c : Nat} (h : c / 64 = t) : c ∈ tileChans t :=
  List.mem_map.mpr ⟨c % 64, List.mem_range.mpr (Nat.mod_lt _ (by decide)), by omega⟩

theorem tileChans_nodup (t : Nat) : (tileChans t).Nodup := List.Nodup.map (fun _ _ h => by simpa using h) List.nodup_range

/-- A channel that its tile's fault takes over from its bank's. -/
def Chan.heldByTile (x : Chan) : Chan := { x with cause := cTILE }

/-- A channel that its bank's fault takes over from its tile's. -/
def Chan.heldByBank (x : Chan) : Chan := { x with cause := cBANK }

/-- What a bank's clear makes of a channel. -/
def Chan.bankClear (m c : Nat) (tileFault : Bool) (x : Chan) : Chan :=
  if x.phase = phFAULT ∧ m.testBit (c % 8) = true ∧ x.cause ≠ cBANK ∧ x.cause ≠ cTILE then x.cleared
  else if x.phase = phFAULT ∧ m.testBit 8 = true ∧ x.cause = cBANK then (if tileFault then x.heldByTile else x.cleared)
  else x

/-- A bank's clear in one channel. -/
def Dev.bankClear1 (m : Nat) (d : Dev) (c : Nat) : Dev :=
  if (d.chan c).phase = phFAULT ∧ m.testBit (c % 8) = true ∧ (d.chan c).cause ≠ cBANK ∧ (d.chan c).cause ≠ cTILE then d.modChan c Chan.cleared
  else if (d.chan c).phase = phFAULT ∧ m.testBit 8 = true ∧ (d.chan c).cause = cBANK then
    d.modChan c (if (d.tile (c / 64)).fault then Chan.heldByTile else Chan.cleared)
  else d

/-- A bank's clear in its channels. -/
def Dev.bankClears (d : Dev) (b m : Nat) : Dev := (bankChans b).foldl (Dev.bankClear1 m) d

/-- The bank's own fault state ended by the clear's bit 8. -/
def Dev.bankEnded (d : Dev) (b m : Nat) : Dev := if m.testBit 8 then (d.modBank b (fun x => { x with fault := false })).setStat (pBK b) 16 false else d

theorem Dev.applyBankClear_eq (d : Dev) (b : Nat) : d.applyBankClear b = if (d.bank b).clr = 0 then d else
    ((d.bankClears b (d.bank b).clr).bankEnded b (d.bank b).clr).modBank b (fun x => { x with clr := 0 }) := rfl

theorem Dev.bankClear1_same (m : Nat) (d : Dev) (c : Nat) :
    (d.bankClear1 m c).chan c = (d.chan c).bankClear m c (d.tile (c / 64)).fault ∧ (d.bankClear1 m c).drv.tile = d.drv.tile := by
  unfold Dev.bankClear1 Chan.bankClear
  split
  · exact ⟨Dev.chan_modChan_same d c _, rfl⟩
  · split
    · refine ⟨(Dev.chan_modChan_same d c _).trans ?_, rfl⟩
      split <;> rfl
    · exact ⟨rfl, rfl⟩

theorem Dev.bankClear1_ne (m : Nat) (d : Dev) {c j : Nat} (h : c ≠ j) :
    (d.bankClear1 m j).chan c = d.chan c ∧ (d.bankClear1 m j).drv.tile = d.drv.tile := by
  unfold Dev.bankClear1
  split
  · exact ⟨Dev.chan_modChan_ne d _ h, rfl⟩
  · split
    · exact ⟨Dev.chan_modChan_ne d _ h, rfl⟩
    · exact ⟨rfl, rfl⟩

/-- A channel beside the fault states of the tiles. -/
def Dev.chanTile (c : Nat) (d : Dev) : Chan × SMap Tile := (d.chan c, d.drv.tile)

/-- What a bank's clear makes of the two. -/
def bankClearAt (m c : Nat) (p : Chan × SMap Tile) : Chan × SMap Tile := (p.1.bankClear m c (sget (fun _ => ({} : Tile)) p.2 (c / 64)).fault, p.2)

theorem Dev.chanTile_same (m c : Nat) (d : Dev) : Dev.chanTile c (d.bankClear1 m c) = bankClearAt m c (Dev.chanTile c d) := by
  obtain ⟨hchan, htile⟩ := Dev.bankClear1_same m d c
  unfold Dev.chanTile
  rw [hchan, htile]
  rfl

theorem Dev.chanTile_ne (m : Nat) (d : Dev) {c j : Nat} (h : j ≠ c) : Dev.chanTile c (d.bankClear1 m j) = Dev.chanTile c d := by
  obtain ⟨hchan, htile⟩ := Dev.bankClear1_ne m d h.symm
  unfold Dev.chanTile
  rw [hchan, htile]

theorem Dev.chan_of_chanTile {c : Nat} {e : Dev} {p : Chan × SMap Tile} (h : Dev.chanTile c e = p) : e.chan c = p.1 := congrArg Prod.fst h

theorem foldl_bankClear1_chan {xs : List Nat} (hxs : xs.Nodup) {c : Nat} (hc : c ∈ xs) (m : Nat) (d : Dev) :
    (xs.foldl (Dev.bankClear1 m) d).chan c = (d.chan c).bankClear m c (d.tile (c / 64)).fault :=
  Dev.chan_of_chanTile (p := bankClearAt m c (Dev.chanTile c d))
    ((foldl_at (Dev.chanTile_same m c) (fun e _ hj => Dev.chanTile_ne m e hj) xs hxs d).1 hc)

theorem Dev.bankClears_chan (d : Dev) {b c : Nat} (m : Nat) (h : c / 8 = b) :
    (d.bankClears b m).chan c = (d.chan c).bankClear m c (d.tile (c / 64)).fault :=
  foldl_bankClear1_chan (bankChans_nodup b) (mem_bankChans h) m d

theorem Dev.bankEnded_ch (d : Dev) (b m : Nat) : (d.bankEnded b m).drv.ch = d.drv.ch := by
  unfold Dev.bankEnded
  split <;> rfl

theorem Dev.bankEnded_bank (d : Dev) {b m : Nat} (h : m.testBit 8 = true) :
    (d.bankEnded b m).drv.bank = (d.modBank b (fun x => { x with fault := false })).drv.bank := by
  unfold Dev.bankEnded
  rw [if_pos h]
  rfl

theorem Dev.bank_of_bank {d e : Dev} (h : e.drv.bank = d.drv.bank) (b : Nat) : e.bank b = d.bank b :=
  congrArg (fun m => sget (fun _ => ({} : Bank)) m b) h

theorem Dev.tile_of_tile {d e : Dev} (h : e.drv.tile = d.drv.tile) (t : Nat) : e.tile t = d.tile t :=
  congrArg (fun m => sget (fun _ => ({} : Tile)) m t) h

theorem Dev.applyBankClear_chan (d : Dev) {b c : Nat} (h : c / 8 = b) (hclr : (d.bank b).clr ≠ 0) :
    (d.applyBankClear b).chan c = (d.chan c).bankClear (d.bank b).clr c (d.tile (c / 64)).fault := by
  rw [Dev.applyBankClear_eq, if_neg hclr]
  let e := d.bankClears b (d.bank b).clr
  have hch : ((e.bankEnded b (d.bank b).clr).modBank b (fun x => { x with clr := 0 })).drv.ch = e.drv.ch := e.bankEnded_ch b _
  exact (Dev.chan_of_ch hch c).trans (d.bankClears_chan (d.bank b).clr h)

theorem Dev.applyBankClear_fault (d : Dev) (b : Nat) (h : (d.bank b).clr.testBit 8 = true) : ((d.applyBankClear b).bank b).fault = false := by
  have hclr : (d.bank b).clr ≠ 0 := fun h0 => by simp [h0] at h
  let e := d.bankClears b (d.bank b).clr
  let f := e.bankEnded b (d.bank b).clr
  have hbank : f.drv.bank = (e.modBank b (fun x => { x with fault := false })).drv.bank := e.bankEnded_bank h
  have hended : (f.bank b).fault = false := by
    rw [Dev.bank_of_bank hbank b, Dev.bank_modBank_same]
  rw [Dev.applyBankClear_eq, if_neg hclr]
  exact (congrArg Bank.fault (Dev.bank_modBank_same f b (fun x => { x with clr := 0 }))).trans hended

theorem Chan.bankClear_own {m c : Nat} {tf : Bool} {x : Chan} (hphase : x.phase = phFAULT) (hm : m.testBit (c % 8) = true) (hb : x.cause ≠ cBANK)
    (ht : x.cause ≠ cTILE) : (x.bankClear m c tf).phase = phOFF := congrArg Chan.phase (if_pos ⟨hphase, hm, hb, ht⟩)

theorem Chan.bankClear_held {m c : Nat} {tf : Bool} {x : Chan} (hphase : x.phase = phFAULT) (hm : m.testBit 8 = true) (hb : x.cause = cBANK) :
    x.bankClear m c tf = if tf then x.heldByTile else x.cleared :=
  (if_neg fun h => h.2.2.1 hb).trans (if_pos ⟨hphase, hm, hb⟩)

theorem applyBankClear_clears {d : Dev} {b c : Nat} (h : c / 8 = b) (hphase : (d.chan c).phase = phFAULT) :
    ((d.bank b).clr.testBit (c % 8) = true → (d.chan c).cause ≠ cBANK → (d.chan c).cause ≠ cTILE → ((d.applyBankClear b).chan c).phase = phOFF)
      ∧ ((d.bank b).clr.testBit 8 = true → (d.chan c).cause = cBANK →
        ((d.applyBankClear b).bank b).fault = false
        ∧ ((d.tile (c / 64)).fault = false → ((d.applyBankClear b).chan c).phase = phOFF)
        ∧ ((d.tile (c / 64)).fault = true → ((d.applyBankClear b).chan c).phase = phFAULT ∧ ((d.applyBankClear b).chan c).cause = cTILE))
      ∧ ((d.bank b).clr = 0 → d.applyBankClear b = d) := by
  have hne {i : Nat} (hm : (d.bank b).clr.testBit i = true) : (d.bank b).clr ≠ 0 := fun h0 => by simp [h0] at hm
  refine ⟨fun hm hb ht => ?_, fun hm hb => ⟨d.applyBankClear_fault b hm, fun htf => ?_, fun htf => ?_⟩, fun h0 => ?_⟩
  · rw [d.applyBankClear_chan h (hne hm)]
    exact Chan.bankClear_own hphase hm hb ht
  · rw [d.applyBankClear_chan h (hne hm), Chan.bankClear_held hphase hm hb, htf]
    rfl
  · rw [d.applyBankClear_chan h (hne hm), Chan.bankClear_held hphase hm hb, htf]
    exact ⟨hphase, rfl⟩
  · rw [Dev.applyBankClear_eq, if_pos h0]

/-- What a tile's clear makes of a channel. -/
def Chan.tileClear (bankFault : Bool) (x : Chan) : Chan := if x.cause = cTILE then (if bankFault then x.heldByBank else x.cleared) else x

/-- A tile's clear in one channel. -/
def Dev.tileClear1 (d : Dev) (c : Nat) : Dev :=
  if (d.chan c).cause = cTILE then d.modChan c (if (d.bank (c / 8)).fault then Chan.heldByBank else Chan.cleared) else d

/-- A tile's fault state ended. -/
def Dev.tileEnded (d : Dev) (t : Nat) : Dev := (d.modTile t (fun x => { x with fault := false, clr := false })).setStat (pDT t) 16 false

theorem Dev.tileClear1_same (d : Dev) (c : Nat) :
    (d.tileClear1 c).chan c = (d.chan c).tileClear (d.bank (c / 8)).fault ∧ (d.tileClear1 c).drv.bank = d.drv.bank := by
  unfold Dev.tileClear1 Chan.tileClear
  split
  · refine ⟨(Dev.chan_modChan_same d c _).trans ?_, rfl⟩
    split <;> rfl
  · exact ⟨rfl, rfl⟩

theorem Dev.tileClear1_ne (d : Dev) {c j : Nat} (h : c ≠ j) : (d.tileClear1 j).chan c = d.chan c ∧ (d.tileClear1 j).drv.bank = d.drv.bank := by
  unfold Dev.tileClear1
  split
  · exact ⟨Dev.chan_modChan_ne d _ h, rfl⟩
  · exact ⟨rfl, rfl⟩

theorem Dev.tileClear1_tile (d : Dev) (c : Nat) : (d.tileClear1 c).drv.tile = d.drv.tile := by
  unfold Dev.tileClear1
  split <;> rfl

/-- A channel beside the banks. -/
def Dev.chanBank (c : Nat) (d : Dev) : Chan × SMap Bank := (d.chan c, d.drv.bank)

/-- What a tile's clear makes of the two. -/
def tileClearAt (c : Nat) (p : Chan × SMap Bank) : Chan × SMap Bank := (p.1.tileClear (sget (fun _ => ({} : Bank)) p.2 (c / 8)).fault, p.2)

theorem Dev.chanBank_same (c : Nat) (d : Dev) : Dev.chanBank c (d.tileClear1 c) = tileClearAt c (Dev.chanBank c d) := by
  obtain ⟨hchan, hbank⟩ := d.tileClear1_same c
  unfold Dev.chanBank
  rw [hchan, hbank]
  rfl

theorem Dev.chanBank_ne (d : Dev) {c j : Nat} (h : j ≠ c) : Dev.chanBank c (d.tileClear1 j) = Dev.chanBank c d := by
  obtain ⟨hchan, hbank⟩ := d.tileClear1_ne h.symm
  unfold Dev.chanBank
  rw [hchan, hbank]

/-- A tile's clear in its channels. -/
def Dev.tileClears (d : Dev) (t : Nat) : Dev := (tileChans t).foldl Dev.tileClear1 d

theorem Dev.applyTileClear_eq (d : Dev) (t : Nat) :
    d.applyTileClear t = if (d.tile t).clr then (d.tileEnded t).tileClears t else d := rfl

theorem Dev.chan_of_chanBank {c : Nat} {e : Dev} {p : Chan × SMap Bank} (h : Dev.chanBank c e = p) : e.chan c = p.1 := congrArg Prod.fst h

theorem foldl_tileClear1_chan {xs : List Nat} (hxs : xs.Nodup) {c : Nat} (hc : c ∈ xs) (d : Dev) :
    (xs.foldl Dev.tileClear1 d).chan c = (d.chan c).tileClear (d.bank (c / 8)).fault :=
  Dev.chan_of_chanBank (p := tileClearAt c (Dev.chanBank c d))
    ((foldl_at (Dev.chanBank_same c) (fun e _ hj => Dev.chanBank_ne e hj) xs hxs d).1 hc)

theorem Dev.tileClears_chan (d : Dev) {t c : Nat} (h : c / 64 = t) : (d.tileClears t).chan c = (d.chan c).tileClear (d.bank (c / 8)).fault :=
  foldl_tileClear1_chan (tileChans_nodup t) (mem_tileChans h) d

theorem foldl_tileClear1_tile (xs : List Nat) (d : Dev) : (xs.foldl Dev.tileClear1 d).drv.tile = d.drv.tile :=
  List.foldlRecOn (motive := fun (e : Dev) => e.drv.tile = d.drv.tile) xs _ rfl fun e he c _ => (Dev.tileClear1_tile e c).trans he

theorem Dev.tileClears_tile (d : Dev) (t : Nat) : (d.tileClears t).drv.tile = d.drv.tile := by
  unfold Dev.tileClears
  exact foldl_tileClear1_tile (tileChans t) d

theorem Dev.applyTileClear_chan (d : Dev) {t c : Nat} (h : c / 64 = t) (hclr : (d.tile t).clr = true) :
    (d.applyTileClear t).chan c = (d.chan c).tileClear (d.bank (c / 8)).fault := by
  have hchan : (d.tileEnded t).chan c = d.chan c := Dev.chan_of_ch rfl c
  have hbank : (d.tileEnded t).bank (c / 8) = d.bank (c / 8) := Dev.bank_of_bank rfl _
  rw [Dev.applyTileClear_eq, if_pos hclr, (d.tileEnded t).tileClears_chan h, hchan, hbank]

theorem Dev.applyTileClear_fault (d : Dev) {t : Nat} (hclr : (d.tile t).clr = true) : ((d.applyTileClear t).tile t).fault = false := by
  have htile : (d.tileEnded t).tile t = (d.modTile t (fun x => { x with fault := false, clr := false })).tile t := Dev.tile_of_tile rfl t
  rw [Dev.applyTileClear_eq, if_pos hclr, Dev.tile_of_tile ((d.tileEnded t).tileClears_tile t), htile, Dev.tile_modTile_same]

theorem applyTileClear_clears {d : Dev} {t c : Nat} (h : c / 64 = t) (hclr : (d.tile t).clr = true) (hcause : (d.chan c).cause = cTILE) :
    ((d.applyTileClear t).tile t).fault = false
      ∧ ((d.bank (c / 8)).fault = false → ((d.applyTileClear t).chan c).phase = phOFF)
      ∧ ((d.bank (c / 8)).fault = true → ((d.applyTileClear t).chan c).phase = (d.chan c).phase ∧ ((d.applyTileClear t).chan c).cause = cBANK) := by
  have hchan : (d.chan c).tileClear (d.bank (c / 8)).fault = if (d.bank (c / 8)).fault then (d.chan c).heldByBank else (d.chan c).cleared := if_pos hcause
  rw [d.applyTileClear_chan h hclr, hchan]
  refine ⟨d.applyTileClear_fault hclr, fun hb => ?_, fun hb => ?_⟩
  · rw [hb]
    rfl
  · rw [hb]
    exact ⟨rfl, rfl⟩

/-- Settles O45. -/
theorem railsAndClears : Obligations.RailsAndClears := by
  unfold Obligations.RailsAndClears
  intro req k b tl mask microF f centiV p why s restOf
  refine ⟨fun h => railReady_readies h microF f, fun h => railNotReady_leaves h centiV, railFault_fails, railFault_timesOut, fun h hst => ?_, railClr_idle,
    channelFaultClear_asks, bankFaultClear_asks, tileClear_asks, fun c => applyBankClear_clears, fun c => applyTileClear_clears⟩
  obtain ⟨t, ht, hrest⟩ := railClr_clears h hst
  exact ⟨t, (exec_railClr req k s).trans (congrArg Host.Outcome.next ht), hrest⟩

end Sys2Proof.Machine
end

section
/-! PROOFS. The antenna ports (R140, R141). -/
namespace Sys2Proof.Machine

/-- The words that the commands of the antenna ports touch. -/
def antWords : List Nat := [Reg.NAV_ANT_CURR, Reg.NAV_ANT_STAT, Reg.NAV_AGC_GAIN, Reg.FAULT pNAV, Reg.IRQ_RAW pNAV, Reg.REC_SUPP_TOTAL]

/-- The blocks that they may change. -/
def forgetAnt (d : Dev) : Dev := { d with gps := {}, rcf := {}, tm := {} }

/-- A change of the part that only the antenna ports make. -/
def Dev.AntOnly (d e : Dev) : Prop := Dev.SameBut forgetAnt d e ∧ Dev.RdKept antWords d e

theorem Dev.AntOnly.refl (d : Dev) : Dev.AntOnly d d := ⟨.refl _ d, .refl _ d⟩

theorem Dev.AntOnly.quiet {f : Dev → Dev} {s : State} (h : Dev.AntOnly s.dev (f s.dev)) :
    differOnly (fun d => { d with gps := {}, rcf := {}, tm := {} }) s (onDev f s)
      ∧ regsKept [Reg.NAV_ANT_CURR, Reg.NAV_ANT_STAT, Reg.NAV_AGC_GAIN, Reg.FAULT pNAV, Reg.IRQ_RAW pNAV, Reg.REC_SUPP_TOTAL] s (onDev f s) :=
  ⟨Dev.SameBut.onDev h.1, h.2⟩

section
variable {d e : Dev} (h : Dev.AntOnly d e)
include h

theorem Dev.AntOnly.antCurrent (p mA : Nat) : Dev.AntOnly d (e.antCurrent p mA) := ⟨h.1.setFld _ _ _ _, h.2.setFld (by decide) _ _ _⟩

theorem Dev.AntOnly.setAnt (p b : Nat) (v : Bool) : Dev.AntOnly d (e.setAnt p b v) := ⟨h.1.setBit _ _ _, h.2.setBit (by decide) _ _⟩

theorem Dev.AntOnly.setGain (hi lo g : Nat) : Dev.AntOnly d (e.setFld Reg.NAV_AGC_GAIN hi lo g) := ⟨h.1.setFld _ _ _ _, h.2.setFld (by decide) _ _ _⟩

theorem Dev.AntOnly.modAnt (p : Nat) (f : AntPort → AntPort) : Dev.AntOnly d (e.modAnt p f) := ⟨h.1.gps (fun _ _ => rfl) _, h.2.struct rfl⟩

theorem Dev.AntOnly.toTbm (t : Nat) : Dev.AntOnly d (e.toTbm t) := ⟨h.1.advance (fun _ _ => rfl) _, h.2.struct rfl⟩

theorem Dev.AntOnly.fault (b : Nat) : Dev.AntOnly d (e.fault pNAV b) := ⟨h.1.fault _ _, h.2.fault (by decide) (by decide) b⟩

theorem Dev.AntOnly.faultRec (b : Nat) (vs : List W32) (o i : Nat) : Dev.AntOnly d (e.faultRec pNAV b vs o i) :=
  ⟨h.1.faultRec (fun _ _ => rfl) _ _ _ _ _, h.2.faultRec (by decide) (by decide) (by decide) b vs o i⟩
end

/-! A port's bits -/

theorem antBit_lt {p b : Nat} (hp : p < 4) (hb : b < 4) : 4 * p + b < 32 := by omega

theorem Dev.antBit_setAnt_same (d : Dev) {p b : Nat} (hp : p < 4) (hb : b < 4) (v : Bool) : (d.setAnt p b v).antBit p b = v :=
  Dev.bit_setBit_same d Reg.NAV_ANT_STAT v (antBit_lt hp hb)

theorem Dev.antBit_setAnt_ne (d : Dev) {p b c : Nat} (hp : p < 4) (hb : b < 4) (hc : c < 4) (v : Bool) (h : c ≠ b) :
    (d.setAnt p b v).antBit p c = d.antBit p c :=
  (Dev.bit_setBit d Reg.NAV_ANT_STAT (4 * p + b) (4 * p + c) v (antBit_lt hp hb) (antBit_lt hp hc)).trans (if_neg (by omega))

theorem Dev.antBit_congr {d e : Dev} (h : e.rd Reg.NAV_ANT_STAT = d.rd Reg.NAV_ANT_STAT) (p b : Nat) : e.antBit p b = d.antBit p b :=
  congrArg (bitOf · (4 * p + b)) h

theorem Dev.antBit_faultRec (d : Dev) (b : Nat) (vs : List W32) (o i p c : Nat) : (d.faultRec pNAV b vs o i).antBit p c = d.antBit p c :=
  Dev.antBit_congr (Dev.rd_faultRec_ne d pNAV b (by decide) (by decide) (by decide)) p c

theorem Dev.antBit_antCurrent (d : Dev) (q mA p c : Nat) : (d.antCurrent q mA).antBit p c = d.antBit p c :=
  Dev.antBit_congr (Dev.rd_setFld_ne d _ _ _ (by decide)) p c

/-! A short (R140) -/

/-- A short, before its fault. -/
def Dev.antCut (d : Dev) (p : Nat) : Dev :=
  ((d.setAnt p abBIAS false).setAnt p abSHORT true).modAnt p (fun x => { x with retryAt := some (d.tm.tbm + 1000000000), heldSince := none })

theorem Dev.antShorted_eq (d : Dev) (p : Nat) : d.antShorted p = (d.antCut p).faultRec pNAV 16 [] objIsPort p := rfl

theorem Dev.gps_faultRec (d : Dev) (p b : Nat) (vs : List W32) (o i : Nat) : (d.faultRec p b vs o i).gps = d.gps :=
  ((Dev.SameBut.refl (fun d => { d with rcf := {} }) d).faultRec (fun _ _ => rfl) p b vs o i).proj (·.gps) (fun _ => rfl)

theorem Dev.tm_faultRec (d : Dev) (p b : Nat) (vs : List W32) (o i : Nat) : (d.faultRec p b vs o i).tm = d.tm :=
  ((Dev.SameBut.refl (fun d => { d with rcf := {} }) d).faultRec (fun _ _ => rfl) p b vs o i).proj (·.tm) (fun _ => rfl)

theorem Dev.ant_of_gps {d e : Dev} (h : e.gps = d.gps) (p : Nat) : e.ant p = d.ant p :=
  congrArg (fun g => sget (fun _ => ({} : AntPort)) (Gnss.ant g) p) h

theorem Dev.antShorted_spec (d : Dev) {p : Nat} (hp : p < 4) : (d.antShorted p).antBit p abBIAS = false ∧ (d.antShorted p).antBit p abSHORT = true
    ∧ (d.antShorted p).bit (Reg.FAULT pNAV) 16 = true ∧ ((d.antShorted p).ant p).retryAt = some (d.tm.tbm + 1000000000)
    ∧ (d.antShorted p).rd Reg.NAV_ANT_CURR = d.rd Reg.NAV_ANT_CURR ∧ (d.antShorted p).tm = d.tm ∧ Dev.AntOnly d (d.antShorted p) := by
  rw [d.antShorted_eq]
  let a := d.setAnt p abBIAS false
  let b := a.setAnt p abSHORT true
  have hbits (c : Nat) : ((d.antCut p).faultRec pNAV 16 [] objIsPort p).antBit p c = b.antBit p c := Dev.antBit_faultRec _ _ _ _ _ _ _
  have hant : ((d.antCut p).faultRec pNAV 16 [] objIsPort p).ant p = (d.antCut p).ant p := Dev.ant_of_gps (Dev.gps_faultRec _ _ _ _ _ _) p
  refine ⟨(hbits _).trans ?_, (hbits _).trans (a.antBit_setAnt_same hp (by decide) true), Dev.bit_faultRec _ pNAV (by decide), ?_, ?_,
    Dev.tm_faultRec _ _ _ _ _ _, ((((Dev.AntOnly.refl d).setAnt _ _ _).setAnt _ _ _).modAnt _ _).faultRec _ _ _ _⟩
  · exact (a.antBit_setAnt_ne hp (by decide) (by decide) true (by decide)).trans (d.antBit_setAnt_same hp (by decide) false)
  · exact (congrArg AntPort.retryAt hant).trans (congrArg AntPort.retryAt (Dev.ant_modAnt_same b p _))
  · refine (Dev.rd_faultRec_ne (d.antCut p) pNAV 16 (by decide) (by decide) (by decide)).trans ?_
    exact (Dev.rd_setBit_ne a _ true (by decide)).trans (Dev.rd_setBit_ne d _ false (by decide))

theorem antByte_lt {p : Nat} (hp : p < 4) : 8 * p + 7 < 32 := by omega

theorem Dev.antCurrent_shows (d : Dev) {p : Nat} (hp : p < 4) (mA : Nat) :
    (d.antCurrent p mA).fld Reg.NAV_ANT_CURR (8 * p + 7) (8 * p) = min mA 255 := by
  refine (Dev.fld_setFld_same d Reg.NAV_ANT_CURR (8 * p) (min mA 255) (antByte_lt hp)).trans ?_
  rw [show 8 * p + 7 + 1 - 8 * p = 8 by omega]
  exact Nat.mod_eq_of_lt (by omega)

/-- ANT_SHORT. -/
def Dev.antShort (d : Dev) (p mA : Nat) : Dev := (d.antCurrent p mA).antShorted p

theorem exec_antShort {port : Fin 4} {milliA : Nat} {s : State} (hbias : s.dev.antBit port abBIAS = true) (hshort : 55 < milliA) :
    exec (.antShort port milliA) s = .next (onDev (·.antShort port milliA) s) :=
  congrArg Host.Outcome.next (onDev_congr (f := fun d => if d.antBit port abBIAS ∧ milliA > 55 then d.antShort port milliA else d)
    (if_pos ⟨hbias, hshort⟩))

/-- The next state's part, changed by the antenna ports alone. -/
def AntQuiet (s t : State) : Prop :=
  differOnly (fun d => { d with gps := {}, rcf := {}, tm := {} }) s t
    ∧ regsKept [Reg.NAV_ANT_CURR, Reg.NAV_ANT_STAT, Reg.NAV_AGC_GAIN, Reg.FAULT pNAV, Reg.IRQ_RAW pNAV, Reg.REC_SUPP_TOTAL] s t

theorem antShort_cuts {port : Fin 4} {milliA : Nat} {s : State} (hbias : s.dev.antBit port abBIAS = true) (hshort : 55 < milliA) :
    ∃ t, exec (.antShort port milliA) s = .next t ∧ t.dev.antBit port abBIAS = false ∧ t.dev.antBit port abSHORT = true
      ∧ t.dev.bit (Reg.FAULT pNAV) 16 = true ∧ (t.dev.ant port).retryAt = some (s.dev.tm.tbm + 1000000000)
      ∧ t.dev.fld Reg.NAV_ANT_CURR (8 * port + 7) (8 * port) = min milliA 255 ∧ t.dev.tm = s.dev.tm ∧ AntQuiet s t := by
  let e := s.dev.antCurrent port milliA
  obtain ⟨hb, hs, hf, hr, hc, htm, honly⟩ := e.antShorted_spec port.isLt
  have hall : Dev.AntOnly s.dev (s.dev.antShort port milliA) := ⟨((Dev.AntOnly.refl s.dev).antCurrent _ _).1.trans honly.1,
    ((Dev.AntOnly.refl s.dev).antCurrent _ _).2.trans honly.2⟩
  exact ⟨_, exec_antShort hbias hshort, hb, hs, hf, hr, (congrArg (field · (8 * port + 7) (8 * port)) hc).trans (s.dev.antCurrent_shows port.isLt milliA),
    htm, Dev.AntOnly.quiet (f := (·.antShort port milliA)) hall⟩

theorem Dev.AntOnly.trans {d e f : Dev} (h : Dev.AntOnly d e) (h' : Dev.AntOnly e f) : Dev.AntOnly d f := ⟨h.1.trans h'.1, h.2.trans h'.2⟩

/-! The retry (R140) -/

/-- The bias on again, with the current it takes. -/
def Dev.antTried (d : Dev) (p r mA : Nat) : Dev := ((d.toTbm r).antCurrent p mA).setAnt p abBIAS true

/-- A current that is no short has been held for a second. -/
def Dev.antHeld (d : Dev) (p mA : Nat) : Bool :=
  match (d.ant p).heldSince with
  | some t0 => decide (mA ≤ 50) && decide (d.tm.tbm ≥ t0 + 1000000000)
  | none => false

/-- The short over. -/
def Dev.antOver (d : Dev) (p : Nat) : Dev := (d.setAnt p abSHORT false).modAnt p (fun x => { x with retryAt := none, heldSince := none })

/-- The next retry set. -/
def Dev.antAgain (d : Dev) (p mA : Nat) : Dev :=
  d.modAnt p (fun x => { x with
    retryAt := some (d.tm.tbm + 1000000000), heldSince := if mA ≤ 50 then some (x.heldSince.getD d.tm.tbm) else none })

/-- What a retry finds. -/
def Dev.antFound (d : Dev) (p mA : Nat) : Dev := if mA > 55 then d.antShorted p else if d.antHeld p mA then d.antOver p else d.antAgain p mA

/-- ANT_BIAS_RETRY. -/
def Dev.antRetry (d : Dev) (p mA : Nat) : Dev :=
  match (d.ant p).retryAt, d.biasEn p with
  | some t, true => (d.antTried p t mA).antFound p mA
  | _, _ => d

theorem exec_antBiasRetry_eq (port : Fin 4) (milliA : Nat) (s : State) :
    exec (.antBiasRetry port milliA) s = .next (onDev (·.antRetry port milliA) s) := rfl

theorem exec_antBiasRetry {port : Fin 4} {r : Nat} {s : State} (hretry : (s.dev.ant port).retryAt = some r) (hen : s.dev.biasEn port = true) (milliA : Nat) :
    exec (.antBiasRetry port milliA) s = .next (onDev (fun d => (d.antTried port r milliA).antFound port milliA) s) := by
  refine (exec_antBiasRetry_eq port milliA s).trans (congrArg Host.Outcome.next (onDev_congr (f := (·.antRetry port milliA)) ?_))
  unfold Dev.antRetry
  rw [hretry, hen]

theorem Dev.antTried_only (d : Dev) (p r mA : Nat) : Dev.AntOnly d (d.antTried p r mA) :=
  (((Dev.AntOnly.refl d).toTbm r).antCurrent p mA).setAnt p abBIAS true

theorem Dev.antFound_only (d : Dev) {p : Nat} (hp : p < 4) (mA : Nat) : Dev.AntOnly d (d.antFound p mA) := by
  obtain ⟨-, -, -, -, -, -, hshort⟩ := d.antShorted_spec hp
  unfold Dev.antFound
  split
  · exact hshort
  · split
    · exact ((Dev.AntOnly.refl d).setAnt _ _ _).modAnt _ _
    · exact (Dev.AntOnly.refl d).modAnt _ _

theorem Dev.antFound_tm (d : Dev) {p : Nat} (hp : p < 4) (mA : Nat) : (d.antFound p mA).tm = d.tm := by
  obtain ⟨-, -, -, -, -, htm, -⟩ := d.antShorted_spec hp
  unfold Dev.antFound
  split
  · exact htm
  · split <;> rfl

theorem Dev.antFound_bias {d : Dev} {p mA : Nat} (hp : p < 4) (hmA : mA ≤ 55) : (d.antFound p mA).antBit p abBIAS = d.antBit p abBIAS := by
  unfold Dev.antFound
  rw [if_neg (by omega)]
  split
  · exact d.antBit_setAnt_ne hp (by decide) (by decide) false (by decide)
  · rfl

theorem Dev.antHeld_true {d : Dev} {p mA h : Nat} (hmA : mA ≤ 50) (hsince : (d.ant p).heldSince = some h) (hlong : h + 1000000000 ≤ d.tm.tbm) :
    d.antHeld p mA = true := by
  unfold Dev.antHeld
  rw [hsince]
  simp [hmA, hlong]

theorem Dev.antOver_spec (d : Dev) {p : Nat} (hp : p < 4) : (d.antOver p).antBit p abSHORT = false ∧ ((d.antOver p).ant p).retryAt = none :=
  ⟨d.antBit_setAnt_same hp (by decide) false, congrArg AntPort.retryAt (Dev.ant_modAnt_same (d.setAnt p abSHORT false) p _)⟩

theorem antBiasRetry_tries {port : Fin 4} {milliA r h : Nat} {s : State} (hretry : (s.dev.ant port).retryAt = some r) (hen : s.dev.biasEn port = true) :
    ∃ t, exec (.antBiasRetry port milliA) s = .next t ∧ r ≤ t.dev.tm.tbm ∧ AntQuiet s t
      ∧ (55 < milliA → t.dev.antBit port abBIAS = false ∧ t.dev.antBit port abSHORT = true
          ∧ (t.dev.ant port).retryAt = some (t.dev.tm.tbm + 1000000000))
      ∧ (milliA ≤ 55 → t.dev.antBit port abBIAS = true)
      ∧ (milliA ≤ 50 → (s.dev.ant port).heldSince = some h → h + 1000000000 ≤ r → t.dev.antBit port abSHORT = false ∧ (t.dev.ant port).retryAt = none) := by
  let e := s.dev.antTried port r milliA
  have hbias : e.antBit port abBIAS = true := Dev.antBit_setAnt_same _ port.isLt (by decide) true
  have hreach : r ≤ e.tm.tbm := s.dev.toTbm_reaches r
  have htm := e.antFound_tm port.isLt milliA
  refine ⟨_, exec_antBiasRetry hretry hen milliA, hreach.trans_eq (congrArg TimeBases.tbm htm).symm,
    Dev.AntOnly.quiet (f := fun d => (d.antTried port r milliA).antFound port milliA) ((s.dev.antTried_only _ _ _).trans (e.antFound_only port.isLt _)),
    fun hshort => ?_, fun hmA => (Dev.antFound_bias port.isLt hmA).trans hbias, fun hmA hsince hlong => ?_⟩
  · obtain ⟨hb, hs, -, hr, -, htm', -⟩ := e.antShorted_spec port.isLt
    have hfound : e.antFound port milliA = e.antShorted port := if_pos hshort
    change (e.antFound port milliA).antBit port abBIAS = false ∧ (e.antFound port milliA).antBit port abSHORT = true
      ∧ ((e.antFound port milliA).ant port).retryAt = some ((e.antFound port milliA).tm.tbm + 1000000000)
    rw [hfound, htm']
    exact ⟨hb, hs, hr⟩
  · have hfound : e.antFound port milliA = e.antOver port :=
      (if_neg (by omega)).trans (if_pos (Dev.antHeld_true (d := e) hmA hsince (hlong.trans hreach)))
    obtain ⟨hs, hr⟩ := e.antOver_spec port.isLt
    change (e.antFound port milliA).antBit port abSHORT = false ∧ ((e.antFound port milliA).ant port).retryAt = none
    rw [hfound]
    exact ⟨hs, hr⟩

/-! An open antenna (R140) -/

/-- An open antenna flagged. -/
def Dev.antOpened (d : Dev) (p : Nat) : Dev := (d.setAnt p abOPEN true).faultRec pNAV 17 [] objIsPort p

/-- What ANT_OPEN finds with the bias on. -/
def Dev.antTested (d : Dev) (p mA : Nat) : Dev :=
  if mA < 3 then (if d.antBit p abOPEN then d else d.antOpened p) else d.setAnt p abOPEN false

theorem exec_antOpen {port : Fin 4} {s : State} (hbias : s.dev.antBit port abBIAS = true) (milliA : Nat) :
    exec (.antOpen port milliA) s = .next (onDev (fun d => (d.antCurrent port milliA).antTested port milliA) s) := by
  have hbias' : ¬(!(s.dev.antCurrent port milliA).antBit port abBIAS) = true := by rw [Dev.antBit_antCurrent, hbias]; decide
  exact congrArg Host.Outcome.next (onDev_congr (f := fun d =>
    if !(d.antCurrent port milliA).antBit port abBIAS then d.antCurrent port milliA else (d.antCurrent port milliA).antTested port milliA) (if_neg hbias'))

theorem Dev.antOpened_spec (d : Dev) {p : Nat} (hp : p < 4) : (d.antOpened p).antBit p abOPEN = true ∧ (d.antOpened p).bit (Reg.FAULT pNAV) 17 = true
    ∧ (d.antOpened p).tm = d.tm ∧ Dev.AntOnly d (d.antOpened p) :=
  ⟨(Dev.antBit_faultRec _ _ _ _ _ _ _).trans (d.antBit_setAnt_same hp (by decide) true), Dev.bit_faultRec _ pNAV (by decide),
    Dev.tm_faultRec _ _ _ _ _ _, ((Dev.AntOnly.refl d).setAnt _ _ _).faultRec _ _ _ _⟩

theorem Dev.antTested_spec (d : Dev) {p : Nat} (hp : p < 4) (mA : Nat) : (d.antTested p mA).antBit p abOPEN = decide (mA < 3)
    ∧ (d.antTested p mA).tm = d.tm ∧ Dev.AntOnly d (d.antTested p mA)
    ∧ (mA < 3 → d.antBit p abOPEN = false → (d.antTested p mA).bit (Reg.FAULT pNAV) 17 = true) := by
  obtain ⟨hopen, hfault, htm, honly⟩ := d.antOpened_spec hp
  unfold Dev.antTested
  split
  next hlow =>
    rw [decide_eq_true hlow]
    split
    next hset => exact ⟨hset, rfl, .refl d, fun _ h => by simp [h] at hset⟩
    · exact ⟨hopen, htm, honly, fun _ _ => hfault⟩
  next hhigh =>
    rw [decide_eq_false hhigh]
    exact ⟨d.antBit_setAnt_same hp (by decide) false, rfl, (Dev.AntOnly.refl d).setAnt _ _ _, fun h => absurd h hhigh⟩

theorem antOpen_tests {port : Fin 4} {s : State} (hbias : s.dev.antBit port abBIAS = true) (milliA : Nat) :
    ∃ t, exec (.antOpen port milliA) s = .next t ∧ t.dev.antBit port abOPEN = decide (milliA < 3) ∧ t.dev.tm = s.dev.tm ∧ AntQuiet s t
      ∧ (milliA < 3 → s.dev.antBit port abOPEN = false → t.dev.bit (Reg.FAULT pNAV) 17 = true) := by
  obtain ⟨hopen, htm, honly, hfault⟩ := (s.dev.antCurrent port milliA).antTested_spec port.isLt milliA
  exact ⟨_, exec_antOpen hbias milliA, hopen, htm,
    Dev.AntOnly.quiet (f := fun d => (d.antCurrent port milliA).antTested port milliA) (((Dev.AntOnly.refl s.dev).antCurrent _ _).trans honly),
    fun hlow hclear => hfault hlow ((Dev.antBit_antCurrent _ _ _ _ _).trans hclear)⟩

/-! The gain (R141) -/

/-- The gain one step on. -/
def agcStep (ratio g : Nat) : Nat := if ratio > 360 then g - 1 else if ratio < 300 then min (g + 1) 126 else g

/-- A port's gain. -/
def Dev.agcGain (d : Dev) (p : Nat) : Nat := d.fld Reg.NAV_AGC_GAIN (8 * p + 7) (8 * p)

/-- The time at which the gain is next evaluated. -/
def Dev.agcDue (d : Dev) (p : Nat) : Dev := match (d.ant p).agcAt with | some t => d.toTbm (t + 1000000) | none => d

/-- The gain evaluated. -/
def Dev.agcSet (d : Dev) (p ratio : Nat) : Dev := d.setFld Reg.NAV_AGC_GAIN (8 * p + 7) (8 * p) (agcStep ratio (d.agcGain p))

/-- The time the gain has stood at an end of its range. -/
def Dev.agcNoted (d : Dev) (p g : Nat) : Dev :=
  d.modAnt p (fun x => { x with agcAt := some d.tm.tbm, endSince := if g = 0 || g = 126 then some (x.endSince.getD d.tm.tbm) else none })

/-- The gain has stood at an end of its range for too long. -/
def Dev.agcLimit (d : Dev) (p now : Nat) : Bool := match (d.ant p).endSince with | some t => decide (now ≥ t + 100000000) | none => false

/-- The limit shown. -/
def Dev.agcShown (d : Dev) (p : Nat) (limit : Bool) : Dev :=
  if limit ∧ d.antBit p abAGC = false then (d.setAnt p abAGC true).fault pNAV 18 else d.setAnt p abAGC limit

/-- AGC_UPDATE. -/
def Dev.agcUpdated (d : Dev) (p ratio : Nat) : Dev :=
  let e := d.agcDue p
  let f := (e.agcSet p ratio).agcNoted p (agcStep ratio (e.agcGain p))
  f.agcShown p (f.agcLimit p e.tm.tbm)

theorem exec_agcUpdate {port : Fin 4} {s : State} (hen : s.dev.portEn port = true) (hclk : s.dev.clockLost 6 = false) (hpow : s.dev.powerState ≤ 1)
    (ratio : Nat) : exec (.agcUpdate port ratio) s = .next (onDev (·.agcUpdated port ratio) s) := by
  have hgo : ¬(!s.dev.portEn port || s.dev.clockLost 6 || decide (s.dev.powerState > 1)) = true := by
    rw [hen, hclk, decide_eq_false (by omega)]
    decide
  exact congrArg Host.Outcome.next (onDev_congr (f := fun d =>
    if !d.portEn port || d.clockLost 6 || d.powerState > 1 then d else d.agcUpdated port ratio) (if_neg hgo))

theorem Dev.agcDue_only (d : Dev) (p : Nat) : Dev.AntOnly d (d.agcDue p) ∧ (d.agcDue p).regs = d.regs := by
  unfold Dev.agcDue
  split
  · exact ⟨(Dev.AntOnly.refl d).toTbm _, rfl⟩
  · exact ⟨.refl d, rfl⟩

theorem Dev.agcShown_only (d : Dev) (p : Nat) (limit : Bool) : Dev.AntOnly d (d.agcShown p limit)
    ∧ (d.agcShown p limit).rd Reg.NAV_AGC_GAIN = d.rd Reg.NAV_AGC_GAIN := by
  unfold Dev.agcShown
  split
  · exact ⟨((Dev.AntOnly.refl d).setAnt _ _ _).fault 18,
      (Dev.rd_fault_ne (d.setAnt p abAGC true) pNAV 18 (by decide) (by decide)).trans (Dev.rd_setBit_ne d _ true (by decide))⟩
  · exact ⟨(Dev.AntOnly.refl d).setAnt _ _ _, Dev.rd_setBit_ne d _ limit (by decide)⟩

theorem agcStep_lt {ratio g : Nat} (hg : g < 256) : agcStep ratio g < 256 := by
  unfold agcStep
  split
  · omega
  · split <;> omega

theorem Dev.agcSet_gain (d : Dev) {p : Nat} (hp : p < 4) (ratio : Nat) : (d.agcSet p ratio).agcGain p = agcStep ratio (d.agcGain p) := by
  have hbyte : 8 * p + 7 + 1 - 8 * p = 8 := by omega
  have hlt : d.agcGain p < 2 ^ 8 := by
    have h := field_lt (d.rd Reg.NAV_AGC_GAIN) (8 * p + 7) (8 * p)
    rwa [hbyte] at h
  refine (Dev.fld_setFld_same d Reg.NAV_AGC_GAIN (8 * p) (agcStep ratio (d.agcGain p)) (antByte_lt hp)).trans ?_
  rw [hbyte]
  exact Nat.mod_eq_of_lt (agcStep_lt hlt)

theorem agcUpdate_steps {port : Fin 4} {s : State} (hen : s.dev.portEn port = true) (hclk : s.dev.clockLost 6 = false) (hpow : s.dev.powerState ≤ 1)
    (ratio : Nat) : ∃ t, exec (.agcUpdate port ratio) s = .next t ∧ AntQuiet s t
      ∧ t.dev.agcGain port = agcStep ratio (s.dev.agcGain port) := by
  let e := s.dev.agcDue port
  let f := (e.agcSet port ratio).agcNoted port (agcStep ratio (e.agcGain port))
  obtain ⟨hdue, hregs⟩ := s.dev.agcDue_only port
  obtain ⟨hshown, hgain⟩ := f.agcShown_only port (f.agcLimit port e.tm.tbm)
  have hset : Dev.AntOnly e f := ((Dev.AntOnly.refl e).setGain _ _ _).modAnt _ _
  have hstart : e.agcGain port = s.dev.agcGain port := congrArg (field · (8 * port + 7) (8 * port)) (Dev.rd_of_regs hregs Reg.NAV_AGC_GAIN)
  refine ⟨_, exec_agcUpdate hen hclk hpow ratio, Dev.AntOnly.quiet (f := (·.agcUpdated port ratio)) ((hdue.trans hset).trans hshown), ?_⟩
  refine (congrArg (field · (8 * port + 7) (8 * port)) hgain).trans ((e.agcSet_gain port.isLt ratio).trans ?_)
  rw [hstart]

/-- Settles O35. -/
theorem antennaPorts : Obligations.AntennaPorts := by
  unfold Obligations.AntennaPorts
  intro port milliA ratio r h s quiet
  exact ⟨antShort_cuts, antBiasRetry_tries, fun hbias => antOpen_tests hbias milliA, fun hen hclk hpow => agcUpdate_steps hen hclk hpow ratio⟩

end Sys2Proof.Machine
end

section
/-! PROOFS. Latency measurements and the diagnostic stream (R259 to R262, R275, R281, R362). -/
namespace Sys2Proof.Machine

/-- The words that a measurement of a channel touches. -/
def latWords (c : Nat) : List Nat :=
  [Reg.LRN_ON c, Reg.LRN_OFF c, Reg.LAT_MEAS_ACC, Reg.LAT_MEAS_REJ, Reg.LAT_LAST_REJ, Reg.LAT_LRN_LOST 0 + 4 * (c / 32), Reg.IRQ_RAW pLAT,
    Reg.FAULT pLAT, Reg.REC_SUPP_TOTAL]

theorem lat_not_mem_latWords {c : Nat} (hc : c < 512) (k : Nat) : Reg.LAT_ON k ∉ latWords c ∧ Reg.LAT_OFF k ∉ latWords c := by
  simp only [latWords, List.mem_cons, List.not_mem_nil, or_false, Reg.LAT_ON, Reg.LAT_OFF, Reg.LRN_ON, Reg.LRN_OFF, Reg.LAT_MEAS_ACC, Reg.LAT_MEAS_REJ,
    Reg.LAT_LAST_REJ, Reg.LAT_LRN_LOST, Reg.IRQ_RAW, Reg.FAULT, pLAT, Reg.REC_SUPP_TOTAL]
  omega

theorem lrnAddr_mem (off : Bool) (c : Nat) : lrnAddr off c ∈ latWords c := by
  cases off <;> simp [lrnAddr, latWords]

/-- The words in which the lost bit of a channel shows. -/
def lostWords (c : Nat) : List Nat := [Reg.LAT_LRN_LOST 0 + 4 * (c / 32), Reg.IRQ_RAW pLAT]

theorem Dev.setLost_rdKept (d : Dev) (c : Nat) (v : Bool) : Dev.RdKept (lostWords c) d (d.setLost c v) := by
  have h : Dev.RdKept (lostWords c) d (d.setMapBit (Reg.LAT_LRN_LOST 0) c v) := (Dev.RdKept.refl _ d).setBit (by simp [lostWords]) _ v
  unfold Dev.setLost
  extract_lets was e
  split
  · exact h.irq (by simp [lostWords]) 16
  · exact h

theorem Dev.setLost_sameBut (blank : Dev → Dev) (d : Dev) (c : Nat) (v : Bool) : Dev.SameBut blank d (d.setLost c v) := by
  have h : Dev.SameBut blank d (d.setMapBit (Reg.LAT_LRN_LOST 0) c v) := (Dev.SameBut.refl _ d).setBit _ _ v
  unfold Dev.setLost
  extract_lets was e
  split
  · exact h.irq _ _
  · exact h

theorem lostWords_sub {c a : Nat} (h : a ∈ lostWords c) : a ∈ latWords c := by
  simp only [lostWords, List.mem_cons, List.not_mem_nil, or_false] at h
  rcases h with rfl | rfl <;> simp [latWords]

/-! A measurement accepted (R261) -/

/-- The LRN word of an accepted measurement. -/
def Dev.measNoted (d : Dev) (c : Nat) (off : Bool) (m : Nat) : Dev :=
  ((d.setBit (lrnAddr off c) 31 true).setFld (lrnAddr off c) 29 24 0).setFld (lrnAddr off c) 19 0 m

/-- The lost bit after an accepted measurement. -/
def Dev.lostKept (d : Dev) (c : Nat) (off : Bool) : Dev :=
  if decide (d.fld (lrnAddr (!off) c) 29 24 ≥ d.rdN Reg.LAT_REJ_MAX) then d else d.setLost c false

/-- A measurement that waits for the turn. -/
def Chan.measured (off : Bool) (m : Nat) (x : Chan) : Chan := { x with latUpd := x.latUpd ++ [(off, m)] }

theorem Dev.acceptMeas_eq (d : Dev) (c : Nat) (off : Bool) (m : Nat) :
    d.acceptMeas c off m = (((d.measNoted c off m).lostKept c off).inc Reg.LAT_MEAS_ACC).modChan c (Chan.measured off m) := rfl

theorem Dev.measNoted_rdKept (d : Dev) (c : Nat) (off : Bool) (m : Nat) : Dev.RdKept [lrnAddr off c] d (d.measNoted c off m) :=
  (((Dev.RdKept.refl _ d).setBit (by simp) 31 true).setFld (by simp) 29 24 0).setFld (by simp) 19 0 m

theorem Dev.lostKept_rdKept (d : Dev) (c : Nat) (off : Bool) : Dev.RdKept (lostWords c) d (d.lostKept c off) := by
  unfold Dev.lostKept
  split
  · exact .refl _ d
  · exact d.setLost_rdKept c false

theorem Dev.lostKept_sameBut (blank : Dev → Dev) (d : Dev) (c : Nat) (off : Bool) : Dev.SameBut blank d (d.lostKept c off) := by
  unfold Dev.lostKept
  split
  · exact .refl _ d
  · exact d.setLost_sameBut blank c false

theorem latCounts_apart {c : Nat} (hc : c < 512) (off : Bool) : ∀ a ∈ [Reg.LAT_MEAS_ACC, Reg.LAT_MEAS_REJ, Reg.LAT_LAST_REJ],
    a ∉ [lrnAddr off c] ∧ a ∉ lostWords c := by
  cases off <;>
    simp only [lrnAddr, lostWords, List.mem_cons, List.not_mem_nil, or_false, forall_eq_or_imp, forall_eq, Reg.LRN_ON, Reg.LRN_OFF, Reg.LAT_MEAS_ACC,
      Reg.LAT_MEAS_REJ, Reg.LAT_LAST_REJ, Reg.LAT_LRN_LOST, Reg.IRQ_RAW, pLAT, Bool.false_eq_true, if_true, if_false] <;>
    omega

theorem Dev.modChan_sameBut {blank : Dev → Dev} (hb : ForgetsDrv blank) (d : Dev) (c : Nat) (f : Chan → Chan) : Dev.SameBut blank d (d.modChan c f) :=
  (Dev.SameBut.refl _ d).drv hb _

theorem Dev.modChan_regs (d : Dev) (c : Nat) (f : Chan → Chan) : (d.modChan c f).regs = d.regs := rfl

theorem Dev.modChan_measured {d e : Dev} (h : e.drv.ch = d.drv.ch) (c : Nat) (off : Bool) (m : Nat) :
    ((e.modChan c (Chan.measured off m)).chan c).latUpd = (d.chan c).latUpd ++ [(off, m)] := by
  rw [Dev.chan_modChan_same, Dev.chan_of_ch h]
  rfl

/-- The blocks that a measurement may change. -/
def forgetMeas (d : Dev) : Dev := { d with drv := {}, rcf := {} }

theorem Dev.acceptMeas_spec (d : Dev) {c : Nat} (hc : c < 512) (off : Bool) (m : Nat) :
    (d.acceptMeas c off m).rd Reg.LAT_MEAS_ACC = d.rd Reg.LAT_MEAS_ACC + 1#32 ∧ ((d.acceptMeas c off m).chan c).latUpd = (d.chan c).latUpd ++ [(off, m)]
      ∧ Dev.SameBut forgetMeas d (d.acceptMeas c off m) ∧ Dev.RdKept (latWords c) d (d.acceptMeas c off m) := by
  rw [d.acceptMeas_eq]
  let a := d.measNoted c off m
  let b := a.lostKept c off
  have ha : ∀ blank, Dev.SameBut blank d a := fun blank => (((Dev.SameBut.refl blank d).setBit _ _ _).setFld _ _ _ _).setFld _ _ _ _
  have hb : ∀ blank, Dev.SameBut blank d b := fun blank => (ha blank).trans (a.lostKept_sameBut blank c off)
  have hkept : Dev.RdKept (latWords c) d b := ((d.measNoted_rdKept c off m).mono fun x hx => by rw [List.mem_singleton.mp hx]; exact lrnAddr_mem off c).trans
    ((a.lostKept_rdKept c off).mono fun _ => lostWords_sub)
  obtain ⟨hlrn, hlost⟩ := latCounts_apart hc off Reg.LAT_MEAS_ACC (by simp)
  let e := b.inc Reg.LAT_MEAS_ACC
  have hesame : ∀ blank, Dev.SameBut blank d e := fun blank => (hb blank).wr _ _
  have hekept : Dev.RdKept (latWords c) d e := hkept.wr (by simp [latWords]) _
  have hch : e.drv.ch = d.drv.ch := (hesame id).proj (·.drv.ch) (fun _ => rfl)
  refine ⟨?_, ?_, (hesame _).trans (e.modChan_sameBut (fun _ _ => rfl) c _), hekept.trans (.ofRegs _ (e.modChan_regs c _))⟩
  · refine (Dev.rd_of_regs (e.modChan_regs c (Chan.measured off m)) _).trans ((Dev.rd_wr_same b Reg.LAT_MEAS_ACC _).trans (congrArg (· + 1#32) ?_))
    exact (a.lostKept_rdKept c off _ hlost).trans (d.measNoted_rdKept c off m _ hlrn)
  · exact Dev.modChan_measured hch c off m

/-! A measurement rejected (R260, R262) -/

/-- The LRN word of a rejected measurement. -/
def Dev.rejectNoted (d : Dev) (c : Nat) (off : Bool) (m : Option Int) : Dev :=
  let e := (d.setBit (lrnAddr off c) 31 false).setFld (lrnAddr off c) 29 24 (min 63 (d.fld (lrnAddr off c) 29 24 + 1))
  match m with | some v => e.setFld (lrnAddr off c) 19 0 (clampI 0 1048575 v).toNat | none => e

/-- A rejection counted. -/
def Dev.rejectCounted (d : Dev) (c : Nat) (off : Bool) (why : Nat) : Dev :=
  (d.inc Reg.LAT_MEAS_REJ).wrN Reg.LAT_LAST_REJ (why * 2 ^ 13 + (if off then 2 ^ 12 else 0) + c)

/-- A channel whose rejections have run to the limit is lost. -/
def Dev.rejectLost (d : Dev) (c run was most : Nat) : Dev :=
  if most ≤ run ∧ (was < most ∨ d.mapBit (Reg.LAT_LRN_LOST 0) c = false) then (d.setLost c true).faultRec pLAT 16 [] objIsChannel c else d

theorem Dev.rejectMeas_eq (d : Dev) (c : Nat) (off : Bool) (m : Option Int) (why : Nat) : d.rejectMeas c off m why
    = ((d.rejectNoted c off m).rejectCounted c off why).rejectLost c (min 63 (d.fld (lrnAddr off c) 29 24 + 1)) (d.fld (lrnAddr off c) 29 24)
        (d.rdN Reg.LAT_REJ_MAX) := rfl

theorem Dev.rejectNoted_kept (d : Dev) (c : Nat) (off : Bool) (m : Option Int) : Dev.RdKept [lrnAddr off c] d (d.rejectNoted c off m)
    ∧ ∀ blank, Dev.SameBut blank d (d.rejectNoted c off m) := by
  unfold Dev.rejectNoted
  cases m with
  | none => exact ⟨((Dev.RdKept.refl _ d).setBit (by simp) 31 false).setFld (by simp) _ _ _, fun blank =>
      ((Dev.SameBut.refl blank d).setBit _ _ _).setFld _ _ _ _⟩
  | some v => exact ⟨(((Dev.RdKept.refl _ d).setBit (by simp) 31 false).setFld (by simp) _ _ _).setFld (by simp) _ _ _, fun blank =>
      (((Dev.SameBut.refl blank d).setBit _ _ _).setFld _ _ _ _).setFld _ _ _ _⟩

theorem Dev.rejectLost_kept (d : Dev) (c run was most : Nat) :
    Dev.RdKept (lostWords c ++ [Reg.FAULT pLAT, Reg.REC_SUPP_TOTAL]) d (d.rejectLost c run was most)
      ∧ Dev.SameBut (fun d => { d with rcf := {} }) d (d.rejectLost c run was most) := by
  unfold Dev.rejectLost
  split
  · exact ⟨((d.setLost_rdKept c true).mono fun _ h => List.mem_append_left _ h).faultRec (by simp) (by simp [lostWords]) (by simp) _ _ _ _,
      (d.setLost_sameBut _ c true).faultRec (fun _ _ => rfl) _ _ _ _ _⟩
  · exact ⟨.refl _ d, .refl _ d⟩

theorem latCounts_faults {c : Nat} (hc : c < 512) : ∀ a ∈ [Reg.LAT_MEAS_REJ, Reg.LAT_LAST_REJ],
    a ∉ lostWords c ++ [Reg.FAULT pLAT, Reg.REC_SUPP_TOTAL] := by
  simp only [lostWords, List.cons_append, List.nil_append, List.mem_cons, List.not_mem_nil, or_false, forall_eq_or_imp, forall_eq,
    Reg.LAT_MEAS_REJ, Reg.LAT_LAST_REJ, Reg.LAT_LRN_LOST, Reg.IRQ_RAW, Reg.FAULT, pLAT, Reg.REC_SUPP_TOTAL]
  omega

theorem Dev.rejectMeas_spec (d : Dev) {c : Nat} (hc : c < 512) (off : Bool) (m : Option Int) {why : Nat} (hwhy : why < 5) :
    (d.rejectMeas c off m why).rd Reg.LAT_MEAS_REJ = d.rd Reg.LAT_MEAS_REJ + 1#32
      ∧ (d.rejectMeas c off m why).rdN Reg.LAT_LAST_REJ = why * 2 ^ 13 + (if off then 2 ^ 12 else 0) + c
      ∧ Dev.SameBut (fun d => { d with rcf := {} }) d (d.rejectMeas c off m why) ∧ Dev.RdKept (latWords c) d (d.rejectMeas c off m why) := by
  rw [d.rejectMeas_eq]
  let a := d.rejectNoted c off m
  let b := a.rejectCounted c off why
  obtain ⟨hakept, hasame⟩ := d.rejectNoted_kept c off m
  obtain ⟨hlkept, hlsame⟩ := b.rejectLost_kept c (min 63 (d.fld (lrnAddr off c) 29 24 + 1)) (d.fld (lrnAddr off c) 29 24) (d.rdN Reg.LAT_REJ_MAX)
  have hfault := latCounts_faults hc
  obtain ⟨hlrn, -⟩ := latCounts_apart hc off Reg.LAT_MEAS_REJ (by simp)
  refine ⟨?_, ?_, ((hasame _).trans (((Dev.SameBut.refl _ a).wr _ _).wr _ _)).trans hlsame, ?_⟩
  · refine (hlkept _ (hfault _ (by simp))).trans ((Dev.rd_wr_ne (a.inc Reg.LAT_MEAS_REJ) _ (by decide)).trans ?_)
    exact (Dev.rd_wr_same a Reg.LAT_MEAS_REJ _).trans (congrArg (· + 1#32) (hakept _ hlrn))
  · refine (congrArg BitVec.toNat ((hlkept _ (hfault _ (by simp))).trans (Dev.rd_wr_same (a.inc Reg.LAT_MEAS_REJ) Reg.LAT_LAST_REJ _))).trans ?_
    refine Nat.mod_eq_of_lt ?_
    cases off
    · simp only [Bool.false_eq_true, if_false]; omega
    · simp only [if_true]; omega
  · refine ((hakept.mono fun x hx => by rw [List.mem_singleton.mp hx]; exact lrnAddr_mem off c).trans ?_).trans (hlkept.mono ?_)
    · exact ((Dev.RdKept.refl _ a).wr (by simp [latWords]) _).wr (by simp [latWords]) _
    · intro x hx
      rcases List.mem_append.mp hx with h | h
      · exact lostWords_sub h
      · simp only [List.mem_cons, List.not_mem_nil, or_false] at h
        rcases h with rfl | rfl <;> simp [latWords]

/-! A signature judged (R259, R260) -/

/-- The signature of an actuation looked at. -/
def Chan.sigDone (closing : Bool) (x : Chan) : Chan := if closing then { x with sigOffDone := true } else { x with sigOnDone := true }

/-- A signature is due. -/
def Dev.sigDue (d : Dev) (c : Nat) (closing : Bool) : Bool :=
  if closing then !(d.chan c).sigOffDone && (d.chan c).tOff.isSome else !(d.chan c).sigOnDone

/-- The instant of a signature. -/
def Dev.sigAt (d : Dev) (c : Nat) (closing : Bool) (sig : Nat) : Dev :=
  d.toTick ((if closing then (d.chan c).tOff.getD 0 else (d.chan c).tOn) + sig / 4)

/-- A measurement judged. -/
def Dev.judged (d : Dev) (c : Nat) (closing : Bool) (m : Option Int) : Dev :=
  if d.learns c then
    match d.rejects c closing m, m with
    | none, some v => d.acceptMeas c closing v.toNat
    | some w, _ => d.rejectMeas c closing m w
    | none, none => d
  else d

/-- The measurement that a signature gives, in µs. -/
def Dev.measOf (d : Dev) (c : Nat) (closing : Bool) (sig : Nat) : Int := ((sig + 500) / 1000 : Nat) + d.sigOfs closing c

theorem exec_latencySignature_some (c : Fin 512) (closing : Bool) (sig : Nat) (s : State) : exec (.latencySignature c closing (some sig)) s
    = .next (onDev (fun d => if d.profiled c && d.sigDue c closing then
        ((d.sigAt c closing sig).modChan c (Chan.sigDone closing)).judged c closing (some ((d.sigAt c closing sig).measOf c closing sig)) else d) s) := rfl

theorem exec_latencySignature_none (c : Fin 512) (closing : Bool) (s : State) : exec (.latencySignature c closing none) s
    = .next (onDev (fun d => if d.profiled c && d.sigDue c closing then (d.modChan c (Chan.sigDone closing)).judged c closing none else d) s) := rfl

/-- What the judgement of a measurement reads of a channel. -/
def Chan.judgedBy (x : Chan) : Bool × Bool × Option Nat × Nat := (x.degraded, x.merged, x.tOff, x.tOn)

theorem Dev.rejects_congr {d e : Dev} {c : Nat} (hregs : e.regs = d.regs) (hchan : (e.chan c).judgedBy = (d.chan c).judgedBy) (off : Bool) (m : Option Int) :
    e.rejects c off m = d.rejects c off m := by
  simp only [Chan.judgedBy, Prod.mk.injEq] at hchan
  obtain ⟨hdeg, hmerged, hoff, hon⟩ := hchan
  unfold Dev.rejects Dev.latBounds Dev.fld
  simp only [Dev.rd_of_regs hregs, hdeg, hmerged, hoff, hon]

theorem Chan.sigDone_judgedBy (closing : Bool) (x : Chan) : (x.sigDone closing).judgedBy = x.judgedBy := by
  cases closing <;> rfl

theorem Chan.sigDone_latUpd (closing : Bool) (x : Chan) : (x.sigDone closing).latUpd = x.latUpd := by
  cases closing <;> rfl

/-- A signature looked at leaves the part but for the time and the channel's mark. -/
structure Dev.SigSeen (c : Nat) (d e : Dev) : Prop where
  regs : e.regs = d.regs
  judged : (e.chan c).judgedBy = (d.chan c).judgedBy
  upd : (e.chan c).latUpd = (d.chan c).latUpd
  bwk : e.bwk = d.bwk
  eds : e.eds = d.eds

theorem Dev.sigSeen_modChan (d : Dev) (c : Nat) (closing : Bool) : Dev.SigSeen c d (d.modChan c (Chan.sigDone closing)) where
  regs := rfl
  judged := (congrArg Chan.judgedBy (Dev.chan_modChan_same d c (Chan.sigDone closing))).trans (Chan.sigDone_judgedBy closing _)
  upd := (congrArg Chan.latUpd (Dev.chan_modChan_same d c (Chan.sigDone closing))).trans (Chan.sigDone_latUpd closing _)
  bwk := rfl
  eds := rfl

theorem Dev.sigSeen_sigAt (d : Dev) (c : Nat) (closing : Bool) (sig : Nat) : Dev.SigSeen c d (d.sigAt c closing sig) where
  regs := rfl
  judged := rfl
  upd := rfl
  bwk := rfl
  eds := rfl

theorem Dev.SigSeen.trans {c : Nat} {d e f : Dev} (h : Dev.SigSeen c d e) (h' : Dev.SigSeen c e f) : Dev.SigSeen c d f where
  regs := h'.regs.trans h.regs
  judged := h'.judged.trans h.judged
  upd := h'.upd.trans h.upd
  bwk := h'.bwk.trans h.bwk
  eds := h'.eds.trans h.eds

theorem Dev.SigSeen.learns {c : Nat} {d e : Dev} (h : Dev.SigSeen c d e) : e.learns c = d.learns c := by
  unfold Dev.learns Dev.bit
  rw [Dev.rd_of_regs h.regs, Dev.rd_of_regs h.regs]

theorem Dev.measOf_congr {d e : Dev} (h : e.regs = d.regs) (c : Nat) (closing : Bool) (sig : Nat) : e.measOf c closing sig = d.measOf c closing sig := by
  unfold Dev.measOf Dev.sigOfs
  rw [Dev.rd_of_regs h]

theorem Dev.judged_accepts {d : Dev} {c : Nat} {closing : Bool} {v : Int} (hl : d.learns c = true) (h : d.rejects c closing (some v) = none) :
    d.judged c closing (some v) = d.acceptMeas c closing v.toNat := by
  unfold Dev.judged
  rw [if_pos hl, h]

theorem Dev.judged_rejects {d : Dev} {c : Nat} {closing : Bool} {m : Option Int} {why : Nat} (hl : d.learns c = true)
    (h : d.rejects c closing m = some why) : d.judged c closing m = d.rejectMeas c closing m why := by
  unfold Dev.judged
  rw [if_pos hl, h]

theorem Dev.rejects_lt {d : Dev} {c : Nat} {closing : Bool} {m : Option Int} {why : Nat} (h : d.rejects c closing m = some why) : why < 5 := by
  have hall : ∀ w, d.rejects c closing m = some w → w < 5 := by
    unfold Dev.rejects
    refine iteInduction (motive := fun o => ∀ w, o = some w → w < 5) (fun _ w hw => by cases hw; decide) fun _ => ?_
    refine iteInduction (motive := fun o => ∀ w, o = some w → w < 5) (fun _ w hw => by cases hw; decide) fun _ => ?_
    refine iteInduction (motive := fun o => ∀ w, o = some w → w < 5) (fun _ w hw => by cases hw; decide) fun _ => ?_
    cases m with
    | none => intro w hw; cases hw; decide
    | some v =>
      refine iteInduction (motive := fun o => ∀ w, o = some w → w < 5) (fun _ w hw => by cases hw; decide) fun _ w hw => ?_
      cases hw
  exact hall why h

/-- What a measurement keeps. -/
def LatSame (s t : State) : Prop :=
  (∀ k, t.dev.rd (Reg.LAT_ON k) = s.dev.rd (Reg.LAT_ON k) ∧ t.dev.rd (Reg.LAT_OFF k) = s.dev.rd (Reg.LAT_OFF k))
    ∧ t.ldg = s.ldg ∧ t.rcd = s.rcd ∧ t.dev.bwk = s.dev.bwk ∧ t.dev.eds = s.dev.eds

theorem Dev.RdKept.lat {c : Nat} (hc : c < 512) {d e : Dev} (h : Dev.RdKept (latWords c) d e) (k : Nat) :
    e.rd (Reg.LAT_ON k) = d.rd (Reg.LAT_ON k) ∧ e.rd (Reg.LAT_OFF k) = d.rd (Reg.LAT_OFF k) :=
  ⟨h _ (lat_not_mem_latWords hc k).1, h _ (lat_not_mem_latWords hc k).2⟩

section
variable {c : Fin 512} {closing : Bool} {d e : Dev} (hseen : Dev.SigSeen c d e) (hlearns : d.learns c = true)
include hseen hlearns

theorem Dev.SigSeen.accepted {v : Int} (h : d.rejects c closing (some v) = none) :
    (e.judged c closing (some v)).rd Reg.LAT_MEAS_ACC = d.rd Reg.LAT_MEAS_ACC + 1#32
      ∧ ((e.judged c closing (some v)).chan c).latUpd = (d.chan c).latUpd ++ [(closing, v.toNat)]
      ∧ (∀ k, (e.judged c closing (some v)).rd (Reg.LAT_ON k) = d.rd (Reg.LAT_ON k) ∧ (e.judged c closing (some v)).rd (Reg.LAT_OFF k) = d.rd (Reg.LAT_OFF k))
      ∧ (e.judged c closing (some v)).bwk = d.bwk ∧ (e.judged c closing (some v)).eds = d.eds := by
  obtain ⟨hacc, hupd, hsame, hkept⟩ := e.acceptMeas_spec c.isLt closing v.toNat
  rw [Dev.judged_accepts (hseen.learns.trans hlearns) ((Dev.rejects_congr hseen.regs hseen.judged closing (some v)).trans h)]
  have hrd (a : Nat) : e.rd a = d.rd a := Dev.rd_of_regs hseen.regs a
  exact ⟨hacc.trans (congrArg (· + 1#32) (hrd _)), hupd.trans (congrArg (· ++ [(closing, v.toNat)]) hseen.upd),
    fun k => ⟨((hkept.lat c.isLt k).1).trans (hrd _), ((hkept.lat c.isLt k).2).trans (hrd _)⟩,
    (hsame.proj (·.bwk) (fun _ => rfl)).trans hseen.bwk, (hsame.proj (·.eds) (fun _ => rfl)).trans hseen.eds⟩

theorem Dev.SigSeen.rejected {m : Option Int} {why : Nat} (h : d.rejects c closing m = some why) :
    (e.judged c closing m).rd Reg.LAT_MEAS_REJ = d.rd Reg.LAT_MEAS_REJ + 1#32
      ∧ (e.judged c closing m).rdN Reg.LAT_LAST_REJ = why * 2 ^ 13 + (if closing then 2 ^ 12 else 0) + c
      ∧ ((e.judged c closing m).chan c).latUpd = (d.chan c).latUpd ∧ (e.judged c closing m).tm = e.tm
      ∧ (∀ k, (e.judged c closing m).rd (Reg.LAT_ON k) = d.rd (Reg.LAT_ON k) ∧ (e.judged c closing m).rd (Reg.LAT_OFF k) = d.rd (Reg.LAT_OFF k))
      ∧ (e.judged c closing m).bwk = d.bwk ∧ (e.judged c closing m).eds = d.eds := by
  obtain ⟨hrej, hlast, hsame, hkept⟩ := e.rejectMeas_spec c.isLt closing m (Dev.rejects_lt h)
  rw [Dev.judged_rejects (hseen.learns.trans hlearns) ((Dev.rejects_congr hseen.regs hseen.judged closing m).trans h)]
  have hrd (a : Nat) : e.rd a = d.rd a := Dev.rd_of_regs hseen.regs a
  have hch : (e.rejectMeas c closing m why).drv.ch = e.drv.ch := hsame.proj (·.drv.ch) (fun _ => rfl)
  exact ⟨hrej.trans (congrArg (· + 1#32) (hrd _)), hlast, (congrArg Chan.latUpd (Dev.chan_of_ch hch c)).trans hseen.upd, hsame.proj (·.tm) (fun _ => rfl),
    fun k => ⟨((hkept.lat c.isLt k).1).trans (hrd _), ((hkept.lat c.isLt k).2).trans (hrd _)⟩,
    (hsame.proj (·.bwk) (fun _ => rfl)).trans hseen.bwk, (hsame.proj (·.eds) (fun _ => rfl)).trans hseen.eds⟩
end

section
variable {c : Fin 512} {closing : Bool} {s : State} (hprof : s.dev.profiled c = true) (hdue : s.dev.sigDue c closing = true)
include hprof hdue

theorem exec_latencySignature_seen (sig : Nat) : exec (.latencySignature c closing (some sig)) s
    = .next (onDev (fun d => ((d.sigAt c closing sig).modChan c (Chan.sigDone closing)).judged c closing (some (d.measOf c closing sig))) s) := by
  refine (exec_latencySignature_some c closing sig s).trans (congrArg Host.Outcome.next (onDev_congr ((if_pos (by rw [hprof, hdue]; rfl)).trans ?_)))
  rw [Dev.measOf_congr (s.dev.sigSeen_sigAt c closing sig).regs]

theorem exec_latencySignature_missed : exec (.latencySignature c closing none) s
    = .next (onDev (fun d => (d.modChan c (Chan.sigDone closing)).judged c closing none) s) :=
  (exec_latencySignature_none c closing s).trans (congrArg Host.Outcome.next (onDev_congr (if_pos (by rw [hprof, hdue]; rfl))))

theorem latencySignature_accepted {sig : Nat} (hlearns : s.dev.learns c = true)
    (h : s.dev.rejects c closing (some (s.dev.measOf c closing sig)) = none) :
    ∃ t, exec (.latencySignature c closing (some sig)) s = .next t ∧ t.dev.rd Reg.LAT_MEAS_ACC = s.dev.rd Reg.LAT_MEAS_ACC + 1#32
      ∧ (t.dev.chan c).latUpd = (s.dev.chan c).latUpd ++ [(closing, (s.dev.measOf c closing sig).toNat)] ∧ LatSame s t := by
  have hseen := (s.dev.sigSeen_sigAt c closing sig).trans ((s.dev.sigAt c closing sig).sigSeen_modChan c closing)
  obtain ⟨hacc, hupd, hlat, hbwk, heds⟩ := hseen.accepted hlearns h
  exact ⟨_, exec_latencySignature_seen hprof hdue sig, hacc, hupd, hlat, rfl, rfl, hbwk, heds⟩

theorem latencySignature_rejected {sig why : Nat} (hlearns : s.dev.learns c = true)
    (h : s.dev.rejects c closing (some (s.dev.measOf c closing sig)) = some why) :
    ∃ t, exec (.latencySignature c closing (some sig)) s = .next t ∧ t.dev.rd Reg.LAT_MEAS_REJ = s.dev.rd Reg.LAT_MEAS_REJ + 1#32
      ∧ t.dev.rdN Reg.LAT_LAST_REJ = why * 2 ^ 13 + (if closing then 2 ^ 12 else 0) + c ∧ (t.dev.chan c).latUpd = (s.dev.chan c).latUpd ∧ LatSame s t := by
  have hseen := (s.dev.sigSeen_sigAt c closing sig).trans ((s.dev.sigAt c closing sig).sigSeen_modChan c closing)
  obtain ⟨hrej, hlast, hupd, -, hlat, hbwk, heds⟩ := hseen.rejected hlearns h
  exact ⟨_, exec_latencySignature_seen hprof hdue sig, hrej, hlast, hupd, hlat, rfl, rfl, hbwk, heds⟩

theorem latencySignature_missing {why : Nat} (hlearns : s.dev.learns c = true) (h : s.dev.rejects c closing none = some why) :
    ∃ t, exec (.latencySignature c closing none) s = .next t ∧ t.dev.rd Reg.LAT_MEAS_REJ = s.dev.rd Reg.LAT_MEAS_REJ + 1#32
      ∧ t.dev.rdN Reg.LAT_LAST_REJ = why * 2 ^ 13 + (if closing then 2 ^ 12 else 0) + c ∧ t.dev.tm = s.dev.tm ∧ LatSame s t := by
  obtain ⟨hrej, hlast, -, htm, hlat, hbwk, heds⟩ := (s.dev.sigSeen_modChan c closing).rejected hlearns h
  exact ⟨_, exec_latencySignature_missed hprof hdue, hrej, hlast, htm, hlat, rfl, rfl, hbwk, heds⟩
end

/-! An entry of the table damaged (R362) -/

/-- The entry of a channel reloaded at the turn. -/
def Chan.reloads (x : Chan) : Chan := { x with latReload := true }

/-- LATENCY_TABLE_ECC_ERROR. -/
def Dev.latDamaged (d : Dev) (c : Nat) : Dev := ((d.modChan c Chan.reloads).setLost c true).faultRec pLAT fECC [] objIsChannel c

theorem Dev.setLost_bit (d : Dev) {c : Nat} (v : Bool) : (d.setLost c v).mapBit (Reg.LAT_LRN_LOST 0) c = v := by
  have h : (d.setMapBit (Reg.LAT_LRN_LOST 0) c v).mapBit (Reg.LAT_LRN_LOST 0) c = v :=
    Dev.bit_setBit_same d (Reg.LAT_LRN_LOST 0 + 4 * (c / 32)) v (Nat.mod_lt _ (by decide))
  have hne : Reg.LAT_LRN_LOST 0 + 4 * (c / 32) ≠ Reg.IRQ_RAW pLAT := by
    simp only [Reg.LAT_LRN_LOST, Reg.IRQ_RAW, pLAT]
    omega
  unfold Dev.setLost
  extract_lets was e
  split
  · exact (congrArg (bitOf · (c % 32)) (Dev.rd_irq_ne e pLAT 16 hne)).trans h
  · exact h

theorem latencyTable_damaged (c : Fin 512) (s : State) :
    ∃ t, exec (.latencyTableEccError c) s = .next t ∧ (t.dev.chan c).latReload = true ∧ t.dev.mapBit (Reg.LAT_LRN_LOST 0) c = true
      ∧ t.dev.bit (Reg.FAULT pLAT) 3 = true ∧ (∀ k, k ≠ c.val → t.dev.chan k = s.dev.chan k) ∧ LatSame s t := by
  let a := s.dev.modChan c Chan.reloads
  let b := a.setLost c true
  have hne : Reg.LAT_LRN_LOST 0 + 4 * (c.val / 32) ≠ Reg.FAULT pLAT ∧ Reg.LAT_LRN_LOST 0 + 4 * (c.val / 32) ≠ Reg.IRQ_RAW pLAT
      ∧ Reg.LAT_LRN_LOST 0 + 4 * (c.val / 32) ≠ Reg.REC_SUPP_TOTAL := by
    have := c.isLt
    simp only [Reg.LAT_LRN_LOST, Reg.IRQ_RAW, Reg.FAULT, pLAT, Reg.REC_SUPP_TOTAL]
    omega
  obtain ⟨hfault, hirq, hsupp⟩ := hne
  have hsame : Dev.SameBut (fun d => { d with rcf := {} }) a (s.dev.latDamaged c) := (a.setLost_sameBut _ c true).faultRec (fun _ _ => rfl) _ _ _ _ _
  have hkept : Dev.RdKept (latWords c) s.dev (s.dev.latDamaged c) :=
    (((Dev.RdKept.ofRegs _ (s.dev.modChan_regs c Chan.reloads)).trans ((a.setLost_rdKept c true).mono fun _ => lostWords_sub))).faultRec
      (by simp [latWords]) (by simp [latWords]) (by simp [latWords]) _ _ _ _
  have hch : (s.dev.latDamaged c).drv.ch = a.drv.ch := hsame.proj (·.drv.ch) (fun _ => rfl)
  refine ⟨onDev (·.latDamaged c) s, rfl, ?_, ?_, Dev.bit_faultRec b pLAT (by decide), fun k hk => ?_, fun k => hkept.lat c.isLt k, rfl, rfl,
    (hsame.proj (·.bwk) (fun _ => rfl)).trans rfl, (hsame.proj (·.eds) (fun _ => rfl)).trans rfl⟩
  · exact congrArg Chan.latReload ((Dev.chan_of_ch hch c).trans (Dev.chan_modChan_same s.dev c Chan.reloads))
  · exact (congrArg (bitOf · (c.val % 32)) (Dev.rd_faultRec_ne b pLAT fECC hfault hirq hsupp)).trans (a.setLost_bit true)
  · exact (Dev.chan_of_ch hch k).trans (Dev.chan_modChan_ne s.dev Chan.reloads hk)

/-! The diagnostic stream (R275) -/

/-- The words of the stream that a read gives. -/
def Dev.diagWords (d : Dev) (n : Nat) : List W32 := ((d.dia.host.flatMap (fun f => f.flatMap id)).drop d.dia.pos).take n

/-- The stream with words taken off its front. -/
def Dev.diagTaken (d : Dev) (n : Nat) : Dev :=
  { d with dia := { d.dia with
    host := (takeStream (d.diagWords n).length d.dia.pos d.dia.host).1, pos := (takeStream (d.diagWords n).length d.dia.pos d.dia.host).2 } }

/-- DIAG_PORT. -/
def Dev.diagGives (n : Nat) (d : Dev) : List W32 × Dev :=
  if d.bit Reg.DIAG_DIAG_CTRL 0 then (d.diagWords n, (d.diagTaken n).diagShow) else ([], d)

theorem Dev.diagShow_kept (d : Dev) : Dev.RdKept [Reg.DIAG_DIAG_LEVEL, Reg.IRQ_RAW pDIAG] d d.diagShow ∧ ∀ blank, Dev.SameBut blank d d.diagShow := by
  unfold Dev.diagShow
  extract_lets was thr now e
  have hkept : Dev.RdKept [Reg.DIAG_DIAG_LEVEL, Reg.IRQ_RAW pDIAG] d e := (Dev.RdKept.refl _ d).wr (by simp) _
  have hsame : ∀ blank, Dev.SameBut blank d e := fun blank => (Dev.SameBut.refl blank d).wr _ _
  split
  · exact ⟨hkept.irq (by simp) 16, fun blank => (hsame blank).irq _ _⟩
  · exact ⟨hkept, hsame⟩

theorem Dev.diagGives_kept (n : Nat) (d : Dev) : Dev.RdKept [Reg.DIAG_DIAG_LEVEL, Reg.IRQ_RAW pDIAG] d (Dev.diagGives n d).2
    ∧ (Dev.diagGives n d).2.bwk = d.bwk ∧ (Dev.diagGives n d).2.eds = d.eds ∧ (Dev.diagGives n d).2.dia.sums = d.dia.sums := by
  unfold Dev.diagGives
  split
  · obtain ⟨hkept, hsame⟩ := (d.diagTaken n).diagShow_kept
    exact ⟨((Dev.RdKept.refl _ d).struct (e' := d.diagTaken n) rfl).trans hkept, (hsame id).proj (·.bwk) (fun _ => rfl),
      (hsame id).proj (·.eds) (fun _ => rfl), (hsame id).proj (·.dia.sums) (fun _ => rfl)⟩
  · exact ⟨.refl _ d, rfl, rfl, rfl⟩

theorem Dev.diagGives_shows (n : Nat) (d : Dev) : (Dev.diagGives n d).1 = (if d.bit Reg.DIAG_DIAG_CTRL 0 then d.diagWords n else [])
    ∧ (Dev.diagGives n d).2.dia = if d.bit Reg.DIAG_DIAG_CTRL 0 then (d.diagTaken n).dia else d.dia := by
  unfold Dev.diagGives
  split
  · exact ⟨rfl, ((d.diagTaken n).diagShow_kept.2 id).proj (·.dia) (fun _ => rfl)⟩
  · exact ⟨rfl, rfl⟩

theorem lat_not_mem_diag (k : Nat) : Reg.LAT_ON k ∉ [Reg.DIAG_DIAG_LEVEL, Reg.IRQ_RAW pDIAG, Reg.STATUS pDIAG]
    ∧ Reg.LAT_OFF k ∉ [Reg.DIAG_DIAG_LEVEL, Reg.IRQ_RAW pDIAG, Reg.STATUS pDIAG] := by
  simp only [List.mem_cons, List.not_mem_nil, or_false, Reg.LAT_ON, Reg.LAT_OFF, Reg.DIAG_DIAG_LEVEL, Reg.IRQ_RAW, Reg.STATUS, pDIAG]
  omega

theorem diagStreamRead_gives {req : Requester} {n : Nat} {s : State} (h : Readable req Reg.DIAG_DIAG_PORT s) :
    ∃ t, exec (.diagStreamRead req n) s = .next t
      ∧ answerTo req t = ⟨.ok, (Dev.diagGives n s.dev).1.length, (Dev.diagGives n s.dev).1⟩
      ∧ t.dev.dia = (Dev.diagGives n s.dev).2.dia ∧ LatSame s t := by
  obtain ⟨k, hk⟩ := hostPort_dev (n := n) h Dev.diagGives
  obtain ⟨rs, f, hdev⟩ := portRead_dev req Reg.DIAG_DIAG_PORT n (Dev.diagGives n (s.woken k).dev) (s.woken k)
  obtain ⟨hkept, hbwk, heds, -⟩ := (s.woken k).dev.diagGives_kept n
  have hregs : regsKept [Reg.DIAG_DIAG_LEVEL, Reg.IRQ_RAW pDIAG, Reg.STATUS pDIAG] s
      (portRead req Reg.DIAG_DIAG_PORT n (Dev.diagGives n (s.woken k).dev) (s.woken k)) :=
    portRead_regsKept (by decide) _ _ _ (hkept.mono (by decide))
  have hgives : (Dev.diagGives n (s.woken k).dev).1 = (Dev.diagGives n s.dev).1 ∧ (Dev.diagGives n (s.woken k).dev).2.dia = (Dev.diagGives n s.dev).2.dia := by
    obtain ⟨hws, hdia⟩ := Dev.diagGives_shows n (s.woken k).dev
    obtain ⟨hws', hdia'⟩ := Dev.diagGives_shows n s.dev
    exact ⟨hws.trans hws'.symm, hdia.trans hdia'.symm⟩
  refine ⟨_, congrArg Host.Outcome.next hk, ?_, (congrArg Dev.dia hdev).trans hgives.2,
    fun j => ⟨hregs _ (lat_not_mem_diag j).1, hregs _ (lat_not_mem_diag j).2⟩, rfl, rfl, ((congrArg Dev.bwk hdev).trans rfl).trans hbwk,
    ((congrArg Dev.eds hdev).trans rfl).trans heds⟩
  rw [← hgives.1]
  exact answerTo_portRead _ _ _ _ _

/-- Settles O42. -/
theorem latencyAndDiagnostics : Obligations.LatencyAndDiagnostics := by
  unfold Obligations.LatencyAndDiagnostics
  intro req c closing sig n why s m due same
  refine ⟨fun hprof hdue hlearns => ⟨latencySignature_accepted hprof hdue hlearns, latencySignature_rejected hprof hdue hlearns,
    latencySignature_missing hprof hdue hlearns⟩, latencyTable_damaged c s, fun h => ⟨fun hen => ?_, fun hen => ?_⟩⟩
  · obtain ⟨t, ht, hans, hdia, hsame⟩ := diagStreamRead_gives (n := n) h
    have hgives : Dev.diagGives n s.dev = (s.dev.diagWords n, (s.dev.diagTaken n).diagShow) := if_pos hen
    refine ⟨t, ht, ?_, (congrArg DiagEngine.sums hdia).trans (s.dev.diagGives_kept n).2.2.2, hsame⟩
    rw [hans, hgives]
    rfl
  · obtain ⟨t, ht, hans, hdia, hsame⟩ := diagStreamRead_gives (n := n) h
    have hgives : Dev.diagGives n s.dev = ([], s.dev) := if_neg (Bool.eq_false_iff.mp hen)
    refine ⟨t, ht, ?_, ?_, hsame⟩
    · rw [hans, hgives]
      rfl
    · rw [hdia, hgives]

end Sys2Proof.Machine
end

section
/-! PROOFS. Acquisition, and the queues of results, epochs and navigation words (R145 to R157). -/
namespace Sys2Proof.Machine

theorem Accepts.powerState_le {q : Requester} {a : Nat} {v : W32} {s : State} (h : Accepts q a v s) : s.dev.powerState ≤ 1 :=
  of_decide_eq_true (Bool.and_eq_true_iff.mp h.up).1

/-! The next job (R146, R161) -/

theorem Dev.acqNext_gps (d : Dev) : d.acqNext.gps = d.acqTaken.gps := rfl

theorem Dev.acqNext_starts {d : Dev} {j : AcqJob} {r : List AcqJob} (hrun : d.gps.running = none) (hwait : d.gps.waiting = none)
    (hjobs : d.gps.jobs = j :: r) (hclk : d.clockLost 6 = false) (hpow : d.powerState ≤ 1) :
    d.acqNext.gps = { d.gps with running := some (j, d.smp), jobs := r } := by
  have hgo : ¬((d.clockLost 6 || decide (d.powerState > 1)) = true) := by
    rw [hclk, decide_eq_false (show ¬d.powerState > 1 by omega)]; decide
  rw [Dev.acqNext_gps, Dev.acqTaken, hrun, hwait, hjobs]
  refine (congrArg Dev.gps (if_neg hgo)).trans ?_
  split <;> rfl

theorem Dev.acqNext_busy {d : Dev} (h : d.gps.running.isSome = true ∨ d.gps.jobs = []) : d.acqNext.gps = d.gps := by
  rw [Dev.acqNext_gps, Dev.acqTaken]
  split
  · next hrun _ hjobs => simp [hrun, hjobs] at h
  · rfl

theorem Dev.acqNext_sameBut {blank : Dev → Dev} (hg : ForgetsGps blank) (d : Dev) : Dev.SameBut blank d d.acqNext := by
  obtain ⟨-, rs, r, j, h⟩ := d.acqNext_spec
  unfold Dev.SameBut
  rw [h]
  exact hg { d with regs := [] } _

/-! JOB_PUSH and ACQ_FLUSH -/

/-- The registers describe a job, and the queue has room. -/
def Dev.jobFits (d : Dev) : Bool := d.acqJob.ok && d.gps.jobs.length < 16

/-- The job of the registers joins the queue. -/
def Dev.jobQueued (d : Dev) : Dev := { d with gps := { d.gps with jobs := d.gps.jobs ++ [d.acqJob] } }

theorem exec_jobPush (req : Requester) (v : W32) (s : State) : exec (.jobPush req v) s
    = .next (hostCmd req Reg.ACQ_JOB_PUSH v (actIf Reg.ACQ_JOB_PUSH Dev.jobFits (·.jobQueued.acqNext))
      (arrived Reg.ACQ_JOB_PUSH s)) := rfl

theorem answeredOk_gps (q : Requester) (a : Nat) (s : State) : (answeredOk q a s).dev.gps = s.dev.gps := rfl

theorem jobPush_taken {req : Requester} {v : W32} {s : State} (h : Accepts req Reg.ACQ_JOB_PUSH v s) (hok : s.dev.acqJob.ok = true)
    (hroom : s.dev.gps.jobs.length < 16) (j : AcqJob) (start : Nat) :
    ∃ t, hostCmd req Reg.ACQ_JOB_PUSH v (actIf Reg.ACQ_JOB_PUSH Dev.jobFits (·.jobQueued.acqNext)) s = t
      ∧ answerTo req t = ⟨.ok, 1, []⟩
      ∧ (s.dev.gps.running = none → s.dev.gps.waiting = none → s.dev.gps.jobs = [] → s.dev.clockLost 6 = false →
          t.dev.gps.running = some (s.dev.acqJob, s.dev.smp) ∧ t.dev.gps.jobs = [])
      ∧ (s.dev.gps.running = some (j, start) → t.dev.gps.running = some (j, start) ∧ t.dev.gps.jobs = s.dev.gps.jobs ++ [s.dev.acqJob])
      ∧ differOnly (fun d => { d with gps := {}, fab := {}, pow := {} }) s t ∧ regsKept [Reg.ACQ_ACQ_STATE, Reg.IRQ_RAW pACQ] s t := by
  have hgo (k : Nat) : (s.woken k).dev.jobFits = true :=
    Bool.and_eq_true_iff.mpr ⟨hok, decide_eq_true hroom⟩
  obtain ⟨k, hk⟩ := hostCmd_taken h (·.jobQueued.acqNext) hgo
  let e := (s.woken k).dev.jobQueued
  have hgps : (answeredOk req Reg.ACQ_JOB_PUSH (onDev (·.jobQueued.acqNext) (s.woken k))).dev.gps = e.acqNext.gps := rfl
  refine ⟨_, hk, answerTo_answeredOk _ _ _, fun hrun hwait hjobs hclk => ?_, fun hrun => ?_,
    answeredOk_differOnly (fun _ _ => rfl) (fun _ _ => rfl) _ _ _ fun d => ?_, answeredOk_regsKept _ _ _ fun d => ?_⟩
  · have hqueue : e.gps.jobs = [s.dev.acqJob] := congrArg (· ++ [s.dev.acqJob]) hjobs
    rw [hgps, Dev.acqNext_starts (d := e) hrun hwait hqueue hclk h.powerState_le]
    exact ⟨rfl, rfl⟩
  · have hbusy : e.gps.running = some (j, start) := hrun
    rw [hgps, Dev.acqNext_busy (.inl (by rw [hbusy]; rfl))]
    exact ⟨hbusy, rfl⟩
  · exact ((Dev.SameBut.refl _ d).gps (fun _ _ => rfl) _).trans (Dev.acqNext_sameBut (fun _ _ => rfl) d.jobQueued)
  · exact ((Dev.RdKept.refl acqTouched d).struct rfl).trans (Dev.acqNext_spec d.jobQueued).1

theorem jobPush_refused {req : Requester} {v : W32} {s : State} (h : Accepts req Reg.ACQ_JOB_PUSH v s)
    (hno : s.dev.acqJob.ok = false ∨ 16 ≤ s.dev.gps.jobs.length) :
    ∃ t, hostCmd req Reg.ACQ_JOB_PUSH v (actIf Reg.ACQ_JOB_PUSH Dev.jobFits (·.jobQueued.acqNext)) s = t
      ∧ answerTo req t = ⟨.len, 0, []⟩ ∧ t.dev.gps = s.dev.gps := by
  have hstop (k : Nat) : (s.woken k).dev.jobFits = false :=
    Bool.and_eq_false_iff.mpr (hno.imp id fun hfull => decide_eq_false (Nat.not_lt.mpr hfull))
  obtain ⟨k, hk⟩ := hostCmd_len h (·.jobQueued.acqNext) hstop
  obtain ⟨rs, f, hd⟩ := lenRefused_dev req Reg.ACQ_JOB_PUSH (targetPage Reg.ACQ_JOB_PUSH) (s.woken k)
  exact ⟨_, hk, answerTo_lenRefused _ _ _ _, (congrArg Dev.gps hd).trans rfl⟩

/-- The queue emptied, and the running job ended. -/
def Dev.acqEmptied (d : Dev) : Dev := ({ d with gps := { d.gps with jobs := [], running := none } }).acqShow

theorem Dev.acqFlush_spec (d : Dev) : d.acqFlush.gps = { d.gps with jobs := [], running := none } ∧ Dev.RdKept acqTouched d d.acqFlush
    ∧ ∀ blank, ForgetsGps blank → Dev.SameBut blank d d.acqFlush := by
  have hrd : Dev.RdKept acqTouched d d.acqEmptied := ((Dev.RdKept.refl _ d).struct (e' := { d with gps := _ }) rfl).wr (by decide) _
  have hsame (blank : Dev → Dev) (hg : ForgetsGps blank) : Dev.SameBut blank d d.acqEmptied := ((Dev.SameBut.refl _ d).gps hg _).wr _ _
  have heq : d.acqFlush = if d.gps.jobs ≠ [] then d.acqEmptied.irq pACQ 17 else d.acqEmptied := by
    unfold Dev.acqFlush Dev.acqEmptied
    by_cases hj : d.gps.jobs = [] <;> simp [hj]
  rw [heq]
  split
  · exact ⟨rfl, hrd.irq (by decide) _, fun blank hg => (hsame blank hg).irq _ _⟩
  · exact ⟨rfl, hrd, hsame⟩

theorem acqFlush_ends {req : Requester} {v : W32} {s : State} (h : Accepts req Reg.ACQ_ACQ_FLUSH v s) :
    ∃ t, hostCmd req Reg.ACQ_ACQ_FLUSH v actAcqFlush s = t ∧ answerTo req t = ⟨.ok, 1, []⟩
      ∧ t.dev.gps = { s.dev.gps with jobs := [], running := none }
      ∧ differOnly (fun d => { d with gps := {}, fab := {}, pow := {} }) s t ∧ regsKept [Reg.ACQ_ACQ_STATE, Reg.IRQ_RAW pACQ] s t := by
  obtain ⟨k, hk⟩ := hostCmd_dev h Dev.acqFlush
  exact ⟨_, hk, answerTo_answeredOk _ _ _, (s.woken k).dev.acqFlush_spec.1,
    answeredOk_differOnly (fun _ _ => rfl) (fun _ _ => rfl) _ _ _ fun d => d.acqFlush_spec.2.2 _ fun _ _ => rfl,
    answeredOk_regsKept _ _ _ fun d => d.acqFlush_spec.2.1⟩

/-! ACQ_JOB_END (R144 to R147) -/

/-- The instant at which a job's samples are in. -/
def Dev.jobDue (d : Dev) (j : AcqJob) (start : Nat) : Dev := d.toTbm (d.smpTbm (start + j.ngrp * j.nc * 16368))

/-- The result waits for room. -/
def Dev.resultWaits (d : Dev) (ws : List W32) : Dev :=
  ({ d with gps := { d.gps with running := none, waiting := some (ws, d.tm.tbm) } }).acqShow

theorem exec_acqJobEnd {j : AcqJob} {start : Nat} {s : State} (hrun : s.dev.gps.running = some (j, start)) (res : AcqOutcome) :
    exec (.acqJobEnd res) s = .next (onDev (fun d =>
      (if ceilDiv (d.jobDue j start).gps.results.length 4 < 16 then (d.jobDue j start).acqResult ((d.jobDue j start).acqWords j start res)
        else (d.jobDue j start).resultWaits ((d.jobDue j start).acqWords j start res)).fwSearch) s) :=
  congrArg Host.Outcome.next (onDev_congr (by rw [hrun]; rfl))

theorem exec_acqJobEnd_room {j : AcqJob} {start : Nat} {s : State} (hrun : s.dev.gps.running = some (j, start))
    (hroom : ceilDiv s.dev.gps.results.length 4 < 16) (res : AcqOutcome) : exec (.acqJobEnd res) s
      = .next (onDev (fun d => ((d.jobDue j start).acqResult ((d.jobDue j start).acqWords j start res)).fwSearch) s) :=
  (exec_acqJobEnd hrun res).trans (congrArg Host.Outcome.next (onDev_congr (congrArg Dev.fwSearch (if_pos hroom))))

theorem exec_acqJobEnd_full {j : AcqJob} {start : Nat} {s : State} (hrun : s.dev.gps.running = some (j, start))
    (hfull : 16 ≤ ceilDiv s.dev.gps.results.length 4) (res : AcqOutcome) : exec (.acqJobEnd res) s
      = .next (onDev (fun d => ((d.jobDue j start).resultWaits ((d.jobDue j start).acqWords j start res)).fwSearch) s) :=
  (exec_acqJobEnd hrun res).trans (congrArg Host.Outcome.next (onDev_congr (congrArg Dev.fwSearch (if_neg (Nat.not_lt.mpr hfull)))))

/-- What the firmware's ownership of the bank is read from. -/
theorem Dev.fwOwns_congr {l : List Nat} {d e : Dev} (h : Dev.RdKept l d e) (hatt : e.att = d.att) (hmode : Reg.MODE pNAV ∉ l)
    (hmp : Reg.WDG_MP_STATE ∉ l) (hpow : Reg.PWR_PWR_STATE ∉ l) (hclk : Reg.STATUS pCLK ∉ l) : e.fwOwns = d.fwOwns := by
  have hm : e.mpRuns = d.mpRuns :=
    congrArg₂ (fun (v w : W32) => decide (v.toNat = 0) && decide (field w 2 0 ≤ 1)) (h _ hmp) (h _ hpow)
  have hc : e.clockLost 6 = d.clockLost 6 := h.bit hclk _
  unfold Dev.fwOwns
  rw [h.bit hmode 0, hm, hatt, hc]

theorem Dev.fwSearch_idle {d : Dev} (h : d.fwOwns = false) : d.fwSearch = d := if_neg (by rw [h]; decide)

/-- The result in the FIFO, before the next job. -/
def Dev.resultIn (d : Dev) (ws : List W32) : Dev :=
  (({ d with gps := { d.gps with results := d.gps.results ++ ws, running := none, waiting := none } }).inc Reg.ACQ_ACQ_DONE).irq pACQ 16

theorem Dev.acqResult_eq (d : Dev) (ws : List W32) : d.acqResult ws = (d.resultIn ws).acqNext := rfl

/-- The words of a result that enters the FIFO. -/
def resultTouched : List Nat := Reg.ACQ_ACQ_DONE :: acqTouched

theorem Dev.resultIn_rdKept (d : Dev) (ws : List W32) : Dev.RdKept resultTouched d (d.resultIn ws) :=
  (((Dev.RdKept.refl _ d).struct (e' := { d with gps := _ }) rfl).wr (by decide) _).irq (by decide) _

theorem Dev.acqResult_rdKept (d : Dev) (ws : List W32) : Dev.RdKept resultTouched d (d.acqResult ws) :=
  (d.resultIn_rdKept ws).trans ((d.resultIn ws).acqNext_spec.1.mono (by decide))

theorem Dev.acqResult_sameBut {blank : Dev → Dev} (hg : ForgetsGps blank) (d : Dev) (ws : List W32) : Dev.SameBut blank d (d.acqResult ws) :=
  ((((Dev.SameBut.refl _ d).gps hg _).wr _ _).irq _ _).trans ((d.resultIn ws).acqNext_sameBut hg)

/-- The start of a job leaves the interrupt of a job's end. -/
theorem Dev.bit_acqNext (d : Dev) : d.acqNext.bit (Reg.IRQ_RAW pACQ) 16 = d.bit (Reg.IRQ_RAW pACQ) 16 := by
  have htaken : d.acqTaken.bit (Reg.IRQ_RAW pACQ) 16 = d.bit (Reg.IRQ_RAW pACQ) 16 := by
    obtain ⟨r, j, h | h⟩ := d.acqTaken_cases
    · rw [h]; rfl
    · rw [h]
      exact (Dev.bit_setBit _ _ _ _ _ (by decide) (by decide)).trans (if_neg (by decide))
  exact (congrArg (bitOf · 16) (Dev.rd_wr_ne _ _ (by decide))).trans htaken

theorem Dev.acqResult_done (d : Dev) (ws : List W32) : (d.acqResult ws).rd Reg.ACQ_ACQ_DONE = d.rd Reg.ACQ_ACQ_DONE + 1#32
    ∧ (d.acqResult ws).bit (Reg.IRQ_RAW pACQ) 16 = true := by
  have hkept : Dev.RdKept acqTouched (d.resultIn ws) (d.acqResult ws) := (d.resultIn ws).acqNext_spec.1
  refine ⟨(hkept _ (by decide)).trans ?_, ?_⟩
  · exact (Dev.rd_irq_ne _ _ _ (by decide)).trans (Dev.rd_wr_same _ _ _)
  · exact (Dev.bit_acqNext _).trans (Dev.bit_irq_same _ _ (by decide))

theorem Dev.acqWords_congr {d e : Dev} (h : e.regs = d.regs) (j : AcqJob) (start : Nat) (r : AcqOutcome) :
    e.acqWords j start r = d.acqWords j start r := by
  have hrd (a : Nat) : e.rd a = d.rd a := congrArg (fun m => sget resetWord m a) h
  unfold Dev.acqWords Dev.portEn Dev.antBit Dev.bit
  simp only [hrd]

/-- A state that differs in register words, the baseband and the time bases keeps the firmware's claim. -/
theorem Dev.fwOwns_acqResult (d : Dev) (ws : List W32) : (d.acqResult ws).fwOwns = d.fwOwns :=
  Dev.fwOwns_congr (d.acqResult_rdKept ws)
    ((d.acqResult_sameBut (blank := fun d => { d with gps := {} }) (fun _ _ => rfl) ws).proj (·.att) fun _ => rfl)
    (by decide) (by decide) (by decide) (by decide)

theorem acqJobEnd_room {j : AcqJob} {start : Nat} {s : State} (hrun : s.dev.gps.running = some (j, start))
    (hroom : ceilDiv s.dev.gps.results.length 4 < 16) (hfw : s.dev.fwOwns = false) (res : AcqOutcome) (j' : AcqJob) :
    ∃ t, exec (.acqJobEnd res) s = .next t ∧ t.dev.gps.results = s.dev.gps.results ++ s.dev.acqWords j start res
        ∧ t.dev.rd Reg.ACQ_ACQ_DONE = s.dev.rd Reg.ACQ_ACQ_DONE + 1#32 ∧ t.dev.bit (Reg.IRQ_RAW pACQ) 16 = true
        ∧ s.dev.smpTbm (start + j.ngrp * j.nc * 16368) ≤ t.dev.tm.tbm
        ∧ (∀ later, s.dev.gps.jobs = j' :: later → s.dev.clockLost 6 = false → s.dev.powerState ≤ 1 →
            ∃ st', t.dev.gps.running = some (j', st') ∧ t.dev.gps.jobs = later)
        ∧ (s.dev.gps.jobs = [] → t.dev.gps.running = none)
        ∧ differOnly (fun d => { d with gps := {}, tm := {} }) s t := by
  let e := s.dev.jobDue j start
  let ws := e.acqWords j start res
  have hregs : e.regs = s.dev.regs := rfl
  have hgps : e.gps = s.dev.gps := rfl
  have hstop : (e.acqResult ws).fwOwns = false :=
    (e.fwOwns_acqResult ws).trans ((Dev.fwOwns_congr (Dev.RdKept.ofRegs [] hregs) rfl (by decide) (by decide) (by decide) (by decide)).trans hfw)
  have hend : exec (.acqJobEnd res) s = .next (onDev (fun d => (d.jobDue j start).acqResult ((d.jobDue j start).acqWords j start res)) s) :=
    (exec_acqJobEnd_room hrun hroom res).trans (congrArg Host.Outcome.next (onDev_congr (Dev.fwSearch_idle hstop)))
  have hsame : Dev.SameBut (fun d => { d with gps := {}, tm := {} }) e (e.acqResult ws) := e.acqResult_sameBut (fun _ _ => rfl) ws
  have hdone := e.acqResult_done ws
  let f := e.resultIn ws
  have hresults : f.gps.results = s.dev.gps.results ++ s.dev.acqWords j start res :=
    congrArg (s.dev.gps.results ++ ·) (Dev.acqWords_congr hregs j start res)
  have hkept : (e.acqResult ws).gps.results = f.gps.results := by
    obtain ⟨-, rs, r, jobs, h⟩ := f.acqNext_spec
    exact (congrArg (fun d : Dev => d.gps.results) h).trans rfl
  refine ⟨_, hend, hkept.trans hresults, hdone.1, hdone.2, ?_, fun later hjobs hclk hpow => ⟨f.smp, ?_⟩, fun hjobs => ?_,
    Dev.SameBut.onDev (((Dev.SameBut.refl _ s.dev).advance (fun _ _ => rfl) _).trans hsame)⟩
  · have htm : (e.acqResult ws).tm = e.tm :=
      (e.acqResult_sameBut (blank := fun d => { d with gps := {} }) (fun _ _ => rfl) ws).proj (·.tm) fun _ => rfl
    exact (Dev.toTbm_reaches s.dev _).trans (le_of_eq (congrArg TimeBases.tbm htm).symm)
  · have hkeptRd := e.resultIn_rdKept ws
    have hstart := Dev.acqNext_starts (d := f) (j := j') (r := later) rfl rfl hjobs ((hkeptRd.bit (by decide) 22).trans hclk)
      (le_of_eq_of_le (hkeptRd.fld (by decide) 2 0) hpow)
    exact ⟨congrArg Gnss.running hstart, congrArg Gnss.jobs hstart⟩
  · have hidle := Dev.acqNext_busy (d := f) (.inr hjobs)
    exact congrArg Gnss.running hidle

theorem acqJobEnd_full {j : AcqJob} {start : Nat} {s : State} (hrun : s.dev.gps.running = some (j, start))
    (hfull : 16 ≤ ceilDiv s.dev.gps.results.length 4) (hfw : s.dev.fwOwns = false) (res : AcqOutcome) :
    ∃ t, exec (.acqJobEnd res) s = .next t ∧ t.dev.gps.results = s.dev.gps.results ∧ t.dev.gps.running = none ∧ t.dev.gps.waiting.isSome = true := by
  let e := s.dev.jobDue j start
  let f := e.resultWaits (e.acqWords j start res)
  have hkept : Dev.RdKept [Reg.ACQ_ACQ_STATE] s.dev f := ((Dev.RdKept.refl _ s.dev).struct (e' := { e with gps := _ }) rfl).wr (by decide) _
  have hstop : f.fwOwns = false := (Dev.fwOwns_congr hkept rfl (by decide) (by decide) (by decide) (by decide)).trans hfw
  exact ⟨_, (exec_acqJobEnd_full hrun hfull res).trans (congrArg Host.Outcome.next (onDev_congr (g := fun _ => f) (Dev.fwSearch_idle hstop))), rfl, rfl, rfl⟩

/-! The ports of the queues (R146, R154, R157) -/

/-- What a read of a port of the part alone answers and leaves in the baseband. -/
theorem hostPort_gps {q : Requester} {a n : Nat} {s : State} (h : Readable q a s) (f : Nat → Dev → List W32 × Dev) :
    ∃ k t, hostPort q a n (portDev f) s = t ∧ answerTo q t = ⟨.ok, (f n (s.woken k).dev).1.length, (f n (s.woken k).dev).1⟩
      ∧ t.dev.gps = (f n (s.woken k).dev).2.gps := by
  obtain ⟨k, hk⟩ := hostPort_dev (n := n) h f
  obtain ⟨rs, x, hd⟩ := portRead_dev q a n (f n (s.woken k).dev) (s.woken k)
  exact ⟨k, _, hk, answerTo_portRead _ _ _ _ _, (congrArg Dev.gps hd).trans rfl⟩

/-- The results left by a read. -/
def Dev.resultsDropped (d : Dev) (n : Nat) : Dev := { d with gps := { d.gps with results := d.gps.results.drop n } }

/-- The result that waits enters the FIFO once there is room. -/
def Dev.resultsRefilled (d : Dev) : Dev :=
  match d.gps.waiting with
  | some (r, t) =>
    if ceilDiv d.gps.results.length 4 < 16 then (d.addSat Reg.ACQ_ACQ_STALL ((d.tm.tbm - t) / 1000000)).acqResult r else d
  | none => d

/-- The words of ACQ_RES_PORT, and what a read leaves. -/
def Dev.resultsGiven (n : Nat) (d : Dev) : List W32 × Dev := (d.gps.results.take n, (d.resultsDropped n).resultsRefilled.acqShow)

theorem exec_acqResultRead (req : Requester) (n : Nat) (s : State) : exec (.acqResultRead req n) s
    = .next (hostPort req Reg.ACQ_ACQ_RES_PORT n (portDev Dev.resultsGiven) (arrived Reg.ACQ_ACQ_RES_PORT s)) := rfl

theorem Dev.resultsRefilled_none {d : Dev} (h : d.gps.waiting = none) : d.resultsRefilled = d := by
  unfold Dev.resultsRefilled
  rw [h]

theorem acqResultRead_gives {req : Requester} {n : Nat} {s : State} (h : Readable req Reg.ACQ_ACQ_RES_PORT (arrived Reg.ACQ_ACQ_RES_PORT s))
    (hwait : (arrived Reg.ACQ_ACQ_RES_PORT s).dev.gps.waiting = none) :
    ∃ t, exec (.acqResultRead req n) s = .next t
      ∧ answerTo req t = ⟨.ok, ((arrived Reg.ACQ_ACQ_RES_PORT s).dev.gps.results.take n).length, (arrived Reg.ACQ_ACQ_RES_PORT s).dev.gps.results.take n⟩
      ∧ t.dev.gps.results = (arrived Reg.ACQ_ACQ_RES_PORT s).dev.gps.results.drop n := by
  obtain ⟨k, t, ht, hanswer, hgps⟩ := hostPort_gps (n := n) h Dev.resultsGiven
  refine ⟨t, (exec_acqResultRead req n s).trans (congrArg Host.Outcome.next ht), hanswer, (congrArg Gnss.results hgps).trans ?_⟩
  have hrefill := Dev.resultsRefilled_none (d := (((arrived Reg.ACQ_ACQ_RES_PORT s).woken k).dev).resultsDropped n) hwait
  exact congrArg (fun d : Dev => d.gps.results) hrefill

/-- The words of MEAS_PORT, and what a read leaves. -/
def Dev.epochsGiven (n : Nat) (d : Dev) : List W32 × Dev :=
  (d.gps.epochs.flatten.take n,
    ({ d with gps := { d.gps with epochs := (dropWords (d.gps.epochs.flatten.take n).length d.gps.epochs d.gps.partRead).1
                                  partRead := (dropWords (d.gps.epochs.flatten.take n).length d.gps.epochs d.gps.partRead).2 } }).measShow)

theorem exec_measRead (req : Requester) (n : Nat) (s : State) : exec (.measRead req n) s
    = .next (hostPort req Reg.NAV_MEAS_PORT n (portDev Dev.epochsGiven) (arrived Reg.NAV_MEAS_PORT s)) := rfl

/-- Words dropped from a queue of epochs are the first of its words. -/
theorem dropWords_flatten : ∀ (es : List (List W32)) (n : Nat) (part : Bool), (dropWords n es part).1.flatten = es.flatten.drop n
  | [], n, part => by simp [dropWords]
  | e :: r, n, part => by
    unfold dropWords
    split
    · next h => simp [h]
    · split
      · next h => simp [List.drop_append_of_le_length (le_of_lt h)]
      · next h =>
        rw [dropWords_flatten r, List.flatten_cons, List.drop_append, List.drop_eq_nil_of_le (Nat.not_lt.mp h), List.nil_append]

theorem measRead_gives {req : Requester} {n : Nat} {s : State} (h : Readable req Reg.NAV_MEAS_PORT (arrived Reg.NAV_MEAS_PORT s)) :
    ∃ t, exec (.measRead req n) s = .next t
      ∧ answerTo req t = ⟨.ok, ((arrived Reg.NAV_MEAS_PORT s).dev.gps.epochs.flatten.take n).length, (arrived Reg.NAV_MEAS_PORT s).dev.gps.epochs.flatten.take n⟩
      ∧ t.dev.gps.epochs.flatten = (arrived Reg.NAV_MEAS_PORT s).dev.gps.epochs.flatten.drop n := by
  obtain ⟨k, t, ht, hanswer, hgps⟩ := hostPort_gps (n := n) h Dev.epochsGiven
  refine ⟨t, (exec_measRead req n s).trans (congrArg Host.Outcome.next ht), hanswer, (congrArg (fun g : Gnss => g.epochs.flatten) hgps).trans ?_⟩
  refine (dropWords_flatten (arrived Reg.NAV_MEAS_PORT s).dev.gps.epochs _ _).trans ?_
  change List.drop (List.length (List.take n (arrived Reg.NAV_MEAS_PORT s).dev.gps.epochs.flatten)) _ = _
  rw [List.length_take]
  rcases Nat.le_total n (arrived Reg.NAV_MEAS_PORT s).dev.gps.epochs.flatten.length with hle | hle
  · rw [Nat.min_eq_left hle]
  · rw [Nat.min_eq_right hle, List.drop_eq_nil_of_le le_rfl, List.drop_eq_nil_of_le hle]

/-- The words of NAVW_PORT, and what a read leaves. -/
def Dev.wordsGiven (n : Nat) (d : Dev) : List W32 × Dev :=
  (d.gps.words.take n, ({ d with gps := { d.gps with words := d.gps.words.drop n } }).navwShow)

theorem exec_navwRead (req : Requester) (n : Nat) (s : State) : exec (.navwRead req n) s
    = .next (hostPort req Reg.NAV_NAVW_PORT n (portDev Dev.wordsGiven) (arrived Reg.NAV_NAVW_PORT s)) := rfl

theorem navwRead_gives {req : Requester} {n : Nat} {s : State} (h : Readable req Reg.NAV_NAVW_PORT (arrived Reg.NAV_NAVW_PORT s)) :
    ∃ t, exec (.navwRead req n) s = .next t
      ∧ answerTo req t = ⟨.ok, ((arrived Reg.NAV_NAVW_PORT s).dev.gps.words.take n).length, (arrived Reg.NAV_NAVW_PORT s).dev.gps.words.take n⟩
      ∧ t.dev.gps.words = (arrived Reg.NAV_NAVW_PORT s).dev.gps.words.drop n := by
  obtain ⟨k, t, ht, hanswer, hgps⟩ := hostPort_gps (n := n) h Dev.wordsGiven
  exact ⟨t, (exec_navwRead req n s).trans (congrArg Host.Outcome.next ht), hanswer, (congrArg Gnss.words hgps).trans rfl⟩

/-! NAV_WORD (R156, R157) -/

/-- The oldest word of a channel taken. -/
def Dev.wordTaken (d : Dev) (c : Nat) (r : List NavWord) : Dev := d.modTc c (fun x => { x with words := r })

/-- The entry of a word that has ended goes to the queue where the register enables it. -/
def Dev.wordQueued (d : Dev) (c : Nat) (entry : List W32) : Dev :=
  if bitOf (d.rd Reg.NAV_NAVW_CTRL) 0 && (!bitOf (d.rd Reg.NAV_NAVW_CTRL) 1 || d.dedupChannel (d.tc c).prn = some c) then d.navwPush entry else d

/-- NAV_WORD over the words that the channel has. -/
def Dev.wordEnds (d : Dev) (c number : Nat) (bits : BitVec 30) (miss : Bool) : List NavWord → Dev
  | w :: r =>
    if d.tcState c ≠ tsFRAME ∨ w.number ≠ number ∨ w.bits ≠ bits ∨ w.prev.isNone ≠ miss then d
    else (d.wordTaken c r).wordQueued c (d.navwEntry c w)
  | [] => d

theorem exec_navWord (ch : Fin 64) (number : Nat) (bits : BitVec 30) (miss : Bool) (s : State) :
    exec (.navWord ch number bits miss) s = .next (onDev (fun d => d.wordEnds ch number bits miss (d.tc ch).words) s) := rfl

theorem Dev.wordEnds_other {d : Dev} {c number : Nat} {bits : BitVec 30} {miss : Bool} {ws : List NavWord}
    (h : d.tcState c ≠ tsFRAME ∨ (ws.map (fun x => (x.number, x.bits, x.prev.isNone))).head? ≠ some (number, bits, miss)) :
    d.wordEnds c number bits miss ws = d := by
  cases ws with
  | nil => rfl
  | cons w r =>
    refine if_pos (h.imp id fun hhead => ?_)
    by_contra hall
    simp only [not_or, not_not] at hall
    obtain ⟨hnumber, hbits, hmiss⟩ := hall
    exact hhead (by rw [← hnumber, ← hbits, ← hmiss]; rfl)

theorem exec_navWord_none {ch : Fin 64} {number : Nat} {bits : BitVec 30} {miss : Bool} {s : State}
    (h : s.dev.tcState ch ≠ tsFRAME ∨ ((s.dev.tc ch).words.map (fun x => (x.number, x.bits, x.prev.isNone))).head? ≠ some (number, bits, miss)) :
    exec (.navWord ch number bits miss) s = .next s :=
  (exec_navWord ch number bits miss s).trans (congrArg Host.Outcome.next ((onDev_congr (g := id) (Dev.wordEnds_other h)).trans rfl))

theorem exec_navWord_taken {ch : Fin 64} {w : NavWord} {rest : List NavWord} {s : State} (hst : s.dev.tcState ch = tsFRAME)
    (hw : (s.dev.tc ch).words = w :: rest) (hen : s.dev.bit Reg.NAV_NAVW_CTRL 0 = true) (hdedup : s.dev.bit Reg.NAV_NAVW_CTRL 1 = false) :
    exec (.navWord ch w.number w.bits w.prev.isNone) s = .next (onDev (fun d => (d.wordTaken ch rest).navwPush (d.navwEntry ch w)) s) := by
  refine (exec_navWord ch _ _ _ s).trans (congrArg Host.Outcome.next (onDev_congr ?_))
  rw [hw]
  refine (if_neg (by simp [hst])).trans (if_pos ?_)
  have h0 : bitOf ((s.dev.wordTaken ch rest).rd Reg.NAV_NAVW_CTRL) 0 = true := hen
  have h1 : bitOf ((s.dev.wordTaken ch rest).rd Reg.NAV_NAVW_CTRL) 1 = false := hdedup
  rw [h0, h1]
  rfl

/-- The words that the word queue shows. -/
def navwWords : List Nat := [Reg.NAV_NAVW_LEVEL, Reg.STATUS pNAV, Reg.IRQ_RAW pNAV]

/-- An entry at the end of the queue, and what shows of it. -/
def Dev.entryShown (d : Dev) (ws : List W32) : Dev := ({ d with gps := { d.gps with words := d.gps.words ++ ws } }).navwShow

/-- With room, an entry joins the queue and no other leaves. -/
theorem Dev.navwPush_room {d : Dev} (h : d.gps.words.length ≤ 1020) (ws : List W32) :
    d.navwPush ws = d.entryShown ws ∨ d.navwPush ws = (d.entryShown ws).irq pNAV 17 := by
  have hroom : ¬ceilDiv d.gps.words.length 4 ≥ 256 := by
    rw [ceilDiv, if_neg (by decide)]
    omega
  unfold Dev.navwPush
  extract_lets old full kept e thr before g f
  have hkept : kept = d.gps.words := if_neg hroom
  have he : e = d := if_neg hroom
  have hf : f = d.entryShown ws := by
    change Dev.entryShown { e with gps := { e.gps with words := kept } } ws = _
    rw [he, hkept]
  rw [hf]
  split
  · exact .inr rfl
  · exact .inl rfl

theorem navWord_taken {ch : Fin 64} {w : NavWord} {rest : List NavWord} {s : State} (hst : s.dev.tcState ch = tsFRAME)
    (hw : (s.dev.tc ch).words = w :: rest) (hen : s.dev.bit Reg.NAV_NAVW_CTRL 0 = true) (hdedup : s.dev.bit Reg.NAV_NAVW_CTRL 1 = false)
    (hroom : s.dev.gps.words.length ≤ 1020) :
    ∃ t, exec (.navWord ch w.number w.bits w.prev.isNone) s = .next t ∧ t.dev.gps.words = s.dev.gps.words ++ s.dev.navwEntry ch w
      ∧ (t.dev.tc ch).words = rest ∧ differOnly (fun d => { d with gps := {} }) s t
      ∧ regsKept [Reg.NAV_NAVW_LEVEL, Reg.STATUS pNAV, Reg.IRQ_RAW pNAV] s t := by
  let d := s.dev.wordTaken ch rest
  let f := d.entryShown (s.dev.navwEntry ch w)
  have hrest : (f.tc ch).words = rest := congrArg TcChan.words (sget_sset_same (fun _ => ({} : TcChan)) s.dev.gps.tc ch.val _)
  have hsame : Dev.SameBut (fun d => { d with gps := {} }) s.dev f :=
    ((((Dev.SameBut.refl _ s.dev).gps (fun _ _ => rfl) d.gps).gps (fun _ _ => rfl) _).wr _ _).setStat _ _ _
  have hrd : Dev.RdKept navwWords s.dev f :=
    (((Dev.RdKept.refl _ s.dev).struct (e' := { d with gps := _ }) rfl).wr (by decide) _).setStat (by decide) _ _
  have hexec := exec_navWord_taken hst hw hen hdedup
  rcases Dev.navwPush_room (d := d) hroom (s.dev.navwEntry ch w) with h | h
  · exact ⟨_, hexec.trans (congrArg Host.Outcome.next (onDev_congr (g := fun _ => f) h)), rfl, hrest, Dev.SameBut.onDev hsame, hrd⟩
  · exact ⟨_, hexec.trans (congrArg Host.Outcome.next (onDev_congr (g := fun _ => f.irq pNAV 17) h)), rfl, hrest,
      Dev.SameBut.onDev (hsame.irq _ _), hrd.irq (by decide) _⟩

/-! MEAS_EPOCH (R152 to R154): what the comparison of the code ranges leaves -/

/-- The words that an epoch reads after it is counted. -/
def epochHeld : List Nat := [Reg.NAV_EPOCH_SEQ, Reg.PWR_PWR_STATE]

/-- A change that leaves the epochs, their count, the drivers and the time bases. -/
structure Dev.EpochKept (d e : Dev) : Prop where
  held : ∀ a ∈ epochHeld, e.rd a = d.rd a
  epochs : e.gps.epochs = d.gps.epochs
  last : e.gps.lastEpoch = d.gps.lastEpoch
  drv : e.drv = d.drv
  tm : e.tm = d.tm

theorem emitCount_not_held : Reg.REC_SUPP_TOTAL ∉ epochHeld := by decide

theorem Dev.EpochKept.refl (d : Dev) : Dev.EpochKept d d := ⟨fun _ _ => rfl, rfl, rfl, rfl, rfl⟩

theorem Dev.EpochKept.trans {d e f : Dev} (h : Dev.EpochKept d e) (h' : Dev.EpochKept e f) : Dev.EpochKept d f :=
  ⟨fun a ha => (h'.held a ha).trans (h.held a ha), h'.epochs.trans h.epochs, h'.last.trans h.last, h'.drv.trans h.drv, h'.tm.trans h.tm⟩

section
variable {d e : Dev} (h : Dev.EpochKept d e)
include h

theorem Dev.EpochKept.wr {a : Nat} (ha : a ∉ epochHeld) (v : W32) : Dev.EpochKept d (e.wr a v) :=
  ⟨fun b hb => (Dev.rd_wr_ne _ _ (ne_of_mem_of_not_mem hb ha)).trans (h.held b hb), h.epochs, h.last, h.drv, h.tm⟩

theorem Dev.EpochKept.addSat {a : Nat} (ha : a ∉ epochHeld) (n : Nat) : Dev.EpochKept d (e.addSat a n) := h.wr ha _

theorem Dev.EpochKept.fault {p : Nat} (hf : Reg.FAULT p ∉ epochHeld) (hi : Reg.IRQ_RAW p ∉ epochHeld) (b : Nat) : Dev.EpochKept d (e.fault p b) := by
  obtain ⟨rs, hx⟩ := Dev.fault_regs e p b
  exact ⟨fun a ha => (Dev.rd_fault_ne _ _ _ (ne_of_mem_of_not_mem ha hf) (ne_of_mem_of_not_mem ha hi)).trans (h.held a ha),
    (congrArg (fun d : Dev => d.gps.epochs) hx).trans h.epochs, (congrArg (fun d : Dev => d.gps.lastEpoch) hx).trans h.last,
    (congrArg Dev.drv hx).trans h.drv, (congrArg Dev.tm hx).trans h.tm⟩

theorem Dev.EpochKept.wr64 {a : Nat} (ha : a ∉ epochHeld) (ha' : a + 4 ∉ epochHeld) (n : Nat) : Dev.EpochKept d (e.wr64 a n) :=
  (h.wr ha _).wr ha' _

theorem Dev.EpochKept.modTc (c : Nat) (f : TcChan → TcChan) : Dev.EpochKept d (e.modTc c f) := ⟨h.held, h.epochs, h.last, h.drv, h.tm⟩

theorem Dev.EpochKept.emit (x : Event) : Dev.EpochKept d (e.emit x) := by
  obtain ⟨rs, f, hx⟩ : ∃ rs f, e.emit x = { e with regs := rs, rcf := f } := Dev.emit_regs_rcf e x
  exact ⟨fun b hb => (Dev.rd_emit_ne _ _ (ne_of_mem_of_not_mem hb emitCount_not_held)).trans (h.held b hb), (congrArg (fun d : Dev => d.gps.epochs) hx).trans h.epochs,
    (congrArg (fun d : Dev => d.gps.lastEpoch) hx).trans h.last, (congrArg Dev.drv hx).trans h.drv, (congrArg Dev.tm hx).trans h.tm⟩

end

theorem Dev.EpochKept.foldl {α : Type} {f : Dev → α → Dev} (xs : List α) (d : Dev) (h : ∀ x ∈ xs, ∀ e, Dev.EpochKept e (f e x)) :
    Dev.EpochKept d (xs.foldl f d) := foldl_related Dev.EpochKept.refl Dev.EpochKept.trans xs d h

theorem Dev.setTc_epochKept (d : Dev) {c : Nat} (hc : c < 64) (st : Nat) : Dev.EpochKept d (d.setTc c st) := by
  unfold Dev.setTc
  extract_lets was e f g
  have he : Dev.EpochKept d e :=
    ((Dev.EpochKept.refl d).wr (by simp only [Reg.TC_STATE, epochHeld, Reg.NAV_EPOCH_SEQ, Reg.PWR_PWR_STATE, List.mem_cons, List.not_mem_nil, or_false]; omega) _).wr
      (by simp only [Reg.IRQ_RAW, pTC, epochHeld, Reg.NAV_EPOCH_SEQ, Reg.PWR_PWR_STATE, List.mem_cons, List.not_mem_nil, or_false]; omega) _
  have hf : Dev.EpochKept d f := he.wr (by simp only [Reg.NAV_CH_ACTIVE, epochHeld, Reg.NAV_EPOCH_SEQ, Reg.PWR_PWR_STATE, List.mem_cons, List.not_mem_nil, or_false]; omega) _
  have hg : Dev.EpochKept d g := by
    unfold g
    split
    · exact hf.modTc _ _
    · exact hf
  split
  · exact .refl d
  · split
    · exact (hg.modTc _ _).wr (by simp only [Reg.TC_TXMS, epochHeld, Reg.NAV_EPOCH_SEQ, Reg.PWR_PWR_STATE, List.mem_cons, List.not_mem_nil, or_false]; omega) _
    · exact hg

theorem Dev.tcBegin_epochKept (d : Dev) {c : Nat} (hc : c < 64) : Dev.EpochKept d (d.tcBegin c) := by
  unfold Dev.tcBegin
  extract_lets again now cfg dop gone code e f g k
  have he : Dev.EpochKept d e := (Dev.EpochKept.refl d).modTc _ _
  have hf : Dev.EpochKept d f := by
    unfold f
    split
    · exact he.wr (by simp only [Reg.IRQ_RAW, pTC, epochHeld, Reg.NAV_EPOCH_SEQ, Reg.PWR_PWR_STATE, List.mem_cons, List.not_mem_nil, or_false]; omega) _
    · exact he.trans (e.setTc_epochKept hc _)
  have hg : Dev.EpochKept d g :=
    ((hf.wr (by simp only [Reg.TC_SLIP, epochHeld, Reg.NAV_EPOCH_SEQ, Reg.PWR_PWR_STATE, List.mem_cons, List.not_mem_nil, or_false]; omega) _).wr (by simp only [Reg.TC_DUMP_SEQ, epochHeld, Reg.NAV_EPOCH_SEQ, Reg.PWR_PWR_STATE, List.mem_cons, List.not_mem_nil, or_false]; omega) _).wr64
      (by simp only [Reg.TC_CARR, epochHeld, Reg.NAV_EPOCH_SEQ, Reg.PWR_PWR_STATE, List.mem_cons, List.not_mem_nil, or_false]; omega) (by simp only [Reg.TC_CARR, epochHeld, Reg.NAV_EPOCH_SEQ, Reg.PWR_PWR_STATE, List.mem_cons, List.not_mem_nil, or_false]; omega) _
  have hk : Dev.EpochKept d k :=
    (hg.wr (by simp only [Reg.TC_DOP, epochHeld, Reg.NAV_EPOCH_SEQ, Reg.PWR_PWR_STATE, List.mem_cons, List.not_mem_nil, or_false]; omega) _).wr (by simp only [Reg.TC_CODE, epochHeld, Reg.NAV_EPOCH_SEQ, Reg.PWR_PWR_STATE, List.mem_cons, List.not_mem_nil, or_false]; omega) _
  exact hk.wr (by simp only [Reg.INTEG_CH_EXCL, epochHeld, Reg.NAV_EPOCH_SEQ, Reg.PWR_PWR_STATE, List.mem_cons, List.not_mem_nil, or_false]; omega) _

theorem Dev.startFrom_epochKept (d : Dev) {c : Nat} (hc : c < 64) (b : Nat) : Dev.EpochKept d (d.startFrom c b) :=
  ((((Dev.EpochKept.refl d).wr (by simp only [Reg.TC_INIT_CODE, epochHeld, Reg.NAV_EPOCH_SEQ, Reg.PWR_PWR_STATE, List.mem_cons, List.not_mem_nil, or_false]; omega) _).wr
    (by simp only [Reg.TC_INIT_REF, epochHeld, Reg.NAV_EPOCH_SEQ, Reg.PWR_PWR_STATE, List.mem_cons, List.not_mem_nil, or_false]; omega) _).wr (by simp only [Reg.TC_INIT_DOP, epochHeld, Reg.NAV_EPOCH_SEQ, Reg.PWR_PWR_STATE, List.mem_cons, List.not_mem_nil, or_false]; omega) _).trans
    (Dev.tcBegin_epochKept _ hc)

theorem Dev.setInteg_epochKept (d : Dev) (b : Nat) (v : Bool) : Dev.EpochKept d (d.setInteg b v) := by
  unfold Dev.setInteg
  extract_lets e f g
  have he : Dev.EpochKept d e := ((Dev.EpochKept.refl d).wr (by decide) _).wr (by decide) _
  have hg : Dev.EpochKept d g := (he.wr (by decide) _).wr (by decide) _
  split
  · exact .refl d
  · exact (hg.wr (by decide) _).emit _

theorem Dev.portChan_lt {d : Dev} {prn port c : Nat} (h : d.portChan prn port = some c) : c < 64 :=
  List.mem_range.mp (List.mem_of_find?_eq_some h)

theorem Dev.xcodeBad_lt {d : Dev} {prn : Nat} {p : Nat × Nat} (h : p ∈ d.xcodeBad prn) : p.1 < 64 := by
  unfold Dev.xcodeBad at h
  split at h
  · simp at h
  · next c0 hc0 =>
    extract_lets others bad at h
    have hbad {c : Nat} (hc : c ∈ bad) : c < 64 := by
      simp only [bad, others, List.mem_map, List.mem_filter, List.mem_filterMap] at hc
      obtain ⟨⟨x, y⟩, ⟨⟨k, hk, hsome⟩, -⟩, rfl⟩ := hc
      obtain ⟨c', hc', heq⟩ := Option.map_eq_some_iff.mp hsome
      exact (congrArg Prod.fst heq) ▸ Dev.portChan_lt hc'
    have h0 : c0 < 64 := Dev.portChan_lt hc0
    clear_value bad others
    split at h
    · simp at h
    · next c r o =>
      have hc : c < 64 := hbad List.mem_cons_self
      split at h
      · exact (List.mem_singleton.mp h) ▸ hc
      · exact (List.mem_singleton.mp h) ▸ h0
    · next c r _ =>
      split at h
      · exact (List.mem_singleton.mp h) ▸ h0
      · obtain ⟨b, hmem, rfl⟩ := List.mem_map.mp h
        exact hbad hmem

theorem Dev.xcodeCheck_epochKept (d : Dev) : Dev.EpochKept d d.xcodeCheck := by
  unfold Dev.xcodeCheck
  extract_lets found e hold on
  have he : Dev.EpochKept d e := Dev.EpochKept.foldl found d fun p hp x => by
    obtain ⟨i, -, hi⟩ := List.mem_flatMap.mp hp
    exact x.startFrom_epochKept (Dev.xcodeBad_lt hi) p.2
  have hg : Dev.EpochKept d { e with gps := { e.gps with xcodeUntil := if on then hold else none } } :=
    ⟨he.held, he.epochs, he.last, he.drv, he.tm⟩
  exact hg.trans (Dev.setInteg_epochKept _ _ _)

/-! An epoch (R152 to R154) -/

/-- The edge that the next epoch has. -/
def Dev.epochEdge (d : Dev) : Nat := max (d.gps.lastEpoch + 1636800) (d.smp / 1636800 * 1636800)

/-- The epoch counted at its edge. -/
def Dev.epochCounted (d : Dev) (edge : Nat) : Dev := ({ d.toTbm (d.smpTbm edge) with gps := { d.gps with lastEpoch := edge } }).inc Reg.NAV_EPOCH_SEQ

/-- The channels of an epoch. -/
def Dev.epochChans (d : Dev) : List Nat := (List.range 64).filter d.tcTracks

/-- The epoch's words. -/
def Dev.epochWords (d : Dev) (edge : Nat) : List W32 := d.measHeader edge d.epochChans.length ++ d.epochChans.flatMap d.measRecord

/-- The epoch queued where the register enables it. -/
def Dev.epochQueued (d : Dev) (edge : Nat) : Dev := if d.bit Reg.NAV_MEAS_CTRL 0 then d.measPush (d.epochWords edge) else d

/-- What the channels note of an epoch. -/
def Dev.epochNoted (d : Dev) (cs : List Nat) : Dev :=
  cs.foldl (fun d c => d.modTc c (fun x => { x with slip := false, range := d.codeLessCarrier c })) d

/-- The epoch taken at its edge, before the code ranges are compared. -/
def Dev.epochTaken (d : Dev) (edge : Nat) : Dev := ((d.epochCounted edge).epochQueued edge).epochNoted (d.epochCounted edge).epochChans

/-- The comparison of the code ranges, while the firmware runs. -/
def Dev.epochChecked (d : Dev) : Dev := if d.mpRuns then d.xcodeCheck else d

theorem exec_measEpoch {s : State} (hclk : s.dev.clockLost 6 = false) (hpow : s.dev.powerState ≤ 1) (lag : Nat) :
    exec (.measEpoch lag) s = .next (onDev (fun d => (d.epochTaken d.epochEdge).epochChecked.advance (lag / 10)) s) := by
  have hgo : ¬((s.dev.clockLost 6 || decide (s.dev.powerState > 1)) = true) := by
    rw [hclk, decide_eq_false (show ¬s.dev.powerState > 1 by omega)]; decide
  exact congrArg Host.Outcome.next (onDev_congr (g := fun d => (d.epochTaken d.epochEdge).epochChecked.advance (lag / 10)) (if_neg hgo))

theorem Dev.epochNoted_kept (d : Dev) (cs : List Nat) : Dev.EpochKept d (d.epochNoted cs) :=
  Dev.EpochKept.foldl cs d fun _ _ e => (Dev.EpochKept.refl e).modTc _ _

theorem Dev.epochCounted_regs (d : Dev) (edge : Nat) : Dev.RdKept [Reg.NAV_EPOCH_SEQ] d (d.epochCounted edge) :=
  ((Dev.RdKept.refl _ d).struct (e' := { d.toTbm (d.smpTbm edge) with gps := _ }) rfl).wr (by decide) _

theorem Dev.epochCounted_chans (d : Dev) (edge : Nat) : (d.epochCounted edge).epochChans = d.epochChans := by
  refine List.filter_congr fun c hc => ?_
  have hst : (d.epochCounted edge).tcState c = d.tcState c :=
    (d.epochCounted_regs edge).fld (by simp only [Reg.TC_STATE, Reg.NAV_EPOCH_SEQ, List.mem_singleton]; omega) 2 0
  unfold Dev.tcTracks
  rw [hst]

theorem Dev.measHeader_cons (d : Dev) (edge n : Nat) : ∃ ws, d.measHeader edge n
    = w32 (0xE5 * 2 ^ 24 + n * 2 ^ 16 + d.fld Reg.NAV_EPOCH_SEQ 15 0) :: lo32 edge :: hi32 edge :: ws ∧ ws.length = 5 := ⟨_, rfl, rfl⟩

theorem Dev.epochChans_length (d : Dev) : d.epochChans.length ≤ 64 := (List.length_filter_le _ _).trans_eq (List.length_range)

theorem Dev.epochWords_spec (d : Dev) (edge : Nat) : (d.epochWords edge).length = 8 + 8 * d.epochChans.length
    ∧ field ((d.epochWords edge).getD 0 0) 31 24 = 0xE5 ∧ field ((d.epochWords edge).getD 0 0) 23 16 = d.epochChans.length
    ∧ (d.epochWords edge).getD 1 0 = lo32 edge ∧ (d.epochWords edge).getD 2 0 = hi32 edge := by
  obtain ⟨ws, hws, hlen⟩ := d.measHeader_cons edge d.epochChans.length
  have hseq : d.fld Reg.NAV_EPOCH_SEQ 15 0 < 2 ^ 16 := field_lt _ _ _
  have hfew := d.epochChans_length
  have hrec : (d.epochChans.flatMap d.measRecord).length = 8 * d.epochChans.length := by
    rw [List.length_flatMap, List.map_congr_left (f := fun a => (d.measRecord a).length) (g := fun _ => 8) fun _ _ => rfl]
    simp [Nat.mul_comm]
  have hword : 0xE5 * 2 ^ 24 + d.epochChans.length * 2 ^ 16 + d.fld Reg.NAV_EPOCH_SEQ 15 0 < 2 ^ 32 := by omega
  have hhead : (w32 (0xE5 * 2 ^ 24 + d.epochChans.length * 2 ^ 16 + d.fld Reg.NAV_EPOCH_SEQ 15 0)).toNat
      = 0xE5 * 2 ^ 24 + d.epochChans.length * 2 ^ 16 + d.fld Reg.NAV_EPOCH_SEQ 15 0 :=
    (BitVec.toNat_ofNat _ _).trans (Nat.mod_eq_of_lt hword)
  unfold Dev.epochWords
  rw [hws]
  refine ⟨?_, ?_, ?_, rfl, rfl⟩
  · simp only [List.length_append, List.length_cons, hlen, hrec]
  · change field (w32 _) 31 24 = _
    rw [field, hhead, Nat.shiftRight_eq_div_pow]
    omega
  · change field (w32 _) 23 16 = _
    rw [field, hhead, Nat.shiftRight_eq_div_pow]
    omega

theorem Dev.measPush_last (d : Dev) (ws : List W32) : (d.measPush ws).gps.epochs.getLast? = some ws := by
  unfold Dev.measPush
  extract_lets q e
  exact List.getLast?_concat

theorem Dev.measPush_kept (d : Dev) (ws : List W32) : (∀ a ∈ epochHeld, (d.measPush ws).rd a = d.rd a)
    ∧ (d.measPush ws).gps.lastEpoch = d.gps.lastEpoch ∧ (d.measPush ws).drv = d.drv ∧ (d.measPush ws).tm = d.tm := by
  unfold Dev.measPush
  extract_lets q e
  have he : Dev.EpochKept d e := by
    unfold e
    split
    · exact .refl d
    · exact (((Dev.EpochKept.refl d).addSat (by decide) _).fault (by decide) (by decide) _)
  let g : Dev := { e with gps := { e.gps with epochs := q.1 ++ [ws] } }
  have hshow : Dev.EpochKept g (g.irq pNAV 16).measShow :=
    (((Dev.EpochKept.refl g).wr (a := Reg.IRQ_RAW pNAV) (by decide) _).wr (a := Reg.NAV_MEAS_LEVEL) (by decide) _).wr
      (a := Reg.STATUS pNAV) (by decide) _
  exact ⟨fun a ha => (hshow.held a ha).trans (he.held a ha), hshow.last.trans he.last, hshow.drv.trans he.drv, hshow.tm.trans he.tm⟩

theorem Dev.epochQueued_kept (d : Dev) (edge : Nat) : (∀ a ∈ epochHeld, (d.epochQueued edge).rd a = d.rd a)
    ∧ (d.epochQueued edge).gps.lastEpoch = d.gps.lastEpoch ∧ (d.epochQueued edge).drv = d.drv ∧ (d.epochQueued edge).tm = d.tm := by
  unfold Dev.epochQueued
  split
  · exact d.measPush_kept _
  · exact ⟨fun _ _ => rfl, rfl, rfl, rfl⟩

theorem Dev.epochChecked_kept (d : Dev) : Dev.EpochKept d d.epochChecked := by
  unfold Dev.epochChecked
  split
  · exact d.xcodeCheck_epochKept
  · exact .refl d

theorem Dev.advance_tbm_le {d : Dev} (h : d.powerState ≤ 1) (n : Nat) : d.tm.tbm ≤ (d.advance n).tm.tbm :=
  (congrArg TimeBases.tbm (Dev.advance_running h n)).symm ▸ Nat.le_add_right _ _

theorem Dev.epochTaken_kept (d : Dev) (edge : Nat) : Dev.EpochKept ((d.epochCounted edge).epochQueued edge) (d.epochTaken edge).epochChecked :=
  (Dev.epochNoted_kept _ _).trans (d.epochTaken edge).epochChecked_kept

/-- What an epoch leaves in the words and the bases. -/
theorem Dev.epochTaken_shows (d : Dev) (edge : Nat) : (d.epochTaken edge).epochChecked.rd Reg.NAV_EPOCH_SEQ = d.rd Reg.NAV_EPOCH_SEQ + 1#32
    ∧ (d.epochTaken edge).epochChecked.powerState = d.powerState ∧ (d.epochTaken edge).epochChecked.gps.lastEpoch = edge
    ∧ (d.epochTaken edge).epochChecked.tm = (d.toTbm (d.smpTbm edge)).tm ∧ (d.epochTaken edge).epochChecked.drv = d.drv := by
  obtain ⟨hheld, hlast, hdrv, htm⟩ := (d.epochCounted edge).epochQueued_kept edge
  have h := d.epochTaken_kept edge
  refine ⟨(h.held _ (by decide)).trans ((hheld _ (by decide)).trans (Dev.rd_wr_same _ _ _)), congrArg (field · 2 0) ?_, h.last.trans hlast,
    h.tm.trans htm, h.drv.trans hdrv⟩
  exact (h.held _ (by decide)).trans ((hheld _ (by decide)).trans (d.epochCounted_regs edge _ (by decide)))

theorem Dev.epochTaken_queued {d : Dev} (h : d.bit Reg.NAV_MEAS_CTRL 0 = true) (edge : Nat) :
    (d.epochTaken edge).epochChecked.gps.epochs.getLast? = some ((d.epochCounted edge).epochWords edge) := by
  have hq : (d.epochCounted edge).epochQueued edge = (d.epochCounted edge).measPush ((d.epochCounted edge).epochWords edge) :=
    if_pos (((d.epochCounted_regs edge).bit (by decide) 0).trans h)
  rw [(d.epochTaken_kept edge).epochs, hq]
  exact Dev.measPush_last _ _

theorem Dev.epochTaken_unqueued {d : Dev} (h : d.bit Reg.NAV_MEAS_CTRL 0 = false) (edge : Nat) :
    (d.epochTaken edge).epochChecked.gps.epochs = d.gps.epochs := by
  have hoff : (d.epochCounted edge).bit Reg.NAV_MEAS_CTRL 0 = false := ((d.epochCounted_regs edge).bit (by decide) 0).trans h
  have hq : (d.epochCounted edge).epochQueued edge = d.epochCounted edge := if_neg (by rw [hoff]; decide)
  exact (d.epochTaken_kept edge).epochs.trans ((congrArg (fun d : Dev => d.gps.epochs) hq).trans rfl)

/-- What an epoch says of its channels. -/
def EpochSays (edge k : Nat) (ws : List W32) : Prop :=
  ws.length = 8 + 8 * k ∧ field (ws.getD 0 0) 31 24 = 0xE5 ∧ field (ws.getD 0 0) 23 16 = k ∧ ws.getD 1 0 = lo32 edge ∧ ws.getD 2 0 = hi32 edge

/-- What an epoch leaves. -/
structure EpochDone (edge : Nat) (s : State) (e : Dev) : Prop where
  seq : e.rd Reg.NAV_EPOCH_SEQ = s.dev.rd Reg.NAV_EPOCH_SEQ + 1#32
  last : e.gps.lastEpoch = edge
  due : s.dev.smpTbm edge ≤ e.tm.tbm
  queued : s.dev.bit Reg.NAV_MEAS_CTRL 0 = true → ∃ ws, e.gps.epochs.getLast? = some ws ∧ EpochSays edge s.dev.epochChans.length ws
  unqueued : s.dev.bit Reg.NAV_MEAS_CTRL 0 = false → e.gps.epochs = s.dev.gps.epochs
  drv : e.drv = s.dev.drv

theorem EpochDone.advance {edge : Nat} {s : State} {e : Dev} (h : EpochDone edge s e) (hrun : e.powerState ≤ 1) (n : Nat) :
    EpochDone edge s (e.advance n) :=
  ⟨h.seq, h.last, h.due.trans (Dev.advance_tbm_le hrun n), h.queued, h.unqueued, h.drv⟩

theorem Dev.epochTaken_done (s : State) (edge : Nat) : EpochDone edge s (s.dev.epochTaken edge).epochChecked := by
  obtain ⟨hseq, -, hlast, htm, hdrv⟩ := s.dev.epochTaken_shows edge
  have hwords := (s.dev.epochCounted edge).epochWords_spec edge
  rw [s.dev.epochCounted_chans] at hwords
  exact ⟨hseq, hlast, (Dev.toTbm_reaches s.dev _).trans (le_of_eq (congrArg TimeBases.tbm htm).symm),
    fun hon => ⟨_, Dev.epochTaken_queued hon edge, hwords⟩, fun hoff => Dev.epochTaken_unqueued hoff edge, hdrv⟩

theorem measEpoch_taken {s : State} (hclk : s.dev.clockLost 6 = false) (hpow : s.dev.powerState ≤ 1) (lag : Nat) :
    ∃ t, exec (.measEpoch lag) s = .next t ∧ EpochDone s.dev.epochEdge s t.dev ∧ t.ldg = s.ldg ∧ t.rcd = s.rcd :=
  ⟨_, exec_measEpoch hclk hpow lag,
    (Dev.epochTaken_done s s.dev.epochEdge).advance ((s.dev.epochTaken_shows s.dev.epochEdge).2.1.trans_le hpow) (lag / 10), rfl, rfl⟩

/-- Settles O36. -/
theorem acquisitionAndQueues : Obligations.AcquisitionAndQueues := by
  unfold Obligations.AcquisitionAndQueues
  intro req v n res j j' start ch w rest lag number bits miss s
  refine ⟨?_, ?_, ?_, (exec_acqJobEnd_room · · res), (acqJobEnd_room · · · res j'), (acqJobEnd_full · · · res), acqResultRead_gives, ?_,
    measRead_gives, navWord_taken, exec_navWord_none, navwRead_gives⟩
  · intro u h hok hroom
    obtain ⟨t, ht, hrest⟩ := jobPush_taken h hok hroom j start
    exact ⟨t, (exec_jobPush req v s).trans (congrArg Host.Outcome.next ht), hrest⟩
  · intro u h hno
    obtain ⟨t, ht, hrest⟩ := jobPush_refused h hno
    exact ⟨t, (exec_jobPush req v s).trans (congrArg Host.Outcome.next ht), hrest⟩
  · intro u h
    obtain ⟨t, ht, hrest⟩ := acqFlush_ends h
    exact ⟨t, congrArg Host.Outcome.next ht, hrest⟩
  · intro hclk hpow
    obtain ⟨t, ht, hdone, hldg, hrcd⟩ := measEpoch_taken hclk hpow lag
    exact ⟨t, ht, hdone.seq, hdone.last, hdone.due, hdone.queued, hdone.unqueued, hldg, hrcd, hdone.drv⟩

end Sys2Proof.Machine
end

section
/-! PROOFS. The loops: a sample, its evaluation, a missed deadline and the clear of the latches (R371, R378 to R390). -/
namespace Sys2Proof.Machine

/-! What the soundings of an evaluation touch (R392 to R396) -/

/-- A word that shows a trace. -/
def sndTouched (a : Nat) : Prop := a = Reg.IRQ_RAW pSND ∨ ∃ c, a ∈ traceWords c

/-- A change of the traces and their words alone. -/
structure Dev.Sounds (d e : Dev) : Prop where
  same : Dev.SameBut forgetTraces d e
  rd : ∀ a, ¬sndTouched a → e.rd a = d.rd a

theorem Dev.Sounds.refl (d : Dev) : Dev.Sounds d d := ⟨.refl _ d, fun _ _ => rfl⟩

theorem Dev.Sounds.trans {d e f : Dev} (h : Dev.Sounds d e) (h' : Dev.Sounds e f) : Dev.Sounds d f :=
  ⟨h.same.trans h'.same, fun a ha => (h'.rd a ha).trans (h.rd a ha)⟩

theorem Dev.modTrace_sounds (d : Dev) (c : Nat) (f : Trace → Trace) : Dev.Sounds d (d.modTrace c f) := ⟨d.modTrace_sameBut c f, fun _ _ => rfl⟩

theorem Dev.showTrace_sounds (d : Dev) (c : Nat) : Dev.Sounds d (d.showTrace c) :=
  ⟨d.showTrace_sameBut _ c, fun _ ha => d.rd_showTrace_ne c fun hc => ha (.inr ⟨c, hc⟩)⟩

theorem Dev.trigger_sounds (d : Dev) (c : Nat) : Dev.Sounds d (d.trigger c) := (d.modTrace_sounds c _).trans (Dev.showTrace_sounds _ c)

theorem Dev.irq_sounds (d : Dev) (b : Nat) : Dev.Sounds d (d.irq pSND b) :=
  ⟨(Dev.SameBut.refl _ d).irq _ _, fun _ ha => Dev.rd_irq_ne _ _ _ fun h => ha (.inl h)⟩

theorem Dev.endTrace_sounds (d : Dev) (c : Nat) (b : Bool) : Dev.Sounds d (d.endTrace c b) :=
  ((d.modTrace_sounds c _).trans (Dev.irq_sounds _ 16)).trans (Dev.showTrace_sounds _ c)

theorem Dev.storeSample_sounds (d : Dev) (c : Nat) (v : W32) (tbs : Nat) : Dev.Sounds d (d.storeSample c v tbs) := by
  unfold Dev.storeSample
  extract_lets t q pre pack size e
  split
  · exact (d.modTrace_sounds c _).trans (Dev.showTrace_sounds _ c)
  · split
    · exact d.endTrace_sounds c false
    · have he : Dev.Sounds d e := d.modTrace_sounds c _
      split
      · exact he.trans (e.endTrace_sounds c false)
      · exact he.trans (e.showTrace_sounds c)

theorem Dev.Sounds.foldl {α : Type} {f : Dev → α → Dev} (xs : List α) (d : Dev) (h : ∀ x ∈ xs, ∀ e, Dev.Sounds e (f e x)) :
    Dev.Sounds d (xs.foldl f d) := foldl_related Dev.Sounds.refl Dev.Sounds.trans xs d h

theorem Dev.soundLoop_sounds (d : Dev) (l : Nat) (raw : W32) (tbs : Nat) : Dev.Sounds d (d.soundLoop l raw tbs) := by
  refine Dev.Sounds.foldl _ d fun c _ x => ?_
  extract_lets t v e f dec
  have he : Dev.Sounds x e := by
    unfold e
    split
    · exact x.trigger_sounds c
    · exact .refl x
  have hf : Dev.Sounds x f := he.trans (e.modTrace_sounds c _)
  split
  · exact .refl x
  · split
    · exact (hf.trans (f.modTrace_sounds c _)).trans (Dev.storeSample_sounds _ c v tbs)
    · exact hf.trans (f.modTrace_sounds c _)

theorem Dev.periodChanged_sounds (d : Dev) (l : Nat) : Dev.Sounds d (d.periodChanged l) := by
  refine Dev.Sounds.foldl _ d fun c _ x => ?_
  extract_lets t
  split
  · exact x.endTrace_sounds c true
  · exact .refl x

/-- The words of a loop and of the engine that this chapter's commands leave or count show no trace. -/
theorem loop_not_touched (l : Nat) : ∀ a ∈ [Reg.LPT_U l, Reg.LPT_W l, Reg.LPT_EVAL_SEQ l, Reg.LPT_HOLD_VAL l, Reg.FAULT pLPE], ¬sndTouched a := by
  intro a ha hs
  rcases hs with hs | ⟨c, hs⟩
  · rw [hs] at ha
    simp only [Reg.IRQ_RAW, Reg.FAULT, pSND, pLPE, Reg.LPT_U, Reg.LPT_W, Reg.LPT_EVAL_SEQ, Reg.LPT_HOLD_VAL, List.mem_cons, List.not_mem_nil, or_false] at ha
    omega
  · simp only [traceWords, Reg.SND_SND_STAT, Reg.SND_SND_T0, Reg.SND_SND_TRIG_IDX, List.mem_cons, List.not_mem_nil, or_false] at hs
    simp only [Reg.FAULT, pLPE, Reg.LPT_U, Reg.LPT_W, Reg.LPT_EVAL_SEQ, Reg.LPT_HOLD_VAL, List.mem_cons, List.not_mem_nil, or_false] at ha
    omega

/-! A loop's own state -/

theorem Dev.loop_of_lpe {d e : Dev} (h : e.lpe.loop = d.lpe.loop) (m : Nat) : e.loop m = d.loop m :=
  congrArg (fun x => sget (fun _ => ({} : LoopSt)) x m) h

theorem Dev.Sounds.loop {d e : Dev} (h : Dev.Sounds d e) (m : Nat) : e.loop m = d.loop m := Dev.loop_of_lpe (Dev.SameBut.loops h.same) m

/-- The words that show a loop. -/
def loopShown (l : Nat) : List Nat := [Reg.LP_STATE l, Reg.LPE_HOLD 0 + 4 * (l / 32), Reg.LPE_FE 0 + 4 * (l / 32), Reg.STATUS pLPE]

theorem Dev.showLoop_rdKept (d : Dev) (l : Nat) : Dev.RdKept (loopShown l) d (d.showLoop l) :=
  ((((Dev.RdKept.refl _ d).wr (by simp [loopShown]) _).setBit (by simp [loopShown]) _ _).setBit (by simp [loopShown]) _ _).setStat
    (by simp [loopShown]) _ _

theorem Dev.loop_showLoop (d : Dev) (l m : Nat) : (d.showLoop l).loop m = d.loop m :=
  Dev.loop_of_lpe ((Dev.showLoop_sameBut id d l).proj (·.lpe.loop) fun _ => rfl) m

theorem loopShown_apart {l : Nat} (hl : l < 128) (m : Nat) :
    ∀ a ∈ [Reg.LPT_U m, Reg.LPT_W m, Reg.LPT_EVAL_SEQ m, Reg.LPT_HOLD_VAL m, Reg.FAULT pLPE, Reg.LPE_EVAL_MISS], a ∉ loopShown l := by
  intro a ha hs
  simp only [loopShown, Reg.LP_STATE, Reg.LPE_HOLD, Reg.LPE_FE, Reg.STATUS, pLPE, Reg.FAULT, Reg.LPE_EVAL_MISS, Reg.LPT_U, Reg.LPT_W, Reg.LPT_EVAL_SEQ,
    Reg.LPT_HOLD_VAL, List.mem_cons, List.not_mem_nil, or_false] at ha hs
  omega

/-! LOOP_EVALUATION (R379 to R386) -/

/-- The sample taken and the evaluation counted. -/
def Dev.evalBegun (d : Dev) (l : Nat) : Dev := (d.modLoop l (fun y => { y with latched := none })).countEval

/-- A part without the loop engine. -/
def forgetLoops (d : Dev) : Dev := { d with lpe := {} }

/-- A change of the loops and of words outside `l`. -/
structure Dev.LoopOnly (l : List Nat) (d e : Dev) : Prop where
  same : Dev.SameBut forgetLoops d e
  rd : Dev.RdKept l d e

theorem Dev.LoopOnly.trans {l : List Nat} {d e f : Dev} (h : Dev.LoopOnly l d e) (h' : Dev.LoopOnly l e f) : Dev.LoopOnly l d f :=
  ⟨h.same.trans h'.same, h.rd.trans h'.rd⟩

theorem Dev.evalBegun_only (d : Dev) (l : Nat) : Dev.LoopOnly [Reg.LPE_UTIL_PEAK] d (d.evalBegun l) := by
  unfold Dev.evalBegun Dev.countEval Dev.peak
  extract_lets ms n
  split
  · exact ⟨((Dev.SameBut.refl _ d).lpe (fun _ _ => rfl) _).wr _ _, ((Dev.RdKept.refl _ d).struct rfl).wr (by decide) _⟩
  · exact ⟨(Dev.SameBut.refl _ d).lpe (fun _ _ => rfl) _, (Dev.RdKept.refl _ d).struct rfl⟩

theorem Dev.loop_countEval (d : Dev) (m : Nat) : d.countEval.loop m = d.loop m := by
  unfold Dev.countEval Dev.peak
  extract_lets ms n
  split <;> rfl

theorem Dev.loop_evalBegun_same (d : Dev) (l : Nat) : (d.evalBegun l).loop l = { d.loop l with latched := none } :=
  (Dev.loop_countEval _ l).trans (Dev.loop_modLoop_same d l _)

theorem Dev.loop_evalBegun_ne (d : Dev) {l m : Nat} (h : m ≠ l) : (d.evalBegun l).loop m = d.loop m :=
  (Dev.loop_countEval _ m).trans (Dev.loop_modLoop_ne d _ h)

/-- Words written one after another. -/
def Dev.wrs (d : Dev) (ws : List (Nat × W32)) : Dev := ws.foldl (fun d p => d.wr p.1 p.2) d

theorem Dev.rd_wrs_ne (d : Dev) {ws : List (Nat × W32)} {a : Nat} (ha : a ∉ ws.map Prod.fst) : (d.wrs ws).rd a = d.rd a :=
  (Dev.RdKept.foldl (l := ws.map Prod.fst) ws d fun _ hp e => (Dev.RdKept.refl _ e).wr (List.mem_map_of_mem hp) _) a ha

theorem Dev.wrs_sameBut (blank : Dev → Dev) (d : Dev) (ws : List (Nat × W32)) : Dev.SameBut blank d (d.wrs ws) :=
  .foldl ws d fun _ _ e => (Dev.SameBut.refl blank e).wr _ _

/-- The values of the entry, before W and the count. -/
def Dev.evalValues (d : Dev) (l : Nat) (rt y e : W32) : List (Nat × W32) :=
  [(Reg.LPT_RT l, rt), (Reg.LPT_R l, (d.loop l).r), (Reg.LPT_RDOT l, (d.loop l).rdot), (Reg.LPT_Y l, y), (Reg.LPT_E l, e),
    (Reg.LPT_I l, (d.loop l).i), (Reg.LPT_D l, (d.loop l).d)]

/-- The values and the count of an evaluation, before the words that show the loop. -/
def Dev.evalCounted (d : Dev) (l : Nat) (rt y e w : W32) : Dev :=
  (((d.wrs (d.evalValues l rt y e)).wr (Reg.LPT_W l) w).inc (Reg.LPT_EVAL_SEQ l)).wr (Reg.LPT_FE_RUN l) (sat32 ((d.loop l).feRunNs / 1000000))

theorem Dev.showEval_eq (d : Dev) (l : Nat) (rt y e w : W32) : d.showEval l rt y e w = (d.evalCounted l rt y e w).showLoop l := rfl

theorem Dev.showEval_same (blank : Dev → Dev) (d : Dev) (l : Nat) (rt y e w : W32) : Dev.SameBut blank d (d.showEval l rt y e w) := by
  rw [d.showEval_eq]
  exact ((((d.wrs_sameBut blank _).wr _ _).wr _ _).wr _ _).trans (Dev.showLoop_sameBut blank _ l)

theorem Dev.evalCounted_shows (d : Dev) (l : Nat) (rt y e w : W32) : (d.evalCounted l rt y e w).rd (Reg.LPT_W l) = w
    ∧ (d.evalCounted l rt y e w).rd (Reg.LPT_EVAL_SEQ l) = d.rd (Reg.LPT_EVAL_SEQ l) + 1#32
    ∧ (d.evalCounted l rt y e w).rd (Reg.LPT_U l) = d.rd (Reg.LPT_U l) := by
  have hvals : ∀ a ∈ [Reg.LPT_EVAL_SEQ l, Reg.LPT_U l], (d.wrs (d.evalValues l rt y e)).rd a = d.rd a := fun a ha => d.rd_wrs_ne fun hm => by
    simp only [Dev.evalValues, List.map_cons, List.map_nil, Reg.LPT_RT, Reg.LPT_R, Reg.LPT_RDOT, Reg.LPT_Y, Reg.LPT_E, Reg.LPT_I, Reg.LPT_D,
      Reg.LPT_EVAL_SEQ, Reg.LPT_U, List.mem_cons, List.not_mem_nil, or_false] at hm ha
    omega
  have hrun : ∀ a ∈ [Reg.LPT_W l, Reg.LPT_EVAL_SEQ l, Reg.LPT_U l], a ≠ Reg.LPT_FE_RUN l := fun a ha => by
    simp only [Reg.LPT_W, Reg.LPT_EVAL_SEQ, Reg.LPT_U, Reg.LPT_FE_RUN, List.mem_cons, List.not_mem_nil, or_false] at ha ⊢
    omega
  have hw : Reg.LPT_W l ≠ Reg.LPT_EVAL_SEQ l ∧ Reg.LPT_U l ≠ Reg.LPT_EVAL_SEQ l ∧ Reg.LPT_U l ≠ Reg.LPT_W l := by
    simp only [Reg.LPT_W, Reg.LPT_EVAL_SEQ, Reg.LPT_U]
    omega
  obtain ⟨hws, hus, huw⟩ := hw
  let f := (d.wrs (d.evalValues l rt y e)).wr (Reg.LPT_W l) w
  refine ⟨(Dev.rd_wr_ne _ _ (hrun _ (by simp))).trans ?_, (Dev.rd_wr_ne _ _ (hrun _ (by simp))).trans ?_,
    (Dev.rd_wr_ne _ _ (hrun _ (by simp))).trans ?_⟩
  · exact (Dev.rd_wr_ne f _ hws).trans (Dev.rd_wr_same _ _ _)
  · refine (Dev.rd_wr_same f _ _).trans (congrArg (· + 1#32) ?_)
    exact (Dev.rd_wr_ne _ _ hws.symm).trans (hvals _ (by simp))
  · exact (Dev.rd_wr_ne f _ hus).trans ((Dev.rd_wr_ne _ _ huw).trans (hvals _ (by simp)))

theorem Dev.showEval_shows (d : Dev) {l : Nat} (hl : l < 128) (rt y e w : W32) : (d.showEval l rt y e w).rd (Reg.LPT_W l) = w
    ∧ (d.showEval l rt y e w).rd (Reg.LPT_EVAL_SEQ l) = d.rd (Reg.LPT_EVAL_SEQ l) + 1#32
    ∧ (d.showEval l rt y e w).rd (Reg.LPT_U l) = d.rd (Reg.LPT_U l) := by
  obtain ⟨hw, hseq, hu⟩ := d.evalCounted_shows l rt y e w
  rw [d.showEval_eq]
  generalize d.evalCounted l rt y e w = f at hw hseq hu ⊢
  have hshow := Dev.showLoop_rdKept f l
  have hapart := loopShown_apart hl l
  exact ⟨(hshow _ (hapart _ (by simp))).trans hw, (hshow _ (hapart _ (by simp))).trans hseq, (hshow _ (hapart _ (by simp))).trans hu⟩

theorem Dev.loop_showEval (d : Dev) (l m : Nat) (rt y e w : W32) : (d.showEval l rt y e w).loop m = d.loop m := by
  have hlpe : (d.showEval l rt y e w).lpe = d.lpe := (d.showEval_same id l rt y e w).proj (·.lpe) fun _ => rfl
  exact Dev.loop_of_lpe (congrArg LoopEngine.loop hlpe) m

theorem Dev.Sounds.shows {d e : Dev} (h : Dev.Sounds d e) (l : Nat) : e.rd (Reg.LPT_W l) = d.rd (Reg.LPT_W l)
    ∧ e.rd (Reg.LPT_EVAL_SEQ l) = d.rd (Reg.LPT_EVAL_SEQ l) ∧ e.rd (Reg.LPT_U l) = d.rd (Reg.LPT_U l) ∧ e.rd (Reg.FAULT pLPE) = d.rd (Reg.FAULT pLPE) :=
  ⟨h.rd _ (loop_not_touched l _ (by simp)), h.rd _ (loop_not_touched l _ (by simp)), h.rd _ (loop_not_touched l _ (by simp)),
    h.rd _ (loop_not_touched l _ (by simp))⟩

theorem Dev.Sounds.loopsOnly {d e : Dev} (h : Dev.Sounds d e) : Dev.SameBut forgetLoops d e :=
  by
  have hsame : forgetTraces { e with regs := [] } = forgetTraces { d with regs := [] } := h.same
  have hloops := congrArg forgetLoops hsame
  exact hloops

/-- What an evaluation with finite values leaves: the loop's new state, W, the count, and the traces. -/
def Dev.evalEnds (d : Dev) (l : Nat) (st : LoopSt) (rt y e w raw : W32) (tbs : Nat) : Dev :=
  ((d.modLoop l (fun _ => st)).showEval l rt y e w).soundLoop l raw tbs

/-- A finite evaluation of a loop: its state, W, the count, and what stays. -/
structure Dev.Evaluated (l : Nat) (st : LoopSt) (w : W32) (d e : Dev) : Prop where
  loop : e.loop l = st
  others : ∀ m, m ≠ l → e.loop m = d.loop m
  w : e.rd (Reg.LPT_W l) = w
  seq : e.rd (Reg.LPT_EVAL_SEQ l) = d.rd (Reg.LPT_EVAL_SEQ l) + 1#32
  u : e.rd (Reg.LPT_U l) = d.rd (Reg.LPT_U l)
  same : Dev.SameBut forgetLoops d e

theorem Dev.Evaluated.sounds {l : Nat} {st : LoopSt} {w : W32} {d e f : Dev} (h : Dev.Evaluated l st w d e) (hs : Dev.Sounds e f) :
    Dev.Evaluated l st w d f := by
  obtain ⟨hw, hseq, hu, -⟩ := hs.shows l
  exact ⟨(hs.loop l).trans h.loop, fun m hm => (hs.loop m).trans (h.others m hm), hw.trans h.w, hseq.trans h.seq, hu.trans h.u,
    h.same.trans hs.loopsOnly⟩

theorem Dev.showEval_evaluated (d : Dev) {l : Nat} (hl : l < 128) (st : LoopSt) (rt y e w : W32) :
    Dev.Evaluated l st w d ((d.modLoop l (fun _ => st)).showEval l rt y e w) := by
  have hloop := Dev.loop_modLoop_same d l (fun _ => st)
  have hothers (m : Nat) (hm : m ≠ l) := Dev.loop_modLoop_ne d (fun _ => st) hm
  have hsame : Dev.SameBut forgetLoops d (d.modLoop l (fun _ => st)) := (Dev.SameBut.refl _ d).lpe (fun _ _ => rfl) _
  have hrd (a : Nat) : (d.modLoop l (fun _ => st)).rd a = d.rd a := rfl
  generalize d.modLoop l (fun _ => st) = f at hloop hothers hsame hrd ⊢
  obtain ⟨hw, hseq, hu⟩ := f.showEval_shows hl rt y e w
  exact ⟨(f.loop_showEval l l rt y e w).trans hloop, fun m hm => (f.loop_showEval l m rt y e w).trans (hothers m hm), hw,
    hseq.trans (congrArg (· + 1#32) (hrd _)), hu.trans (hrd _), hsame.trans (f.showEval_same _ l rt y e w)⟩

theorem Dev.evalEnds_evaluated (d : Dev) {l : Nat} (hl : l < 128) (st : LoopSt) (rt y e w raw : W32) (tbs : Nat) :
    Dev.Evaluated l st w d (d.evalEnds l st rt y e w raw tbs) := (d.showEval_evaluated hl st rt y e w).sounds (Dev.soundLoop_sounds _ l raw tbs)

/-! A loop enters HOLD (R385, R388) -/

theorem Dev.cantxPublish_regs (d : Dev) (j : Nat) (u : W32) : (d.cantxPublish j u).regs = d.regs := by
  unfold Dev.cantxPublish
  extract_lets p k fr x now inPeriod
  split
  · rfl
  · split
    · rfl
    · split <;> rfl

theorem Dev.publish_rd (d : Dev) (l : Nat) (u : W32) (a : Nat) : (d.publish l u).rd a = (d.wr (Reg.LPT_U l) u).rd a := by
  unfold Dev.publish
  extract_lets e b
  split
  · rfl
  · split
    · exact congrArg (fun m => sget resetWord m a) (Dev.cantxPublish_regs e _ u)
    · rfl

/-- A part without the blocks that a loop's output reaches. -/
def forgetOutputs (d : Dev) : Dev := { d with drv := {}, net := {} }

theorem Dev.publish_outputs (d : Dev) (l : Nat) (u : W32) : Dev.SameBut forgetOutputs d (d.publish l u) :=
  Dev.publish_sameBut (fun _ _ => rfl) (fun _ _ => rfl) d l u

theorem Dev.loop_publish (d : Dev) (l m : Nat) (u : W32) : (d.publish l u).loop m = d.loop m := by
  have hlpe : (d.publish l u).lpe = d.lpe := (d.publish_outputs l u).proj (·.lpe) fun _ => rfl
  exact Dev.loop_of_lpe (congrArg LoopEngine.loop hlpe) m

/-- A loop's state in HOLD for `causes`. -/
def LoopSt.held (x : LoopSt) (causes : List Nat) (u : W32) : LoopSt := { x with state := lsHOLD, causes := causes, nextOut := none, uPrev := u }

/-- The loop held and HOLD_VAL published. -/
def Dev.holdPublished (d : Dev) (l : Nat) (causes : List Nat) : Dev :=
  (d.modLoop l (LoopSt.held · causes (d.rd (Reg.LPT_HOLD_VAL l)))).publish l (d.rd (Reg.LPT_HOLD_VAL l))

/-- The fault of a stale input. -/
def Dev.holdFaulted (d : Dev) (causes : List Nat) : Dev := if causes.foldl min 15 = hcSTALE then d.fault pLPE 17 else d

/-- The fault, the interrupt and the record of a hold. -/
def Dev.holdNoted (d : Dev) (l : Nat) (causes : List Nat) : Dev := ((d.holdFaulted causes).irq pLPE 16).recIrq pLPE 16 [] objIsLoop l

theorem Dev.enterHold_eq (d : Dev) (l : Nat) (causes : List Nat) :
    d.enterHold l causes = ((d.holdPublished l causes).holdNoted l causes).showLoop l := rfl

/-- The words of the engine that a hold touches besides the loop's own. -/
def holdCommon : List Nat := [Reg.FAULT pLPE, Reg.IRQ_RAW pLPE, Reg.REC_SUPP_TOTAL]

/-- What a sample, a hold or a missed deadline may change: the loop engine, and the outputs, and the recorder's front. -/
def forgetLoopWork (d : Dev) : Dev := { d with lpe := {}, drv := {}, net := {}, rcf := {} }

theorem Dev.holdFaulted_rdKept (d : Dev) (causes : List Nat) : Dev.RdKept holdCommon d (d.holdFaulted causes) := by
  unfold Dev.holdFaulted
  split
  · exact (Dev.RdKept.refl _ d).fault (by decide) (by decide) _
  · exact .refl _ d

theorem Dev.holdFaulted_sameBut (blank : Dev → Dev) (d : Dev) (causes : List Nat) : Dev.SameBut blank d (d.holdFaulted causes) := by
  unfold Dev.holdFaulted
  split
  · exact (Dev.SameBut.refl _ d).fault _ _
  · exact .refl _ d

theorem holdCommon_apart (l : Nat) : Reg.LPT_U l ∉ holdCommon ∧ Reg.LPT_EVAL_SEQ l ∉ holdCommon ∧ Reg.LPT_HOLD_VAL l ∉ holdCommon := by
  simp only [holdCommon, Reg.FAULT, Reg.IRQ_RAW, pLPE, Reg.REC_SUPP_TOTAL, Reg.LPT_U, Reg.LPT_EVAL_SEQ, Reg.LPT_HOLD_VAL, List.mem_cons, List.not_mem_nil,
    or_false]
  omega

/-- A loop held: its state, U, and what stays. -/
structure Dev.Held (l : Nat) (causes : List Nat) (d e : Dev) : Prop where
  loop : e.loop l = (d.loop l).held causes (d.rd (Reg.LPT_HOLD_VAL l))
  u : e.rd (Reg.LPT_U l) = d.rd (Reg.LPT_HOLD_VAL l)
  seq : e.rd (Reg.LPT_EVAL_SEQ l) = d.rd (Reg.LPT_EVAL_SEQ l)
  fault : causes.foldl min 15 ≠ hcSTALE → e.rd (Reg.FAULT pLPE) = d.rd (Reg.FAULT pLPE)
  same : Dev.SameBut forgetLoopWork d e

theorem Dev.holdPublished_held (d : Dev) (l : Nat) (causes : List Nat) : Dev.Held l causes d (d.holdPublished l causes) := by
  have hrd (a : Nat) : (d.holdPublished l causes).rd a = (d.wr (Reg.LPT_U l) (d.rd (Reg.LPT_HOLD_VAL l))).rd a := Dev.publish_rd _ l _ a
  have hne : Reg.LPT_EVAL_SEQ l ≠ Reg.LPT_U l ∧ Reg.FAULT pLPE ≠ Reg.LPT_U l := by
    simp only [Reg.LPT_EVAL_SEQ, Reg.LPT_U, Reg.FAULT, pLPE]
    omega
  obtain ⟨hseq, hfault⟩ := hne
  refine ⟨(Dev.loop_publish _ l l _).trans (Dev.loop_modLoop_same d l _), (hrd _).trans (Dev.rd_wr_same _ _ _), (hrd _).trans (Dev.rd_wr_ne _ _ hseq),
    fun _ => (hrd _).trans (Dev.rd_wr_ne _ _ hfault), ?_⟩
  exact ((Dev.SameBut.refl forgetLoopWork d).lpe (fun _ _ => rfl) _).trans (Dev.publish_sameBut (fun _ _ => rfl) (fun _ _ => rfl) _ l _)

theorem Dev.holdNoted_rdKept (d : Dev) (l : Nat) (causes : List Nat) : Dev.RdKept holdCommon d (d.holdNoted l causes) :=
  ((d.holdFaulted_rdKept causes).irq (by decide) 16).emit (by decide) _

theorem Dev.holdNoted_sameBut {blank : Dev → Dev} (hr : ForgetsRcf blank) (d : Dev) (l : Nat) (causes : List Nat) :
    Dev.SameBut blank d (d.holdNoted l causes) := ((d.holdFaulted_sameBut blank causes).irq _ _).emit hr _

theorem Dev.holdNoted_fault (d : Dev) (l : Nat) {causes : List Nat} (h : causes.foldl min 15 ≠ hcSTALE) :
    (d.holdNoted l causes).rd (Reg.FAULT pLPE) = d.rd (Reg.FAULT pLPE) := by
  have hf : d.holdFaulted causes = d := if_neg h
  unfold Dev.holdNoted
  rw [hf]
  exact (Dev.rd_emit_ne _ _ (by decide)).trans (Dev.rd_irq_ne _ _ _ (by decide))

theorem Dev.loop_holdNoted (d : Dev) (l m : Nat) (causes : List Nat) : (d.holdNoted l causes).loop m = d.loop m := by
  have hlpe : (d.holdNoted l causes).lpe = d.lpe :=
    (d.holdNoted_sameBut (blank := fun d => { d with rcf := {} }) (fun _ _ => rfl) l causes).proj (·.lpe) fun _ => rfl
  exact Dev.loop_of_lpe (congrArg LoopEngine.loop hlpe) m

section
variable {l : Nat} {causes : List Nat} {d e : Dev} (h : Dev.Held l causes d e)
include h

theorem Dev.Held.noted : Dev.Held l causes d (e.holdNoted l causes) := by
  obtain ⟨hu, hseq, -⟩ := holdCommon_apart l
  exact ⟨(e.loop_holdNoted l l causes).trans h.loop, (e.holdNoted_rdKept l causes _ hu).trans h.u, (e.holdNoted_rdKept l causes _ hseq).trans h.seq,
    fun hc => (e.holdNoted_fault l hc).trans (h.fault hc), h.same.trans (e.holdNoted_sameBut (fun _ _ => rfl) l causes)⟩

theorem Dev.Held.shown (hl : l < 128) : Dev.Held l causes d (e.showLoop l) := by
  have hshow := e.showLoop_rdKept l
  have hapart := loopShown_apart hl l
  exact ⟨(e.loop_showLoop l l).trans h.loop, (hshow _ (hapart _ (by simp))).trans h.u, (hshow _ (hapart _ (by simp))).trans h.seq,
    fun hc => (hshow _ (hapart _ (by simp))).trans (h.fault hc), h.same.trans (Dev.showLoop_sameBut _ e l)⟩
end

theorem Dev.enterHold_held (d : Dev) {l : Nat} (hl : l < 128) (causes : List Nat) : Dev.Held l causes d (d.enterHold l causes) :=
  (d.enterHold_eq l causes).symm ▸ ((d.holdPublished_held l causes).noted.shown hl)

/-! Values that are not finite (R381) -/

/-- A loop's state with the numeric fault latched. -/
def LoopSt.numSet (x : LoopSt) : LoopSt := { x with num := true }

/-- A held loop's state with the numeric cause beside its others. -/
def LoopSt.alsoNum (x : LoopSt) : LoopSt := { x with causes := setInsert x.causes hcNUM }

/-- The numeric fault latched and the evaluation counted. -/
def Dev.numLatched (d : Dev) (l : Nat) : Dev := (d.modLoop l LoopSt.numSet).inc (Reg.LPT_EVAL_SEQ l)

/-- The fault of a numeric hold. -/
def Dev.numFaulted (d : Dev) (l : Nat) (held : Bool) : Dev :=
  if held && (d.loop l).num then d.numLatched l else (d.numLatched l).faultRec pLPE 18 [] objIsLoop l

theorem Dev.numHold_auto (d : Dev) (l : Nat) : d.numHold l false = ((d.numLatched l).faultRec pLPE 18 [] objIsLoop l).enterHold l [hcNUM] := rfl

theorem Dev.numHold_held (d : Dev) (l : Nat) :
    d.numHold l true = ((d.numFaulted l true).modLoop l LoopSt.alsoNum).showLoop l := rfl

/-- The numeric fault of a loop latched: what its evaluation leaves before the loop is held. -/
structure Dev.NumLatched (l : Nat) (d e : Dev) : Prop where
  loop : e.loop l = (d.loop l).numSet
  seq : e.rd (Reg.LPT_EVAL_SEQ l) = d.rd (Reg.LPT_EVAL_SEQ l) + 1#32
  hold : e.rd (Reg.LPT_HOLD_VAL l) = d.rd (Reg.LPT_HOLD_VAL l)
  same : Dev.SameBut forgetLoopWork d e

theorem Dev.numLatched_latched (d : Dev) (l : Nat) : Dev.NumLatched l d (d.numLatched l) := by
  have hne : Reg.LPT_HOLD_VAL l ≠ Reg.LPT_EVAL_SEQ l := by
    simp only [Reg.LPT_HOLD_VAL, Reg.LPT_EVAL_SEQ]
    omega
  exact ⟨Dev.loop_modLoop_same d l _, Dev.rd_wr_same _ _ _, Dev.rd_wr_ne _ _ hne, ((Dev.SameBut.refl _ d).lpe (fun _ _ => rfl) _).wr _ _⟩

theorem Dev.lpe_faultRec (d : Dev) (p b : Nat) (vs : List W32) (o i : Nat) : (d.faultRec p b vs o i).lpe = d.lpe :=
  ((Dev.SameBut.refl (fun d => { d with rcf := {} }) d).faultRec (fun _ _ => rfl) p b vs o i).proj (·.lpe) (fun _ => rfl)

theorem Dev.NumLatched.faulted {l : Nat} {d e : Dev} (h : Dev.NumLatched l d e) : Dev.NumLatched l d (e.faultRec pLPE 18 [] objIsLoop l) := by
  obtain ⟨-, hseq, hhold⟩ := holdCommon_apart l
  have hrd : Dev.RdKept holdCommon e (e.faultRec pLPE 18 [] objIsLoop l) :=
    (Dev.RdKept.refl _ e).faultRec (by decide) (by decide) (by decide) _ _ _ _
  exact ⟨(Dev.loop_of_lpe (congrArg LoopEngine.loop (e.lpe_faultRec _ _ _ _ _)) l).trans h.loop, (hrd _ hseq).trans h.seq, (hrd _ hhold).trans h.hold,
    h.same.faultRec (fun _ _ => rfl) _ _ _ _ _⟩

theorem Dev.numFaulted_latched (d : Dev) (l : Nat) (held : Bool) : Dev.NumLatched l d (d.numFaulted l held) := by
  unfold Dev.numFaulted
  split
  · exact d.numLatched_latched l
  · exact (d.numLatched_latched l).faulted

/-- A loop with a numeric hold. -/
structure Dev.NumHeld (l : Nat) (d e : Dev) : Prop where
  num : (e.loop l).num = true
  cause : hcNUM ∈ (e.loop l).causes
  latched : (e.loop l).latched = (d.loop l).latched
  r : (e.loop l).r = (d.loop l).r
  same : Dev.SameBut forgetLoopWork d e

/-- A loop that a numeric fault takes into HOLD. -/
structure Dev.NumEntered (l : Nat) (d e : Dev) : Prop where
  state : (e.loop l).state = lsHOLD
  causes : (e.loop l).causes = [hcNUM]
  u : e.rd (Reg.LPT_U l) = d.rd (Reg.LPT_HOLD_VAL l)
  seq : e.rd (Reg.LPT_EVAL_SEQ l) = d.rd (Reg.LPT_EVAL_SEQ l) + 1#32
  fault : e.bit (Reg.FAULT pLPE) 18 = true

theorem Dev.Sounds.loopWork {d e : Dev} (h : Dev.Sounds d e) : Dev.SameBut forgetLoopWork d e := by
  have hsame : forgetTraces { e with regs := [] } = forgetTraces { d with regs := [] } := h.same
  have hwork := congrArg forgetLoopWork hsame
  exact hwork

theorem Dev.NumHeld.sounds {l : Nat} {d e f : Dev} (h : Dev.NumHeld l d e) (hs : Dev.Sounds e f) : Dev.NumHeld l d f := by
  have hloop := hs.loop l
  exact ⟨(congrArg LoopSt.num hloop).trans h.num, (congrArg LoopSt.causes hloop).symm ▸ h.cause, (congrArg LoopSt.latched hloop).trans h.latched,
    (congrArg LoopSt.r hloop).trans h.r, h.same.trans hs.loopWork⟩

theorem Dev.NumEntered.sounds {l : Nat} {d e f : Dev} (h : Dev.NumEntered l d e) (hs : Dev.Sounds e f) : Dev.NumEntered l d f := by
  have hloop := hs.loop l
  obtain ⟨-, hseq, hu, hfault⟩ := hs.shows l
  exact ⟨(congrArg LoopSt.state hloop).trans h.state, (congrArg LoopSt.causes hloop).trans h.causes, hu.trans h.u, hseq.trans h.seq,
    (congrArg (bitOf · 18) hfault).trans h.fault⟩

theorem Dev.numHold_auto_spec (d : Dev) {l : Nat} (hl : l < 128) : Dev.NumHeld l d (d.numHold l false) ∧ Dev.NumEntered l d (d.numHold l false) := by
  have hnum := (d.numLatched_latched l).faulted
  have hfault : ((d.numLatched l).faultRec pLPE 18 [] objIsLoop l).bit (Reg.FAULT pLPE) 18 = true := Dev.bit_faultRec _ pLPE (by decide)
  rw [d.numHold_auto]
  generalize (d.numLatched l).faultRec pLPE 18 [] objIsLoop l = e at hnum hfault ⊢
  have h := e.enterHold_held hl [hcNUM]
  generalize e.enterHold l [hcNUM] = f at h ⊢
  have hloop : f.loop l = _ := h.loop.trans (congrArg (LoopSt.held · [hcNUM] (e.rd (Reg.LPT_HOLD_VAL l))) hnum.loop)
  refine ⟨⟨(congrArg LoopSt.num hloop).trans rfl, ?_, (congrArg LoopSt.latched hloop).trans rfl, (congrArg LoopSt.r hloop).trans rfl, hnum.same.trans h.same⟩,
    ⟨(congrArg LoopSt.state hloop).trans rfl, (congrArg LoopSt.causes hloop).trans rfl, h.u.trans hnum.hold, h.seq.trans hnum.seq,
      (congrArg (bitOf · 18) (h.fault (by decide))).trans hfault⟩⟩
  rw [congrArg LoopSt.causes hloop]
  exact List.mem_singleton.mpr rfl

theorem Dev.numHold_held_spec (d : Dev) (l : Nat) : Dev.NumHeld l d (d.numHold l true) := by
  have hnum := d.numFaulted_latched l true
  rw [d.numHold_held]
  generalize d.numFaulted l true = e at hnum ⊢
  have hloop := ((e.modLoop l LoopSt.alsoNum).loop_showLoop l l).trans (Dev.loop_modLoop_same e l LoopSt.alsoNum)
  rw [hnum.loop] at hloop
  refine ⟨(congrArg LoopSt.num hloop).trans rfl, ?_, (congrArg LoopSt.latched hloop).trans rfl, (congrArg LoopSt.r hloop).trans rfl,
    (hnum.same.lpe (fun _ _ => rfl) _).trans (Dev.showLoop_sameBut _ _ l)⟩
  rw [congrArg LoopSt.causes hloop]
  exact mem_setInsert.mpr (.inl rfl)

/-! The evaluation of a sample -/

/-- The front of an evaluation: target, feedback, set-point and its rate. -/
def Dev.evalFront (d : Dev) (l : Nat) (x : Latched) : W32 × W32 × W32 × W32 := d.front l x (d.derived l)

/-- The following error of an evaluation. -/
def Dev.evalError (d : Dev) (l : Nat) (x : Latched) : W32 := fSub (d.evalFront l x).2.2.1 (d.evalFront l x).2.1

/-- The result of an AUTO evaluation without a preset. -/
def Dev.autoResult (d : Dev) (l : Nat) (x : Latched) : LoopSt × W32 × W32 × List W32 :=
  d.autoEval l x (d.derived l) (d.evalFront l x).2.1 (d.evalFront l x).2.2.1 (d.evalFront l x).2.2.2

/-- The result of a preset evaluation. -/
def Dev.presetResult (d : Dev) (l : Nat) (x : Latched) : LoopSt × W32 × W32 × List W32 :=
  d.presetEval l x (d.derived l) (d.evalFront l x).2.1 (d.evalFront l x).2.2.1 (d.evalFront l x).2.2.2

/-- An AUTO evaluation with its result. -/
def Dev.evalAuto (d : Dev) (l : Nat) (x : Latched) (res : LoopSt × W32 × W32 × List W32) : Dev :=
  if res.2.2.2.all fFinite then
    (((d.modLoop l (fun _ => res.1)).supervise l (d.evalError l x) (d.evalFront l x).2.1 res.2.2.1).showEval l (d.evalFront l x).1 (d.evalFront l x).2.1
      (d.evalError l x) res.2.1).soundLoop l x.fb x.tbs
  else (d.numHold l false).soundLoop l x.fb x.tbs

/-- The output of an evaluation outside AUTO. -/
def Dev.otherOut (d : Dev) (l : Nat) (x : Latched) : W32 := if x.state = lsMANUAL then d.manualOut l (d.derived l) else d.rd (Reg.LPT_HOLD_VAL l)

/-- The state that an evaluation outside AUTO leaves. -/
def Dev.otherState (d : Dev) (l : Nat) (x : Latched) (out : W32) : LoopSt :=
  { d.loop l with r := (d.evalFront l x).2.2.1, rdot := (d.evalFront l x).2.2.2, uPrev := out, nextOut := some out }

/-- An evaluation outside AUTO with its output. -/
def Dev.evalOther (d : Dev) (l : Nat) (x : Latched) (out : W32) : Dev :=
  if [(d.evalFront l x).2.1, (d.evalFront l x).2.2.1, (d.evalFront l x).2.2.2, d.evalError l x, out].all fFinite then
    d.evalEnds l (d.otherState l x out) (d.evalFront l x).1 (d.evalFront l x).2.1 (d.evalError l x) (d.rd (Reg.LPT_W l)) x.fb x.tbs
  else (d.numHold l (x.state = lsHOLD)).soundLoop l x.fb x.tbs

/-- LOOP_EVALUATION over what is latched. -/
def Dev.evalStep (d : Dev) (l : Nat) : Option Latched → Bool → Dev
  | some x, true =>
    if x.state = lsAUTO then
      (d.evalBegun l).evalAuto l x (if ((d.evalBegun l).loop l).preset ≠ 0 then (d.evalBegun l).presetResult l x else (d.evalBegun l).autoResult l x)
    else (d.evalBegun l).evalOther l x ((d.evalBegun l).otherOut l x)
  | _, _ => d

theorem exec_loopEvaluation (loop : Fin 128) (s : State) :
    exec (.loopEvaluation loop) s = .next (onDev (fun d => d.evalStep loop (d.loop loop).latched d.lpeOn) s) := rfl

theorem exec_loopEvaluation_idle {loop : Fin 128} {s : State} (h : (s.dev.loop loop).latched = none ∨ s.dev.lpeOn = false) :
    exec (.loopEvaluation loop) s = .next s := by
  have hstep : s.dev.evalStep loop (s.dev.loop loop).latched s.dev.lpeOn = s.dev := by
    rcases h with h | h
    · rw [h]
      rfl
    · rw [h]
      cases (s.dev.loop loop).latched <;> rfl
  exact (exec_loopEvaluation loop s).trans (congrArg Host.Outcome.next ((onDev_congr (g := id) hstep).trans rfl))

theorem Dev.rd_evalBegun (d : Dev) (l : Nat) {a : Nat} (ha : a ≠ Reg.LPE_UTIL_PEAK) : (d.evalBegun l).rd a = d.rd a :=
  (d.evalBegun_only l).rd a fun h => ha (List.mem_singleton.mp h)

theorem utilPeak_ne (l : Nat) : ∀ a ∈ [Reg.LPT_U l, Reg.LPT_EVAL_SEQ l, Reg.LPT_HOLD_VAL l, Reg.LPT_FE_LIMIT l, Reg.LPT_MAN_OUT l, Reg.LPT_OUT_MIN l,
    Reg.LPT_OUT_MAX l], a ≠ Reg.LPE_UTIL_PEAK := by
  intro a ha
  simp only [Reg.LPT_U, Reg.LPT_EVAL_SEQ, Reg.LPT_HOLD_VAL, Reg.LPT_FE_LIMIT, Reg.LPT_MAN_OUT, Reg.LPT_OUT_MIN, Reg.LPT_OUT_MAX, Reg.LPE_UTIL_PEAK,
    List.mem_cons, List.not_mem_nil, or_false] at ha ⊢
  omega

theorem Dev.SameBut.ofLoops {d e : Dev} (h : Dev.SameBut forgetLoops d e) : Dev.SameBut forgetLoopWork d e := by
  have hsame : forgetLoops { e with regs := [] } = forgetLoops { d with regs := [] } := h
  have hwork := congrArg forgetLoopWork hsame
  exact hwork

section
variable {loop : Fin 128} {x : Latched} {s : State} (hx : (s.dev.loop loop).latched = some x) (hon : s.dev.lpeOn = true)
include hx hon

theorem exec_loopEvaluation_auto (hauto : x.state = lsAUTO) (hpreset : (s.dev.loop loop).preset = 0) : exec (.loopEvaluation loop) s
    = .next (onDev (fun d => (d.evalBegun loop).evalAuto loop x ((d.evalBegun loop).autoResult loop x)) s) := by
  refine (exec_loopEvaluation loop s).trans (congrArg Host.Outcome.next (onDev_congr ?_))
  rw [hx, hon]
  refine (if_pos hauto).trans (congrArg (fun res => (s.dev.evalBegun loop).evalAuto loop x res) (if_neg (not_not_intro ?_)))
  exact (congrArg LoopSt.preset (s.dev.loop_evalBegun_same loop)).trans hpreset

theorem exec_loopEvaluation_other (hother : x.state ≠ lsAUTO) : exec (.loopEvaluation loop) s
    = .next (onDev (fun d => (d.evalBegun loop).evalOther loop x ((d.evalBegun loop).otherOut loop x)) s) := by
  refine (exec_loopEvaluation loop s).trans (congrArg Host.Outcome.next (onDev_congr ?_))
  rw [hx, hon]
  exact if_neg hother
end

theorem Dev.supervise_off {d : Dev} {l : Nat} (h : fIsZero (d.rd (Reg.LPT_FE_LIMIT l)) = true) (e y u : W32) : d.supervise l e y u = d := if_pos h

theorem Dev.evalAuto_finite {d : Dev} {l : Nat} {x : Latched} {res : LoopSt × W32 × W32 × List W32}
    (hlim : fIsZero (d.rd (Reg.LPT_FE_LIMIT l)) = true) (hfin : res.2.2.2.all fFinite = true) : d.evalAuto l x res
      = d.evalEnds l res.1 (d.evalFront l x).1 (d.evalFront l x).2.1 (d.evalError l x) res.2.1 x.fb x.tbs := by
  refine (if_pos hfin).trans ?_
  rw [Dev.supervise_off (d := d.modLoop l (fun _ => res.1)) hlim]
  rfl

theorem Dev.autoResult_latched (d : Dev) (l : Nat) (x : Latched) : (d.autoResult l x).1.latched = (d.loop l).latched := rfl

theorem Dev.autoResult_frozen {d : Dev} {l : Nat} {x : Latched} (h : (d.autoResult l x).1.frozen = true) : (d.autoResult l x).1.i = (d.loop l).i :=
  if_pos h

/-- What a finite evaluation leaves, told of the state before. -/
structure Dev.EvalLeft (l : Nat) (d e : Dev) : Prop where
  latched : (e.loop l).latched = none
  seq : e.rd (Reg.LPT_EVAL_SEQ l) = d.rd (Reg.LPT_EVAL_SEQ l) + 1#32
  u : e.rd (Reg.LPT_U l) = d.rd (Reg.LPT_U l)
  others : ∀ m, m ≠ l → e.loop m = d.loop m
  drv : e.drv = d.drv
  tm : e.tm = d.tm

theorem Dev.Evaluated.left {l : Nat} {st : LoopSt} {w : W32} {d e : Dev} (h : Dev.Evaluated l st w (d.evalBegun l) e) (hst : st.latched = none) :
    Dev.EvalLeft l d e := by
  have hsame := (d.evalBegun_only l).same.trans h.same
  exact ⟨(congrArg LoopSt.latched h.loop).trans hst, h.seq.trans (congrArg (· + 1#32) (d.rd_evalBegun l (utilPeak_ne l _ (by simp)))),
    h.u.trans (d.rd_evalBegun l (utilPeak_ne l _ (by simp))), fun m hm => (h.others m hm).trans (d.loop_evalBegun_ne hm),
    hsame.proj (·.drv) fun _ => rfl, hsame.proj (·.tm) fun _ => rfl⟩

theorem Dev.latched_evalBegun (d : Dev) (l : Nat) : ((d.evalBegun l).loop l).latched = none := congrArg LoopSt.latched (d.loop_evalBegun_same l)

/-- A numeric hold told of the state before the evaluation. -/
theorem Dev.NumHeld.begun {l : Nat} {d e : Dev} (h : Dev.NumHeld l (d.evalBegun l) e) : (e.loop l).num = true ∧ hcNUM ∈ (e.loop l).causes
    ∧ (e.loop l).latched = none ∧ (e.loop l).r = (d.loop l).r ∧ e.tm = d.tm :=
  ⟨h.num, h.cause, h.latched.trans (d.latched_evalBegun l), h.r.trans ((congrArg LoopSt.r (d.loop_evalBegun_same l)).trans rfl),
    ((d.evalBegun_only l).same.ofLoops.trans h.same).proj (·.tm) fun _ => rfl⟩

theorem Dev.otherOut_evalBegun (d : Dev) (l : Nat) (x : Latched) : (d.evalBegun l).otherOut l x
    = if x.state = lsMANUAL then d.manualOut l ((d.evalBegun l).derived l) else d.rd (Reg.LPT_HOLD_VAL l) := by
  have hrd : ∀ a ∈ [Reg.LPT_HOLD_VAL l, Reg.LPT_MAN_OUT l, Reg.LPT_OUT_MIN l, Reg.LPT_OUT_MAX l], (d.evalBegun l).rd a = d.rd a := fun a ha =>
    d.rd_evalBegun l (utilPeak_ne l a (by simp at ha ⊢; omega))
  have hprev : ((d.evalBegun l).loop l).uPrev = (d.loop l).uPrev := (congrArg LoopSt.uPrev (d.loop_evalBegun_same l)).trans rfl
  unfold Dev.otherOut Dev.manualOut
  rw [hprev, hrd (Reg.LPT_HOLD_VAL l) (by simp), hrd (Reg.LPT_MAN_OUT l) (by simp), hrd (Reg.LPT_OUT_MIN l) (by simp), hrd (Reg.LPT_OUT_MAX l) (by simp)]

/-! A missed evaluation (R371) -/

/-- A loop's state without its sample and its output to come. -/
def LoopSt.dropped (x : LoopSt) : LoopSt := { x with latched := none, nextOut := none }

/-- The sample dropped, and the output published once more. -/
def Dev.evalDropped (d : Dev) (l : Nat) : Dev := (d.modLoop l LoopSt.dropped).publish l (d.rd (Reg.LPT_U l))

theorem Dev.evalMissed_eq (d : Dev) (l : Nat) :
    d.evalMissed l = ((d.evalDropped l).incSat Reg.LPE_EVAL_MISS).faultRec pLPE 19 [] objIsLoop l := rfl

/-- A loop whose evaluation was missed. -/
structure Dev.Missed (l : Nat) (d e : Dev) : Prop where
  loop : e.loop l = (d.loop l).dropped
  others : ∀ m, m ≠ l → e.loop m = d.loop m
  u : e.rd (Reg.LPT_U l) = d.rd (Reg.LPT_U l)
  hold : e.rd (Reg.LPT_HOLD_VAL l) = d.rd (Reg.LPT_HOLD_VAL l)
  same : Dev.SameBut forgetLoopWork d e

theorem lptWords_apart (l : Nat) : Reg.LPT_HOLD_VAL l ≠ Reg.LPT_U l ∧ Reg.LPE_EVAL_MISS ≠ Reg.LPT_U l ∧ Reg.LPT_HOLD_VAL l ≠ Reg.LPE_EVAL_MISS := by
  simp only [Reg.LPT_HOLD_VAL, Reg.LPT_U, Reg.LPE_EVAL_MISS]
  omega

theorem Dev.evalDropped_missed (d : Dev) (l : Nat) :
    Dev.Missed l d (d.evalDropped l) ∧ (d.evalDropped l).rd Reg.LPE_EVAL_MISS = d.rd Reg.LPE_EVAL_MISS := by
  have hrd (a : Nat) : (d.evalDropped l).rd a = (d.wr (Reg.LPT_U l) (d.rd (Reg.LPT_U l))).rd a := Dev.publish_rd _ l _ a
  obtain ⟨hhold, hmiss, -⟩ := lptWords_apart l
  refine ⟨⟨(Dev.loop_publish _ l l _).trans (Dev.loop_modLoop_same d l _), fun m hm => (Dev.loop_publish _ l m _).trans (Dev.loop_modLoop_ne d _ hm),
    (hrd _).trans (Dev.rd_wr_same _ _ _), (hrd _).trans (Dev.rd_wr_ne _ _ hhold), ?_⟩, (hrd _).trans (Dev.rd_wr_ne _ _ hmiss)⟩
  exact ((Dev.SameBut.refl forgetLoopWork d).lpe (fun _ _ => rfl) _).trans (Dev.publish_sameBut (fun _ _ => rfl) (fun _ _ => rfl) _ l _)

theorem Dev.evalMissed_missed (d : Dev) (l : Nat) : Dev.Missed l d (d.evalMissed l)
    ∧ (d.evalMissed l).rd Reg.LPE_EVAL_MISS = sat32 (d.rdN Reg.LPE_EVAL_MISS + 1) ∧ (d.evalMissed l).bit (Reg.FAULT pLPE) 19 = true := by
  obtain ⟨h, hmiss⟩ := d.evalDropped_missed l
  rw [d.evalMissed_eq]
  generalize d.evalDropped l = e at h hmiss ⊢
  have hrd : Dev.RdKept holdCommon (e.incSat Reg.LPE_EVAL_MISS) ((e.incSat Reg.LPE_EVAL_MISS).faultRec pLPE 19 [] objIsLoop l) :=
    (Dev.RdKept.refl _ _).faultRec (by decide) (by decide) (by decide) _ _ _ _
  have hloop (m : Nat) : ((e.incSat Reg.LPE_EVAL_MISS).faultRec pLPE 19 [] objIsLoop l).loop m = e.loop m :=
    Dev.loop_of_lpe (congrArg LoopEngine.loop (Dev.lpe_faultRec _ _ _ _ _ _)) m
  obtain ⟨hu, -, hhold⟩ := holdCommon_apart l
  obtain ⟨-, hum, hhm⟩ := lptWords_apart l
  refine ⟨⟨(hloop l).trans h.loop, fun m hm => (hloop m).trans (h.others m hm), ((hrd _ hu).trans (Dev.rd_wr_ne _ _ hum.symm)).trans h.u,
    ((hrd _ hhold).trans (Dev.rd_wr_ne _ _ hhm)).trans h.hold, (h.same.wr _ _).faultRec (fun _ _ => rfl) _ _ _ _ _⟩, ?_, Dev.bit_faultRec _ pLPE (by decide)⟩
  exact (hrd _ (by decide)).trans ((Dev.rd_wr_same _ _ _).trans (congrArg (fun v : W32 => sat32 (v.toNat + 1)) hmiss))

theorem evalMiss_missed {loop : Fin 128} {x : Latched} {s : State} (h : (s.dev.loop loop).latched = some x) :
    exec (.evalMiss loop) s = .next (onDev (·.evalMissed loop) s) :=
  congrArg Host.Outcome.next (onDev_congr (g := (·.evalMissed loop)) (if_pos (by rw [h]; rfl)))

theorem evalMiss_idle {loop : Fin 128} {s : State} (h : (s.dev.loop loop).latched = none) : exec (.evalMiss loop) s = .next s :=
  congrArg Host.Outcome.next ((onDev_congr (g := id) (if_neg (by rw [h]; decide))).trans rfl)

/-! LOOP_SAMPLE (R372, R378, R385) -/

/-- The loop at its instant, an evaluation that was missed dropped. -/
def Dev.sampleBegun (d : Dev) (l t : Nat) : Dev := if ((d.toTbm t).loop l).latched.isSome then (d.toTbm t).evalMissed l else d.toTbm t

/-- The output that waits is published. -/
def Dev.samplePublished (d : Dev) (l : Nat) : Dev :=
  match (d.loop l).nextOut with
  | some u => d.publish l u
  | none => d

/-- What an instant latches. -/
def Dev.latchedInputs (d : Dev) (l : Nat) : Latched := ⟨(d.rawFb l).1, (d.rawSp l).1, (d.rawFf l).1, d.tbs, (d.loop l).state⟩

/-- A loop's state with a sample taken. -/
def LoopSt.sampled (x : LoopSt) (n j : Nat) (y : Latched) : LoopSt := { x with last := some (n, j), latched := some y, nextOut := none }

/-- The inputs latched and the instant noted. -/
def Dev.sampleLatched (d : Dev) (l n j : Nat) : Dev := (d.modLoop l (LoopSt.sampled · n j (d.latchedInputs l))).showLoop l

/-- LOOP_SAMPLE at an instant. -/
def Dev.sampleAt (d : Dev) (l n j t : Nat) : Dev :=
  ((((d.sampleBegun l t).samplePublished l).settlePeriod l n j).settleState l).sampleLatched l n j

/-- LOOP_SAMPLE over the loop's next instant. -/
def Dev.sampleStep (d : Dev) (l : Nat) : Option (Nat × Nat × Nat) → Bool → Dev
  | some (n, j, t), true => d.sampleAt l n j t
  | _, _ => d

theorem exec_loopSample (loop : Fin 128) (s : State) :
    exec (.loopSample loop) s = .next (onDev (fun d => d.sampleStep loop (d.nextInstant loop) (d.lpeOn && d.lpEn loop)) s) := rfl

theorem exec_loopSample_due {loop : Fin 128} {n j p : Nat} {s : State} (h : s.dev.nextInstant loop = some (n, j, p)) (hon : s.dev.lpeOn = true)
    (hen : s.dev.lpEn loop = true) : exec (.loopSample loop) s = .next (onDev (·.sampleAt loop n j p) s) := by
  refine (exec_loopSample loop s).trans (congrArg Host.Outcome.next (onDev_congr ?_))
  rw [h, hon, hen]
  rfl

theorem exec_loopSample_idle {loop : Fin 128} {s : State} (h : s.dev.nextInstant loop = none ∨ s.dev.lpeOn = false ∨ s.dev.lpEn loop = false) :
    exec (.loopSample loop) s = .next s := by
  have hstep : s.dev.sampleStep loop (s.dev.nextInstant loop) (s.dev.lpeOn && s.dev.lpEn loop) = s.dev := by
    rcases h with h | h | h
    · rw [h]
      rfl
    · rw [h]
      cases s.dev.nextInstant loop <;> rfl
    · rw [h, Bool.and_false]
      cases s.dev.nextInstant loop <;> rfl
  exact (exec_loopSample loop s).trans (congrArg Host.Outcome.next ((onDev_congr (g := id) hstep).trans rfl))

theorem Dev.settlePeriod_kept (d : Dev) (l n j : Nat) : (d.settlePeriod l n j).rd (Reg.LPT_U l) = d.rd (Reg.LPT_U l)
    ∧ (d.settlePeriod l n j).rd (Reg.LPT_HOLD_VAL l) = d.rd (Reg.LPT_HOLD_VAL l) ∧ Dev.SameBut forgetLoopWork d (d.settlePeriod l n j) := by
  unfold Dev.settlePeriod
  extract_lets x want k onGrid e
  have hs : Dev.Sounds (d.modLoop l (fun x => { x with shed := want })) e := Dev.periodChanged_sounds _ l
  have he : e.rd (Reg.LPT_U l) = d.rd (Reg.LPT_U l) ∧ e.rd (Reg.LPT_HOLD_VAL l) = d.rd (Reg.LPT_HOLD_VAL l) ∧ Dev.SameBut forgetLoopWork d e :=
    ⟨hs.rd _ (loop_not_touched l _ (by simp)), hs.rd _ (loop_not_touched l _ (by simp)),
      ((Dev.SameBut.refl _ d).lpe (fun _ _ => rfl) _).trans hs.loopWork⟩
  obtain ⟨hu, hhold, hsame⟩ := he
  split
  · split
    · exact ⟨hu, hhold, hsame.lpe (fun _ _ => rfl) _⟩
    · exact ⟨hu, hhold, hsame⟩
  · exact ⟨rfl, rfl, .refl _ d⟩

theorem Dev.settleState_kept (d : Dev) {l : Nat} (hl : l < 128) :
    ((d.settleState l).rd (Reg.LPT_U l) = d.rd (Reg.LPT_U l) ∨ (d.settleState l).rd (Reg.LPT_U l) = d.rd (Reg.LPT_HOLD_VAL l))
      ∧ Dev.SameBut forgetLoopWork d (d.settleState l) := by
  unfold Dev.settleState
  extract_lets st causes preset e f want
  have hne : Reg.LPT_U l ≠ Reg.LPT_EVAL_SEQ l ∧ Reg.LPT_HOLD_VAL l ≠ Reg.LPT_EVAL_SEQ l := by
    simp only [Reg.LPT_U, Reg.LPT_EVAL_SEQ, Reg.LPT_HOLD_VAL]
    omega
  have hf : f.rd (Reg.LPT_U l) = d.rd (Reg.LPT_U l) ∧ f.rd (Reg.LPT_HOLD_VAL l) = d.rd (Reg.LPT_HOLD_VAL l) ∧ Dev.SameBut forgetLoopWork d f := by
    unfold f
    split
    · exact ⟨Dev.rd_wr_ne e _ hne.1, Dev.rd_wr_ne e _ hne.2, ((Dev.SameBut.refl _ d).lpe (fun _ _ => rfl) _).wr _ _⟩
    · exact ⟨rfl, rfl, .refl _ d⟩
  obtain ⟨hu, hhold, hsame⟩ := hf
  clear_value f
  split
  · split
    · exact ⟨.inl hu, hsame.lpe (fun _ _ => rfl) _⟩
    · have h := f.enterHold_held hl causes
      exact ⟨.inr (h.u.trans hhold), hsame.trans h.same⟩
  · split
    · exact ⟨.inl hu, hsame⟩
    · split
      · exact ⟨.inl hu, hsame.lpe (fun _ _ => rfl) _⟩
      · exact ⟨.inl hu, hsame.lpe (fun _ _ => rfl) _⟩

theorem Dev.sampleBegun_kept (d : Dev) (l t : Nat) : t ≤ (d.sampleBegun l t).tm.tbm
    ∧ ((d.loop l).latched = none → d.sampleBegun l t = d.toTbm t) := by
  have hdue := Dev.toTbm_reaches d t
  have hloop : (d.toTbm t).loop l = d.loop l := rfl
  unfold Dev.sampleBegun
  generalize d.toTbm t = e at hdue hloop ⊢
  constructor
  · split
    · exact hdue.trans (le_of_eq (congrArg TimeBases.tbm ((e.evalMissed_missed l).1.same.proj (·.tm) fun _ => rfl)).symm)
    · exact hdue
  · intro h
    exact if_neg (by rw [hloop, h]; decide)

theorem Dev.samplePublished_kept (d : Dev) (l : Nat) : Dev.SameBut forgetLoopWork d (d.samplePublished l)
    ∧ ∀ u, (d.loop l).nextOut = some u → (d.samplePublished l).rd (Reg.LPT_U l) = u ∧ (d.samplePublished l).rd (Reg.LPT_HOLD_VAL l) = d.rd (Reg.LPT_HOLD_VAL l) := by
  unfold Dev.samplePublished
  split
  · next w hw =>
    refine ⟨Dev.publish_sameBut (fun _ _ => rfl) (fun _ _ => rfl) d l w, fun u hu => ?_⟩
    obtain rfl : w = u := Option.some.inj (hw.symm.trans hu)
    exact ⟨(Dev.publish_rd d l w _).trans (Dev.rd_wr_same _ _ _), (Dev.publish_rd d l w _).trans (Dev.rd_wr_ne _ _ (lptWords_apart l).1)⟩
  · next hnone => exact ⟨.refl _ d, fun u hu => by rw [hnone] at hu; cases hu⟩

theorem Dev.sampleLatched_spec (d : Dev) {l : Nat} (hl : l < 128) (n j : Nat) :
    (d.sampleLatched l n j).loop l = (d.loop l).sampled n j (d.latchedInputs l) ∧ (d.sampleLatched l n j).rd (Reg.LPT_U l) = d.rd (Reg.LPT_U l)
      ∧ Dev.SameBut forgetLoopWork d (d.sampleLatched l n j) :=
  ⟨(Dev.loop_showLoop _ l l).trans (Dev.loop_modLoop_same d l _), Dev.showLoop_rdKept _ l _ (loopShown_apart hl l _ (by simp)),
    ((Dev.SameBut.refl _ d).lpe (fun _ _ => rfl) _).trans (Dev.showLoop_sameBut _ _ l)⟩

/-- A sample taken. -/
structure Dev.Sampled (l n j p : Nat) (d e : Dev) : Prop where
  latched : (e.loop l).latched.isSome = true
  last : (e.loop l).last = some (n, j)
  nextOut : (e.loop l).nextOut = none
  due : p ≤ e.tm.tbm
  u : ∀ u, (d.loop l).latched = none → (d.loop l).nextOut = some u → e.rd (Reg.LPT_U l) = u ∨ e.rd (Reg.LPT_U l) = d.rd (Reg.LPT_HOLD_VAL l)

theorem Dev.sampleAt_sampled (d : Dev) {l : Nat} (hl : l < 128) (n j p : Nat) : Dev.Sampled l n j p d (d.sampleAt l n j p) := by
  obtain ⟨hdue, hbegun⟩ := d.sampleBegun_kept l p
  have hregs : (d.toTbm p).loop l = d.loop l ∧ (d.toTbm p).rd (Reg.LPT_HOLD_VAL l) = d.rd (Reg.LPT_HOLD_VAL l) := ⟨rfl, rfl⟩
  unfold Dev.sampleAt
  generalize d.toTbm p = a at hbegun hregs
  generalize d.sampleBegun l p = b at hdue hbegun ⊢
  obtain ⟨hpub, hout⟩ := b.samplePublished_kept l
  generalize b.samplePublished l = c at hpub hout ⊢
  obtain ⟨hpu, hph, hper⟩ := c.settlePeriod_kept l n j
  generalize c.settlePeriod l n j = e at hpu hph hper ⊢
  obtain ⟨hsu, hset⟩ := e.settleState_kept hl
  generalize e.settleState l = f at hsu hset ⊢
  obtain ⟨hloop, hu, hlat⟩ := f.sampleLatched_spec hl n j
  have htm : (f.sampleLatched l n j).tm = b.tm := (((hpub.trans hper).trans hset).trans hlat).proj (·.tm) fun _ => rfl
  refine ⟨congrArg (fun x : LoopSt => x.latched.isSome) hloop, congrArg LoopSt.last hloop, congrArg LoopSt.nextOut hloop,
    hdue.trans (le_of_eq (congrArg TimeBases.tbm htm).symm), fun u hnone hnext => ?_⟩
  obtain rfl := hbegun hnone
  obtain ⟨hcu, hch⟩ := hout u ((congrArg LoopSt.nextOut hregs.1).trans hnext)
  exact hsu.imp (fun h => hu.trans (h.trans (hpu.trans hcu))) fun h => hu.trans (h.trans (hph.trans (hch.trans hregs.2)))

/-! LP_CLR (R388, R399) -/

/-- A loop's state without its latches. -/
def LoopSt.cleared (x : LoopSt) : LoopSt := { x with fe := false, num := false }

/-- The latches of a loop cleared. -/
def Dev.loopCleared (d : Dev) (l : Nat) : Dev := (d.modLoop l LoopSt.cleared).showLoop l

theorem actLpClr_clears {v : W32} (h : bitOf v 8 = true) : actLpClr v = actDev (·.loopCleared (field v 6 0)) :=
  funext fun _ => congrArg (fun t => (Status.ok, t)) (onDev_congr (f := fun d => if bitOf v 8 then d.loopCleared (field v 6 0) else d)
    (g := (·.loopCleared (field v 6 0))) (if_pos h))

theorem Dev.loopCleared_spec (d : Dev) (l : Nat) : (d.loopCleared l).loop l = (d.loop l).cleared ∧ (∀ m, m ≠ l → (d.loopCleared l).loop m = d.loop m)
    ∧ ∀ blank, ForgetsLpe blank → Dev.SameBut blank d (d.loopCleared l) :=
  ⟨(Dev.loop_showLoop _ l l).trans (Dev.loop_modLoop_same d l _), fun m hm => (Dev.loop_showLoop _ l m).trans (Dev.loop_modLoop_ne d _ hm),
    fun blank hl => ((Dev.SameBut.refl blank d).lpe hl _).trans (Dev.showLoop_sameBut _ _ l)⟩

theorem loop_answeredOk (q : Requester) (a : Nat) (t : State) (m : Nat) : (answeredOk q a t).dev.loop m = t.dev.loop m := rfl

theorem loopClear_clears {req : Requester} {v : W32} {u : State} (h : Accepts req Reg.LPE_LP_CLR v u) (hclr : bitOf v 8 = true) :
    ∃ t, hostCmd req Reg.LPE_LP_CLR v (actLpClr v) u = t ∧ answerTo req t = ⟨.ok, 1, []⟩
      ∧ t.dev.loop (field v 6 0) = (u.dev.loop (field v 6 0)).cleared ∧ (∀ m, m ≠ field v 6 0 → t.dev.loop m = u.dev.loop m)
      ∧ differOnly (fun d => { d with lpe := {}, fab := {}, pow := {} }) u t := by
  rw [actLpClr_clears hclr]
  obtain ⟨k, hk⟩ := hostCmd_dev h (·.loopCleared (field v 6 0))
  obtain ⟨hsame, hothers, -⟩ := (u.woken k).dev.loopCleared_spec (field v 6 0)
  have hloop := loop_answeredOk req Reg.LPE_LP_CLR (onDev (·.loopCleared (field v 6 0)) (u.woken k))
  refine ⟨_, hk, answerTo_answeredOk _ _ _, (hloop _).trans hsame, fun m hm => (hloop m).trans (hothers m hm), ?_⟩
  exact answeredOk_differOnly (fun _ _ => rfl) (fun _ _ => rfl) _ _ k fun d => (d.loopCleared_spec (field v 6 0)).2.2 _ fun _ _ => rfl

theorem valueOk_of_accepts {q : Requester} {a : Nat} {v : W32} {s : State} (h : Accepts q a v s) : valueOk a v = true := by
  by_contra hno
  have hw : (atFabric q true s).dev.writeStatus q a v = .ok := h
  unfold Dev.writeStatus at hw
  rw [Bool.not_eq_true] at hno
  simp [hno] at hw
  split_ifs at hw

theorem findReg_lpClr : (findReg Reg.LPE_LP_CLR).map (fun h => (h.row.acc, h.row.wide, h.row.checks)) = some (.wo, false, [⟨8, 8, 1, 1, false, []⟩]) := by
  decide +kernel

theorem valueOk_lpClr (v : W32) : valueOk Reg.LPE_LP_CLR v = rangeOk v ⟨8, 8, 1, 1, false, []⟩ := by
  obtain ⟨h, hfind, hrow⟩ := Option.map_eq_some_iff.mp findReg_lpClr
  have hacc : h.row.acc = .wo := congrArg Prod.fst hrow
  have hwide : h.row.wide = false := congrArg (fun p => p.2.1) hrow
  have hchecks : h.row.checks = [⟨8, 8, 1, 1, false, []⟩] := congrArg (fun p => p.2.2) hrow
  unfold valueOk
  rw [if_neg (by decide), if_neg (by decide), if_neg (by decide), hfind]
  dsimp only
  rw [hacc, hwide, hchecks]
  simp

theorem lpClr_value {v : W32} (h : valueOk Reg.LPE_LP_CLR v = true) : bitOf v 8 = true := by
  rw [valueOk_lpClr] at h
  simp only [rangeOk, Bool.and_eq_true, decide_eq_true_eq] at h
  have hone : field v 8 8 = 1 := by
    obtain ⟨⟨hlo, hhi⟩, -⟩ := h
    simp at hlo hhi
    omega
  rw [bitOf, Nat.testBit_eq_decide_div_mod_eq, decide_eq_true_eq]
  rw [field, Nat.shiftRight_eq_div_pow] at hone
  exact hone

section
variable {loop : Fin 128} {x : Latched} {s : State} (hx : (s.dev.loop loop).latched = some x) (hon : s.dev.lpeOn = true)
include hx hon

theorem loopEvaluation_auto {res : LoopSt × W32 × W32 × List W32} (hres : res = (s.dev.evalBegun loop).autoResult loop x) (hauto : x.state = lsAUTO)
    (hpreset : (s.dev.loop loop).preset = 0) (hlim : fIsZero (s.dev.rd (Reg.LPT_FE_LIMIT loop)) = true) (hfin : res.2.2.2.all fFinite = true) :
    ∃ t, exec (.loopEvaluation loop) s = .next t ∧ t.dev.loop loop = res.1 ∧ t.dev.rd (Reg.LPT_W loop) = res.2.1
      ∧ (res.1.frozen = true → res.1.i = (s.dev.loop loop).i) ∧ Dev.EvalLeft loop s.dev t.dev ∧ t.ldg = s.ldg ∧ t.rcd = s.rcd ∧ t.pending = s.pending := by
  let d := s.dev.evalBegun loop
  have hlimit : fIsZero (d.rd (Reg.LPT_FE_LIMIT loop)) = true :=
    (congrArg fIsZero (s.dev.rd_evalBegun loop (utilPeak_ne loop _ (by simp)))).trans hlim
  have h := d.evalEnds_evaluated loop.isLt res.1 (d.evalFront loop x).1 (d.evalFront loop x).2.1 (d.evalError loop x) res.2.1 x.fb x.tbs
  have hlatched : res.1.latched = none := by
    rw [hres]
    exact (d.autoResult_latched loop x).trans (s.dev.latched_evalBegun loop)
  have hexec := exec_loopEvaluation_auto hx hon hauto hpreset
  have hend := Dev.evalAuto_finite (x := x) hlimit hfin
  rw [hres] at hend
  refine ⟨_, hexec.trans (congrArg Host.Outcome.next (onDev_congr (g := fun _ => d.evalEnds loop res.1 (d.evalFront loop x).1 (d.evalFront loop x).2.1
    (d.evalError loop x) res.2.1 x.fb x.tbs) ?_)), h.loop, h.w, fun hfrozen => ?_, h.left hlatched, rfl, rfl, rfl⟩
  · rw [hres]
    exact hend
  · rw [hres] at hfrozen ⊢
    exact (Dev.autoResult_frozen hfrozen).trans ((congrArg LoopSt.i (s.dev.loop_evalBegun_same loop)).trans rfl)

theorem loopEvaluation_autoNum {res : LoopSt × W32 × W32 × List W32} (hres : res = (s.dev.evalBegun loop).autoResult loop x) (hauto : x.state = lsAUTO)
    (hpreset : (s.dev.loop loop).preset = 0) (hfin : res.2.2.2.all fFinite = false) :
    ∃ t, exec (.loopEvaluation loop) s = .next t ∧ Dev.NumHeld loop (s.dev.evalBegun loop) t.dev ∧ Dev.NumEntered loop (s.dev.evalBegun loop) t.dev
      ∧ t.ldg = s.ldg ∧ t.rcd = s.rcd ∧ t.pending = s.pending := by
  let d := s.dev.evalBegun loop
  obtain ⟨hheld, hentered⟩ := d.numHold_auto_spec loop.isLt
  have hs := (d.numHold loop false).soundLoop_sounds loop x.fb x.tbs
  have hend : d.evalAuto loop x res = (d.numHold loop false).soundLoop loop x.fb x.tbs := if_neg (by rw [hfin]; decide)
  rw [hres] at hend
  exact ⟨_, (exec_loopEvaluation_auto hx hon hauto hpreset).trans (congrArg Host.Outcome.next
    (onDev_congr (g := fun _ => (d.numHold loop false).soundLoop loop x.fb x.tbs) hend)), hheld.sounds hs, hentered.sounds hs, rfl, rfl, rfl⟩

theorem loopEvaluation_other {out : W32} (hout : out = (s.dev.evalBegun loop).otherOut loop x) (hother : x.state ≠ lsAUTO)
    (hfin : [((s.dev.evalBegun loop).evalFront loop x).2.1, ((s.dev.evalBegun loop).evalFront loop x).2.2.1,
      ((s.dev.evalBegun loop).evalFront loop x).2.2.2, (s.dev.evalBegun loop).evalError loop x, out].all fFinite = true) :
    ∃ t, exec (.loopEvaluation loop) s = .next t ∧ (t.dev.loop loop).nextOut = some out ∧ Dev.EvalLeft loop s.dev t.dev
      ∧ t.ldg = s.ldg ∧ t.rcd = s.rcd ∧ t.pending = s.pending := by
  let d := s.dev.evalBegun loop
  have h := d.evalEnds_evaluated loop.isLt (d.otherState loop x out) (d.evalFront loop x).1 (d.evalFront loop x).2.1 (d.evalError loop x)
    (d.rd (Reg.LPT_W loop)) x.fb x.tbs
  have hend : d.evalOther loop x out = _ := if_pos hfin
  rw [hout] at hend
  refine ⟨_, (exec_loopEvaluation_other hx hon hother).trans (congrArg Host.Outcome.next
    (onDev_congr (g := fun _ => d.evalEnds loop (d.otherState loop x out) (d.evalFront loop x).1 (d.evalFront loop x).2.1 (d.evalError loop x)
      (d.rd (Reg.LPT_W loop)) x.fb x.tbs) ?_)), congrArg LoopSt.nextOut h.loop, h.left (s.dev.latched_evalBegun loop), rfl, rfl, rfl⟩
  rw [hout]
  exact hend

theorem loopEvaluation_otherNum {out : W32} (hout : out = (s.dev.evalBegun loop).otherOut loop x) (hother : x.state ≠ lsAUTO)
    (hfin : [((s.dev.evalBegun loop).evalFront loop x).2.1, ((s.dev.evalBegun loop).evalFront loop x).2.2.1,
      ((s.dev.evalBegun loop).evalFront loop x).2.2.2, (s.dev.evalBegun loop).evalError loop x, out].all fFinite = false) :
    ∃ t, exec (.loopEvaluation loop) s = .next t ∧ Dev.NumHeld loop (s.dev.evalBegun loop) t.dev
      ∧ t.ldg = s.ldg ∧ t.rcd = s.rcd ∧ t.pending = s.pending := by
  let d := s.dev.evalBegun loop
  have hheld : Dev.NumHeld loop d (d.numHold loop (x.state = lsHOLD)) := by
    by_cases hs : x.state = lsHOLD
    · rw [decide_eq_true hs]
      exact d.numHold_held_spec loop
    · rw [decide_eq_false hs]
      exact (d.numHold_auto_spec loop.isLt).1
  have hs := (d.numHold loop (x.state = lsHOLD)).soundLoop_sounds loop x.fb x.tbs
  have hend : d.evalOther loop x out = (d.numHold loop (x.state = lsHOLD)).soundLoop loop x.fb x.tbs := if_neg (by rw [hfin]; decide)
  rw [hout] at hend
  exact ⟨_, (exec_loopEvaluation_other hx hon hother).trans (congrArg Host.Outcome.next
    (onDev_congr (g := fun _ => (d.numHold loop (x.state = lsHOLD)).soundLoop loop x.fb x.tbs) hend)), hheld.sounds hs, rfl, rfl, rfl⟩
end

/-- Settles O48. -/
theorem loopEvaluations : Obligations.LoopEvaluations := by
  unfold Obligations.LoopEvaluations
  intro req loop v n j p x u s l kept d k fr res
  refine ⟨fun hnext hon hen => ?_, exec_loopSample_idle, fun hx hon hauto hpreset => ⟨fun hlim hfin => ?_, fun hfin => ?_⟩,
    fun hx hon hother => ?_, exec_loopEvaluation_idle, fun hx => ?_, evalMiss_idle, fun h hclr => ?_, fun hclr h => ?_⟩
  · have h := s.dev.sampleAt_sampled loop.isLt n j p
    exact ⟨_, exec_loopSample_due hnext hon hen, h.latched, h.last, h.nextOut, h.due, ⟨rfl, rfl, rfl⟩, h.u u⟩
  · obtain ⟨t, ht, hloop, hw, hfrozen, hleft, hkept⟩ := loopEvaluation_auto hx hon (res := res) rfl hauto hpreset hlim hfin
    refine ⟨t, ht, hloop, hleft.latched, hw, hleft.seq, hleft.u, fun hf => ?_, hleft.others, hleft.drv, hleft.tm, hkept⟩
    rw [hloop] at hf ⊢
    exact hfrozen hf
  · obtain ⟨t, ht, hheld, hentered, hkept⟩ := loopEvaluation_autoNum hx hon (res := res) rfl hauto hpreset hfin
    obtain ⟨hnum, -, hlatched, -, htm⟩ := hheld.begun
    exact ⟨t, ht, hentered.state, hentered.causes, hnum, hlatched, hentered.u.trans (s.dev.rd_evalBegun loop (utilPeak_ne loop _ (by simp))),
      hentered.seq.trans (congrArg (· + 1#32) (s.dev.rd_evalBegun loop (utilPeak_ne loop _ (by simp)))), hentered.fault, htm, hkept⟩
  · intro out
    have hout : out = (s.dev.evalBegun loop).otherOut loop x := (s.dev.otherOut_evalBegun loop x).symm
    refine ⟨fun hfin => ?_, fun hfin => ?_⟩
    · obtain ⟨t, ht, hnext, hleft, hkept⟩ := loopEvaluation_other hx hon hout hother hfin
      exact ⟨t, ht, hleft.latched, hnext, hleft.seq, hleft.others, hleft.drv, hleft.tm, hkept⟩
    · obtain ⟨t, ht, hheld, hkept⟩ := loopEvaluation_otherNum hx hon hout hother hfin
      obtain ⟨hnum, hcause, hlatched, hr, htm⟩ := hheld.begun
      exact ⟨t, ht, hnum, hcause, hlatched, hr, htm, hkept⟩
  · obtain ⟨h, hmiss, hfault⟩ := s.dev.evalMissed_missed loop
    exact ⟨_, evalMiss_missed hx, (congrArg LoopSt.latched h.loop).trans rfl, (congrArg LoopSt.nextOut h.loop).trans rfl, h.u, hmiss, hfault, h.others,
      rfl, rfl, rfl⟩
  · obtain ⟨t, ht, hrest⟩ := loopClear_clears h hclr
    exact ⟨t, congrArg Host.Outcome.next ht, hrest⟩
  · have hset := lpClr_value (valueOk_of_accepts h)
    rw [hclr] at hset
    cases hset

end Sys2Proof.Machine
end

section
/-! PROOFS. A bank recloses while no event can wait any more (R318, R427). -/
namespace Sys2Proof.Machine

/-- Where as many events wait as can, one more is counted as suppressed. -/
theorem Dev.emit_full (d : Dev) (e : Event) (h : d.rcf.closed = false) (hp : d.pow.pfAt = none) (hn : intakeDepth ≤ d.rcf.intake.length) :
    (d.emit e).rd Reg.REC_SUPP_TOTAL = sat32 (d.rdN Reg.REC_SUPP_TOTAL + 1) := by
  unfold Dev.emit
  rw [if_neg (by simp [h, hp]), if_pos hn]
  exact Dev.rd_wr_same _ _ _

/-- A part in which bank 0 waits for its switches to close again, beside the events that wait. -/
def reclosingPart (waiting : List Event) : State :=
  { State.reset with dev := { drv := { bank := [(0, { reclose := some 0 })] }, rcf := { intake := waiting } } }

/-- The part at the reclosure, before its record. -/
def reclosedPart (waiting : List Event) : Dev :=
  ((reclosingPart waiting).dev.toTick 0).modBank 0 (fun x => { x with reclose := none, resume := [] })

theorem reclosingPart_recloses (waiting : List Event) : exec (.bankReclose 0) (reclosingPart waiting)
    = .next { State.reset with dev := (reclosedPart waiting).recOther (pBK 0) [] } := rfl

theorem reclosingPart_counts {waiting : List Event} (h : intakeDepth ≤ waiting.length) :
    ((reclosedPart waiting).recOther (pBK 0) []).rd Reg.REC_SUPP_TOTAL = 1#32 :=
  (Dev.emit_full (reclosedPart waiting) _ rfl rfl h).trans rfl

/-- Refutes O46: where as many events wait as can, the record of a bank's reclosure is counted in REC_SUPP_TOTAL, so that the registers
do not stay as they were. -/
theorem not_switchChannels : ¬ Obligations.SwitchChannels := by
  intro h
  obtain ⟨waiting, hfull⟩ : ∃ waiting : List Event, intakeDepth ≤ waiting.length :=
    ⟨List.replicate intakeDepth ⟨false, 0, 0, 3, 0, 0, 0, [], 0⟩, (List.length_replicate).ge⟩
  obtain ⟨-, -, -, -, -, -, hreclose, -⟩ := h 0 0 0 0 0 0 0 [] [] ⟨0, 0, false, []⟩ (reclosingPart waiting)
  obtain ⟨t, hexec, -, -, -, hregs, -⟩ := hreclose rfl
  have ht : { State.reset with dev := (reclosedPart waiting).recOther (pBK 0) [] } = t :=
    Host.Outcome.next.inj ((reclosingPart_recloses waiting).symm.trans hexec)
  have hrd : t.dev.rd Reg.REC_SUPP_TOTAL = 0#32 := Dev.rd_of_regs hregs _
  rw [← ht] at hrd
  exact absurd ((reclosingPart_counts hfull).symm.trans hrd) (by decide)

end Sys2Proof.Machine
end

section
/-! PROOFS. An ON that comes while another channel of its bank may start from its wait (R289). -/
namespace Sys2Proof.Machine

/-- The ON that channel 0 has waiting in its queue, and on which channel 1 waits. -/
def onEdge : Edge := { t := 0, on := true }

/-- A part in which channel 0, a VALVE channel with its rail READY, is off with an ON due, while channel 1 of its bank waits to start. -/
def sharedPart : State :=
  { State.reset with dev :=
    { (({} : Dev).wr (Reg.CH_CFG 0) 1#32).wr (Reg.VB_RAIL_STATE 0) 2#32 with
      drv := { ch := [(0, { queue := [onEdge] }), (1, { phase := phWAIT, waitEdge := some onEdge })] } } }

/-- Nothing that the statement names stands in the way of channel 0. -/
theorem sharedPart_free :
    (sharedPart.dev.chan 0).queue = [onEdge] ∧ sharedPart.dev.inhibited 0 = false ∧ sharedPart.dev.driveClockLost 0 = false
      ∧ (sharedPart.dev.bank 0).sort = none ∧ (sharedPart.dev.chan 0).phase = phOFF ∧ sharedPart.dev.profiled 0 = true
      ∧ (sharedPart.dev.chan 0).tOff = none ∧ (∀ b, sharedPart.dev.startForbidden 0 b = false) ∧ sharedPart.dev.railReadyNow (railOf 0) = true := by
  decide +kernel

/-- The start of channel 1 goes first, so that channel 0 waits. -/
theorem sharedPart_waits : ∀ t, exec (.edgeExecute 0) sharedPart = .next t → (t.dev.chan 0).phase = phWAIT := by
  intro t h
  cases h
  decide +kernel

/-- Refutes O43: an ON of an idle channel waits where another channel of its bank waits and may start now, which the statement does not
exclude; it then begins neither BOOST nor PEAK. -/
theorem not_edgesAndPhases : ¬ Obligations.EdgesAndPhases := by
  intro h
  obtain ⟨hqueue, hinh, hclock, hsort, hphase, hprof, hoff, hforbid, hrail⟩ := sharedPart_free
  obtain ⟨-, -, -, -, hon, -⟩ := h 0 onEdge [] none 0 0 0 sharedPart
  obtain ⟨hstart, -⟩ := hon hqueue (by decide) rfl rfl hinh hclock hsort hphase
  obtain ⟨t, hexec, hbegun, -⟩ := hstart hprof hoff hforbid hrail
  have hwait : (t.dev.chan 0).phase = phWAIT := sharedPart_waits t hexec
  have hnot : ∀ b : Bool, phWAIT ≠ if b then phBOOST else phPEAK := by decide
  exact hnot _ (hwait.symm.trans hbegun)

end Sys2Proof.Machine
end

section
/-! PROOFS. The start that loads the stores, the power-on reset and the loss of power (R358, R411, R416, R428, R433). -/
namespace Sys2Proof.Machine

/-! A register file of which some words are left -/

theorem sget_filter {α : Type} (dflt : Nat → α) (keep : Nat → Bool) (m : SMap α) (k : Nat) :
    sget dflt (m.filter (fun p => keep p.1)) k = if keep k then sget dflt m k else dflt k := by
  induction m with
  | nil => exact (ite_self _).symm
  | cons p m ih =>
    obtain ⟨j, v⟩ := p
    by_cases hkeep : keep j = true
    · simp only [List.filter_cons, hkeep, if_true]
      by_cases hj : k = j
      · subst hj
        simp [sget, hkeep]
      · simpa [sget, hj] using ih
    · simp only [List.filter_cons, hkeep]
      by_cases hj : k = j
      · subst hj
        simpa [sget, hkeep] using ih
      · simpa [sget, hj] using ih

/-- A part whose registers are those words of another's that are kept. -/
theorem Dev.rd_filter {d e : Dev} (keep : Nat → Bool) (h : e.regs = d.regs.filter (fun p => keep p.1)) (a : Nat) :
    e.rd a = if keep a then d.rd a else resetWord a := by
  unfold Dev.rd
  rw [h]
  exact sget_filter resetWord keep d.regs a

/-! The import of the power-fail area (R433) -/

theorem RecStore.importPf_kept (r : RecStore) (epoch : Nat) : (r.importPf epoch).1.pf = none ∧ (r.importPf epoch).1.keys = r.keys
    ∧ (r.importPf epoch).1.nextSeq = r.nextSeq ∧ (r.importPf epoch).1.undrained = r.undrained := by
  unfold RecStore.importPf
  split
  · exact ⟨‹_›, rfl, rfl, rfl⟩
  · exact ⟨rfl, rfl, rfl, rfl⟩

theorem State.importArea_kept (s : State) : s.importArea.1.rcd.pf = none ∧ s.importArea.1.rcd.keys = s.rcd.keys
    ∧ s.importArea.1.rcd.nextSeq = s.rcd.nextSeq := by
  obtain ⟨hpf, hkeys, hseq, -⟩ := s.rcd.importPf_kept s.dev.epoch
  exact ⟨hpf, hkeys, hseq⟩

theorem State.importArea_undrained {s : State} (h : s.rcd.undrained = []) : s.importArea.1.rcd.undrained = [] := by
  obtain ⟨-, -, -, hleft⟩ := s.rcd.importPf_kept s.dev.epoch
  unfold State.importArea
  extract_lets r held inArea rcd
  change r.1.undrained.filter _ = []
  rw [show r.1.undrained = [] from hleft.trans h]
  rfl

/-! The ledger's start (R358) -/

theorem Dev.resumeLedger_slots (d : Dev) (l : Ledgers) : (d.resumeLedger l).1.slots = l.slots := by
  unfold Dev.resumeLedger
  split
  · rfl
  · extract_lets b l
    split <;> rfl

theorem Dev.resumeLedger_empty (d : Dev) {l : Ledgers} (h : l.newest = none) : (d.resumeLedger l).1.book = {} := by
  unfold Dev.resumeLedger
  rw [h]

theorem Dev.resumeLedger_newest (d : Dev) {l : Ledgers} {x : LedgerSlot} (h : l.newest = some x) :
    (d.resumeLedger l).1.book.entries = x.book.entries ∧ (d.resumeLedger l).1.book.sessId = x.book.sessId := by
  unfold Dev.resumeLedger
  rw [h]
  dsimp only
  split <;> exact ⟨rfl, rfl⟩

/-- The words of the ledger's start. -/
def resumeWords : List Nat := [Reg.FAULT pLDG, Reg.IRQ_RAW pLDG]

theorem State.resumeSession_words (s : State) : Dev.RdKept resumeWords s.dev s.resumeSession.dev
    ∧ ∀ blank, Dev.SameBut blank s.dev s.resumeSession.dev := by
  have hkept : Dev.RdKept resumeWords s.dev (if (s.dev.resumeLedger s.ldg).2 then s.dev.fault pLDG 17 else s.dev)
      ∧ ∀ blank, Dev.SameBut blank s.dev (if (s.dev.resumeLedger s.ldg).2 then s.dev.fault pLDG 17 else s.dev) := by
    split
    · exact ⟨(Dev.RdKept.refl _ _).fault (by decide) (by decide) _, fun blank => (Dev.SameBut.refl blank _).fault _ _⟩
    · exact ⟨Dev.RdKept.refl _ _, fun blank => Dev.SameBut.refl blank _⟩
  unfold State.resumeSession
  extract_lets l changed d
  change Dev.RdKept resumeWords s.dev (if changed then d.irq pLDG 17 else d) ∧ ∀ blank, Dev.SameBut blank s.dev (if changed then d.irq pLDG 17 else d)
  split
  · exact ⟨hkept.1.irq (by decide) _, fun blank => (hkept.2 blank).irq _ _⟩
  · exact hkept

/-! The start that loads the stores -/

/-- The words of the start. -/
def bootWords : List Nat := [Reg.SYS_RESET_CAUSE, Reg.ATT_ARM_POLICY, Reg.FAULT pLDG, Reg.IRQ_RAW pLDG]

/-- What the start makes of a state, for a cause. -/
structure State.Booted (cause : Nat) (s t : State) : Prop where
  ldg : t.ldg = (s.dev.resumeLedger s.ldg).1
  rcd : t.rcd = s.importArea.1.rcd
  pending : t.pending = s.pending
  same : Dev.SameBut (fun d => { d with rcf := {}, sup := {} }) s.dev t.dev
  cause : t.dev.rd Reg.SYS_RESET_CAUSE = causeWordOf cause false false
  policy : t.dev.rd Reg.ATT_ARM_POLICY = s.dev.rd Reg.ATT_ARM_POLICY_NEXT
  words : Dev.RdKept bootWords s.dev t.dev

theorem State.boot_booted (s : State) (cause : Nat) : State.Booted cause s (s.boot cause) := by
  obtain ⟨hwords, hsame⟩ := s.importArea.1.resumeSession_words
  let e := s.importArea.1.resumeSession.dev
  let f := (e.wr Reg.SYS_RESET_CAUSE (causeWordOf cause false false)).wr Reg.ATT_ARM_POLICY (e.rd Reg.ATT_ARM_POLICY_NEXT)
  have hregs : (s.boot cause).dev.regs = f.regs := rfl
  have hrd (a : Nat) : (s.boot cause).dev.rd a = f.rd a := Dev.rd_of_regs hregs a
  refine ⟨rfl, rfl, rfl, ?_, ?_, ?_, ?_⟩
  · have hf : Dev.SameBut (fun d => { d with rcf := {}, sup := {} }) s.dev f := ((hsame _).wr _ _).wr _ _
    exact hf
  · exact (hrd _).trans ((Dev.rd_wr_ne _ _ (by decide)).trans (Dev.rd_wr_same _ _ _))
  · exact (hrd _).trans ((Dev.rd_wr_same _ _ _).trans (hwords _ (by decide)))
  · intro a ha
    have hkept : Dev.RdKept bootWords s.dev f := ((hwords.mono (by decide)).wr (by decide) _).wr (by decide) _
    exact (hrd a).trans (hkept a ha)

/-! POWER_ON_RESET and POWER_LOSS -/

/-- The state in which power returns: what the stores hold, the numbers of records from the reserved one on. -/
def State.poweredUp (s : State) : State := { s.unpowered with rcd := { s.unpowered.rcd with nextSeq := s.unpowered.rcd.reserved } }

theorem exec_powerOnReset (s : State) : exec .powerOnReset s = .next (s.poweredUp.boot rcPOR) := rfl

theorem State.unpowered_rd (s : State) (a : Nat) : s.unpowered.dev.rd a = if storedWords.contains a then s.dev.rd a else resetWord a :=
  Dev.rd_filter storedWords.contains rfl a

theorem newest_unpowered (s : State) : s.unpowered.ldg.newest = s.ldg.newest := rfl

/-- Settles O32. -/
theorem powerOnAndLoss : Obligations.PowerOnAndLoss := by
  intro s
  constructor
  · obtain ⟨hldg, hrcd, hpending, hsame, hcause, hpolicy, hwords⟩ := s.poweredUp.boot_booted rcPOR
    obtain ⟨hpf, hkeys, hseq⟩ := s.poweredUp.importArea_kept
    have hrd (a : Nat) : s.poweredUp.dev.rd a = if storedWords.contains a then s.dev.rd a else resetWord a := s.unpowered_rd a
    refine ⟨_, exec_powerOnReset s, hcause, hsame.proj (·.tm) (fun _ => rfl), hsame.proj (·.drv) (fun _ => rfl), hsame.proj (·.pend) (fun _ => rfl),
      hsame.proj (·.cross) (fun _ => rfl), hsame.proj (·.conf) (fun _ => rfl), hsame.proj (·.imp) (fun _ => rfl),
      hsame.proj (·.fab.pairKeys) (fun _ => rfl), hsame.proj (·.fab.sessions) (fun _ => rfl),
      (congrArg Ledgers.slots hldg).trans (s.poweredUp.dev.resumeLedger_slots _), fun hnone => ?_, fun x hx => ?_,
      (congrArg RecStore.nextSeq hrcd).trans hseq, (congrArg RecStore.pf hrcd).trans hpf, (congrArg RecStore.keys hrcd).trans hkeys,
      (congrArg RecStore.undrained hrcd).trans (State.importArea_undrained rfl), hpending, fun a hstored ha => ?_, fun a hstored => ?_, ?_⟩
    · exact (congrArg Ledgers.book hldg).trans (s.poweredUp.dev.resumeLedger_empty hnone)
    · rw [hldg]
      exact s.poweredUp.dev.resumeLedger_newest hx
    · exact (hwords a ha).trans ((hrd a).trans (if_neg (by simpa using hstored)))
    · have hfree : ∀ b ∈ storedWords, b ∉ bootWords := by decide
      exact (hwords a (hfree a hstored)).trans ((hrd a).trans (if_pos (by simpa using hstored)))
    · exact hpolicy.trans ((hrd _).trans (if_pos (by decide)))
  · exact ⟨_, rfl, Bool.and_false _, rfl, rfl, rfl, rfl, rfl, rfl, rfl, rfl, rfl, rfl⟩

end Sys2Proof.Machine
end

section
/-! PROOFS. The warm controller reset: what it keeps, what it loses and what it writes (R411, R416, R419). -/
namespace Sys2Proof.Machine

/-! STATUS words -/

/-- Only STATUS words read otherwise. -/
def Dev.StatusOnly (d e : Dev) : Prop := (∀ blank, Dev.SameBut blank d e) ∧ ∀ a, (∀ p, a ≠ Reg.STATUS p) → e.rd a = d.rd a

theorem Dev.StatusOnly.refl (d : Dev) : Dev.StatusOnly d d := ⟨fun blank => Dev.SameBut.refl blank d, fun _ _ => rfl⟩

theorem Dev.StatusOnly.trans {d e f : Dev} (h : Dev.StatusOnly d e) (h' : Dev.StatusOnly e f) : Dev.StatusOnly d f :=
  ⟨fun blank => (h.1 blank).trans (h'.1 blank), fun a ha => (h'.2 a ha).trans (h.2 a ha)⟩

theorem Dev.StatusOnly.setStat {d e : Dev} (h : Dev.StatusOnly d e) (p b : Nat) (v : Bool) : Dev.StatusOnly d (e.setStat p b v) :=
  ⟨fun blank => (h.1 blank).setStat p b v, fun a ha => (Dev.rd_setBit_ne e b v (ha p)).trans (h.2 a ha)⟩

theorem Dev.StatusOnly.wr {d e : Dev} (h : Dev.StatusOnly d e) (p : Nat) (v : W32) : Dev.StatusOnly d (e.wr (Reg.STATUS p) v) :=
  ⟨fun blank => (h.1 blank).wr _ v, fun a ha => (Dev.rd_wr_ne e v (ha p)).trans (h.2 a ha)⟩

theorem Dev.showFaultStates_statusOnly (d : Dev) : Dev.StatusOnly d d.showFaultStates := by
  unfold Dev.showFaultStates
  extract_lets e
  have hbanks : Dev.StatusOnly d e :=
    foldl_related Dev.StatusOnly.refl Dev.StatusOnly.trans _ d fun p _ e => ((Dev.StatusOnly.refl e).setStat _ _ _).setStat _ _ _
  exact hbanks.trans (foldl_related Dev.StatusOnly.refl Dev.StatusOnly.trans _ e fun p _ e => (Dev.StatusOnly.refl e).setStat _ _ _)

/-! The strokes that a reset drops -/

/-- The words of the unpainted ground. -/
def unpaintedWords : List Nat := [Reg.MAP_UNPAINTED_US, Reg.MAP_UNPAINTED_US + 4]

/-- The ground counted as unpainted has moved. -/
def Dev.GroundCounted (d e : Dev) : Prop := Dev.RdKept unpaintedWords d e ∧ Dev.SameBut (fun d => { d with map := {}, rcf := {} }) d e

theorem Dev.GroundCounted.refl (d : Dev) : Dev.GroundCounted d d := ⟨Dev.RdKept.refl _ d, Dev.SameBut.refl _ d⟩

theorem Dev.GroundCounted.trans {d e f : Dev} (h : Dev.GroundCounted d e) (h' : Dev.GroundCounted e f) : Dev.GroundCounted d f :=
  ⟨h.1.trans h'.1, h.2.trans h'.2⟩

theorem Dev.unpainted_counted (d : Dev) (ns : Int) : Dev.GroundCounted d (d.unpainted ns) := by
  unfold Dev.unpainted
  extract_lets n
  refine ⟨(((Dev.RdKept.refl unpaintedWords d).struct (e' := { d with map := { d.map with unpaintedNs := n } }) rfl).wr (by decide) _).wr (by decide) _, ?_⟩
  have hnoted : Dev.SameBut (fun d => { d with map := {}, rcf := {} }) d { d with map := { d.map with unpaintedNs := n } } := rfl
  exact (hnoted.wr _ _).wr _ _

theorem Dev.dropStrokes_counted (d : Dev) : Dev.GroundCounted d d.dropStrokes := by
  unfold Dev.dropStrokes
  refine foldl_related Dev.GroundCounted.refl Dev.GroundCounted.trans _ d fun p _ e => ?_
  refine foldl_related Dev.GroundCounted.refl Dev.GroundCounted.trans _ e fun st _ e => ?_
  split
  · exact e.unpainted_counted _
  · exact Dev.GroundCounted.refl e

/-! What a warm reset keeps -/

/-- The words that a warm reset's own records may move before it begins. -/
def resetLost : List Nat := Reg.REC_SUPP_TOTAL :: unpaintedWords

/-- The part after a warm reset's loss: what it kept of the part before. -/
structure Dev.WarmBased (d e : Dev) : Prop where
  kept : ∀ a, warmKeeps a = true → (∀ p, a ≠ Reg.STATUS p) → a ∉ resetLost → e.rd a = d.rd a
  lost : ∀ a, warmKeeps a = false → (∀ p, a ≠ Reg.STATUS p) → e.rd a = resetWord a
  pend : e.pend = []
  cross : e.cross = []
  eds : e.eds = {}
  active : e.imp.active = d.imp.active
  nor : e.imp.nor = d.imp.nor
  pairKeys : e.fab.pairKeys = d.fab.pairKeys
  tm : e.tm = d.tm

/-- What the loss starts from: the actions' record, and the strokes counted as unpainted. -/
theorem Dev.beforeLoss (d : Dev) (vs : List W32) : Dev.RdKept resetLost d (d.recOther pEDS vs).dropStrokes
    ∧ Dev.SameBut (fun d => { d with map := {}, rcf := {} }) d (d.recOther pEDS vs).dropStrokes := by
  have hrec : Dev.RdKept resetLost d (d.recOther pEDS vs) := (Dev.RdKept.refl _ d).emit (by decide) _
  have hsame : Dev.SameBut (fun d => { d with map := {}, rcf := {} }) d (d.recOther pEDS vs) := (Dev.SameBut.refl _ d).emit (fun _ _ => rfl) _
  obtain ⟨hkept, hdrop⟩ := (d.recOther pEDS vs).dropStrokes_counted
  exact ⟨hrec.trans (hkept.mono (by decide)), hsame.trans hdrop⟩

theorem Dev.warmBase_based (d : Dev) : Dev.WarmBased d d.warmBase := by
  unfold Dev.warmBase
  extract_lets n jobValid nvm br e _ _ _ f g
  obtain ⟨hkept, hsame⟩ := d.beforeLoss [w32 n]
  have hstat : Dev.StatusOnly f (((g.setStat pREC 16 nvm).setStat pREC 17 br).showFaultStates) :=
    ((((((Dev.StatusOnly.refl f).wr pIMP _).setStat pPOSE 16 _).setStat pREC 16 _).setStat pREC 17 _)).trans (Dev.showFaultStates_statusOnly _)
  obtain ⟨hfields, hwords⟩ := hstat
  have hfilter (a : Nat) : f.rd a = if warmKeeps a then e.rd a else resetWord a := Dev.rd_filter warmKeeps rfl a
  refine ⟨fun a hk hst ha => ?_, fun a hk hst => ?_, (hfields id).proj (·.pend) (fun _ => rfl), (hfields id).proj (·.cross) (fun _ => rfl),
    (hfields id).proj (·.eds) (fun _ => rfl), ?_, ?_, ?_, ?_⟩
  · exact (hwords a hst).trans ((hfilter a).trans ((if_pos hk).trans (hkept a ha)))
  · exact (hwords a hst).trans ((hfilter a).trans (if_neg (by simp [hk])))
  · exact ((hfields id).proj (·.imp.active) (fun _ => rfl)).trans (hsame.proj (·.imp.active) fun _ => rfl)
  · exact ((hfields id).proj (·.imp.nor) (fun _ => rfl)).trans (hsame.proj (·.imp.nor) fun _ => rfl)
  · exact ((hfields id).proj (·.fab.pairKeys) (fun _ => rfl)).trans (hsame.proj (·.fab.pairKeys) fun _ => rfl)
  · exact ((hfields id).proj (·.tm) (fun _ => rfl)).trans (hsame.proj (·.tm) fun _ => rfl)

/-! The loss of the solution at a reset -/

theorem Dev.setTbg_tm (d : Dev) (st : Nat) : (d.setTbg st).tm = d.tm := by
  by_cases h : d.tbgState = st
  · exact congrArg Dev.tm (if_pos h)
  · rw [Dev.setTbg_ne h, Dev.tbgNoted_tm, Dev.withWall_tm]
    rfl

theorem Dev.toHoldover_bases (d : Dev) : d.toHoldover.tm.tbm = d.tm.tbm ∧ d.toHoldover.tm.tbsP = d.tm.tbsP ∧ d.toHoldover.tm.tbnU = d.tm.tbnU := by
  by_cases h : d.tbgState = tbgLocked ∨ d.tbgState = tbgReturnS
  · rw [Dev.toHoldover_of h, Dev.setTbg_tm]
    exact ⟨rfl, rfl, rfl⟩
  · rw [show d.toHoldover = d from if_neg h]
    exact ⟨rfl, rfl, rfl⟩

/-! The words that a reset writes (R419) -/

/-- The part with the reset's own words. -/
def Dev.resetWritten (d : Dev) (cause : Nat) (word : W32) (now : Nat) : Dev :=
  let e := (((d.wr Reg.SYS_RESET_CAUSE word).inc Reg.SYS_RESET_CNT).wr64 Reg.SYS_LAST_RST_TBM now).wrN Reg.SYS_OUT_STATE 0x10
  let f := e.wr Reg.ATT_ARM_POLICY (e.rd Reg.ATT_ARM_POLICY_NEXT)
  (if cause = rcWDG then f.inc Reg.WDG_SYS_WD_CNT else f).setStat pWDG 16 false

def resetOwnWords : List Nat := [Reg.SYS_RESET_CAUSE, Reg.SYS_RESET_CNT, Reg.SYS_LAST_RST_TBM, Reg.SYS_LAST_RST_TBM + 4, Reg.SYS_OUT_STATE,
  Reg.ATT_ARM_POLICY, Reg.WDG_SYS_WD_CNT, Reg.STATUS pWDG]

theorem Dev.resetWritten_rdKept (d : Dev) (cause : Nat) (word : W32) (now : Nat) : Dev.RdKept resetOwnWords d (d.resetWritten cause word now) := by
  unfold Dev.resetWritten
  extract_lets e f
  have hf : Dev.RdKept resetOwnWords d f :=
    ((((((Dev.RdKept.refl _ d).wr (by decide) _).wr (by decide) _).wr (by decide) _).wr (by decide) _).wr (by decide) _).wr (by decide) _
  refine Dev.RdKept.setStat ?_ (by decide) _ _
  split
  · exact hf.wr (by decide) _
  · exact hf

/-- The last words of a reset, behind RESET_CAUSE to SYS_OUT_STATE. -/
theorem Dev.resetWritten_rd (d : Dev) (cause : Nat) (word : W32) (now : Nat) {a : Nat} (hp : a ≠ Reg.ATT_ARM_POLICY) (hw : a ≠ Reg.WDG_SYS_WD_CNT)
    (hs : a ≠ Reg.STATUS pWDG) : (d.resetWritten cause word now).rd a
      = ((((d.wr Reg.SYS_RESET_CAUSE word).inc Reg.SYS_RESET_CNT).wr64 Reg.SYS_LAST_RST_TBM now).wrN Reg.SYS_OUT_STATE 0x10).rd a := by
  unfold Dev.resetWritten
  extract_lets e f
  refine (Dev.rd_setBit_ne _ _ _ hs).trans ?_
  have hf : f.rd a = e.rd a := Dev.rd_wr_ne _ _ hp
  split
  · exact (Dev.rd_wr_ne _ _ hw).trans hf
  · exact hf

theorem Dev.resetWritten_spec (d : Dev) (cause : Nat) (word : W32) (now : Nat) :
    (d.resetWritten cause word now).rd Reg.SYS_RESET_CAUSE = word
      ∧ (d.resetWritten cause word now).rd Reg.SYS_RESET_CNT = d.rd Reg.SYS_RESET_CNT + 1#32
      ∧ (d.resetWritten cause word now).rd64 Reg.SYS_LAST_RST_TBM = now % 2 ^ 64
      ∧ (d.resetWritten cause word now).rd Reg.SYS_OUT_STATE = 0x10#32 := by
  have hrd {a : Nat} := Dev.resetWritten_rd d cause word now (a := a)
  have hword : (d.wr Reg.SYS_RESET_CAUSE word).rd Reg.SYS_RESET_CNT = d.rd Reg.SYS_RESET_CNT := Dev.rd_wr_ne _ _ (by decide)
  refine ⟨?_, ?_, ?_, ?_⟩
  · refine (hrd (by decide) (by decide) (by decide)).trans ((Dev.rd_wr_ne _ _ (by decide)).trans ?_)
    exact (Dev.rd_wr_ne _ _ (by decide)).trans ((Dev.rd_wr_ne _ _ (by decide)).trans ((Dev.rd_wr_ne _ _ (by decide)).trans (Dev.rd_wr_same _ _ _)))
  · refine (hrd (by decide) (by decide) (by decide)).trans ((Dev.rd_wr_ne _ _ (by decide)).trans ?_)
    refine (Dev.rd_wr_ne _ _ (by decide)).trans ((Dev.rd_wr_ne _ _ (by decide)).trans ((Dev.rd_wr_same _ _ _).trans ?_))
    rw [hword]
  · have hlo := hrd (a := Reg.SYS_LAST_RST_TBM) (by decide) (by decide) (by decide)
    have hhi := hrd (a := Reg.SYS_LAST_RST_TBM + 4) (by decide) (by decide) (by decide)
    rw [Dev.wrN, Dev.rd_wr_ne _ _ (by decide)] at hlo hhi
    refine Eq.trans ?_ (((d.wr Reg.SYS_RESET_CAUSE word).inc Reg.SYS_RESET_CNT).rd64_wr64_mod Reg.SYS_LAST_RST_TBM now)
    unfold Dev.rd64
    rw [hlo, hhi]
  · exact (hrd (by decide) (by decide) (by decide)).trans (Dev.rd_wr_same _ _ _)

theorem Dev.resetWritten_sameBut (blank : Dev → Dev) (d : Dev) (cause : Nat) (word : W32) (now : Nat) :
    Dev.SameBut blank d (d.resetWritten cause word now) := by
  unfold Dev.resetWritten
  extract_lets e f
  have hf : Dev.SameBut blank d f := ((((((Dev.SameBut.refl blank d).wr _ _).wr _ _).wr _ _).wr _ _).wr _ _).wr _ _
  refine Dev.SameBut.setStat ?_ _ _ _
  split
  · exact hf.wr _ _
  · exact hf

theorem Dev.resetWritten_watchdog (d : Dev) (cause : Nat) (word : W32) (now : Nat) : (d.resetWritten cause word now).rd Reg.WDG_SYS_WD_CNT
    = if cause = rcWDG then d.rd Reg.WDG_SYS_WD_CNT + 1#32 else d.rd Reg.WDG_SYS_WD_CNT := by
  unfold Dev.resetWritten
  extract_lets e f
  have hf : f.rd Reg.WDG_SYS_WD_CNT = d.rd Reg.WDG_SYS_WD_CNT := by
    have hkept : Dev.RdKept [Reg.SYS_RESET_CAUSE, Reg.SYS_RESET_CNT, Reg.SYS_LAST_RST_TBM, Reg.SYS_LAST_RST_TBM + 4, Reg.SYS_OUT_STATE, Reg.ATT_ARM_POLICY] d f :=
      ((((((Dev.RdKept.refl _ d).wr (by decide) _).wr (by decide) _).wr (by decide) _).wr (by decide) _).wr (by decide) _).wr (by decide) _
    exact hkept _ (by decide)
  refine (Dev.rd_setBit_ne _ _ _ (by decide)).trans ?_
  split
  · exact (Dev.rd_wr_same _ _ _).trans (congrArg (· + 1#32) hf)
  · exact hf

/-! The warm reset -/

/-- A word that a warm reset writes, or that may stand for a state of its own. -/
def resetTouched (a : Nat) : Prop := (∃ p, a = Reg.STATUS p) ∨ a ∈ [Reg.SYS_RESET_CAUSE, Reg.SYS_RESET_CNT, Reg.SYS_LAST_RST_TBM,
  Reg.SYS_LAST_RST_TBM + 4, Reg.SYS_OUT_STATE, Reg.ATT_ARM_POLICY, Reg.REC_SUPP_TOTAL, Reg.TIME_TBG_STATE, Reg.TIME_PPS_STATUS, Reg.WDG_SYS_WD_CNT,
  Reg.MAP_UNPAINTED_US, Reg.MAP_UNPAINTED_US + 4]

/-- What a warm reset of a cause makes of a state. -/
def resetFacts (cause : Nat) (x t : State) : Prop :=
  t.dev.rd Reg.SYS_RESET_CAUSE = causeWordOf cause x.dev.anyOn false ∧ t.dev.rd Reg.SYS_RESET_CNT = x.dev.rd Reg.SYS_RESET_CNT + 1#32
    ∧ t.dev.rd64 Reg.SYS_LAST_RST_TBM = x.dev.tm.tbm % 2 ^ 64 ∧ t.dev.armed = false ∧ t.dev.fld Reg.SYS_OUT_STATE 7 4 = 1
    ∧ t.dev.rd Reg.WDG_SYS_WD_CNT = (if cause = rcWDG then x.dev.rd Reg.WDG_SYS_WD_CNT + 1#32 else x.dev.rd Reg.WDG_SYS_WD_CNT)
    ∧ t.dev.pend = [] ∧ t.dev.cross = [] ∧ t.dev.eds = {} ∧ t.dev.imp.active = x.dev.imp.active ∧ t.dev.imp.nor = x.dev.imp.nor
    ∧ t.dev.fab.pairKeys = x.dev.fab.pairKeys ∧ t.dev.tm.tbm = x.dev.tm.tbm ∧ t.dev.tm.tbsP = x.dev.tm.tbsP ∧ t.dev.tm.tbnU = x.dev.tm.tbnU
    ∧ t.ldg = x.ldg ∧ t.rcd = x.rcd ∧ t.pending = x.pending
    ∧ (∀ a, warmKeeps a = true → ¬ resetTouched a → t.dev.rd a = x.dev.rd a)
    ∧ (∀ a, warmKeeps a = false → ¬ resetTouched a → t.dev.rd a = resetWord a)

theorem not_resetTouched {a : Nat} (h : ¬ resetTouched a) : (∀ p, a ≠ Reg.STATUS p) ∧ a ∉ resetOwnWords ∧ a ∉ resetLost ∧ a ≠ Reg.TIME_TBG_STATE := by
  unfold resetTouched at h
  rw [not_or, not_exists] at h
  obtain ⟨hst, hlist⟩ := h
  have hwdg : a ≠ Reg.STATUS pWDG := hst pWDG
  simp only [List.mem_cons, List.not_mem_nil, or_false, not_or] at hlist
  simp only [resetOwnWords, resetLost, unpaintedWords, List.mem_cons, List.not_mem_nil, or_false, not_or]
  tauto

/-- The part as the warm reset's loss finds it: TB-G has left the solution. -/
def Dev.resetFrom (d : Dev) : Dev := d.withSmp Dev.toHoldover

theorem Dev.resetFrom_spec (d : Dev) : Dev.RdKept [Reg.TIME_TBG_STATE, Reg.IRQ_RAW pTIME, Reg.REC_SUPP_TOTAL] d d.resetFrom
    ∧ Dev.SameBut (fun d => { d with tm := {}, rcf := {}, gps := {} }) d d.resetFrom
    ∧ d.resetFrom.tm.tbm = d.tm.tbm ∧ d.resetFrom.tm.tbsP = d.tm.tbsP ∧ d.resetFrom.tm.tbnU = d.tm.tbnU := by
  refine ⟨d.toHoldover_rdKept.struct rfl, ?_, d.toHoldover_bases⟩
  exact d.toHoldover_sameBut (blank := fun d => { d with tm := {}, rcf := {}, gps := {} }) (fun _ _ => rfl) (fun _ _ => rfl)

theorem Dev.warmReset_shape (d : Dev) {cause : Nat} (h : cause ≠ rcPF) : ∃ x y, d.warmReset cause false 0 0
    = { d.resetFrom.warmBase.resetWritten cause (causeWordOf cause d.anyOn false) d.tm.tbm with drv := x, sup := y } := by
  unfold Dev.warmReset Dev.resetWritten
  rw [if_neg h]
  exact ⟨_, _, rfl⟩

theorem warmReset_facts {cause : Nat} (hpf : cause ≠ rcPF) (x : State) : resetFacts cause x (onDev (·.warmReset cause false 0 0) x) := by
  obtain ⟨drv, sup, hshape⟩ := x.dev.warmReset_shape hpf
  obtain ⟨hfrom, hsame, htbm, htbs, htbn⟩ := x.dev.resetFrom_spec
  obtain ⟨hkept, hlost, hpend, hcross, heds, hactive, hnor, hkeys, htm⟩ := x.dev.resetFrom.warmBase_based
  generalize x.dev.resetFrom.warmBase = e at *
  let f := e.resetWritten cause (causeWordOf cause x.dev.anyOn false) x.dev.tm.tbm
  obtain ⟨hcause, hcount, hlast, hout⟩ := e.resetWritten_spec cause (causeWordOf cause x.dev.anyOn false) x.dev.tm.tbm
  have hwd := e.resetWritten_watchdog cause (causeWordOf cause x.dev.anyOn false) x.dev.tm.tbm
  have hown := e.resetWritten_rdKept cause (causeWordOf cause x.dev.anyOn false) x.dev.tm.tbm
  have hfields : Dev.SameBut (fun d => d) e f := e.resetWritten_sameBut _ _ _ _
  have hstays {a : Nat} (hk : warmKeeps a = true) (hst : ∀ p, a ≠ Reg.STATUS p) (hl : a ∉ resetLost)
      (hf : a ∉ [Reg.TIME_TBG_STATE, Reg.IRQ_RAW pTIME, Reg.REC_SUPP_TOTAL]) : e.rd a = x.dev.rd a := (hkept a hk hst hl).trans (hfrom a hf)
  have hirq {a : Nat} (hk : warmKeeps a = true) : a ≠ Reg.IRQ_RAW pTIME := by
    rintro rfl
    exact absurd hk (by decide)
  have hnostat : ∀ a ∈ [Reg.SYS_RESET_CNT, Reg.WDG_SYS_WD_CNT], ∀ p, a ≠ Reg.STATUS p := by
    intro a ha p
    simp only [List.mem_cons, List.not_mem_nil, or_false] at ha
    rcases ha with rfl | rfl <;> simp only [Reg.SYS_RESET_CNT, Reg.WDG_SYS_WD_CNT, Reg.STATUS] <;> omega
  have hcnt : e.rd Reg.SYS_RESET_CNT = x.dev.rd Reg.SYS_RESET_CNT := hstays (by decide) (hnostat _ (by decide)) (by decide) (by decide)
  have hdog : e.rd Reg.WDG_SYS_WD_CNT = x.dev.rd Reg.WDG_SYS_WD_CNT := hstays (by decide) (hnostat _ (by decide)) (by decide) (by decide)
  unfold resetFacts
  simp only [onDev, hshape]
  refine ⟨hcause, hcount.trans (congrArg (· + 1#32) hcnt), hlast, (congrArg (bitOf · 0) hout).trans (by decide),
    (congrArg (field · 7 4) hout).trans (by decide), hwd.trans (by rw [hdog]), (hfields.proj (·.pend) fun _ => rfl).trans hpend,
    (hfields.proj (·.cross) fun _ => rfl).trans hcross, (hfields.proj (·.eds) fun _ => rfl).trans heds,
    (hfields.proj (·.imp.active) fun _ => rfl).trans (hactive.trans (hsame.proj (·.imp.active) fun _ => rfl)),
    (hfields.proj (·.imp.nor) fun _ => rfl).trans (hnor.trans (hsame.proj (·.imp.nor) fun _ => rfl)),
    (hfields.proj (·.fab.pairKeys) fun _ => rfl).trans (hkeys.trans (hsame.proj (·.fab.pairKeys) fun _ => rfl)),
    (hfields.proj (·.tm.tbm) fun _ => rfl).trans ((congrArg TimeBases.tbm htm).trans htbm),
    (hfields.proj (·.tm.tbsP) fun _ => rfl).trans ((congrArg TimeBases.tbsP htm).trans htbs),
    (hfields.proj (·.tm.tbnU) fun _ => rfl).trans ((congrArg TimeBases.tbnU htm).trans htbn), trivial, trivial, trivial, fun a hk ht => ?_, fun a hk ht => ?_⟩
  · obtain ⟨hst, ho, hl, htbg⟩ := not_resetTouched ht
    have hsupp : a ≠ Reg.REC_SUPP_TOTAL := fun h => hl (by simp [resetLost, h])
    exact (hown a ho).trans (hstays hk hst hl (by simp [htbg, hirq hk, hsupp]))
  · obtain ⟨hst, ho, -⟩ := not_resetTouched ht
    exact (hown a ho).trans (hlost a hk hst)

/-! The causes (R403, R411, R417) -/

/-- No reset or power-fail sequence is under way, and none began in this cycle. -/
def State.resetFree (s : State) : Prop := s.dev.pow.held = false ∧ s.dev.pow.pfAt = none ∧ s.dev.sup.resumeAt ≠ some (s.dev.tm.tbm + 2000000)

theorem controllerReset_free {s : State} (h : s.resetFree) (cause : Nat) : s.controllerReset cause = onDev (·.warmReset cause false 0 0) s := by
  obtain ⟨hheld, hpf, hresume⟩ := h
  unfold State.controllerReset
  rw [if_neg (by simp [hheld]), if_neg (by simp [hpf]), if_neg hresume]

theorem controllerReset_again {s : State} (hheld : s.dev.pow.held = false) (hpf : s.dev.pow.pfAt = none)
    (h : s.dev.sup.resumeAt = some (s.dev.tm.tbm + 2000000)) (cause : Nat) :
    s.controllerReset cause = onDev (fun d => d.setFld Reg.SYS_RESET_CAUSE 3 0 (min cause (d.fld Reg.SYS_RESET_CAUSE 3 0))) s := by
  unfold State.controllerReset
  rw [if_neg (by simp [hheld]), if_neg (by simp [hpf]), if_pos h]

theorem resetFacts.answered {cause k : Nat} {s t : State} (h : resetFacts cause (s.woken k) t) (req : Requester) (a : Nat) :
    resetFacts cause s (answeredOk req a t) := h

theorem softReset_resets {req : Requester} {s : State} (h : Accepts req Reg.SYS_RST_CMD 0x57534554#32 s) (hfree : s.resetFree) :
    ∃ t, exec (.softReset req) s = .next t ∧ resetFacts rcSOFT s t ∧ answerTo req t = ⟨.ok, 1, []⟩ := by
  obtain ⟨k, hk⟩ := hostCmd_acts h (act := actRstCmd 0x57534554#32) (t := fun k => onDev (·.warmReset rcSOFT false 0 0) (s.woken k)) fun k => by
    rw [actRstCmd, if_pos rfl, controllerReset_free (s := s.woken k) hfree]
  exact ⟨_, congrArg Host.Outcome.next hk, (warmReset_facts (by decide) (s.woken k)).answered req _, answerTo_answeredOk _ _ _⟩

theorem sysWatchdog_resets {s : State} (hturned : s.dev.frm.turned = true) (hresume : s.dev.sup.resumeAt = none) (hheld : s.dev.pow.held = false)
    (hpf : s.dev.pow.pfAt = none) (hpower : s.dev.powerState ≤ 1) : ∃ x t, exec .sysWatchdog s = .next t ∧ resetFacts rcWDG x t
      ∧ s.dev.frm.turnTbm + 4 * s.dev.tf ≤ x.dev.tm.tbm ∧ x = { s with dev := { s.dev with tm := x.dev.tm } } := by
  let x := onDev (fun d => d.toTbm (d.frm.turnTbm + 4 * d.tf)) s
  have hfree : x.resetFree := ⟨hheld, hpf, by rw [show x.dev.sup.resumeAt = none from hresume]; exact nofun⟩
  refine ⟨x, _, congrArg Host.Outcome.next ((if_pos (by simp [hturned, hresume, hheld, hpower])).trans (controllerReset_free hfree rcWDG)),
    warmReset_facts (by decide) x, s.dev.toTbm_reaches _, rfl⟩

/-- Settles O31. -/
theorem controllerResets : Obligations.ControllerResets := by
  intro req s
  refine ⟨fun hidle => ⟨_, congrArg Host.Outcome.next (controllerReset_free hidle rcPIN), warmReset_facts (by decide) s⟩,
    fun h hidle => softReset_resets h hidle, fun hturned hresume hheld hpf hpower => sysWatchdog_resets hturned hresume hheld hpf hpower,
    fun hheld hpf hagain => ⟨_, congrArg Host.Outcome.next (controllerReset_again hheld hpf hagain rcPIN), ?_, ?_, ?_⟩⟩
  · have hlow : min 3 (s.dev.fld Reg.SYS_RESET_CAUSE 3 0) < 2 ^ 4 := by omega
    exact (s.dev.fld_setFld_same Reg.SYS_RESET_CAUSE 0 _ (by decide)).trans (Nat.mod_eq_of_lt hlow)
  · exact Dev.SameBut.onDev ((Dev.SameBut.refl _ s.dev).wr _ _)
  · exact (Dev.RdKept.refl _ s.dev).wr (by decide) _

end Sys2Proof.Machine
end

section
/-! PROOFS. The diagnostics of the drive tiles: what puts a channel, a bank or a tile into its fault state (R301, R302, R310). -/
namespace Sys2Proof.Machine

/-! A channel's fault state -/

theorem Dev.bit_fault_same (d : Dev) (p : Nat) {b : Nat} (hb : b < 32) : (d.fault p b).bit (Reg.FAULT p) b = true := by
  unfold Dev.fault
  extract_lets rises e
  have he : e.bit (Reg.FAULT p) b = true := Dev.bit_setBit_same d _ true hb
  split
  · exact Dev.bit_irq_true _ (by decide) hb he
  · exact he

theorem Dev.chfEvent_drv (d : Dev) (c cause : Nat) : (d.chfEvent c cause).drv = d.drv :=
  (Dev.emit_drv _ _).trans ((Dev.irq_drv _ _ _).trans (Dev.fault_drv _ _ _))

theorem Dev.chfEvent_shows (d : Dev) (c cause : Nat) : (d.chfEvent c cause).bit (Reg.FAULT (pBK (c / 8))) (16 + c % 8) = true
    ∧ (d.chfEvent c cause).bit (Reg.IRQ_RAW (pBK (c / 8))) 16 = true := by
  have hb : 16 + c % 8 < 32 := by omega
  have hsupp : Reg.FAULT (pBK (c / 8)) ≠ Reg.REC_SUPP_TOTAL ∧ Reg.IRQ_RAW (pBK (c / 8)) ≠ Reg.REC_SUPP_TOTAL := by
    simp only [Reg.FAULT, Reg.IRQ_RAW, Reg.REC_SUPP_TOTAL]
    omega
  constructor
  · refine (congrArg (bitOf · (16 + c % 8)) (Dev.rd_emit_ne _ _ hsupp.1)).trans ?_
    exact Dev.bit_irq_true _ (by decide) hb (Dev.bit_fault_same d _ hb)
  · exact (congrArg (bitOf · 16) (Dev.rd_emit_ne _ _ hsupp.2)).trans (Dev.bit_irq_same _ _ (by decide))

theorem Dev.chanFault_eq {d : Dev} {c : Nat} (h : (d.chan c).phase ≠ phFAULT) (cause : Nat) :
    d.chanFault c cause = (d.modChan c (·.toFault d.tick cause)).chfEvent c cause := if_neg h

/-- The part after channel `c` entered its fault state, beside the channels of a part before. -/
structure Dev.ChanHeld (c cause : Nat) (d e : Dev) : Prop where
  phase : (e.chan c).phase = phFAULT
  cause : (e.chan c).cause = cause
  fault : e.bit (Reg.FAULT (pBK (c / 8))) (16 + c % 8) = true
  irq : e.bit (Reg.IRQ_RAW (pBK (c / 8))) 16 = true
  others : ∀ j, j ≠ c → e.chan j = d.chan j

theorem Dev.chanFault_held {d e : Dev} {c : Nat} (hphase : (e.chan c).phase ≠ phFAULT) (hothers : ∀ j, j ≠ c → e.chan j = d.chan j) (cause : Nat) :
    Dev.ChanHeld c cause d (e.chanFault c cause) := by
  rw [Dev.chanFault_eq hphase]
  have hch (j : Nat) : ((e.modChan c (·.toFault e.tick cause)).chfEvent c cause).chan j = (e.modChan c (·.toFault e.tick cause)).chan j :=
    Dev.chan_of_ch (congrArg Drive.ch (Dev.chfEvent_drv _ c cause)) j
  have hown : ((e.modChan c (·.toFault e.tick cause)).chfEvent c cause).chan c = (e.chan c).toFault e.tick cause :=
    (hch c).trans (Dev.chan_modChan_same _ _ _)
  obtain ⟨hfault, hirq⟩ := (e.modChan c (·.toFault e.tick cause)).chfEvent_shows c cause
  exact ⟨congrArg Chan.phase hown, congrArg Chan.cause hown, hfault, hirq,
    fun j hj => (hch j).trans ((Dev.chan_modChan_ne _ _ hj).trans (hothers j hj))⟩

/-- A change of the channel that leaves its phase. -/
theorem Dev.chanFault_held_after {d e : Dev} {c : Nat} {f : Chan → Chan} (hf : ∀ x, (f x).phase = x.phase) (hch : ∀ j, e.chan j = d.chan j)
    (hphase : (d.chan c).phase ≠ phFAULT) (cause : Nat) : Dev.ChanHeld c cause d ((e.modChan c f).chanFault c cause) := by
  refine Dev.chanFault_held ?_ (fun j hj => (Dev.chan_modChan_ne _ _ hj).trans (hch j)) cause
  rw [Dev.chan_modChan_same, hf, hch]
  exact hphase

theorem Dev.driven_not_fault {d : Dev} {c : Nat} (h : d.driven c = true) : (d.chan c).phase ≠ phFAULT := by
  intro hf
  have hoff : d.isOn c = false := by rw [Dev.isOn, hf]; decide
  have hshut : d.meterShut c = true := by simp [Dev.meterShut, hf]
  simp [Dev.driven, hoff, Dev.meterDrives, hshut] at h

/-! The diagnostics of a channel -/

def Chan.shorted (t : Nat) (x : Chan) : Chan := { x with shortAt := some t }
def Chan.flagged (n : Nat) (x : Chan) : Chan := { x with fr := { x.fr with flags := x.fr.flags ||| n } }

theorem exec_loadShort {c : Fin 512} {milliA : Nat} {s : State} (h : s.dev.driven c = true) (hmA : 16000 < milliA) : exec (.loadShort c milliA) s
    = .next (onDev (fun d => if s.dev.diagOn c then (d.modChan c (Chan.shorted d.tick)).chanFault c cSHORT else d.modChan c (Chan.shorted d.tick)) s) := by
  refine congrArg Host.Outcome.next (onDev_congr (g := fun d => if s.dev.diagOn c then (d.modChan c (Chan.shorted d.tick)).chanFault c cSHORT
    else d.modChan c (Chan.shorted d.tick)) ?_)
  exact if_pos ⟨h, hmA⟩

theorem exec_freewheelMissing {c : Fin 512} {s : State} (h : (s.dev.chan c).phase = phPEAK ∨ (s.dev.chan c).phase = phHOLD ∨ (s.dev.chan c).phase = phDECAY)
    (hdiag : s.dev.diagOn c = true) : exec (.freewheelMissing c) s = .next (onDev (fun d => (d.modChan c (Chan.flagged 1)).chanFault c cFREEWHEEL) s) := by
  refine congrArg Host.Outcome.next (onDev_congr (g := fun d => (d.modChan c (Chan.flagged 1)).chanFault c cFREEWHEEL) ?_)
  refine if_pos ⟨?_, hdiag⟩
  rcases h with h | h | h
  · exact .inl h
  · exact .inr (.inl h)
  · exact .inr (.inr (.inl h))

/-- The instant of the test of a load that is on, and of one that is off. -/
def Dev.onTested (d : Dev) (c : Nat) : Dev := d.toTick (max (d.chan c).tOn ((d.chan c).winEnd.getD 0) + 1000 * tUs)
def Dev.offTested (d : Dev) (c : Nat) : Dev := d.toTick ((d.chan c).tOff.getD 0 + 1000 * tUs)

theorem exec_openLoadOn {c : Fin 512} {milliA : Nat} {s : State} (h : s.dev.driven c = true) (hvbat : s.dev.drv.vbatLow = false)
    (hmA : milliA < s.dev.rdN (Reg.BK_OPEN_ON_MA (c / 8))) (hdiag : s.dev.diagOn c = true) :
    exec (.openLoadOn c milliA) s = .next (onDev (fun d => ((d.onTested c).modChan c (Chan.flagged 2)).chanFault c cOPENON) s) := by
  refine congrArg Host.Outcome.next (onDev_congr (g := fun d => ((d.onTested c).modChan c (Chan.flagged 2)).chanFault c cOPENON) ?_)
  exact if_pos ⟨h, hvbat, hmA, hdiag⟩

theorem exec_openLoadOff {c : Fin 512} {s : State} (hphase : (s.dev.chan c).phase = phOFF) (h : s.dev.driven c = false) (hmode : s.dev.mode c ≠ mOFF)
    (hvbat : s.dev.drv.vbatLow = false) (hdiag : s.dev.diagOn c = true) :
    exec (.openLoadOff c) s = .next (onDev (fun d => ((d.offTested c).modChan c (Chan.flagged 2)).chanFault c cOPENOFF) s) := by
  refine congrArg Host.Outcome.next (onDev_congr (g := fun d => ((d.offTested c).modChan c (Chan.flagged 2)).chanFault c cOPENOFF) ?_)
  exact if_pos ⟨hphase, h, hmode, hvbat, hdiag⟩

/-- A queue's double error, noted on its tile. -/
def Dev.queueFaulted (d : Dev) (c : Nat) : Dev := d.faultRec (pDT (c / 64)) 18 [] objIsChannel c

theorem Dev.queueFaulted_drv (d : Dev) (c : Nat) : (d.queueFaulted c).drv = d.drv := (Dev.emit_drv _ _).trans (Dev.fault_drv _ _ _)

theorem exec_queueEccError {c : Fin 512} {s : State} (h : s.dev.bit (Reg.FAULT_EN (pDT (c / 64))) 18 = true) :
    exec (.queueEccError c) s = .next (onDev (fun d => (d.queueFaulted c).chanFault c cQUEUE) s) := by
  refine congrArg Host.Outcome.next (onDev_congr (g := fun d => (d.queueFaulted c).chanFault c cQUEUE) ?_)
  refine if_pos ((congrArg (bitOf · 18) ?_).trans h)
  refine Dev.rd_faultRec_ne _ _ _ ?_ ?_ ?_ <;> simp only [Reg.FAULT_EN, Reg.FAULT, Reg.IRQ_RAW, Reg.REC_SUPP_TOTAL] <;> omega

/-- The fault state of a channel leaves the tiles' FAULT bits. -/
theorem Dev.chanFault_tileBit {d : Dev} {c t : Nat} (h : d.bit (Reg.FAULT (pDT t)) 18 = true) (cause : Nat) :
    (d.chanFault c cause).bit (Reg.FAULT (pDT t)) 18 = true := by
  unfold Dev.chanFault
  split
  · exact h
  · have hsupp : Reg.FAULT (pDT t) ≠ Reg.REC_SUPP_TOTAL := by simp only [Reg.FAULT, Reg.REC_SUPP_TOTAL]; omega
    refine (congrArg (bitOf · 18) (Dev.rd_emit_ne _ _ hsupp)).trans ?_
    refine Dev.bit_irq_true _ (by decide) (by decide) (Dev.bit_fault_true _ (by omega) (by decide) ?_)
    exact h

/-! Channels held by their bank or tile -/

/-- Channels entered their fault state for their bank or tile: FAULT and IRQ_RAW of banks gained bits, and nothing else of the registers moved. -/
structure Dev.HeldNoted (d e : Dev) : Prop where
  rd : ∀ a, (∀ b, a ≠ Reg.FAULT (pBK b)) → (∀ b, a ≠ Reg.IRQ_RAW (pBK b)) → e.rd a = d.rd a
  bits : ∀ a i, i < 32 → d.bit a i = true → e.bit a i = true
  bank : e.drv.bank = d.drv.bank
  tile : e.drv.tile = d.drv.tile

theorem Dev.HeldNoted.refl (d : Dev) : Dev.HeldNoted d d := ⟨fun _ _ _ => rfl, fun _ _ _ h => h, rfl, rfl⟩

theorem Dev.HeldNoted.trans {d e f : Dev} (h : Dev.HeldNoted d e) (h' : Dev.HeldNoted e f) : Dev.HeldNoted d f :=
  ⟨fun a hf hi => (h'.rd a hf hi).trans (h.rd a hf hi), fun a i hi hd => h'.bits a i hi (h.bits a i hi hd), h'.bank.trans h.bank, h'.tile.trans h.tile⟩

/-- A channel held, before what it shows. -/
def Dev.chanTaken (d : Dev) (c cause : Nat) : Dev := d.modChan c (·.toFault d.tick cause)

theorem Dev.chanHeldBy_cases (d : Dev) (c cause : Nat) : d.chanHeldBy c cause = d.chanTaken c cause
    ∨ d.chanHeldBy c cause = ((d.chanTaken c cause).fault (pBK (c / 8)) (16 + c % 8)).irq (pBK (c / 8)) 16 := by
  unfold Dev.chanHeldBy
  extract_lets was e
  by_cases h : was
  · exact .inl (if_pos h)
  · exact .inr (if_neg h)

theorem Dev.chanHeldBy_noted (d : Dev) (c cause : Nat) : Dev.HeldNoted d (d.chanHeldBy c cause) := by
  have htaken : Dev.HeldNoted d (d.chanTaken c cause) := ⟨fun _ _ _ => rfl, fun _ _ _ h => h, rfl, rfl⟩
  rcases d.chanHeldBy_cases c cause with h | h <;> rw [h]
  · exact htaken
  · refine htaken.trans ⟨fun a hf hi => ?_, fun a i hi hd => ?_, ?_, ?_⟩
    · exact (Dev.rd_irq_ne _ _ _ (hi _)).trans (Dev.rd_fault_ne _ _ _ (hf _) (hi _))
    · exact Dev.bit_irq_true _ (by decide) hi (Dev.bit_fault_true _ (by omega) hi hd)
    · exact congrArg Drive.bank ((Dev.irq_drv _ _ _).trans (Dev.fault_drv _ _ _))
    · exact congrArg Drive.tile ((Dev.irq_drv _ _ _).trans (Dev.fault_drv _ _ _))

theorem Dev.chanHeldBy_chan (d : Dev) (c cause j : Nat) : (d.chanHeldBy c cause).chan j = (d.chanTaken c cause).chan j := by
  rcases d.chanHeldBy_cases c cause with h | h <;> rw [h]
  exact Dev.chan_of_ch (congrArg Drive.ch ((Dev.irq_drv _ _ _).trans (Dev.fault_drv _ _ _))) j

theorem Dev.chanHeldBy_same (d : Dev) (c cause : Nat) : ((d.chanHeldBy c cause).chan c).phase = phFAULT ∧ ((d.chanHeldBy c cause).chan c).cause = cause := by
  have h : (d.chanHeldBy c cause).chan c = (d.chan c).toFault d.tick cause := (d.chanHeldBy_chan c cause c).trans (Dev.chan_modChan_same _ _ _)
  exact ⟨congrArg Chan.phase h, congrArg Chan.cause h⟩

theorem Dev.chanHeldBy_ne (d : Dev) {c j : Nat} (cause : Nat) (h : j ≠ c) : (d.chanHeldBy c cause).chan j = d.chan j :=
  (d.chanHeldBy_chan c cause j).trans (Dev.chan_modChan_ne _ _ h)

/-- All channels of a list are held. -/
theorem foldl_chanHeldBy (xs : List Nat) (d : Dev) (cause : Nat) : Dev.HeldNoted d (xs.foldl (fun d c => d.chanHeldBy c cause) d)
    ∧ (∀ j ∈ xs, ((xs.foldl (fun d c => d.chanHeldBy c cause) d).chan j).phase = phFAULT
        ∧ ((xs.foldl (fun d c => d.chanHeldBy c cause) d).chan j).cause = cause)
    ∧ ∀ j, j ∉ xs → (xs.foldl (fun d c => d.chanHeldBy c cause) d).chan j = d.chan j := by
  refine ⟨foldl_related Dev.HeldNoted.refl Dev.HeldNoted.trans xs d fun c _ e => e.chanHeldBy_noted c cause, fun j hj => ?_, fun j hj => ?_⟩
  · refine foldl_makes (P := fun e : Dev => (e.chan j).phase = phFAULT ∧ (e.chan j).cause = cause) (f := fun d c => d.chanHeldBy c cause)
      (fun e c he => ?_) (fun e => e.chanHeldBy_same j cause) xs d hj
    by_cases hc : j = c
    · exact hc ▸ e.chanHeldBy_same c cause
    · exact (congrArg (fun x : Chan => x.phase = phFAULT ∧ x.cause = cause) (e.chanHeldBy_ne cause hc)).mpr he
  · refine List.foldlRecOn (motive := fun e : Dev => e.chan j = d.chan j) xs _ rfl fun e he c hc => ?_
    have hne : j ≠ c := fun h => hj (h ▸ hc)
    exact (e.chanHeldBy_ne cause hne).trans he

theorem mem_bankChans_iff {b c : Nat} : c ∈ bankChans b ↔ c / 8 = b := by
  refine ⟨fun h => ?_, mem_bankChans⟩
  obtain ⟨i, hi, rfl⟩ := List.mem_map.mp h
  have hlt := List.mem_range.mp hi
  omega

theorem mem_tileChans_iff {t c : Nat} : c ∈ tileChans t ↔ c / 64 = t := by
  refine ⟨fun h => ?_, mem_tileChans⟩
  obtain ⟨i, hi, rfl⟩ := List.mem_map.mp h
  have hlt := List.mem_range.mp hi
  omega

/-! The fault state of a bank and of a tile -/

/-- The part before and after bank `n` entered its fault state. -/
structure Dev.BankHeld (n : Nat) (d e : Dev) : Prop where
  fault : (e.bank n).fault = true
  stat : e.stat (pBK n) 16 = true
  chans : ∀ j, j / 8 = n → (e.chan j).phase = phFAULT ∧ (e.chan j).cause = cBANK
  others : ∀ j, j / 8 ≠ n → e.chan j = d.chan j
  rd : ∀ a, a ≠ Reg.STATUS (pBK n) → (∀ b, a ≠ Reg.FAULT (pBK b)) → (∀ b, a ≠ Reg.IRQ_RAW (pBK b)) → e.rd a = d.rd a
  bits : ∀ p i, i < 32 → d.bit (Reg.FAULT p) i = true → e.bit (Reg.FAULT p) i = true

def Bank.faulted (x : Bank) : Bank := { x with fault := true, sort := none, reclose := none, resume := [] }

/-- The bank's own part of its fault state. -/
def Dev.bankTaken (d : Dev) (b : Nat) : Dev := ((d.modBank b Bank.faulted).setStat (pBK b) 16 true).setStat (pBK b) 17 false

theorem Dev.bankFault_eq (d : Dev) (b : Nat) : d.bankFault b = (bankChans b).foldl (fun d c => d.chanHeldBy c cBANK) (d.bankTaken b) := rfl

theorem status_apart (p b : Nat) : Reg.STATUS p ≠ Reg.FAULT (pBK b) ∧ Reg.STATUS p ≠ Reg.IRQ_RAW (pBK b) := by
  simp only [Reg.STATUS, Reg.FAULT, Reg.IRQ_RAW]
  omega

theorem Dev.bankFault_held (d : Dev) (b : Nat) : Dev.BankHeld b d (d.bankFault b) := by
  rw [Dev.bankFault_eq]
  obtain ⟨⟨hrd, hbits, hbank, -⟩, hin, hout⟩ := foldl_chanHeldBy (bankChans b) (d.bankTaken b) cBANK
  refine ⟨?_, ?_, fun j hj => hin j (mem_bankChans hj), fun j hj => (hout j fun h => hj (mem_bankChans_iff.mp h)).trans rfl,
    fun a hs hf hi => (hrd a hf hi).trans ?_, fun p i hi h => hbits _ _ hi ?_⟩
  · exact (congrArg Bank.fault (Dev.bank_of_bank hbank b)).trans (congrArg Bank.fault (Dev.bank_modBank_same d b Bank.faulted))
  · refine (congrArg (bitOf · 16) (hrd _ (fun _ => (status_apart _ _).1) fun _ => (status_apart _ _).2)).trans ?_
    refine (Dev.bit_setBit _ _ _ _ _ (by decide) (by decide)).trans ?_
    exact Dev.bit_setBit_same _ _ true (by decide)
  · exact (Dev.rd_setBit_ne _ _ _ hs).trans (Dev.rd_setBit_ne _ _ _ hs)
  · have hne : Reg.FAULT p ≠ Reg.STATUS (pBK b) := by simp only [Reg.FAULT, Reg.STATUS]; omega
    exact (congrArg (bitOf · i) ((Dev.rd_setBit_ne _ _ _ hne).trans (Dev.rd_setBit_ne _ _ _ hne))).trans h

/-- The part before and after tile `n` entered its fault state. -/
structure Dev.TileHeld (n : Nat) (d e : Dev) : Prop where
  fault : (e.tile n).fault = true
  stat : e.stat (pDT n) 16 = true
  chans : ∀ j, j / 64 = n → (e.chan j).phase = phFAULT ∧ (e.chan j).cause = cTILE
  others : ∀ j, j / 64 ≠ n → e.chan j = d.chan j
  rd : ∀ a, a ≠ Reg.STATUS (pDT n) → (∀ b, a ≠ Reg.FAULT (pBK b)) → (∀ b, a ≠ Reg.IRQ_RAW (pBK b)) → e.rd a = d.rd a

def Tile.faulted (x : Tile) : Tile := { x with fault := true }

/-- The tile's own part of its fault state. -/
def Dev.tileTaken (d : Dev) (t : Nat) : Dev := (d.modTile t Tile.faulted).setStat (pDT t) 16 true

theorem Dev.tileFault_eq (d : Dev) (t : Nat) : d.tileFault t = (tileChans t).foldl (fun d c => d.chanHeldBy c cTILE) (d.tileTaken t) := rfl

theorem Dev.tileFault_held (d : Dev) (t : Nat) : Dev.TileHeld t d (d.tileFault t) := by
  rw [Dev.tileFault_eq]
  obtain ⟨⟨hrd, -, -, htile⟩, hin, hout⟩ := foldl_chanHeldBy (tileChans t) (d.tileTaken t) cTILE
  refine ⟨?_, ?_, fun j hj => hin j (mem_tileChans hj), fun j hj => (hout j fun h => hj (mem_tileChans_iff.mp h)).trans rfl,
    fun a hs hf hi => (hrd a hf hi).trans (Dev.rd_setBit_ne _ _ _ hs)⟩
  · exact (congrArg Tile.fault (Dev.tile_of_tile htile t)).trans (congrArg Tile.fault (Dev.tile_modTile_same d t Tile.faulted))
  · refine (congrArg (bitOf · 16) (hrd _ (fun _ => (status_apart _ _).1) fun _ => (status_apart _ _).2)).trans ?_
    exact Dev.bit_setBit_same _ _ true (by decide)

/-- A part that has the channels of another before it. -/
theorem Dev.BankHeld.before {n : Nat} {d e f : Dev} (h : Dev.BankHeld n e f) (hch : e.drv.ch = d.drv.ch) (j : Nat) (hj : j / 8 ≠ n) : f.chan j = d.chan j :=
  (h.others j hj).trans (Dev.chan_of_ch hch j)

theorem Dev.TileHeld.before {n : Nat} {d e f : Dev} (h : Dev.TileHeld n e f) (hch : e.drv.ch = d.drv.ch) (j : Nat) (hj : j / 64 ≠ n) : f.chan j = d.chan j :=
  (h.others j hj).trans (Dev.chan_of_ch hch j)

/-! The diagnostics of a bank and of a tile -/

theorem Dev.faultRec_ch (d : Dev) (p b : Nat) (vs : List W32) (o i : Nat) : (d.faultRec p b vs o i).drv.ch = d.drv.ch :=
  congrArg Drive.ch ((Dev.emit_drv _ _).trans (Dev.fault_drv _ _ _))

/-- A channel that conducts while it is off, noted. -/
def Dev.stuckNoted (d : Dev) (c : Nat) : Dev := (d.toTick ((d.chan c).tOff.getD 0 + 1000 * tUs)).faultRec (pBK (c / 8)) 24 [] objIsChannel c

theorem Dev.stuckNoted_spec (d : Dev) (c : Nat) : (d.stuckNoted c).drv.ch = d.drv.ch ∧ (d.stuckNoted c).bit (Reg.FAULT (pBK (c / 8))) 24 = true :=
  ⟨Dev.faultRec_ch _ _ _ _ _ _, Dev.bit_faultRec _ _ (by decide)⟩

theorem exec_stuckOn {c : Fin 512} {milliA : Nat} {s : State} (h : s.dev.driven c = false) (hmA : 150 < milliA)
    (hen : s.dev.bit (Reg.FAULT_EN (pBK (c / 8))) 24 = true) (hbank : (s.dev.bank (c / 8)).fault = false) :
    exec (.stuckOn c milliA) s = .next (onDev (fun d => (d.stuckNoted c).bankFault (c / 8)) s) := by
  refine congrArg Host.Outcome.next (onDev_congr (g := fun d => (d.stuckNoted c).bankFault (c / 8)) ?_)
  exact if_pos ⟨h, hmA, hen, hbank⟩

/-- The word of a bank's currents. -/
def bankWord (bankMA sumMA : Nat) : W32 := w32 (min sumMA 65535 * 2 ^ 16 + min bankMA 65535)

theorem bankWord_toNat (bankMA sumMA : Nat) : (bankWord bankMA sumMA).toNat = min sumMA 65535 * 2 ^ 16 + min bankMA 65535 := by
  refine (BitVec.toNat_ofNat _ _).trans (Nat.mod_eq_of_lt ?_)
  omega

/-- The currents of a bank shown. -/
def Dev.currentsShown (d : Dev) (b bankMA sumMA : Nat) : Dev := (d.wr (Reg.BK_BK_I b) (bankWord bankMA sumMA)).bankPeak b bankMA

/-- The tolerance between them. -/
def Dev.driftTol (d : Dev) (b sumMA : Nat) : Nat := max (d.rdN (Reg.BK_DRIFT_TOL b)) (d.rdN (Reg.BK_DRIFT_PCT b) * sumMA / 100)

theorem Dev.peak_cases (d : Dev) (a n : Nat) : (∃ v, d.peak a n = d.wr a v) ∨ d.peak a n = d := by
  unfold Dev.peak
  split
  · exact .inl ⟨_, rfl⟩
  · exact .inr rfl

theorem Dev.peak_rdKept (d : Dev) (a n : Nat) : Dev.RdKept [a] d (d.peak a n) := by
  rcases d.peak_cases a n with ⟨v, h⟩ | h <;> rw [h]
  · exact (Dev.RdKept.refl _ d).wr (List.mem_singleton.mpr rfl) v
  · exact Dev.RdKept.refl _ d

theorem Dev.peak_drv (d : Dev) (a n : Nat) : (d.peak a n).drv = d.drv := by
  rcases d.peak_cases a n with ⟨v, h⟩ | h <;> rw [h]
  rfl

/-- The sum and the bank's current, and the current's peak. -/
def Dev.currentsWritten (d : Dev) (b bankMA sumMA : Nat) : Dev :=
  (d.wr (Reg.BK_BK_I b) (bankWord bankMA sumMA)).peak (Reg.BK_BK_I_MAX b) bankMA

theorem Dev.currentsShown_eq (d : Dev) (b bankMA sumMA : Nat) :
    d.currentsShown b bankMA sumMA = (d.currentsWritten b bankMA sumMA).modBank b (fun x => { x with peakMA := max x.peakMA bankMA }) := rfl

theorem Dev.modBank_beside (d : Dev) (b : Nat) (f : Bank → Bank) :
    (d.modBank b f).drv.ch = d.drv.ch ∧ (d.modBank b f).drv.vbatLow = d.drv.vbatLow ∧ (d.modBank b f).regs = d.regs := ⟨rfl, rfl, rfl⟩

theorem Dev.currentsWritten_drv (d : Dev) (b bankMA sumMA : Nat) : (d.currentsWritten b bankMA sumMA).drv = d.drv :=
  (Dev.peak_drv _ _ _).trans (Dev.wr_drv _ _ _)

theorem Dev.currentsShown_rdKept (d : Dev) (b bankMA sumMA : Nat) : Dev.RdKept [Reg.BK_BK_I b, Reg.BK_BK_I_MAX b] d (d.currentsShown b bankMA sumMA) := by
  have hpeak : Dev.RdKept [Reg.BK_BK_I b, Reg.BK_BK_I_MAX b] (d.wr (Reg.BK_BK_I b) (bankWord bankMA sumMA))
      (d.currentsWritten b bankMA sumMA) := (Dev.peak_rdKept _ _ _).mono (by simp)
  have hshown : Dev.RdKept [Reg.BK_BK_I b, Reg.BK_BK_I_MAX b] d (d.wr (Reg.BK_BK_I b) (bankWord bankMA sumMA)) :=
    (Dev.RdKept.refl _ d).wr (List.mem_cons_self ..) _
  exact (hshown.trans hpeak).struct (Dev.modBank_beside _ _ _).2.2

theorem Dev.currentsShown_ch (d : Dev) (b bankMA sumMA : Nat) : (d.currentsShown b bankMA sumMA).drv.ch = d.drv.ch :=
  (Dev.modBank_beside _ _ _).1.trans (congrArg Drive.ch (d.currentsWritten_drv b bankMA sumMA))

theorem Dev.currentsShown_vbat (d : Dev) (b bankMA sumMA : Nat) : (d.currentsShown b bankMA sumMA).drv.vbatLow = d.drv.vbatLow :=
  (Dev.modBank_beside _ _ _).2.1.trans (congrArg Drive.vbatLow (d.currentsWritten_drv b bankMA sumMA))

theorem Dev.currentsShown_fault (d : Dev) (b bankMA sumMA : Nat) : ((d.currentsShown b bankMA sumMA).bank b).fault = (d.bank b).fault := by
  rw [Dev.currentsShown_eq, Dev.bank_modBank_same]
  have hbank := congrArg Bank.fault (Dev.bank_of_bank (congrArg Drive.bank (d.currentsWritten_drv b bankMA sumMA)) b)
  exact hbank

theorem Dev.currentsShown_value (d : Dev) (b bankMA sumMA : Nat) :
    (d.currentsShown b bankMA sumMA).rdN (Reg.BK_BK_I b) = min sumMA 65535 * 2 ^ 16 + min bankMA 65535 := by
  have hne : Reg.BK_BK_I b ∉ [Reg.BK_BK_I_MAX b] := by
    simp only [Reg.BK_BK_I, Reg.BK_BK_I_MAX, List.mem_singleton]
    omega
  have hrd : (d.currentsShown b bankMA sumMA).rd (Reg.BK_BK_I b) = bankWord bankMA sumMA :=
    (Dev.peak_rdKept _ _ bankMA _ hne).trans (Dev.rd_wr_same _ _ _)
  exact (congrArg BitVec.toNat hrd).trans (bankWord_toNat bankMA sumMA)

/-- The words of a bank that are neither FAULT, IRQ_RAW nor STATUS, nor the count of suppressed events. -/
theorem bankI_apart (b : Nat) : Reg.BK_BK_I b ≠ Reg.REC_SUPP_TOTAL ∧ ∀ p, Reg.BK_BK_I b ≠ Reg.STATUS p ∧ Reg.BK_BK_I b ≠ Reg.FAULT p ∧ Reg.BK_BK_I b ≠ Reg.IRQ_RAW p := by
  simp only [Reg.BK_BK_I, Reg.REC_SUPP_TOTAL, Reg.STATUS, Reg.FAULT, Reg.IRQ_RAW]
  exact ⟨by omega, fun p => by omega⟩

/-- The word that enables the test. -/
theorem driftEn_apart (b : Nat) : Reg.FAULT_EN (pBK b) ∉ [Reg.BK_BK_I b, Reg.BK_BK_I_MAX b] := by
  simp only [Reg.FAULT_EN, pBK, Reg.BK_BK_I, Reg.BK_BK_I_MAX, List.mem_cons, List.not_mem_nil, or_false]
  omega

theorem exec_senseDrift (b : Fin 64) (bankMA sumMA : Nat) (s : State) : exec (.senseDrift b bankMA sumMA) s
    = .next (onDev (fun d => if s.dev.driftTol b sumMA < ((bankMA : Int) - sumMA).natAbs ∧ (s.dev.currentsShown b bankMA sumMA).drv.vbatLow = false
        ∧ (s.dev.currentsShown b bankMA sumMA).bit (Reg.FAULT_EN (pBK b)) 25 = true ∧ ((s.dev.currentsShown b bankMA sumMA).bank b).fault = false
      then ((d.currentsShown b bankMA sumMA).faultRec (pBK b) 25).bankFault b else d.currentsShown b bankMA sumMA) s) := rfl

theorem senseDrift_faults {b : Fin 64} {bankMA sumMA : Nat} {s : State} (hdiff : s.dev.driftTol b sumMA < ((bankMA : Int) - sumMA).natAbs)
    (hvbat : s.dev.drv.vbatLow = false) (hen : s.dev.bit (Reg.FAULT_EN (pBK b)) 25 = true) (hbank : (s.dev.bank b).fault = false) :
    exec (.senseDrift b bankMA sumMA) s = .next (onDev (fun d => ((d.currentsShown b bankMA sumMA).faultRec (pBK b) 25).bankFault b) s) := by
  rw [exec_senseDrift]
  refine congrArg Host.Outcome.next (onDev_congr (g := fun d => ((d.currentsShown b bankMA sumMA).faultRec (pBK b) 25).bankFault b) (if_pos ⟨hdiff,
    (s.dev.currentsShown_vbat b bankMA sumMA).trans hvbat, ?_, ?_⟩))
  · exact ((s.dev.currentsShown_rdKept b bankMA sumMA).bit (driftEn_apart b) 25).trans hen
  · exact (s.dev.currentsShown_fault b bankMA sumMA).trans hbank

theorem senseDrift_shows {b : Fin 64} {bankMA sumMA : Nat} {s : State} (hdiff : ((bankMA : Int) - sumMA).natAbs ≤ s.dev.driftTol b sumMA) :
    exec (.senseDrift b bankMA sumMA) s = .next (onDev (·.currentsShown b bankMA sumMA) s) := by
  rw [exec_senseDrift]
  exact congrArg Host.Outcome.next (onDev_congr (g := (·.currentsShown b bankMA sumMA)) (if_neg fun h => absurd h.1 (by omega)))

/-- The temperatures of a tile shown. -/
def Dev.tempsShown (d : Dev) (t : Nat) (tempA tempB : Int) : Dev := (d.wrI (Reg.DT_TEMP_A t) tempA).wrI (Reg.DT_TEMP_B t) tempB

theorem Dev.tempsShown_rdKept (d : Dev) (t : Nat) (tempA tempB : Int) : Dev.RdKept [Reg.DT_TEMP_A t, Reg.DT_TEMP_B t] d (d.tempsShown t tempA tempB) :=
  ((Dev.RdKept.refl _ d).wr (by simp) _).wr (by simp) _

theorem Dev.tempsShown_values (d : Dev) (t : Nat) (tempA tempB : Int) : (d.tempsShown t tempA tempB).rd (Reg.DT_TEMP_A t) = w32i tempA
    ∧ (d.tempsShown t tempA tempB).rd (Reg.DT_TEMP_B t) = w32i tempB := by
  have hne : Reg.DT_TEMP_A t ≠ Reg.DT_TEMP_B t := by simp only [Reg.DT_TEMP_A, Reg.DT_TEMP_B]; omega
  exact ⟨(Dev.rd_wr_ne _ _ hne).trans (Dev.rd_wr_same _ _ _), Dev.rd_wr_same _ _ _⟩

theorem temps_apart (t : Nat) : ∀ a ∈ [Reg.DT_TEMP_A t, Reg.DT_TEMP_B t], a ≠ Reg.REC_SUPP_TOTAL
    ∧ ∀ p, a ≠ Reg.STATUS p ∧ a ≠ Reg.FAULT p ∧ a ≠ Reg.IRQ_RAW p := by
  intro a ha
  simp only [Reg.DT_TEMP_A, Reg.DT_TEMP_B, List.mem_cons, List.not_mem_nil, or_false] at ha
  simp only [Reg.REC_SUPP_TOTAL, Reg.STATUS, Reg.FAULT, Reg.IRQ_RAW]
  exact ⟨by omega, fun p => by omega⟩

/-- The words that the difference of the temperatures is judged by. -/
theorem tempDiff_apart (t : Nat) : ∀ a ∈ [Reg.DT_TEMP_DIFF t, Reg.FAULT_EN (pDT t)], a ∉ [Reg.DT_TEMP_A t, Reg.DT_TEMP_B t] := by
  intro a ha
  simp only [Reg.DT_TEMP_DIFF, Reg.FAULT_EN, pDT, Reg.DT_TEMP_A, Reg.DT_TEMP_B, List.mem_cons, List.not_mem_nil, or_false] at ha ⊢
  omega

theorem exec_tempPair (k : Fin 8) (tempA tempB : Int) (s : State) : exec (.tempPair k tempA tempB) s
    = .next (onDev (fun d => if (s.dev.tempsShown k tempA tempB).rdN (Reg.DT_TEMP_DIFF k) < (tempA - tempB).natAbs
        ∧ (s.dev.tempsShown k tempA tempB).bit (Reg.FAULT_EN (pDT k)) 16 = true ∧ (s.dev.tile k).fault = false
      then ((d.tempsShown k tempA tempB).faultRec (pDT k) 16).tileFault k else d.tempsShown k tempA tempB) s) := rfl

theorem Dev.tempsShown_diff (d : Dev) (t : Nat) (tempA tempB : Int) : (d.tempsShown t tempA tempB).rdN (Reg.DT_TEMP_DIFF t) = d.rdN (Reg.DT_TEMP_DIFF t) :=
  congrArg BitVec.toNat (d.tempsShown_rdKept t tempA tempB _ (tempDiff_apart t _ (by simp)))

theorem tempPair_faults {k : Fin 8} {tempA tempB : Int} {s : State} (hdiff : s.dev.rdN (Reg.DT_TEMP_DIFF k) < (tempA - tempB).natAbs)
    (hen : s.dev.bit (Reg.FAULT_EN (pDT k)) 16 = true) (htile : (s.dev.tile k).fault = false) :
    exec (.tempPair k tempA tempB) s = .next (onDev (fun d => ((d.tempsShown k tempA tempB).faultRec (pDT k) 16).tileFault k) s) := by
  rw [exec_tempPair, Dev.tempsShown_diff]
  refine congrArg Host.Outcome.next (onDev_congr (g := fun d => ((d.tempsShown k tempA tempB).faultRec (pDT k) 16).tileFault k) (if_pos ⟨hdiff, ?_, htile⟩))
  exact ((s.dev.tempsShown_rdKept k tempA tempB).bit (tempDiff_apart k _ (by simp)) 16).trans hen

theorem tempPair_shows {k : Fin 8} {tempA tempB : Int} {s : State} (hdiff : (tempA - tempB).natAbs ≤ s.dev.rdN (Reg.DT_TEMP_DIFF k)) :
    exec (.tempPair k tempA tempB) s = .next (onDev (·.tempsShown k tempA tempB) s) := by
  rw [exec_tempPair, Dev.tempsShown_diff]
  exact congrArg Host.Outcome.next (onDev_congr (g := (·.tempsShown k tempA tempB)) (if_neg fun h => absurd h.1 (by omega)))

/-- A bank's difference and a tile's, noted. -/
def Dev.driftNoted (d : Dev) (b bankMA sumMA : Nat) : Dev := (d.currentsShown b bankMA sumMA).faultRec (pBK b) 25
def Dev.tempsNoted (d : Dev) (t : Nat) (tempA tempB : Int) : Dev := (d.tempsShown t tempA tempB).faultRec (pDT t) 16

theorem Dev.driftNoted_spec (d : Dev) (b bankMA sumMA : Nat) : (d.driftNoted b bankMA sumMA).drv.ch = d.drv.ch
    ∧ (d.driftNoted b bankMA sumMA).bit (Reg.FAULT (pBK b)) 25 = true
    ∧ (d.driftNoted b bankMA sumMA).rdN (Reg.BK_BK_I b) = min sumMA 65535 * 2 ^ 16 + min bankMA 65535 := by
  obtain ⟨hsupp, hown⟩ := bankI_apart b
  refine ⟨(Dev.faultRec_ch _ _ _ _ _ _).trans (d.currentsShown_ch b bankMA sumMA), Dev.bit_faultRec _ _ (by decide), ?_⟩
  exact (congrArg BitVec.toNat (Dev.rd_faultRec_ne _ _ _ (hown _).2.1 (hown _).2.2 hsupp)).trans (d.currentsShown_value b bankMA sumMA)

theorem Dev.tempsNoted_spec (d : Dev) (t : Nat) (tempA tempB : Int) : (d.tempsNoted t tempA tempB).drv.ch = d.drv.ch
    ∧ (d.tempsNoted t tempA tempB).rd (Reg.DT_TEMP_A t) = w32i tempA ∧ (d.tempsNoted t tempA tempB).rd (Reg.DT_TEMP_B t) = w32i tempB := by
  have hrd : ∀ a ∈ [Reg.DT_TEMP_A t, Reg.DT_TEMP_B t], (d.tempsNoted t tempA tempB).rd a = (d.tempsShown t tempA tempB).rd a := by
    intro a ha
    obtain ⟨hsupp, hown⟩ := temps_apart t a ha
    exact Dev.rd_faultRec_ne _ _ _ (hown _).2.1 (hown _).2.2 hsupp
  obtain ⟨hA, hB⟩ := d.tempsShown_values t tempA tempB
  exact ⟨Dev.faultRec_ch _ _ _ _ _ _, (hrd _ (by simp)).trans hA, (hrd _ (by simp)).trans hB⟩

/-- Settles O44. -/
theorem driveDiagnostics : Obligations.DriveDiagnostics := by
  intro c b k milliA bankMA sumMA tempA tempB s
  refine ⟨fun hdriven hmA => ⟨fun hdiag => ?_, fun hdiag => ?_⟩, fun hphase hdiag => ?_, fun hdriven hvbat hmA hdiag => ?_,
    fun hphase hoff hmode hvbat hdiag => ?_, fun hphase hen => ?_, fun hoff hmA hen hbank => ?_, fun hdiff hvbat hen hbank => ?_, fun hdiff => ?_,
    fun hdiff hen htile => ?_, fun hdiff => ?_⟩
  · obtain ⟨h1, h2, h3, h4, h5⟩ := Dev.chanFault_held_after (d := s.dev) (e := s.dev) (c := c) (f := Chan.shorted s.dev.tick) (fun _ => rfl) (fun _ => rfl)
      (Dev.driven_not_fault hdriven) cSHORT
    refine ⟨_, (exec_loadShort hdriven hmA).trans (congrArg Host.Outcome.next (onDev_congr
      (g := fun d => (d.modChan c (Chan.shorted d.tick)).chanFault c cSHORT) (if_pos hdiag))), h1, h2, h3, h4, h5, rfl, rfl⟩
  · exact ⟨_, (exec_loadShort hdriven hmA).trans (congrArg Host.Outcome.next (onDev_congr
      (g := fun d => d.modChan c (Chan.shorted d.tick)) (if_neg (by simp [hdiag])))), rfl, Dev.chan_modChan_same _ _ _, rfl, rfl⟩
  · have hne : (s.dev.chan c).phase ≠ phFAULT := by rcases hphase with h | h | h <;> rw [h] <;> decide
    obtain ⟨h1, h2, h3, h4, h5⟩ := Dev.chanFault_held_after (d := s.dev) (e := s.dev) (c := c) (f := Chan.flagged 1) (fun _ => rfl) (fun _ => rfl)
      hne cFREEWHEEL
    exact ⟨_, exec_freewheelMissing hphase hdiag, h1, h2, h3, h4, h5, rfl, rfl⟩
  · obtain ⟨h1, h2, h3, h4, h5⟩ := Dev.chanFault_held_after (d := s.dev) (e := s.dev.onTested c) (c := c) (f := Chan.flagged 2) (fun _ => rfl)
      (fun _ => rfl) (Dev.driven_not_fault hdriven) cOPENON
    exact ⟨_, exec_openLoadOn hdriven hvbat hmA hdiag, h1, h2, h3, h4, h5, rfl, rfl⟩
  · obtain ⟨h1, h2, h3, h4, h5⟩ := Dev.chanFault_held_after (d := s.dev) (e := s.dev.offTested c) (c := c) (f := Chan.flagged 2) (fun _ => rfl)
      (fun _ => rfl) (by rw [hphase]; decide) cOPENOFF
    exact ⟨_, exec_openLoadOff hphase hoff hmode hvbat hdiag, h1, h2, h3, h4, h5, rfl, rfl⟩
  · have hch (j : Nat) : (s.dev.queueFaulted c).chan j = s.dev.chan j := Dev.chan_of_ch (congrArg Drive.ch (s.dev.queueFaulted_drv c)) j
    obtain ⟨h1, h2, h3, h4, h5⟩ := Dev.chanFault_held (d := s.dev) (e := s.dev.queueFaulted c) (c := c) (by rw [hch]; exact hphase)
      (fun j _ => hch j) cQUEUE
    exact ⟨_, exec_queueEccError hen, ⟨h1, h2, h3, h4, h5, rfl, rfl⟩, Dev.chanFault_tileBit (Dev.bit_faultRec s.dev _ (by decide)) cQUEUE⟩
  · have hheld := (s.dev.stuckNoted c).bankFault_held (c / 8)
    obtain ⟨hch, hbit⟩ := s.dev.stuckNoted_spec c
    have hexec : exec (.stuckOn c milliA) s = .next { s with dev := (s.dev.stuckNoted c).bankFault (c / 8) } := exec_stuckOn hoff hmA hen hbank
    generalize (s.dev.stuckNoted c).bankFault (c / 8) = e at hexec hheld
    exact ⟨_, hexec, ⟨hheld.fault, hheld.stat, hheld.chans, hheld.before hch, rfl, rfl⟩, hheld.bits _ _ (by decide) hbit⟩
  · have hheld := (s.dev.driftNoted b bankMA sumMA).bankFault_held b
    obtain ⟨hch, hbit, hvalue⟩ := s.dev.driftNoted_spec b bankMA sumMA
    have hexec : exec (.senseDrift b bankMA sumMA) s = .next { s with dev := (s.dev.driftNoted b bankMA sumMA).bankFault b } :=
      senseDrift_faults hdiff hvbat hen hbank
    generalize (s.dev.driftNoted b bankMA sumMA).bankFault b = e at hexec hheld
    obtain ⟨-, hown⟩ := bankI_apart b
    have hrd := hheld.rd (Reg.BK_BK_I b) (hown _).1 (fun p => (hown _).2.1) fun p => (hown _).2.2
    exact ⟨_, hexec, ⟨hheld.fault, hheld.stat, hheld.chans, hheld.before hch, rfl, rfl⟩, hheld.bits _ _ (by decide) hbit,
      (congrArg BitVec.toNat hrd).trans hvalue⟩
  · exact ⟨_, senseDrift_shows hdiff, s.dev.currentsShown_ch b bankMA sumMA, s.dev.currentsShown_value b bankMA sumMA,
      s.dev.currentsShown_rdKept b bankMA sumMA, rfl, rfl⟩
  · have hheld := (s.dev.tempsNoted k tempA tempB).tileFault_held k
    obtain ⟨hch, hA, hB⟩ := s.dev.tempsNoted_spec k tempA tempB
    have hexec : exec (.tempPair k tempA tempB) s = .next { s with dev := (s.dev.tempsNoted k tempA tempB).tileFault k } := tempPair_faults hdiff hen htile
    generalize (s.dev.tempsNoted k tempA tempB).tileFault k = e at hexec hheld
    have hrd : ∀ a ∈ [Reg.DT_TEMP_A k, Reg.DT_TEMP_B k], e.rd a = (s.dev.tempsNoted k tempA tempB).rd a := by
      intro a ha
      obtain ⟨-, hown⟩ := temps_apart k a ha
      exact hheld.rd a (hown _).1 (fun p => (hown _).2.1) fun p => (hown _).2.2
    exact ⟨_, hexec, hheld.fault, hheld.stat, hheld.chans, hheld.before hch, (hrd _ (by simp)).trans hA, (hrd _ (by simp)).trans hB, rfl, rfl⟩
  · obtain ⟨hA, hB⟩ := s.dev.tempsShown_values k tempA tempB
    exact ⟨_, tempPair_shows hdiff, rfl, hA, hB, s.dev.tempsShown_rdKept k tempA tempB, rfl, rfl⟩

end Sys2Proof.Machine
end

section
/-! PROOFS. The power ladder: the entry, its steps down, the wake sources and the exit (R449 to R456). -/
namespace Sys2Proof.Machine

/-! PWR_CMD (R450) -/

/-- The entry asked for, from the next turn on. -/
def Dev.entryAsked (d : Dev) : Dev := { d with pow := { d.pow with target := some (d.fld Reg.PWR_PWR_TARGET 2 0) } }

/-- An entry refused with its code. -/
def Dev.entryRefused (d : Dev) (c : Nat) : Dev := ((d.lenReject pPWR).wrN Reg.PWR_PWR_REFUSE c).faultRec pPWR 16

theorem actPwrCmd_taken {s : State} (h : s.entryCode = 0) : actPwrCmd s = (.ok, onDev Dev.entryAsked s) := if_pos h

theorem actPwrCmd_refused {s : State} (h : s.entryCode ≠ 0) : actPwrCmd s = (.len, onDev (·.entryRefused s.entryCode) s) := if_neg h

theorem State.entryCode_woken (s : State) (k : Nat) : (s.woken k).entryCode = s.entryCode := rfl

theorem State.entryCode_lt (s : State) : s.entryCode < 7 := by
  unfold State.entryCode
  extract_lets d t
  split_ifs <;> decide

theorem powerEntry_taken {req : Requester} {u : State} (h : Accepts req Reg.PWR_PWR_CMD 1#32 u) (hcode : u.entryCode = 0) :
    hostCmd req Reg.PWR_PWR_CMD 1#32 actPwrCmd u = acceptedWrite req Reg.PWR_PWR_CMD Dev.entryAsked u := by
  obtain ⟨k, hk⟩ := h.woken
  have hact : actPwrCmd (u.woken k) = (.ok, onDev Dev.entryAsked (u.woken k)) := actPwrCmd_taken ((u.entryCode_woken k).trans hcode)
  rw [hostCmd_accepted h, acceptedWrite, hk, hact]
  rfl

/-- The words of a refused entry. -/
def entryWords : List Nat :=
  [Reg.PWR_PWR_REFUSE, Reg.FAULT pPWR, Reg.IRQ_RAW pPWR, Reg.LEN_REJ pPWR, Reg.HOST_LAST_ERR, Reg.HOST_LAST_ERR_ADDR, Reg.REC_SUPP_TOTAL]

theorem Dev.lenReject_rdKept {l : List Nat} {p : Nat} (hl : Reg.LEN_REJ p ∈ l) (hf : Reg.FAULT p ∈ l) (hi : Reg.IRQ_RAW p ∈ l) (d : Dev) :
    Dev.RdKept l d (d.lenReject p) := ((Dev.RdKept.refl l d).wr hl _).fault hf hi _

theorem Dev.entryRefused_rdKept (d : Dev) (c : Nat) : Dev.RdKept entryWords d (d.entryRefused c) :=
  ((Dev.lenReject_rdKept (by decide) (by decide) (by decide) d).wr (by decide) _).faultRec (by decide) (by decide) (by decide) _ _ _ _

theorem Dev.entryRefused_shows (d : Dev) {c : Nat} (hc : c < 7) : (d.entryRefused c).rdN Reg.PWR_PWR_REFUSE = c
    ∧ (d.entryRefused c).bit (Reg.FAULT pPWR) 16 = true ∧ (d.entryRefused c).pow = d.pow := by
  refine ⟨?_, Dev.bit_faultRec _ pPWR (by decide), ?_⟩
  · refine (congrArg BitVec.toNat ((Dev.rd_faultRec_ne _ pPWR 16 (by decide) (by decide) (by decide)).trans (Dev.rd_wr_same _ _ _))).trans ?_
    exact (BitVec.toNat_ofNat _ _).trans (Nat.mod_eq_of_lt (by omega))
  · have hsame : Dev.SameBut (fun d => { d with rcf := {} }) d (d.entryRefused c) :=
      ((((Dev.SameBut.refl _ d).wr _ _).fault _ _).wr _ _).faultRec (fun _ _ => rfl) _ _ _ _ _
    exact hsame.proj (·.pow) fun _ => rfl

theorem powerEntry_refused {req : Requester} {u : State} (h : Accepts req Reg.PWR_PWR_CMD 1#32 u) (hcode : u.entryCode ≠ 0) :
    ∃ t, hostCmd req Reg.PWR_PWR_CMD 1#32 actPwrCmd u = t ∧ answerTo req t = ⟨.len, 0, []⟩ ∧ t.dev.rdN Reg.PWR_PWR_REFUSE = u.entryCode
      ∧ t.dev.bit (Reg.FAULT pPWR) 16 = true ∧ t.dev.pow.target = u.dev.pow.target ∧ t.ldg = u.ldg ∧ t.rcd = u.rcd ∧ regsKept entryWords u t := by
  obtain ⟨k, hk⟩ := h.woken
  have hact : actPwrCmd (u.woken k) = (.len, onDev (·.entryRefused u.entryCode) (u.woken k)) := actPwrCmd_refused hcode
  let v := onDev (·.entryRefused u.entryCode) (u.woken k)
  have hcmd : hostCmd req Reg.PWR_PWR_CMD 1#32 actPwrCmd u = onDev (·.respond req Reg.PWR_PWR_CMD .len 0 []) v := by
    rw [hostCmd_accepted h, hk, hact]
    rfl
  obtain ⟨hshow, hfault, hpow⟩ := (u.woken k).dev.entryRefused_shows u.entryCode_lt
  have hrd (a : Nat) (h1 : a ≠ Reg.HOST_LAST_ERR) (h2 : a ≠ Reg.HOST_LAST_ERR_ADDR) :
      (onDev (·.respond req Reg.PWR_PWR_CMD .len 0 []) v).dev.rd a = ((u.woken k).dev.entryRefused u.entryCode).rd a :=
    Dev.rd_respond_ne _ _ _ _ _ _ h1 h2
  refine ⟨_, hcmd, answerTo_respond v req Reg.PWR_PWR_CMD .len 0 [], (congrArg BitVec.toNat (hrd _ (by decide) (by decide))).trans hshow,
    (congrArg (bitOf · 16) (hrd _ (by decide) (by decide))).trans hfault, ?_, rfl, rfl, fun a ha => ?_⟩
  · exact (congrArg Power.target ((Dev.respond_pow v.dev req Reg.PWR_PWR_CMD .len 0 []).trans hpow)).trans rfl
  · have hne : a ≠ Reg.HOST_LAST_ERR ∧ a ≠ Reg.HOST_LAST_ERR_ADDR := by
      simp only [entryWords, List.mem_cons, List.not_mem_nil, or_false, not_or] at ha
      obtain ⟨-, -, -, -, herr, haddr, -⟩ := ha
      exact ⟨herr, haddr⟩
    exact (hrd a hne.1 hne.2).trans ((u.woken k).dev.entryRefused_rdKept u.entryCode a ha)

/-! WAKE_EVENT (R452) -/

/-- The lines of the wake sources after one of them changes. -/
def wakeLines (lines b : Nat) (active : Bool) : Nat := if active then lines ||| 2 ^ b else (if lines.testBit b then lines - 2 ^ b else lines)

theorem wakeLines_same (lines b : Nat) (active : Bool) : (wakeLines lines b active).testBit b = active := by
  unfold wakeLines
  cases active with
  | true => simp [Nat.testBit_or, Nat.testBit_two_pow_self]
  | false =>
    by_cases h : lines.testBit b = true
    · have hodd : lines / 2 ^ b % 2 = 1 := by simpa [Nat.testBit_eq_decide_div_mod_eq] using h
      have hdiv : (lines - 2 ^ b) / 2 ^ b = lines / 2 ^ b - 1 := by simpa using Nat.sub_mul_div lines (2 ^ b) 1
      simp only [h, Bool.false_eq_true, if_false, if_true, Nat.testBit_eq_decide_div_mod_eq, hdiv, decide_eq_false_iff_not]
      omega
    · simp [h]

/-- A wake source's line and the supply as they are now. -/
def Dev.lineSeen (d : Dev) (src : WakeSource) : Dev :=
  { d with pow := { d.pow with lines := wakeLines d.pow.lines src.bit src.active, supplyBad := !src.vlogicOk } }

/-- The clock at the instant that the RTC names, where the RTC wakes. -/
def Dev.wakeDue (d : Dev) (src : WakeSource) : Dev := if src.bit.val = 6 ∧ src.active = true then d.toWakeAt else d

theorem exec_wakeEvent (src : WakeSource) (s : State) : exec (.wakeEvent src) s
    = .next (onDev (fun d => if src.active then ((d.wakeDue src).lineSeen src).wakeBy src.bit else (d.wakeDue src).lineSeen src) s) := rfl

theorem Dev.wakeDue_tm (d : Dev) (src : WakeSource) : ∃ m, d.wakeDue src = { d with tm := m } := by
  unfold Dev.wakeDue Dev.toWakeAt
  extract_lets t
  split
  · split
    · exact ⟨d.tm, rfl⟩
    · exact ⟨_, rfl⟩
  · exact ⟨d.tm, rfl⟩

theorem Dev.wakeBy_taken {d : Dev} {b : Nat} (hen : d.bit Reg.PWR_WAKE_EN b = true) (hacc : wakeAccepts d.powerState b = true) :
    d.wakeBy b = { d with pow := { d.pow with wake := d.pow.wake ||| 2 ^ b } } := if_pos (by rw [hen, hacc]; rfl)

theorem Dev.wakeBy_left {d : Dev} {b : Nat} (h : d.bit Reg.PWR_WAKE_EN b = false ∨ wakeAccepts d.powerState b = false) : d.wakeBy b = d := by
  refine if_neg ?_
  rcases h with h | h <;> simp [h]

/-- What a wake source leaves: registers, and everything but the power state and the time bases. -/
theorem wakeEvent_sees (src : WakeSource) (s : State) : ∃ t, exec (.wakeEvent src) s = .next t ∧ t.dev.pow.lines.testBit src.bit = src.active
    ∧ t.dev.pow.supplyBad = !src.vlogicOk
    ∧ (src.active = true → s.dev.bit Reg.PWR_WAKE_EN src.bit = true → wakeAccepts s.dev.powerState src.bit = true →
        t.dev.pow.wake = s.dev.pow.wake ||| 2 ^ src.bit.val)
    ∧ (src.active = false ∨ s.dev.bit Reg.PWR_WAKE_EN src.bit = false ∨ wakeAccepts s.dev.powerState src.bit = false →
        t.dev.pow.wake = s.dev.pow.wake)
    ∧ t.dev.regs = s.dev.regs ∧ differOnly (fun d => { d with pow := {}, tm := {} }) s t := by
  obtain ⟨m, hm⟩ := s.dev.wakeDue_tm src
  have hlines := wakeLines_same s.dev.pow.lines src.bit src.active
  cases hact : src.active with
  | false =>
    have hexec : exec (.wakeEvent src) s = .next { s with dev := ({ s.dev with tm := m } : Dev).lineSeen src } := by
      rw [exec_wakeEvent]
      refine congrArg Host.Outcome.next (onDev_congr (g := fun d => ({ d with tm := m } : Dev).lineSeen src) ?_)
      rw [hact, hm]
      rfl
    exact ⟨_, hexec, hlines.trans hact, rfl, nofun, fun _ => rfl, rfl, rfl, rfl, rfl, rfl⟩
  | true =>
    have hexec : exec (.wakeEvent src) s = .next { s with dev := (({ s.dev with tm := m } : Dev).lineSeen src).wakeBy src.bit } := by
      rw [exec_wakeEvent]
      refine congrArg Host.Outcome.next (onDev_congr (g := fun d => (({ d with tm := m } : Dev).lineSeen src).wakeBy src.bit) ?_)
      rw [hact, hm]
      rfl
    by_cases hgoes : s.dev.bit Reg.PWR_WAKE_EN src.bit = true ∧ wakeAccepts s.dev.powerState src.bit = true
    · obtain ⟨hen, hacc⟩ := hgoes
      rw [Dev.wakeBy_taken (d := ({ s.dev with tm := m } : Dev).lineSeen src) hen hacc] at hexec
      refine ⟨_, hexec, hlines.trans hact, rfl, fun _ _ _ => rfl, fun h => ?_, rfl, rfl, rfl, rfl, rfl⟩
      simp [hen, hacc] at h
    · have hleft : s.dev.bit Reg.PWR_WAKE_EN src.bit = false ∨ wakeAccepts s.dev.powerState src.bit = false := by
        simpa [imp_iff_not_or] using hgoes
      rw [Dev.wakeBy_left (d := ({ s.dev with tm := m } : Dev).lineSeen src) hleft] at hexec
      exact ⟨_, hexec, hlines.trans hact, rfl, fun _ hen hacc => absurd ⟨hen, hacc⟩ hgoes, fun _ => rfl, rfl, rfl, rfl, rfl, rfl⟩

end Sys2Proof.Machine
end

section
/-! PROOFS. The power ladder's way down: what the intake of all events and each state's entry leave (R426, R449, R451). -/
namespace Sys2Proof.Machine

/-! The intake of every event that waits -/

/-- The words of an intake. -/
def intakeWords : List Nat := [Reg.REC_SUPP_TOTAL, Reg.REC_BUF_LOST, Reg.FAULT pREC, Reg.IRQ_RAW pREC]

/-- What an intake leaves of a state. -/
structure State.IntakeKept (s t : State) : Prop where
  words : Dev.RdKept intakeWords s.dev t.dev
  same : Dev.SameBut (fun d => { d with tm := {}, rcf := {} }) s.dev t.dev
  ldg : t.ldg = s.ldg

theorem State.IntakeKept.refl (s : State) : State.IntakeKept s s := ⟨Dev.RdKept.refl _ _, Dev.SameBut.refl _ _, rfl⟩

theorem State.IntakeKept.trans {s t u : State} (h : State.IntakeKept s t) (h' : State.IntakeKept t u) : State.IntakeKept s u :=
  ⟨h.words.trans h'.words, h.same.trans h'.same, h'.ldg.trans h.ldg⟩

/-- The part in which an event is taken. -/
def Dev.eventTaken (d : Dev) (rest : List Event) : Dev :=
  { d.advance 1 with rcf := { d.rcf with intake := rest, hold := d.rcf.hold.map (· - 1) } }

theorem Dev.takeToken_dev (d : Dev) (code : Nat) : ∃ f, (d.takeToken code).2 = { d with rcf := f } := by
  unfold Dev.takeToken
  split
  · exact ⟨d.rcf, rfl⟩
  · extract_lets b
    split <;> exact ⟨_, rfl⟩

theorem Dev.noteLost_kept (d : Dev) (lo hi n : Nat) : Dev.RdKept intakeWords d (d.noteLost lo hi n)
    ∧ Dev.SameBut (fun d => { d with tm := {}, rcf := {} }) d (d.noteLost lo hi n) := by
  unfold Dev.noteLost
  extract_lets e
  have he : Dev.RdKept intakeWords d e := (((Dev.RdKept.refl _ d).wr (by decide) _).fault (by decide) (by decide) _).irq (by decide) _
  have hs : Dev.SameBut (fun d => { d with tm := {}, rcf := {} }) d e := (((Dev.SameBut.refl _ d).wr _ _).fault _ _).irq _ _
  have hreport : Dev.RdKept intakeWords d (Dev.noteLost.report lo hi e) ∧ Dev.SameBut (fun d => { d with tm := {}, rcf := {} }) d (Dev.noteLost.report lo hi e) := by
    unfold Dev.noteLost.report
    extract_lets _ f
    have hf : Dev.RdKept intakeWords d f := he.struct rfl
    have hfs : Dev.SameBut (fun d => { d with tm := {}, rcf := {} }) d f := hs
    exact ⟨hf.emit (by decide) _, hfs.emit (fun _ _ => rfl) _⟩
  split
  · split
    · exact ⟨he, hs⟩
    · exact hreport
  · exact hreport

theorem State.putRecord_kept (s : State) (r : Record) : State.IntakeKept s (s.putRecord r) := by
  unfold State.putRecord
  extract_lets t
  split
  · exact ⟨Dev.RdKept.refl _ _, Dev.SameBut.refl _ _, rfl⟩
  · extract_lets lo hi
    obtain ⟨hw, hs⟩ := s.dev.noteLost_kept lo hi t.2.length
    exact ⟨hw, hs, rfl⟩

/-- The state after the first event was taken. -/
def State.takeEvent (s : State) (e : Event) (rest : List Event) : State :=
  let t := (s.dev.eventTaken rest).takeToken e.codeOf
  if t.1 then { s with dev := t.2 }.putRecord (t.2.stamp e.codeOf e s.rcd.nextSeq) else { s with dev := t.2.suppress e.codeOf }

theorem State.intakeOne_cases (s : State) : s.intakeOne = s ∨ ∃ e rest, s.intakeOne = s.takeEvent e rest := by
  unfold State.intakeOne execRecordIntake
  cases s.dev.rcf.intake with
  | nil => exact .inl rfl
  | cons e rest =>
    by_cases hfree : (!s.dev.intakeFree) = true
    · exact .inl (if_pos hfree)
    · exact .inr ⟨e, rest, if_neg hfree⟩

theorem State.takeEvent_kept (s : State) (e : Event) (rest : List Event) : State.IntakeKept s (s.takeEvent e rest) := by
  unfold State.takeEvent
  extract_lets t
  obtain ⟨f, hf⟩ : ∃ f, t.2 = { s.dev.eventTaken rest with rcf := f } := (s.dev.eventTaken rest).takeToken_dev e.codeOf
  have hwords : Dev.RdKept intakeWords s.dev t.2 := by
    have hregs := congrArg Dev.regs hf
    exact Dev.RdKept.ofRegs _ hregs
  have hsame : Dev.SameBut (fun d => { d with tm := {}, rcf := {} }) s.dev t.2 := by
    have hblank := congrArg (fun d : Dev => ({ d with tm := {}, rcf := {}, regs := [] } : Dev)) hf
    exact hblank
  generalize t.2 = u at *
  have htaken : State.IntakeKept s { s with dev := u } := ⟨hwords, hsame, rfl⟩
  split
  · exact htaken.trans (State.putRecord_kept _ _)
  · exact ⟨(hwords.struct rfl).wr (by decide) _, hsame, rfl⟩

theorem State.intakeOne_kept (s : State) : State.IntakeKept s s.intakeOne := by
  rcases s.intakeOne_cases with h | ⟨e, rest, h⟩ <;> rw [h]
  · exact State.IntakeKept.refl s
  · exact s.takeEvent_kept e rest

theorem State.intakeAll_kept (s : State) : State.IntakeKept s s.intakeAll :=
  foldl_related State.IntakeKept.refl State.IntakeKept.trans _ s fun _ _ t => t.intakeOne_kept

theorem State.drainAll_kept (s : State) : State.IntakeKept s s.drainAll := by
  have h := s.intakeAll_kept
  unfold State.drainAll
  extract_lets t
  split
  · exact h
  · exact ⟨h.words, h.same, h.ldg⟩

/-! A state reached (R451) -/

theorem Dev.reached_shows (d : Dev) (st : Nat) : (d.reached st).rd Reg.PWR_PWR_STATE = w32 (st * 16 + st) :=
  (Dev.rd_emit_ne _ _ (by decide)).trans (Dev.rd_wr_same _ _ _)

theorem Dev.reached_sameBut (d : Dev) (st : Nat) : Dev.SameBut (fun d => { d with rcf := {} }) d (d.reached st) :=
  ((Dev.SameBut.refl _ d).wr _ _).emit (fun _ _ => rfl) _

theorem Dev.reached_rdKept (d : Dev) (st : Nat) : Dev.RdKept [Reg.PWR_PWR_STATE, Reg.REC_SUPP_TOTAL] d (d.reached st) :=
  ((Dev.RdKept.refl _ d).wr (by decide) _).emit (by decide) _

/-- The words of the states below RUN. -/
theorem stateWord_shows : ∀ st < 6, field (w32 (st * 16 + st)) 2 0 = st ∧ field (w32 (st * 16 + st)) 6 4 = st := by decide

theorem Dev.reached_state {d : Dev} {st : Nat} (hst : st < 6) (h : d.rd Reg.PWR_PWR_STATE = w32 (st * 16 + st)) :
    d.powerState = st ∧ d.fld Reg.PWR_PWR_STATE 6 4 = st := by
  obtain ⟨hlow, hdeep⟩ := stateWord_shows st hst
  exact ⟨(congrArg (field · 2 0) h).trans hlow, (congrArg (field · 6 4) h).trans hdeep⟩

/-! SLACK -/

def Supervision.stopped (x : Supervision) : Supervision := { x with lost := none, applied := false, closes := false, kicked := false }

/-- The supervision ended, before SLACK is reached. -/
def Dev.slackened (d : Dev) : Dev :=
  let e := (((d.loopsStop).setStat pHOST 17 false).setStat pHOST 16 false).setStat pHOST 18 false
  { e with sup := e.sup.stopped }

theorem Dev.toSlack_eq (d : Dev) : d.toSlack = d.slackened.reached 1 := rfl

theorem Dev.toSlack_spec (d : Dev) : d.toSlack.rd Reg.PWR_PWR_STATE = w32 (1 * 16 + 1) ∧ d.toSlack.stat pHOST 17 = false ∧ d.toSlack.sup.lost = none := by
  rw [Dev.toSlack_eq]
  refine ⟨Dev.reached_shows _ 1, ?_, ?_⟩
  · refine ((Dev.reached_rdKept d.slackened 1).bit (by decide) 17).trans ?_
    refine (Dev.bit_setBit _ _ _ _ _ (by decide) (by decide)).trans ((Dev.bit_setBit _ _ _ _ _ (by decide) (by decide)).trans ?_)
    exact Dev.bit_setBit_same _ _ false (by decide)
  · exact (d.slackened.reached_sameBut 1).proj (·.sup.lost) fun _ => rfl

/-! EBB -/

/-- A flush, as far as the book and the waiting flush go. -/
theorem State.flushLedger_kept (s : State) (x : LedgerSlot) (ok : Bool) : (s.flushLedger x ok).ldg.book = s.ldg.book
    ∧ (s.flushLedger x ok).ldg.flushing = none ∧ (ok = true → (s.flushLedger x ok).rcd = s.rcd) := by
  cases ok with
  | true => exact ⟨rfl, rfl, fun _ => rfl⟩
  | false => exact ⟨rfl, rfl, nofun⟩

/-- Tracking ended. -/
def Dev.untracked (d : Dev) : Dev := ((List.range 64).filter d.tcActive).foldl (fun d c => d.setTc c tsIDLE) d

def TimeBases.silenced (m : TimeBases) : TimeBases := { m with ppsSince := none, adjU := 0 }

/-- The receiver and the time bases as EBB finds them. -/
def Dev.ebbed (d : Dev) (stays : Bool) : Dev :=
  let e := if stays then d.untracked.acqFlush.toHoldover else d.untracked.acqFlush
  { e with tm := e.tm.silenced }

theorem State.toEbb_eq (s : State) (stays : Bool) : s.toEbb stays
    = onDev (fun d => (((d.ebbed stays).withWall (·.setStat pTIME1 16 true)).reached 2).sysStops)
        (s.flushLedger (s.ldg.slot s.ldg.book false) (!s.dev.stat pREC 16)) := rfl

theorem State.toEbb_spec (s : State) (stays : Bool) : (s.toEbb stays).dev.rd Reg.PWR_PWR_STATE = w32 (2 * 16 + 2)
    ∧ (s.toEbb stays).dev.tm.ppsSince = none ∧ (s.toEbb stays).ldg.book = s.ldg.book ∧ (s.toEbb stays).ldg.flushing = none
    ∧ (s.dev.stat pREC 16 = false → (s.toEbb stays).rcd = s.rcd) := by
  rw [State.toEbb_eq]
  obtain ⟨hbook, hflush, hrcd⟩ := s.flushLedger_kept (s.ldg.slot s.ldg.book false) (!s.dev.stat pREC 16)
  generalize s.flushLedger (s.ldg.slot s.ldg.book false) (!s.dev.stat pREC 16) = t at *
  have hshow : ∀ e : Dev, ((e.reached 2).sysStops).rd Reg.PWR_PWR_STATE = w32 (2 * 16 + 2) := fun e => e.reached_shows 2
  have hpps : ∀ e : Dev, ((e.reached 2).sysStops).tm.ppsSince = e.tm.ppsSince := fun e => (e.reached_sameBut 2).proj (·.tm.ppsSince) fun _ => rfl
  refine ⟨hshow _, (hpps _).trans ?_, hbook, hflush, fun h => hrcd (by rw [h]; rfl)⟩
  exact (congrArg TimeBases.ppsSince (Dev.withWall_tm _ _)).trans rfl

/-! NEAP -/

/-- The burst table written and the window's tiles written back, and the window gone. -/
def Dev.tabled (d : Dev) : Dev :=
  let table := (((d.gps.dirs.map (fun p => p.1)).filter (fun prn => !d.lowSat prn)).take 8).map (fun prn => (prn, Config.burstPrediction prn d.tm.tbm))
  { d with gps := { d.gps with tblUntil := some (d.tm.tbm + d.rdN Reg.BURST_TBL_VALID_MAX * 1000000000), table := table } }

def Dev.unwindowed (d : Dev) : Dev := { d with map := { d.map with win := [], asks := [] } }

theorem Dev.toNeap_eq (d : Dev) : d.toNeap = d.tabled.writeAll.unwindowed.mapShow.reached 3 := rfl

theorem Dev.mapShow_sameBut (blank : Dev → Dev) (d : Dev) : Dev.SameBut blank d d.mapShow := by
  unfold Dev.mapShow
  extract_lets free e dirty
  exact ((((Dev.SameBut.refl blank d).wr _ _).wr _ _).wr _ _).setStat _ _ _

/-- A change of the map, its registers and the events. -/
def Dev.MapOnly (d e : Dev) : Prop := Dev.SameBut (fun d => { d with map := {}, rcf := {} }) d e

theorem Dev.MapOnly.refl (d : Dev) : Dev.MapOnly d d := Dev.SameBut.refl _ d
theorem Dev.MapOnly.trans {d e f : Dev} (h : Dev.MapOnly d e) (h' : Dev.MapOnly e f) : Dev.MapOnly d f := Dev.SameBut.trans h h'
theorem Dev.MapOnly.map {d e : Dev} (h : Dev.MapOnly d e) (m : MapEngine) : Dev.MapOnly d { e with map := m } := h
theorem Dev.MapOnly.show {d e : Dev} (h : Dev.MapOnly d e) : Dev.MapOnly d e.mapShow := h.trans (e.mapShow_sameBut _)

/-- What storing a tile makes of the map, with or without the fault of a map that is full. -/
theorem Dev.storeTile_cases (d : Dev) (t : StoredTile) : ∃ m, d.storeTile t = ({ d with map := m } : Dev).mapShow
    ∨ d.storeTile t = (({ d with map := m } : Dev).faultRec pMAP 17 (tileWords t.key)).mapShow := by
  unfold Dev.storeTile
  extract_lets rx size had full
  by_cases hfull : full = true
  · simp only [if_pos hfull]
    rename_i src e
    obtain ⟨m, hm⟩ : ∃ m, e = ({ d with map := m } : Dev) := by
      unfold e
      split
      · exact ⟨d.map, rfl⟩
      · split <;> exact ⟨_, rfl⟩
    exact ⟨m, .inr (congrArg (fun e : Dev => (e.faultRec pMAP 17 (tileWords t.key)).mapShow) hm)⟩
  · exact ⟨_, .inl (if_neg hfull)⟩

theorem Dev.storeTile_mapOnly (d : Dev) (t : StoredTile) : Dev.MapOnly d (d.storeTile t) := by
  obtain ⟨m, h | h⟩ := d.storeTile_cases t <;> rw [h]
  · exact ((Dev.MapOnly.refl d).map m).show
  · exact Dev.MapOnly.show (Dev.SameBut.faultRec ((Dev.MapOnly.refl d).map m) (fun _ _ => rfl) _ _ _ _ _)

theorem Dev.modWin_mapOnly {d e : Dev} (h : Dev.MapOnly d e) (k : Nat × Int × Int) (f : WinTile → WinTile) : Dev.MapOnly d (e.modWin k f) := h

theorem Dev.writeBack_mapOnly (d : Dev) (t : WinTile) : Dev.MapOnly d (d.writeBack t) :=
  (Dev.modWin_mapOnly (d.storeTile_mapOnly t.stored) _ _).show

theorem Dev.writeAll_mapOnly (d : Dev) : Dev.MapOnly d d.writeAll :=
  foldl_related Dev.MapOnly.refl Dev.MapOnly.trans _ d fun t _ e => e.writeBack_mapOnly t

theorem Dev.toNeap_spec (d : Dev) : d.toNeap.rd Reg.PWR_PWR_STATE = w32 (3 * 16 + 3) ∧ d.toNeap.map.win = [] ∧ d.toNeap.gps.tblUntil.isSome = true := by
  rw [Dev.toNeap_eq]
  have hwrite := d.tabled.writeAll_mapOnly
  generalize d.tabled.writeAll = e at *
  refine ⟨Dev.reached_shows _ 3, ?_, ?_⟩
  · exact ((e.unwindowed.mapShow.reached_sameBut 3).proj (·.map.win) fun _ => rfl).trans ((e.unwindowed.mapShow_sameBut id).proj (·.map.win) fun _ => rfl)
  · refine (((e.unwindowed.mapShow.reached_sameBut 3).proj (·.gps.tblUntil.isSome) fun _ => rfl).trans
      ((e.unwindowed.mapShow_sameBut id).proj (·.gps.tblUntil.isSome) fun _ => rfl)).trans ?_
    exact (hwrite.proj (·.gps.tblUntil.isSome) fun _ => rfl).trans rfl

/-! COVE -/

/-- The part without burst table and map memory. -/
def Dev.unpoweredMap (d : Dev) : Dev := { d with
  gps := { d.gps with tblUntil := none, table := [], gated := none }
  map := { d.map with dir := [], win := [], rxNext := [], asks := [] } }

/-- Nothing of TB-G is left. -/
def Dev.unsolved (d : Dev) : Dev := { d with tm := { d.tm with tbgP := 0, parkG := 0, tbgErrP := 0, burstStep := 0, stepTo := none } }

/-- TB-G and TB-N are shown as lost. -/
def Dev.timesLost (d : Dev) : Dev := (d.mapShow.setTbg tbgNone).withWall (·.setStat pTIME1 17 false)

/-- The part whose TB-G and TB-N are lost. -/
def Dev.untimed (d : Dev) : Dev := d.timesLost.unsolved

/-- COVE's own part. -/
def Dev.coved (d : Dev) : Dev := d.unpoweredMap.untimed.withSmp (·.reached 4)

theorem Dev.setTbg_state (d : Dev) {st : Nat} (hst : st < 4) : (d.setTbg st).tbgState = st := by
  by_cases h : d.tbgState = st
  · rw [show d.setTbg st = d from if_pos h]
    exact h
  · exact (Dev.setTbg_spec h hst).1

theorem Dev.untimed_spec (d : Dev) : d.untimed.tbgState = tbgNone ∧ Dev.SameBut (fun d => { d with tm := {}, rcf := {} }) d d.untimed := by
  unfold Dev.untimed
  have hwall : Dev.SameBut (fun d => { d with tm := {}, rcf := {} }) (d.mapShow.setTbg tbgNone) d.timesLost :=
    Dev.SameBut.withWall (f := (·.setStat pTIME1 17 false)) (fun _ _ => rfl) ((Dev.SameBut.refl _ _).setStat _ _ _)
  have hstate : d.timesLost.tbgState = tbgNone :=
    (Dev.tbgState_congr ((Dev.rd_withWall_ne _ _ (by decide)).trans (Dev.rd_setBit_ne _ _ _ (by decide)))).trans (Dev.setTbg_state _ (by decide))
  generalize d.timesLost = e at *
  refine ⟨(Dev.tbgState_congr rfl).trans hstate, ?_⟩
  exact ((d.mapShow_sameBut _).trans (Dev.setTbg_sameBut (fun _ _ => rfl) d.mapShow tbgNone)).trans hwall

theorem Dev.coved_spec (d : Dev) : d.coved.rd Reg.PWR_PWR_STATE = w32 (4 * 16 + 4) ∧ d.coved.tbgState = tbgNone ∧ d.coved.map.dir = []
    ∧ d.coved.map.win = [] := by
  unfold Dev.coved
  obtain ⟨hstate, hsame⟩ := d.unpoweredMap.untimed_spec
  generalize d.unpoweredMap.untimed = e at *
  have hreached := e.reached_sameBut 4
  refine ⟨e.reached_shows 4, ?_, ?_, ?_⟩
  · exact (Dev.tbgState_congr (e.reached_rdKept 4 _ (by decide))).trans hstate
  · exact (hreached.proj (·.map.dir) fun _ => rfl).trans (hsame.proj (·.map.dir) fun _ => rfl)
  · exact (hreached.proj (·.map.win) fun _ => rfl).trans (hsame.proj (·.map.win) fun _ => rfl)

/-- What a drain leaves of a part in COVE. -/
theorem State.drainAll_coved {t : State} {f : Dev → Dev} (h : f t.dev = t.dev.coved) :
    (onDev f t).drainAll.dev.rd Reg.PWR_PWR_STATE = w32 (4 * 16 + 4) ∧ (onDev f t).drainAll.ldg.book = t.ldg.book
      ∧ (onDev f t).drainAll.dev.tbgState = tbgNone ∧ (onDev f t).drainAll.dev.map.dir = [] ∧ (onDev f t).drainAll.dev.map.win = [] := by
  obtain ⟨hwords, hsame, hldg⟩ := (onDev f t).drainAll_kept
  obtain ⟨hpwr, hstate, hdir, hwin⟩ := t.dev.coved_spec
  have hdev : (onDev f t).dev = t.dev.coved := h
  rw [hdev] at hwords hsame
  exact ⟨(hwords _ (by decide)).trans hpwr, congrArg Ledgers.book hldg, (Dev.tbgState_congr (hwords _ (by decide))).trans hstate,
    (hsame.proj (·.map.dir) fun _ => rfl).trans hdir, (hsame.proj (·.map.win) fun _ => rfl).trans hwin⟩

theorem State.toCove_spec (s : State) : s.toCove.dev.rd Reg.PWR_PWR_STATE = w32 (4 * 16 + 4) ∧ s.toCove.ldg.book = s.ldg.book
    ∧ s.toCove.dev.tbgState = tbgNone ∧ s.toCove.dev.map.dir = [] ∧ s.toCove.dev.map.win = [] := by
  unfold State.toCove
  extract_lets good slot t
  have hbook : t.ldg.book = s.ldg.book := (s.flushLedger_kept slot good).1
  clear_value t
  rw [← hbook]
  refine State.drainAll_coved ?_
  extract_lets _ _ e f g h
  have he : e = t.dev.unpoweredMap := rfl
  clear_value e
  have hf : f = e.timesLost := rfl
  clear_value f
  have hh : h = f.unsolved := rfl
  have hcoved : h = t.dev.unpoweredMap.untimed := by rw [hh, hf, he, Dev.untimed]
  exact congrArg (fun x : Dev => x.withSmp (·.reached 4)) hcoved

/-! STRAND -/

theorem State.toStrand_spec (s : State) : s.toStrand.dev.rd Reg.PWR_PWR_STATE = w32 (5 * 16 + 5) ∧ s.toStrand.ldg = s.ldg
    ∧ s.toStrand.dev.rcf.closed = true := by
  obtain ⟨hwords, -, hldg⟩ := (onDev (·.reached 5) s).drainAll_kept
  exact ⟨(hwords _ (by decide)).trans (s.dev.reached_shows 5), hldg, rfl⟩

end Sys2Proof.Machine
end

section
/-! PROOFS. The tracking channels as the firmware starts and ends them, and its search: what it leaves (R143 to R150, R157). -/
namespace Sys2Proof.Machine

/-- The words outside the channels' own pages that a change of tracking channels and of the acquisition's queue touches. -/
def chanWords : List Nat :=
  [Reg.NAV_CH_ACTIVE, Reg.NAV_CH_ACTIVE + 4, Reg.INTEG_CH_EXCL, Reg.INTEG_CH_EXCL + 4, Reg.ACQ_ACQ_STATE, Reg.IRQ_RAW pACQ]

/-- A word of the tracking channels' pages. -/
def inTcPages (a : Nat) : Prop := 0x14000 ≤ a ∧ a < 0x1C000

/-- A change of tracking channels and of the acquisition's queue only. -/
structure Dev.ChanOnly (d e : Dev) : Prop where
  words : ∀ a, a ∉ chanWords → ¬ inTcPages a → e.rd a = d.rd a
  same : Dev.SameBut (fun d => { d with gps := {} }) d e

theorem Dev.ChanOnly.refl (d : Dev) : Dev.ChanOnly d d := ⟨fun _ _ _ => rfl, Dev.SameBut.refl _ d⟩

theorem Dev.ChanOnly.trans {d e f : Dev} (h : Dev.ChanOnly d e) (h' : Dev.ChanOnly e f) : Dev.ChanOnly d f :=
  ⟨fun a ha hp => (h'.words a ha hp).trans (h.words a ha hp), h.same.trans h'.same⟩

section
variable {d e : Dev} (h : Dev.ChanOnly d e)
include h

theorem Dev.ChanOnly.wr {a : Nat} (ha : a ∈ chanWords ∨ inTcPages a) (v : W32) : Dev.ChanOnly d (e.wr a v) := by
  refine ⟨fun b hb hp => ?_, h.same.wr _ _⟩
  have hne : b ≠ a := fun hba => ha.elim (fun hm => hb (hba ▸ hm)) fun hm => hp (hba ▸ hm)
  exact (Dev.rd_wr_ne _ _ hne).trans (h.words b hb hp)

theorem Dev.ChanOnly.gps (g : Gnss) : Dev.ChanOnly d { e with gps := g } := ⟨h.words, h.same⟩

theorem Dev.ChanOnly.modTc (c : Nat) (f : TcChan → TcChan) : Dev.ChanOnly d (e.modTc c f) := ⟨h.words, h.same⟩

theorem Dev.ChanOnly.tcWr {a : Nat} (ha : inTcPages a) (v : W32) : Dev.ChanOnly d (e.wr a v) := h.wr (.inr ha) v

theorem Dev.ChanOnly.rd {a : Nat} (ha : a ∉ chanWords) (hp : a < 0x14000) : e.rd a = d.rd a := h.words a ha fun hin => by
  obtain ⟨hlo, -⟩ := hin
  omega

end

theorem Dev.ChanOnly.foldl {α : Type} {f : Dev → α → Dev} (xs : List α) (d : Dev) (h : ∀ x ∈ xs, ∀ e, Dev.ChanOnly e (f e x)) :
    Dev.ChanOnly d (xs.foldl f d) := foldl_related Dev.ChanOnly.refl Dev.ChanOnly.trans xs d h

/-! The channels' own words -/

/-- A word at an offset of a channel's block lies in the channels' pages. -/
theorem inTcPages_block {c off : Nat} (hc : c < 64) (hoff : off < 0x1000 - 0x700) : inTcPages (0x14000 + off + 0x1000 * (c / 8) + 0x100 * (c % 8)) := by
  constructor <;> omega

theorem chanBit_mem {c : Nat} (hc : c < 64) : Reg.NAV_CH_ACTIVE + 4 * (c / 32) ∈ chanWords ∧ Reg.INTEG_CH_EXCL + 4 * (c / 32) ∈ chanWords := by
  have h : c / 32 = 0 ∨ c / 32 = 1 := by omega
  rcases h with h | h <;> rw [h] <;> decide

theorem inTcPages_irq {c : Nat} (hc : c < 64) : inTcPages (Reg.IRQ_RAW (pTC c)) := by
  simp only [inTcPages, Reg.IRQ_RAW, pTC]
  omega

section
variable {d e : Dev} {c : Nat} (h : Dev.ChanOnly d e) (hc : c < 64)
include h hc

theorem Dev.ChanOnly.tcIrq (b : Nat) : Dev.ChanOnly d (e.irq (pTC c) b) := h.tcWr (inTcPages_irq hc) _
theorem Dev.ChanOnly.activeBit (v : Bool) : Dev.ChanOnly d (e.setMapBit Reg.NAV_CH_ACTIVE c v) := h.wr (.inl (chanBit_mem hc).1) _
theorem Dev.ChanOnly.exclBit (v : Bool) : Dev.ChanOnly d (e.setMapBit Reg.INTEG_CH_EXCL c v) := h.wr (.inl (chanBit_mem hc).2) _

theorem Dev.ChanOnly.setTc (st : Nat) : Dev.ChanOnly d (e.setTc c st) := by
  unfold Dev.setTc
  extract_lets was f g k
  have hf : Dev.ChanOnly d f := (h.tcWr (inTcPages_block (off := 0x41C) hc (by decide)) _).tcIrq hc _
  have hg : Dev.ChanOnly d g := hf.activeBit hc _
  have hk : Dev.ChanOnly d k := by
    unfold k
    split
    · exact hg.modTc _ _
    · exact hg
  split
  · exact h
  · split
    · exact (hk.modTc _ _).tcWr (by simp only [inTcPages, Reg.TC_TXMS]; omega) _
    · exact hk

theorem Dev.ChanOnly.tcBegin : Dev.ChanOnly d (e.tcBegin c) := by
  unfold Dev.tcBegin
  extract_lets again now cfg dop gone code f g k m
  have hf : Dev.ChanOnly d f := h.modTc _ _
  have hg : Dev.ChanOnly d g := by
    unfold g
    split
    · exact hf.tcIrq hc _
    · exact hf.setTc hc _
  have hk : Dev.ChanOnly d k :=
    (((hg.tcWr (by simp only [inTcPages, Reg.TC_SLIP]; omega) _).tcWr (by simp only [inTcPages, Reg.TC_DUMP_SEQ]; omega) _).tcWr
      (by simp only [inTcPages, Reg.TC_CARR]; omega) _).tcWr (by simp only [inTcPages, Reg.TC_CARR]; omega) _
  have hm : Dev.ChanOnly d m :=
    (hk.tcWr (by simp only [inTcPages, Reg.TC_DOP]; omega) _).tcWr (by simp only [inTcPages, Reg.TC_CODE]; omega) _
  exact hm.exclBit hc _

end

/-! The firmware's search -/

theorem Dev.acqNext_chanOnly (d : Dev) : Dev.ChanOnly d d.acqNext :=
  ⟨fun a ha _ => d.acqNext_spec.1 a fun hm => ha ((by decide : ∀ x ∈ acqTouched, x ∈ chanWords) a hm), d.acqNext_sameBut fun _ _ => rfl⟩

theorem Dev.acqShow_chanOnly (d : Dev) : Dev.ChanOnly d d.acqShow := (Dev.ChanOnly.refl d).wr (.inl (by decide)) _

theorem Dev.fwStart_chanOnly (d : Dev) {s : Nat} (hs : s < 16) (prn code : Nat) (dop : Int) (ref : W32) :
    Dev.ChanOnly d (d.fwStart s prn code dop ref) := by
  refine Dev.ChanOnly.foldl _ _ fun p hp e => ?_
  have hp4 : p < 4 := mem_fours hp
  have hc : 4 * s + p < 64 := by omega
  extract_lets c f
  have hf : Dev.ChanOnly e f :=
    (((Dev.ChanOnly.refl e).tcWr (by simp only [inTcPages, Reg.TC_CFG]; omega) _).tcWr (by simp only [inTcPages, Reg.TC_LOOP]; omega) _).tcWr
      (by simp only [inTcPages, Reg.TC_TAPS]; omega) _
  split
  · exact (((hf.tcWr (by simp only [inTcPages, Reg.TC_INIT_CODE]; omega) _).tcWr (by simp only [inTcPages, Reg.TC_INIT_DOP]; omega) _).tcWr
      (by simp only [inTcPages, Reg.TC_INIT_REF]; omega) _).tcBegin hc
  · exact .refl e

theorem Dev.freeSlot_lt {d : Dev} {s : Nat} (h : d.freeSlot = some s) : s < 16 := by
  unfold Dev.freeSlot at h
  split at h
  · exact List.mem_range.mp (List.mem_of_find?_eq_some h)
  · cases h

theorem Dev.fwResult_chanOnly (d : Dev) (w0 w1 w3 : W32) : Dev.ChanOnly d (d.fwResult w0 w1 w3) := by
  unfold Dev.fwResult
  extract_lets prn
  split
  · split
    · next s hs => exact d.fwStart_chanOnly (Dev.freeSlot_lt hs) _ _ _ _
    · exact .refl d
  · exact .refl d

theorem Dev.fwResults_chanOnly (n : Nat) (d : Dev) : Dev.ChanOnly d (Dev.fwResults n d) := by
  induction n generalizing d with
  | zero => exact .refl d
  | succ n ih =>
    unfold Dev.fwResults
    split
    · exact (((Dev.ChanOnly.refl d).gps _).trans (Dev.fwResult_chanOnly _ _ _ _)).trans (ih _)
    · exact .refl d

theorem Dev.fwPush_chanOnly (n : Nat) (d : Dev) : Dev.ChanOnly d (Dev.fwPush n d) := by
  induction n generalizing d with
  | zero => exact .refl d
  | succ n ih =>
    unfold Dev.fwPush
    split
    · next prn _ =>
      by_cases hroom : d.gps.jobs.length + (if d.gps.running.isSome then 1 else 0) < 16
      · rw [if_pos hroom]
        exact (((Dev.ChanOnly.refl d).gps _).trans (Dev.acqNext_chanOnly _)).trans (ih _)
      · rw [if_neg hroom]
        exact .refl d
    · exact .refl d

theorem Dev.fwSearch_chanOnly (d : Dev) : Dev.ChanOnly d d.fwSearch := by
  unfold Dev.fwSearch
  split
  · exact ((Dev.fwResults_chanOnly 16 d).trans (Dev.fwPush_chanOnly 16 _)).trans (Dev.acqShow_chanOnly _)
  · exact .refl d

/-! The firmware's choice of satellites (R157) -/

theorem mem_slotChans {s c : Nat} (h : c ∈ slotChans s) : 4 * s ≤ c ∧ c < 4 * s + 4 := by
  obtain ⟨p, hp, rfl⟩ := List.mem_map.mp h
  have hp4 : p < 4 := List.mem_range.mp hp
  omega

/-- The channels of the slots of a list are ended. -/
def Dev.slotsIdle (d : Dev) (l : List Nat) : Dev := (l.flatMap slotChans).foldl (fun d c => d.setTc c tsIDLE) d

theorem Dev.slotsIdle_chanOnly (d : Dev) {l : List Nat} (hl : ∀ s ∈ l, s < 16) : Dev.ChanOnly d (d.slotsIdle l) := by
  refine Dev.ChanOnly.foldl _ _ fun c hc e => ?_
  obtain ⟨s, hs, hcs⟩ := List.mem_flatMap.mp hc
  have hlt := mem_slotChans hcs
  have hs16 := hl s hs
  exact (Dev.ChanOnly.refl e).setTc (by omega) _

theorem Dev.usedSlots_lt (d : Dev) : ∀ s ∈ d.usedSlots, s < 16 := fun _ hs => List.mem_range.mp (List.mem_of_mem_filter hs)

theorem Dev.fwTrim_chanOnly (d : Dev) : Dev.ChanOnly d d.fwTrim := by
  unfold Dev.fwTrim
  split
  · exact (Dev.slotsIdle_chanOnly d fun s hs => d.usedSlots_lt s (List.mem_of_mem_filter hs)).trans
      (Dev.slotsIdle_chanOnly _ fun s hs => Dev.usedSlots_lt _ s (List.mem_of_mem_drop hs))
  · exact .refl d

end Sys2Proof.Machine
end

section
/-! PROOFS. O34: the steps down, the exits to RUN and the exit from STRAND (R451 to R456). -/
namespace Sys2Proof.Machine

/-! The steps down (R451) -/

/-- The part after a step of the entry: the goal ended where it is reached, and the wakes that stand. -/
def Dev.steppedDown (d : Dev) (goal st : Nat) : Dev := { d with pow := { d.pow with
  goal := if goal ≤ st + 1 then none else some goal
  wake := d.pow.wake ||| d.activeWakes d.powerState } }

/-- The state that a step of the entry makes. -/
def State.nextDown (s : State) (goal : Nat) : State :=
  match s.dev.powerState with
  | 0 => onDev Dev.toSlack s
  | 1 => s.toEbb (goal = 2)
  | 2 => onDev Dev.toNeap s
  | 3 => s.toCove
  | _ => s.toStrand

theorem exec_powerEntrySequence {s : State} {g : Nat} (hgoal : s.dev.pow.goal = some g) (hwake : s.dev.pow.wake = 0) :
    exec .powerEntrySequence s = .next (onDev (·.steppedDown g s.dev.powerState) (s.nextDown g)) := by
  have hnot : ¬ s.dev.pow.wake ≠ 0 := fun h => h hwake
  change execPowerEntrySequence s = _
  unfold execPowerEntrySequence
  rw [hgoal]
  exact congrArg Host.Outcome.next (if_neg hnot)

theorem powerEntrySequence_ended {s : State} {g : Nat} (hgoal : s.dev.pow.goal = some g) (hwake : s.dev.pow.wake ≠ 0) :
    exec .powerEntrySequence s = .next { s with dev := { s.dev with pow := { s.dev.pow with goal := none } } } := by
  change execPowerEntrySequence s = _
  unfold execPowerEntrySequence
  rw [hgoal]
  exact congrArg Host.Outcome.next (if_pos hwake)

/-- What each state's own entry leaves. -/
def downFacts (s t : State) : Prop :=
  t.ldg.book = s.ldg.book
    ∧ (s.dev.powerState = 0 → t.dev.stat pHOST 17 = false ∧ t.dev.sup.lost = none ∧ t.ldg = s.ldg ∧ t.rcd = s.rcd)
    ∧ (s.dev.powerState = 1 → t.ldg.flushing = none ∧ t.dev.tm.ppsSince = none ∧ (s.dev.stat pREC 16 = false → t.rcd = s.rcd))
    ∧ (s.dev.powerState = 2 → t.dev.map.win = [] ∧ t.dev.gps.tblUntil.isSome = true)
    ∧ (s.dev.powerState = 3 → t.dev.tbgState = tbgNone ∧ t.dev.map.dir = [] ∧ t.dev.map.win = [])
    ∧ (s.dev.powerState = 4 → t.dev.rcf.closed = true)

theorem State.nextDown_spec {s : State} (hst : s.dev.powerState ≤ 4) (g : Nat) :
    (s.nextDown g).dev.rd Reg.PWR_PWR_STATE = w32 ((s.dev.powerState + 1) * 16 + (s.dev.powerState + 1)) ∧ downFacts s (s.nextDown g) := by
  unfold State.nextDown downFacts
  generalize s.dev.powerState = st at hst
  match st, hst with
  | 0, _ =>
    obtain ⟨hword, hstat, hlost⟩ := s.dev.toSlack_spec
    exact ⟨hword, rfl, fun _ => ⟨hstat, hlost, rfl, rfl⟩, nofun, nofun, nofun, nofun⟩
  | 1, _ =>
    obtain ⟨hword, hpps, hbook, hflush, hrcd⟩ := s.toEbb_spec (decide (g = 2))
    exact ⟨hword, hbook, nofun, fun _ => ⟨hflush, hpps, hrcd⟩, nofun, nofun, nofun⟩
  | 2, _ =>
    obtain ⟨hword, hwin, htable⟩ := s.dev.toNeap_spec
    exact ⟨hword, rfl, nofun, nofun, fun _ => ⟨hwin, htable⟩, nofun, nofun⟩
  | 3, _ =>
    obtain ⟨hword, hbook, htbg, hdir, hwin⟩ := s.toCove_spec
    exact ⟨hword, hbook, nofun, nofun, nofun, fun _ => ⟨htbg, hdir, hwin⟩, nofun⟩
  | 4, _ =>
    obtain ⟨hword, hldg, hclosed⟩ := s.toStrand_spec
    exact ⟨hword, congrArg Ledgers.book hldg, nofun, nofun, nofun, nofun, fun _ => hclosed⟩

theorem powerEntrySequence_steps {s : State} {g : Nat} (hgoal : s.dev.pow.goal = some g) (hwake : s.dev.pow.wake = 0)
    (hst : s.dev.powerState ≤ 4) :
    ∃ t, exec .powerEntrySequence s = .next t ∧ t.dev.powerState = s.dev.powerState + 1 ∧ t.dev.fld Reg.PWR_PWR_STATE 6 4 = s.dev.powerState + 1
      ∧ t.dev.pow.goal = (if g ≤ s.dev.powerState + 1 then none else some g) ∧ downFacts s t := by
  obtain ⟨hword, hfacts⟩ := State.nextDown_spec hst g
  have hexec := exec_powerEntrySequence hgoal hwake
  generalize s.nextDown g = t at hexec hword hfacts
  obtain ⟨hlow, hdeep⟩ := Dev.reached_state (d := t.dev) (by omega) hword
  exact ⟨_, hexec, hlow, hdeep, rfl, hfacts⟩

/-! A wake's end (R453, R454) -/

/-- The state, the sources and the count that a wake shows. -/
def Dev.wakeMarked (d : Dev) (deepest src : Nat) : Dev := ((d.wrN Reg.PWR_PWR_STATE (deepest * 16)).wrN Reg.PWR_WAKE_SRC src).inc Reg.PWR_WAKE_CNT

/-- The time parked, the status and the interrupt of a wake. -/
def Dev.wakeTimed (d : Dev) (parked : W32) : Dev := ((d.wr Reg.PWR_PARK_TIME parked).setStat pPWR 16 false).irq pPWR 16

/-- The seconds parked. -/
def Dev.parkedFor (d : Dev) : W32 := sat32 ((d.tm.tbm - d.rd64 Reg.PWR_PARK_TBM) / 1000000000)

/-- The words of a wake before the path is disarmed. -/
def Dev.wakeShown (d : Dev) : Dev := (d.wakeMarked (d.fld Reg.PWR_PWR_STATE 6 4) (d.pow.wake % 256)).wakeTimed d.parkedFor

/-- The wake recorded. -/
def Dev.wakeRecorded (d : Dev) (from_ : Nat) (goal : Option Nat) : Dev :=
  match goal with
  | some g => d.recIrq pPWR 16 [w32 from_, w32 g]
  | none => d.recIrq pPWR 16

/-- The path disarmed by a wake. -/
def Dev.wakeDisarmed (d : Dev) : Dev := if d.armed then (d.safeState.openSwitches).disarm 1 else d

/-- The entry and its wakes ended. -/
def Dev.wakeEnded (d : Dev) : Dev := { d with pow := { d.pow with wake := 0, goal := none, target := none } }

theorem Dev.woken_eq (d : Dev) (from_ : Nat) : d.woken from_ = ((d.wakeShown.wakeRecorded from_ d.wakeShown.pow.goal).wakeDisarmed).wakeEnded := by
  unfold Dev.woken
  extract_lets src deepest parked e f g h
  have hf : f = d.wakeShown := rfl
  clear_value f
  subst hf
  have hg : g = d.wakeShown.wakeRecorded from_ d.wakeShown.pow.goal := rfl
  clear_value g
  subst hg
  rfl

/-- The words of a wake. -/
def wakeWords : List Nat := [Reg.PWR_PWR_STATE, Reg.PWR_WAKE_SRC, Reg.PWR_WAKE_CNT, Reg.PWR_PARK_TIME, Reg.STATUS pPWR, Reg.IRQ_RAW pPWR]

/-- The words of its record and of the disarm. -/
def wakeDisarmWords : List Nat := Reg.SYS_OUT_STATE :: (safeWords ++ railWords)

theorem Dev.wakeMarked_rdKept (d : Dev) (deepest src : Nat) : Dev.RdKept wakeWords d (d.wakeMarked deepest src) :=
  (((Dev.RdKept.refl _ d).wr (by decide) _).wr (by decide) _).wr (by decide) _

theorem Dev.wakeTimed_rdKept (d : Dev) (parked : W32) : Dev.RdKept [Reg.PWR_PARK_TIME, Reg.STATUS pPWR, Reg.IRQ_RAW pPWR] d (d.wakeTimed parked) :=
  (((Dev.RdKept.refl _ d).wr (by decide) _).setStat (by decide) _ _).irq (by decide) _

theorem Dev.wakeShown_rdKept (d : Dev) : Dev.RdKept wakeWords d d.wakeShown :=
  (d.wakeMarked_rdKept _ _).trans ((Dev.wakeTimed_rdKept _ _).mono (by decide))

theorem Dev.wakeShown_sameBut (blank : Dev → Dev) (d : Dev) : Dev.SameBut blank d d.wakeShown :=
  ((((((Dev.SameBut.refl blank d).wr _ _).wr _ _).wr _ _).wr _ _).setStat _ _ _).irq _ _

theorem awakeWord_shows : ∀ k < 8, field (w32 (k * 16)) 2 0 = 0 := by decide

theorem Dev.wakeMarked_shows (d : Dev) {deepest src : Nat} (hsrc : src < 256) :
    (d.wakeMarked deepest src).rd Reg.PWR_PWR_STATE = w32 (deepest * 16) ∧ (d.wakeMarked deepest src).rdN Reg.PWR_WAKE_SRC = src
      ∧ (d.wakeMarked deepest src).rd Reg.PWR_WAKE_CNT = d.rd Reg.PWR_WAKE_CNT + 1#32 := by
  refine ⟨?_, ?_, ?_⟩
  · exact (Dev.rd_wr_ne _ _ (by decide)).trans ((Dev.rd_wr_ne _ _ (by decide)).trans (Dev.rd_wr_same d _ _))
  · refine (congrArg BitVec.toNat ((Dev.rd_wr_ne _ _ (by decide)).trans (Dev.rd_wr_same _ _ _))).trans ?_
    exact (BitVec.toNat_ofNat _ _).trans (Nat.mod_eq_of_lt (by omega))
  · refine (Dev.rd_wr_same _ _ _).trans (congrArg (· + 1#32) ?_)
    exact (Dev.rd_wr_ne _ _ (by decide)).trans (Dev.rd_wr_ne d _ (by decide))

theorem Dev.wakeShown_shows (d : Dev) : d.wakeShown.powerState = 0 ∧ d.wakeShown.rdN Reg.PWR_WAKE_SRC = d.pow.wake % 256
    ∧ d.wakeShown.rd Reg.PWR_WAKE_CNT = d.rd Reg.PWR_WAKE_CNT + 1#32 ∧ d.wakeShown.bit (Reg.IRQ_RAW pPWR) 16 = true := by
  unfold Dev.wakeShown
  have hdeep : d.fld Reg.PWR_PWR_STATE 6 4 < 8 := field_lt _ 6 4
  have hsrc : d.pow.wake % 256 < 256 := Nat.mod_lt _ (by decide)
  generalize d.fld Reg.PWR_PWR_STATE 6 4 = deepest at *
  generalize d.pow.wake % 256 = src at *
  obtain ⟨hstate, hshown, hcount⟩ := d.wakeMarked_shows (deepest := deepest) hsrc
  generalize d.wakeMarked deepest src = e at *
  have htimed := e.wakeTimed_rdKept d.parkedFor
  refine ⟨?_, (congrArg BitVec.toNat (htimed _ (by decide))).trans hshown, (htimed _ (by decide)).trans hcount, Dev.bit_irq_same _ pPWR (by decide)⟩
  exact (congrArg (field · 2 0) ((htimed _ (by decide)).trans hstate)).trans (awakeWord_shows _ hdeep)

theorem Dev.wakeRecorded_rdKept (d : Dev) (from_ : Nat) (goal : Option Nat) : Dev.RdKept wakeDisarmWords d (d.wakeRecorded from_ goal) := by
  cases goal <;> exact (Dev.RdKept.refl _ d).emit (by decide) _

theorem Dev.wakeRecorded_sameBut (d : Dev) (from_ : Nat) (goal : Option Nat) : Dev.SameBut (fun d => { d with drv := {}, rcf := {} }) d (d.wakeRecorded from_ goal) := by
  cases goal <;> exact (Dev.SameBut.refl _ d).emit (fun _ _ => rfl) _

theorem Dev.wakeDisarmed_spec (d : Dev) : d.wakeDisarmed.armed = false ∧ Dev.RdKept wakeDisarmWords d d.wakeDisarmed
    ∧ Dev.SameBut (fun d => { d with drv := {}, rcf := {} }) d d.wakeDisarmed := by
  unfold Dev.wakeDisarmed
  by_cases harmed : d.armed = true
  · rw [if_pos harmed]
    have hsafe : Dev.RdKept wakeDisarmWords d d.safeState.openSwitches :=
      (d.safeState_rdKept.mono (by decide)).trans (Dev.RdKept.ofRegs _ (Dev.openSwitches_regs _))
    have hsame : Dev.SameBut (fun d => { d with drv := {}, rcf := {} }) d d.safeState.openSwitches :=
      (Dev.safeState_sameBut (fun _ _ => rfl) (fun _ _ => rfl) d).trans (Dev.openSwitches_sameBut (fun _ _ => rfl) _)
    generalize d.safeState.openSwitches = e at *
    let f := (e.setFld Reg.SYS_OUT_STATE 7 4 1).setBit Reg.SYS_OUT_STATE 0 false
    have hkept : Dev.RdKept railWords f (e.disarm 1) := f.railUpdate_rdKept
    have hf : Dev.RdKept wakeDisarmWords d f := (hsafe.setFld (by decide) _ _ _).setBit (by decide) _ _
    refine ⟨(hkept.bit (by decide) 0).trans ?_, hf.trans (hkept.mono (by decide)), ?_⟩
    · exact (Dev.bit_setBit (e.setFld Reg.SYS_OUT_STATE 7 4 1) _ _ _ _ (by decide) (by decide)).trans (if_pos rfl)
    · have hrail : Dev.SameBut (fun d => { d with drv := {}, rcf := {} }) f (e.disarm 1) := f.railUpdate_sameBut fun _ _ => rfl
      exact ((hsame.setFld _ _ _ _).setBit _ _ _).trans hrail
  · rw [if_neg harmed]
    exact ⟨by simpa using harmed, .refl _ d, .refl _ d⟩

/-- What a wake makes of the part. -/
structure Dev.Woke (d e : Dev) : Prop where
  state : e.powerState = 0
  src : e.rdN Reg.PWR_WAKE_SRC = d.pow.wake % 256
  count : e.rd Reg.PWR_WAKE_CNT = d.rd Reg.PWR_WAKE_CNT + 1#32
  irq : e.bit (Reg.IRQ_RAW pPWR) 16 = true
  armed : e.armed = false
  wake : e.pow.wake = 0
  goal : e.pow.goal = none
  words : Dev.RdKept (wakeWords ++ wakeDisarmWords) d e
  same : Dev.SameBut (fun d => { d with drv := {}, rcf := {}, pow := {} }) d e

theorem Dev.woken_woke (d : Dev) (from_ : Nat) : d.Woke (d.woken from_) := by
  rw [Dev.woken_eq]
  obtain ⟨hstate, hsrc, hcount, hirq⟩ := d.wakeShown_shows
  have hwords := d.wakeShown_rdKept
  have hsame := d.wakeShown_sameBut fun d => { d with drv := {}, rcf := {} }
  generalize d.wakeShown = a at *
  have hrec := a.wakeRecorded_rdKept from_ a.pow.goal
  have hrecSame := a.wakeRecorded_sameBut from_ a.pow.goal
  generalize a.wakeRecorded from_ a.pow.goal = b at *
  obtain ⟨harmed, hoff, hoffSame⟩ := b.wakeDisarmed_spec
  generalize b.wakeDisarmed = c at *
  have hall : Dev.RdKept wakeDisarmWords a c := hrec.trans hoff
  exact ⟨(hall.fld (by decide) 2 0).trans hstate, (congrArg BitVec.toNat (hall _ (by decide))).trans hsrc, (hall _ (by decide)).trans hcount,
    (hall.bit (by decide) 16).trans hirq, harmed, rfl, rfl,
    (hwords.mono (by decide)).trans ((hall.struct (e' := c.wakeEnded) rfl).mono (by decide)),
    congrArg (fun d : Dev => ({ d with pow := {} } : Dev)) ((hsame.trans hrecSame).trans hoffSame)⟩

end Sys2Proof.Machine
end

section
/-! PROOFS. O34: the exits to RUN (R453 to R456). -/
namespace Sys2Proof.Machine

/-! The exit from a parked state (R454) -/

/-- The receiver as an exit leaves it. -/
def Gnss.unparked (g : Gnss) (st : Nat) : Gnss := { g with tblUntil := none, table := [], sweep := if st ≥ 2 then some 1 else g.sweep }

/-- The part out of its parked state, before the firmware runs. -/
def Dev.unparked (d : Dev) (st : Nat) : Dev := { d with gps := d.gps.unparked st }

/-- The MP's timer begun where the exit starts the MP. -/
def Dev.mpAwake (d : Dev) (st : Nat) : Dev := if st ≥ 2 then d.mpUp else d

/-- The ledger's session resumed where COVE lost it. -/
def State.sessionBack (s : State) : State := if s.dev.powerState = 4 then s.resumeSession else s

theorem State.exitPark_eq (s : State) : s.exitPark
    = onDev (fun d => (((d.withSmp (·.woken s.dev.powerState)).unparked s.dev.powerState).mpAwake s.dev.powerState).acqNext.fwSearch) s.sessionBack := rfl

theorem State.sessionBack_kept (s : State) : Dev.RdKept resumeWords s.dev s.sessionBack.dev ∧ (∀ blank, Dev.SameBut blank s.dev s.sessionBack.dev)
    ∧ s.sessionBack.rcd = s.rcd ∧ s.sessionBack.ldg.slots = s.ldg.slots ∧ (s.dev.powerState ≤ 3 → s.sessionBack.ldg = s.ldg) := by
  unfold State.sessionBack
  by_cases h : s.dev.powerState = 4
  · rw [if_pos h]
    obtain ⟨hwords, hsame⟩ := s.resumeSession_words
    exact ⟨hwords, hsame, rfl, s.dev.resumeLedger_slots s.ldg, fun hle => by omega⟩
  · rw [if_neg h]
    exact ⟨.refl _ _, fun _ => .refl _ _, rfl, rfl, fun _ => rfl⟩

/-- What an exit leaves of a woken part: the receiver and the MP's timer differ. -/
theorem Dev.awake_kept (d : Dev) (st : Nat) :
    (∀ a, a ∉ chanWords → ¬ inTcPages a → ((d.unparked st).mpAwake st).acqNext.fwSearch.rd a = d.rd a)
      ∧ Dev.SameBut (fun d => { d with gps := {}, sup := {} }) d ((d.unparked st).mpAwake st).acqNext.fwSearch := by
  have hup : ((d.unparked st).mpAwake st).regs = d.regs
      ∧ Dev.SameBut (fun d => { d with gps := {}, sup := {} }) d ((d.unparked st).mpAwake st) := by
    unfold Dev.mpAwake
    split <;> exact ⟨rfl, rfl⟩
  generalize (d.unparked st).mpAwake st = e at *
  obtain ⟨hregs, hsame⟩ := hup
  obtain ⟨hwords, hrest⟩ := e.acqNext_chanOnly.trans e.acqNext.fwSearch_chanOnly
  generalize e.acqNext.fwSearch = f at *
  exact ⟨fun a ha hp => (hwords a ha hp).trans (Dev.rd_of_regs hregs a),
    hsame.trans (congrArg (fun d : Dev => ({ d with sup := {} } : Dev)) hrest)⟩

theorem exec_wakeExit_parked {s : State} (hst : s.dev.powerState ≠ 0) (hwake : s.dev.pow.wake ≠ 0)
    (h : s.dev.powerState ≤ 2 ∨ (s.dev.powerState ≤ 4 ∧ s.dev.pow.supplyBad = false)) : exec .wakeExit s = .next s.exitPark := by
  refine congrArg Host.Outcome.next ((if_neg (not_or.mpr ⟨hst, hwake⟩)).trans ((if_neg fun hbad => ?_).trans (if_neg (by omega))))
  obtain ⟨hge, hsupply⟩ := hbad
  rcases h with h | ⟨-, hgood⟩
  · exact absurd hge (by omega)
  · exact absurd (hgood.symm.trans hsupply) (by decide)

theorem exec_wakeExit_unsupplied {s : State} (hst : 3 ≤ s.dev.powerState) (hwake : s.dev.pow.wake ≠ 0) (hbad : s.dev.pow.supplyBad = true) :
    exec .wakeExit s = .next (onDev (·.setStat pPWR 16 true) s) :=
  congrArg Host.Outcome.next ((if_neg (not_or.mpr ⟨by omega, hwake⟩)).trans (if_pos ⟨hst, hbad⟩))

theorem chanWords_awake : ∀ a ∈ [Reg.PWR_PWR_STATE, Reg.PWR_WAKE_SRC, Reg.PWR_WAKE_CNT, Reg.IRQ_RAW pPWR, Reg.SYS_OUT_STATE],
    a ∉ chanWords ∧ ¬ inTcPages a := by
  unfold inTcPages
  decide

theorem wakeExit_parked {s : State} (hst : s.dev.powerState ≠ 0) (hwake : s.dev.pow.wake ≠ 0)
    (h : s.dev.powerState ≤ 2 ∨ (s.dev.powerState ≤ 4 ∧ s.dev.pow.supplyBad = false)) :
    ∃ t, exec .wakeExit s = .next t ∧ t.dev.powerState = 0 ∧ t.dev.rdN Reg.PWR_WAKE_SRC = s.dev.pow.wake % 256
      ∧ t.dev.rd Reg.PWR_WAKE_CNT = s.dev.rd Reg.PWR_WAKE_CNT + 1#32 ∧ t.dev.bit (Reg.IRQ_RAW pPWR) 16 = true ∧ t.dev.armed = false
      ∧ t.dev.pow.wake = 0 ∧ t.dev.pow.goal = none ∧ t.rcd = s.rcd ∧ t.ldg.slots = s.ldg.slots
      ∧ (s.dev.powerState ≤ 3 → t.ldg = s.ldg) ∧ t.dev.imp = s.dev.imp ∧ t.dev.pend = s.dev.pend := by
  have hexec := exec_wakeExit_parked hst hwake h
  rw [State.exitPark_eq] at hexec
  obtain ⟨hwords, hsame, hrcd, hslots, hldg⟩ := s.sessionBack_kept
  have hpow : s.sessionBack.dev.pow = s.dev.pow := (hsame id).proj (·.pow) fun _ => rfl
  have himp : s.sessionBack.dev.imp = s.dev.imp := (hsame id).proj (·.imp) fun _ => rfl
  have hpend : s.sessionBack.dev.pend = s.dev.pend := (hsame id).proj (·.pend) fun _ => rfl
  have hcount : s.sessionBack.dev.rd Reg.PWR_WAKE_CNT = s.dev.rd Reg.PWR_WAKE_CNT := hwords _ (by decide)
  clear hwords hsame
  generalize s.sessionBack = u at *
  have hexec' : exec .wakeExit s = .next { u with
      dev := (((u.dev.withSmp (·.woken s.dev.powerState)).unparked s.dev.powerState).mpAwake s.dev.powerState).acqNext.fwSearch } := hexec
  clear hexec
  have hwoke := u.dev.woken_woke s.dev.powerState
  have hregs : (u.dev.withSmp (·.woken s.dev.powerState)).regs = (u.dev.woken s.dev.powerState).regs := rfl
  have hsmp : Dev.SameBut (fun d => { d with gps := {}, sup := {} }) (u.dev.woken s.dev.powerState) (u.dev.withSmp (·.woken s.dev.powerState)) := rfl
  obtain ⟨hrd, hrest⟩ := (u.dev.withSmp (·.woken s.dev.powerState)).awake_kept s.dev.powerState
  generalize u.dev.withSmp (·.woken s.dev.powerState) = v at *
  generalize ((v.unparked s.dev.powerState).mpAwake s.dev.powerState).acqNext.fwSearch = w at *
  generalize u.dev.woken s.dev.powerState = x at *
  have hall := hsmp.trans hrest
  have hw : ∀ a ∈ [Reg.PWR_PWR_STATE, Reg.PWR_WAKE_SRC, Reg.PWR_WAKE_CNT, Reg.IRQ_RAW pPWR, Reg.SYS_OUT_STATE], w.rd a = x.rd a :=
    fun a ha => (hrd a (chanWords_awake a ha).1 (chanWords_awake a ha).2).trans (Dev.rd_of_regs hregs a)
  refine ⟨_, hexec', (congrArg (field · 2 0) (hw _ (by decide))).trans hwoke.state, ?_, ?_, (congrArg (bitOf · 16) (hw _ (by decide))).trans hwoke.irq,
    (congrArg (bitOf · 0) (hw _ (by decide))).trans hwoke.armed, (hall.proj (·.pow.wake) fun _ => rfl).trans hwoke.wake,
    (hall.proj (·.pow.goal) fun _ => rfl).trans hwoke.goal, hrcd, hslots, hldg, ?_, ?_⟩
  · exact (congrArg BitVec.toNat (hw _ (by decide))).trans (hwoke.src.trans (congrArg (fun p : Power => p.wake % 256) hpow))
  · exact (hw _ (by decide)).trans (hwoke.count.trans (congrArg (· + 1#32) hcount))
  · exact (hall.proj (·.imp) fun _ => rfl).trans ((hwoke.same.proj (·.imp) fun _ => rfl).trans himp)
  · exact (hall.proj (·.pend) fun _ => rfl).trans ((hwoke.same.proj (·.pend) fun _ => rfl).trans hpend)

/-! The exit from STRAND (R455) -/

/-- The part of a wake reset before the start: what STRAND kept. -/
def strandKeeps (a : Nat) : Bool :=
  storedWords.contains a || inRanges [(0x2044, 0x2058), (0x2090, 0x20A0), (0x3044, 0x3118)] a || a = Reg.FRM_TF_SEL

/-- The state of a wake reset before the start. -/
def State.strandBase (s : State) : State :=
  let d := s.dev
  let u := s.unpowered
  { u with
    dev := { u.dev with
      regs := d.regs.filter (fun p => strandKeeps p.1)
      tm := { tbm := d.tm.tbm, tbsP := d.tm.tbsP, rtcNs := d.tm.rtcNs, rtcAt := d.tm.rtcAt, rtcSrc := d.tm.rtcSrc, steerAt := d.tm.steerAt }
      frm := { turned := d.frm.turned, turnTbm := d.frm.turnTbm }
      gps := { smpBase := d.smp, smpAt := d.tm.tbm, lastEpoch := d.gps.lastEpoch, lastSnap := d.gps.lastSnap }
      sup := { mpAt := d.tm.tbm, resumeAt := some (d.tm.tbm + 2000000) } }
    rcd := { u.rcd with nextSeq := s.rcd.nextSeq } }

/-- The reset counted, with its time. -/
def Dev.resetCounted (d : Dev) (now : Nat) : Dev := (d.inc Reg.SYS_RESET_CNT).wr64 Reg.SYS_LAST_RST_TBM now

theorem State.wakeReset_eq (s : State) : s.wakeReset = onDev (·.resetCounted s.dev.tm.tbm) (s.strandBase.boot rcWAKE) := rfl

theorem exec_wakeExit_strand {s : State} (hst : s.dev.powerState = 5) (hwake : s.dev.pow.wake ≠ 0) (hgood : s.dev.pow.supplyBad = false) :
    exec .wakeExit s = .next (onDev (fun d => ({ d with pow := { wake := s.dev.pow.wake, lines := s.dev.pow.lines } } : Dev).woken 5) s.wakeReset) := by
  refine congrArg Host.Outcome.next ((if_neg (not_or.mpr ⟨by omega, hwake⟩)).trans ((if_neg fun hbad => ?_).trans (if_pos hst)))
  exact absurd (hgood.symm.trans hbad.2) (by decide)

theorem Dev.resetCounted_rdKept (d : Dev) (now : Nat) :
    Dev.RdKept [Reg.SYS_RESET_CNT, Reg.SYS_LAST_RST_TBM, Reg.SYS_LAST_RST_TBM + 4] d (d.resetCounted now) :=
  (((Dev.RdKept.refl _ d).wr (by decide) _).wr (by decide) _).wr (by decide) _

theorem Dev.resetCounted_sameBut (blank : Dev → Dev) (d : Dev) (now : Nat) : Dev.SameBut blank d (d.resetCounted now) :=
  (((Dev.SameBut.refl blank d).wr _ _).wr _ _).wr _ _

theorem wakeExit_strand {s : State} (hst : s.dev.powerState = 5) (hwake : s.dev.pow.wake ≠ 0) (hgood : s.dev.pow.supplyBad = false) :
    ∃ t, exec .wakeExit s = .next t ∧ t.dev.powerState = 0 ∧ t.dev.rd Reg.SYS_RESET_CAUSE = 7#32 ∧ t.dev.armed = false
      ∧ t.dev.imp = { nor := s.dev.imp.nor } ∧ t.dev.tbgState = tbgNone ∧ t.dev.tm.tbm = s.dev.tm.tbm ∧ t.dev.tm.tbsP = s.dev.tm.tbsP
      ∧ t.ldg.slots = s.ldg.slots ∧ t.rcd.nextSeq = s.rcd.nextSeq ∧ t.rcd.keys = s.rcd.keys := by
  have hexec := exec_wakeExit_strand hst hwake hgood
  rw [State.wakeReset_eq] at hexec
  obtain ⟨hldg, hrcd, -, hsame, hcause, -, hwords⟩ := s.strandBase.boot_booted rcWAKE
  have htbg : s.strandBase.dev.rd Reg.TIME_TBG_STATE = resetWord Reg.TIME_TBG_STATE :=
    (Dev.rd_filter (d := s.dev) strandKeeps rfl _).trans (if_neg (by decide))
  obtain ⟨-, hkeys, hseq⟩ := s.strandBase.importArea_kept
  have hslots := s.strandBase.dev.resumeLedger_slots s.strandBase.ldg
  generalize s.strandBase.boot rcWAKE = t at *
  have hcounted := t.dev.resetCounted_rdKept s.dev.tm.tbm
  have hcountedSame := t.dev.resetCounted_sameBut (fun d => { d with rcf := {}, sup := {} }) s.dev.tm.tbm
  have hexec' : exec .wakeExit s = .next { t with dev := ({ t.dev.resetCounted s.dev.tm.tbm with pow := { wake := s.dev.pow.wake, lines := s.dev.pow.lines } } : Dev).woken 5 } := hexec
  generalize t.dev.resetCounted s.dev.tm.tbm = e at *
  have hwoke := Dev.woken_woke ({ e with pow := { wake := s.dev.pow.wake, lines := s.dev.pow.lines } } : Dev) 5
  generalize Dev.woken _ 5 = f at hwoke hexec'
  obtain ⟨hstate, -, -, -, harmed, -, -, hkept, hrest⟩ := hwoke
  have hrd {a : Nat} (h1 : a ∉ wakeWords ++ wakeDisarmWords) (h2 : a ∉ [Reg.SYS_RESET_CNT, Reg.SYS_LAST_RST_TBM, Reg.SYS_LAST_RST_TBM + 4]) :
      f.rd a = t.dev.rd a := (hkept a h1).trans (hcounted a h2)
  have hbase := hsame.trans hcountedSame
  have htm : f.tm = s.strandBase.dev.tm := (hrest.proj (·.tm) fun _ => rfl).trans (hbase.proj (·.tm) fun _ => rfl)
  refine ⟨_, hexec', hstate, ?_, harmed, ?_, ?_, (congrArg TimeBases.tbm htm).trans rfl, (congrArg TimeBases.tbsP htm).trans rfl,
    (congrArg Ledgers.slots hldg).trans (hslots.trans rfl), (congrArg RecStore.nextSeq hrcd).trans (hseq.trans rfl),
    (congrArg RecStore.keys hrcd).trans (hkeys.trans rfl)⟩
  · exact (hrd (by decide) (by decide)).trans hcause
  · exact (hrest.proj (·.imp) fun _ => rfl).trans ((hbase.proj (·.imp) fun _ => rfl).trans rfl)
  · exact congrArg (field · 1 0) ((hrd (by decide) (by decide)).trans ((hwords _ (by decide)).trans htbg))

/-- Settles O34. -/
theorem powerLadder : Obligations.PowerLadder := by
  intro req src g s
  refine ⟨fun h hcode => congrArg Host.Outcome.next (powerEntry_taken h hcode), fun h hcode => ?_, powerEntrySequence_steps,
    powerEntrySequence_ended, wakeEvent_sees src s, wakeExit_parked, exec_wakeExit_unsupplied, wakeExit_strand⟩
  obtain ⟨t, ht, hfacts⟩ := powerEntry_refused h hcode
  exact ⟨t, congrArg Host.Outcome.next ht, hfacts⟩

end Sys2Proof.Machine
end

section
/-! PROOFS. The Tidemark map's tiles: storing one, writing a slot back, the window's slots, and painting (R197 to R210, R222). -/
namespace Sys2Proof.Machine

/-! What the tile operations leave -/

/-- The words that storing tiles and the window touch. -/
def tileTouched : List Nat :=
  [Reg.MAP_TILES_STORED, Reg.MAP_HEAP_FREE, Reg.MAP_WIN_RES, Reg.STATUS pMAP, Reg.FAULT pMAP, Reg.IRQ_RAW pMAP, Reg.REC_SUPP_TOTAL,
    Reg.MAP_UNK_TILES, Reg.MAP_LAST_UNK_X, Reg.MAP_LAST_UNK_Y, Reg.MAP_LAST_UNK_L]

/-- A change of the map and of the words of its tiles. -/
structure Dev.TileOnly (d e : Dev) : Prop where
  words : Dev.RdKept tileTouched d e
  same : Dev.MapOnly d e

theorem Dev.TileOnly.refl (d : Dev) : Dev.TileOnly d d := ⟨.refl _ d, .refl d⟩
theorem Dev.TileOnly.trans {d e f : Dev} (h : Dev.TileOnly d e) (h' : Dev.TileOnly e f) : Dev.TileOnly d f :=
  ⟨h.words.trans h'.words, h.same.trans h'.same⟩

section
variable {d e : Dev} (h : Dev.TileOnly d e)
include h

theorem Dev.TileOnly.map (m : MapEngine) : Dev.TileOnly d { e with map := m } := ⟨h.words.struct rfl, h.same.map m⟩

theorem Dev.TileOnly.wr {a : Nat} (ha : a ∈ tileTouched) (v : W32) : Dev.TileOnly d (e.wr a v) := ⟨h.words.wr ha v, Dev.SameBut.wr h.same a v⟩

theorem Dev.TileOnly.faultRec (b : Nat) (vs : List W32) : Dev.TileOnly d (e.faultRec pMAP b vs) :=
  ⟨h.words.faultRec (by decide) (by decide) (by decide) b vs 0 0, Dev.SameBut.faultRec h.same (fun _ _ => rfl) pMAP b vs 0 0⟩

theorem Dev.TileOnly.show : Dev.TileOnly d e.mapShow := by
  unfold Dev.mapShow
  extract_lets free f dirty
  have hf : Dev.TileOnly d f := (h.wr (by decide) _).wr (by decide) _
  exact (hf.wr (by decide) _).wr (by decide) _

theorem Dev.TileOnly.modWin (k : Nat × Int × Int) (f : WinTile → WinTile) : Dev.TileOnly d (e.modWin k f) := h.map _

end

theorem Dev.storeTile_tileOnly (d : Dev) (t : StoredTile) : Dev.TileOnly d (d.storeTile t) := by
  obtain ⟨m, h | h⟩ := d.storeTile_cases t <;> rw [h]
  · exact ((Dev.TileOnly.refl d).map m).show
  · exact (((Dev.TileOnly.refl d).map m).faultRec _ _).show

theorem Dev.writeBack_tileOnly (d : Dev) (t : WinTile) : Dev.TileOnly d (d.writeBack t) := ((d.storeTile_tileOnly t.stored).modWin _ _).show

theorem Dev.makeSlot_tileOnly (d : Dev) : Dev.TileOnly d d.makeSlot := by
  unfold Dev.makeSlot
  split
  · exact .refl d
  · split
    · exact .refl d
    · next t _ =>
      extract_lets e
      have he : Dev.TileOnly d e := by
        unfold e
        split
        · exact d.writeBack_tileOnly t
        · exact .refl d
      exact he.map _

theorem Dev.enterWindow_tileOnly (d : Dev) (k : Nat × Int × Int) : Dev.TileOnly d (d.enterWindow k) := by
  unfold Dev.enterWindow
  split
  · exact .refl d
  · exact (d.makeSlot_tileOnly.map _).show

theorem Dev.unreadable_tileOnly (d : Dev) (k : Nat × Int × Int) : Dev.TileOnly d (d.unreadable k) := by
  unfold Dev.unreadable
  split
  · exact .refl d
  · split
    · exact d.writeBack_tileOnly _
    · extract_lets src e f
      have hf : Dev.TileOnly d f := (((((Dev.TileOnly.refl d).map _).wr (by decide) _).wr (by decide) _).wr (by decide) _).wr (by decide) _
      exact (hf.wr (by decide) _).faultRec _ _

/-! What becomes of the directory and the window -/

theorem Dev.mapShow_map (d : Dev) : d.mapShow.map = d.map := (d.mapShow_sameBut id).proj (·.map) fun _ => rfl

/-- The map with another directory and other lost tiles. -/
def MapEngine.withTiles (m : MapEngine) (dir : List StoredTile) (lost : List (Nat × Int × Int)) : MapEngine := { m with dir := dir, lostKeys := lost }

/-- What storing a tile makes of the map: its own entry of the directory and its own place among the lost tiles. -/
theorem Dev.storeTile_map (d : Dev) (t : StoredTile) : ∃ dir lost, (d.storeTile t).map = d.map.withTiles dir lost
    ∧ (dir = d.map.dir ∨ ∃ e, e.key = t.key ∧ dir = dirInsert d.map.dir e) ∧ ∀ k, k ≠ t.key → lost.contains k = d.map.lostKeys.contains k := by
  unfold Dev.storeTile
  extract_lets rx size had full
  by_cases hfull : full = true
  · simp only [if_pos hfull]
    rename_i src e
    rw [Dev.mapShow_map, Dev.faultRec_map]
    unfold e
    split
    · exact ⟨d.map.dir, d.map.lostKeys, rfl, .inl rfl, fun _ _ => rfl⟩
    · split
      · exact ⟨_, d.map.lostKeys, rfl, .inr ⟨{ t with cells := uniformRuns cellUnknown, bytes := 0, lost := true }, rfl, rfl⟩, fun _ _ => rfl⟩
      · refine ⟨d.map.dir, _, rfl, .inl rfl, fun k hk => ?_⟩
        simp [hk]
  · simp only [if_neg hfull]
    rw [Dev.mapShow_map]
    refine ⟨_, _, rfl, .inr ⟨{ t with bytes := size, lost := false, unreadable := false }, rfl, rfl⟩, fun k hk => ?_⟩
    simp [hk]

theorem dirInsert_find (l : List StoredTile) {e : StoredTile} {k : Nat × Int × Int} (h : e.key ≠ k) :
    (dirInsert l e).find? (fun t => decide (t.key = k)) = l.find? (fun t => decide (t.key = k)) := by
  induction l with
  | nil => simp [dirInsert, h]
  | cons x r ih =>
    unfold dirInsert
    split
    · simp [h]
    · split
      · next heq => simp [← heq, h]
      · simp [List.find?_cons, ih]

/-- A change that leaves one tile as it was: its entry of the directory, whether it is lost, and its absence from the window. -/
structure Dev.BesideTile (k : Nat × Int × Int) (d e : Dev) : Prop where
  dir : e.dirFind k = d.dirFind k
  lost : e.map.lostKeys.contains k = d.map.lostKeys.contains k
  win : d.winFind k = none → e.winFind k = none

theorem Dev.BesideTile.refl (k : Nat × Int × Int) (d : Dev) : Dev.BesideTile k d d := ⟨rfl, rfl, id⟩

theorem Dev.storeTile_beside (d : Dev) {t : StoredTile} {k : Nat × Int × Int} (h : t.key ≠ k) : Dev.BesideTile k d (d.storeTile t) := by
  obtain ⟨dir, lost, hmap, hdir, hlost⟩ := d.storeTile_map t
  refine ⟨?_, ?_, ?_⟩
  · unfold Dev.dirFind
    rw [hmap]
    rcases hdir with rfl | ⟨e, hkey, rfl⟩
    · rfl
    · exact dirInsert_find _ (hkey ▸ h)
  · rw [hmap]
    exact hlost k h.symm
  · unfold Dev.winFind
    rw [hmap]
    exact id

theorem Dev.winFind_none {d : Dev} {k : Nat × Int × Int} : d.winFind k = none ↔ ∀ x ∈ d.map.win, x.key ≠ k := by
  unfold Dev.winFind
  simp

theorem Dev.winFind_modWin (d : Dev) {k j : Nat × Int × Int} {f : WinTile → WinTile} (hf : ∀ x, (f x).key = x.key) (h : d.winFind k = none) :
    (d.modWin j f).winFind k = none := by
  rw [Dev.winFind_none] at *
  intro y hy
  obtain ⟨x, hx, rfl⟩ := List.mem_map.mp hy
  split
  · exact fun hk => h x hx ((hf x).symm.trans hk)
  · exact h x hx

theorem Dev.winFind_congr {d e : Dev} (h : e.map = d.map) (k : Nat × Int × Int) : e.winFind k = d.winFind k := congrArg (fun m : MapEngine => m.win.find? _) h

theorem Dev.BesideTile.ofMap {k : Nat × Int × Int} {d e f : Dev} (h : Dev.BesideTile k d e) (hmap : f.map = e.map) : Dev.BesideTile k d f := by
  refine ⟨?_, ?_, fun hn => (Dev.winFind_congr hmap k).trans (h.win hn)⟩
  · exact (congrArg (fun m : MapEngine => m.dir.find? _) hmap).trans h.dir
  · exact (congrArg (fun m : MapEngine => m.lostKeys.contains k) hmap).trans h.lost

theorem Dev.writeBack_beside (d : Dev) {t : WinTile} {k : Nat × Int × Int} (h : t.key ≠ k) : Dev.BesideTile k d (d.writeBack t) := by
  obtain ⟨hdir, hlost, hwin⟩ := d.storeTile_beside (t := t.stored) (k := k) h
  have hmod : Dev.BesideTile k d ((d.storeTile t.stored).modWin t.key fun x => { x with dirty := false, since := (d.storeTile t.stored).tm.tbm }) :=
    ⟨hdir, hlost, fun hn => Dev.winFind_modWin _ (fun _ => rfl) (hwin hn)⟩
  exact hmod.ofMap (Dev.mapShow_map _)

/-- A fold that keeps what it has or takes the next ends with its start or a member. -/
theorem foldl_picks {α : Type} {f : Option α → α → Option α} (hf : ∀ m t, f m t = m ∨ f m t = some t) {x : α} :
    ∀ (l : List α) (m : Option α), l.foldl f m = some x → m = some x ∨ x ∈ l
  | [], _, h => .inl h
  | t :: r, m, h => by
    rcases foldl_picks hf r (f m t) h with h' | h'
    · rcases hf m t with hm | ht
      · exact .inl (hm.symm.trans h')
      · have hx : t = x := Option.some.inj (ht.symm.trans h')
        exact .inr (by simp [hx])
    · exact .inr (List.mem_cons_of_mem _ h')

theorem evictee_mem {now : Nat} {win : List WinTile} {t : WinTile} (h : evictee now win = some t) : t ∈ win := by
  unfold evictee at h
  extract_lets pick at h
  have hpick {l : List WinTile} {x : WinTile} (hx : pick l = some x) : x ∈ l := by
    refine (foldl_picks (fun m t => ?_) l none hx).resolve_left nofun
    cases m with
    | none => exact .inr rfl
    | some y =>
      by_cases hlt : t.used < y.used
      · exact .inr (if_pos hlt)
      · exact .inl (if_neg hlt)
  clear_value pick
  split at h
  · next x hx => exact Option.some.inj h ▸ List.mem_of_mem_filter (hpick hx)
  · exact hpick h

theorem Dev.makeSlot_beside {d : Dev} {k : Nat × Int × Int} (h : d.winFind k = none) : Dev.BesideTile k d d.makeSlot := by
  unfold Dev.makeSlot
  split
  · exact .refl k d
  · split
    · exact .refl k d
    · next t ht =>
      extract_lets e
      have hkey : t.key ≠ k := Dev.winFind_none.mp h t (evictee_mem ht)
      have he : Dev.BesideTile k d e := by
        unfold e
        split
        · exact d.writeBack_beside hkey
        · exact .refl k d
      refine ⟨he.dir, he.lost, fun hn => ?_⟩
      have hnone := he.win hn
      rw [Dev.winFind_none] at hnone ⊢
      exact fun x hx => hnone x (List.mem_of_mem_filter hx)

/-- What a tile enters the window as. -/
def Dev.entering (d : Dev) (k : Nat × Int × Int) : Runs := if d.map.lostKeys.contains k then uniformRuns cellUnknown else entryCells (d.dirFind k)

theorem Dev.enterWindow_resident (d : Dev) (k : Nat × Int × Int) : ((d.enterWindow k).winFind k).isSome = true := by
  unfold Dev.enterWindow
  by_cases h : (d.winFind k).isSome = true
  · rw [if_pos h]
    exact h
  · rw [if_neg h]
    extract_lets e x t
    rw [Dev.winFind_congr (Dev.mapShow_map _)]
    unfold Dev.winFind
    simp [List.find?_append, WinTile.key, t]

theorem Dev.enterWindow_enters {d : Dev} {k : Nat × Int × Int} (h : d.winFind k = none) : ∃ x, (d.enterWindow k).winFind k = some x ∧ x.cells = d.entering k := by
  have hno : ¬ (d.winFind k).isSome = true := by rw [h]; decide
  obtain ⟨hdir, hlost, hwin⟩ := Dev.makeSlot_beside h
  unfold Dev.enterWindow
  rw [if_neg hno]
  extract_lets e x t
  refine ⟨t, ?_, ?_⟩
  · rw [Dev.winFind_congr (Dev.mapShow_map _)]
    have hnone : e.map.win.find? (fun t => decide (t.key = k)) = none := hwin h
    have hkey : t.key = k := rfl
    unfold Dev.winFind
    simp [List.find?_append, hnone, hkey]
  · have hcells : t.cells = if e.map.lostKeys.contains k then uniformRuns cellUnknown else entryCells x := rfl
    have hx : x = d.dirFind k := hdir
    rw [hcells, hx, show e.map.lostKeys.contains k = _ from hlost]
    rfl

/-! Written back: no longer dirty (R207) -/

theorem Dev.writeBack_win (d : Dev) (t : WinTile) :
    (d.writeBack t).map.win = d.map.win.map fun x => if x.key = t.key then { x with dirty := false, since := (d.storeTile t.stored).tm.tbm } else x := by
  obtain ⟨dir, lost, hmap, -, -⟩ := d.storeTile_map t.stored
  have hwin : (d.storeTile t.stored).map.win = d.map.win := (congrArg MapEngine.win hmap).trans rfl
  rw [← hwin]
  exact congrArg MapEngine.win (Dev.mapShow_map _)

theorem Dev.writeBack_clean (d : Dev) (t : WinTile) : ∀ x ∈ (d.writeBack t).map.win, x.key = t.key → x.dirty = false := by
  rw [Dev.writeBack_win]
  intro y hy hkey
  obtain ⟨x, -, rfl⟩ := List.mem_map.mp hy
  by_cases h : x.key = t.key
  · rw [if_pos h]
  · rw [if_neg h] at hkey
    exact absurd hkey h

/-- A slot that is dirty after a write-back was dirty before, and is another tile's. -/
theorem Dev.writeBack_dirty {d : Dev} {t y : WinTile} (hy : y ∈ (d.writeBack t).map.win) (hdirty : y.dirty = true) : y ∈ d.map.win ∧ y.key ≠ t.key := by
  have hkey : y.key ≠ t.key := fun h => absurd (d.writeBack_clean t y hy h) (by rw [hdirty]; decide)
  rw [Dev.writeBack_win] at hy
  obtain ⟨x, hx, rfl⟩ := List.mem_map.mp hy
  by_cases h : x.key = t.key
  · rw [if_pos h] at hkey
    exact absurd h hkey
  · rw [if_neg h] at hkey ⊢
    exact ⟨hx, h⟩

theorem foldl_writeBack_clean (l : List WinTile) (d : Dev) (h : ∀ x ∈ d.map.win, x.dirty = true → ∃ t ∈ l, t.key = x.key) :
    ∀ x ∈ (l.foldl (fun d t => d.writeBack t) d).map.win, x.dirty = false := by
  induction l generalizing d with
  | nil =>
    intro x hx
    by_contra hdirty
    obtain ⟨t, ht, -⟩ := h x hx (by simpa using hdirty)
    cases ht
  | cons t r ih =>
    refine ih (d.writeBack t) fun x hx hdirty => ?_
    obtain ⟨hmem, hne⟩ := Dev.writeBack_dirty hx hdirty
    obtain ⟨u, hu, hkey⟩ := h x hmem hdirty
    rcases List.mem_cons.mp hu with rfl | hr
    · exact absurd hkey.symm hne
    · exact ⟨u, hr, hkey⟩

theorem Dev.writeAll_clean (d : Dev) : ∀ x ∈ d.writeAll.map.win, x.dirty = false :=
  foldl_writeBack_clean _ d fun x hx hdirty => ⟨x, List.mem_filter.mpr ⟨hx, hdirty⟩, rfl⟩

/-! Painting (R197 to R203) -/

theorem Dev.MapOnly.wr {d e : Dev} (h : Dev.MapOnly d e) (a : Nat) (v : W32) : Dev.MapOnly d (e.wr a v) := Dev.SameBut.wr h a v

theorem Dev.MapOnly.foldl {α : Type} {f : Dev → α → Dev} (xs : List α) (d : Dev) (h : ∀ x e, Dev.MapOnly e (f e x)) : Dev.MapOnly d (xs.foldl f d) :=
  foldl_related Dev.MapOnly.refl Dev.MapOnly.trans xs d fun x _ e => h x e

theorem Dev.paintCell_mapOnly (d : Dev) (layer rho : Nat) (ij : Int × Int) : Dev.MapOnly d (d.paintCell layer rho ij) := by
  unfold Dev.paintCell
  extract_lets k e
  have he : Dev.MapOnly d e := by
    unfold e
    split
    · exact .refl d
    · exact (d.enterWindow_tileOnly k.1).same.wr _ _
  split
  · exact he
  · next t _ =>
    extract_lets v
    rename_i put _ _
    have hput (x : Dev) (count rate : Nat) (hx : Dev.MapOnly d x) : Dev.MapOnly d (put x count rate) := by
      unfold put
      extract_lets rc f seq
      have hf : Dev.MapOnly d f := by
        unfold f
        split
        · exact hx.wr _ _
        · exact hx
      exact Dev.modWin_mapOnly hf _ _
    clear_value put
    split
    · exact hput _ _ _ he
    · split
      · exact he.wr _ _
      · exact hput _ _ _ he

theorem Dev.paintPiece_mapOnly (d : Dev) (c layer : Nat) (a b : Int) (first : Bool) (p : Part) (f : FramePast) :
    Dev.MapOnly d (d.paintPiece c layer a b first p f) := by
  unfold Dev.paintPiece
  extract_lets e
  split
  · exact Dev.MapOnly.foldl _ d fun ij x => x.paintCell_mapOnly _ _ ij
  · exact .refl d

theorem Dev.paintSpan_mapOnly (d : Dev) (c : Nat) (layer : Option Nat) (st : Stroke) (first : Bool) (ab : Int × Int) :
    Dev.MapOnly d (d.paintSpan c layer st first ab) := by
  unfold Dev.paintSpan
  extract_lets f p
  split
  · exact d.paintPiece_mapOnly _ _ _ _ _ _ _
  · exact (d.unpainted_counted _).2

theorem Dev.paintStroke_mapOnly (d : Dev) (c : Nat) (layer : Option Nat) (t1 : Int) (last : Bool) (st : Stroke) :
    Dev.MapOnly d (d.paintStroke c layer t1 last st).1 := by
  unfold Dev.paintStroke
  split
  · extract_lets a lim spans e done g old
    have he : Dev.MapOnly d e := Dev.MapOnly.foldl spans d fun ab x => x.paintSpan_mapOnly _ _ _ _ ab
    split <;> exact he
  · exact .refl d

theorem Dev.setStrokes_mapOnly {d e : Dev} (h : Dev.MapOnly d e) (c : Nat) (l : List Stroke) : Dev.MapOnly d (e.setStrokes c l) := h.map _

theorem Dev.paintChannel_mapOnly (d : Dev) (c : Nat) : Dev.MapOnly d (d.paintChannel c) := by
  unfold Dev.paintChannel
  extract_lets layer t1 n r
  refine Dev.setStrokes_mapOnly ?_ _ _
  exact List.foldlRecOn (motive := fun a : (Dev × List Stroke) × Nat => Dev.MapOnly d a.1.1) _ _ (.refl d)
    fun a ha st _ => ha.trans (a.1.1.paintStroke_mapOnly _ _ _ _ st)

/-- The frame's work done. -/
def Dev.painted (d : Dev) : Dev := ({ d with map := { d.map with paintDue := false } }).dropPast.mapShow

theorem Dev.paintFrame_due {d : Dev} (h : d.map.paintDue = true) :
    d.paintFrame = ((d.map.strokes.map (·.1)).foldl (fun d c => d.paintChannel c) d).painted := if_pos h

theorem Dev.painted_spec (d : Dev) : d.painted.map.paintDue = false ∧ Dev.MapOnly d d.painted :=
  ⟨congrArg MapEngine.paintDue (Dev.mapShow_map _), (((Dev.MapOnly.refl d).map _).map _).show⟩

theorem Dev.paintFrame_spec {d : Dev} (h : d.map.paintDue = true) : d.paintFrame.map.paintDue = false ∧ Dev.MapOnly d d.paintFrame := by
  rw [Dev.paintFrame_due h]
  have hchans : Dev.MapOnly d ((d.map.strokes.map (·.1)).foldl (fun d c => d.paintChannel c) d) :=
    Dev.MapOnly.foldl _ d fun c e => e.paintChannel_mapOnly c
  generalize (d.map.strokes.map (·.1)).foldl (fun d c => d.paintChannel c) d = e at *
  obtain ⟨hdue, hsame⟩ := e.painted_spec
  exact ⟨hdue, hchans.trans hsame⟩

end Sys2Proof.Machine
end

section
/-! PROOFS. O39: the map's job, painting, paging, write-back and scrub (R195 to R225). -/
namespace Sys2Proof.Machine

/-! JOB_CMD (R195, R223) -/

/-- What every one of these commands keeps. -/
def MapKept (s t : State) : Prop := t.ldg = s.ldg ∧ t.rcd = s.rcd ∧ t.dev.drv = s.dev.drv

theorem Dev.MapOnly.kept {s : State} {e : Dev} (h : Dev.MapOnly s.dev e) : MapKept s { s with dev := e } :=
  ⟨rfl, rfl, h.proj (·.drv) fun _ => rfl⟩

/-- A job command that goes through. -/
def jobDone (req : Requester) (s t : State) (st : Nat) : Prop :=
  answerTo req t = ⟨.ok, 1, []⟩ ∧ t.dev.jobState = st ∧ t.dev.bit (Reg.IRQ_RAW pMAP) 19 = true ∧ MapKept s t

/-- A job command that the state does not allow. -/
def jobRefused (req : Requester) (s t : State) : Prop :=
  answerTo req t = ⟨.len, 0, []⟩ ∧ t.dev.map = s.dev.map ∧ t.dev.bit (Reg.FAULT pMAP) 20 = true ∧ t.dev.jobState = s.dev.jobState ∧ MapKept s t

theorem Dev.setJob_shows (d : Dev) {st : Nat} (hst : st < 4) : (d.setJob st).jobState = st ∧ (d.setJob st).bit (Reg.IRQ_RAW pMAP) 19 = true := by
  refine ⟨?_, Dev.bit_irq_same _ pMAP (by decide)⟩
  have hword : (d.setJob st).rd Reg.MAP_JOB_STATE = w32 st := (Dev.rd_irq_ne _ pMAP 19 (by decide)).trans (Dev.rd_wr_same d _ _)
  exact (congrArg (field · 1 0) hword).trans ((by decide : ∀ n < 4, field (w32 n) 1 0 = n) st hst)

theorem Dev.setJob_mapOnly (d : Dev) (st : Nat) : Dev.MapOnly d (d.setJob st) := Dev.SameBut.irq ((Dev.MapOnly.refl d).wr _ _) pMAP 19

theorem job_accepted {req : Requester} {v : W32} {act : Act} {s : State} (h : Accepts req Reg.MAP_JOB_CMD v s) {f : Dev → Dev} {st : Nat} (hst : st < 4)
    (hact : ∀ k, act (s.woken k) = (.ok, onDev (fun d => (f d).setJob st) (s.woken k))) (hf : ∀ d, Dev.MapOnly d (f d)) :
    ∃ k, ∃ t, hostCmd req Reg.MAP_JOB_CMD v act s = t ∧ jobDone req s t st ∧ t.dev.map = (f (s.woken k).dev).map := by
  obtain ⟨k, hk⟩ := hostCmd_acts h hact
  have hsame : Dev.MapOnly (s.woken k).dev ((f (s.woken k).dev).setJob st) := (hf _).trans (Dev.setJob_mapOnly _ st)
  have hmap : ((f (s.woken k).dev).setJob st).map = (f (s.woken k).dev).map := rfl
  obtain ⟨hstate, hirq⟩ := (f (s.woken k).dev).setJob_shows hst
  let u : State := { s.woken k with dev := (f (s.woken k).dev).setJob st }
  have hrd (b : Nat) : (answeredOk req Reg.MAP_JOB_CMD u).dev.rd b = ((f (s.woken k).dev).setJob st).rd b := answeredOk_rd req Reg.MAP_JOB_CMD u b
  refine ⟨k, _, hk, ⟨answerTo_answeredOk req Reg.MAP_JOB_CMD u, (congrArg (field · 1 0) (hrd _)).trans hstate, (congrArg (bitOf · 19) (hrd _)).trans hirq, rfl, rfl, ?_⟩, hmap⟩
  exact (hsame.proj (·.drv) fun _ => rfl).trans rfl

theorem job_refused {req : Requester} {v : W32} {act : Act} {s : State} (h : Accepts req Reg.MAP_JOB_CMD v s)
    (hact : ∀ k, act (s.woken k) = mapRefuse (s.woken k)) : ∃ t, hostCmd req Reg.MAP_JOB_CMD v act s = t ∧ jobRefused req s t := by
  obtain ⟨k, hk⟩ := h.woken
  let u : State := onDev (·.fault pMAP 20) (s.woken k)
  have hcmd : hostCmd req Reg.MAP_JOB_CMD v act s = onDev (·.respond req Reg.MAP_JOB_CMD .len 0 []) u := by
    rw [hostCmd_accepted h, hk, hact]
    rfl
  have hrd (a : Nat) (h1 : a ≠ Reg.HOST_LAST_ERR) (h2 : a ≠ Reg.HOST_LAST_ERR_ADDR) :
      (onDev (·.respond req Reg.MAP_JOB_CMD .len 0 []) u).dev.rd a = ((s.woken k).dev.fault pMAP 20).rd a := Dev.rd_respond_ne _ _ _ _ _ _ h1 h2
  have hsame : Dev.SameBut id (s.woken k).dev u.dev := (Dev.SameBut.refl id _).fault pMAP 20
  refine ⟨_, hcmd, answerTo_respond u req Reg.MAP_JOB_CMD .len 0 [], ?_, (congrArg (bitOf · 20) (hrd _ (by decide) (by decide))).trans ?_,
    congrArg (field · 1 0) ((hrd _ (by decide) (by decide)).trans ?_), rfl, rfl, ?_⟩
  · exact (Dev.respond_map u.dev req Reg.MAP_JOB_CMD .len 0 []).trans ((hsame.proj (·.map) fun _ => rfl).trans rfl)
  · exact Dev.bit_fault_same _ pMAP (by decide)
  · exact Dev.rd_fault_ne (s.woken k).dev pMAP 20 (by decide) (by decide)
  · exact (Dev.respond_drv u.dev req Reg.MAP_JOB_CMD .len 0 []).trans ((hsame.proj (·.drv) fun _ => rfl).trans rfl)

theorem Dev.freeMap_spec (d : Dev) : Dev.MapOnly d d.freeMap ∧ d.freeMap.map.dir = [] ∧ d.freeMap.map.win = [] := by
  have hfree : ∀ e : Dev, e.map.dir = [] → e.map.win = [] → e.mapShow.map.dir = [] ∧ e.mapShow.map.win = [] := fun e hdir hwin =>
    ⟨(congrArg MapEngine.dir e.mapShow_map).trans hdir, (congrArg MapEngine.win e.mapShow_map).trans hwin⟩
  exact ⟨((((Dev.MapOnly.refl d).map _).wr _ _).wr _ _).show, hfree _ rfl rfl⟩

/-- JOB_CMD = 1: the map emptied where no job was open. -/
def Dev.jobCleared (d : Dev) : Dev := if d.jobState = joNONE then d.freeMap else d

theorem Dev.jobCleared_mapOnly (d : Dev) : Dev.MapOnly d d.jobCleared := by
  unfold Dev.jobCleared
  split
  · exact d.freeMap_spec.1
  · exact .refl d

theorem jobOpen_accepted {req : Requester} {s : State} (h : Accepts req Reg.MAP_JOB_CMD 1#32 s) (hvalid : s.dev.stat pPOSE 16 = true)
    (hst : s.dev.jobState = joNONE ∨ s.dev.jobState = joLOADING) :
    ∃ k, ∃ t, exec (.jobOpen req) s = .next t ∧ jobDone req s t joOPEN ∧ t.dev.map = (s.woken k).dev.jobCleared.map := by
  obtain ⟨k, t, ht, hdone, hmap⟩ := job_accepted h (st := joOPEN) (by decide) (act := actJobCmd 1#32) (f := Dev.jobCleared) (fun k => if_pos ⟨hst, hvalid⟩) Dev.jobCleared_mapOnly
  exact ⟨k, t, congrArg Host.Outcome.next ht, hdone, hmap⟩

theorem jobOpen_fromNone {req : Requester} {s : State} (h : Accepts req Reg.MAP_JOB_CMD 1#32 s) (hvalid : s.dev.stat pPOSE 16 = true)
    (hst : s.dev.jobState = joNONE) :
    ∃ t, exec (.jobOpen req) s = .next t ∧ jobDone req s t joOPEN ∧ t.dev.map.dir = [] ∧ t.dev.map.win = [] := by
  obtain ⟨k, t, ht, hdone, hmap⟩ := jobOpen_accepted h hvalid (.inl hst)
  have hclear : (s.woken k).dev.jobCleared = (s.woken k).dev.freeMap := if_pos hst
  obtain ⟨-, hdir, hwin⟩ := (s.woken k).dev.freeMap_spec
  rw [hclear] at hmap
  exact ⟨t, ht, hdone, (congrArg MapEngine.dir hmap).trans hdir, (congrArg MapEngine.win hmap).trans hwin⟩

theorem jobOpen_fromLoading {req : Requester} {s : State} (h : Accepts req Reg.MAP_JOB_CMD 1#32 s) (hvalid : s.dev.stat pPOSE 16 = true)
    (hst : s.dev.jobState = joLOADING) : ∃ t, exec (.jobOpen req) s = .next t ∧ jobDone req s t joOPEN ∧ t.dev.map = s.dev.map := by
  obtain ⟨k, t, ht, hdone, hmap⟩ := jobOpen_accepted h hvalid (.inr hst)
  have hclear : (s.woken k).dev.jobCleared = (s.woken k).dev := if_neg (by rw [show (s.woken k).dev.jobState = joLOADING from hst]; decide)
  rw [hclear] at hmap
  exact ⟨t, ht, hdone, hmap⟩

theorem jobOpen_refused {req : Requester} {s : State} (h : Accepts req Reg.MAP_JOB_CMD 1#32 s) (hst : s.dev.jobState = joOPEN ∨ s.dev.jobState = joCLOSED) :
    ∃ t, exec (.jobOpen req) s = .next t ∧ jobRefused req s t := by
  have hno : ¬ ((s.dev.jobState = joNONE ∨ s.dev.jobState = joLOADING) ∧ s.dev.stat pPOSE 16 = true) := by
    rintro ⟨hjob, -⟩
    rcases hst with hst | hst <;> rw [hst] at hjob <;> revert hjob <;> decide
  obtain ⟨t, ht, href⟩ := job_refused h (act := actJobCmd 1#32) fun k => if_neg hno
  exact ⟨t, congrArg Host.Outcome.next ht, href⟩

/-- A command that empties the map and sets the job's state. -/
theorem job_freed {req : Requester} {v : W32} {act : Act} {s : State} (h : Accepts req Reg.MAP_JOB_CMD v s) {st : Nat} (hst : st < 4)
    (hact : ∀ k, act (s.woken k) = (.ok, onDev (fun d => d.freeMap.setJob st) (s.woken k))) :
    ∃ t, hostCmd req Reg.MAP_JOB_CMD v act s = t ∧ jobDone req s t st ∧ t.dev.map.dir = [] ∧ t.dev.map.win = [] := by
  obtain ⟨k, t, ht, hdone, hmap⟩ := job_accepted h hst hact fun d => d.freeMap_spec.1
  obtain ⟨-, hdir, hwin⟩ := (s.woken k).dev.freeMap_spec
  exact ⟨t, ht, hdone, (congrArg MapEngine.dir hmap).trans hdir, (congrArg MapEngine.win hmap).trans hwin⟩

theorem jobLoad_outcome {req : Requester} {s : State} (h : Accepts req Reg.MAP_JOB_CMD 2#32 s) (hvalid : s.dev.stat pPOSE 16 = true) :
    (s.dev.jobState = joNONE → ∃ t, exec (.jobLoad req) s = .next t ∧ jobDone req s t joLOADING ∧ t.dev.map.dir = [] ∧ t.dev.map.win = [])
      ∧ (s.dev.jobState ≠ joNONE → ∃ t, exec (.jobLoad req) s = .next t ∧ jobRefused req s t) := by
  refine ⟨fun hst => ?_, fun hst => ?_⟩
  · obtain ⟨t, ht, hdone⟩ := job_freed h (st := joLOADING) (act := actJobCmd 2#32) (by decide) fun k => if_pos ⟨hst, hvalid⟩
    exact ⟨t, congrArg Host.Outcome.next ht, hdone⟩
  · obtain ⟨t, ht, href⟩ := job_refused h (act := actJobCmd 2#32) fun k => if_neg fun hno => hst hno.1
    exact ⟨t, congrArg Host.Outcome.next ht, href⟩

theorem jobClose_outcome {req : Requester} {s : State} (h : Accepts req Reg.MAP_JOB_CMD 3#32 s) :
    (s.dev.jobState = joOPEN → ∃ t, exec (.jobClose req) s = .next t ∧ jobDone req s t joCLOSED ∧ ∀ x ∈ t.dev.map.win, x.dirty = false)
      ∧ (s.dev.jobState ≠ joOPEN → ∃ t, exec (.jobClose req) s = .next t ∧ jobRefused req s t) := by
  refine ⟨fun hst => ?_, fun hst => ?_⟩
  · obtain ⟨k, t, ht, hdone, hmap⟩ :=
      job_accepted h (st := joCLOSED) (by decide) (act := actJobCmd 3#32) (f := Dev.writeAll) (fun k => if_pos hst) Dev.writeAll_mapOnly
    have hclean := (s.woken k).dev.writeAll_clean
    rw [← hmap] at hclean
    exact ⟨t, congrArg Host.Outcome.next ht, hdone, hclean⟩
  · obtain ⟨t, ht, href⟩ := job_refused h (act := actJobCmd 3#32) fun k => if_neg hst
    exact ⟨t, congrArg Host.Outcome.next ht, href⟩

theorem jobDiscard_outcome {req : Requester} {s : State} (h : Accepts req Reg.MAP_JOB_CMD 4#32 s) :
    (s.dev.jobState = joLOADING ∨ s.dev.jobState = joCLOSED →
        ∃ t, exec (.jobDiscard req) s = .next t ∧ jobDone req s t joNONE ∧ t.dev.map.dir = [] ∧ t.dev.map.win = [])
      ∧ (s.dev.jobState = joNONE ∨ s.dev.jobState = joOPEN → ∃ t, exec (.jobDiscard req) s = .next t ∧ jobRefused req s t) := by
  refine ⟨fun hst => ?_, fun hst => ?_⟩
  · obtain ⟨t, ht, hdone⟩ := job_freed h (st := joNONE) (act := actJobCmd 4#32) (by decide) fun k => if_pos hst
    exact ⟨t, congrArg Host.Outcome.next ht, hdone⟩
  · have hno : ¬ (s.dev.jobState = joLOADING ∨ s.dev.jobState = joCLOSED) := by
      rcases hst with hst | hst <;> rw [hst] <;> decide
    obtain ⟨t, ht, href⟩ := job_refused h (act := actJobCmd 4#32) fun k => if_neg hno
    exact ⟨t, congrArg Host.Outcome.next ht, href⟩

/-! MAP_PAINT (R203) -/

theorem mapPaint_idle {s : State} (h : s.dev.map.paintDue = false ∨ s.dev.frm.stage = 0) : exec .mapPaint s = .next s := by
  have hno : ¬ (s.dev.map.paintDue = true ∧ s.dev.frm.stage ≠ 0) := by
    rintro ⟨hdue, hstage⟩
    rcases h with h | h
    · exact absurd (h.symm.trans hdue) (by decide)
    · exact hstage h
  exact congrArg Host.Outcome.next (onDev_congr (g := id) (if_neg hno))

theorem mapPaint_paints {s : State} (hdue : s.dev.map.paintDue = true) (hstage : s.dev.frm.stage ≠ 0) :
    ∃ t, exec .mapPaint s = .next t ∧ t.dev.map.paintDue = false ∧ t.dev.pose = s.dev.pose
      ∧ s.dev.frm.turnTbm + (if s.dev.tf = 250000 then 100000 else 200000) ≤ t.dev.tm.tbm ∧ MapKept s t := by
  let due := s.dev.frm.turnTbm + (if s.dev.tf = 250000 then 100000 else 200000)
  have hreach := s.dev.toTbm_reaches due
  have hexec : exec .mapPaint s = .next { s with dev := (s.dev.toTbm due).paintFrame } :=
    congrArg Host.Outcome.next (onDev_congr (g := fun d => (d.toTbm due).paintFrame) (if_pos ⟨hdue, hstage⟩))
  obtain ⟨hpainted, hsame⟩ := Dev.paintFrame_spec (d := s.dev.toTbm due) hdue
  generalize (s.dev.toTbm due).paintFrame = e at *
  refine ⟨_, hexec, hpainted, (hsame.proj (·.pose) fun _ => rfl).trans rfl, ?_, rfl, rfl, (hsame.proj (·.drv) fun _ => rfl).trans rfl⟩
  exact hreach.trans (Nat.le_of_eq (hsame.proj (·.tm.tbm) fun _ => rfl).symm)

/-! PAGE_IN_COMPLETE (R205, R222) -/

/-- A page-in counted, with the longest wait. -/
def Dev.pagedIn (d : Dev) (us : Nat) : Dev := (d.inc Reg.MAP_PAGE_IN_CNT).peak Reg.MAP_PAGE_IN_PEAK us

theorem Dev.pagedIn_spec (d : Dev) (us : Nat) : (d.pagedIn us).rd Reg.MAP_PAGE_IN_CNT = d.rd Reg.MAP_PAGE_IN_CNT + 1#32 ∧ (d.pagedIn us).map = d.map
    ∧ Dev.SameBut id d (d.pagedIn us) := by
  unfold Dev.pagedIn Dev.peak
  split
  · exact ⟨(Dev.rd_wr_ne _ _ (by decide)).trans (Dev.rd_wr_same d _ _), rfl, rfl⟩
  · exact ⟨Dev.rd_wr_same d _ _, rfl, rfl⟩

/-- The tile as it was read. -/
def Dev.readTile (d : Dev) (k : Nat × Int × Int) (readable : Bool) : Dev := if readable then d else d.unreadable k

theorem Dev.readTile_tileOnly (d : Dev) (k : Nat × Int × Int) (readable : Bool) : Dev.TileOnly d (d.readTile k readable) := by
  cases readable with
  | true => exact .refl d
  | false => exact d.unreadable_tileOnly k

theorem exec_pageInComplete {s : State} {tile : Nat} {a : PageIn} (h : s.dev.map.asks[tile]? = some a) (readable : Bool) :
    exec (.pageInComplete tile readable) s = .next (onDev (fun d => ((d.readTile (a.layer, a.x, a.y) readable).pagedIn
      (((d.readTile (a.layer, a.x, a.y) readable).tm.tbm - a.asked) / 1000)).enterWindow (a.layer, a.x, a.y)) s) := by
  change execPageInComplete tile readable s = _
  unfold execPageInComplete
  refine congrArg Host.Outcome.next (onDev_congr (g := fun d => ((d.readTile (a.layer, a.x, a.y) readable).pagedIn
    (((d.readTile (a.layer, a.x, a.y) readable).tm.tbm - a.asked) / 1000)).enterWindow (a.layer, a.x, a.y)) ?_)
  rw [h]
  rfl

theorem pageInComplete_enters {s : State} {tile : Nat} {a : PageIn} (h : s.dev.map.asks[tile]? = some a) (readable : Bool) :
    ∃ t, exec (.pageInComplete tile readable) s = .next t ∧ t.dev.rd Reg.MAP_PAGE_IN_CNT = s.dev.rd Reg.MAP_PAGE_IN_CNT + 1#32
      ∧ (t.dev.winFind (a.layer, a.x, a.y)).isSome = true ∧ t.dev.tm = s.dev.tm ∧ MapKept s t
      ∧ (readable = true → s.dev.winFind (a.layer, a.x, a.y) = none →
          ∃ x, t.dev.winFind (a.layer, a.x, a.y) = some x ∧ x.cells = s.dev.entering (a.layer, a.x, a.y)) := by
  have hexec := exec_pageInComplete h readable
  generalize (a.layer, a.x, a.y) = k at *
  obtain ⟨hread, hreadSame⟩ := s.dev.readTile_tileOnly k readable
  obtain ⟨hcount, hmap, hcountSame⟩ := (s.dev.readTile k readable).pagedIn_spec (((s.dev.readTile k readable).tm.tbm - a.asked) / 1000)
  have htrue : readable = true → s.dev.readTile k readable = s.dev := fun hr => if_pos hr
  have hexec' : exec (.pageInComplete tile readable) s
      = .next { s with dev := ((s.dev.readTile k readable).pagedIn (((s.dev.readTile k readable).tm.tbm - a.asked) / 1000)).enterWindow k } := hexec
  clear hexec
  generalize (s.dev.readTile k readable).pagedIn (((s.dev.readTile k readable).tm.tbm - a.asked) / 1000) = e at *
  generalize s.dev.readTile k readable = b at *
  obtain ⟨henter, henterSame⟩ := e.enterWindow_tileOnly k
  have hall : Dev.MapOnly s.dev (e.enterWindow k) :=
    (hreadSame.trans (congrArg (fun d : Dev => ({ d with map := {}, rcf := {} } : Dev)) hcountSame)).trans henterSame
  refine ⟨_, hexec', ?_, e.enterWindow_resident k, hall.proj (·.tm) fun _ => rfl, hall.kept, fun hr hnone => ?_⟩
  · exact (henter _ (by decide)).trans (hcount.trans (congrArg (· + 1#32) (hread _ (by decide))))
  · have hb : b = s.dev := htrue hr
    subst hb
    obtain ⟨x, hx, hcells⟩ := Dev.enterWindow_enters (d := e) (k := k) ((Dev.winFind_congr hmap k).trans hnone)
    refine ⟨x, hx, hcells.trans ?_⟩
    exact congrArg (fun m : MapEngine => if m.lostKeys.contains k then uniformRuns cellUnknown else entryCells (m.dir.find? fun t => decide (t.key = k))) hmap

/-! TILE_WRITE_BACK (R207) -/

theorem exec_tileWriteBack {s : State} {tile : Nat} {w : WinTile} (h : s.dev.map.win[tile]? = some w) (hdirty : w.dirty = true) (readsBack : Bool) :
    exec (.tileWriteBack tile readsBack) s = .next (onDev (fun d => if readsBack then (d.toTbm (w.since + d.rdN Reg.MAP_WB_PERIOD * 1000000)).writeBack w
      else d.toTbm (w.since + d.rdN Reg.MAP_WB_PERIOD * 1000000)) s) := by
  change execTileWriteBack tile readsBack s = _
  unfold execTileWriteBack
  refine congrArg Host.Outcome.next (onDev_congr (g := fun d => if readsBack then (d.toTbm (w.since + d.rdN Reg.MAP_WB_PERIOD * 1000000)).writeBack w
      else d.toTbm (w.since + d.rdN Reg.MAP_WB_PERIOD * 1000000)) ?_)
  rw [h]
  exact if_pos hdirty

theorem tileWriteBack_writes {s : State} {tile : Nat} {w : WinTile} (h : s.dev.map.win[tile]? = some w) (hdirty : w.dirty = true) :
    ∃ t, exec (.tileWriteBack tile true) s = .next t ∧ (∀ x ∈ t.dev.map.win, x.key = w.key → x.dirty = false)
      ∧ w.since + s.dev.rdN Reg.MAP_WB_PERIOD * 1000000 ≤ t.dev.tm.tbm ∧ MapKept s t := by
  have hexec := exec_tileWriteBack h hdirty true
  have hreach := s.dev.toTbm_reaches (w.since + s.dev.rdN Reg.MAP_WB_PERIOD * 1000000)
  have hdrv : (s.dev.toTbm (w.since + s.dev.rdN Reg.MAP_WB_PERIOD * 1000000)).drv = s.dev.drv := rfl
  have hexec' : exec (.tileWriteBack tile true) s
      = .next { s with dev := (s.dev.toTbm (w.since + s.dev.rdN Reg.MAP_WB_PERIOD * 1000000)).writeBack w } := hexec
  generalize s.dev.toTbm (w.since + s.dev.rdN Reg.MAP_WB_PERIOD * 1000000) = e at hexec' hreach hdrv
  have hsame := e.writeBack_mapOnly w
  refine ⟨_, hexec', e.writeBack_clean w, ?_, rfl, rfl, (hsame.proj (·.drv) fun _ => rfl).trans hdrv⟩
  exact hreach.trans (Nat.le_of_eq (hsame.proj (·.tm.tbm) fun _ => rfl).symm)

theorem tileWriteBack_fails {s : State} {tile : Nat} {w : WinTile} (h : s.dev.map.win[tile]? = some w) (hdirty : w.dirty = true) :
    ∃ t, exec (.tileWriteBack tile false) s = .next t ∧ t.dev.map = s.dev.map ∧ t.dev.regs = s.dev.regs ∧ MapKept s t :=
  ⟨_, exec_tileWriteBack h hdirty false, rfl, rfl, rfl, rfl, rfl⟩

/-! MAP_SCRUB (R220 to R222) -/

/-- The words that the map shows. -/
def showWords : List Nat := [Reg.MAP_TILES_STORED, Reg.MAP_HEAP_FREE, Reg.MAP_WIN_RES, Reg.STATUS pMAP]

theorem Dev.mapShow_rdKept (d : Dev) : Dev.RdKept showWords d d.mapShow := by
  unfold Dev.mapShow
  extract_lets free f dirty
  have hf : Dev.RdKept showWords d f := ((Dev.RdKept.refl _ d).wr (by decide) _).wr (by decide) _
  exact (hf.wr (by decide) _).setStat (by decide) _ _

theorem mapScrub_corrected (s : State) : ∃ t, exec (.mapScrub [.corrected]) s = .next t
    ∧ t.dev.rd Reg.MAP_CORR_CNT = sat32 (s.dev.rdN Reg.MAP_CORR_CNT + 1) ∧ t.dev.map = s.dev.map ∧ MapKept s t := by
  have hexec : exec (.mapScrub [.corrected]) s = .next { s with dev := (s.dev.incSat Reg.MAP_CORR_CNT).mapShow } := rfl
  have hcount : (s.dev.incSat Reg.MAP_CORR_CNT).rd Reg.MAP_CORR_CNT = sat32 (s.dev.rdN Reg.MAP_CORR_CNT + 1) := Dev.rd_wr_same s.dev _ _
  have hsame : Dev.MapOnly s.dev (s.dev.incSat Reg.MAP_CORR_CNT) := (Dev.MapOnly.refl _).wr _ _
  have hmap : (s.dev.incSat Reg.MAP_CORR_CNT).map = s.dev.map := rfl
  generalize s.dev.incSat Reg.MAP_CORR_CNT = e at *
  exact ⟨_, hexec, (e.mapShow_rdKept _ (by decide)).trans hcount, e.mapShow_map.trans hmap, hsame.show.kept⟩

/-- A dirty slot with a bad word: its eight cells unknown, counted, with the interrupt and its record. -/
def Dev.wordLost (d : Dev) (w : WinTile) (word : Nat) : Dev :=
  ((((d.modWin w.key (fun x => { x with cells := loseWord x.cells word })).addSat Reg.MAP_UNK_CELLS 8).irq pMAP 18).recIrq pMAP 18
    (tileWords w.key ++ [w32 (8 * word)]))

theorem exec_mapScrub_window {s : State} {slot : Nat} {w : WinTile} (h : s.dev.map.win[slot]? = some w) (hdirty : w.dirty = true) (word : Fin 8192) :
    exec (.mapScrub [.window slot word]) s = .next (onDev (fun d => (d.wordLost w word).mapShow) s) := by
  have hone : s.dev.scrubOne (.window slot word) = s.dev.wordLost w word := by
    unfold Dev.scrubOne
    dsimp only
    rw [h]
    dsimp only
    rw [if_pos hdirty]
    rfl
  exact congrArg (fun d : Dev => Host.Outcome.next ({ s with dev := d.mapShow } : State)) hone

theorem Dev.wordLost_spec {d : Dev} {slot : Nat} {w : WinTile} (h : d.map.win[slot]? = some w) (word : Nat) :
    (d.wordLost w word).map.win[slot]? = some { w with cells := loseWord w.cells word }
      ∧ (d.wordLost w word).rd Reg.MAP_UNK_CELLS = sat32 (d.rdN Reg.MAP_UNK_CELLS + 8) ∧ (d.wordLost w word).bit (Reg.IRQ_RAW pMAP) 18 = true
      ∧ Dev.MapOnly d (d.wordLost w word) := by
  let a := (d.modWin w.key (fun x => { x with cells := loseWord x.cells word })).addSat Reg.MAP_UNK_CELLS 8
  have ha : Dev.MapOnly d a := (Dev.modWin_mapOnly (.refl d) _ _).wr _ _
  have hcells : a.rd Reg.MAP_UNK_CELLS = sat32 (d.rdN Reg.MAP_UNK_CELLS + 8) := Dev.rd_wr_same _ _ _
  have hmap : ((a.irq pMAP 18).recIrq pMAP 18 (tileWords w.key ++ [w32 (8 * word)])).map = (a.irq pMAP 18).map := Dev.emit_map _ _
  refine ⟨?_, ?_, ?_, ?_⟩
  · refine (congrArg (fun m : MapEngine => m.win[slot]?) hmap).trans ?_
    have hwin : (a.irq pMAP 18).map.win = d.map.win.map fun t => if t.key = w.key then { t with cells := loseWord t.cells word } else t := rfl
    rw [hwin, List.getElem?_map, h]
    simp
  · exact (Dev.rd_emit_ne _ _ (by decide)).trans ((Dev.rd_irq_ne _ _ _ (by decide)).trans hcells)
  · exact (congrArg (bitOf · 18) (Dev.rd_emit_ne _ _ (by decide))).trans (Dev.bit_irq_same a pMAP (by decide))
  · exact Dev.SameBut.emit (Dev.SameBut.irq ha pMAP 18) (fun _ _ => rfl) _

theorem mapScrub_window {s : State} {slot : Nat} {w : WinTile} (h : s.dev.map.win[slot]? = some w) (hdirty : w.dirty = true) (word : Fin 8192) :
    ∃ t, exec (.mapScrub [.window slot word]) s = .next t ∧ t.dev.map.win[slot]? = some { w with cells := loseWord w.cells word }
      ∧ t.dev.rd Reg.MAP_UNK_CELLS = sat32 (s.dev.rdN Reg.MAP_UNK_CELLS + 8) ∧ t.dev.bit (Reg.IRQ_RAW pMAP) 18 = true ∧ MapKept s t := by
  have hexec := exec_mapScrub_window h hdirty word
  obtain ⟨hwin, hcells, hirq, hsame⟩ := Dev.wordLost_spec h word
  have hexec' : exec (.mapScrub [.window slot word]) s = .next { s with dev := (s.dev.wordLost w word).mapShow } := hexec
  generalize s.dev.wordLost w word = e at hexec' hwin hcells hirq hsame
  have hshow := e.mapShow_rdKept
  exact ⟨_, hexec', (congrArg (fun m : MapEngine => m.win[slot]?) e.mapShow_map).trans hwin, (hshow _ (by decide)).trans hcells,
    (hshow.bit (by decide) 18).trans hirq, hsame.show.kept⟩

/-- Settles O39. -/
theorem mapJobAndWindow : Obligations.MapJobAndWindow := by
  intro req tile a w word readable s
  exact ⟨fun h hvalid => ⟨jobOpen_fromNone h hvalid, jobOpen_fromLoading h hvalid, jobOpen_refused h⟩, fun h hvalid => jobLoad_outcome h hvalid,
    jobClose_outcome, jobDiscard_outcome, mapPaint_idle, mapPaint_paints, fun h => pageInComplete_enters h readable,
    fun h hdirty => ⟨tileWriteBack_writes h hdirty, tileWriteBack_fails h hdirty⟩, mapScrub_corrected s, fun h hdirty => mapScrub_window h hdirty word⟩

end Sys2Proof.Machine
end

section
/-! PROOFS. The analog inputs (R480 to R483): a scan, input by input. -/
namespace Sys2Proof.Machine

/-- A fold of steps of which one belongs to a member: what holds around the others meets that step. -/
theorem foldl_meets {α β : Type} {R : β → β → Prop} (hrefl : ∀ d, R d d) (htrans : ∀ {d e f}, R d e → R e f → R d f) {f : β → α → β} {c : α}
    {xs : List α} (hne : ∀ e, ∀ x ∈ xs, x ≠ c → R e (f e x)) (hnd : xs.Nodup) (hc : c ∈ xs) (d : β) : ∃ a, R d a ∧ R (f a c) (xs.foldl f d) := by
  obtain ⟨l, r, rfl⟩ := List.append_of_mem hc
  have hout : c ∉ l ∧ c ∉ r := by
    rw [List.nodup_append, List.nodup_cons] at hnd
    exact ⟨fun h => hnd.2.2 c h c (by simp) rfl, hnd.2.1.1⟩
  refine ⟨l.foldl f d, foldl_related hrefl htrans l d fun x hx e => hne e x (by simp [hx]) (ne_of_mem_of_not_mem hx hout.1), ?_⟩
  rw [List.foldl_append, List.foldl_cons]
  exact foldl_related hrefl htrans r _ fun x hx e => hne e x (by simp [hx]) (ne_of_mem_of_not_mem hx hout.2)

/-! Bits of a map of inputs -/

theorem Dev.mapBit_setMapBit_same (d : Dev) (a i : Nat) (v : Bool) : (d.setMapBit a i v).mapBit a i = v :=
  Dev.bit_setBit_same d _ v (Nat.mod_lt _ (by decide))

theorem Dev.mapBit_setMapBit_ne (d : Dev) (a : Nat) {i j : Nat} (v : Bool) (h : i ≠ j) : (d.setMapBit a i v).mapBit a j = d.mapBit a j := by
  unfold Dev.mapBit Dev.setMapBit
  by_cases hword : i / 32 = j / 32
  · have hbit : j % 32 ≠ i % 32 := by omega
    rw [hword]
    exact (Dev.bit_setBit d _ _ _ v (Nat.mod_lt _ (by decide)) (Nat.mod_lt _ (by decide))).trans (if_neg hbit)
  · exact congrArg (bitOf · (j % 32)) (Dev.rd_setBit_ne d _ _ (by omega))

/-! The published word (R495) -/

theorem ainWord_valid {code : Nat} {x : AinInput} (hcode : code < 4096) (_hcause : x.cause < 4) : bitOf (ainWord code x) 12 = decide (x.cause = 0) := by
  unfold bitOf ainWord w32
  rw [BitVec.toNat_ofNat, Nat.testBit_eq_decide_div_mod_eq]
  by_cases h : x.cause = 0
  · simp only [h, if_true, decide_true, decide_eq_true_eq]
    omega
  · simp only [h, if_false, decide_false, decide_eq_false_iff_not]
    omega

theorem ainWord_code {code : Nat} {x : AinInput} (hcode : code < 4096) (_hcause : x.cause < 4) : field (ainWord code x) 11 0 = code := by
  unfold field ainWord w32
  rw [BitVec.toNat_ofNat, Nat.shiftRight_eq_div_pow]
  split <;> omega

/-! One input -/

theorem Dev.ain_of_net {d e : Dev} (h : e.net = d.net) (i : Nat) : e.ain i = d.ain i := congrArg (fun n : Net => sget (fun _ => ({} : AinInput)) n.ain i) h

/-- The words that an entry into fault touches beside the map of faults. -/
def ainFaultWords : List Nat := [Reg.FAULT pAIN, Reg.IRQ_RAW pAIN, Reg.REC_SUPP_TOTAL]

/-- A word of the inputs' page beyond its header. -/
theorem ain_apart {a : Nat} (ha : 0xA3044 ≤ a ∧ a < 0xA4000) : a ∉ ainFaultWords := by
  simp only [ainFaultWords, Reg.FAULT, Reg.IRQ_RAW, pAIN, Reg.REC_SUPP_TOTAL, List.mem_cons, List.not_mem_nil, or_false]
  omega

theorem ain_addrs {i : Nat} (hi : i < 48) : (0xA3044 ≤ Reg.AIN_AIN_CFG i ∧ Reg.AIN_AIN_CFG i < 0xA4000)
    ∧ (0xA3044 ≤ Reg.AIN_AIN_VAL i ∧ Reg.AIN_AIN_VAL i < 0xA4000) ∧ (0xA3044 ≤ Reg.AIN_AIN_FLT 0 + 4 * (i / 32) ∧ Reg.AIN_AIN_FLT 0 + 4 * (i / 32) < 0xA4000) := by
  simp only [Reg.AIN_AIN_CFG, Reg.AIN_AIN_VAL, Reg.AIN_AIN_FLT]
  omega

/-! One sample (R480 to R483) -/

/-- An input's state and the word that shows it. -/
def Dev.ainPut (d : Dev) (i : Nat) (y : AinInput) (code : Nat) : Dev := (d.modAin i (fun _ => y)).wr (Reg.AIN_AIN_VAL i) (ainWord code y)

/-- An input whose shunt is taken off. -/
def AinInput.unshunted (x : AinInput) (now : Nat) : AinInput := { x with offAt := some now, cause := 3, outRun := 0, inRun := 0 }

/-- A code lies outside the limits of a configuration. -/
def ainBad (cfg : W32) (c : Nat) : Prop := c < (ainLimits cfg).1 ∨ (ainLimits cfg).2 < c

/-- An input after a code within its range of measurement. -/
def AinInput.taken (x : AinInput) (cfg : W32) (c : Nat) : AinInput :=
  let lim := ainLimits cfg
  let bad := c < lim.1 || lim.2 < c
  let out := if bad then x.outRun + 1 else 0
  let inn := if bad then 0 else x.inRun + 1
  { x with
    codes := (c :: x.codes).take 64
    outRun := out
    inRun := inn
    cause := if bad ∧ out ≥ 2 then (if c < lim.1 then 1 else 2) else if x.cause ≠ 0 ∧ inn ≥ 20 then 0 else x.cause }

/-- The code that an input shows. -/
def Dev.ainCode (d : Dev) (i : Nat) (y : AinInput) : Nat :=
  if y.cause ≠ 0 then field (d.rd (Reg.AIN_AIN_VAL i)) 11 0 else ainMean (field (d.ainCfg i) 6 4) y.codes

/-- The fault of an input set or ended by a code, from its cause before. -/
def Dev.ainJudged (d : Dev) (i was cause : Nat) : Dev :=
  if was = 0 ∧ cause ≠ 0 then d.ainFaults i else if cause = 0 then d.setMapBit (Reg.AIN_AIN_FLT 0) i false else d

theorem Dev.ainSample_off {d : Dev} {i : Nat} (h : bitOf (d.ainCfg i) 1 = false) (code : Nat) :
    d.ainSample i code = (d.modAin i (fun _ => {})).wr (Reg.AIN_AIN_VAL i) 0 := if_pos (by rw [h]; rfl)

section
variable {d : Dev} {i : Nat} (hon : bitOf (d.ainCfg i) 1 = true)
include hon

theorem Dev.ainSample_shunted (h : (d.ain i).offAt.isSome = true) (code : Nat) : d.ainSample i code = d :=
  (if_neg (by rw [hon]; decide)).trans (if_pos h)

variable (hshunt : (d.ain i).offAt = none)
include hshunt

theorem Dev.ainSample_over {code : Nat} (hcur : bitOf (d.ainCfg i) 0 = true) (hcode : 4265 < code) : d.ainSample i code
    = if (d.ain i).cause = 0 then (d.ainPut i ((d.ain i).unshunted d.tm.tbm) (field (d.rd (Reg.AIN_AIN_VAL i)) 11 0)).ainFaults i
      else d.ainPut i ((d.ain i).unshunted d.tm.tbm) (field (d.rd (Reg.AIN_AIN_VAL i)) 11 0) := by
  have hput : ∀ f : AinInput → AinInput, (d.modAin i f).ain i = f (d.ain i) := fun f => Dev.ain_modAin_same d i f
  refine (if_neg (by rw [hon]; decide)).trans ((if_neg (by rw [hshunt]; decide)).trans ((if_pos (by simp [hcur, hcode])).trans ?_))
  extract_lets now was e f
  have hf : f = d.ainPut i ((d.ain i).unshunted d.tm.tbm) (field (d.rd (Reg.AIN_AIN_VAL i)) 11 0) := by
    unfold f
    rw [show e.ain i = (d.ain i).unshunted d.tm.tbm from hput _]
    rfl
  rw [hf]

theorem Dev.ainSample_taken {code : Nat} (hcur : bitOf (d.ainCfg i) 0 = false ∨ code ≤ 4265) : d.ainSample i code
    = (d.ainPut i ((d.ain i).taken (d.ainCfg i) (min code 4095)) (d.ainCode i ((d.ain i).taken (d.ainCfg i) (min code 4095)))).ainJudged i (d.ain i).cause
        ((d.ain i).taken (d.ainCfg i) (min code 4095)).cause := by
  have hno : ¬ (bitOf (d.ainCfg i) 0 && decide (4265 < code)) = true := by
    rcases hcur with h | h <;> simp [h]
  refine (if_neg (by rw [hon]; decide)).trans ((if_neg (by rw [hshunt]; decide)).trans ((if_neg hno).trans ?_))
  extract_lets c lim bad out inn cause codes was e code' f
  have he : e.ain i = (d.ain i).taken (d.ainCfg i) (min code 4095) := Dev.ain_modAin_same d i _
  have hf : f = d.ainPut i ((d.ain i).taken (d.ainCfg i) (min code 4095)) (d.ainCode i ((d.ain i).taken (d.ainCfg i) (min code 4095))) := by
    unfold f
    rw [he]
    rfl
  rw [hf]
  rfl

end

end Sys2Proof.Machine
end

section
/-! PROOFS. A scan of the analog inputs (R480 to R483): what a sample leaves of the other inputs, and what it makes of its own. -/
namespace Sys2Proof.Machine

/-! The other inputs -/

/-- A change that leaves an input: its configuration, its state, its word and its bit among the faults; a fault shown stays. -/
structure Dev.AinBeside (j : Nat) (d e : Dev) : Prop where
  cfg : e.ainCfg j = d.ainCfg j
  tm : e.tm = d.tm
  ain : e.ain j = d.ain j
  val : e.rd (Reg.AIN_AIN_VAL j) = d.rd (Reg.AIN_AIN_VAL j)
  flt : e.mapBit (Reg.AIN_AIN_FLT 0) j = d.mapBit (Reg.AIN_AIN_FLT 0) j
  fault : d.bit (Reg.FAULT pAIN) 16 = true → e.bit (Reg.FAULT pAIN) 16 = true

theorem Dev.AinBeside.refl (j : Nat) (d : Dev) : Dev.AinBeside j d d := ⟨rfl, rfl, rfl, rfl, rfl, id⟩

theorem Dev.AinBeside.trans {j : Nat} {d e f : Dev} (h : Dev.AinBeside j d e) (h' : Dev.AinBeside j e f) : Dev.AinBeside j d f :=
  ⟨h'.cfg.trans h.cfg, h'.tm.trans h.tm, h'.ain.trans h.ain, h'.val.trans h.val, h'.flt.trans h.flt, fun hf => h'.fault (h.fault hf)⟩

theorem sget_congr {α : Type} {f g : Nat → α} {k : Nat} (h : f k = g k) (m : SMap α) : sget f m k = sget g m k := by
  induction m with
  | nil => exact h
  | cons p r ih =>
    unfold sget
    split
    · rfl
    · exact ih

theorem Dev.ainCfg_congr {d e : Dev} {j : Nat} (hold : e.net.ainOld = d.net.ainOld) (hcfg : e.rd (Reg.AIN_AIN_CFG j) = d.rd (Reg.AIN_AIN_CFG j)) :
    e.ainCfg j = d.ainCfg j := by
  unfold Dev.ainCfg
  rw [hold]
  exact sget_congr (f := fun i => e.rd (Reg.AIN_AIN_CFG i)) (g := fun i => d.rd (Reg.AIN_AIN_CFG i)) hcfg _

theorem Dev.modAin_beside {i j : Nat} (hij : i ≠ j) (d : Dev) (f : AinInput → AinInput) : Dev.AinBeside j d (d.modAin i f) :=
  ⟨Dev.ainCfg_congr rfl rfl, rfl, Dev.ain_modAin_ne d f hij.symm, rfl, rfl, id⟩

section
variable {i j : Nat} (hi : i < 48) (hj : j < 48) (hij : i ≠ j)
include hi hj hij

theorem Dev.wrVal_beside (d : Dev) (v : W32) : Dev.AinBeside j d (d.wr (Reg.AIN_AIN_VAL i) v) := by
  have hcfg : Reg.AIN_AIN_CFG j ≠ Reg.AIN_AIN_VAL i := by simp only [Reg.AIN_AIN_CFG, Reg.AIN_AIN_VAL]; omega
  have hval : Reg.AIN_AIN_VAL j ≠ Reg.AIN_AIN_VAL i := by simp only [Reg.AIN_AIN_VAL]; omega
  have hflt : Reg.AIN_AIN_FLT 0 + 4 * (j / 32) ≠ Reg.AIN_AIN_VAL i := by simp only [Reg.AIN_AIN_FLT, Reg.AIN_AIN_VAL]; omega
  have hfault : Reg.FAULT pAIN ≠ Reg.AIN_AIN_VAL i := by simp only [Reg.FAULT, pAIN, Reg.AIN_AIN_VAL]; omega
  exact ⟨Dev.ainCfg_congr rfl (Dev.rd_wr_ne d v hcfg), rfl, rfl, Dev.rd_wr_ne d v hval, congrArg (bitOf · (j % 32)) (Dev.rd_wr_ne d v hflt),
    fun h => (congrArg (bitOf · 16) (Dev.rd_wr_ne d v hfault)).trans h⟩

theorem Dev.setFlt_beside (d : Dev) (v : Bool) : Dev.AinBeside j d (d.setMapBit (Reg.AIN_AIN_FLT 0) i v) := by
  have hcfg : Reg.AIN_AIN_CFG j ≠ Reg.AIN_AIN_FLT 0 + 4 * (i / 32) := by simp only [Reg.AIN_AIN_CFG, Reg.AIN_AIN_FLT]; omega
  have hval : Reg.AIN_AIN_VAL j ≠ Reg.AIN_AIN_FLT 0 + 4 * (i / 32) := by simp only [Reg.AIN_AIN_VAL, Reg.AIN_AIN_FLT]; omega
  have hfault : Reg.FAULT pAIN ≠ Reg.AIN_AIN_FLT 0 + 4 * (i / 32) := by simp only [Reg.FAULT, pAIN, Reg.AIN_AIN_FLT]; omega
  exact ⟨Dev.ainCfg_congr rfl (Dev.rd_setBit_ne d _ _ hcfg), rfl, rfl, Dev.rd_setBit_ne d _ _ hval, Dev.mapBit_setMapBit_ne d _ v hij,
    fun h => (congrArg (bitOf · 16) (Dev.rd_setBit_ne d _ _ hfault)).trans h⟩

end

/-- The interrupt and the record of an entry into fault. -/
def Dev.ainTold (d : Dev) : Dev := (d.irq pAIN 16).faultRec pAIN 16

theorem Dev.ainTold_rdKept (d : Dev) : Dev.RdKept ainFaultWords d d.ainTold :=
  ((Dev.RdKept.refl _ d).irq (by decide) _).faultRec (by decide) (by decide) (by decide) _ _ _ _

theorem Dev.ainTold_sameBut (d : Dev) : Dev.SameBut (fun d => { d with rcf := {} }) d d.ainTold :=
  ((Dev.SameBut.refl _ d).irq _ _).faultRec (fun _ _ => rfl) _ _ _ _ _

theorem Dev.ainTold_fault (d : Dev) : d.ainTold.bit (Reg.FAULT pAIN) 16 = true := Dev.bit_faultRec _ pAIN (by decide)

/-- An entry into fault leaves every input's state, and every word beyond the page's header. -/
theorem Dev.ainTold_beside (d : Dev) {j : Nat} (hj : j < 48) : Dev.AinBeside j d d.ainTold := by
  obtain ⟨hcfg, hval, hflt⟩ := ain_addrs hj
  have hwords := d.ainTold_rdKept
  have hnet : d.ainTold.net = d.net := d.ainTold_sameBut.proj (·.net) fun _ => rfl
  exact ⟨Dev.ainCfg_congr (congrArg Net.ainOld hnet) (hwords _ (ain_apart hcfg)), d.ainTold_sameBut.proj (·.tm) fun _ => rfl, Dev.ain_of_net hnet j,
    hwords _ (ain_apart hval), congrArg (bitOf · (j % 32)) (hwords _ (ain_apart hflt)), fun _ => d.ainTold_fault⟩

theorem Dev.ainFaults_eq (d : Dev) (i : Nat) : d.ainFaults i = (d.setMapBit (Reg.AIN_AIN_FLT 0) i true).ainTold := rfl

section
variable {i j : Nat} (hi : i < 48) (hj : j < 48) (hij : i ≠ j)
include hi hj hij

theorem Dev.ainPut_beside (d : Dev) (y : AinInput) (code : Nat) : Dev.AinBeside j d (d.ainPut i y code) :=
  (Dev.modAin_beside hij d _).trans (Dev.wrVal_beside hi hj hij _ _)

theorem Dev.ainFaults_beside (d : Dev) : Dev.AinBeside j d (d.ainFaults i) := (Dev.setFlt_beside hi hj hij d true).trans (Dev.ainTold_beside _ hj)

theorem Dev.ainJudged_beside (d : Dev) (was cause : Nat) : Dev.AinBeside j d (d.ainJudged i was cause) := by
  unfold Dev.ainJudged
  split
  · exact Dev.ainFaults_beside hi hj hij d
  · split
    · exact Dev.setFlt_beside hi hj hij d false
    · exact .refl j d

theorem Dev.ainSample_beside (d : Dev) (code : Nat) : Dev.AinBeside j d (d.ainSample i code) := by
  cases hon : bitOf (d.ainCfg i) 1 with
  | false =>
    rw [Dev.ainSample_off hon]
    exact (Dev.modAin_beside hij d _).trans (Dev.wrVal_beside hi hj hij _ _)
  | true =>
    cases hshunt : (d.ain i).offAt with
    | some t =>
      rw [Dev.ainSample_shunted hon (by rw [hshunt]; rfl)]
      exact .refl j d
    | none =>
      by_cases hover : bitOf (d.ainCfg i) 0 = true ∧ 4265 < code
      · rw [Dev.ainSample_over hon hshunt hover.1 hover.2]
        split
        · exact (Dev.ainPut_beside hi hj hij d _ _).trans (Dev.ainFaults_beside hi hj hij _)
        · exact Dev.ainPut_beside hi hj hij d _ _
      · have hwithin : bitOf (d.ainCfg i) 0 = false ∨ code ≤ 4265 := by
          rw [not_and_or, not_lt] at hover
          simpa using hover
        rw [Dev.ainSample_taken hon hshunt hwithin]
        exact (Dev.ainPut_beside hi hj hij d _ _).trans (Dev.ainJudged_beside hi hj hij _ _ _)

end

/-! The input itself -/

/-- What a sample makes of its input, from its state and word before. -/
structure Dev.AinSampled (i code : Nat) (d e : Dev) : Prop where
  off : bitOf (d.ainCfg i) 1 = false → e.rd (Reg.AIN_AIN_VAL i) = 0#32 ∧ e.ain i = {}
  shunted : bitOf (d.ainCfg i) 1 = true → (d.ain i).offAt.isSome = true → e.rd (Reg.AIN_AIN_VAL i) = d.rd (Reg.AIN_AIN_VAL i) ∧ e.ain i = d.ain i
  exceeds : bitOf (d.ainCfg i) 1 = true → (d.ain i).offAt = none → bitOf (d.ainCfg i) 0 = true → 4265 < code →
    (e.ain i).offAt = some d.tm.tbm ∧ (e.ain i).cause = 3 ∧ e.bit (Reg.AIN_AIN_VAL i) 12 = false
  valid : bitOf (d.ainCfg i) 1 = true → (d.ain i).offAt = none → (bitOf (d.ainCfg i) 0 = false ∨ code ≤ 4265) → (d.ain i).cause = 0 →
    ¬ ainBad (d.ainCfg i) (min code 4095) → (e.ain i).cause = 0 ∧ e.mapBit (Reg.AIN_AIN_FLT 0) i = false
      ∧ e.rd (Reg.AIN_AIN_VAL i) = w32 (ainMean (field (d.ainCfg i) 6 4) ((min code 4095 :: (d.ain i).codes).take 64) + 2 ^ 12)
  fails : bitOf (d.ainCfg i) 1 = true → (d.ain i).offAt = none → (bitOf (d.ainCfg i) 0 = false ∨ code ≤ 4265) → (d.ain i).cause = 0 →
    ainBad (d.ainCfg i) (min code 4095) → 1 ≤ (d.ain i).outRun →
    (e.ain i).cause = (if min code 4095 < (ainLimits (d.ainCfg i)).1 then 1 else 2) ∧ e.bit (Reg.AIN_AIN_VAL i) 12 = false
      ∧ e.fld (Reg.AIN_AIN_VAL i) 11 0 = d.fld (Reg.AIN_AIN_VAL i) 11 0 ∧ e.mapBit (Reg.AIN_AIN_FLT 0) i = true ∧ e.bit (Reg.FAULT pAIN) 16 = true

theorem Dev.ainPut_shows (d : Dev) (i : Nat) (y : AinInput) (code : Nat) :
    (d.ainPut i y code).ain i = y ∧ (d.ainPut i y code).rd (Reg.AIN_AIN_VAL i) = ainWord code y :=
  ⟨Dev.ain_modAin_same d i fun _ => y, Dev.rd_wr_same _ _ _⟩

/-- An entry into fault shows the fault and leaves the input and its word. -/
theorem Dev.ainFaults_shows (d : Dev) {i : Nat} (hi : i < 48) : (d.ainFaults i).ain i = d.ain i
    ∧ (d.ainFaults i).rd (Reg.AIN_AIN_VAL i) = d.rd (Reg.AIN_AIN_VAL i) ∧ (d.ainFaults i).mapBit (Reg.AIN_AIN_FLT 0) i = true
    ∧ (d.ainFaults i).bit (Reg.FAULT pAIN) 16 = true := by
  have hval : Reg.AIN_AIN_VAL i ≠ Reg.AIN_AIN_FLT 0 + 4 * (i / 32) := by simp only [Reg.AIN_AIN_VAL, Reg.AIN_AIN_FLT]; omega
  rw [Dev.ainFaults_eq]
  obtain ⟨-, -, hain, hword, hflt, -⟩ := Dev.ainTold_beside (d.setMapBit (Reg.AIN_AIN_FLT 0) i true) hi
  exact ⟨hain, hword.trans (Dev.rd_setBit_ne d _ _ hval), hflt.trans (Dev.mapBit_setMapBit_same d _ i true), Dev.ainTold_fault _⟩

/-- A fault that ends, or none, leaves the input and its word. -/
theorem Dev.ainCleared_shows (d : Dev) {i : Nat} (hi : i < 48) : (d.setMapBit (Reg.AIN_AIN_FLT 0) i false).ain i = d.ain i
    ∧ (d.setMapBit (Reg.AIN_AIN_FLT 0) i false).rd (Reg.AIN_AIN_VAL i) = d.rd (Reg.AIN_AIN_VAL i)
    ∧ (d.setMapBit (Reg.AIN_AIN_FLT 0) i false).mapBit (Reg.AIN_AIN_FLT 0) i = false := by
  have hval : Reg.AIN_AIN_VAL i ≠ Reg.AIN_AIN_FLT 0 + 4 * (i / 32) := by simp only [Reg.AIN_AIN_VAL, Reg.AIN_AIN_FLT]; omega
  exact ⟨rfl, Dev.rd_setBit_ne d _ _ hval, Dev.mapBit_setMapBit_same d _ i false⟩

theorem AinInput.taken_valid {x : AinInput} {cfg : W32} {c : Nat} (hx : x.cause = 0) (h : ¬ ainBad cfg c) :
    (x.taken cfg c).cause = 0 := by
  unfold ainBad at h
  rw [not_or] at h
  simp [AinInput.taken, h.1, h.2, hx]

theorem AinInput.taken_fails {x : AinInput} {cfg : W32} {c : Nat} (h : ainBad cfg c) (hrun : 1 ≤ x.outRun) :
    (x.taken cfg c).cause = if c < (ainLimits cfg).1 then 1 else 2 := by
  have hbad : (decide (c < (ainLimits cfg).1) || decide ((ainLimits cfg).2 < c)) = true := by simpa [ainBad] using h
  have hout : x.outRun + 1 ≥ 2 := by omega
  unfold AinInput.taken
  simp only [hbad, if_true, hout, and_self]

theorem field_lt_code (w : W32) : field w 11 0 < 4096 := field_lt w 11 0

theorem Dev.ainSample_sampled (d : Dev) {i : Nat} (hi : i < 48) (code : Nat) : Dev.AinSampled i code d (d.ainSample i code) := by
  refine ⟨fun hoff => ?_, fun hon hshunt => ?_, fun hon hshunt hcur hcode => ?_, fun hon hshunt hcur hcause hgood => ?_,
    fun hon hshunt hcur hcause hbad hrun => ?_⟩
  · rw [Dev.ainSample_off hoff]
    exact ⟨Dev.rd_wr_same _ _ _, Dev.ain_modAin_same d i fun _ => {}⟩
  · rw [Dev.ainSample_shunted hon hshunt]
    exact ⟨rfl, rfl⟩
  · rw [Dev.ainSample_over hon hshunt hcur hcode]
    obtain ⟨hain, hword⟩ := d.ainPut_shows i ((d.ain i).unshunted d.tm.tbm) (field (d.rd (Reg.AIN_AIN_VAL i)) 11 0)
    have hvalid : bitOf (ainWord (field (d.rd (Reg.AIN_AIN_VAL i)) 11 0) ((d.ain i).unshunted d.tm.tbm)) 12 = false :=
      (ainWord_valid (field_lt_code _) (by decide : (3 : Nat) < 4)).trans rfl
    generalize d.ainPut i ((d.ain i).unshunted d.tm.tbm) (field (d.rd (Reg.AIN_AIN_VAL i)) 11 0) = e at *
    split
    · obtain ⟨hain', hword', -, -⟩ := e.ainFaults_shows hi
      rw [hain', hain]
      exact ⟨rfl, rfl, (congrArg (bitOf · 12) (hword'.trans hword)).trans hvalid⟩
    · rw [hain]
      exact ⟨rfl, rfl, (congrArg (bitOf · 12) hword).trans hvalid⟩
  · rw [Dev.ainSample_taken hon hshunt hcur]
    have hend := AinInput.taken_valid (x := d.ain i) hcause hgood
    have hcodes : ((d.ain i).taken (d.ainCfg i) (min code 4095)).codes = (min code 4095 :: (d.ain i).codes).take 64 := rfl
    generalize (d.ain i).taken (d.ainCfg i) (min code 4095) = y at *
    have hcode : d.ainCode i y = ainMean (field (d.ainCfg i) 6 4) y.codes := if_neg (by simp [hend])
    obtain ⟨hain, hword⟩ := d.ainPut_shows i y (d.ainCode i y)
    generalize d.ainPut i y (d.ainCode i y) = e at *
    have hjudged : e.ainJudged i (d.ain i).cause y.cause = e.setMapBit (Reg.AIN_AIN_FLT 0) i false := by
      unfold Dev.ainJudged
      rw [if_neg (by simp [hend]), if_pos hend]
    obtain ⟨hain', hword', hflt⟩ := e.ainCleared_shows hi
    rw [hjudged]
    refine ⟨(congrArg AinInput.cause (hain'.trans hain)).trans hend, hflt, (hword'.trans hword).trans ?_⟩
    rw [hcode, hcodes, ainWord, hend]
    rfl
  · rw [Dev.ainSample_taken hon hshunt hcur]
    have hend := AinInput.taken_fails (x := d.ain i) hbad hrun
    generalize (d.ain i).taken (d.ainCfg i) (min code 4095) = y at *
    have hne : y.cause ≠ 0 := by
      rw [hend]
      split <;> decide
    have hlt : y.cause < 4 := by
      rw [hend]
      split <;> decide
    have hcode : d.ainCode i y = field (d.rd (Reg.AIN_AIN_VAL i)) 11 0 := if_pos hne
    obtain ⟨hain, hword⟩ := d.ainPut_shows i y (d.ainCode i y)
    rw [hcode] at hain hword ⊢
    generalize d.ainPut i y (field (d.rd (Reg.AIN_AIN_VAL i)) 11 0) = e at *
    have hjudged : e.ainJudged i (d.ain i).cause y.cause = e.ainFaults i := if_pos ⟨hcause, hne⟩
    obtain ⟨hain', hword', hflt, hfault⟩ := e.ainFaults_shows hi
    rw [hjudged]
    refine ⟨(congrArg AinInput.cause (hain'.trans hain)).trans hend, ?_, ?_, hflt, hfault⟩
    · exact (congrArg (bitOf · 12) (hword'.trans hword)).trans ((ainWord_valid (field_lt_code _) hlt).trans (by simp [hne]))
    · exact (congrArg (field · 11 0) (hword'.trans hword)).trans (ainWord_code (field_lt_code _) hlt)

/-- What a sample makes of its input stands while the other inputs are sampled. -/
theorem Dev.AinSampled.around {i code : Nat} {d a b e : Dev} (h : Dev.AinSampled i code a b) (hbefore : Dev.AinBeside i d a) (hafter : Dev.AinBeside i b e) :
    Dev.AinSampled i code d e := by
  obtain ⟨hcfg, htm, hain, hval, -, -⟩ := hbefore
  obtain ⟨-, -, hain', hval', hflt', hfault'⟩ := hafter
  have hbit : e.bit (Reg.AIN_AIN_VAL i) 12 = b.bit (Reg.AIN_AIN_VAL i) 12 := congrArg (bitOf · 12) hval'
  have hfld : e.fld (Reg.AIN_AIN_VAL i) 11 0 = b.fld (Reg.AIN_AIN_VAL i) 11 0 := congrArg (field · 11 0) hval'
  have hfld0 : a.fld (Reg.AIN_AIN_VAL i) 11 0 = d.fld (Reg.AIN_AIN_VAL i) 11 0 := congrArg (field · 11 0) hval
  obtain ⟨hoff, hshunted, hover, hvalid, hfails⟩ := h
  rw [hcfg, hain] at *
  refine ⟨?_, ?_, ?_, ?_, ?_⟩
  · rw [hval', hain']
    exact hoff
  · rw [hval', hain', ← hval]
    exact hshunted
  · rw [hbit, hain', ← htm]
    exact hover
  · rw [hval', hain', hflt']
    exact hvalid
  · rw [hbit, hfld, hain', hflt', ← hfld0]
    intro hon hshunt hcur hcause hbad hrun
    obtain ⟨hc, hv, hf, hm, hfault⟩ := hfails hon hshunt hcur hcause hbad hrun
    exact ⟨hc, hv, hf, hm, hfault' hfault⟩

/-! The scan -/

/-- Every input sampled. -/
def Dev.ainSampledAll (d : Dev) (samples : List Nat) : Dev := (List.range 48).foldl (fun d i => d.ainSample i (d.sampleOf samples i)) d

theorem Dev.ainSampledAll_sampled (d : Dev) (samples : List Nat) {i : Nat} (hi : i < 48) :
    Dev.AinSampled i (d.sampleOf samples i) d (d.ainSampledAll samples) := by
  have hmeets : ∃ a, Dev.AinBeside i d a ∧ Dev.AinBeside i (a.ainSample i (a.sampleOf samples i)) (d.ainSampledAll samples) := by
    refine foldl_meets (R := fun d e => Dev.AinBeside i d e) (f := fun d i => d.ainSample i (d.sampleOf samples i)) (Dev.AinBeside.refl i)
      Dev.AinBeside.trans (fun e x hx hne => ?_) List.nodup_range (List.mem_range.mpr hi) d
    exact Dev.ainSample_beside (List.mem_range.mp hx) hi hne e _
  obtain ⟨a, hbefore, hafter⟩ := hmeets
  have hcode : a.sampleOf samples i = d.sampleOf samples i := congrArg (fun m : TimeBases => samples.getD i (Config.missingSample m.tbm i)) hbefore.tm
  rw [hcode] at hafter
  exact (a.ainSample_sampled hi _).around hbefore hafter

end Sys2Proof.Machine
end

section
/-! PROOFS. O58: analog, frequency and IMU inputs, time marks and the supplies (R480 to R490, R523, R528). -/
namespace Sys2Proof.Machine

/-! AIN_SCAN (R481) -/

/-- The part at the end of the scan in progress. -/
def Dev.scanEnds (d : Dev) : Dev := match d.net.ainDue with | some due => d.toTbm due | none => d

/-- The next scan begun. -/
def Dev.nextScan (d : Dev) (due : Nat) : Dev := { d with net := { d.net with ainDue := some due, ainOld := [] } }

theorem exec_ainScan (samples : List Nat) {s : State} (h : s.dev.powerState ≤ 1) :
    exec (.ainScan samples) s = .next (onDev (fun d => (d.scanEnds.ainSampledAll samples).nextScan (d.scanEnds.tm.tbm + 50000)) s) :=
  congrArg Host.Outcome.next (onDev_congr (if_neg (Nat.not_lt.mpr h)))

theorem ainScan_parked (samples : List Nat) {s : State} (h : 1 < s.dev.powerState) : exec (.ainScan samples) s = .next s :=
  congrArg Host.Outcome.next (onDev_congr (g := id) (if_pos h))

theorem Dev.scanEnds_tm (d : Dev) : ∃ m, d.scanEnds = { d with tm := m } := by
  unfold Dev.scanEnds
  split
  · exact ⟨_, rfl⟩
  · exact ⟨d.tm, rfl⟩

theorem Dev.scanEnds_reaches {d : Dev} {due : Nat} (h : d.net.ainDue = some due) : due ≤ d.scanEnds.tm.tbm := by
  unfold Dev.scanEnds
  rw [h]
  exact d.toTbm_reaches due

/-- Samples leave the time bases, as they leave another input. -/
theorem Dev.ainSample_tm (d : Dev) {i : Nat} (hi : i < 48) (code : Nat) : (d.ainSample i code).tm = d.tm := by
  by_cases h : i = 0
  · exact (Dev.ainSample_beside hi (j := 1) (by decide) (by omega) d code).tm
  · exact (Dev.ainSample_beside hi (j := 0) (by decide) h d code).tm

theorem Dev.ainSampledAll_tm (d : Dev) (samples : List Nat) : (d.ainSampledAll samples).tm = d.tm :=
  List.foldlRecOn (motive := fun e : Dev => e.tm = d.tm) _ _ rfl fun e he _ hi => (e.ainSample_tm (List.mem_range.mp hi) _).trans he

theorem ainScan_samples (samples : List Nat) {i : Nat} (hi : i < 48) {s : State} (h : s.dev.powerState ≤ 1) :
    ∃ t, exec (.ainScan samples) s = .next t ∧ t.dev.net.ainDue = some (t.dev.tm.tbm + 50000) ∧ t.dev.net.ainOld = [] ∧ KeptBeside s t
      ∧ (∀ due, s.dev.net.ainDue = some due → due ≤ t.dev.tm.tbm)
      ∧ t.dev.tm.tbm = s.dev.scanEnds.tm.tbm ∧ Dev.AinSampled i (s.dev.scanEnds.sampleOf samples i) s.dev.scanEnds t.dev := by
  have hexec := exec_ainScan samples h
  have hsampled := s.dev.scanEnds.ainSampledAll_sampled samples hi
  have htm := s.dev.scanEnds.ainSampledAll_tm samples
  have hexec' : exec (.ainScan samples) s
      = .next { s with dev := (s.dev.scanEnds.ainSampledAll samples).nextScan (s.dev.scanEnds.tm.tbm + 50000) } := hexec
  generalize s.dev.scanEnds.ainSampledAll samples = e at hexec' hsampled htm
  have htbm : e.tm.tbm = s.dev.scanEnds.tm.tbm := congrArg TimeBases.tbm htm
  rw [← htbm] at hexec'
  obtain ⟨hoff, hshunted, hexceeds, hvalid, hfails⟩ := hsampled
  exact ⟨_, hexec', rfl, rfl, ⟨rfl, rfl, rfl⟩, fun due hdue => (Dev.scanEnds_reaches hdue).trans (Nat.le_of_eq htbm.symm), htbm,
    ⟨hoff, hshunted, hexceeds, hvalid, hfails⟩⟩

/-! AIN_SHUNT_RECONNECT (R480) -/

/-- The shunt back. -/
def AinInput.reconnected (x : AinInput) : AinInput := { x with offAt := none, cause := 0, outRun := 0, inRun := 0 }

/-- The input with its shunt back, its fault ended and its word shown. -/
def Dev.ainReconnected (d : Dev) (i : Nat) : Dev :=
  let e := (d.modAin i AinInput.reconnected).setMapBit (Reg.AIN_AIN_FLT 0) i false
  e.wr (Reg.AIN_AIN_VAL i) (ainWord (e.fld (Reg.AIN_AIN_VAL i) 11 0) (e.ain i))

theorem Dev.ainReconnected_spec (d : Dev) {i : Nat} (hi : i < 48) : (d.ainReconnected i).ain i = (d.ain i).reconnected
    ∧ (d.ainReconnected i).mapBit (Reg.AIN_AIN_FLT 0) i = false ∧ (d.ainReconnected i).tm = d.tm := by
  have hflt : Reg.AIN_AIN_FLT 0 + 4 * (i / 32) ≠ Reg.AIN_AIN_VAL i := by simp only [Reg.AIN_AIN_FLT, Reg.AIN_AIN_VAL]; omega
  refine ⟨Dev.ain_modAin_same d i AinInput.reconnected, ?_, rfl⟩
  exact (congrArg (bitOf · (i % 32)) (Dev.rd_wr_ne _ _ hflt)).trans (Dev.mapBit_setMapBit_same _ _ i false)

theorem ainShuntReconnect_reconnects {input : Fin 48} {n : Nat} {s : State} (h : (s.dev.ain input).offAt = some n) :
    ∃ t, exec (.ainShuntReconnect input) s = .next t ∧ n + 100000000 ≤ t.dev.tm.tbm ∧ KeptBeside s t
      ∧ t.dev.ain input = { s.dev.ain input with offAt := none, cause := 0, outRun := 0, inRun := 0 }
      ∧ t.dev.mapBit (Reg.AIN_AIN_FLT 0) input = false := by
  have hexec : exec (.ainShuntReconnect input) s = .next { s with dev := (s.dev.toTbm (n + 100000000)).ainReconnected input } := by
    change execAinShuntReconnect input s = _
    unfold execAinShuntReconnect
    refine congrArg Host.Outcome.next (onDev_congr (g := fun d => (d.toTbm (n + 100000000)).ainReconnected input) ?_)
    rw [h]
    rfl
  obtain ⟨hain, hflt, htm⟩ := (s.dev.toTbm (n + 100000000)).ainReconnected_spec input.isLt
  have hreach := s.dev.toTbm_reaches (n + 100000000)
  rw [← htm] at hreach
  exact ⟨_, hexec, hreach, ⟨rfl, rfl, rfl⟩, hain, hflt⟩

theorem ainShuntReconnect_on {input : Fin 48} {s : State} (h : (s.dev.ain input).offAt = none) : exec (.ainShuntReconnect input) s = .next s := by
  change execAinShuntReconnect input s = _
  unfold execAinShuntReconnect
  refine congrArg Host.Outcome.next (onDev_congr (g := id) ?_)
  rw [h]
  rfl

/-! FIN_EDGE (R484 to R486) -/

/-- A change that leaves the time, every other frequency input, and an input's edges and count. -/
structure Dev.FinSettled (i : Nat) (d e : Dev) : Prop where
  others : ∀ j, j ≠ i → e.fin j = d.fin j
  tm : e.tm = d.tm
  last : (e.fin i).last = (d.fin i).last
  edges : (e.fin i).edges = (d.fin i).edges
  count : (e.fin i).count = (d.fin i).count

theorem Dev.FinSettled.refl (i : Nat) (d : Dev) : Dev.FinSettled i d d := ⟨fun _ _ => rfl, rfl, rfl, rfl, rfl⟩

theorem Dev.FinSettled.trans {i : Nat} {d e f : Dev} (h : Dev.FinSettled i d e) (h' : Dev.FinSettled i e f) : Dev.FinSettled i d f :=
  ⟨fun j hj => (h'.others j hj).trans (h.others j hj), h'.tm.trans h.tm, h'.last.trans h.last, h'.edges.trans h.edges, h'.count.trans h.count⟩

theorem Dev.fin_of_net {d e : Dev} (h : e.net = d.net) (i : Nat) : e.fin i = d.fin i := congrArg (fun n : Net => sget (fun _ => ({} : FinInput)) n.fin i) h

/-- A change of registers and of the record intake. -/
theorem Dev.FinSettled.ofNet (i : Nat) {d e : Dev} (hnet : e.net = d.net) (htm : e.tm = d.tm) : Dev.FinSettled i d e :=
  ⟨fun j _ => Dev.fin_of_net hnet j, htm, congrArg FinInput.last (Dev.fin_of_net hnet i), congrArg FinInput.edges (Dev.fin_of_net hnet i),
    congrArg FinInput.count (Dev.fin_of_net hnet i)⟩

theorem Dev.modFin_settled (d : Dev) (i : Nat) {f : FinInput → FinInput} (hlast : ∀ x, (f x).last = x.last) (hedges : ∀ x, (f x).edges = x.edges)
    (hcount : ∀ x, (f x).count = x.count) : Dev.FinSettled i d (d.modFin i f) := by
  have hsame := Dev.fin_modFin_same d i f
  exact ⟨fun j hj => Dev.fin_modFin_ne d f hj, rfl, (congrArg FinInput.last hsame).trans (hlast _), (congrArg FinInput.edges hsame).trans (hedges _),
    (congrArg FinInput.count hsame).trans (hcount _)⟩

theorem Dev.finShow_settled (d : Dev) (i : Nat) : Dev.FinSettled i d (d.finShow i) := .ofNet i rfl rfl

theorem Dev.finCause_settled (d : Dev) (i cause : Nat) : Dev.FinSettled i d (d.finCause i cause) := by
  unfold Dev.finCause
  extract_lets was e
  have he : Dev.FinSettled i d e := (d.modFin_settled i (f := fun x => { x with cause := cause }) (fun _ => rfl) (fun _ => rfl) fun _ => rfl).trans (Dev.finShow_settled _ i)
  split
  · exact he.trans (.ofNet i (Dev.faultRec_net _ _ _ _ _ _) (Dev.faultRec_tm _ _ _ _ _ _))
  · exact he

theorem Dev.finRange_settled (d : Dev) (i : Nat) : Dev.FinSettled i d (d.finRange i) := by
  unfold Dev.finRange
  extract_lets ranged c
  split
  · exact d.finCause_settled i 1
  · split
    · exact d.finCause_settled i 0
    · exact d.finShow_settled i

/-- A counted edge. -/
theorem Dev.finCount_counts (d : Dev) (i : Nat) (neg : Bool) : (∀ j, j ≠ i → (d.finCount i neg).fin j = d.fin j) ∧ (d.finCount i neg).tm = d.tm
    ∧ ((d.finCount i neg).fin i).last = some d.tm.tbm ∧ ((d.finCount i neg).fin i).edges.head? = some d.tm.tbm
    ∧ ((d.finCount i neg).fin i).count = if neg then (d.fin i).count - 1 else (d.fin i).count + 1 := by
  unfold Dev.finCount
  extract_lets t x turned win edges e hz
  have hx : e.fin i = { d.fin i with edges := edges, last := some t, neg := neg, count := if neg then x.count - 1 else x.count + 1 } :=
    Dev.fin_modFin_same d i _
  have hothers : ∀ j, j ≠ i → e.fin j = d.fin j := fun j hj => Dev.fin_modFin_ne d _ hj
  have htm : e.tm = d.tm := rfl
  have hset := e.modFin_settled i (f := fun x => { x with lastHz := hz }) (fun _ => rfl) (fun _ => rfl) fun _ => rfl
  clear_value hz e
  exact ⟨fun j hj => (hset.others j hj).trans (hothers j hj), hset.tm.trans htm, hset.last.trans (congrArg FinInput.last hx),
    (congrArg List.head? (hset.edges.trans (congrArg FinInput.edges hx))).trans rfl, hset.count.trans (congrArg FinInput.count hx)⟩

/-- An edge of a pair's first input: the fault of both edges in one cycle, or a clean count. -/
def Dev.finPaired (d : Dev) (i : Nat) (both : Bool) : Dev :=
  if both then (d.modFin i (fun x => { x with clean := 0 })).finCause i 2
  else
    let e := d.modFin i (fun x => { x with clean := (d.fin i).clean + 1 })
    if (e.fin i).cause = 2 then (if (d.fin i).clean + 1 ≥ 10 then e.finCause i 0 else e) else e.finRange i

theorem Dev.finPaired_settled (d : Dev) (i : Nat) (both : Bool) : Dev.FinSettled i d (d.finPaired i both) := by
  unfold Dev.finPaired
  split
  · exact (d.modFin_settled i (f := fun x => { x with clean := 0 }) (fun _ => rfl) (fun _ => rfl) fun _ => rfl).trans (Dev.finCause_settled _ i 2)
  · extract_lets e
    have he : Dev.FinSettled i d e := d.modFin_settled i (fun _ => rfl) (fun _ => rfl) fun _ => rfl
    split
    · split
      · exact he.trans (e.finCause_settled i 0)
      · exact he
    · exact he.trans (e.finRange_settled i)

/-- The direction of an edge: down in quadrature with the second input high. -/
def Dev.finDown (d : Dev) (i : Nat) (high : Bool) : Bool := d.bit (Reg.FIN_FIN_CFG i) 1 && decide (i % 2 = 0) && high

theorem Dev.finEdgeAt_counts {d : Dev} {i : Nat} (hfirst : d.finSecond i = false) (hon : d.bit (Reg.FIN_FIN_CFG i) 0 = true) (high : Bool) :
    Dev.FinSettled i (d.finCount i (d.finDown i high)) (d.finEdgeAt i high) := by
  have hno : ¬ (!d.bit (Reg.FIN_FIN_CFG i) 0) = true := by rw [hon]; decide
  unfold Dev.finEdgeAt
  extract_lets t
  rw [if_neg (by rw [hfirst]; decide), if_neg hno]
  by_cases hquad : d.bit (Reg.FIN_FIN_CFG i) 1 = true ∧ i % 2 = 0
  · have hdown : d.finDown i high = high := by simp [Dev.finDown, hquad.1, hquad.2]
    rw [if_pos hquad, hdown]
    exact Dev.finPaired_settled _ i _
  · have hdown : d.finDown i high = false := by
      unfold Dev.finDown
      cases hbit : d.bit (Reg.FIN_FIN_CFG i) 1 with
      | false => rfl
      | true =>
        have hodd : i % 2 ≠ 0 := fun he => hquad ⟨hbit, he⟩
        simp [hodd]
    rw [if_neg hquad, hdown]
    exact Dev.finRange_settled _ i

/-- The wake's count of pulses, behind the edge. -/
def Dev.finWoken (d : Dev) (i : Nat) : Dev :=
  if d.powerState = 0 ∨ d.fld Reg.PWR_WAKE_FIN 6 0 ≠ i then d
  else
    let t := d.tm.tbm
    let pulses := (i, t) :: d.net.wakePulses.filter (fun (p : Nat × Nat) => p.1 = i ∧ t - p.2 ≤ 1000000000)
    let d := { d with net := { d.net with wakePulses := pulses } }
    if pulses.length ≥ d.fld Reg.PWR_WAKE_FIN 15 8 then d.wakeBy 7 else d

theorem exec_finEdge (fi : Fin 96) (high : Bool) (s : State) :
    exec (.finEdge fi high) s = .next (onDev (fun d => (if d.powerState ≤ 1 then d.finEdgeAt fi high else d).finWoken fi) s) := rfl

theorem Dev.wakeBy_pow (d : Dev) (b : Nat) : ∃ p, d.wakeBy b = { d with pow := p } := by
  unfold Dev.wakeBy
  split
  · exact ⟨_, rfl⟩
  · exact ⟨d.pow, rfl⟩

theorem Dev.finWoken_settled (d : Dev) (i j : Nat) : Dev.FinSettled j d (d.finWoken i) := by
  unfold Dev.finWoken
  split
  · exact .refl j d
  · extract_lets t pulses src e
    have he : Dev.FinSettled j d e := ⟨fun _ _ => rfl, rfl, rfl, rfl, rfl⟩
    split
    · obtain ⟨p, hp⟩ := e.wakeBy_pow 7
      rw [hp]
      exact he.trans (.ofNet j rfl rfl)
    · exact he

theorem finEdge_counts {fi : Fin 96} {s : State} (hpow : s.dev.powerState ≤ 1) (hfirst : s.dev.finSecond fi = false)
    (hon : s.dev.bit (Reg.FIN_FIN_CFG fi) 0 = true) (high : Bool) :
    ∃ t, exec (.finEdge fi high) s = .next t ∧ (t.dev.fin fi).last = some s.dev.tm.tbm ∧ (t.dev.fin fi).edges.head? = some s.dev.tm.tbm
      ∧ (t.dev.fin fi).count = (if s.dev.bit (Reg.FIN_FIN_CFG fi) 1 = true ∧ fi.val % 2 = 0 ∧ high = true then (s.dev.fin fi).count - 1 else (s.dev.fin fi).count + 1)
      ∧ (∀ j, j ≠ fi.val → t.dev.fin j = s.dev.fin j) ∧ t.dev.tm = s.dev.tm ∧ KeptBeside s t := by
  have hexec : exec (.finEdge fi high) s = .next { s with dev := (s.dev.finEdgeAt fi high).finWoken fi } :=
    (exec_finEdge fi high s).trans (congrArg (fun d : Dev => Host.Outcome.next ({ s with dev := d.finWoken fi } : State)) (if_pos hpow))
  have hedge := Dev.finEdgeAt_counts hfirst hon high
  have hall := hedge.trans (Dev.finWoken_settled _ fi fi)
  obtain ⟨hothers, htm, hlast, hedges, hcount⟩ := s.dev.finCount_counts fi (s.dev.finDown fi high)
  generalize (s.dev.finEdgeAt fi high).finWoken fi = e at *
  have hdown : (s.dev.finDown fi high = true) ↔ (s.dev.bit (Reg.FIN_FIN_CFG fi) 1 = true ∧ fi.val % 2 = 0 ∧ high = true) := by
    simp [Dev.finDown, and_assoc]
  rw [if_congr hdown rfl rfl] at hcount
  exact ⟨_, hexec, hall.last.trans hlast, (congrArg List.head? hall.edges).trans hedges, hall.count.trans hcount,
    fun j hj => (hall.others j hj).trans (hothers j hj), hall.tm.trans htm, ⟨rfl, rfl, rfl⟩⟩

theorem finEdge_disabled {fi : Fin 96} {s : State} (hpow : s.dev.powerState = 0) (hfirst : s.dev.finSecond fi = false)
    (hoff : s.dev.bit (Reg.FIN_FIN_CFG fi) 0 = false) (high : Bool) : exec (.finEdge fi high) s = .next s := by
  have hedge : s.dev.finEdgeAt fi high = s.dev := (if_neg (by rw [hfirst]; decide)).trans (if_pos (by rw [hoff]; rfl))
  have hwoken : s.dev.finWoken fi = s.dev := if_pos (.inl hpow)
  have hall : (if s.dev.powerState ≤ 1 then s.dev.finEdgeAt fi high else s.dev).finWoken fi = s.dev := by
    rw [if_pos (by omega), hedge, hwoken]
  exact (exec_finEdge fi high s).trans (congrArg (fun d : Dev => Host.Outcome.next ({ s with dev := d } : State)) hall)

end Sys2Proof.Machine
end

section
/-! PROOFS. O58: the IMU ports, time marks and supplies (R488 to R490, R523, R528). -/
namespace Sys2Proof.Machine

/-! IMU_TRANSACTION (R488) -/

/-- The part at the instant of a transaction: its rate timer's, where the port runs on it. -/
def Dev.imuTimed (d : Dev) (p : Nat) : Dev :=
  match bitOf (d.rd (Reg.IMU_IMU_CFG p)) 1, (d.imu p).samples with
  | false, (t, _, _) :: _ => d.toTbs (t + d.imuPeriod p)
  | _, _ => d

/-- The yaw rate of a sample. -/
def Dev.imuYaw (d : Dev) (p : Nat) (cfg : W32) (rx : List Byte) : Int :=
  let m := d.rd (Reg.IMU_IMU_MAP p)
  let bytes := rx.take (field cfg 28 24)
  imuScaled (imuWord bytes (field m 3 0) (bitOf m 5)) (bitOf m 6) (d.rd (Reg.IMU_GYRO_SCALE p)) 10430378350470453 1000000000000

/-- The acceleration of a sample. -/
def Dev.imuAcc (d : Dev) (p : Nat) (cfg : W32) (rx : List Byte) : Int :=
  let m := d.rd (Reg.IMU_IMU_MAP p)
  let bytes := rx.take (field cfg 28 24)
  imuScaled (imuWord bytes (field m 11 8) (bitOf m 13)) (bitOf m 14) (d.rd (Reg.IMU_ACC_SCALE p)) 1 1

/-- A port with one more sample. -/
def ImuPort.sampled (x : ImuPort) (t : Nat) (yaw acc : Int) : ImuPort :=
  { samples := (t, yaw, acc) :: x.samples.filter (fun y => t - y.1 ≤ 1000000000), stale := false }

/-- A sample published. -/
def Dev.imuPut (d : Dev) (p : Nat) (yaw acc : Int) : Dev :=
  (((d.modImu p (·.sampled d.tbs yaw acc)).inc (Reg.IMU_IMU_CNT p)).wrI (Reg.IMU_IMU_YAW p) yaw).wrI (Reg.IMU_IMU_ACC p) acc

theorem Dev.imuTimed_tm (d : Dev) (p : Nat) : ∃ m, d.imuTimed p = { d with tm := m } := by
  unfold Dev.imuTimed
  split
  · exact ⟨_, rfl⟩
  · exact ⟨d.tm, rfl⟩

theorem exec_imuTransaction {port : Fin 2} {s : State} (hon : bitOf (s.dev.rd (Reg.IMU_IMU_CFG port)) 0 = true) (hpow : s.dev.powerState ≤ 1) (rx : List Byte) :
    exec (.imuTransaction port rx) s
      = .next (onDev (fun d => (d.imuTimed port).imuPut port ((d.imuTimed port).imuYaw port (d.rd (Reg.IMU_IMU_CFG port)) rx)
          ((d.imuTimed port).imuAcc port (d.rd (Reg.IMU_IMU_CFG port)) rx)) s) := by
  have hno : ¬ ((!bitOf (s.dev.rd (Reg.IMU_IMU_CFG port)) 0) = true ∨ s.dev.powerState > 1) := by
    rw [hon]
    simp [hpow]
  exact congrArg Host.Outcome.next (onDev_congr (if_neg hno))

theorem imuTransaction_off {port : Fin 2} {s : State} (h : bitOf (s.dev.rd (Reg.IMU_IMU_CFG port)) 0 = false ∨ 1 < s.dev.powerState) (rx : List Byte) :
    exec (.imuTransaction port rx) s = .next s := by
  have hoff : (!bitOf (s.dev.rd (Reg.IMU_IMU_CFG port)) 0) = true ∨ s.dev.powerState > 1 := h.imp_left fun h => by rw [h]; rfl
  exact congrArg Host.Outcome.next (onDev_congr (g := id) (if_pos hoff))

/-- The words of a sample. -/
def imuWords (p : Nat) : List Nat := [Reg.IMU_IMU_YAW p, Reg.IMU_IMU_ACC p, Reg.IMU_IMU_CNT p]

theorem Dev.imuPut_spec (d : Dev) (p : Nat) (yaw acc : Int) : (d.imuPut p yaw acc).rd (Reg.IMU_IMU_YAW p) = w32i yaw
    ∧ (d.imuPut p yaw acc).rd (Reg.IMU_IMU_ACC p) = w32i acc ∧ (d.imuPut p yaw acc).rd (Reg.IMU_IMU_CNT p) = d.rd (Reg.IMU_IMU_CNT p) + 1#32
    ∧ (d.imuPut p yaw acc).imu p = (d.imu p).sampled d.tbs yaw acc ∧ (d.imuPut p yaw acc).tbs = d.tbs
    ∧ Dev.RdKept (imuWords p) d (d.imuPut p yaw acc) := by
  have hya : Reg.IMU_IMU_YAW p ≠ Reg.IMU_IMU_ACC p := by simp only [Reg.IMU_IMU_YAW, Reg.IMU_IMU_ACC]; omega
  have hca : Reg.IMU_IMU_CNT p ≠ Reg.IMU_IMU_ACC p := by simp only [Reg.IMU_IMU_CNT, Reg.IMU_IMU_ACC]; omega
  have hcy : Reg.IMU_IMU_CNT p ≠ Reg.IMU_IMU_YAW p := by simp only [Reg.IMU_IMU_CNT, Reg.IMU_IMU_YAW]; omega
  refine ⟨(Dev.rd_wr_ne _ _ hya).trans (Dev.rd_wr_same _ _ _), Dev.rd_wr_same _ _ _,
    (Dev.rd_wr_ne _ _ hca).trans ((Dev.rd_wr_ne _ _ hcy).trans (Dev.rd_wr_same _ _ _)), Dev.imu_modImu_same d p (·.sampled d.tbs yaw acc), rfl, ?_⟩
  exact ((((Dev.RdKept.refl _ d).struct (e' := d.modImu p (·.sampled d.tbs yaw acc)) rfl).wr (by simp [imuWords]) _).wr (by simp [imuWords]) _).wr
    (by simp [imuWords]) _

theorem imuTransaction_publishes {port : Fin 2} {s : State} (hon : bitOf (s.dev.rd (Reg.IMU_IMU_CFG port)) 0 = true) (hpow : s.dev.powerState ≤ 1)
    (rx : List Byte) :
    ∃ t, exec (.imuTransaction port rx) s = .next t ∧ t.dev.rd (Reg.IMU_IMU_YAW port) = w32i (s.dev.imuYaw port (s.dev.rd (Reg.IMU_IMU_CFG port)) rx)
      ∧ t.dev.rd (Reg.IMU_IMU_ACC port) = w32i (s.dev.imuAcc port (s.dev.rd (Reg.IMU_IMU_CFG port)) rx) ∧ t.dev.rd (Reg.IMU_IMU_CNT port) = s.dev.rd (Reg.IMU_IMU_CNT port) + 1#32
      ∧ (t.dev.imu port).samples.head? = some (t.dev.tbs, s.dev.imuYaw port (s.dev.rd (Reg.IMU_IMU_CFG port)) rx, s.dev.imuAcc port (s.dev.rd (Reg.IMU_IMU_CFG port)) rx) ∧ (t.dev.imu port).stale = false ∧ KeptBeside s t
      ∧ regsKept (imuWords port) s t := by
  obtain ⟨m, hm⟩ := s.dev.imuTimed_tm port
  have hyaw : (s.dev.imuTimed port).imuYaw port (s.dev.rd (Reg.IMU_IMU_CFG port)) rx = s.dev.imuYaw port (s.dev.rd (Reg.IMU_IMU_CFG port)) rx := (congrArg (fun d : Dev => d.imuYaw port (s.dev.rd (Reg.IMU_IMU_CFG port)) rx) hm).trans rfl
  have hacc : (s.dev.imuTimed port).imuAcc port (s.dev.rd (Reg.IMU_IMU_CFG port)) rx = s.dev.imuAcc port (s.dev.rd (Reg.IMU_IMU_CFG port)) rx := (congrArg (fun d : Dev => d.imuAcc port (s.dev.rd (Reg.IMU_IMU_CFG port)) rx) hm).trans rfl
  have hregs : (s.dev.imuTimed port).regs = s.dev.regs := (congrArg Dev.regs hm).trans rfl
  have hexec : exec (.imuTransaction port rx) s = .next { s with dev := (s.dev.imuTimed port).imuPut port (s.dev.imuYaw port (s.dev.rd (Reg.IMU_IMU_CFG port)) rx) (s.dev.imuAcc port (s.dev.rd (Reg.IMU_IMU_CFG port)) rx) } := by
    rw [← hyaw, ← hacc]
    exact exec_imuTransaction hon hpow rx
  clear hm hyaw hacc
  generalize s.dev.imuYaw port (s.dev.rd (Reg.IMU_IMU_CFG port)) rx = yaw at *
  generalize s.dev.imuAcc port (s.dev.rd (Reg.IMU_IMU_CFG port)) rx = acc at *
  generalize s.dev.imuTimed port = d at *
  obtain ⟨hy, ha, hc, himu, htbs, hkept⟩ := d.imuPut_spec port yaw acc
  generalize d.imuPut port yaw acc = e at *
  refine ⟨_, hexec, hy, ha, hc.trans (congrArg (· + 1#32) (Dev.rd_of_regs hregs _)), ?_, congrArg ImuPort.stale himu, ⟨rfl, rfl, rfl⟩,
    fun a hnot => (hkept a hnot).trans (Dev.rd_of_regs hregs a)⟩
  exact (congrArg (fun x : ImuPort => x.samples.head?) himu).trans (congrArg (fun t => some (t, yaw, acc)) htbs.symm)

/-! IMU_STALE (R489) -/

/-- The part three periods after the newest sample. -/
def Dev.imuLate (d : Dev) (p : Nat) : Dev :=
  match (d.imu p).samples with
  | (t, _, _) :: _ => d.toTbs (t + 3 * d.imuPeriod p + 1)
  | [] => d

/-- A port without samples. -/
def ImuPort.staled (x : ImuPort) : ImuPort := { x with stale := true }

/-- A port shown as stale. -/
def Dev.imuStaled (d : Dev) (p : Nat) : Dev := ((d.modImu p ImuPort.staled).irq pIMU (16 + p)).faultRec pIMU (16 + p)

theorem exec_imuStale {port : Fin 2} {s : State} (hon : s.dev.bit (Reg.IMU_IMU_CFG port) 0 = true) (hfresh : (s.dev.imu port).stale = false) :
    exec (.imuStale port) s = .next (onDev (fun d => (d.imuLate port).imuStaled port) s) :=
  congrArg Host.Outcome.next (onDev_congr (if_neg (by rw [hon, hfresh]; decide)))

theorem imuStale_not {port : Fin 2} {s : State} (h : s.dev.bit (Reg.IMU_IMU_CFG port) 0 = false ∨ (s.dev.imu port).stale = true) :
    exec (.imuStale port) s = .next s := by
  refine congrArg Host.Outcome.next (onDev_congr (g := id) (if_pos ?_))
  rcases h with h | h
  · rw [h]
    rfl
  · rw [h, Bool.or_true]

theorem Dev.imuLate_tm (d : Dev) (p : Nat) : ∃ m, d.imuLate p = { d with tm := m } := by
  unfold Dev.imuLate
  split
  · exact ⟨_, rfl⟩
  · exact ⟨d.tm, rfl⟩

theorem Dev.imu_of_net {d e : Dev} (h : e.net = d.net) (p : Nat) : e.imu p = d.imu p := congrArg (fun n : Net => sget (fun _ => ({} : ImuPort)) n.imu p) h

theorem Dev.imuStaled_spec (d : Dev) {p : Nat} (hp : p < 2) : (d.imuStaled p).imu p = (d.imu p).staled
    ∧ (d.imuStaled p).bit (Reg.FAULT pIMU) (16 + p) = true ∧ (d.imuStaled p).bit (Reg.IRQ_RAW pIMU) (16 + p) = true := by
  let e := (d.modImu p ImuPort.staled).irq pIMU (16 + p)
  have hirq : e.bit (Reg.IRQ_RAW pIMU) (16 + p) = true := Dev.bit_irq_same _ pIMU (by omega)
  refine ⟨(Dev.imu_of_net (Dev.faultRec_net e pIMU (16 + p) [] 0 0) p).trans (Dev.imu_modImu_same d p _), Dev.bit_faultRec e pIMU (by omega), ?_⟩
  exact (congrArg (bitOf · (16 + p)) (Dev.rd_emit_ne _ _ (by decide))).trans (Dev.bit_fault_true e (by omega) (by omega) hirq)

theorem imuStale_stales {port : Fin 2} {s : State} (hon : bitOf (s.dev.rd (Reg.IMU_IMU_CFG port)) 0 = true) (hfresh : (s.dev.imu port).stale = false) :
    ∃ t, exec (.imuStale port) s = .next t ∧ t.dev.imu port = { s.dev.imu port with stale := true }
      ∧ t.dev.bit (Reg.FAULT pIMU) (16 + port) = true ∧ t.dev.bit (Reg.IRQ_RAW pIMU) (16 + port) = true ∧ KeptBeside s t := by
  obtain ⟨m, hm⟩ := s.dev.imuLate_tm port
  obtain ⟨himu, hfault, hirq⟩ := (s.dev.imuLate port).imuStaled_spec port.isLt
  have hnet : (s.dev.imuLate port).imu port = s.dev.imu port := (congrArg (fun d : Dev => d.imu port) hm).trans rfl
  exact ⟨_, exec_imuStale hon hfresh, himu.trans (congrArg ImuPort.staled hnet), hfault, hirq, ⟨rfl, rfl, rfl⟩⟩

/-! TIME_MARK (R490) -/

/-- An edge of a time-mark pin is selected, and the inputs run. -/
def Dev.markTaken (d : Dev) (pin : Fin 4) (rising : Bool) : Prop :=
  bitOf (d.rd Reg.GPIO_TM_CFG) (4 * pin.val) = true
    ∧ (field (d.rd Reg.GPIO_TM_CFG) (4 * pin.val + 2) (4 * pin.val + 1)).testBit (if rising then 0 else 1) = true ∧ d.powerState ≤ 1

/-- The words of a time mark. -/
def Dev.markWords (d : Dev) (pin : Fin 4) (rising : Bool) : List W32 :=
  [w32 (pin.val * 2 ^ 16 + (if rising then 2 ^ 8 else 0) + d.net.markSeq % 2 ^ 14 * 2 ^ 18), lo32 d.tbs, hi32 d.tbs]

/-- The words of TB-G of a time mark. -/
def Dev.markTbg (d : Dev) : List W32 := if d.tbgState = tbgNone then [0, 0, 0] else ts80Words d.tbgCaptured

/-- A time mark queued. -/
def Dev.markPut (d : Dev) (ws : List W32) : Dev :=
  let e := { d with net := { d.net with marks := ws, markSeq := d.net.markSeq + 1 } }
  (e.wrN Reg.GPIO_TM_LEVEL (entriesIn 6 ws)).irq pGPIO 16

theorem exec_timeMark (pin : Fin 4) (rising : Bool) {s : State} (h : s.dev.markTaken pin rising) :
    exec (.timeMark pin rising) s = .next (onDev (fun d => if entriesIn 6 d.net.marks ≥ 64 then (d.incSat Reg.GPIO_TM_DROP).fault pGPIO 16
      else d.markPut (d.net.marks ++ d.markWords pin rising ++ d.markTbg)) s) := by
  obtain ⟨hen, hsel, hpow⟩ := h
  refine congrArg Host.Outcome.next (onDev_congr (if_neg ?_))
  rw [hen, hsel]
  simp [hpow]

theorem timeMark_unselected {pin : Fin 4} {rising : Bool} {s : State} (h : ¬ s.dev.markTaken pin rising) : exec (.timeMark pin rising) s = .next s := by
  refine congrArg Host.Outcome.next (onDev_congr (g := id) (if_pos ?_))
  unfold Dev.markTaken at h
  by_contra hno
  rw [not_or, not_or] at hno
  obtain ⟨hen, hpow, hsel⟩ := hno
  exact h ⟨by simpa using hen, by simpa using hsel, by omega⟩

theorem timeMark_queued {pin : Fin 4} {rising : Bool} {s : State} (h : s.dev.markTaken pin rising) (hroom : entriesIn 6 s.dev.net.marks < 64) :
    ∃ t, exec (.timeMark pin rising) s = .next t ∧ t.dev.bit (Reg.IRQ_RAW pGPIO) 16 = true ∧ t.dev.net.markSeq = s.dev.net.markSeq + 1
      ∧ t.dev.net.marks = s.dev.net.marks ++ s.dev.markWords pin rising ++ s.dev.markTbg
      ∧ regsKept [Reg.GPIO_TM_LEVEL, Reg.IRQ_RAW pGPIO] s t ∧ KeptBeside s t := by
  have hexec : exec (.timeMark pin rising) s = .next (onDev (fun d => d.markPut (d.net.marks ++ d.markWords pin rising ++ d.markTbg)) s) :=
    (exec_timeMark pin rising h).trans (congrArg Host.Outcome.next (onDev_congr (if_neg (Nat.not_le.mpr hroom))))
  refine ⟨_, hexec, Dev.bit_irq_same _ pGPIO (by decide), rfl, rfl, ?_, ⟨rfl, rfl, rfl⟩⟩
  exact (((Dev.RdKept.refl _ s.dev).struct (e' := { s.dev with net := _ }) rfl).wr (by decide) _).irq (by decide) _

theorem timeMark_dropped {pin : Fin 4} {rising : Bool} {s : State} (h : s.dev.markTaken pin rising) (hfull : 64 ≤ entriesIn 6 s.dev.net.marks) :
    ∃ t, exec (.timeMark pin rising) s = .next t ∧ t.dev.net = s.dev.net ∧ t.dev.bit (Reg.FAULT pGPIO) 16 = true
      ∧ t.dev.rd Reg.GPIO_TM_DROP = sat32 (s.dev.rdN Reg.GPIO_TM_DROP + 1)
      ∧ regsKept [Reg.GPIO_TM_DROP, Reg.FAULT pGPIO, Reg.IRQ_RAW pGPIO] s t ∧ KeptBeside s t := by
  have hexec : exec (.timeMark pin rising) s = .next (onDev (fun d => (d.incSat Reg.GPIO_TM_DROP).fault pGPIO 16) s) :=
    (exec_timeMark pin rising h).trans (congrArg Host.Outcome.next (onDev_congr (if_pos hfull)))
  refine ⟨_, hexec, (Dev.fault_net (s.dev.incSat Reg.GPIO_TM_DROP) pGPIO 16).trans rfl, Dev.bit_fault_same _ pGPIO (by decide), ?_, ?_, ⟨rfl, rfl, rfl⟩⟩
  · exact (Dev.rd_fault_ne (s.dev.incSat Reg.GPIO_TM_DROP) pGPIO 16 (by decide) (by decide)).trans (Dev.rd_wr_same s.dev Reg.GPIO_TM_DROP _)
  · exact ((Dev.RdKept.refl _ s.dev).wr (by decide) _).fault (by decide) (by decide) _

/-- The marks left by a read. -/
def Dev.marksRead (d : Dev) (n : Nat) : Dev := { d with net := { d.net with marks := d.net.marks.drop n } }

/-- TM_PORT: the first words of the time-mark queue. -/
def Dev.marksGive (n : Nat) (d : Dev) : List W32 × Dev :=
  (d.net.marks.take n, (d.marksRead n).wrN Reg.GPIO_TM_LEVEL (entriesIn 6 (d.marksRead n).net.marks))

theorem timeMarkRead_gives {req : Requester} {u : State} (h : Readable req Reg.GPIO_TM_PORT u) (words : Nat) :
    ∃ t, hostPort req Reg.GPIO_TM_PORT words portMarks u = t
      ∧ answerTo req t = ⟨.ok, (u.dev.net.marks.take words).length, u.dev.net.marks.take words⟩
      ∧ t.dev.net = { u.dev.net with marks := u.dev.net.marks.drop words } ∧ regsKept [Reg.GPIO_TM_LEVEL, Reg.STATUS pGPIO] u t ∧ KeptBeside u t := by
  obtain ⟨k, hk⟩ := hostPort_dev (n := words) h Dev.marksGive
  obtain ⟨rs, f, hdev⟩ := portRead_dev req Reg.GPIO_TM_PORT words (Dev.marksGive words (u.woken k).dev) (u.woken k)
  exact ⟨_, hk, answerTo_portRead _ _ _ _ _, (congrArg Dev.net hdev).trans rfl,
    portRead_regsKept (by decide) _ _ _ (((Dev.RdKept.refl _ (u.woken k).dev).struct (e' := (u.woken k).dev.marksRead words) rfl).wr (by decide) _),
    ⟨rfl, rfl, rfl⟩⟩

/-! VBAT_LOW and VBAT_RECOVERY (R523) -/

/-- The supply's state, and the rails' after it. -/
def Dev.vbatSet (d : Dev) (low : Bool) : Dev := { d with drv := { d.drv with vbatLow := low } }

/-- One rail's update. -/
def Dev.railStep (d : Dev) (k : Nat) : Dev :=
  if d.railWanted k && d.railState k = 0 then (d.setRail k 1).modRail k (fun r => { r with chargeFrom := some d.tm.tbm })
  else if !d.railWanted k && d.railState k ≠ 0 && d.railState k ≠ 4 then d.setRail k 0
  else d

theorem Dev.railUpdate_eq (d : Dev) : d.railUpdate = [0, 1, 2, 3].foldl Dev.railStep d := rfl

/-- A change that leaves a rail's state and what the supply allows. -/
def Dev.RailBeside (j : Nat) (d e : Dev) : Prop := e.railState j = d.railState j ∧ e.drv.vbatLow = d.drv.vbatLow

theorem Dev.setRail_beside (d : Dev) {k j : Nat} (hj : j ≠ k) (st : Nat) : Dev.RailBeside j d (d.setRail k st) := by
  have hne : Reg.VB_RAIL_STATE j ∉ railOwn k := by
    simp only [railOwn, Reg.VB_RAIL_STATE, Reg.STATUS, Reg.IRQ_RAW, pVB, List.mem_cons, List.not_mem_nil, or_false]
    omega
  exact ⟨(d.setRail_own k st).fld hne 2 0, congrArg Drive.vbatLow (d.setRail_drv k st)⟩

theorem Dev.railStep_beside (d : Dev) {k j : Nat} (hj : j ≠ k) : Dev.RailBeside j d (d.railStep k) := by
  unfold Dev.railStep
  split
  · exact d.setRail_beside hj 1
  · split
    · exact d.setRail_beside hj 0
    · exact ⟨rfl, rfl⟩

theorem Dev.railUnwanted_of_low {d : Dev} (h : d.drv.vbatLow = true) (k : Nat) : d.railWanted k = false := by
  unfold Dev.railWanted
  rw [h]
  simp

theorem Dev.railStep_ends {d : Dev} (h : d.drv.vbatLow = true) (k : Nat) : (d.railStep k).railState k = 0 ∨ (d.railStep k).railState k = 4 := by
  unfold Dev.railStep
  rw [Dev.railUnwanted_of_low h k]
  by_cases hst : d.railState k = 0
  · simp [hst]
  · by_cases hfault : d.railState k = 4
    · simp [hfault]
    · simp [hst, hfault, Dev.setRail_state]

/-- While the supply is low no rail charges or is ready. -/
theorem Dev.railUpdate_ends {d : Dev} (h : d.drv.vbatLow = true) {k : Nat} (hk : k < 4) : d.railUpdate.railState k = 0 ∨ d.railUpdate.railState k = 4 := by
  rw [Dev.railUpdate_eq]
  have hmem : k ∈ [0, 1, 2, 3] := by
    simp only [List.mem_cons, List.not_mem_nil, or_false]
    omega
  obtain ⟨a, ⟨-, hlow⟩, hafter, -⟩ := foldl_meets (R := Dev.RailBeside k) (f := Dev.railStep) (fun _ => ⟨rfl, rfl⟩)
    (fun h h' => ⟨h'.1.trans h.1, h'.2.trans h.2⟩) (fun e x _ hx => e.railStep_beside hx.symm) (by decide) hmem d
  rw [hafter]
  exact Dev.railStep_ends (hlow.trans h) k

theorem Dev.railUpdate_vbatLow (d : Dev) : d.railUpdate.drv.vbatLow = d.drv.vbatLow := by
  rw [Dev.railUpdate_eq]
  refine List.foldlRecOn (motive := fun e : Dev => e.drv.vbatLow = d.drv.vbatLow) _ _ rfl fun e he k _ => ?_
  unfold Dev.railStep
  split
  · exact (congrArg Drive.vbatLow (e.setRail_drv k 1)).trans he
  · split
    · exact (congrArg Drive.vbatLow (e.setRail_drv k 0)).trans he
    · exact he

/-- The rails updated for the supply, and the event recorded. -/
def Dev.vbatMoved (d : Dev) (low : Bool) : Dev := ((d.vbatSet low).railUpdate).recOther pVB

theorem Dev.vbatMoved_spec (d : Dev) (low : Bool) : (d.vbatMoved low).drv.vbatLow = low ∧ (d.vbatMoved low).drv.ch = d.drv.ch
    ∧ (d.vbatMoved low).tm = d.tm ∧ (low = true → ∀ k, k < 4 → (d.vbatMoved low).railState k = 0 ∨ (d.vbatMoved low).railState k = 4) := by
  have htm : (d.vbatSet low).railUpdate.tm = d.tm :=
    ((d.vbatSet low).railUpdate_sameBut (blank := fun d => { d with drv := {} }) fun _ _ => rfl).proj (·.tm) fun _ => rfl
  have hch : (d.vbatSet low).railUpdate.drv.ch = d.drv.ch := (d.vbatSet low).railUpdate_ch
  have hlow : (d.vbatSet low).railUpdate.drv.vbatLow = low := (d.vbatSet low).railUpdate_vbatLow
  have hends : low = true → ∀ k, k < 4 → (d.vbatSet low).railUpdate.railState k = 0 ∨ (d.vbatSet low).railUpdate.railState k = 4 :=
    fun h k hk => Dev.railUpdate_ends (d := d.vbatSet low) h hk
  unfold Dev.vbatMoved
  generalize (d.vbatSet low).railUpdate = e at *
  have hdrv : (e.recOther pVB).drv = e.drv := Dev.emit_drv _ _
  have hst : ∀ k, (e.recOther pVB).railState k = e.railState k := fun k => by
    refine congrArg (field · 2 0) (Dev.rd_emit_ne _ _ ?_)
    simp only [Reg.VB_RAIL_STATE, Reg.REC_SUPP_TOTAL]
    omega
  refine ⟨(congrArg Drive.vbatLow hdrv).trans hlow, (congrArg Drive.ch hdrv).trans hch, (Dev.emit_tm _ _).trans htm, fun h k hk => ?_⟩
  rw [hst]
  exact hends h k hk

theorem vbatLow_falls {milliV : Nat} {s : State} (hmv : milliV < 12000) (hup : s.dev.drv.vbatLow = false) :
    ∃ t, exec (.vbatLow milliV) s = .next t ∧ t.dev.drv.vbatLow = true ∧ (∀ k, k < 4 → t.dev.railState k = 0 ∨ t.dev.railState k = 4)
      ∧ t.dev.drv.ch = s.dev.drv.ch ∧ t.dev.tm = s.dev.tm ∧ KeptBeside s t := by
  have hexec : exec (.vbatLow milliV) s = .next (onDev (·.vbatMoved true) s) := congrArg Host.Outcome.next (onDev_congr (if_pos ⟨hmv, hup⟩))
  obtain ⟨hlow, hch, htm, hends⟩ := s.dev.vbatMoved_spec true
  exact ⟨_, hexec, hlow, hends rfl, hch, htm, ⟨rfl, rfl, rfl⟩⟩

theorem vbatLow_not {milliV : Nat} {s : State} (h : 12000 ≤ milliV ∨ s.dev.drv.vbatLow = true) : exec (.vbatLow milliV) s = .next s := by
  refine congrArg Host.Outcome.next (onDev_congr (g := id) (if_neg ?_))
  rintro ⟨hmv, hup⟩
  rcases h with h | h
  · omega
  · exact absurd (hup.symm.trans h) (by decide)

theorem vbatRecovery_recovers {milliV : Nat} {s : State} (hmv : 12000 ≤ milliV) (hdown : s.dev.drv.vbatLow = true) :
    ∃ t, exec (.vbatRecovery milliV) s = .next t ∧ t.dev.drv.vbatLow = false ∧ t.dev.drv.ch = s.dev.drv.ch ∧ t.dev.tm = s.dev.tm ∧ KeptBeside s t := by
  have hexec : exec (.vbatRecovery milliV) s = .next (onDev (·.vbatMoved false) s) := congrArg Host.Outcome.next (onDev_congr (if_pos ⟨hmv, hdown⟩))
  obtain ⟨hlow, hch, htm, -⟩ := s.dev.vbatMoved_spec false
  exact ⟨_, hexec, hlow, hch, htm, ⟨rfl, rfl, rfl⟩⟩

theorem vbatRecovery_not {milliV : Nat} {s : State} (h : milliV < 12000 ∨ s.dev.drv.vbatLow = false) : exec (.vbatRecovery milliV) s = .next s := by
  refine congrArg Host.Outcome.next (onDev_congr (g := id) (if_neg ?_))
  rintro ⟨hmv, hdown⟩
  rcases h with h | h
  · omega
  · exact absurd (hdown.symm.trans h) (by decide)

/-! SUPPLY_OUTPUT_LIMIT (R528) -/

theorem supplyOutputLimit_recorded {output : SupplyOutput} {s : State} (hon : supplyOnIn s.dev.powerState output = true) (hopen : s.dev.rcf.closed = false)
    (hpf : s.dev.pow.pfAt = none) (hroom : s.dev.rcf.intake.length < intakeDepth) :
    ∃ t, exec (.supplyOutputLimit output) s = .next t ∧ t.dev.rcf.intake.length = s.dev.rcf.intake.length + 1
      ∧ (∃ e ∈ t.dev.rcf.intake, e.page = 0 ∧ e.kind = 3 ∧ e.values = [w32 (supplyNumber output)] ∧ e.cycle = s.dev.tm.tbm)
      ∧ t.dev.regs = s.dev.regs ∧ t.dev.drv = s.dev.drv ∧ KeptBeside s t := by
  let e : Event := ⟨false, 0, 0, 3, 0, 0, 0, [w32 (supplyNumber output)], s.dev.tm.tbm⟩
  have hdev : s.dev.emit e = { s.dev with rcf := { s.dev.rcf with intake := enqueueEvent s.dev.rcf.intake e } } := Dev.emit_open _ _ hopen hpf hroom
  have hexec : exec (.supplyOutputLimit output) s = .next { s with dev := { s.dev with rcf := { s.dev.rcf with intake := enqueueEvent s.dev.rcf.intake e } } } :=
    congrArg Host.Outcome.next (onDev_congr (g := fun d => { d with rcf := { d.rcf with intake := enqueueEvent d.rcf.intake e } }) ((if_pos hon).trans hdev))
  exact ⟨_, hexec, length_enqueueEvent _ e, ⟨e, (mem_enqueueEvent _ e e).mpr (.inl rfl), rfl, rfl, rfl, rfl⟩, rfl, rfl, ⟨rfl, rfl, rfl⟩⟩

theorem supplyOutputLimit_off {output : SupplyOutput} {s : State} (h : supplyOnIn s.dev.powerState output = false) :
    exec (.supplyOutputLimit output) s = .next s := congrArg Host.Outcome.next (onDev_congr (g := id) (if_neg (by rw [h]; decide)))

/-- Settles O58. -/
theorem sensorInputsAndSupplies : Obligations.SensorInputsAndSupplies := by
  intro req samples input fi quadHigh rising port rx pin milliV words i n output s
  refine ⟨fun hpow hi => ?_, ainScan_parked samples, ainShuntReconnect_reconnects, ainShuntReconnect_on, fun hpow hfirst hon => finEdge_counts hpow hfirst hon quadHigh,
    fun hpow hfirst hoff => finEdge_disabled hpow hfirst hoff quadHigh, fun hon hpow => imuTransaction_publishes hon hpow rx, fun h => imuTransaction_off h rx,
    imuStale_stales, imuStale_not, fun h => ⟨timeMark_queued h, timeMark_dropped h⟩, timeMark_unselected, fun h => ?_, vbatLow_falls, vbatLow_not,
    vbatRecovery_recovers, vbatRecovery_not, supplyOutputLimit_recorded, supplyOutputLimit_off⟩
  · obtain ⟨t, ht, hdue, hold, hkept, hreach, htbm, hoff, hshunted, hexceeds, hvalid, hfails⟩ := ainScan_samples samples hi hpow
    obtain ⟨m, hm⟩ := s.dev.scanEnds_tm
    have hcfg : s.dev.scanEnds.ainCfg i = s.dev.ainCfg i := (congrArg (fun d : Dev => d.ainCfg i) hm).trans rfl
    have hain : s.dev.scanEnds.ain i = s.dev.ain i := (congrArg (fun d : Dev => d.ain i) hm).trans rfl
    have hword : s.dev.scanEnds.rd (Reg.AIN_AIN_VAL i) = s.dev.rd (Reg.AIN_AIN_VAL i) := (congrArg (fun d : Dev => d.rd (Reg.AIN_AIN_VAL i)) hm).trans rfl
    have hfld : s.dev.scanEnds.fld (Reg.AIN_AIN_VAL i) 11 0 = s.dev.fld (Reg.AIN_AIN_VAL i) 11 0 := congrArg (field · 11 0) hword
    rw [hcfg] at hoff
    rw [hcfg, hain, hword] at hshunted
    rw [hcfg, hain, ← htbm] at hexceeds
    rw [hcfg, hain] at hvalid
    rw [hcfg, hain, hfld] at hfails
    exact ⟨t, ht, hdue, hold, hkept, hreach, hoff, hshunted, hexceeds, fun htook => hvalid htook.1 htook.2.1 htook.2.2, fun htook => hfails htook.1 htook.2.1 htook.2.2⟩
  · obtain ⟨t, ht, hrest⟩ := timeMarkRead_gives h words
    exact ⟨t, congrArg Host.Outcome.next ht, hrest⟩

end Sys2Proof.Machine
end

section
/-! PROOFS. The integrity flags and the gate on a return of the clock (R182 to R185, R191). -/
namespace Sys2Proof.Machine

/-! Flags -/

/-- The words of a flag's change. -/
def integWords : List Nat := [Reg.INTEG_INTEG_FLAGS, Reg.INTEG_INTEG_EVT, Reg.STATUS pINTEG, Reg.IRQ_RAW pINTEG, Reg.REC_SUPP_TOTAL]

/-- A flag written and its change counted and shown, before it is recorded. -/
def Dev.integPut (d : Dev) (b : Nat) (v : Bool) : Dev :=
  let e := (d.setBit Reg.INTEG_INTEG_FLAGS b v).inc Reg.INTEG_INTEG_EVT
  let f := e.setStat pINTEG 16 (e.integ ifSPOOF)
  (f.setStat pINTEG 17 (f.integ ifJUMP || f.integ ifDRIFT || f.integ ifPOWER || f.integ ifFLAT)).irq pINTEG 16

theorem Dev.setInteg_same {d : Dev} {b : Nat} {v : Bool} (h : d.integ b = v) : d.setInteg b v = d := if_pos h

theorem Dev.setInteg_changes {d : Dev} {b : Nat} {v : Bool} (h : d.integ b ≠ v) : d.setInteg b v = (d.integPut b v).recIrq pINTEG 16 := if_neg h

theorem Dev.integPut_rdKept (d : Dev) (b : Nat) (v : Bool) : Dev.RdKept integWords d (d.integPut b v) :=
  (((((Dev.RdKept.refl _ d).setBit (by decide) _ _).wr (by decide) _).setStat (by decide) _ _).setStat (by decide) _ _).irq (by decide) _

theorem Dev.setInteg_rdKept (d : Dev) (b : Nat) (v : Bool) : Dev.RdKept integWords d (d.setInteg b v) := by
  by_cases h : d.integ b = v
  · rw [Dev.setInteg_same h]
    exact .refl _ d
  · rw [Dev.setInteg_changes h]
    exact (d.integPut_rdKept b v).emit (by decide) _

theorem Dev.setInteg_sameBut {blank : Dev → Dev} (hr : ForgetsRcf blank) (d : Dev) (b : Nat) (v : Bool) : Dev.SameBut blank d (d.setInteg b v) := by
  by_cases h : d.integ b = v
  · rw [Dev.setInteg_same h]
    exact .refl _ d
  · rw [Dev.setInteg_changes h]
    have hput : Dev.SameBut blank d (d.integPut b v) :=
      (((((Dev.SameBut.refl _ d).setBit _ _ _).wr _ _).setStat _ _ _).setStat _ _ _).irq _ _
    exact hput.emit hr _

theorem Dev.setInteg_integ (d : Dev) {b : Nat} (hb : b < 32) (v : Bool) : (d.setInteg b v).integ b = v := (d.setInteg_spec hb v).1

theorem Dev.setInteg_integ_ne (d : Dev) {b c : Nat} (hb : b < 32) (hc : c < 32) (h : c ≠ b) (v : Bool) : (d.setInteg b v).integ c = d.integ c := by
  by_cases hsame : d.integ b = v
  · rw [Dev.setInteg_same hsame]
  · rw [Dev.setInteg_changes hsame]
    let e := d.setBit Reg.INTEG_INTEG_FLAGS b v
    have hrest : Dev.RdKept [Reg.INTEG_INTEG_EVT, Reg.STATUS pINTEG, Reg.IRQ_RAW pINTEG, Reg.REC_SUPP_TOTAL] e ((d.integPut b v).recIrq pINTEG 16) :=
      (((((Dev.RdKept.refl _ e).wr (by decide) _).setStat (by decide) _ _).setStat (by decide) _ _).irq (by decide) _).emit (by decide) _
    exact (hrest.bit (by decide) c).trans ((Dev.bit_setBit d _ b c v hb hc).trans (if_neg h))

/-! A return of the clock (R101, R185) -/

/-- The words of a return. -/
def returnWords : List Nat :=
  [Reg.CLK_XO_PPB, Reg.CLK_TCXO_PPB, Reg.TIME_PPS_UNC, Reg.TIME_PPS_STATUS, Reg.TIME_TBG_STATE, Reg.IRQ_RAW pTIME, Reg.REC_SUPP_TOTAL]

theorem Dev.solutionBack_rdKept (d : Dev) (f : TimeFix) : Dev.RdKept returnWords d (d.solutionBack f) :=
  ((d.takeFix_rdKept f).mono (by decide)).setBit (by decide) _ _

/-- A return changes the steering words, and announces a step or begins a slew. -/
theorem Dev.returnTbg_cases (d : Dev) (f : TimeFix) : d.returnTbg f = d ∨ (∃ x, d.returnTbg f = (d.solutionBack f).announce x)
    ∨ (∃ x, d.returnTbg f = ((d.solutionBack f).slewFrom x).setTbg tbgReturnS) ∨ ∃ x, d.returnTbg f = ((d.solutionBack f).announce x).irq pTIME 18 := by
  by_cases h : d.tbgState = tbgHoldoverS
  · have hheld := Dev.returnTbg_held h f
    by_cases hstep : (d.solutionBack f).tm.stepTo.isSome = true
    · exact .inr (.inl ⟨_, hheld.trans (if_pos hstep)⟩)
    · by_cases herr : (d.errTo f).natAbs ≤ 1000 * pU
      · exact .inr (.inr (.inl ⟨_, hheld.trans ((if_neg hstep).trans (if_pos herr))⟩))
      · exact .inr (.inr (.inr ⟨_, hheld.trans ((if_neg hstep).trans (if_neg herr))⟩))
  · exact .inl (if_neg h)

theorem Dev.returnTbg_rdKept (d : Dev) (f : TimeFix) : Dev.RdKept returnWords d (d.returnTbg f) := by
  have hback := d.solutionBack_rdKept f
  rcases d.returnTbg_cases f with h | ⟨x, h⟩ | ⟨x, h⟩ | ⟨x, h⟩ <;> rw [h]
  · exact .refl _ d
  · exact hback.struct rfl
  · exact (hback.struct (e' := (d.solutionBack f).slewFrom x) rfl).trans ((Dev.setTbg_rdKept _ _).mono (by decide))
  · exact (hback.struct (e' := (d.solutionBack f).announce x) rfl).irq (by decide) _

theorem Dev.returnTbg_sameBut {blank : Dev → Dev} (ht : ForgetsTm blank) (hr : ForgetsRcf blank) (d : Dev) (f : TimeFix) :
    Dev.SameBut blank d (d.returnTbg f) := by
  have hback : Dev.SameBut blank d (d.solutionBack f) := (((Dev.SameBut.refl _ d).wr _ _).wr _ _).wr _ _ |>.setBit _ _ _
  rcases d.returnTbg_cases f with h | ⟨x, h⟩ | ⟨x, h⟩ | ⟨x, h⟩ <;> rw [h]
  · exact .refl _ d
  · exact hback.tm ht _
  · exact (hback.tm ht _).trans (Dev.setTbg_sameBut hr _ _)
  · exact (hback.tm ht _).irq _ _

theorem Dev.returnTbg_tbm (d : Dev) (f : TimeFix) : (d.returnTbg f).tm.tbm = d.tm.tbm := by
  have hback : (d.solutionBack f).tm.tbm = d.tm.tbm := congrArg TimeBases.tbm (d.solutionBack_spec f).1
  rcases d.returnTbg_cases f with h | ⟨x, h⟩ | ⟨x, h⟩ | ⟨x, h⟩ <;> rw [h]
  · exact hback
  · exact (congrArg TimeBases.tbm (Dev.setTbg_tm _ _)).trans hback
  · exact hback

theorem Dev.gateReturn_cases (d : Dev) (f : TimeFix) : d.gateReturn f = d ∨ d.gateReturn f = (d.gateWaits f).setInteg ifGATED true ∨ d.gateReturn f = d.returnTbg f := by
  unfold Dev.gateReturn
  split
  · exact .inl rfl
  · split
    · exact .inr (.inl rfl)
    · exact .inr (.inr rfl)

theorem Dev.gateReturn_rdKept (d : Dev) (f : TimeFix) : Dev.RdKept (integWords ++ returnWords) d (d.gateReturn f) := by
  rcases d.gateReturn_cases f with h | h | h <;> rw [h]
  · exact .refl _ d
  · exact ((Dev.RdKept.refl integWords d).struct (e' := d.gateWaits f) rfl |>.trans (Dev.setInteg_rdKept _ _ _)).mono (by decide)
  · exact (d.returnTbg_rdKept f).mono (by decide)

theorem Dev.gateReturn_sameBut {blank : Dev → Dev} (hg : ForgetsGps blank) (ht : ForgetsTm blank) (hr : ForgetsRcf blank) (d : Dev) (f : TimeFix) :
    Dev.SameBut blank d (d.gateReturn f) := by
  rcases d.gateReturn_cases f with h | h | h <;> rw [h]
  · exact .refl _ d
  · exact ((Dev.SameBut.refl _ d).gps hg _).trans (Dev.setInteg_sameBut hr _ _ _)
  · exact Dev.returnTbg_sameBut ht hr d f

/-- The gate opened: no return waits, and the flag is clear. -/
theorem Dev.gateOpen_spec {d : Dev} {g : TimeFix × Nat} (h : d.gps.gated = some g) : d.gateOpen.gps.gated = none ∧ d.gateOpen.integ ifGATED = false
    ∧ d.gateOpen.tm.tbm = d.tm.tbm ∧ Dev.SameBut (fun d => { d with tm := {}, rcf := {}, gps := {} }) d d.gateOpen := by
  let e : Dev := { d with gps := { d.gps with gated := none } }
  let f : TimeFix := { g.1 with gpsNs := g.1.gpsNs + d.tbg - g.2 }
  have hopen : d.gateOpen = (e.setInteg ifGATED false).returnTbg f := by
    unfold Dev.gateOpen
    rw [h]
    rfl
  rw [hopen]
  obtain ⟨hflag, hgps, htm, -⟩ := e.setInteg_spec (b := ifGATED) (by decide) false
  have hset : Dev.SameBut (fun d => { d with tm := {}, rcf := {}, gps := {} }) d (e.setInteg ifGATED false) :=
    ((Dev.SameBut.refl _ d).gps (fun _ _ => rfl) _).trans (Dev.setInteg_sameBut (fun _ _ => rfl) e _ _)
  clear_value f
  generalize e.setInteg ifGATED false = x at *
  have hretGps : (x.returnTbg f).gps = x.gps := (Dev.returnTbg_sameBut (blank := forgetTime) forgetTime_tm forgetTime_rcf x f).proj (·.gps) fun _ => rfl
  refine ⟨(congrArg Gnss.gated (hretGps.trans hgps)).trans rfl, ((x.returnTbg_rdKept f).bit (by decide) _).trans hflag,
    (x.returnTbg_tbm f).trans ((congrArg TimeBases.tbm htm).trans rfl), hset.trans (Dev.returnTbg_sameBut (fun _ _ => rfl) (fun _ _ => rfl) x f)⟩

/-! CLK_GATE_RELEASE, ACCEPT_CLOCK and CLEAR_ADVISORY (R185, R191) -/

/-- What these commands keep of a state. -/
def NavKept (s t : State) : Prop := t.ldg = s.ldg ∧ t.rcd = s.rcd ∧ t.dev.drv = s.dev.drv

theorem exec_clkGateRelease {s : State} {g : TimeFix × Nat} (hg : s.dev.gps.gated = some g) (hsound : s.dev.clkSound = true) (hnav : s.dev.clockLost 6 = false) :
    exec .clkGateRelease s = .next (onDev (fun d => (d.toTbm (d.gps.clkQuiet + d.rdN Reg.INTEG_CLK_QUIET * 1000000000)).gateOpen) s) :=
  congrArg Host.Outcome.next (onDev_congr (if_pos (by rw [hg, hsound, hnav]; rfl)))

theorem clkGateRelease_opens {s : State} {g : TimeFix × Nat} (hg : s.dev.gps.gated = some g) (hsound : s.dev.clkSound = true) (hnav : s.dev.clockLost 6 = false) :
    ∃ t, exec .clkGateRelease s = .next t ∧ NavKept s t ∧ t.dev.gps.gated = none ∧ t.dev.integ ifGATED = false
      ∧ s.dev.gps.clkQuiet + s.dev.rdN Reg.INTEG_CLK_QUIET * 1000000000 ≤ t.dev.tm.tbm := by
  have hexec := exec_clkGateRelease hg hsound hnav
  have hreach := s.dev.toTbm_reaches (s.dev.gps.clkQuiet + s.dev.rdN Reg.INTEG_CLK_QUIET * 1000000000)
  have hgated : (s.dev.toTbm (s.dev.gps.clkQuiet + s.dev.rdN Reg.INTEG_CLK_QUIET * 1000000000)).gps.gated = some g := hg
  have hdrv : (s.dev.toTbm (s.dev.gps.clkQuiet + s.dev.rdN Reg.INTEG_CLK_QUIET * 1000000000)).drv = s.dev.drv := rfl
  have hexec' : exec .clkGateRelease s
      = .next { s with dev := (s.dev.toTbm (s.dev.gps.clkQuiet + s.dev.rdN Reg.INTEG_CLK_QUIET * 1000000000)).gateOpen } := hexec
  clear hexec
  generalize s.dev.toTbm (s.dev.gps.clkQuiet + s.dev.rdN Reg.INTEG_CLK_QUIET * 1000000000) = d at *
  obtain ⟨hnone, hflag, htbm, hsame⟩ := Dev.gateOpen_spec hgated
  exact ⟨_, hexec', ⟨rfl, rfl, (hsame.proj (·.drv) fun _ => rfl).trans hdrv⟩, hnone, hflag, hreach.trans (Nat.le_of_eq htbm.symm)⟩

theorem acceptClock_opens {req : Requester} {u : State} (h : Accepts req Reg.INTEG_INTEG_CMD 1#32 u) {g : TimeFix × Nat} (hg : u.dev.gps.gated = some g) :
    ∃ t, hostCmd req Reg.INTEG_INTEG_CMD 1#32 actAcceptClock u = t ∧ answerTo req t = ⟨.ok, 1, []⟩ ∧ NavKept u t ∧ t.dev.gps.gated = none
      ∧ t.dev.integ ifGATED = false := by
  obtain ⟨k, hk⟩ := hostCmd_dev h Dev.gateOpen
  obtain ⟨hnone, hflag, -, hsame⟩ := Dev.gateOpen_spec (d := (u.woken k).dev) hg
  refine ⟨_, hk, answerTo_answeredOk req _ _, ⟨rfl, rfl, (hsame.proj (·.drv) fun _ => rfl).trans rfl⟩, ?_, ?_⟩
  · exact (congrArg Gnss.gated (answeredOk_gps req Reg.INTEG_INTEG_CMD (onDev Dev.gateOpen (u.woken k)))).trans hnone
  · exact (congrArg (bitOf · ifGATED) (answeredOk_rd req Reg.INTEG_INTEG_CMD (onDev Dev.gateOpen (u.woken k)) Reg.INTEG_INTEG_FLAGS)).trans hflag

/-- The two advisory flags cleared. -/
def Dev.advisoryCleared (d : Dev) : Dev := (d.setInteg ifFLAT false).setInteg ifPOWER false

theorem Dev.advisoryCleared_spec (d : Dev) : d.advisoryCleared.integ ifFLAT = false ∧ d.advisoryCleared.integ ifPOWER = false
    ∧ (∀ b, b < 32 → b ≠ ifFLAT → b ≠ ifPOWER → d.advisoryCleared.integ b = d.integ b)
    ∧ Dev.SameBut (fun d => { d with rcf := {} }) d d.advisoryCleared := by
  have hflat := d.setInteg_integ (b := ifFLAT) (by decide) false
  refine ⟨((d.setInteg ifFLAT false).setInteg_integ_ne (by decide) (by decide) (by decide) false).trans hflat, Dev.setInteg_integ _ (by decide) false,
    fun b hb hf hp => ?_, (Dev.setInteg_sameBut (fun _ _ => rfl) d _ _).trans (Dev.setInteg_sameBut (fun _ _ => rfl) _ _ _)⟩
  exact ((d.setInteg ifFLAT false).setInteg_integ_ne (by decide) hb hp false).trans (d.setInteg_integ_ne (by decide) hb hf false)

theorem clearAdvisory_clears {req : Requester} {u : State} (h : Accepts req Reg.INTEG_INTEG_CMD 2#32 u) :
    ∃ t, hostCmd req Reg.INTEG_INTEG_CMD 2#32 actClearAdvisory u = t ∧ answerTo req t = ⟨.ok, 1, []⟩ ∧ NavKept u t
      ∧ t.dev.integ ifFLAT = false ∧ t.dev.integ ifPOWER = false ∧ (∀ b, b < 32 → b ≠ ifFLAT → b ≠ ifPOWER → t.dev.integ b = u.dev.integ b) := by
  obtain ⟨k, hk⟩ := hostCmd_dev h Dev.advisoryCleared
  obtain ⟨hflat, hpower, hrest, hsame⟩ := (u.woken k).dev.advisoryCleared_spec
  have hrd (b : Nat) : (answeredOk req Reg.INTEG_INTEG_CMD (onDev Dev.advisoryCleared (u.woken k))).dev.integ b = (u.woken k).dev.advisoryCleared.integ b :=
    congrArg (bitOf · b) (answeredOk_rd req Reg.INTEG_INTEG_CMD (onDev Dev.advisoryCleared (u.woken k)) Reg.INTEG_INTEG_FLAGS)
  refine ⟨_, hk, answerTo_answeredOk req _ _, ⟨rfl, rfl, (hsame.proj (·.drv) fun _ => rfl).trans rfl⟩, (hrd _).trans hflat, (hrd _).trans hpower,
    fun b hb hf hp => (hrd b).trans ((hrest b hb hf hp).trans rfl)⟩

end Sys2Proof.Machine
end

section
/-! PROOFS. A baseline snapshot (R152, R168 to R178, R183): what the baselines, the direction test and the fit leave. -/
namespace Sys2Proof.Machine

/-! The baselines -/

/-- What a snapshot may change beside registers. -/
def forgetSnap (d : Dev) : Dev := { d with gps := {}, rcf := {}, pend := [] }

theorem forgetSnap_gps : ForgetsGps forgetSnap := fun _ _ => rfl
theorem forgetSnap_rcf : ForgetsRcf forgetSnap := fun _ _ => rfl

/-- A change of registers, of the receiver, of pending copies and of the record intake. -/
def Dev.SnapOnly (d e : Dev) : Prop := Dev.SameBut forgetSnap d e

theorem Dev.SnapOnly.refl (d : Dev) : Dev.SnapOnly d d := Dev.SameBut.refl _ d
theorem Dev.SnapOnly.trans {d e f : Dev} (h : Dev.SnapOnly d e) (h' : Dev.SnapOnly e f) : Dev.SnapOnly d f := Dev.SameBut.trans h h'
theorem Dev.SnapOnly.wr {d e : Dev} (h : Dev.SnapOnly d e) (a : Nat) (v : W32) : Dev.SnapOnly d (e.wr a v) := Dev.SameBut.wr h a v
theorem Dev.SnapOnly.gps {d e : Dev} (h : Dev.SnapOnly d e) (g : Gnss) : Dev.SnapOnly d { e with gps := g } := Dev.SameBut.gps forgetSnap_gps h g
theorem Dev.SnapOnly.modBl {d e : Dev} (h : Dev.SnapOnly d e) (k : Nat) (f : BaseLn → BaseLn) : Dev.SnapOnly d (e.modBl k f) := h.gps _
theorem Dev.SnapOnly.setBl {d e : Dev} (h : Dev.SnapOnly d e) (k st : Nat) : Dev.SnapOnly d (e.setBl k st) := h.trans (Dev.setBl_sameBut _ e k st)
theorem Dev.SnapOnly.blLose {d e : Dev} (h : Dev.SnapOnly d e) (k code st : Nat) : Dev.SnapOnly d (e.blLose k code st) :=
  h.trans (Dev.blLose_sameBut forgetSnap_gps forgetSnap_rcf e k code st)

theorem Dev.SnapOnly.showBl {d e : Dev} (h : Dev.SnapOnly d e) (k : Nat) (v : Int × Int × Int) (n ratio rms : Nat) (ref : SatObs) :
    Dev.SnapOnly d (e.showBl k v n ratio rms ref) := by
  unfold Dev.showBl
  extract_lets i f g bias
  have hf : Dev.SnapOnly d f := ((h.wr _ _).wr _ _).wr _ _
  have hg : Dev.SnapOnly d g := ((hf.wr _ _).wr _ _).wr _ _
  exact (hg.wr _ _).wr _ _

theorem Dev.SnapOnly.countLoss {d e : Dev} (h : Dev.SnapOnly d e) (k n rms : Nat) : Dev.SnapOnly d (e.countLoss k n rms) := by
  unfold Dev.countLoss
  extract_lets sr rr f
  have hf : Dev.SnapOnly d f := h.modBl _ _
  split
  · exact hf.blLose _ _ _
  · split
    · exact hf.blLose _ _ _
    · exact hf

theorem Dev.searchStep_snapOnly (d : Dev) (k : Nat) (sats : List SatObs) (ref : SatObs) (r : Int × Int × Int) (b : BaselineSearch) :
    Dev.SnapOnly d (d.searchStep k sats ref r b) := by
  unfold Dev.searchStep
  extract_lets ds found
  clear_value found
  split
  · exact (Dev.SnapOnly.refl d).modBl _ _
  · extract_lets y lead other ratio rms e good run f
    have hf : Dev.SnapOnly d f := ((Dev.SnapOnly.refl d).showBl _ _ _ _ _ _).modBl _ _
    split
    · exact (hf.setBl _ _).modBl _ _
    · exact hf

theorem Dev.fixedStep_snapOnly (d : Dev) (k : Nat) (sats : List SatObs) : Dev.SnapOnly d (d.fixedStep k sats) := by
  unfold Dev.fixedStep
  extract_lets b sound keep
  split
  · extract_lets b'
    split
    · exact .refl d
    · change Dev.SnapOnly d ((((d.modBl k _).addW _ _).showBl k _ _ _ _ _).countLoss k _ _)
      exact ((((Dev.SnapOnly.refl d).modBl _ _).wr _ _).showBl _ _ _ _ _ _).countLoss _ _ _
  · exact (Dev.SnapOnly.refl d).countLoss _ _ _

theorem Dev.blStep_snapOnly (d : Dev) (k : Nat) (b : BaselineSearch) : Dev.SnapOnly d (d.blStep k b) := by
  unfold Dev.blStep
  split
  · exact (Dev.SnapOnly.refl d).blLose _ _ _
  · extract_lets e sats f
    have he : Dev.SnapOnly d e := by
      unfold e
      split
      · exact (Dev.SnapOnly.refl d).setBl _ _
      · exact .refl d
    have hf : Dev.SnapOnly d f := he.wr _ _
    split
    · exact hf.trans (f.fixedStep_snapOnly k sats)
    · split
      · split
        · exact hf.trans (f.searchStep_snapOnly _ _ _ _ _)
        · exact hf
      · exact hf.modBl _ _

/-! The direction test -/

/-- Spoofing flagged: the flag, its fault, and the baselines lost. -/
def Dev.spoofSet (d : Dev) : Dev := ((d.setInteg ifSPOOF true).fault pINTEG 16).blLoseAll 3

/-- The measure of a snapshot and the runs of the direction test. -/
def Dev.directionRun (d : Dev) (r : Nat) (run clr : Nat) : Dev :=
  let e := d.wrN Reg.INTEG_SPF_R r
  { e with gps := { e.gps with spfRun := run, spfClear := clr } }

/-- What the runs of the test make of the spoofing flag. -/
def Dev.directionVerdict (d : Dev) (run clr : Nat) : Dev :=
  if d.integ ifSPOOF = false ∧ run ≥ d.rdN Reg.INTEG_SPF_PERSIST then { d.spoofSet with gps := { d.spoofSet.gps with spoofClose := true } }
  else if d.integ ifSPOOF = true ∧ 40 ≤ clr then d.setInteg ifSPOOF false
  else d

theorem Dev.directionTest_verdict (d : Dev) : ∃ r run clr, d.directionTest = (d.directionRun r run clr).directionVerdict run clr := ⟨_, _, _, rfl⟩

theorem Dev.directionVerdict_cases (d : Dev) (run clr : Nat) : d.directionVerdict run clr = d
    ∨ d.directionVerdict run clr = { d.spoofSet with gps := { d.spoofSet.gps with spoofClose := true } }
    ∨ d.directionVerdict run clr = d.setInteg ifSPOOF false := by
  unfold Dev.directionVerdict
  split
  · exact .inr (.inl rfl)
  · split
    · exact .inr (.inr rfl)
    · exact .inl rfl

/-- The test's three outcomes. -/
theorem Dev.directionTest_cases (d : Dev) : ∃ r run clr, d.directionTest = d.directionRun r run clr
    ∨ d.directionTest = { (d.directionRun r run clr).spoofSet with gps := { (d.directionRun r run clr).spoofSet.gps with spoofClose := true } }
    ∨ d.directionTest = (d.directionRun r run clr).setInteg ifSPOOF false := by
  obtain ⟨r, run, clr, htest⟩ := d.directionTest_verdict
  exact ⟨r, run, clr, htest ▸ Dev.directionVerdict_cases _ run clr⟩

theorem Dev.directionRun_snapOnly (d : Dev) (r run clr : Nat) : Dev.SnapOnly d (d.directionRun r run clr) := ((Dev.SnapOnly.refl d).wr _ _).gps _

theorem Dev.spoofSet_snapOnly (d : Dev) : Dev.SnapOnly d d.spoofSet :=
  (Dev.SameBut.fault (Dev.setInteg_sameBut forgetSnap_rcf d ifSPOOF true) pINTEG 16).trans (Dev.blLoseAll_sameBut forgetSnap_gps forgetSnap_rcf _ 3)

theorem Dev.directionTest_snapOnly (d : Dev) : Dev.SnapOnly d d.directionTest := by
  obtain ⟨r, run, clr, h | h | h⟩ := d.directionTest_cases <;> rw [h]
  · exact d.directionRun_snapOnly r run clr
  · exact ((d.directionRun_snapOnly r run clr).trans (Dev.spoofSet_snapOnly _)).gps _
  · exact (d.directionRun_snapOnly r run clr).trans (Dev.setInteg_sameBut forgetSnap_rcf _ _ _)

/-! The fit -/

theorem Dev.setPending_snapOnly {d e : Dev} (h : Dev.SnapOnly d e) (a : Nat) (v : W32) : Dev.SnapOnly d (e.setPending a v) := h

/-- The words of a fit. -/
def fitWords : List Nat := [Reg.BSS_FIT_RMS, Reg.STATUS pBSS, Reg.BSS_RES_A, Reg.BSS_FIT_REJ, Reg.BSS_GEO_HELD, Reg.TURN_ARM pBSS]

/-- A change of a fit. -/
structure Dev.FitOnly (d e : Dev) : Prop where
  words : Dev.RdKept fitWords d e
  same : Dev.SnapOnly d e

theorem Dev.FitOnly.refl (d : Dev) : Dev.FitOnly d d := ⟨.refl _ d, .refl d⟩

theorem Dev.FitOnly.wr {d e : Dev} (h : Dev.FitOnly d e) {a : Nat} (ha : a ∈ fitWords) (v : W32) : Dev.FitOnly d (e.wr a v) := ⟨h.words.wr ha v, h.same.wr a v⟩
theorem Dev.FitOnly.gps {d e : Dev} (h : Dev.FitOnly d e) (g : Gnss) : Dev.FitOnly d { e with gps := g } := ⟨h.words.struct rfl, h.same.gps g⟩
theorem Dev.FitOnly.setPending {d e : Dev} (h : Dev.FitOnly d e) (a : Nat) (v : W32) : Dev.FitOnly d (e.setPending a v) :=
  ⟨h.words.struct rfl, Dev.setPending_snapOnly h.same a v⟩

theorem Dev.FitOnly.publishGeo {d e : Dev} (h : Dev.FitOnly d e) (fits : List (Nat × List (Nat × Int))) : Dev.FitOnly d (e.publishGeo fits) := by
  unfold Dev.publishGeo
  extract_lets of terms held f since fitted t src g p q
  have hf : Dev.FitOnly d f := h.wr (by decide) _
  have hg : Dev.FitOnly d g := hf.gps _
  have hp : Dev.FitOnly d p := List.foldlRecOn (motive := fun x : Dev => Dev.FitOnly d x) terms _ hg fun x hx _ _ => hx.setPending _ _
  have hq : Dev.FitOnly d q := ((hp.setPending _ _).setPending _ _).setPending _ _
  exact hq.wr (by decide) _

theorem Dev.geoFit_fitOnly (d : Dev) : Dev.FitOnly d d.geoFit := by
  unfold Dev.geoFit
  extract_lets fits res may
  split
  · exact (Dev.FitOnly.refl d).wr (by decide) _
  · rename_i terms spare rms e f _
    have he : Dev.FitOnly d e := ((Dev.FitOnly.refl d).wr (by decide) _).wr (by decide) _
    have hf : Dev.FitOnly d f := he.wr (by decide) _
    split
    · exact (hf.wr (by decide) _).wr (by decide) _
    · split
      · exact (hf.publishGeo _).wr (by decide) _
      · exact hf.wr (by decide) _

/-! With port 0 off no baseline is left (R170) -/

/-- No baseline is left. -/
def Dev.NoBaseline (d : Dev) : Prop := ∀ k ∈ [1, 2, 3], d.blState k = bsNONE

theorem Dev.NoBaseline.kept {l : List Nat} {d e : Dev} (h : d.NoBaseline) (hkept : Dev.RdKept l d e) (hl : ∀ k ∈ [1, 2, 3], Reg.BSS_BL_STATE (k - 1) ∉ l) :
    e.NoBaseline := fun k hk => (hkept.fld (hl k hk) 1 0).trans (h k hk)

/-- The words of one baseline's end. -/
def blOwn (k : Nat) : List Nat := [Reg.BSS_BL_STATE (k - 1), Reg.IRQ_RAW pBSS, Reg.REC_SUPP_TOTAL]

theorem Dev.setBl_own (d : Dev) (k st : Nat) : Dev.RdKept (blOwn k) d (d.setBl k st) := by
  unfold Dev.setBl
  split
  · exact .refl _ d
  · exact ((Dev.RdKept.refl _ d).setFld (by simp [blOwn]) _ _ _).irq (by simp [blOwn]) _

theorem Dev.setBl_state (d : Dev) (k : Nat) {st : Nat} (hst : st < 4) : (d.setBl k st).blState k = st := by
  unfold Dev.setBl
  split
  · assumption
  · have hne : Reg.BSS_BL_STATE (k - 1) ≠ Reg.IRQ_RAW pBSS := by
      simp only [Reg.BSS_BL_STATE, Reg.IRQ_RAW, pBSS]
      omega
    refine (congrArg (field · 1 0) (Dev.rd_irq_ne _ pBSS 17 hne)).trans ?_
    exact (Dev.fld_setFld_same d (Reg.BSS_BL_STATE (k - 1)) 0 st (by decide : 1 < 32)).trans (Nat.mod_eq_of_lt (lt_of_lt_of_eq hst (by decide)))

theorem Dev.blLose_own (d : Dev) (k code st : Nat) : Dev.RdKept (blOwn k) d (d.blLose k code st) := by
  unfold Dev.blLose
  split
  · extract_lets e
    have he : Dev.RdKept (blOwn k) d e := (((Dev.RdKept.refl _ d).setFld (by simp [blOwn]) _ _ _).trans (Dev.setBl_own _ k _)).struct rfl
    exact he.emit (by simp [blOwn]) _
  · exact ((Dev.RdKept.refl _ d).struct (e' := d.modBl k (fun _ => {})) rfl).trans (Dev.setBl_own _ k _)

theorem Dev.blLose_state (d : Dev) {k : Nat} (hk : k ≤ 3) (code : Nat) {st : Nat} (hst : st < 4) : (d.blLose k code st).blState k = st := by
  unfold Dev.blLose
  split
  · have hne : Reg.BSS_BL_STATE (k - 1) ≠ Reg.REC_SUPP_TOTAL := by
      simp only [Reg.BSS_BL_STATE, Reg.REC_SUPP_TOTAL]
      omega
    exact (congrArg (field · 1 0) (Dev.rd_emit_ne _ _ hne)).trans (Dev.setBl_state _ k hst)
  · exact Dev.setBl_state _ k hst

theorem Dev.blStep_off {d : Dev} (h : d.portEn 0 = false) (k : Nat) (b : BaselineSearch) : d.blStep k b = d.blLose k 4 bsNONE :=
  if_pos (by rw [h]; rfl)

/-- The three baselines' steps. -/
def Dev.blSteps (d : Dev) (x : BaselineSet) : Dev := ((d.blStep 1 x.bl1).blStep 2 x.bl2).blStep 3 x.bl3

theorem Dev.blSteps_off {d : Dev} (h : d.portEn 0 = false) (x : BaselineSet) : (d.blSteps x).NoBaseline := by
  unfold Dev.blSteps
  rw [Dev.blStep_off h]
  have h1 := d.blLose_own 1 4 bsNONE
  have hs1 := d.blLose_state (k := 1) (by decide) 4 (st := bsNONE) (by decide)
  generalize d.blLose 1 4 bsNONE = a at *
  have hen1 : a.portEn 0 = false := (h1.bit (by decide) 0).trans h
  rw [Dev.blStep_off hen1]
  have h2 := a.blLose_own 2 4 bsNONE
  have hs2 := a.blLose_state (k := 2) (by decide) 4 (st := bsNONE) (by decide)
  generalize a.blLose 2 4 bsNONE = b at *
  have hen2 : b.portEn 0 = false := (h2.bit (by decide) 0).trans hen1
  rw [Dev.blStep_off hen2]
  have h3 := b.blLose_own 3 4 bsNONE
  have hs3 := b.blLose_state (k := 3) (by decide) 4 (st := bsNONE) (by decide)
  generalize b.blLose 3 4 bsNONE = c at *
  have hc1 : c.blState 1 = bsNONE := (h3.fld (by decide) 1 0).trans ((h2.fld (by decide) 1 0).trans hs1)
  have hc2 : c.blState 2 = bsNONE := (h3.fld (by decide) 1 0).trans hs2
  intro k hk
  simp only [List.mem_cons, List.not_mem_nil, or_false] at hk
  rcases hk with rfl | rfl | rfl
  · exact hc1
  · exact hc2
  · exact hs3

theorem Dev.NoBaseline.blLoseAll {d : Dev} (h : d.NoBaseline) (code : Nat) : d.blLoseAll code = d := by
  have hskip : ∀ k ∈ [1, 2, 3], (if d.blState k = bsNONE then d else d.blLose k code bsSEARCH) = d := fun k hk => if_pos (h k hk)
  unfold Dev.blLoseAll
  rw [List.foldl_cons, hskip 1 (by decide), List.foldl_cons, hskip 2 (by decide), List.foldl_cons, hskip 3 (by decide)]
  rfl

theorem Dev.NoBaseline.directionTest {d : Dev} (h : d.NoBaseline) : d.directionTest.NoBaseline := by
  have hrun (r run clr : Nat) : (d.directionRun r run clr).NoBaseline :=
    h.kept (l := [Reg.INTEG_SPF_R]) (((Dev.RdKept.refl _ d).wr (by decide) _).struct rfl) (by decide)
  obtain ⟨r, run, clr, hcase | hcase | hcase⟩ := d.directionTest_cases <;> rw [hcase]
  · exact hrun r run clr
  · have hset : ((d.directionRun r run clr).setInteg ifSPOOF true |>.fault pINTEG 16).NoBaseline := by
      refine (hrun r run clr).kept (l := Reg.FAULT pINTEG :: integWords) ?_ (by decide)
      exact ((Dev.setInteg_rdKept _ _ _).mono (by decide)).fault (by decide) (by decide) _
    unfold Dev.spoofSet
    rw [hset.blLoseAll]
    exact hset
  · exact (hrun r run clr).kept (Dev.setInteg_rdKept _ _ _) (by decide)

/-! BASELINE_SNAPSHOT -/

/-- The instant of the next snapshot, in samples. -/
def Dev.snapEdge (d : Dev) : Nat := max (d.gps.lastSnap + 818400) (d.smp / 818400 * 818400)

/-- The receiver after a snapshot. -/
def Dev.snapEnded (d : Dev) (edge : Nat) : Dev :=
  let tc := d.gps.tc.map (fun (p : Nat × TcChan) => (p.1, { p.2 with slipSnap := false }))
  { d with gps := { d.gps with lastSnap := edge, tc := tc.filter (fun p => p.2 ≠ {}) } }

/-- What a snapshot makes of the part at its instant. -/
def Dev.snapped (d : Dev) (x : BaselineSet) (edge : Nat) : Dev := (d.blSteps x).directionTest.geoFit.snapEnded edge

theorem Dev.toTbm_portEn (d : Dev) (n p : Nat) : (d.toTbm n).portEn p = d.portEn p := rfl

theorem Dev.snapped_eq (d : Dev) (snap : BaselineSet) (edge : Nat) :
    (let d := [(1, snap.bl1), (2, snap.bl2), (3, snap.bl3)].foldl (fun d (p : Nat × BaselineSearch) => d.blStep p.1 p.2) d
      let d := d.directionTest.geoFit
      let tc := d.gps.tc.map (fun (p : Nat × TcChan) => (p.1, { p.2 with slipSnap := false }))
      { d with gps := { d.gps with lastSnap := edge, tc := tc.filter (fun p => p.2 ≠ {}) } }) = d.snapped snap edge := rfl

theorem exec_baselineSnapshot {s : State} (hmp : s.dev.mpRuns = true) (hnav : s.dev.clockLost 6 = false) (snap : BaselineSet) :
    exec (.baselineSnapshot snap) s = .next { s with dev := (s.dev.toTbm (s.dev.smpTbm s.dev.snapEdge)).snapped snap s.dev.snapEdge } := by
  change execBaselineSnapshot snap s = _
  unfold execBaselineSnapshot onDev
  refine congrArg (fun d => Host.Outcome.next { s with dev := d }) ?_
  refine (if_neg (by rw [hmp, hnav]; decide)).trans ?_
  extract_lets edge d
  have hedge : edge = s.dev.snapEdge := rfl
  have hd : d = s.dev.toTbm (s.dev.smpTbm edge) := rfl
  clear_value d edge
  rw [← hedge, ← hd]
  exact d.snapped_eq snap edge

theorem Dev.blSteps_snapOnly (d : Dev) (x : BaselineSet) : Dev.SnapOnly d (d.blSteps x) :=
  ((d.blStep_snapOnly 1 x.bl1).trans (Dev.blStep_snapOnly _ 2 x.bl2)).trans (Dev.blStep_snapOnly _ 3 x.bl3)

theorem Dev.snapEnded_rdKept (d : Dev) (edge : Nat) : Dev.RdKept [] d (d.snapEnded edge) := (Dev.RdKept.refl _ d).struct rfl
theorem Dev.snapEnded_snapOnly (d : Dev) (edge : Nat) : Dev.SnapOnly d (d.snapEnded edge) := (Dev.SnapOnly.refl d).gps _

theorem Dev.snapEnded_lastSnap (d : Dev) (edge : Nat) : (d.snapEnded edge).gps.lastSnap = edge := rfl
theorem Dev.snapEnded_regs (d : Dev) (edge : Nat) : (d.snapEnded edge).regs = d.regs := rfl

theorem Dev.snapped_lastSnap (d : Dev) (x : BaselineSet) (edge : Nat) : (d.snapped x edge).gps.lastSnap = edge := Dev.snapEnded_lastSnap _ edge
theorem Dev.snapped_regs (d : Dev) (x : BaselineSet) (edge : Nat) : (d.snapped x edge).regs = (d.blSteps x).directionTest.geoFit.regs := Dev.snapEnded_regs _ edge

theorem Dev.snapped_snapOnly (d : Dev) (x : BaselineSet) (edge : Nat) : Dev.SnapOnly d (d.snapped x edge) :=
  (((d.blSteps_snapOnly x).trans (Dev.directionTest_snapOnly _)).trans (Dev.geoFit_fitOnly _).same).trans (Dev.snapEnded_snapOnly _ edge)

theorem Dev.snapped_off {d : Dev} (h : d.portEn 0 = false) (x : BaselineSet) (edge : Nat) : (d.snapped x edge).NoBaseline :=
  ((Dev.blSteps_off h x).directionTest.kept (Dev.geoFit_fitOnly _).words (by decide)).kept (Dev.snapEnded_rdKept _ edge) (by decide)

/-- What a snapshot at the sample `edge` leaves. -/
structure Snapped (snap : BaselineSet) (edge : Nat) (s t : State) : Prop where
  kept : NavKept s t
  last : t.dev.gps.lastSnap = edge
  reach : s.dev.smpTbm edge ≤ t.dev.tm.tbm
  off : s.dev.portEn 0 = false → t.dev.NoBaseline
  regs : t.dev.regs = ((s.dev.toTbm (s.dev.smpTbm edge)).blSteps snap).directionTest.geoFit.regs

theorem snapped_snapped (s : State) (snap : BaselineSet) (edge : Nat) :
    Snapped snap edge s { s with dev := (s.dev.toTbm (s.dev.smpTbm edge)).snapped snap edge } where
  kept := ⟨rfl, rfl, ((Dev.snapped_snapOnly _ snap edge).proj (·.drv) fun _ => rfl).trans (s.dev.toTbm_drv _)⟩
  last := Dev.snapped_lastSnap _ snap edge
  reach := (s.dev.toTbm_reaches _).trans (Nat.le_of_eq ((Dev.snapped_snapOnly _ snap edge).proj (·.tm.tbm) fun _ => rfl).symm)
  off h := Dev.snapped_off ((s.dev.toTbm_portEn _ 0).trans h) snap edge
  regs := Dev.snapped_regs _ snap edge

theorem baselineSnapshot_taken {s : State} (hmp : s.dev.mpRuns = true) (hnav : s.dev.clockLost 6 = false) (snap : BaselineSet) :
    ∃ t, exec (.baselineSnapshot snap) s = .next t ∧ Snapped snap s.dev.snapEdge s t :=
  ⟨_, exec_baselineSnapshot hmp hnav snap, snapped_snapped s snap _⟩

end Sys2Proof.Machine
end

section
/-! PROOFS. A navigation solution (R149, R182 to R185, R97 to R101): what it shows and what the clock makes of it. -/
namespace Sys2Proof.Machine

/-- What a solution may change beside registers. -/
def forgetNav (d : Dev) : Dev := { d with tm := {}, gps := {}, rcf := {} }

theorem forgetNav_tm : ForgetsTm forgetNav := fun _ _ => rfl
theorem forgetNav_gps : ForgetsGps forgetNav := fun _ _ => rfl
theorem forgetNav_rcf : ForgetsRcf forgetNav := fun _ _ => rfl

/-! The solution shown -/

/-- The STATUS word of a solution. -/
def solStatus (x : NavSol) : Nat := (if x.fix3d then 2 else 0) + min x.sats 63 * 2 ^ 8 + min x.pdop 65535 * 2 ^ 16

theorem solStatus_lt (x : NavSol) : solStatus x < 2 ^ 32 := by
  unfold solStatus
  have hfix : (if x.fix3d then 2 else 0) ≤ 2 := by split <;> omega
  omega

theorem Dev.rdN_wrN_same (d : Dev) (a : Nat) {n : Nat} (hn : n < 2 ^ 32) : (d.wrN a n).rdN a = n := by
  unfold Dev.rdN Dev.wrN
  rw [Dev.rd_wr_same]
  exact Nat.mod_eq_of_lt hn

/-- The words that a solution shows. -/
def solWords : List Nat := [Reg.NAV_SOL_STATUS, Reg.NAV_SOL_LAT, Reg.NAV_SOL_LON, Reg.NAV_SOL_H, Reg.NAV_SOL_HACC]

/-- What a solution shows (R149). -/
structure Dev.Shows (d : Dev) (x : NavSol) : Prop where
  status : d.rdN Reg.NAV_SOL_STATUS = solStatus x
  position : x.fix3d = true → d.rd Reg.NAV_SOL_LAT = w32i x.lat ∧ d.rd Reg.NAV_SOL_LON = w32i x.lon ∧ d.rd Reg.NAV_SOL_H = w32i x.h
    ∧ d.rd Reg.NAV_SOL_HACC = sat32 x.hacc

theorem Dev.Shows.kept {l : List Nat} {d e : Dev} {x : NavSol} (h : d.Shows x) (hkept : Dev.RdKept l d e) (hl : ∀ a ∈ solWords, a ∉ l) : e.Shows x where
  status := (congrArg BitVec.toNat (hkept _ (hl _ (by decide)))).trans h.status
  position hfix := by
    obtain ⟨hlat, hlon, hh, hacc⟩ := h.position hfix
    exact ⟨(hkept _ (hl _ (by decide))).trans hlat, (hkept _ (hl _ (by decide))).trans hlon, (hkept _ (hl _ (by decide))).trans hh,
      (hkept _ (hl _ (by decide))).trans hacc⟩

/-- The position of a solution shown, and its word of time. -/
def Dev.showPosition (d : Dev) (x : NavSol) : Dev :=
  ((((d.wrI Reg.NAV_SOL_LAT x.lat).wrI Reg.NAV_SOL_LON x.lon).wrI Reg.NAV_SOL_H x.h).wr Reg.NAV_SOL_HACC (sat32 x.hacc)).wr Reg.TIME_GPS_UTC x.gpsUtc

theorem Dev.showSol_eq (d : Dev) (x : NavSol) :
    d.showSol x = if x.fix3d then (d.wrN Reg.NAV_SOL_STATUS (solStatus x)).showPosition x else d.wrN Reg.NAV_SOL_STATUS (solStatus x) := rfl

/-- The words of a position. -/
def positionWords : List Nat := [Reg.NAV_SOL_LAT, Reg.NAV_SOL_LON, Reg.NAV_SOL_H, Reg.NAV_SOL_HACC, Reg.TIME_GPS_UTC]

theorem Dev.showPosition_rdKept (d : Dev) (x : NavSol) : Dev.RdKept positionWords d (d.showPosition x) :=
  (((((Dev.RdKept.refl _ d).wr (by decide) _).wr (by decide) _).wr (by decide) _).wr (by decide) _).wr (by decide) _

theorem Dev.showPosition_position (d : Dev) (x : NavSol) :
    (d.showPosition x).rd Reg.NAV_SOL_LAT = w32i x.lat ∧ (d.showPosition x).rd Reg.NAV_SOL_LON = w32i x.lon ∧ (d.showPosition x).rd Reg.NAV_SOL_H = w32i x.h
      ∧ (d.showPosition x).rd Reg.NAV_SOL_HACC = sat32 x.hacc := by
  unfold Dev.showPosition Dev.wrI
  refine ⟨?_, ?_, ?_, ?_⟩
  · rw [Dev.rd_wr_ne _ _ (by decide), Dev.rd_wr_ne _ _ (by decide), Dev.rd_wr_ne _ _ (by decide), Dev.rd_wr_ne _ _ (by decide), Dev.rd_wr_same]
  · rw [Dev.rd_wr_ne _ _ (by decide), Dev.rd_wr_ne _ _ (by decide), Dev.rd_wr_ne _ _ (by decide), Dev.rd_wr_same]
  · rw [Dev.rd_wr_ne _ _ (by decide), Dev.rd_wr_ne _ _ (by decide), Dev.rd_wr_same]
  · rw [Dev.rd_wr_ne _ _ (by decide), Dev.rd_wr_same]

theorem Dev.showSol_shows (d : Dev) (x : NavSol) : (d.showSol x).Shows x := by
  have hstatus := d.rdN_wrN_same Reg.NAV_SOL_STATUS (solStatus_lt x)
  rw [Dev.showSol_eq]
  split
  · exact ⟨(congrArg BitVec.toNat (Dev.showPosition_rdKept _ x _ (by decide))).trans hstatus, fun _ => Dev.showPosition_position _ x⟩
  · exact ⟨hstatus, fun h => absurd h ‹_›⟩

theorem Dev.showSol_rdKept (d : Dev) (x : NavSol) : Dev.RdKept (Reg.NAV_SOL_STATUS :: positionWords) d (d.showSol x) := by
  have hstatus : Dev.RdKept (Reg.NAV_SOL_STATUS :: positionWords) d (d.wrN Reg.NAV_SOL_STATUS (solStatus x)) := (Dev.RdKept.refl _ d).wr (by decide) _
  rw [Dev.showSol_eq]
  split
  · exact hstatus.trans ((Dev.showPosition_rdKept _ x).mono (by decide))
  · exact hstatus

theorem Dev.showSol_sameBut (blank : Dev → Dev) (d : Dev) (x : NavSol) : Dev.SameBut blank d (d.showSol x) := by
  have hstatus : Dev.SameBut blank d (d.wrN Reg.NAV_SOL_STATUS (solStatus x)) := (Dev.SameBut.refl _ d).wr _ _
  rw [Dev.showSol_eq]
  split
  · exact ((((hstatus.wr _ _).wr _ _).wr _ _).wr _ _).wr _ _
  · exact hstatus

/-! The clock check (R182) -/

/-- The words of the clock check before its flags. -/
def clkWords : List Nat := [Reg.INTEG_CLK_RESID, Reg.INTEG_CLK_DRIFT_RATE, Reg.FAULT pINTEG, Reg.IRQ_RAW pINTEG]

/-- The clock check writes its words and then its two flags, and neither flag rises while TB-G is not locked. -/
theorem Dev.clkCheck_eq (d : Dev) (x : NavSol) : ∃ e jump drift, d.clkCheck x = ((e : Dev).setInteg ifJUMP jump).setInteg ifDRIFT drift
    ∧ Dev.RdKept clkWords d e ∧ Dev.SameBut forgetNav d e
    ∧ (d.tbgState ≠ tbgLocked → d.integ ifJUMP = false → jump = false) ∧ (d.tbgState ≠ tbgLocked → d.integ ifDRIFT = false → drift = false) := by
  unfold Dev.clkCheck
  extract_lets now k resid old dDrift dRatio a may jump drift b clock src e
  have ha : Dev.RdKept clkWords d a := ((Dev.RdKept.refl _ d).wr (by decide) _).wr (by decide) _
  have hsa : Dev.SameBut forgetNav d a := ((Dev.SameBut.refl _ d).wr _ _).wr _ _
  have hmay : d.tbgState ≠ tbgLocked → may = false := fun h =>
    decide_eq_false fun hlocked => h ((ha.fld (by decide) 1 0).symm.trans hlocked)
  have hjump : d.tbgState ≠ tbgLocked → d.integ ifJUMP = false → jump = false := fun hst hflag => by
    unfold jump
    rw [hmay hst, show a.integ ifJUMP = false from (ha.bit (by decide) _).trans hflag, Bool.or_false, Bool.and_false]
  have hdrift : d.tbgState ≠ tbgLocked → d.integ ifDRIFT = false → drift = false := fun hst hflag => by
    unfold drift
    rw [hmay hst, show a.integ ifDRIFT = false from (ha.bit (by decide) _).trans hflag, Bool.or_false, Bool.and_false]
  clear_value jump drift clock
  have hb : Dev.RdKept clkWords d b ∧ Dev.SameBut forgetNav d b := by
    unfold b
    split
    · exact ⟨ha.fault (by decide) (by decide) _, hsa.fault _ _⟩
    · exact ⟨ha, hsa⟩
  exact ⟨e, jump, drift, rfl, hb.1.struct rfl, hb.2.gps forgetNav_gps _, hjump, hdrift⟩

theorem Dev.clkCheck_rdKept (d : Dev) (x : NavSol) : Dev.RdKept (clkWords ++ integWords) d (d.clkCheck x) := by
  obtain ⟨e, jump, drift, heq, hwords, -⟩ := d.clkCheck_eq x
  rw [heq]
  exact ((hwords.mono (by decide)).trans ((e.setInteg_rdKept _ _).mono (by decide))).trans ((Dev.setInteg_rdKept _ _ _).mono (by decide))

theorem Dev.clkCheck_sameBut (d : Dev) (x : NavSol) : Dev.SameBut forgetNav d (d.clkCheck x) := by
  obtain ⟨e, jump, drift, heq, -, hsame, -⟩ := d.clkCheck_eq x
  rw [heq]
  exact (hsame.trans (Dev.setInteg_sameBut forgetNav_rcf e _ _)).trans (Dev.setInteg_sameBut forgetNav_rcf _ _ _)

theorem Dev.clkCheck_sound {d : Dev} (hst : d.tbgState ≠ tbgLocked) (hjump : d.integ ifJUMP = false) (hdrift : d.integ ifDRIFT = false) (x : NavSol) :
    (d.clkCheck x).clkSound = true := by
  obtain ⟨e, jump, drift, heq, -, -, hj, hd⟩ := d.clkCheck_eq x
  rw [heq, hj hst hjump, hd hst hdrift]
  unfold Dev.clkSound
  rw [Dev.setInteg_integ _ (by decide), Dev.setInteg_integ_ne _ (by decide) (by decide) (by decide), Dev.setInteg_integ _ (by decide)]
  rfl

/-! What TB-G makes of a solution -/

/-- A solution acts on TB-G. -/
def Dev.solFollowed (d : Dev) (x : NavSol) : Dev :=
  let good := x.fix3d && decide (x.sats ≥ 4) && d.clkSound
  let enter := good && x.pdop ≤ 600 && x.time.uncNs ≤ 100
  if d.tbgState = tbgLocked ∨ d.tbgState = tbgReturnS then
    if d.tenSeconds d.gps.lowSats || d.tenSeconds d.gps.clkFlagged then d.toHoldover
    else if good then d.takeFix x.time else d
  else if enter then
    if d.tbgState = tbgNone then d.lockTbg x.time else d.gateReturn x.time
  else d

/-- What a solution can do to TB-G. -/
theorem Dev.solFollowed_cases (d : Dev) (x : NavSol) : d.solFollowed x = d ∨ d.solFollowed x = d.toHoldover ∨ d.solFollowed x = d.takeFix x.time
    ∨ (d.tbgState = tbgNone ∧ d.solFollowed x = d.lockTbg x.time) ∨ d.solFollowed x = d.gateReturn x.time := by
  unfold Dev.solFollowed
  extract_lets good enter
  clear_value enter good
  split
  · split
    · exact .inr (.inl rfl)
    · split
      · exact .inr (.inr (.inl rfl))
      · exact .inl rfl
  · split
    · split
      · exact .inr (.inr (.inr (.inl ⟨‹_›, rfl⟩)))
      · exact .inr (.inr (.inr (.inr rfl)))
    · exact .inl rfl

theorem Dev.lockTbg_rdKept {d : Dev} (h : d.tbgState = tbgNone) (f : TimeFix) : Dev.RdKept returnWords d (d.lockTbg f) := by
  rw [Dev.lockTbg_none h]
  have hat : Dev.RdKept returnWords (d.takeFix f) ((d.takeFix f).tbgAt f.gpsNs) :=
    fun a ha => Dev.rd_tbgAt_ne _ _ fun hat => ha (hat ▸ by decide)
  have hwall := Dev.RdKept.withWall (f := (·.tbgAt f.gpsNs)) (l := returnWords) (by decide) hat
  exact (((((d.takeFix_rdKept f).mono (by decide)).trans hwall).setBit (by decide) _ _).irq (by decide) _).emit (by decide) _

theorem Dev.solFollowed_rdKept (d : Dev) (x : NavSol) : Dev.RdKept (integWords ++ returnWords) d (d.solFollowed x) := by
  rcases d.solFollowed_cases x with h | h | h | ⟨hst, h⟩ | h <;> rw [h]
  · exact .refl _ d
  · exact d.toHoldover_rdKept.mono (by decide)
  · exact (d.takeFix_rdKept _).mono (by decide)
  · exact (Dev.lockTbg_rdKept hst _).mono (by decide)
  · exact d.gateReturn_rdKept _

theorem forgetTime_nav {d e : Dev} (h : Dev.SameBut forgetTime d e) : Dev.SameBut forgetNav d e := by
  change forgetNav (forgetTime { e with regs := [] }) = forgetNav (forgetTime { d with regs := [] })
  exact congrArg forgetNav h

theorem forgetGps_nav {d e : Dev} (h : Dev.SameBut (fun d => { d with gps := {} }) d e) : Dev.SameBut forgetNav d e := by
  unfold Dev.SameBut at h
  change forgetNav { { e with regs := [] } with gps := {} } = forgetNav { { d with regs := [] } with gps := {} }
  exact congrArg forgetNav h

theorem Dev.solFollowed_sameBut (d : Dev) (x : NavSol) : Dev.SameBut forgetNav d (d.solFollowed x) := by
  rcases d.solFollowed_cases x with h | h | h | ⟨hst, h⟩ | h <;> rw [h]
  · exact .refl _ d
  · exact Dev.toHoldover_sameBut forgetNav_tm forgetNav_rcf d
  · exact forgetTime_nav (d.takeFix_sameBut _)
  · obtain ⟨-, -, -, -, -, hsame⟩ := Dev.lockTbg_spec hst x.time
    exact forgetTime_nav hsame
  · exact Dev.gateReturn_sameBut forgetNav_gps forgetNav_tm forgetNav_rcf d _

/-- A solution good enough locks a TB-G of state NONE at its time (R97). -/
theorem Dev.solFollowed_locks {d : Dev} {x : NavSol} (hst : d.tbgState = tbgNone) (hsound : d.clkSound = true) (hfix : x.fix3d = true) (hsats : 4 ≤ x.sats)
    (hpdop : x.pdop ≤ 600) (hunc : x.time.uncNs ≤ 100) : (d.solFollowed x).tbgState = tbgLocked ∧ (d.solFollowed x).tm.tbgP = x.time.gpsNs * pU := by
  have heq : d.solFollowed x = d.lockTbg x.time := by
    unfold Dev.solFollowed
    extract_lets good enter
    have henter : enter = true := by
      simp only [enter, good, hfix, hsound, hsats, hpdop, hunc, decide_true, Bool.and_self]
    rw [if_neg (by rw [hst]; decide), if_pos henter, if_pos hst]
  rw [heq]
  obtain ⟨hlocked, htime, -⟩ := Dev.lockTbg_spec hst x.time
  exact ⟨hlocked, htime⟩

theorem Dev.solFollowed_none {d : Dev} {x : NavSol} (hst : d.tbgState = tbgNone) (hfix : x.fix3d = false) : d.solFollowed x = d := by
  unfold Dev.solFollowed
  extract_lets good enter
  have henter : enter = false := by
    simp only [enter, good, hfix, Bool.false_and]
  rw [if_neg (by rw [hst]; decide), if_neg (by rw [henter]; decide)]

/-! NAV_SOLUTION -/

/-- A solution shown, and the tracking trimmed to it. -/
def Dev.solSeen (d : Dev) (x : NavSol) : Dev :=
  let d := d.showSol x
  let dirs := x.dirs.foldl (fun (m : SMap (Int × Int × Int)) p => sinsert m (p.1.val + 1) p.2) d.gps.dirs
  let low := if x.sats < 4 then some (d.gps.lowSats.getD d.tm.tbm) else none
  ({ d with gps := { d.gps with dirs := dirs, lowSats := low } }).fwTrim

/-- A solution checked against the clock. -/
def Dev.solChecked (d : Dev) (x : NavSol) : Dev := if x.fix3d then d.clkCheck x else d

theorem Dev.solSeen_eq (d : Dev) (x : NavSol) : ∃ g, d.solSeen x = ({ d.showSol x with gps := g } : Dev).fwTrim := ⟨_, rfl⟩

theorem Dev.solSeen_rd {d : Dev} {x : NavSol} {a : Nat} (ha : a ∉ chanWords) (hp : a < 0x14000) : (d.solSeen x).rd a = (d.showSol x).rd a := by
  obtain ⟨g, h⟩ := d.solSeen_eq x
  rw [h]
  exact (Dev.fwTrim_chanOnly _).rd ha hp

theorem Dev.solSeen_sameBut (d : Dev) (x : NavSol) : Dev.SameBut forgetNav d (d.solSeen x) := by
  obtain ⟨g, h⟩ := d.solSeen_eq x
  rw [h]
  exact ((d.showSol_sameBut forgetNav x).gps forgetNav_gps g).trans (forgetGps_nav (Dev.fwTrim_chanOnly _).same)

theorem Dev.solSeen_shows (d : Dev) (x : NavSol) : (d.solSeen x).Shows x := by
  have hshows := d.showSol_shows x
  have hkept : ∀ a ∈ solWords, (d.solSeen x).rd a = (d.showSol x).rd a := fun a ha => by
    have hword : a ∉ chanWords ∧ a < 0x14000 := by
      revert a
      decide
    exact Dev.solSeen_rd hword.1 hword.2
  refine ⟨(congrArg BitVec.toNat (hkept _ (by decide))).trans hshows.status, fun hfix => ?_⟩
  obtain ⟨hlat, hlon, hh, hacc⟩ := hshows.position hfix
  exact ⟨(hkept _ (by decide)).trans hlat, (hkept _ (by decide)).trans hlon, (hkept _ (by decide)).trans hh, (hkept _ (by decide)).trans hacc⟩

/-- The words of TB-G's state and of the flags stay while a solution is shown. -/
theorem Dev.solSeen_rd_same (d : Dev) (x : NavSol) : ∀ a ∈ [Reg.TIME_TBG_STATE, Reg.INTEG_INTEG_FLAGS], (d.solSeen x).rd a = d.rd a := fun a ha => by
  have hword : a ∉ chanWords ∧ a < 0x14000 ∧ a ∉ Reg.NAV_SOL_STATUS :: positionWords := by
    revert a
    decide
  exact (Dev.solSeen_rd hword.1 hword.2.1).trans (d.showSol_rdKept x a hword.2.2)

theorem Dev.solChecked_rdKept (d : Dev) (x : NavSol) : Dev.RdKept (clkWords ++ integWords) d (d.solChecked x) := by
  unfold Dev.solChecked
  split
  · exact d.clkCheck_rdKept x
  · exact .refl _ d

theorem Dev.solChecked_sameBut (d : Dev) (x : NavSol) : Dev.SameBut forgetNav d (d.solChecked x) := by
  unfold Dev.solChecked
  split
  · exact d.clkCheck_sameBut x
  · exact .refl _ d

/-- What a solution makes of the part. -/
def Dev.solTaken (d : Dev) (x : NavSol) : Dev := ((d.solSeen x).solChecked x).solFollowed x

theorem Dev.solTaken_shows (d : Dev) (x : NavSol) : (d.solTaken x).Shows x :=
  ((d.solSeen_shows x).kept (Dev.solChecked_rdKept _ x) (by decide)).kept (Dev.solFollowed_rdKept _ x) (by decide)

theorem Dev.solTaken_sameBut (d : Dev) (x : NavSol) : Dev.SameBut forgetNav d (d.solTaken x) :=
  ((d.solSeen_sameBut x).trans (Dev.solChecked_sameBut _ x)).trans (Dev.solFollowed_sameBut _ x)

theorem Dev.solChecked_tbgState (d : Dev) (x : NavSol) : ((d.solSeen x).solChecked x).tbgState = d.tbgState :=
  ((Dev.solChecked_rdKept _ x).fld (by decide) 1 0).trans (congrArg (field · 1 0) (d.solSeen_rd_same x _ (by decide)))

theorem Dev.solTaken_locks {d : Dev} {x : NavSol} (hst : d.tbgState = tbgNone) (hjump : d.integ ifJUMP = false) (hdrift : d.integ ifDRIFT = false)
    (hfix : x.fix3d = true) (hsats : 4 ≤ x.sats) (hpdop : x.pdop ≤ 600) (hunc : x.time.uncNs ≤ 100) :
    (d.solTaken x).tbgState = tbgLocked ∧ (d.solTaken x).tm.tbgP = x.time.gpsNs * pU := by
  have hflags (b : Nat) : (d.solSeen x).integ b = d.integ b := congrArg (bitOf · b) (d.solSeen_rd_same x Reg.INTEG_INTEG_FLAGS (by decide))
  have hstate : (d.solSeen x).tbgState = tbgNone := (congrArg (field · 1 0) (d.solSeen_rd_same x Reg.TIME_TBG_STATE (by decide))).trans hst
  have hsound : ((d.solSeen x).solChecked x).clkSound = true := by
    rw [show (d.solSeen x).solChecked x = (d.solSeen x).clkCheck x from if_pos hfix]
    exact Dev.clkCheck_sound (by rw [hstate]; decide) ((hflags _).trans hjump) ((hflags _).trans hdrift) x
  exact Dev.solFollowed_locks ((d.solChecked_tbgState x).trans hst) hsound hfix hsats hpdop hunc

theorem Dev.solTaken_none {d : Dev} {x : NavSol} (hst : d.tbgState = tbgNone) (hfix : x.fix3d = false) : (d.solTaken x).tbgState = tbgNone := by
  have hstate := (d.solChecked_tbgState x).trans hst
  unfold Dev.solTaken
  rw [Dev.solFollowed_none hstate hfix]
  exact hstate

theorem Dev.solTaken_eq (d : Dev) (x : NavSol) :
    (let d := d.showSol x
      let dirs := x.dirs.foldl (fun (m : SMap (Int × Int × Int)) p => sinsert m (p.1.val + 1) p.2) d.gps.dirs
      let now := d.tm.tbm
      let low := if x.sats < 4 then some (d.gps.lowSats.getD now) else none
      let d := ({ d with gps := { d.gps with dirs := dirs, lowSats := low } }).fwTrim
      let d := if x.fix3d then d.clkCheck x else d
      let good := x.fix3d && decide (x.sats ≥ 4) && d.clkSound
      let enter := good && x.pdop ≤ 600 && x.time.uncNs ≤ 100
      if d.tbgState = tbgLocked ∨ d.tbgState = tbgReturnS then
        if d.tenSeconds d.gps.lowSats || d.tenSeconds d.gps.clkFlagged then d.toHoldover
        else if good then d.takeFix x.time else d
      else if enter then
        if d.tbgState = tbgNone then d.lockTbg x.time else d.gateReturn x.time
      else d) = d.solTaken x := rfl

theorem exec_navSolution {s : State} (hmp : s.dev.mpRuns = true) (hnav : s.dev.clockLost 6 = false) (hspoof : s.dev.integ ifSPOOF = false) (sol : NavSol) :
    exec (.navSolution sol) s = .next { s with dev := s.dev.solTaken sol } := by
  change execNavSolution sol s = _
  unfold execNavSolution onDev
  refine congrArg (fun d => Host.Outcome.next { s with dev := d }) ?_
  refine (if_neg (by rw [hmp, hnav]; decide)).trans ?_
  extract_lets x
  have hx : x = sol := if_neg (by rw [hspoof]; decide)
  clear_value x
  subst hx
  exact s.dev.solTaken_eq x

/-- A solution while the firmware runs and no spoofing is flagged. -/
theorem navSolution_taken {s : State} (hmp : s.dev.mpRuns = true) (hnav : s.dev.clockLost 6 = false) (hspoof : s.dev.integ ifSPOOF = false) (sol : NavSol) :
    ∃ t, exec (.navSolution sol) s = .next t ∧ NavKept s t ∧ t.dev.Shows sol
      ∧ (s.dev.tbgState = tbgNone → s.dev.integ ifJUMP = false → s.dev.integ ifDRIFT = false →
        sol.fix3d = true → 4 ≤ sol.sats → sol.pdop ≤ 600 → sol.time.uncNs ≤ 100 → t.dev.tbgState = tbgLocked ∧ t.dev.tm.tbgP = sol.time.gpsNs * pU)
      ∧ (s.dev.tbgState = tbgNone → sol.fix3d = false → t.dev.tbgState = tbgNone) :=
  ⟨_, exec_navSolution hmp hnav hspoof sol, ⟨rfl, rfl, (s.dev.solTaken_sameBut sol).proj (·.drv) fun _ => rfl⟩, s.dev.solTaken_shows sol,
    fun hst hjump hdrift hfix hsats hpdop hunc => Dev.solTaken_locks hst hjump hdrift hfix hsats hpdop hunc, fun hst hfix => Dev.solTaken_none hst hfix⟩

end Sys2Proof.Machine
end

section
/-! PROOFS. The bursts in NEAP and the end of their table (R186 to R190). -/
namespace Sys2Proof.Machine

/-! A burst -/

/-- A burst of two satellites or more, after it is counted: a running TB-G steers by the median `c`. -/
def Dev.burstGood (d : Dev) (c : Int) (n : Nat) : Dev :=
  let d := (d.wr Reg.BURST_BURST_FAIL_RUN 0).wrN Reg.BURST_BURST_LAST (n + (c % 65536).toNat * 2 ^ 16)
  if d.tbgState = tbgHoldoverS then
    d.gateReturn ⟨((d.tbg : Int) + c).toNat, d.rdI Reg.CLK_XO_PPB, d.rdI Reg.CLK_TCXO_PPB, d.rdN Reg.TIME_PPS_UNC⟩
  else { d with tm := { d.tm with tbgErrP := -c * pU, burstStep := ceilDiv (c * pU).natAbs 100000000 } }

/-- A burst of fewer satellites, after it is counted. -/
def Dev.burstPoor (d : Dev) (n : Nat) : Dev :=
  let d := (d.inc Reg.BURST_BURST_FAIL_RUN).wrN Reg.BURST_BURST_LAST n
  if d.rdN Reg.BURST_BURST_FAIL_RUN = d.rdN Reg.BURST_BURST_FAIL_MAX then ((d.fault pBURST 16).irq pBURST 16).toHoldover else d

/-- What a burst makes of the part at its instant. -/
def Dev.burstDone (d : Dev) (kept : List (Int × Nat × Nat)) : Dev :=
  let d := d.inc Reg.BURST_BURST_CNT
  if kept.length ≥ 2 then d.burstGood (medianI (kept.map (·.1))) kept.length else d.burstPoor kept.length

/-- The two words of a burst's outcome. -/
def burstOutWords : List Nat := [Reg.BURST_BURST_FAIL_RUN, Reg.BURST_BURST_LAST]

/-- The outcome words after a good burst. -/
def Dev.burstShown (d : Dev) (c : Int) (n : Nat) : Dev := (d.wr Reg.BURST_BURST_FAIL_RUN 0).wrN Reg.BURST_BURST_LAST (n + (c % 65536).toNat * 2 ^ 16)

theorem Dev.burstGood_held {d : Dev} {c : Int} {n : Nat} (h : (d.burstShown c n).tbgState = tbgHoldoverS) : ∃ f, d.burstGood c n = (d.burstShown c n).gateReturn f :=
  ⟨_, if_pos h⟩

theorem Dev.burstGood_steers {d : Dev} {c : Int} {n : Nat} (h : (d.burstShown c n).tbgState ≠ tbgHoldoverS) :
    ∃ step, d.burstGood c n = { d.burstShown c n with tm := { (d.burstShown c n).tm with tbgErrP := -c * pU, burstStep := step } } := ⟨_, if_neg h⟩

theorem Dev.burstShown_rdKept (d : Dev) (c : Int) (n : Nat) : Dev.RdKept burstOutWords d (d.burstShown c n) :=
  ((Dev.RdKept.refl _ d).wr (by decide) _).wr (by decide) _

/-- The clock's answer to a good burst changes none of the burst's words. -/
theorem Dev.burstGood_rdKept (d : Dev) (c : Int) (n : Nat) : Dev.RdKept (integWords ++ returnWords) (d.burstShown c n) (d.burstGood c n) := by
  by_cases h : (d.burstShown c n).tbgState = tbgHoldoverS
  · obtain ⟨f, hf⟩ := Dev.burstGood_held h
    rw [hf]
    exact Dev.gateReturn_rdKept _ f
  · obtain ⟨step, hs⟩ := Dev.burstGood_steers h
    rw [hs]
    exact (Dev.RdKept.refl _ _).struct rfl

theorem Dev.burstGood_sameBut (d : Dev) (c : Int) (n : Nat) : Dev.SameBut forgetNav d (d.burstGood c n) := by
  have hshown : Dev.SameBut forgetNav d (d.burstShown c n) := ((Dev.SameBut.refl _ d).wr _ _).wr _ _
  by_cases h : (d.burstShown c n).tbgState = tbgHoldoverS
  · obtain ⟨f, hf⟩ := Dev.burstGood_held h
    rw [hf]
    exact hshown.trans (Dev.gateReturn_sameBut forgetNav_gps forgetNav_tm forgetNav_rcf _ f)
  · obtain ⟨step, hs⟩ := Dev.burstGood_steers h
    rw [hs]
    exact hshown.tm forgetNav_tm _

theorem Dev.burstGood_failRun (d : Dev) (c : Int) (n : Nat) : (d.burstGood c n).rd Reg.BURST_BURST_FAIL_RUN = 0#32 :=
  (d.burstGood_rdKept c n _ (by decide)).trans ((Dev.rd_wr_ne _ _ (by decide)).trans (Dev.rd_wr_same _ _ _))

/-- The number of satellites stands in the low bits of the word. -/
theorem field_burstLast (n m : Nat) : field (w32 (n + m * 2 ^ 16)) 3 0 = n % 16 := by
  simp only [field, w32, BitVec.toNat_ofNat, Nat.shiftRight_zero]
  omega

theorem Dev.burstGood_last (d : Dev) (c : Int) (n : Nat) : (d.burstGood c n).fld Reg.BURST_BURST_LAST 3 0 = n % 16 :=
  ((d.burstGood_rdKept c n).fld (by decide) 3 0).trans ((congrArg (field · 3 0) (Dev.rd_wr_same _ _ _)).trans (field_burstLast n _))

theorem Dev.burstGood_errP {d : Dev} (h : d.tbgState ≠ tbgHoldoverS) (c : Int) (n : Nat) : (d.burstGood c n).tm.tbgErrP = -c * pU := by
  obtain ⟨step, hs⟩ := Dev.burstGood_steers (d := d) (c := c) (n := n) fun hh => h (((d.burstShown_rdKept c n).fld (by decide) 1 0).symm.trans hh)
  rw [hs]

/-- The outcome words after a poor burst. -/
def Dev.burstFailed (d : Dev) (n : Nat) : Dev := (d.inc Reg.BURST_BURST_FAIL_RUN).wrN Reg.BURST_BURST_LAST n

theorem Dev.burstPoor_cases (d : Dev) (n : Nat) :
    d.burstPoor n = d.burstFailed n ∨ d.burstPoor n = (((d.burstFailed n).fault pBURST 16).irq pBURST 16).toHoldover := by
  unfold Dev.burstPoor
  extract_lets e
  split
  · exact .inr rfl
  · exact .inl rfl

theorem Dev.burstFailed_rdKept (d : Dev) (n : Nat) : Dev.RdKept burstOutWords d (d.burstFailed n) :=
  ((Dev.RdKept.refl _ d).wr (by decide) _).wr (by decide) _

/-- The words of a failed run's end. -/
def burstFailWords : List Nat := [Reg.FAULT pBURST, Reg.IRQ_RAW pBURST, Reg.TIME_TBG_STATE, Reg.IRQ_RAW pTIME, Reg.REC_SUPP_TOTAL]

theorem Dev.burstPoor_rdKept (d : Dev) (n : Nat) : Dev.RdKept burstFailWords (d.burstFailed n) (d.burstPoor n) := by
  rcases d.burstPoor_cases n with h | h <;> rw [h]
  · exact .refl _ _
  · exact (((Dev.RdKept.refl _ _).fault (by decide) (by decide) _).irq (by decide) _).trans ((Dev.toHoldover_rdKept _).mono (by decide))

theorem Dev.burstPoor_sameBut (d : Dev) (n : Nat) : Dev.SameBut forgetNav d (d.burstPoor n) := by
  have hfailed : Dev.SameBut forgetNav d (d.burstFailed n) := ((Dev.SameBut.refl _ d).wr _ _).wr _ _
  rcases d.burstPoor_cases n with h | h <;> rw [h]
  · exact hfailed
  · exact ((hfailed.fault _ _).irq _ _).trans (Dev.toHoldover_sameBut forgetNav_tm forgetNav_rcf _)

theorem Dev.burstFailed_failRun (d : Dev) (n : Nat) : (d.burstFailed n).rd Reg.BURST_BURST_FAIL_RUN = d.rd Reg.BURST_BURST_FAIL_RUN + 1#32 :=
  (Dev.rd_wr_ne _ _ (by decide)).trans (Dev.rd_wr_same _ _ _)

theorem Dev.burstPoor_failRun (d : Dev) (n : Nat) : (d.burstPoor n).rd Reg.BURST_BURST_FAIL_RUN = d.rd Reg.BURST_BURST_FAIL_RUN + 1#32 :=
  (d.burstPoor_rdKept n _ (by decide)).trans (d.burstFailed_failRun n)

theorem Dev.burstPoor_last (d : Dev) {n : Nat} (hn : n < 2) : (d.burstPoor n).rdN Reg.BURST_BURST_LAST = n :=
  (congrArg BitVec.toNat (d.burstPoor_rdKept n _ (by decide))).trans (Dev.rdN_wrN_same _ _ (by omega))

/-- A locked TB-G goes to holdover. -/
theorem Dev.toHoldover_locked {d : Dev} (h : d.tbgState = tbgLocked) : d.toHoldover.tbgState = tbgHoldoverS := by
  rw [Dev.toHoldover_of (.inl h)]
  exact Dev.setTbg_state _ (by decide)

/-- The run of poor bursts that reaches its limit (R189). -/
theorem Dev.burstPoor_ends {d : Dev} (hst : d.tbgState = tbgLocked) (hmax : d.rd Reg.BURST_BURST_FAIL_RUN + 1#32 = d.rd Reg.BURST_BURST_FAIL_MAX) (n : Nat) :
    (d.burstPoor n).tbgState = tbgHoldoverS ∧ (d.burstPoor n).bit (Reg.FAULT pBURST) 16 = true := by
  have hkept := d.burstFailed_rdKept n
  have hcount : (d.burstFailed n).rdN Reg.BURST_BURST_FAIL_RUN = (d.burstFailed n).rdN Reg.BURST_BURST_FAIL_MAX :=
    congrArg BitVec.toNat ((d.burstFailed_failRun n).trans (hmax.trans (hkept _ (by decide)).symm))
  have heq : d.burstPoor n = (((d.burstFailed n).fault pBURST 16).irq pBURST 16).toHoldover := if_pos hcount
  have hstate : (d.burstFailed n).tbgState = tbgLocked := (hkept.fld (by decide) 1 0).trans hst
  rw [heq]
  generalize d.burstFailed n = e at *
  have hfault : Dev.RdKept [Reg.FAULT pBURST, Reg.IRQ_RAW pBURST] e ((e.fault pBURST 16).irq pBURST 16) :=
    ((Dev.RdKept.refl _ e).fault (by decide) (by decide) _).irq (by decide) _
  refine ⟨Dev.toHoldover_locked ((hfault.fld (by decide) 1 0).trans hstate), ?_⟩
  have hset : ((e.fault pBURST 16).irq pBURST 16).bit (Reg.FAULT pBURST) 16 = true :=
    ((((Dev.RdKept.refl [Reg.IRQ_RAW pBURST] (e.fault pBURST 16)).irq (by decide) 16)).bit (by decide) 16).trans (Dev.bit_fault_same e pBURST (by decide))
  exact ((Dev.toHoldover_rdKept _).bit (by decide) 16).trans hset

/-! NEAP_BURST -/

theorem Dev.toTbg_burstKept (d : Dev) (n : Nat) (b : BurstResult) : (d.toTbg n).burstKept b = d.burstKept b := rfl

theorem Dev.burstDone_eq (d : Dev) (burst : BurstResult) :
    (let kept := d.burstKept burst
      let d := d.inc Reg.BURST_BURST_CNT
      if kept.length ≥ 2 then
        let c := medianI (kept.map (·.1))
        let d := (d.wr Reg.BURST_BURST_FAIL_RUN 0).wrN Reg.BURST_BURST_LAST (kept.length + (c % 65536).toNat * 2 ^ 16)
        if d.tbgState = tbgHoldoverS then
          d.gateReturn ⟨((d.tbg : Int) + c).toNat, d.rdI Reg.CLK_XO_PPB, d.rdI Reg.CLK_TCXO_PPB, d.rdN Reg.TIME_PPS_UNC⟩
        else { d with tm := { d.tm with tbgErrP := -c * pU, burstStep := ceilDiv (c * pU).natAbs 100000000 } }
      else
        let d := (d.inc Reg.BURST_BURST_FAIL_RUN).wrN Reg.BURST_BURST_LAST kept.length
        if d.rdN Reg.BURST_BURST_FAIL_RUN = d.rdN Reg.BURST_BURST_FAIL_MAX then
          ((d.fault pBURST 16).irq pBURST 16).toHoldover
        else d) = d.burstDone (d.burstKept burst) := rfl

theorem exec_neapBurst {s : State} (hpower : s.dev.powerState = 3) (hwake : s.dev.pow.wake = 0) {x : Nat} (htable : s.dev.gps.tblUntil = some x)
    (hst : s.dev.tbgState ≠ tbgNone) (burst : BurstResult) :
    ∃ n, exec (.neapBurst burst) s = .next { s with dev := (s.dev.toTbg n).burstDone (s.dev.burstKept burst) } := by
  refine ⟨s.dev.nextSecond * 1000000000, ?_⟩
  change execNeapBurst burst s = _
  unfold execNeapBurst onDev
  refine congrArg (fun d => Host.Outcome.next { s with dev := d }) ?_
  refine (if_neg (by simp [hpower, hwake, htable, hst])).trans ?_
  generalize s.dev.nextSecond * 1000000000 = n
  exact (Dev.burstDone_eq _ burst).trans (congrArg _ (s.dev.toTbg_burstKept n burst))

/-- What a burst leaves. -/
theorem Dev.burstDone_spec (d : Dev) (kept : List (Int × Nat × Nat)) :
    (d.burstDone kept).rd Reg.BURST_BURST_CNT = d.rd Reg.BURST_BURST_CNT + 1#32 ∧ Dev.SameBut forgetNav d (d.burstDone kept)
      ∧ (2 ≤ kept.length → (d.burstDone kept).rd Reg.BURST_BURST_FAIL_RUN = 0#32 ∧ (d.burstDone kept).fld Reg.BURST_BURST_LAST 3 0 = kept.length % 16
        ∧ (d.tbgState ≠ tbgHoldoverS → (d.burstDone kept).tm.tbgErrP = -medianI (kept.map (·.1)) * pU))
      ∧ (kept.length < 2 → (d.burstDone kept).rd Reg.BURST_BURST_FAIL_RUN = d.rd Reg.BURST_BURST_FAIL_RUN + 1#32
        ∧ (d.burstDone kept).rdN Reg.BURST_BURST_LAST = kept.length
        ∧ (d.tbgState = tbgLocked → d.rd Reg.BURST_BURST_FAIL_RUN + 1#32 = d.rd Reg.BURST_BURST_FAIL_MAX →
          (d.burstDone kept).tbgState = tbgHoldoverS ∧ (d.burstDone kept).bit (Reg.FAULT pBURST) 16 = true)) := by
  have hcounted : Dev.RdKept [Reg.BURST_BURST_CNT] d (d.inc Reg.BURST_BURST_CNT) := (Dev.RdKept.refl _ d).wr (by decide) _
  have hcnt : (d.inc Reg.BURST_BURST_CNT).rd Reg.BURST_BURST_CNT = d.rd Reg.BURST_BURST_CNT + 1#32 := Dev.rd_wr_same _ _ _
  have hsame : Dev.SameBut forgetNav d (d.inc Reg.BURST_BURST_CNT) := (Dev.SameBut.refl _ d).wr _ _
  have hrun := hcounted Reg.BURST_BURST_FAIL_RUN (by decide)
  have hmax := hcounted Reg.BURST_BURST_FAIL_MAX (by decide)
  have hst : (d.inc Reg.BURST_BURST_CNT).tbgState = d.tbgState := hcounted.fld (by decide) 1 0
  by_cases h : 2 ≤ kept.length
  · rw [show d.burstDone kept = (d.inc Reg.BURST_BURST_CNT).burstGood (medianI (kept.map (·.1))) kept.length from if_pos h]
    generalize d.inc Reg.BURST_BURST_CNT = e at *
    refine ⟨?_, hsame.trans (e.burstGood_sameBut _ _), fun _ => ⟨e.burstGood_failRun _ _, e.burstGood_last _ _, fun hne => ?_⟩, fun hlt => by omega⟩
    · exact (e.burstGood_rdKept _ _ _ (by decide)).trans ((e.burstShown_rdKept _ _ _ (by decide)).trans hcnt)
    · exact Dev.burstGood_errP (hst ▸ hne) _ _
  · rw [show d.burstDone kept = (d.inc Reg.BURST_BURST_CNT).burstPoor kept.length from if_neg h]
    generalize d.inc Reg.BURST_BURST_CNT = e at *
    refine ⟨?_, hsame.trans (e.burstPoor_sameBut _), fun hle => absurd hle h, fun hlt => ⟨?_, e.burstPoor_last hlt, fun hlocked hend => ?_⟩⟩
    · exact (e.burstPoor_rdKept _ _ (by decide)).trans ((e.burstFailed_rdKept _ _ (by decide)).trans hcnt)
    · exact (e.burstPoor_failRun _).trans (congrArg (· + 1#32) hrun)
    · exact Dev.burstPoor_ends (hst.trans hlocked) ((congrArg (· + 1#32) hrun).trans (hend.trans hmax.symm)) _

/-! BURST_TABLE_EXPIRY -/

/-- The burst table ended: nothing is left of it, and its end is shown. -/
def Dev.tableEnded (d : Dev) : Dev := ({ d with gps := { d.gps with tblUntil := none, table := [] } }).irq pBURST 17

theorem exec_burstTableExpiry {s : State} {x : Nat} (h : s.dev.gps.tblUntil = some x) :
    exec .burstTableExpiry s = .next { s with dev := (s.dev.toTbm x).tableEnded.toHoldover } := by
  change execBurstTableExpiry s = _
  unfold execBurstTableExpiry onDev
  refine congrArg (fun d => Host.Outcome.next { s with dev := d }) ?_
  beta_reduce
  rw [h]
  rfl

theorem Dev.tableEnded_spec (d : Dev) : d.tableEnded.toHoldover.gps.tblUntil = none ∧ d.tableEnded.toHoldover.gps.table = []
    ∧ d.tableEnded.toHoldover.tm.tbm = d.tm.tbm ∧ d.tableEnded.toHoldover.bit (Reg.IRQ_RAW pBURST) 17 = true
    ∧ (d.tbgState = tbgLocked → d.tableEnded.toHoldover.tbgState = tbgHoldoverS) ∧ Dev.SameBut forgetNav d d.tableEnded.toHoldover := by
  have hgps : d.tableEnded.toHoldover.gps = d.tableEnded.gps :=
    (Dev.toHoldover_sameBut forgetTime_tm forgetTime_rcf d.tableEnded).proj (·.gps) fun _ => rfl
  have hbit : d.tableEnded.bit (Reg.IRQ_RAW pBURST) 17 = true := Dev.bit_irq_same _ pBURST (by decide)
  have hkept : Dev.RdKept [Reg.IRQ_RAW pBURST] d d.tableEnded :=
    ((Dev.RdKept.refl _ d).struct (e' := { d with gps := { d.gps with tblUntil := none, table := [] } }) rfl).irq (by decide) 17
  have hsame : Dev.SameBut forgetNav d d.tableEnded := ((Dev.SameBut.refl _ d).gps forgetNav_gps _).irq _ _
  refine ⟨congrArg Gnss.tblUntil hgps, congrArg Gnss.table hgps, (Dev.toHoldover_bases d.tableEnded).1, ((Dev.toHoldover_rdKept _).bit (by decide) 17).trans hbit,
    fun hst => Dev.toHoldover_locked ((hkept.fld (by decide) 1 0).trans hst), hsame.trans (Dev.toHoldover_sameBut forgetNav_tm forgetNav_rcf _)⟩

/-- A burst taken in NEAP while the table stands and TB-G runs. -/
theorem neapBurst_taken {s : State} (hpower : s.dev.powerState = 3) (hwake : s.dev.pow.wake = 0) {x : Nat} (htable : s.dev.gps.tblUntil = some x)
    (hst : s.dev.tbgState ≠ tbgNone) (burst : BurstResult) :
    ∃ d : Dev, d.regs = s.dev.regs ∧ exec (.neapBurst burst) s = .next { s with dev := d.burstDone (s.dev.burstKept burst) }
      ∧ NavKept s { s with dev := d.burstDone (s.dev.burstKept burst) } := by
  obtain ⟨n, hexec⟩ := exec_neapBurst hpower hwake htable hst burst
  refine ⟨_, s.dev.toTbg_regs n, hexec, rfl, rfl, ?_⟩
  obtain ⟨-, hsame, -⟩ := (s.dev.toTbg n).burstDone_spec (s.dev.burstKept burst)
  exact (hsame.proj (·.drv) fun _ => rfl).trans (s.dev.toTbg_drv n)

theorem burstTable_ends {s : State} {x : Nat} (h : s.dev.gps.tblUntil = some x) :
    ∃ t, exec .burstTableExpiry s = .next t ∧ NavKept s t ∧ t.dev.gps.tblUntil = none ∧ t.dev.gps.table = [] ∧ x ≤ t.dev.tm.tbm
      ∧ t.dev.bit (Reg.IRQ_RAW pBURST) 17 = true ∧ (s.dev.tbgState = tbgLocked → t.dev.tbgState = tbgHoldoverS) := by
  have hexec := exec_burstTableExpiry h
  have hreach := s.dev.toTbm_reaches x
  have hdrv := s.dev.toTbm_drv x
  have hst : (s.dev.toTbm x).tbgState = s.dev.tbgState := Dev.tbgState_congr (congrArg (fun r => sget resetWord r Reg.TIME_TBG_STATE) (s.dev.toTbm_regs x))
  generalize s.dev.toTbm x = d at *
  obtain ⟨hnone, htab, htbm, hbit, hheld, hsame⟩ := d.tableEnded_spec
  exact ⟨_, hexec, ⟨rfl, rfl, (hsame.proj (·.drv) fun _ => rfl).trans hdrv⟩, hnone, htab, hreach.trans (Nat.le_of_eq htbm.symm), hbit,
    fun hlocked => hheld (hst.trans hlocked)⟩

end Sys2Proof.Machine
end

section
/-! PROOFS. The integrity check (R180 to R184): the excluded channels, the flags and the jamming test. -/
namespace Sys2Proof.Machine

/-! What the check's parts may change -/

/-- The words of the check. -/
def checkWords : List Nat := [Reg.INTEG_CH_EXCL, Reg.INTEG_CH_EXCL + 4, Reg.INTEG_CN0_SD, Reg.FAULT pINTEG] ++ integWords

theorem checkWords_outside : ∀ a ∈ checkWords, a < 0x14000 ∨ 0x1C000 ≤ a := by decide

/-- What the check may change beside registers. -/
def forgetCheck (d : Dev) : Dev := { d with gps := {}, rcf := {} }

theorem forgetCheck_gps : ForgetsGps forgetCheck := fun _ _ => rfl
theorem forgetCheck_rcf : ForgetsRcf forgetCheck := fun _ _ => rfl

/-- What of the receiver the check's parts before the jamming test keep. -/
def gnssKept (g : Gnss) : Option Nat × List (List Nat) × List Nat := (g.checkAt, g.gains, g.cn0s)

/-- A change of the check's words, of what the channels' checks hold and of the advisory flags' times. -/
structure Dev.CheckOnly (d e : Dev) : Prop where
  words : Dev.RdKept checkWords d e
  same : Dev.SameBut forgetCheck d e
  gnss : gnssKept e.gps = gnssKept d.gps
  ports : ∀ c, (e.tc c).port = (d.tc c).port

theorem Dev.CheckOnly.refl (d : Dev) : Dev.CheckOnly d d := ⟨.refl _ d, .refl _ d, rfl, fun _ => rfl⟩

theorem Dev.CheckOnly.trans {d e f : Dev} (h : Dev.CheckOnly d e) (h' : Dev.CheckOnly e f) : Dev.CheckOnly d f :=
  ⟨h.words.trans h'.words, h.same.trans h'.same, h'.gnss.trans h.gnss, fun c => (h'.ports c).trans (h.ports c)⟩

section
variable {d e : Dev} (h : Dev.CheckOnly d e)
include h

theorem Dev.CheckOnly.checkAt : e.gps.checkAt = d.gps.checkAt := congrArg (·.1) h.gnss
theorem Dev.CheckOnly.gains : e.gps.gains = d.gps.gains := congrArg (·.2.1) h.gnss
theorem Dev.CheckOnly.cn0s : e.gps.cn0s = d.gps.cn0s := congrArg (·.2.2) h.gnss

theorem Dev.CheckOnly.wr {a : Nat} (ha : a ∈ checkWords) (v : W32) : Dev.CheckOnly d (e.wr a v) := ⟨h.words.wr ha v, h.same.wr a v, h.gnss, h.ports⟩

theorem Dev.CheckOnly.modTc (c : Nat) {f : TcChan → TcChan} (hf : ∀ x, (f x).port = x.port) : Dev.CheckOnly d (e.modTc c f) := by
  refine ⟨h.words.struct rfl, h.same.gps forgetCheck_gps _, h.gnss, fun j => ?_⟩
  by_cases hj : j = c
  · rw [hj, Dev.tc_modTc_same, hf, h.ports]
  · rw [Dev.tc_modTc_ne _ _ hj, h.ports]

theorem Dev.CheckOnly.exclBit {c : Nat} (hc : c < 64) (v : Bool) : Dev.CheckOnly d (e.setMapBit Reg.INTEG_CH_EXCL c v) := by
  have hword : c / 32 = 0 ∨ c / 32 = 1 := by omega
  refine h.wr ?_ _
  rcases hword with hw | hw <;> rw [hw] <;> decide

theorem Dev.CheckOnly.setInteg {b : Nat} (hb : b < 32) (v : Bool) : Dev.CheckOnly d (e.setInteg b v) := by
  obtain ⟨-, hgps, -⟩ := e.setInteg_spec hb v
  exact h.trans ⟨(e.setInteg_rdKept b v).mono (by decide), Dev.setInteg_sameBut forgetCheck_rcf e b v, congrArg gnssKept hgps,
    fun c => congrArg (fun g : Gnss => (sget (fun _ => ({} : TcChan)) g.tc c).port) hgps⟩

/-- The advisory flags' times are no part of what is kept. -/
theorem Dev.CheckOnly.times {g : Gnss} (hg : gnssKept g = gnssKept e.gps) (htc : g.tc = e.gps.tc) : Dev.CheckOnly d { e with gps := g } :=
  ⟨h.words.struct rfl, h.same.gps forgetCheck_gps g, hg.trans h.gnss,
    fun c => (congrArg (fun m => (sget (fun _ => ({} : TcChan)) m c).port) htc).trans (h.ports c)⟩

end

/-! The channels' checks -/

theorem Dev.distortCheck_checkOnly (d : Dev) {c : Nat} (hc : c < 64) : Dev.CheckOnly d (d.distortCheck c) := by
  unfold Dev.distortCheck
  extract_lets now x e
  have he : Dev.CheckOnly d e := (Dev.CheckOnly.refl d).modTc c fun _ => rfl
  split
  · refine Dev.CheckOnly.exclBit ?_ hc _
    exact he.modTc c fun _ => rfl
  · split
    · split
      · refine Dev.CheckOnly.exclBit ?_ hc _
        exact he.modTc c fun _ => rfl
      · exact he
    · exact he

theorem Dev.ccdCheck_checkOnly (d : Dev) {c : Nat} (hc : c < 64) : Dev.CheckOnly d (d.ccdCheck c) := by
  unfold Dev.ccdCheck
  extract_lets x ranges e
  have he : Dev.CheckOnly d e := (Dev.CheckOnly.refl d).modTc c fun _ => rfl
  split
  · extract_lets change
    split
    · refine Dev.CheckOnly.exclBit ?_ hc _
      exact he.modTc c fun _ => rfl
    · exact he
  · exact he

/-- Every tracking channel checked for distortion and divergence. -/
def Dev.channelsChecked (d : Dev) : Dev := ((List.range 64).filter d.tcTracks).foldl (fun d c => (d.distortCheck c).ccdCheck c) d

theorem Dev.channelsChecked_checkOnly (d : Dev) : Dev.CheckOnly d d.channelsChecked := by
  refine foldl_related Dev.CheckOnly.refl Dev.CheckOnly.trans _ d fun c hc e => ?_
  have hlt : c < 64 := List.mem_range.mp (List.mem_of_mem_filter hc)
  exact (e.distortCheck_checkOnly hlt).trans (Dev.ccdCheck_checkOnly _ hlt)

/-! The two exclusion flags -/

/-- A channel's signal is distorted. -/
def Dev.distorted (d : Dev) : Bool := (List.range 64).any (fun c => (d.tc c).distortAt.isSome)

/-- A channel's code and carrier diverge. -/
def Dev.diverges (d : Dev) : Bool := (List.range 64).any (fun c => (d.tc c).ccd)

/-- The exclusion flags shown. -/
def Dev.exclShown (d : Dev) : Dev := (d.setInteg ifDISTORT d.distorted).setInteg ifCCD (d.setInteg ifDISTORT d.distorted).diverges

/-- Both exclusion flags show what the channels hold. -/
def Dev.ShowsExcl (d : Dev) : Prop := d.integ ifDISTORT = d.distorted ∧ d.integ ifCCD = d.diverges

theorem Dev.ShowsExcl.kept {d e : Dev} (h : d.ShowsExcl) (htc : e.gps.tc = d.gps.tc) (hflag : ∀ b ∈ [ifDISTORT, ifCCD], e.integ b = d.integ b) : e.ShowsExcl := by
  obtain ⟨hdist, hccd⟩ := h
  have hmap (f : SMap TcChan → Bool) : f e.gps.tc = f d.gps.tc := congrArg f htc
  exact ⟨(hflag _ (by decide)).trans (hdist.trans (hmap fun m => (List.range 64).any (fun c => (sget (fun _ => ({} : TcChan)) m c).distortAt.isSome)).symm),
    (hflag _ (by decide)).trans (hccd.trans (hmap fun m => (List.range 64).any (fun c => (sget (fun _ => ({} : TcChan)) m c).ccd)).symm)⟩

theorem Dev.setInteg_tc (d : Dev) {b : Nat} (hb : b < 32) (v : Bool) : (d.setInteg b v).gps.tc = d.gps.tc := congrArg Gnss.tc (d.setInteg_spec hb v).2.1

/-- A flag other than the two is no matter of theirs. -/
theorem Dev.ShowsExcl.setInteg {d : Dev} (h : d.ShowsExcl) {b : Nat} (hb : b < 32) (hne : b ∉ [ifDISTORT, ifCCD]) (v : Bool) : (d.setInteg b v).ShowsExcl := by
  refine h.kept (d.setInteg_tc hb v) fun c hc => d.setInteg_integ_ne hb ?_ (fun heq => hne (heq ▸ hc)) v
  revert c
  decide

theorem Dev.exclShown_shows (d : Dev) : d.exclShown.ShowsExcl := by
  have hdist := d.setInteg_integ (b := ifDISTORT) (by decide) d.distorted
  have htc := d.setInteg_tc (b := ifDISTORT) (by decide) d.distorted
  unfold Dev.exclShown
  generalize d.setInteg ifDISTORT d.distorted = e at *
  have htc' := e.setInteg_tc (b := ifCCD) (by decide) e.diverges
  refine ⟨?_, ?_⟩
  · refine (e.setInteg_integ_ne (by decide) (by decide) (by decide) _).trans (hdist.trans ?_)
    exact congrArg (fun m => (List.range 64).any (fun c => (sget (fun _ => ({} : TcChan)) m c).distortAt.isSome)) (htc'.trans htc).symm
  · refine (e.setInteg_integ (by decide) _).trans ?_
    exact congrArg (fun m => (List.range 64).any (fun c => (sget (fun _ => ({} : TcChan)) m c).ccd)) htc'.symm

theorem Dev.exclShown_checkOnly (d : Dev) : Dev.CheckOnly d d.exclShown := ((Dev.CheckOnly.refl d).setInteg (by decide) _).setInteg (by decide) _

/-! The advisory flags -/

theorem Dev.advisory_cases (d : Dev) (flag : Nat) (hit : Bool) (since : Option Nat) :
    (d.advisory flag hit since).1 = d ∨ ∃ v, (d.advisory flag hit since).1 = d.setInteg flag v := by
  unfold Dev.advisory
  extract_lets now
  split
  · exact .inr ⟨true, rfl⟩
  · split
    · exact .inl rfl
    · split
      · exact .inr ⟨false, rfl⟩
      · exact .inl rfl

/-- What an advisory flag leaves. -/
theorem Dev.advisory_spec (d : Dev) {flag : Nat} (hf : flag = ifFLAT ∨ flag = ifPOWER) (hit : Bool) (since : Option Nat) :
    Dev.CheckOnly d (d.advisory flag hit since).1 ∧ (d.advisory flag hit since).1.gps = d.gps
      ∧ ∀ b < 32, b ≠ flag → (d.advisory flag hit since).1.integ b = d.integ b := by
  have hlt : flag < 32 := by rcases hf with rfl | rfl <;> decide
  rcases d.advisory_cases flag hit since with h | ⟨v, h⟩ <;> rw [h]
  · exact ⟨.refl d, rfl, fun _ _ _ => rfl⟩
  · exact ⟨(Dev.CheckOnly.refl d).setInteg hlt v, (d.setInteg_spec hlt v).2.1, fun b hb hne => d.setInteg_integ_ne hlt hb hne v⟩

/-- The deviation of the carrier to noise shown. -/
def Dev.deviationShown (d : Dev) : Dev :=
  d.wrN Reg.INTEG_CN0_SD ((List.range 4).foldl (fun a p => a + min (deviationOf (d.portCn0 p)) 255 * 2 ^ (8 * p)) 0)

/-- Since when each port is flat. -/
def Dev.flatPorts (d : Dev) (now : Nat) : List (Nat × Nat) := ([0, 1, 2, 3].filter d.flatNow).map (fun p => (p, (sfind d.gps.flatSince p).getD now))

/-- The times of the flat ports noted. -/
def Dev.flatNoted (d : Dev) (since : List (Nat × Nat)) : Dev := { d with gps := { d.gps with flatSince := since } }

/-- The time of the flag of flatness noted. -/
def Dev.flatTimed (d : Dev) (pass : Option Nat) : Dev := { d with gps := { d.gps with flatPass := pass } }

/-- The flag of flatness. -/
def Dev.flatFlag (d : Dev) (now : Nat) (since : List (Nat × Nat)) : Dev :=
  let r := d.advisory ifFLAT (since.any (fun p => decide (now ≥ p.2 + 10000000000))) d.gps.flatPass
  r.1.flatTimed r.2

/-- The deviation shown, and the flag of a flat one. -/
def Dev.flatChecked (d : Dev) (now : Nat) : Dev :=
  let d := d.deviationShown
  (d.flatNoted (d.flatPorts now)).flatFlag now (d.flatPorts now)

theorem Dev.flatTimed_spec (d : Dev) (pass : Option Nat) : Dev.CheckOnly d (d.flatTimed pass) ∧ (d.ShowsExcl → (d.flatTimed pass).ShowsExcl) :=
  ⟨(Dev.CheckOnly.refl d).times rfl rfl, fun h => h.kept rfl fun _ _ => rfl⟩

theorem Dev.flatNoted_spec (d : Dev) (since : List (Nat × Nat)) : Dev.CheckOnly d (d.flatNoted since) ∧ (d.ShowsExcl → (d.flatNoted since).ShowsExcl) :=
  ⟨(Dev.CheckOnly.refl d).times rfl rfl, fun h => h.kept rfl fun _ _ => rfl⟩

theorem Dev.deviationShown_spec (d : Dev) : Dev.CheckOnly d d.deviationShown ∧ (d.ShowsExcl → d.deviationShown.ShowsExcl) := by
  obtain ⟨v, heq⟩ : ∃ v, d.deviationShown = d.wr Reg.INTEG_CN0_SD v := ⟨_, rfl⟩
  rw [heq]
  exact ⟨(Dev.CheckOnly.refl d).wr (by decide) v, fun h => h.kept (congrArg Gnss.tc (d.wr_gps Reg.INTEG_CN0_SD v)) fun b _ =>
    congrArg (bitOf · b) (Dev.rd_wr_ne d v (by decide))⟩

theorem Dev.advisory_shows (d : Dev) {flag : Nat} (hf : flag = ifFLAT ∨ flag = ifPOWER) (hit : Bool) (since : Option Nat) (h : d.ShowsExcl) :
    (d.advisory flag hit since).1.ShowsExcl := by
  obtain ⟨-, hgps, hrest⟩ := d.advisory_spec hf hit since
  refine h.kept (congrArg Gnss.tc hgps) fun b hb => ?_
  have hb' : b < 32 ∧ b ≠ ifFLAT ∧ b ≠ ifPOWER := by
    revert b
    decide
  refine hrest b hb'.1 ?_
  rcases hf with rfl | rfl
  · exact hb'.2.1
  · exact hb'.2.2

theorem Dev.flatFlag_spec (d : Dev) (now : Nat) (since : List (Nat × Nat)) :
    Dev.CheckOnly d (d.flatFlag now since) ∧ (d.ShowsExcl → (d.flatFlag now since).ShowsExcl) := by
  unfold Dev.flatFlag
  extract_lets r
  obtain ⟨honly, -⟩ := d.advisory_spec (flag := ifFLAT) (.inl rfl) (since.any (fun p => decide (now ≥ p.2 + 10000000000))) d.gps.flatPass
  obtain ⟨htimed, hshows⟩ := r.1.flatTimed_spec r.2
  exact ⟨honly.trans htimed, fun h => hshows (d.advisory_shows (.inl rfl) _ _ h)⟩

theorem Dev.flatChecked_spec (d : Dev) (now : Nat) : Dev.CheckOnly d (d.flatChecked now) ∧ (d.ShowsExcl → (d.flatChecked now).ShowsExcl) := by
  unfold Dev.flatChecked
  extract_lets e
  obtain ⟨hdev, hdevShows⟩ := d.deviationShown_spec
  obtain ⟨hnoted, hnotedShows⟩ := e.flatNoted_spec (e.flatPorts now)
  obtain ⟨hflag, hflagShows⟩ := (e.flatNoted (e.flatPorts now)).flatFlag_spec now (e.flatPorts now)
  exact ⟨(hdev.trans hnoted).trans hflag, fun h => hflagShows (hnotedShows (hdevShows h))⟩

/-! The jamming test (R184) -/

/-- Three ports' gains have fallen, and the mean carrier to noise with them. -/
def Dev.jammed (d : Dev) : Bool :=
  decide (([0, 1, 2, 3].filter (fun p => d.gps.gains ≠ [] &&
      decide (d.fld Reg.NAV_AGC_GAIN (8 * p + 7) (8 * p) + d.rdN Reg.INTEG_AGC_DROP ≤ meanOf (d.gps.gains.map (fun l => l.getD p 0))))).length ≥ 3)
    && decide (meanOf d.allCn0 + 30 ≤ if d.gps.cn0s = [] then meanOf d.allCn0 else meanOf d.gps.cn0s)

theorem Dev.gainTest_jammed (d : Dev) : d.gainTest.1 = d.jammed := rfl

theorem Dev.gainTest_notes (d : Dev) : ∃ gains cn0s, d.gainTest.2.2 = { d with gps := { d.gps with gains := gains, cn0s := cn0s } } := ⟨_, _, rfl⟩

theorem Dev.CheckOnly.tcWord {d e : Dev} (h : Dev.CheckOnly d e) {a : Nat} (hlo : 0x14000 ≤ a) (hhi : a < 0x1C000) : e.rd a = d.rd a :=
  h.words a fun hin => by
    have hout := checkWords_outside a hin
    omega

theorem Dev.portCn0_kept {d e : Dev} (h : Dev.CheckOnly d e) (p : Nat) : e.portCn0 p = d.portCn0 p := by
  have hstate (c : Nat) (hc : c < 64) : e.tcTracks c = d.tcTracks c := by
    have hs : e.tcState c = d.tcState c :=
      congrArg (field · 2 0) (h.tcWord (a := Reg.TC_STATE c) (by unfold Reg.TC_STATE; omega) (by unfold Reg.TC_STATE; omega))
    unfold Dev.tcTracks
    rw [hs]
  have hcn0 (c : Nat) (hc : c < 64) : e.rdN (Reg.TC_CN0 c) = d.rdN (Reg.TC_CN0 c) :=
    congrArg BitVec.toNat (h.tcWord (a := Reg.TC_CN0 c) (by unfold Reg.TC_CN0; omega) (by unfold Reg.TC_CN0; omega))
  unfold Dev.portCn0
  rw [List.filter_congr (q := fun c => d.tcTracks c && decide ((d.tc c).port = p)) fun c hc => by rw [hstate c (List.mem_range.mp hc), h.ports]]
  exact List.map_congr_left fun c hc => hcn0 c (List.mem_range.mp (List.mem_of_mem_filter hc))

theorem Dev.allCn0_kept {d e : Dev} (h : Dev.CheckOnly d e) : e.allCn0 = d.allCn0 := congrArg (List.flatMap · [0, 1, 2, 3]) (funext (Dev.portCn0_kept h))

/-- The parts before it change nothing that the test reads. -/
theorem Dev.jammed_kept {d e : Dev} (h : Dev.CheckOnly d e) : e.jammed = d.jammed := by
  have hgain (hi lo : Nat) : e.fld Reg.NAV_AGC_GAIN hi lo = d.fld Reg.NAV_AGC_GAIN hi lo := h.words.fld (by decide) hi lo
  have hdrop : e.rdN Reg.INTEG_AGC_DROP = d.rdN Reg.INTEG_AGC_DROP := congrArg BitVec.toNat (h.words _ (by decide))
  unfold Dev.jammed
  rw [Dev.allCn0_kept h, h.gains, h.cn0s, hdrop]
  simp only [hgain]

/-- The test shown by its flag and its fault. -/
def Dev.jamShown (d : Dev) : Dev := (if d.gainTest.1 then d.gainTest.2.2.fault pINTEG 17 else d.gainTest.2.2).setInteg ifJAM d.gainTest.1

theorem Dev.jamShown_spec (d : Dev) : d.jamShown.integ ifJAM = d.jammed ∧ (d.jammed = true → d.jamShown.bit (Reg.FAULT pINTEG) 17 = true)
    ∧ Dev.RdKept checkWords d d.jamShown ∧ Dev.SameBut forgetCheck d d.jamShown ∧ d.jamShown.gps.checkAt = d.gps.checkAt
    ∧ (d.ShowsExcl → d.jamShown.ShowsExcl) := by
  obtain ⟨gains, cn0s, hnotes⟩ := d.gainTest_notes
  unfold Dev.jamShown
  rw [hnotes, Dev.gainTest_jammed]
  set e : Dev := { d with gps := { d.gps with gains := gains, cn0s := cn0s } } with he
  have hkept : Dev.RdKept checkWords d e := (Dev.RdKept.refl _ d).struct rfl
  have hsame : Dev.SameBut forgetCheck d e := (Dev.SameBut.refl _ d).gps forgetCheck_gps _
  have hat : e.gps.checkAt = d.gps.checkAt := rfl
  have htc : e.gps.tc = d.gps.tc := rfl
  have hflags (b : Nat) : e.integ b = d.integ b := rfl
  clear_value e
  by_cases hjam : d.jammed = true
  · rw [if_pos hjam]
    have hf : Dev.RdKept [Reg.FAULT pINTEG, Reg.IRQ_RAW pINTEG] e (e.fault pINTEG 17) := (Dev.RdKept.refl _ e).fault (by decide) (by decide) _
    have hfs : Dev.SameBut forgetCheck e (e.fault pINTEG 17) := (Dev.SameBut.refl _ e).fault _ _
    have hfg : (e.fault pINTEG 17).gps = e.gps := ((Dev.SameBut.refl (fun d => d) e).fault pINTEG 17).proj (·.gps) fun _ => rfl
    have hfb := e.bit_fault_same pINTEG (b := 17) (by decide)
    generalize e.fault pINTEG 17 = f at *
    obtain ⟨hset, hgps, -⟩ := f.setInteg_spec (b := ifJAM) (by decide) d.jammed
    refine ⟨hset, fun _ => ((f.setInteg_rdKept ifJAM d.jammed).bit (by decide) 17).trans hfb,
      (hkept.trans (hf.mono (by decide))).trans ((f.setInteg_rdKept _ _).mono (by decide)), (hsame.trans hfs).trans (Dev.setInteg_sameBut forgetCheck_rcf f _ _),
      (congrArg Gnss.checkAt (hgps.trans hfg)).trans hat, fun h => ?_⟩
    have hshows : f.ShowsExcl := h.kept ((congrArg Gnss.tc hfg).trans htc) fun b _ => (hf.bit (by decide) b).trans (hflags b)
    exact hshows.setInteg (by decide) (by decide) _
  · rw [if_neg hjam]
    obtain ⟨hset, hgps, -⟩ := e.setInteg_spec (b := ifJAM) (by decide) d.jammed
    refine ⟨hset, fun h => absurd h hjam, hkept.trans ((e.setInteg_rdKept _ _).mono (by decide)), hsame.trans (Dev.setInteg_sameBut forgetCheck_rcf e _ _),
      (congrArg Gnss.checkAt hgps).trans hat, fun h => ?_⟩
    exact (h.kept htc fun b _ => hflags b).setInteg (by decide) (by decide) _

/-- The time of the flag of a fallen gain noted. -/
def Dev.powerTimed (d : Dev) (pass : Option Nat) : Dev := { d with gps := { d.gps with powerPass := pass } }

/-- The flag of a fallen gain alone. -/
def Dev.powerChecked (d : Dev) (hit : Bool) : Dev :=
  let r := d.advisory ifPOWER hit d.gps.powerPass
  r.1.powerTimed r.2

theorem Dev.powerTimed_spec (d : Dev) (pass : Option Nat) : Dev.CheckOnly d (d.powerTimed pass) ∧ (d.ShowsExcl → (d.powerTimed pass).ShowsExcl)
    ∧ (d.powerTimed pass).regs = d.regs := ⟨(Dev.CheckOnly.refl d).times rfl rfl, fun h => h.kept rfl fun _ _ => rfl, rfl⟩

theorem Dev.powerChecked_spec (d : Dev) (hit : Bool) : (d.powerChecked hit).integ ifJAM = d.integ ifJAM ∧ Dev.CheckOnly d (d.powerChecked hit)
    ∧ (d.powerChecked hit).bit (Reg.FAULT pINTEG) 17 = d.bit (Reg.FAULT pINTEG) 17 ∧ (d.ShowsExcl → (d.powerChecked hit).ShowsExcl) := by
  obtain ⟨honly, -, hrest⟩ := d.advisory_spec (flag := ifPOWER) (.inr rfl) hit d.gps.powerPass
  have hadv := d.advisory_shows (flag := ifPOWER) (.inr rfl) hit d.gps.powerPass
  have hfault : (d.advisory ifPOWER hit d.gps.powerPass).1.bit (Reg.FAULT pINTEG) 17 = d.bit (Reg.FAULT pINTEG) 17 := by
    rcases d.advisory_cases ifPOWER hit d.gps.powerPass with h | ⟨v, h⟩ <;> rw [h]
    exact (d.setInteg_rdKept ifPOWER v).bit (by decide) 17
  unfold Dev.powerChecked
  extract_lets r
  obtain ⟨htimed, hshows, hregs⟩ := r.1.powerTimed_spec r.2
  have hbit (a b : Nat) : (r.1.powerTimed r.2).bit a b = r.1.bit a b := congrArg (fun m => bitOf (sget resetWord m a) b) hregs
  exact ⟨(hbit _ _).trans (hrest _ (by decide) (by decide)), honly.trans htimed, (hbit _ _).trans hfault, fun h => hshows (hadv h)⟩

end Sys2Proof.Machine
end

section
/-! PROOFS. INTEGRITY_CHECK, and what the baselines, the solution and the check do while the firmware does not run (R149, R180 to R184). -/
namespace Sys2Proof.Machine

/-- The instant of a check noted. -/
def Dev.checkNoted (d : Dev) : Dev := { d with gps := { d.gps with checkAt := some d.tm.tbm } }

/-- The check before the jamming test. -/
def Dev.checkBegun (d : Dev) : Dev := d.checkNoted.channelsChecked.exclShown.flatChecked d.tm.tbm

/-- What a check makes of the part at its instant. -/
def Dev.checked (d : Dev) : Dev := d.checkBegun.jamShown.powerChecked d.checkBegun.gainTest.2.1

/-- What a check leaves at its instant. -/
structure Dev.Checked (d e : Dev) : Prop where
  at_ : e.gps.checkAt = some d.tm.tbm
  jam : e.integ ifJAM = d.jammed
  fault : d.jammed = true → e.bit (Reg.FAULT pINTEG) 17 = true
  excl : e.ShowsExcl
  words : Dev.RdKept checkWords d e
  same : Dev.SameBut forgetCheck d e

theorem Dev.checkNoted_jammed (d : Dev) : d.checkNoted.jammed = d.jammed := rfl

theorem Dev.checkBegun_spec (d : Dev) : Dev.CheckOnly d.checkNoted d.checkBegun ∧ d.checkBegun.ShowsExcl := by
  have hchan := d.checkNoted.channelsChecked_checkOnly
  have hexcl := d.checkNoted.channelsChecked.exclShown_checkOnly
  obtain ⟨hflat, hshows⟩ := d.checkNoted.channelsChecked.exclShown.flatChecked_spec d.tm.tbm
  exact ⟨(hchan.trans hexcl).trans hflat, hshows (Dev.exclShown_shows _)⟩

theorem Dev.checkNoted_at (d : Dev) : d.checkNoted.gps.checkAt = some d.tm.tbm := rfl
theorem Dev.checkNoted_rdKept (d : Dev) : Dev.RdKept checkWords d d.checkNoted := (Dev.RdKept.refl _ d).struct rfl
theorem Dev.checkNoted_sameBut (d : Dev) : Dev.SameBut forgetCheck d d.checkNoted := (Dev.SameBut.refl _ d).gps forgetCheck_gps _

theorem Dev.checked_checked (d : Dev) : Dev.Checked d d.checked := by
  obtain ⟨hbegun, hexcl⟩ := d.checkBegun_spec
  have hat := hbegun.checkAt.trans d.checkNoted_at
  have hjam : d.checkBegun.jammed = d.jammed := (Dev.jammed_kept hbegun).trans d.checkNoted_jammed
  have hwords₀ := d.checkNoted_rdKept.trans hbegun.words
  have hsame₀ := d.checkNoted_sameBut.trans hbegun.same
  have heq : d.checked = d.checkBegun.jamShown.powerChecked d.checkBegun.gainTest.2.1 := rfl
  rw [heq]
  clear heq hbegun
  generalize d.checkBegun = e at *
  obtain ⟨hflag, hfault, hwords, hsame, hat', hshows⟩ := e.jamShown_spec
  obtain ⟨hflag', honly, hfault', hshows'⟩ := e.jamShown.powerChecked_spec e.gainTest.2.1
  exact {
    at_ := honly.checkAt.trans (hat'.trans hat)
    jam := hflag'.trans (hflag.trans hjam)
    fault := fun h => hfault'.trans (hfault (hjam.trans h))
    excl := hshows' (hshows hexcl)
    words := (hwords₀.trans hwords).trans honly.words
    same := (hsame₀.trans hsame).trans honly.same }

/-- The part at the instant of the next check. -/
def Dev.checkStart (d : Dev) : Dev := match d.gps.checkAt with | some t => d.toTbm (t + 1000000000) | none => d

theorem Dev.toTbm_jammed (d : Dev) (n : Nat) : (d.toTbm n).jammed = d.jammed := rfl

theorem Dev.checkStart_cases (d : Dev) : (d.gps.checkAt = none ∧ d.checkStart = d) ∨ ∃ t, d.gps.checkAt = some t ∧ d.checkStart = d.toTbm (t + 1000000000) := by
  unfold Dev.checkStart
  split
  · next t h => exact .inr ⟨t, h, rfl⟩
  · next h => exact .inl ⟨h, rfl⟩

theorem Dev.checkStart_spec (d : Dev) : d.checkStart.jammed = d.jammed ∧ d.checkStart.drv = d.drv ∧ d.checkStart.powerState = d.powerState
    ∧ ∀ x, d.gps.checkAt = some x → x + 1000000000 ≤ d.checkStart.tm.tbm := by
  rcases d.checkStart_cases with ⟨hnone, h⟩ | ⟨t, hsome, h⟩ <;> rw [h]
  · exact ⟨rfl, rfl, rfl, fun x hx => by simp [hnone] at hx⟩
  · refine ⟨d.toTbm_jammed _, d.toTbm_drv _, congrArg (fun r => field (sget resetWord r Reg.PWR_PWR_STATE) 2 0) (d.toTbm_regs _), fun x hx => ?_⟩
    obtain rfl : t = x := Option.some.inj (hsome.symm.trans hx)
    exact d.toTbm_reaches _

theorem exec_integrityCheck {s : State} (hmp : s.dev.mpRuns = true) (hnav : s.dev.clockLost 6 = false) (lag : Nat) :
    exec (.integrityCheck lag) s = .next { s with dev := s.dev.checkStart.checked.advance (lag / 10) } := by
  change execIntegrityCheck lag s = _
  unfold execIntegrityCheck onDev
  refine congrArg (fun d => Host.Outcome.next { s with dev := d }) ?_
  refine (if_neg (by rw [hmp, hnav]; decide)).trans ?_
  extract_lets d now s₁ a b c e v since s₂ f r s₃ s₄ k g m n r' s₅ s₆
  have hd : d = s.dev.checkStart := rfl
  clear_value d
  have hb : b = d.checkNoted.channelsChecked := rfl
  clear_value b
  have he : e = b.exclShown := rfl
  clear_value c e
  have hv : v = e.deviationShown := rfl
  clear_value v
  have hsince : since = v.flatPorts d.tm.tbm := rfl
  clear_value since
  have hf : f = v.flatNoted since := rfl
  clear_value f
  have hk : k = f.flatFlag d.tm.tbm since := rfl
  clear_value k
  have hn : n = k.jamShown := rfl
  clear_value m n
  have hend : n.powerChecked k.gainTest.2.1 = d.checked := by
    rw [hn, hk, hf, hsince, hv, he, hb]
    rfl
  rw [← hd]
  exact congrArg (Dev.advance · (lag / 10)) hend

/-- The channels' and flags' state at the end of the check's own time. -/
theorem Dev.advance_shows {d : Dev} (h : d.ShowsExcl) (n : Nat) : (d.advance n).ShowsExcl := h.kept rfl fun _ _ => rfl

theorem Dev.advance_bit (d : Dev) (n a b : Nat) : (d.advance n).bit a b = d.bit a b := rfl
theorem Dev.advance_checkAt (d : Dev) (n : Nat) : (d.advance n).gps.checkAt = d.gps.checkAt := rfl

theorem powerState_of_mpRuns {d : Dev} (h : d.mpRuns = true) : d.powerState ≤ 1 := by
  unfold Dev.mpRuns at h
  rw [Bool.and_eq_true, decide_eq_true_eq, decide_eq_true_eq] at h
  exact h.2

/-- What a check leaves after its own time `lag`. -/
structure CheckTaken (lag : Nat) (s t : State) : Prop where
  kept : NavKept s t
  at_ : t.dev.gps.checkAt = some (t.dev.tm.tbm - lag / 10 * 10)
  reach : ∀ x, s.dev.gps.checkAt = some x → x + 1000000000 + lag / 10 * 10 ≤ t.dev.tm.tbm
  jam : t.dev.integ ifJAM = s.dev.jammed
  excl : t.dev.ShowsExcl
  fault : s.dev.jammed = true → t.dev.bit (Reg.FAULT pINTEG) 17 = true

theorem integrityCheck_taken {s : State} (hmp : s.dev.mpRuns = true) (hnav : s.dev.clockLost 6 = false) (lag : Nat) :
    ∃ t, exec (.integrityCheck lag) s = .next t ∧ CheckTaken lag s t := by
  refine ⟨_, exec_integrityCheck hmp hnav lag, ?_⟩
  obtain ⟨hjam, hdrv, hpower, hreach⟩ := s.dev.checkStart_spec
  generalize s.dev.checkStart = d at *
  have hchecked := d.checked_checked
  generalize d.checked = e at *
  have htm : e.tm = d.tm := hchecked.same.proj (·.tm) fun _ => rfl
  have hlow : e.powerState ≤ 1 := (hchecked.words.fld (by decide) 2 0).le.trans (hpower.le.trans (powerState_of_mpRuns hmp))
  have htbm : (e.advance (lag / 10)).tm.tbm = d.tm.tbm + 10 * (lag / 10) :=
    (congrArg TimeBases.tbm (Dev.advance_running hlow (lag / 10))).trans (congrArg (fun m : TimeBases => m.tbm + 10 * (lag / 10)) htm)
  have hdrv' : e.drv = s.dev.drv := (hchecked.same.proj (·.drv) fun _ => rfl).trans hdrv
  have hreach' : ∀ x, s.dev.gps.checkAt = some x → x + 1000000000 + lag / 10 * 10 ≤ d.tm.tbm + 10 * (lag / 10) := fun x hx => by
    have hx' := hreach x hx
    omega
  have hat : some d.tm.tbm = some (d.tm.tbm + 10 * (lag / 10) - lag / 10 * 10) := congrArg some (by omega)
  exact {
    kept := ⟨rfl, rfl, (e.advance_drv _).trans hdrv'⟩
    at_ := (e.advance_checkAt _).trans (hchecked.at_.trans (hat.trans (congrArg (fun m => some (m - lag / 10 * 10)) htbm.symm)))
    reach := fun x hx => (hreach' x hx).trans htbm.symm.le
    jam := (e.advance_bit _ _ _).trans (hchecked.jam.trans hjam)
    excl := Dev.advance_shows hchecked.excl _
    fault := fun h => (e.advance_bit _ _ _).trans (hchecked.fault (hjam.trans h)) }

/-! While the firmware does not run -/

theorem nav_idle {s : State} (h : s.dev.mpRuns = false ∨ s.dev.clockLost 6 = true) (snap : BaselineSet) (sol : NavSol) (lag : Nat) :
    exec (.baselineSnapshot snap) s = .next s ∧ exec (.navSolution sol) s = .next s ∧ exec (.integrityCheck lag) s = .next s := by
  have hidle : (!s.dev.mpRuns || s.dev.clockLost 6) = true := by
    rcases h with h | h <;> rw [h]
    · rfl
    · exact Bool.or_true _
  refine ⟨?_, ?_, ?_⟩
  · change execBaselineSnapshot snap s = _
    unfold execBaselineSnapshot onDev
    exact congrArg (fun d => Host.Outcome.next { s with dev := d }) (if_pos hidle)
  · change execNavSolution sol s = _
    unfold execNavSolution onDev
    exact congrArg (fun d => Host.Outcome.next { s with dev := d }) (if_pos hidle)
  · change execIntegrityCheck lag s = _
    unfold execIntegrityCheck onDev
    exact congrArg (fun d => Host.Outcome.next { s with dev := d }) (if_pos hidle)

/-- Settles O38. -/
theorem navigationAndIntegrity : Obligations.NavigationAndIntegrity := by
  unfold Obligations.NavigationAndIntegrity
  intro req snap sol burst x lag g s
  refine ⟨fun h => nav_idle h snap sol lag, fun ⟨hmp, hnav⟩ => ?_, fun ⟨hmp, hnav⟩ hspoof => ?_, fun ⟨hmp, hnav⟩ => ?_,
    fun hg hsound hnav => clkGateRelease_opens hg hsound hnav, fun h hg => ?_, fun h => ?_, fun hpower hwake htable hst => ?_, fun h => burstTable_ends h⟩
  · obtain ⟨t, hexec, hsnap⟩ := baselineSnapshot_taken hmp hnav snap
    exact ⟨t, hexec, hsnap.kept, hsnap.last, hsnap.reach, fun hoff k h1 h3 => hsnap.off hoff k (by simp; omega), hsnap.regs⟩
  · obtain ⟨t, hexec, hkept, hshows, hlocks, hnone⟩ := navSolution_taken hmp hnav hspoof sol
    exact ⟨t, hexec, hkept, hshows.status, hshows.position, hlocks, hnone⟩
  · obtain ⟨t, hexec, hcheck⟩ := integrityCheck_taken hmp hnav lag
    obtain ⟨hdist, hccd⟩ := hcheck.excl
    exact ⟨t, hexec, hcheck.kept, hcheck.at_, hcheck.reach x, hcheck.jam, hdist, hccd, hcheck.fault⟩
  · obtain ⟨t, hcmd, hans, hkept, hgated, hflag⟩ := acceptClock_opens h hg
    exact ⟨t, congrArg Host.Outcome.next hcmd, hans, hkept, hgated, hflag⟩
  · obtain ⟨t, hcmd, hans, hkept, hflat, hpower, hrest⟩ := clearAdvisory_clears h
    exact ⟨t, congrArg Host.Outcome.next hcmd, hans, hkept, hflat, hpower, hrest⟩
  · obtain ⟨d, hregs, hexec, hkept⟩ := neapBurst_taken hpower hwake htable hst burst
    have hrd (a : Nat) : d.rd a = s.dev.rd a := congrArg (fun r => sget resetWord r a) hregs
    obtain ⟨hcnt, -, hgood, hpoor⟩ := d.burstDone_spec (s.dev.burstKept burst)
    refine ⟨_, hexec, hkept, hcnt.trans (congrArg (· + 1#32) (hrd _)), fun hn => ?_, fun hn => ?_⟩
    · obtain ⟨hrun, hlast, herr⟩ := hgood hn
      exact ⟨hrun, hlast, fun hne => herr ((Dev.tbgState_congr (hrd _)).trans_ne hne)⟩
    · obtain ⟨hrun, hlast, hends⟩ := hpoor hn
      refine ⟨hrun.trans (congrArg (· + 1#32) (hrd _)), hlast, fun hlocked hmax => hends ((Dev.tbgState_congr (hrd _)).trans hlocked) ?_⟩
      rw [hrd, hrd]
      exact hmax

end Sys2Proof.Machine
end
